-- ==== Sys2Proof/Word.lean ====
section
/-! DEFINITION. The words the manual treats as bits (spec/00_scope.md, "Numbers, bits and bytes"), and the
index types of the things the device has a fixed number of (spec/01_architecture.md, R48). -/

namespace Sys2Proof

/-- A byte. -/
abbrev Byte := BitVec 8
/-- A control register (R10). -/
abbrev Word := BitVec 32
/-- A memory word (R96, R571). -/
abbrev DWord := BitVec 64

/-- `n` zero bytes. -/
def zeros (n : Nat) : List Byte := List.replicate n 0

/-- A warden core (hart), R15. -/
abbrev Hart := Fin 4
/-- An upstream boot port UPn. -/
abbrev Port := Fin 8
/-- A flash bus FBm. -/
abbrev Bus := Fin 16
/-- A flash device F = bus × 4 + chip select. -/
abbrev Dev := Fin 64
/-- A boot domain BDn. -/
abbrev Bd := Fin 16
/-- A CXL logical device LDn. -/
abbrev Ld := Fin 16
/-- A mailbox channel. -/
abbrev Chan := Fin 128
/-- An I3C management port M0 or M1. -/
abbrev Mport := Fin 2
/-- A card slot K0–K3. -/
abbrev Slot := Fin 4
/-- A digest context number. -/
abbrev Ctx := Fin 4096
/-- A digest lane. -/
abbrev Lane := Fin 16
/-- A signature unit: 0 and 1 verify, 2 signs and generates keys. -/
abbrev Unit3 := Fin 3
/-- A GPIO. -/
abbrev Gpio := Fin 16
/-- A watermark. -/
abbrev Wmk := Fin 32
/-- A tamper sensor. -/
abbrev Sensor := Fin 15
/-- A key vault slot. -/
abbrev KvSlot := Fin 256

end Sys2Proof
end

