-- ==== Sys2Proof/Syntax.lean ====
section
/-! DEFINITION. The commands of the block, one constructor for each row of spec/opcode_table.json, with the values each
carries from outside (notes/assumptions/2.md). -/

namespace Sys2Proof

/-- What a device's SFDP says (R192): opcodes of its 4, 32 and 64 KiB erases for the
address length in use (0xFF: not offered), size in bytes, page
size, address bytes, dummy cycles of the bus Mode's fast read where it has one, whether it advertises a flag status
register, and whether it has the sequence that switches the device into the bus Mode. -/
structure SfdpData where
  eraseOps : Nat × Nat × Nat
  bytes : Nat
  pageSize : Nat
  addrBytes : Nat
  dummy : Option Nat
  flagStatus : Bool
  modeSeq : Bool
  deriving DecidableEq, Repr, Inhabited

/-- What a flash device answers to discovery (R191, R192): WIP clear within the limit, its ID bytes, its SFDP (none where
it is absent or invalid), and the ID bytes read again in the bus Mode. -/
structure Discovery where
  wipClear : Bool
  id : List Byte
  sfdp : Option SfdpData
  idAgain : List Byte
  deriving DecidableEq, Repr, Inhabited

/-- An SPDM requester (R463): transport AID, and source EID on MCTP. -/
structure Peer where
  transport : Nat
  eid : Nat
  deriving DecidableEq, Repr, Inhabited

/-- An MCTP packet as received (R493): addresses, tag, start and end of message, sequence number, whether its PEC is
right, and its payload, whose first byte is the message type in a start packet. -/
structure McPacket where
  src : Nat
  dest : Nat
  tag : Nat
  som : Bool
  eom : Bool
  seq : Nat
  pecOk : Bool
  payload : List Byte
  deriving DecidableEq, Repr, Inhabited

/-- A card as inserted (R501–R504): what it answers to identification (0 never ready, 1 MMC, 2 SD, 3 voltage excluded,
4 CMD2 or CMD9 unanswered), its capacity class and speed, its CSD protect bits, whether another card answers the check
CMD2, its blocks that are not zero by number, the blocks whose transfer keeps failing, how often the read-back of an export
slot fails as slot and times (R514), the export slot during whose writing the card is pulled (R508), and which verify jobs of
a bundle on it meet an engine fault (R384; bit 0 the key manifest's, bit 1 the manifest's). -/
structure Card where
  kind : Nat
  rca : Nat
  highCap : Bool
  highSpeed : Bool
  permWp : Bool
  tmpWp : Bool
  secondAnswer : Bool
  blockCount : Nat
  blocks : List (Nat × List Byte)
  badBlocks : List Nat
  rereads : List (Nat × Nat)
  pulled : Option Nat
  fault : Nat
  deriving DecidableEq, Repr, Inhabited

/-- Who writes a ticket booth register (R544): the JTAG BOOTH instruction, or a hart. -/
inductive BoothSrc where
  | booth
  | hart (h : Hart)
  deriving DecidableEq, Repr, Inhabited

/-- A DMI operation (R538): halt, resume or step a hart, read or write its registers or memory, run its program buffer,
set halt-on-reset. -/
inductive DmiOp where
  | halt (h : Hart)
  | resume (h : Hart)
  | step (h : Hart) (on : Bool)
  | readReg (h : Hart) (no : Nat) (value : Word)
  | writeReg (h : Hart) (no : Nat) (value : Word)
  | readMem (h : Hart) (addr : Nat)
  | writeMem (h : Hart) (addr : Nat) (value : Word)
  | program (h : Hart)
  | haltOnReset (on : Bool)
  deriving DecidableEq, Repr, Inhabited

/-- Size of an access. -/
inductive Size where
  | byte
  | half
  | word
  | dword
  deriving DecidableEq, Repr, Inhabited

/-- Bytes of an access. -/
def Size.bytes : Size → Nat
  | .byte => 1
  | .half => 2
  | .word => 4
  | .dword => 8

/-- Where a register or memory is accessed (R87, R101, R435): at an internal address by a hart; in BAR0, or in the
configuration space, at an offset by the host of an LD, or through the switch for the FM-owned LD (none). -/
inductive Space where
  | hart (h : Hart)
  | page (who : Option Ld)
  | config (who : Option Ld)
  deriving DecidableEq, Repr, Inhabited

/-- The commands: one constructor for each row of spec/opcode_table.json. -/
inductive Instr where
  /-- VSTBY_POWER_ON (R60). -/
  | vstbyPowerOn (vbat : Bool) (strap : Bool)
  /-- XTAL_STABLE (R60). -/
  | xtalStable
  /-- MAIN_PG_ASSERT (R60). -/
  | mainPgAssert
  /-- MAIN_PG_DEASSERT (R62). -/
  | mainPgDeassert
  /-- MAIN_RAIL_LOSS (R63). -/
  | mainRailLoss (mv : Nat) (ticks : Nat)
  /-- VCORE_LOW_EXCURSION (R59). -/
  | vcoreLowExcursion (mv : Nat)
  /-- VCORE_BROWN_OUT (R59). -/
  | vcoreBrownOut (mv : Nat) (ticks : Nat)
  /-- VSTBY_FALL (R64). -/
  | vstbyFall (vbat : Bool)
  /-- VBAT_LEVEL_CHANGE (R65). -/
  | vbatLevelChange (ok : Bool)
  /-- RECOVER_FILTER_ASSERT (R68). -/
  | recoverFilterAssert
  /-- RECOVER_FILTER_DEASSERT (R69). -/
  | recoverFilterDeassert (ticks : Nat)
  /-- RECOVER_SETTLED (R68). -/
  | recoverSettled
  /-- JUNCTION_WARNING (R85). -/
  | junctionWarning (temp : Nat)
  /-- JUNCTION_TRIP (R85). -/
  | junctionTrip (temp : Nat)
  /-- TEST_EN_FALL (R535). -/
  | testEnFall
  /-- GPIO_INPUT_CHANGE (R133). -/
  | gpioInputChange (g : Gpio) (level : Bool)
  /-- OPERATING_TIME_TICK (R414). -/
  | operatingTimeTick
  /-- CORE_RESET (R564). -/
  | coreReset (h : Hart)
  /-- WATCHDOG_EXPIRY (R567). -/
  | watchdogExpiry
  /-- WATCHDOG_KICK (R567). -/
  | watchdogKick (h : Hart) (v : Word)
  /-- RELEASE_HARTS (R352). -/
  | releaseHarts (h : Hart)
  /-- HART_READY (R352). -/
  | hartReady (h : Hart)
  /-- DECKLE_LOCK (R359). -/
  | deckleLock (h : Hart)
  /-- HANDOVER (R352). -/
  | handover (h : Hart)
  /-- MARK_CLEAN (R365). -/
  | markClean (h : Hart)
  /-- FW_DATA_WRITE (R372). -/
  | fwDataWrite (h : Hart) (v : Word)
  /-- WATERMARK_EXTEND (R361). -/
  | watermarkExtend (h : Hart) (n : Wmk)
  /-- COUCH_OPEN (R144). -/
  | couchOpen (h : Hart) (requester : Nat)
  /-- COUCH_APPEND (R144). -/
  | couchAppend (h : Hart)
  /-- SI_CONTENT_CHECK_DONE (R153). -/
  | siContentCheckDone
  /-- COUCH_CHECK (R154). -/
  | couchCheck (h : Hart)
  /-- COUCH_CHECK_DONE (R154). -/
  | couchCheckDone
  /-- COUCH_COMMIT (R156). -/
  | couchCommit (h : Hart)
  /-- COUCH_DRAIN_DONE (R156). -/
  | couchDrainDone
  /-- COUCH_DRAIN_LIMIT_EXPIRY (R157). -/
  | couchDrainLimitExpiry
  /-- SI_COPY_DONE (R158). -/
  | siCopyDone
  /-- COUCH_ABORT (R144). -/
  | couchAbort (h : Hart)
  /-- COUCH_RELEASE (R144). -/
  | couchRelease (h : Hart)
  /-- RESTORE (R164). -/
  | restore (h : Hart)
  /-- COUCH_UNDEFINED_COMMAND (R144). -/
  | couchUndefinedCommand (h : Hart) (code : Nat)
  /-- SIP_DATA_WRITE (R153). -/
  | sipDataWrite (h : Hart) (v : Word)
  /-- READ_ID (R171). -/
  | readId (p : Port) (n : Nat) (khz : Nat)
  /-- READ_SFDP (R178). -/
  | readSfdp (p : Port) (addr : Nat) (n : Nat) (khz : Nat)
  /-- READ_STATUS (R177). -/
  | readStatus (p : Port) (n : Nat) (khz : Nat)
  /-- READ_FLAG_STATUS (R177). -/
  | readFlagStatus (p : Port) (n : Nat) (khz : Nat)
  /-- CLEAR_FLAG_STATUS (R171). -/
  | clearFlagStatus (p : Port) (khz : Nat)
  /-- WRITE_ENABLE (R177). -/
  | writeEnable (p : Port) (khz : Nat)
  /-- WRITE_DISABLE (R177). -/
  | writeDisable (p : Port) (khz : Nat)
  /-- READ (R173). -/
  | read (p : Port) (four : Bool) (addr : Nat) (n : Nat) (khz : Nat) (late : Nat)
  /-- FAST_READ (R168). -/
  | fastRead (p : Port) (four : Bool) (addr : Nat) (n : Nat) (khz : Nat) (late : Nat)
  /-- FAST_READ_QUAD_OUTPUT (R168). -/
  | fastReadQuadOutput (p : Port) (four : Bool) (addr : Nat) (n : Nat) (khz : Nat) (late : Nat)
  /-- FAST_READ_QUAD_IO (R168). -/
  | fastReadQuadIo (p : Port) (four : Bool) (addr : Nat) (n : Nat) (khz : Nat) (late : Nat)
  /-- OCTAL_DDR_READ (R174). -/
  | octalDdrRead (p : Port) (addr : Nat) (n : Nat) (khz : Nat)
  /-- PRESENTED_READ_RESUME (R174). -/
  | presentedReadResume (p : Port) (ended : Bool)
  /-- PAGE_PROGRAM (R181). -/
  | pageProgram (p : Port) (four : Bool) (addr : Nat) (data : List Byte) (khz : Nat)
  /-- ERASE_4K (R181). -/
  | erase4k (p : Port) (four : Bool) (addr : Nat) (khz : Nat)
  /-- ERASE_32K (R181). -/
  | erase32k (p : Port) (four : Bool) (addr : Nat) (khz : Nat)
  /-- ERASE_64K (R181). -/
  | erase64k (p : Port) (four : Bool) (addr : Nat) (khz : Nat)
  /-- RESET_ENABLE (R171). -/
  | resetEnable (p : Port) (khz : Nat)
  /-- RESET (R187). -/
  | reset (p : Port) (khz : Nat)
  /-- UNDEFINED_OPCODE (R172). -/
  | undefinedOpcode (p : Port) (op : Nat) (khz : Nat)
  /-- CS_RAISED_EARLY (R188). -/
  | csRaisedEarly (p : Port) (op : Nat) (khz : Nat) (addr : Option Nat)
  /-- UP_RESET_ASSERT (R187). -/
  | upResetAssert (p : Port)
  /-- ESPI_FLASH_READ (R185). -/
  | espiFlashRead (p : Port) (addr : Nat) (n : Nat) (khz : Nat)
  /-- ESPI_FLASH_WRITE (R185). -/
  | espiFlashWrite (p : Port) (addr : Nat) (data : List Byte) (khz : Nat)
  /-- ESPI_FLASH_ERASE (R185). -/
  | espiFlashErase (p : Port) (addr : Nat) (khz : Nat)
  /-- ESPI_PERIPHERAL_REQUEST (R184). -/
  | espiPeripheralRequest (p : Port) (khz : Nat)
  /-- ESPI_UNDEFINED_COMMAND (R184). -/
  | espiUndefinedCommand (p : Port) (op : Nat) (khz : Nat)
  /-- ESPI_CRC_ERROR (R185). -/
  | espiCrcError (p : Port) (op : Nat) (khz : Nat)
  /-- DEFERRED_COMPLETION_READY (R186). -/
  | deferredCompletionReady (p : Port)
  /-- ESPI_COMPLETION_FETCH (R186). -/
  | espiCompletionFetch (p : Port) (khz : Nat)
  /-- ESPI_IN_BAND_RESET (R187). -/
  | espiInBandReset (p : Port) (khz : Nat)
  /-- TURNSTILE_DECIDE (R210). -/
  | turnstileDecide (f : Dev)
  /-- HOLD_LIMIT_EXPIRY (R218). -/
  | holdLimitExpiry (f : Dev) (held : Nat) (ticks : Nat)
  /-- TURNSTILE_RESTART_DONE (R229). -/
  | turnstileRestartDone (f : Dev) (ticks : Nat)
  /-- FLASH_COMMAND_DONE (R256). -/
  | flashCommandDone (f : Dev) (result : Nat) (data : List Byte)
  /-- FLASH_STATUS_POLL (R194). -/
  | flashStatusPoll (f : Dev) (ready : Bool)
  /-- FLASH_BUSY_END (R194). -/
  | flashBusyEnd (f : Dev) (failed : Bool)
  /-- FLASH_POLL_TIMEOUT (R195). -/
  | flashPollTimeout (f : Dev)
  /-- DEVICE_RESET_PULSE_END (R195). -/
  | deviceResetPulseEnd (f : Dev)
  /-- DISCOVERY_RESET_RECOVERY_END (R191). -/
  | discoveryResetRecoveryEnd (f : Dev) (answer : Discovery)
  /-- DQS_TIMEOUT (R198). -/
  | dqsTimeout (f : Dev)
  /-- BUS_CONTENTION_DETECTED (R199). -/
  | busContentionDetected (m : Bus) (lines : Nat)
  /-- REQUALIFY (R201). -/
  | requalify (h : Hart) (m : Bus)
  /-- REQUALIFY_SAMPLE_END (R201). -/
  | requalifySampleEnd (m : Bus) (clean : Bool) (lines : Nat)
  /-- DEV_RESET (R200). -/
  | devReset (h : Hart) (m : Bus) (mask : Nat)
  /-- BUS_CONTROLLER_RESTART_DONE (R202). -/
  | busControllerRestartDone (m : Bus) (ticks : Nat)
  /-- SERVE_START (R390). -/
  | serveStart (h : Hart) (bd : Bd) (v : Word)
  /-- SERVE_REJECT (R393). -/
  | serveReject (h : Hart) (bd : Bd) (v : Word)
  /-- WAITING_DOMAIN_START (R243). -/
  | waitingDomainStart (bd : Bd)
  /-- SERVING_READ_COMPLETE (R240). -/
  | servingReadComplete (bd : Bd) (image : Nat) (result : Nat) (data : List Byte)
  /-- STREAM_IDLE_EXPIRY (R242). -/
  | streamIdleExpiry (bd : Bd) (image : Nat)
  /-- BD_REBOOT (R238). -/
  | bdReboot (h : Hart) (bd : Bd)
  /-- GATE_DELAY_EXPIRY (R248). -/
  | gateDelayExpiry (bd : Bd)
  /-- GATE_HOLD_DELAY_EXPIRY (R251). -/
  | gateHoldDelayExpiry (bd : Bd)
  /-- PATROL_SCRUB_STEP (R573). -/
  | patrolScrubStep (region : Nat) (word : Nat) (syndrome : Nat)
  /-- FQ_SUBMIT (R255). -/
  | fqSubmit (h : Hart) (v : Word)
  /-- FQ_RESULT_POP (R256). -/
  | fqResultPop (h : Hart)
  /-- DEVICE_RETIRE (R261). -/
  | deviceRetire (h : Hart) (f : Dev)
  /-- DEVICE_PROBE (R263). -/
  | deviceProbe (h : Hart) (f : Dev)
  /-- DEVICE_RESYNC (R258). -/
  | deviceResync (h : Hart) (f : Dev)
  /-- RESYNC_COMPLETE (R258). -/
  | resyncComplete (f : Dev)
  /-- END_PROBE (R263). -/
  | endProbe (h : Hart) (f : Dev)
  /-- DG_OPEN (R278). -/
  | dgOpen (h : Hart)
  /-- DG_PREFIX (R272). -/
  | dgPrefix (h : Hart) (c : Ctx)
  /-- DG_BEGIN (R273). -/
  | dgBegin (h : Hart) (c : Ctx)
  /-- DG_FEED (R278). -/
  | dgFeed (h : Hart) (c : Ctx)
  /-- DG_FEED_COMPLETE (R285). -/
  | dgFeedComplete (h : Hart)
  /-- DG_BIND (R280). -/
  | dgBind (h : Hart) (c : Ctx)
  /-- DG_CLOSE (R286). -/
  | dgClose (h : Hart) (c : Ctx)
  /-- DG_FREE (R270). -/
  | dgFree (h : Hart) (c : Ctx)
  /-- DG_CMP_ARM (R293). -/
  | dgCmpArm (h : Hart) (c : Ctx)
  /-- DG_CMP_FREE (R293). -/
  | dgCmpFree (h : Hart) (e : Nat)
  /-- DG_UNDEFINED_COMMAND (R278). -/
  | dgUndefinedCommand (h : Hart) (code : Nat)
  /-- TAP_BURST (R281). -/
  | tapBurst (c : Ctx) (offset : Nat) (data : List Byte)
  /-- LANE_BLOCK_ABSORBED (R289). -/
  | laneBlockAbsorbed (l : Lane)
  /-- CONTEXT_SQUEEZE_DONE (R296). -/
  | contextSqueezeDone (c : Ctx)
  /-- LANE_FAULT (R298). -/
  | laneFault (l : Lane) (c : Ctx) (ecc : Bool)
  /-- LANE_SELF_TEST_DONE (R298). -/
  | laneSelfTestDone (l : Lane) (passed : Bool)
  /-- DIGEST_ENGINE_RESTART_DONE (R299). -/
  | digestEngineRestartDone
  /-- SG_SUBMIT (R311). -/
  | sgSubmit (h : Hart) (v : Word)
  /-- SG_JOB_COMPLETE (R316). -/
  | sgJobComplete (u : Unit3) (fault : Nat)
  /-- SG_RESULT_POP (R313). -/
  | sgResultPop (h : Hart)
  /-- SG_UNIT_FAULT (R318). -/
  | sgUnitFault (u : Unit3)
  /-- SG_UNIT_SELF_TEST_DONE (R318). -/
  | sgUnitSelfTestDone (u : Unit3) (passed : Bool)
  /-- SG_ENGINE_RESTART_DONE (R318). -/
  | sgEngineRestartDone
  /-- KV_RESERVE (R331). -/
  | kvReserve (h : Hart) (k : KvSlot)
  /-- KV_CLEAR (R331). -/
  | kvClear (h : Hart) (k : KvSlot)
  /-- KV_RANDOM (R331). -/
  | kvRandom (h : Hart) (k : KvSlot)
  /-- KV_ROOT_DERIVE (R325). -/
  | kvRootDerive (h : Hart) (k : KvSlot)
  /-- KV_LADDER_DERIVE (R327). -/
  | kvLadderDerive (h : Hart) (k : KvSlot)
  /-- KV_TRANSFER (R331). -/
  | kvTransfer (h : Hart) (k : KvSlot)
  /-- KV_RESTRICT (R331). -/
  | kvRestrict (h : Hart) (k : KvSlot)
  /-- KV_STAGE_INSTALL (R331). -/
  | kvStageInstall (h : Hart) (k : KvSlot)
  /-- KV_STAGE_RETIRE (R331). -/
  | kvStageRetire (h : Hart) (k : KvSlot)
  /-- KV_STAGE_ROOT (R324). -/
  | kvStageRoot (h : Hart)
  /-- KV_STAGE_WRITE (R334). -/
  | kvStageWrite (h : Hart)
  /-- KV_STAGE_DROP (R331). -/
  | kvStageDrop (h : Hart)
  /-- KV_COMMIT_INITIAL (R331). -/
  | kvCommitInitial (h : Hart)
  /-- KV_UNDEFINED_COMMAND (R331). -/
  | kvUndefinedCommand (h : Hart) (code : Nat)
  /-- KV_COMMAND_DONE (R331). -/
  | kvCommandDone (h : Hart)
  /-- KEY_VAULT_LOAD_DONE (R323). -/
  | keyVaultLoadDone
  /-- ROOT_LOCK_SET (R326). -/
  | rootLockSet (h : Hart)
  /-- TAMPER_ALARM (R341). -/
  | tamperAlarm (n : Sensor) (on : Bool)
  /-- ENTROPY_HEALTH_FAILURE (R324). -/
  | entropyHealthFailure (test : Nat)
  /-- BD_SEQUENCE_START (R387). -/
  | bdSequenceStart (bd : Bd) (requester : Nat) (fault : Nat)
  /-- RECOVERY_BUNDLE_INSTALL (R395). -/
  | recoveryBundleInstall (sender : Nat) (bundle : List Byte) (fault : Nat)
  /-- LG_SUBMIT (R402). -/
  | lgSubmit (h : Hart) (v : Word)
  /-- SHEET_STORED (R404). -/
  | sheetStored (ok : Bool)
  /-- LG_ACK (R407). -/
  | lgAck (h : Hart) (v : Word)
  /-- HOST_PAGE_ACK (R409). -/
  | hostPageAck (ld : Ld) (v : Word)
  /-- ACK_SERVED (R407). -/
  | ackServed
  /-- OVR_UPTO_WRITE (R412). -/
  | ovrUptoWrite (h : Hart) (v : Word)
  /-- REAM_RECOVERED (R406). -/
  | reamRecovered (readable : Bool)
  /-- EVENT_ARRIVAL (R420). -/
  | eventArrival (code : Nat) (sev : Nat) (aid : Nat) (params : List Nat)
  /-- EV_POST (R422). -/
  | evPost (h : Hart) (v : Word)
  /-- RECORD_WRITE_DONE (R418). -/
  | recordWriteDone (ok : Bool)
  /-- HOST_EVENT_CLEAR (R424). -/
  | hostEventClear (ld : Ld) (v : Word)
  /-- EV_CLEAR (R424). -/
  | evClear (h : Hart) (v : Word)
  /-- EVENT_LOG_CLEAR_DONE (R424). -/
  | eventLogClearDone
  /-- RECORDER_RECOVERED (R426). -/
  | recorderRecovered
  /-- CX_PERST_ASSERT (R432). -/
  | cxPerstAssert
  /-- LINK_HOT_RESET (R432). -/
  | linkHotReset
  /-- LINK_SURPRISE_DOWN (R432). -/
  | linkSurpriseDown
  /-- LINK_UP (R431). -/
  | linkUp (rate : Nat) (width : Nat) (cxl : Bool) (w64 : Option Nat)
  /-- W64_BLOCK_RECEIVED (R457). -/
  | w64BlockReceived (block : List Byte)
  /-- W64_FALLBACK (R457). -/
  | w64Fallback (discarded : Nat) (corrected : Nat)
  /-- FUNCTION_LEVEL_RESET (R453). -/
  | functionLevelReset (ld : Ld)
  /-- VIEW_RESET (R453). -/
  | viewReset (ld : Ld) (v : Word)
  /-- HOT_RESET_VECTOR (R435). -/
  | hotResetVector (mask : Nat)
  /-- GET_LD_INFO (R434). -/
  | getLdInfo
  /-- GET_LD_ALLOCATIONS (R434). -/
  | getLdAllocations (start : Nat) (limit : Nat)
  /-- SET_LD_ALLOCATIONS (R434). -/
  | setLdAllocations (start : Nat) (pairs : List (Nat × Nat))
  /-- HDM_DECODER_COMMIT (R438). -/
  | hdmDecoderCommit (ld : Ld) (base : Nat) (size : Nat) (iw : Nat) (ig : Nat) (skip : Nat) (lock : Bool)
  /-- MEM_RD (R439). -/
  | memRd (ld : Ld) (offset : Nat)
  /-- MEM_WR (R439). -/
  | memWr (ld : Ld) (offset : Nat) (data : List Byte) (mask : List Bool)
  /-- STAGING_START (R441). -/
  | stagingStart (ld : Ld) (v : Word)
  /-- STAGING_ABORT (R445). -/
  | stagingAbort (ld : Ld)
  /-- STAGING_CHUNK_DONE (R443). -/
  | stagingChunkDone (ld : Ld) (v : Word)
  /-- STAGING_READY_POP (R443). -/
  | stagingReadyPop (h : Hart)
  /-- STAGING_RELEASE (R443). -/
  | stagingRelease (h : Hart) (v : Word)
  /-- STAGING_END (R444). -/
  | stagingEnd (h : Hart) (v : Word)
  /-- DOE_REQUEST (R447). -/
  | doeRequest (who : Option Ld) (object : List Byte)
  /-- DOE_ABORT (R447). -/
  | doeAbort (who : Option Ld)
  /-- DOE_DISCOVERY (R446). -/
  | doeDiscovery (who : Option Ld) (index : Nat)
  /-- CDAT_READ (R447). -/
  | cdatRead (who : Option Ld) (entry : Nat)
  /-- WARDEN_STATUS (R448). -/
  | wardenStatus (who : Option Ld) (code : Nat)
  /-- GET_EVENT_RECORDS (R450). -/
  | getEventRecords (who : Option Ld)
  /-- CLEAR_EVENT_RECORDS (R450). -/
  | clearEventRecords (who : Option Ld) (handles : Nat)
  /-- GET_EVENT_INTERRUPT_POLICY (R450). -/
  | getEventInterruptPolicy (who : Option Ld)
  /-- SET_EVENT_INTERRUPT_POLICY (R450). -/
  | setEventInterruptPolicy (who : Option Ld) (policies : List Nat)
  /-- GET_FW_INFO (R450). -/
  | getFwInfo (who : Option Ld)
  /-- GET_SUPPORTED_LOGS (R450). -/
  | getSupportedLogs (who : Option Ld)
  /-- GET_LOG (R450). -/
  | getLog (who : Option Ld) (uuid : List Byte) (offset : Nat) (len : Nat)
  /-- IDENTIFY_MEMORY_DEVICE (R450). -/
  | identifyMemoryDevice (who : Option Ld)
  /-- GET_PARTITION_INFO (R450). -/
  | getPartitionInfo (who : Option Ld)
  /-- GET_HEALTH_INFO (R450). -/
  | getHealthInfo (who : Option Ld)
  /-- GET_POISON_LIST (R450). -/
  | getPoisonList (who : Option Ld) (base : Nat) (len : Nat)
  /-- FJARLIN_WARDEN_STATUS (R450). -/
  | fjarlinWardenStatus (who : Option Ld)
  /-- FJARLIN_STAGE_SI_DATA (R452). -/
  | fjarlinStageSiData (who : Option Ld) (offset : Nat) (data : List Byte)
  /-- FJARLIN_STAGE_SI_COMMIT (R452). -/
  | fjarlinStageSiCommit (who : Option Ld) (total : Nat)
  /-- MAILBOX_UNSUPPORTED_OPCODE (R450). -/
  | mailboxUnsupportedOpcode (who : Option Ld) (op : Nat)
  /-- GET_VERSION (R464). -/
  | getVersion (conn : Peer)
  /-- GET_CAPABILITIES (R464). -/
  | getCapabilities (conn : Peer) (request : List Byte)
  /-- NEGOTIATE_ALGORITHMS (R465). -/
  | negotiateAlgorithms (conn : Peer) (request : List Byte) (sha3 : Bool) (mldsa : Bool)
  /-- GET_DIGESTS (R466). -/
  | getDigests (conn : Peer) (request : List Byte)
  /-- GET_CERTIFICATE (R462). -/
  | getCertificate (conn : Peer) (slot : Nat) (offset : Nat) (len : Nat) (request : List Byte)
  /-- CHALLENGE (R467). -/
  | challenge (conn : Peer) (request : List Byte) (slot : Nat) (summary : Nat) (nonce : List Byte) (ready : Bool)
  /-- GET_MEASUREMENTS (R470). -/
  | getMeasurements (conn : Peer) (request : List Byte) (index : Nat) (signed : Bool) (nonce : List Byte) (ready : Bool)
  /-- RESPOND_IF_READY (R467). -/
  | respondIfReady (conn : Peer) (token : Nat)
  /-- CHUNK_SEND (R466). -/
  | chunkSend (conn : Peer) (handle : Nat) (seq : Nat) (last : Bool) (chunk : List Byte)
  /-- CHUNK_GET (R466). -/
  | chunkGet (conn : Peer) (handle : Nat) (seq : Nat)
  /-- SPDM_UNSUPPORTED_REQUEST (R466). -/
  | spdmUnsupportedRequest (conn : Peer) (code : Nat)
  /-- SPDM_RESPONSE_NOT_READY (R467). -/
  | spdmResponseNotReady (conn : Peer) (code : Nat) (response : List Byte)
  /-- SWEEP_REGISTER (R475). -/
  | sweepRegister (ld : Ld) (v : Word)
  /-- SWEEP_UNREGISTER (R475). -/
  | sweepUnregister (ld : Ld) (v : Word)
  /-- SWEEP_REGION_DUE (R478). -/
  | sweepRegionDue (ld : Ld) (r : Nat)
  /-- SWEEP_NEXT_POP (R478). -/
  | sweepNextPop (h : Hart)
  /-- SWEEP_START (R478). -/
  | sweepStart (h : Hart) (v : Word)
  /-- SWEEP_READ_COMPLETION (R476). -/
  | sweepReadCompletion (ld : Ld) (offset : Nat) (status : Nat) (data : List Byte)
  /-- SWEEP_READ_TIMEOUT (R479). -/
  | sweepReadTimeout (ld : Ld)
  /-- SWEEP_BUCKET_REFILL (R477). -/
  | sweepBucketRefill (ld : Ld)
  /-- SWEEP_END_POP (R479). -/
  | sweepEndPop (h : Hart)
  /-- SWEEP_POST (R479). -/
  | sweepPost (h : Hart) (v : Word)
  /-- HART_CHANNEL_POST (R483). -/
  | hartChannelPost (h : Hart) (c : Chan) (v : Word) (old : Bool)
  /-- HART_CHANNEL_TAKE (R483). -/
  | hartChannelTake (h : Hart) (c : Chan)
  /-- HOST_CHANNEL_POST (R484). -/
  | hostChannelPost (ld : Ld) (c : Chan) (v : Word) (old : Bool)
  /-- HOST_CHANNEL_TAKE (R483). -/
  | hostChannelTake (ld : Ld) (c : Chan)
  /-- CCC_SELECT (R495). -/
  | cccSelect (m : Mport) (c : Nat)
  /-- CCC_POST (R495). -/
  | cccPost (m : Mport) (v : Word) (old : Bool)
  /-- CCC_TAKE (R495). -/
  | cccTake (m : Mport)
  /-- I2C_CHANNEL_POST (R495). -/
  | i2cChannelPost (m : Mport) (c : Nat) (v : Word) (old : Bool)
  /-- I2C_CHANNEL_TAKE (R495). -/
  | i2cChannelTake (m : Mport) (c : Nat)
  /-- IBI_ACCEPTED (R489). -/
  | ibiAccepted (m : Mport) (acked : Bool)
  /-- ENEC (R489). -/
  | enec (m : Mport) (bits : Nat)
  /-- DISEC (R492). -/
  | disec (m : Mport) (bits : Nat)
  /-- RSTDAA (R492). -/
  | rstdaa (m : Mport)
  /-- ENTDAA (R492). -/
  | entdaa (m : Mport) (addr : Nat)
  /-- SETDASA (R492). -/
  | setdasa (m : Mport) (static : Nat) (addr : Nat)
  /-- SETNEWDA (R492). -/
  | setnewda (m : Mport) (addr : Nat)
  /-- GETPID (R492). -/
  | getpid (m : Mport)
  /-- GETBCR (R492). -/
  | getbcr (m : Mport)
  /-- GETDCR (R492). -/
  | getdcr (m : Mport)
  /-- GETSTATUS (R492). -/
  | getstatus (m : Mport)
  /-- SETMWL (R492). -/
  | setmwl (m : Mport) (n : Nat)
  /-- GETMWL (R492). -/
  | getmwl (m : Mport)
  /-- SETMRL (R492). -/
  | setmrl (m : Mport) (n : Nat)
  /-- GETMRL (R492). -/
  | getmrl (m : Mport)
  /-- RSTACT (R496). -/
  | rstact (m : Mport) (action : Nat)
  /-- I3C_TARGET_RESET (R496). -/
  | i3cTargetReset (m : Mport)
  /-- MCTP_PACKET (R493). -/
  | mctpPacket (m : Mport) (packet : McPacket)
  /-- I2C_MCTP_RESPONSE_READ (R494). -/
  | i2cMctpResponseRead (m : Mport)
  /-- SET_ENDPOINT_ID (R493). -/
  | setEndpointId (m : Mport) (op : Nat) (eid : Nat)
  /-- GET_ENDPOINT_ID (R493). -/
  | getEndpointId (m : Mport)
  /-- GET_MCTP_VERSION_SUPPORT (R493). -/
  | getMctpVersionSupport (m : Mport) (msgType : Nat)
  /-- GET_MESSAGE_TYPE_SUPPORT (R493). -/
  | getMessageTypeSupport (m : Mport)
  /-- GET_VENDOR_DEFINED_MESSAGE_SUPPORT (R493). -/
  | getVendorDefinedMessageSupport (m : Mport) (selector : Nat)
  /-- FJ_STATUS (R497). -/
  | fjStatus (m : Mport) (tag : Nat)
  /-- TRANSFER_BEGIN (R497). -/
  | transferBegin (m : Mport) (tag : Nat) (kind : Nat) (len : Nat)
  /-- TRANSFER_DATA (R497). -/
  | transferData (m : Mport) (tag : Nat) (offset : Nat) (data : List Byte)
  /-- TRANSFER_END (R497). -/
  | transferEnd (m : Mport) (tag : Nat) (fault : Nat)
  /-- SHEET_READ (R497). -/
  | sheetRead (m : Mport) (tag : Nat) (sheet : Nat) (offset : Nat) (len : Nat)
  /-- SHEET_ACKNOWLEDGE (R497). -/
  | sheetAcknowledge (m : Mport) (tag : Nat) (sheet : Word) (g : List Byte)
  /-- REAM_HEAD (R497). -/
  | reamHead (m : Mport) (tag : Nat)
  /-- EVENT_READ (R497). -/
  | eventRead (m : Mport) (tag : Nat) (first : Nat) (count : Nat)
  /-- EVENT_CLEAR (R497). -/
  | eventClear (m : Mport) (tag : Nat) (seq : Word)
  /-- CARD_PRESENT (R500). -/
  | cardPresent (slot : Slot) (card : Card)
  /-- CARD_REMOVED (R508). -/
  | cardRemoved (slot : Slot)
  /-- SLOT_POWER_SETTLED (R500). -/
  | slotPowerSettled (slot : Slot)
  /-- CARD_COMMAND_ISSUE (R505). -/
  | cardCommandIssue (h : Hart) (v : Word)
  /-- CARD_RESPONSE (R505). -/
  | cardResponse (bits : List Byte) (crcOk : Bool)
  /-- CARD_RESPONSE_TIMEOUT (R505). -/
  | cardResponseTimeout
  /-- CARD_DATA_BLOCK (R505). -/
  | cardDataBlock (data : List Byte) (crcOk : Bool)
  /-- CARD_DATA_TIMEOUT (R505). -/
  | cardDataTimeout
  /-- CARD_CRC_STATUS_TOKEN (R505). -/
  | cardCrcStatusToken (token : Nat)
  /-- CARD_BUSY_END (R507). -/
  | cardBusyEnd
  /-- CARD_BUSY_TIMEOUT (R505). -/
  | cardBusyTimeout
  /-- CARD_WRITE_DETECT_HOLD (R507). -/
  | cardWriteDetectHold
  /-- CARD_RESET (R510). -/
  | cardReset (cause : Nat)
  /-- CARD_POWER_OFF_END (R510). -/
  | cardPowerOffEnd (slot : Slot)
  /-- LC_TRANSITION (R528). -/
  | lcTransition (h : Hart) (target : Nat)
  /-- LC_UNLOCK (R534). -/
  | lcUnlock (h : Hart)
  /-- LC_BURN_WORD (R533). -/
  | lcBurnWord (h : Hart)
  /-- LC_READ_WORD (R532). -/
  | lcReadWord (h : Hart)
  /-- LC_UNDEFINED_COMMAND (R528). -/
  | lcUndefinedCommand (h : Hart) (code : Nat)
  /-- OTP_BURN_DONE (R525). -/
  | otpBurnDone
  /-- SCAN_ALLOW (R536). -/
  | scanAllow (h : Hart) (v : Word)
  /-- MBIST_GO (R536). -/
  | mbistGo (h : Hart) (v : Word)
  /-- MBIST_DONE (R536). -/
  | mbistDone (failed : Bool)
  /-- MRAM_TEST (R536). -/
  | mramTest (h : Hart) (v : Word)
  /-- SCAN_EXIT (R535). -/
  | scanExit
  /-- DB_CHALLENGE (R540). -/
  | dbChallenge (src : BoothSrc)
  /-- DB_SUBMIT (R543). -/
  | dbSubmit (src : BoothSrc)
  /-- TICKET_VERIFY_DONE (R544). -/
  | ticketVerifyDone
  /-- DB_CLOSE (R547). -/
  | dbClose (src : BoothSrc)
  /-- DB_REQUEST (R544). -/
  | dbRequest (level : Nat)
  /-- TKT_DATA_WRITE (R541). -/
  | tktDataWrite (src : BoothSrc) (v : Word)
  /-- IDCODE (R539). -/
  | idcode
  /-- SAMPLE_PRELOAD (R539). -/
  | samplePreload (cells : List Bool)
  /-- EXTEST (R539). -/
  | extest (cells : List Bool)
  /-- BYPASS (R539). -/
  | bypass
  /-- DTMCS (R539). -/
  | dtmcs
  /-- DMI_ACCESS (R538). -/
  | dmiAccess (op : DmiOp)
  /-- BOOTH_ACCESS (R539). -/
  | boothAccess (op : Nat) (index : Nat) (v : Word)
  /-- PRIVATE_TEST_INSTRUCTION (R536). -/
  | privateTestInstruction (ir : Nat)
  /-- DEEP_SLEEP_ENTER (R554). -/
  | deepSleepEnter (h : Hart) (v : Word)
  /-- DEEP_SLEEP_ENTRY_COMPLETE (R555). -/
  | deepSleepEntryComplete
  /-- MAIN_RESET_REQUEST (R566). -/
  | mainResetRequest (h : Hart) (v : Word)
  /-- WAKE_EVENT (R557). -/
  | wakeEvent (source : Nat) (ticks : Nat)
  /-- WAKE_TIMER_EXPIRY (R557). -/
  | wakeTimerExpiry (ticks : Nat)
  /-- CORRECTED_ERROR (R575). -/
  | correctedError (block : Nat) (word : Nat)
  /-- DEFERRED_ERROR (R574). -/
  | deferredError (block : Nat) (inst : Nat) (kind : Nat) (word : Nat)
  /-- F1_ERROR (R576). -/
  | f1Error (block : Nat) (inst : Nat) (kind : Nat)
  /-- F2_ERROR (R577). -/
  | f2Error (block : Nat) (inst : Nat) (kind : Nat)
  /-- SAFE_STATE_RESET (R577). -/
  | safeStateReset
  /-- EC_REPORT_POP (R579). -/
  | ecReportPop (h : Hart)
  /-- EC_INJECT_ARM (R579). -/
  | ecInjectArm (h : Hart) (v : Word)
  /-- PT_CTRL_WRITE (R580). -/
  | ptCtrlWrite (h : Hart) (v : Word)
  /-- LATCHED_LO_READ (R45). -/
  | latchedLoRead (space : Space) (size : Size) (addr : Nat)
  /-- WEAR_WRITE (R225). -/
  | wearWrite (h : Hart) (f : Dev) (v : Word)
  /-- REGISTER_WRITE (R8). -/
  | registerWrite (space : Space) (size : Size) (addr : Nat) (v : BitVec 64)
  /-- UP_RESET_RELEASE (R187). -/
  | upResetRelease (p : Port)
  /-- CX_PERST_DEASSERT (R432). -/
  | cxPerstDeassert
  /-- TEST_EN_RISE (R535). -/
  | testEnRise
  /-- HOLDUP_OK_CHANGE (R66). -/
  | holdupOkChange (ok : Bool)
  /-- MAIN_RAILS_UP (R60). -/
  | mainRailsUp
  /-- VCORE_EXCURSION_END (R59). -/
  | vcoreExcursionEnd (ticks : Nat)
  /-- JUNCTION_EXCURSION_END (R85). -/
  | junctionExcursionEnd (temp : Nat)
  /-- ENTROPY_HEALTH_RECOVERY (R324). -/
  | entropyHealthRecovery
  /-- BLOCK_RESTART_DONE (R575). -/
  | blockRestartDone (block : Nat) (us : Nat)
  /-- LIFE_CYCLE_WIPE_DONE (R530). -/
  | lifeCycleWipeDone
  deriving DecidableEq, Repr, Inhabited

end Sys2Proof
end

