-- ==== Sys2Proof/Config.lean ====
section
/-! DEFINITION. What an implementation fixes and the free values (notes/assumptions/5.md, 6.md): constants without a
body, so that no proof can see what they are. -/

namespace Sys2Proof.Config

/-- Byte `n` of the stream of free bytes: entropy, and every value the manual leaves undefined. The state's counter
`free` says which byte comes next, so no two uses share one. -/
opaque freeByte : Nat → Byte

/-- The digests of the Fjarlin firmware keys of slots 0 and 1, which the boot ROM holds (R337). 64 bytes are used. -/
opaque romKeyHash : Nat → List Byte

/-- The byte of the boot ROM at an address below 0x1_FFC0 (R87); the manual gives none. -/
opaque romByte : Nat → Byte

/-- What a byte of volatile memory reads as that nothing has written since it was lost: how often it was lost, and its key
(R90, R97, R551; notes/assumptions/9.md). -/
opaque ramByte : Nat → Nat → Byte

/-- Fjarlin's MIPI manufacturer code, bits 47:33 of the provisional ID (R492). -/
opaque mipiManufacturer : Nat

/-- The DCR the MCTP I3C binding assigns (R492). -/
opaque mctpDcr : Byte

/-- The version entries Get MCTP Version Support answers for a message type (R493): one 4-byte entry each. -/
opaque mctpVersions : Nat → List Byte

/-- A byte of the CXL idle flit, which CXL 2.0 gives (R456). -/
opaque idleFlit : Nat → Byte

end Sys2Proof.Config
end

