-- ==== Sys2Proof/Machine/Bits.lean ====
section
/-! DEFINITION. Bit fields of registers, little-endian byte strings (R5) and saturating counters: the helpers every
block shares. -/

namespace Sys2Proof.Machine

/-- The field of `n` bits of a register that starts at bit `lo`, as a number. -/
def field (w : Word) (lo n : Nat) : Nat := (w.toNat >>> lo) % 2 ^ n

/-- Bit `i` of a register. -/
def bit (w : Word) (i : Nat) : Bool := w.getLsbD i

/-- 1 for true, 0 for false: a flag as a field value. -/
def flag (b : Bool) : Nat := if b then 1 else 0

/-- A register put together from (lowest bit, width, value) fields; a value is cut to its width. -/
def pack (fs : List (Nat × Nat × Nat)) : Word :=
  BitVec.ofNat 32 (fs.foldl (fun acc f => acc + (f.2.2 % 2 ^ f.2.1) * 2 ^ f.1) 0)

/-- A register as a write of `v` leaves it when exactly the bits of `mask` are writable (R8, RW and RWL). -/
def mergeBits (mask old v : Word) : Word := (v &&& mask) ||| (old &&& ~~~mask)

/-- Write-1-to-clear on the bits of `mask` (R8, RW1C). -/
def clearBits (mask old v : Word) : Word := old &&& ~~~(v &&& mask)

/-- The little-endian number in a byte string (R5). -/
def leNat : List Byte → Nat
  | [] => 0
  | b :: bs => b.toNat + 256 * leNat bs

/-- The `n` low bytes of a number, little-endian (R5). -/
def leBytes : Nat → Nat → List Byte
  | 0, _ => []
  | n + 1, v => BitVec.ofNat 8 v :: leBytes n (v / 256)

/-- A byte string cut or zero-padded to `n` bytes. -/
def padTo (n : Nat) (bs : List Byte) : List Byte := bs.take n ++ zeros (n - bs.length)

/-- A counter that saturates at the top of a field of `n` bits. -/
def satAdd (n a b : Nat) : Nat := min (a + b) (2 ^ n - 1)

/-- Bit `i` of a number used as a bitmap. -/
def hasBit (m i : Nat) : Bool := m.testBit i

/-- A bitmap with bit `i` set. -/
def setBit (m i : Nat) : Nat := m ||| 2 ^ i

/-- A bitmap with bit `i` clear. -/
def clrBit (m i : Nat) : Nat := if m.testBit i then m - 2 ^ i else m

/-- The bitmap of the indices below `n` that satisfy `p`. -/
def bitmap (n : Nat) (p : Nat → Bool) : Nat :=
  (List.range n).foldl (fun acc i => if p i then acc + 2 ^ i else acc) 0

/-- Round up to a multiple of `m`. -/
def alignUp (m a : Nat) : Nat := ((a + m - 1) / m) * m

/-- The division that rounds up. -/
def ceilDiv (a b : Nat) : Nat := (a + b - 1) / b

/-- ASCII text as bytes. -/
def ascii (s : String) : List Byte := s.toList.map (fun c => BitVec.ofNat 8 c.toNat)

/-- The words of a byte string, 4 bytes to a word, little-endian (R5). -/
def wordAt (bs : List Byte) (k : Nat) : Word := BitVec.ofNat 32 (leNat ((bs.drop (4 * k)).take 4))

/-- A byte string whose word `k` is replaced. -/
def setWordAt (bs : List Byte) (k : Nat) (w : Word) : List Byte :=
  bs.take (4 * k) ++ leBytes 4 w.toNat ++ bs.drop (4 * k + 4)

/-- An element of a table changed; an index outside the table changes nothing. -/
def vmod {α : Type} {n : Nat} (v : Vector α n) (i : Nat) (f : α → α) : Vector α n :=
  if h : i < n then v.set i (f v[i]) else v

/-- An element of a table; the default outside it. -/
def vget {α : Type} {n : Nat} [Inhabited α] (v : Vector α n) (i : Nat) : α :=
  if h : i < n then v[i] else default

end Sys2Proof.Machine
end

