-- ==== Sys2Proof/Machine/Keccak.lean ====
section
/-! DEFINITION. Keccak-f[1600] and the functions the manual names by it (spec/09_digest_engine.md, R267;
spec/11_keys_and_tamper.md, R325; FIPS 202 and SP 800-185 as the manual cites them), and CRC-64/XZ (R345). -/

namespace Sys2Proof.Machine

/-- One step of the register that draws the round constants' bits: x^8 + x^6 + x^5 + x^4 + 1. -/
def drawStep (r : Nat) : Nat := if r < 128 then 2 * r else (2 * r - 256) ^^^ 0x71

/-- One round constant from the register: seven draws, the j-th at bit 2^j − 1. Answers the constant and the register. -/
def drawConstant (r : Nat) : Nat × Nat :=
  (List.range 7).foldl (fun acc j => (acc.1 + (acc.2 % 2) * 2 ^ (2 ^ j - 1), drawStep acc.2)) (0, r)

/-- The constants of `n` rounds, from a register that stands at 1 before the first. -/
def roundConstants : Nat → Nat → List DWord
  | 0, _ => []
  | n + 1, r => let q := drawConstant r; BitVec.ofNat 64 q.1 :: roundConstants n q.2

/-- Lane number `i` of a state; the lane at (x, y) has the number x + 5y. -/
def laneAt (a : List DWord) (i : Nat) : DWord := a.getD i 0

/-- ρ and π as one table by destination lane: the lane it comes from and how far that is turned. From (1, 0) on, lane
(x, y) goes to (y, 2x + 3y), and the t-th lane of this walk is turned by the t-th triangular number. -/
def laneRoutes : List (Nat × Nat) :=
  [(0, 0), (6, 44), (12, 43), (18, 21), (24, 14)] ++ [(3, 28), (9, 20), (10, 3), (16, 45), (22, 61)] ++
  [(1, 1), (7, 6), (13, 25), (19, 8), (20, 18)] ++ [(4, 27), (5, 36), (11, 10), (17, 15), (23, 56)] ++
  [(2, 62), (8, 55), (14, 39), (15, 41), (21, 2)]

/-- The parities of the five columns. -/
def columnParities (a : List DWord) : List DWord :=
  (List.range 5).map fun x => (List.range 5).foldl (fun acc y => acc ^^^ laneAt a (x + 5 * y)) 0

/-- θ: every lane takes the parities of the columns beside its own. -/
def mixColumns (a : List DWord) : List DWord :=
  let par := columnParities a
  a.zipIdx.map fun p => p.1 ^^^ laneAt par ((p.2 + 4) % 5) ^^^ (laneAt par ((p.2 + 1) % 5)).rotateLeft 1

/-- ρ and π. -/
def turnLanes (a : List DWord) : List DWord := laneRoutes.map fun q => (laneAt a q.1).rotateLeft q.2

/-- χ on one row of five lanes. -/
def mixRow : List DWord → List DWord
  | [p, q, r, s, t] => [p ^^^ (r &&& ~~~q), q ^^^ (s &&& ~~~r), r ^^^ (t &&& ~~~s), s ^^^ (p &&& ~~~t), t ^^^ (q &&& ~~~p)]
  | row => row

/-- χ on the rows from row `y` on, `n` of them. -/
def mixRows (n : Nat) (a : List DWord) : List DWord :=
  match n with
  | 0 => []
  | m + 1 => mixRow (a.take 5) ++ mixRows m (a.drop 5)

/-- One round; ι adds the constant to lane (0, 0). -/
def keccakRound (a : List DWord) (rc : DWord) : List DWord :=
  let z := mixRows 5 (turnLanes (mixColumns a))
  (laneAt z 0 ^^^ rc) :: z.drop 1

/-- The permutation: 24 rounds. -/
def keccakF (a : List DWord) : List DWord := (roundConstants 24 1).foldl keccakRound a

/-- Lanes of a byte block. -/
def lanesOf (bs : List Byte) : List DWord :=
  (List.range 25).map fun i => BitVec.ofNat 64 (leNat ((bs.drop (8 * i)).take 8))

/-- Bytes of the lanes. -/
def lanesBytes (a : List DWord) : List Byte := a.flatMap fun l => leBytes 8 l.toNat

/-- The bytes of a sponge's rate at 256-bit security. -/
def rate256 : Nat := 136

/-- The bytes of a sponge's rate at 128-bit security. -/
def rate128 : Nat := 168

/-- Absorb `fuel` blocks of an already padded message. -/
def absorb (rate fuel : Nat) (st : List DWord) (msg : List Byte) : List DWord :=
  match fuel with
  | 0 => st
  | n + 1 => absorb rate n (keccakF (st.zipWith (· ^^^ ·) (lanesOf (msg.take rate)))) (msg.drop rate)

/-- Squeeze `fuel` blocks. -/
def squeeze (rate fuel : Nat) (st : List DWord) : List Byte :=
  match fuel with
  | 0 => []
  | n + 1 => (lanesBytes st).take rate ++ squeeze rate n (keccakF st)

/-- The message with the domain suffix byte and the final bit, up to a whole block (pad10*1). -/
def padMsg (rate suffix : Nat) (msg : List Byte) : List Byte :=
  let last := msg ++ [BitVec.ofNat 8 suffix]
  let full := padTo (alignUp rate last.length) last
  full.take (full.length - 1) ++ [full.getLastD 0 ||| 0x80]

/-- The sponge of a rate with a domain suffix byte and an output length in bytes. -/
def spongeAt (rate suffix : Nat) (msg : List Byte) (out : Nat) : List Byte :=
  let p := padMsg rate suffix msg
  (squeeze rate (ceilDiv out rate) (absorb rate (p.length / rate) (List.replicate 25 0) p)).take out

/-- The sponge at 256-bit security. -/
def sponge (suffix : Nat) (msg : List Byte) (out : Nat) : List Byte := spongeAt rate256 suffix msg out

/-- SHAKE128 with `out` bytes of output. -/
def shake128 (msg : List Byte) (out : Nat) : List Byte := spongeAt rate128 0x1F msg out

/-- SHAKE256 with `out` bytes of output. -/
def shake256 (msg : List Byte) (out : Nat) : List Byte := sponge 0x1F msg out

/-- SHA3-256. -/
def sha3_256 (msg : List Byte) : List Byte := sponge 0x06 msg 32

/-- Bytes of a number below 2^64, most significant first, at least one byte. -/
def beBytes (v : Nat) : List Byte :=
  let n := (List.range 8).foldl (fun acc k => if 256 ^ k ≤ v then k + 1 else acc) 1
  (leBytes n v).reverse

/-- left_encode of SP 800-185. -/
def leftEncode (v : Nat) : List Byte := BitVec.ofNat 8 (beBytes v).length :: beBytes v

/-- right_encode of SP 800-185. -/
def rightEncode (v : Nat) : List Byte := beBytes v ++ [BitVec.ofNat 8 (beBytes v).length]

/-- encode_string of SP 800-185. -/
def encodeString (s : List Byte) : List Byte := leftEncode (8 * s.length) ++ s

/-- bytepad of SP 800-185. -/
def bytepad (x : List Byte) (w : Nat) : List Byte :=
  let z := leftEncode w ++ x
  padTo (alignUp w z.length) z

/-- cSHAKE256 with function name `n` and customisation `s`. -/
def cshake256 (msg : List Byte) (out : Nat) (n s : List Byte) : List Byte :=
  if n.isEmpty && s.isEmpty then shake256 msg out
  else sponge 0x04 (bytepad (encodeString n ++ encodeString s) rate256 ++ msg) out

/-- KMAC256 under `key` with an output of `out` bytes and customisation `s`. -/
def kmac256 (key msg : List Byte) (out : Nat) (s : List Byte) : List Byte :=
  cshake256 (bytepad (encodeString key) rate256 ++ msg ++ rightEncode (8 * out)) out (ascii "KMAC") s

/-- One bit of CRC-64/XZ (reflected polynomial). -/
def crc64Bit (c : DWord) : DWord :=
  if c.getLsbD 0 then (c >>> 1) ^^^ 0xC96C5795D7870F42 else c >>> 1

/-- CRC-64/XZ of a byte string. -/
def crc64 (bs : List Byte) : DWord :=
  ~~~(bs.foldl (fun c b =>
    (List.range 8).foldl (fun x _ => crc64Bit x) (c ^^^ BitVec.setWidth 64 b)) (~~~(0 : DWord)))

end Sys2Proof.Machine
end

