-- ==== Sys2Proof/SiTypes.lean ====
section
/-! DEFINITION. The records of the structure image (spec/04_structure_image.md, R107–R134), decoded. Every value is
the number the record's bytes spell; 0xFF and the like keep the meaning the record gives them. -/

namespace Sys2Proof

/-- R112. -/
structure BusRec where
  bus : Nat
  mode : Nat
  clockMHz : Nat
  captureDelay : Nat
  addrBytes : Nat
  resetOnTimeout : Bool
  readyTimeoutUs : Nat
  deriving DecidableEq, Repr, Inhabited

/-- R113. -/
structure FlashRec where
  f : Nat
  role : Nat
  spareFor : Nat
  ownerBd : Nat
  sizeLog2 : Nat
  classTable : Nat
  stateTable : Nat
  rateCurve : Nat
  windowFirst : Nat
  windowCount : Nat
  initialState : Nat
  jedecId : List Byte
  eraseSizes : Nat
  sfdpPolicy : Nat
  pageSize : Nat
  maxEraseMs : Nat
  maxProgramUs : Nat
  deriving DecidableEq, Repr, Inhabited

/-- A slot locator (R114): the device and the byte offset of a manifest; device 0xFF and offset 0 is absent. -/
structure Locator where
  flash : Nat
  offset : Nat
  deriving DecidableEq, Repr, Inhabited

/-- R114. -/
structure BdRec where
  bd : Nat
  port : Nat
  tamperBoot : Bool
  afterBd : Nat
  activeSlot : Nat
  slotA : Locator
  slotB : Locator
  golden : Locator
  deriving DecidableEq, Repr, Inhabited

/-- R116. -/
structure PartRec where
  partition : Nat
  firstGranule : Nat
  granuleCount : Nat
  deriving DecidableEq, Repr, Inhabited

/-- R117. -/
structure ImageRec where
  imageId : List Byte
  bd : Nat
  slot : Nat
  serveMode : Nat
  sourceFlash : Nat
  sourceOffset : Nat
  length : Nat
  partition : Nat
  presentOffset : Nat
  deriving DecidableEq, Repr, Inhabited

/-- R119. -/
structure PortRec where
  port : Nat
  mode : Nat
  clockMHz : Nat
  bd : Nat
  dummyCycles : Nat
  addrBytes : Nat
  sizeLog2 : Nat
  waitMode : Bool
  jedecId : List Byte
  eraseSizes : Nat
  deriving DecidableEq, Repr, Inhabited

/-- R120. -/
structure PresentRec where
  port : Nat
  flash : Nat
  access : Nat
  presentOffset : Nat
  flashOffset : Nat
  length : Nat
  deriving DecidableEq, Repr, Inhabited

/-- R121. -/
structure ClassTableRec where
  tableId : Nat
  protocol : Nat
  classes : List Nat
  deriving DecidableEq, Repr, Inhabited

/-- R122. -/
structure StateTableRec where
  tableId : Nat
  stateCount : Nat
  classCount : Nat
  entries : List Nat
  deriving DecidableEq, Repr, Inhabited

/-- R124. -/
structure WindowRec where
  f : Nat
  index : Nat
  access : Nat
  anyAgent : Bool
  logDenied : Bool
  baseUnit : Nat
  lengthUnits : Nat
  aid : Nat
  deriving DecidableEq, Repr, Inhabited

/-- R125: points are (WearAt, Budget). -/
structure CurveRec where
  curveId : Nat
  points : List (Nat × Nat)
  deriving DecidableEq, Repr, Inhabited

/-- R126. -/
structure GateRec where
  gate : Nat
  bd : Nat
  drive : Nat
  order : Nat
  delay : Nat
  deriving DecidableEq, Repr, Inhabited

/-- R127. -/
structure ChannelRec where
  channel : Nat
  sender : Nat
  receiver : Nat
  barker : Bool
  ibi : Bool
  logPost : Bool
  deriving DecidableEq, Repr, Inhabited

/-- R128. -/
structure RightsRec where
  aid : Nat
  stagingWindow : Bool
  mayStage : Bool
  mayClearEventLog : Bool
  ledgerBdMask : Nat
  partitionMask : Nat
  eventSourceMask : Nat
  exportBdMask : Nat
  deriving DecidableEq, Repr, Inhabited

/-- R129. -/
structure EventRateRec where
  code : Nat
  depth : Nat
  refillPerHour : Nat
  deriving DecidableEq, Repr, Inhabited

/-- R130. -/
structure SweepRec where
  ld : Nat
  compare : Bool
  attest : Bool
  maxRegions : Nat
  maxOutstanding : Nat
  rateCapMBps : Nat
  windowBase : Nat
  windowLength : Nat
  minPeriodMs : Nat
  deriving DecidableEq, Repr, Inhabited

/-- R131. -/
structure LedgerRec where
  wrapExported : Bool
  cardAutoExport : Bool
  lowWaterSheets : Nat
  deriving DecidableEq, Repr, Inhabited

/-- R132. -/
structure FloorRec where
  imageClass : Nat
  minVersion : Nat
  deriving DecidableEq, Repr, Inhabited

/-- R133. -/
structure PinRec where
  kind : Nat
  index : Nat
  function : Nat
  param : Nat
  deriving DecidableEq, Repr, Inhabited

/-- One configuration leaf: every section of the structure image, amendments applied (R107, "Epochs" of
spec/01_architecture.md, spec/05_couch_transactions.md R150). -/
structure Leaf where
  siVersion : Nat := 0
  buses : List BusRec := []
  flashes : List FlashRec := []
  bds : List BdRec := []
  partitions : List PartRec := []
  images : List ImageRec := []
  ports : List PortRec := []
  presents : List PresentRec := []
  classTables : List ClassTableRec := []
  stateTables : List StateTableRec := []
  windows : List WindowRec := []
  curves : List CurveRec := []
  gates : List GateRec := []
  channels : List ChannelRec := []
  rights : List RightsRec := []
  eventRates : List EventRateRec := []
  sweeps : List SweepRec := []
  ledger : LedgerRec := { wrapExported := false, cardAutoExport := false, lowWaterSheets := 0 }
  floors : List FloorRec := []
  pins : List PinRec := []
  deriving DecidableEq, Repr, Inhabited

end Sys2Proof
end

