-- ==== Sys2Proof/Machine/State.lean ====
section
/-! DEFINITION. The state of the device as plain data, block by block; a field's default is its value at reset.
Registers of a block stand in its structure; where a register only shows other state, it is computed when read
(Machine/Registers.lean). -/

namespace Sys2Proof.Machine

open Sys2Proof

/-! ### Pins, power and standby domain (spec/02, spec/20, spec/01 "Guarding availability") -/

/-- Power states (R552), with the states the manual moves through on the way: `starting` is main power good with the
ROM waiting for XtalOk (R61), `entering` the steps of R555, `safe` the F2 safe state (R577). -/
inductive PowerState where
  | standbyOff | standby | starting | run | entering | deepSleep | safe
  deriving DecidableEq, Repr, Inhabited

/-- Levels of the pins the outside drives, and what the standby bank derives from them (R52, R60–R70). -/
structure Pins where
  /-- VSTBY within limits. -/
  vstby : Bool := false
  /-- Main rails at their minimums (R60 step 5). -/
  mainRails : Bool := false
  mainPg : Bool := false
  xtalOk : Bool := false
  vbatOk : Bool := false
  /-- STRAP_GOLDEN# is low. -/
  strapGolden : Bool := false
  testEn : Bool := false
  holdupOk : Bool := false
  recoverFilt : Bool := false
  recoverSettled : Bool := false
  /-- The present press began while stage firmware ran (R69). -/
  pressUnderStage : Bool := false
  strapAtStart : Bool := false
  recoverAtStart : Bool := false
  /-- UPn_RESET# is low. -/
  upReset : Vector Bool 8 := Vector.replicate 8 false
  /-- CX_PERST# is asserted. -/
  cxPerst : Bool := true
  gpioIn : Vector Bool 16 := Vector.replicate 16 false
  /-- Kn_DET# is low. -/
  cardDet : Vector Bool 4 := Vector.replicate 4 false
  /-- The cards in the slots (R500), with what has been written to them since they were inserted. -/
  cards : Vector (Option Card) 4 := Vector.replicate 4 none
  deriving DecidableEq, Repr, Inhabited

/-- SYS_JUNCTION and the excursions behind it (R59, R85); MAIN domain. -/
structure Junction where
  tempNow : Nat := 0
  tempPeak : Nat := 0
  warn : Bool := false
  vcoreLow : Bool := false
  /-- A warning excursion is in progress. -/
  hot : Bool := false
  /-- A VCORE excursion is in progress, with the lowest VCORE seen in mV. -/
  lowMv : Option Nat := none
  deriving DecidableEq, Repr, Inhabited

/-- An unguarded span in progress (R46, R47). -/
structure Span where
  start : Nat
  buses : Nat
  firstCause : Nat
  causes : Nat
  epoch : Nat
  ticks : Nat
  /-- Intervals still open: one for each bus, or the F2 safe state. -/
  open_ : List (Nat × Nat)
  deriving DecidableEq, Repr, Inhabited

/-- SYS_GUARD_ registers (R41–R47); STBY domain. -/
structure Guard where
  winOpen : Bool := false
  win : Nat := 0
  lost : Nat := 0
  winHi : Word := 0
  lostHi : Word := 0
  intervals : Nat := 0
  span : Option Span := none
  /-- Parameters of event 0x0110 of spans that ended as the main core went down, recorded once the recorder runs again
  (R47; notes/assumptions/98.md). -/
  unrecorded : List (List Nat) := []
  deriving DecidableEq, Repr, Inhabited

/-- The two timestamp counts (R414, R565). -/
structure Clock where
  powerCycles : Nat := 0
  opTime : Nat := 0
  deriving DecidableEq, Repr, Inhabited

/-- PW_ registers and the power block (spec/20); STBY domain except PW_WDOG. -/
structure Power where
  state : PowerState := .standbyOff
  mainCause : Nat := 1
  coreCause : Nat := 0
  coreResets : Nat := 0
  wakeEn : Word := 0x5
  wakeGpio : Word := 0
  wakeTimer : Word := 0
  refused : Nat := 0
  lastWake : Nat := 0
  sleepCount : Nat := 0
  sleepLen : Nat := 0
  sleepLenHi : Word := 0
  /-- Bitmap of wake sources that acted during entry or after the first (R557–R559). -/
  laterSources : Nat := 0
  /-- The first source latched during entry (R559). -/
  latched : Option Nat := none
  /-- PW_WDOG (MAIN). -/
  wdog : Word := 0x3E8
  /-- The watchdog counter runs (R567). -/
  wdogRunning : Bool := false
  /-- The watchdog counter in ticks of 1/1,024 s (R567). -/
  wdogCount : Nat := 0
  /-- The last core reset was a watchdog expiry not yet recorded (R567). -/
  wdogFired : Bool := false
  /-- The reset kind of the start in progress: 1 main power-up, 2 core reset, 3 Deep Sleep wake. -/
  resetKind : Nat := 1
  /-- The F2 safe state has been left and no initial couch has followed yet (R71). -/
  faultHeld : Bool := false
  /-- Operating time at step 5 of R555 of the last Deep Sleep. -/
  sleepStart : Nat := 0
  deriving DecidableEq, Repr, Inhabited

/-! ### Event recorder and ledger (spec/14) -/

/-- An event on its way into the log, or one carried in the last-gasp ring (R415). -/
structure EventRec where
  ts : Nat
  code : Nat
  aid : Nat
  sev : Nat
  flags : Nat
  params : List Nat
  deriving DecidableEq, Repr, Inhabited

/-- A counter of suppressed events (R421). -/
structure Suppress where
  code : Nat
  count : Nat
  first : Nat
  last : Nat
  deriving DecidableEq, Repr, Inhabited

/-- The event recorder (R414–R430); MAIN domain but for the banks, which are CORE. -/
structure Recorder where
  /-- Units taken out of the buckets that are not full, by code (R420). -/
  taken : List (Nat × Nat) := []
  suppress : List Suppress := []
  shared : Suppress := { code := 0, count := 0, first := 0, last := 0 }
  queue : List EventRec := []
  /-- Posts of harts stalled by a full queue (R422), and summaries that wait with them for room (R421), oldest first. -/
  stalled : List EventRec := []
  /-- Events lost to a full queue since the last 0x0A02: count, first and last timestamp, first code. -/
  lost : Suppress := { code := 0, count := 0, first := 0, last := 0 }
  nextIndex : Nat := 0
  lastSeq : Nat := 0xFFFFFFFF
  drop : Nat := 0
  /-- EV_DROP as it stood at the last MAIN reset (event 0x0A04). -/
  dropAtReset : Nat := 0
  queueLost : Nat := 0
  suppressed : Nat := 0
  full : Bool := false
  degraded : Bool := false
  noSurvivor : Bool := false
  recovering : Bool := true
  /-- The requester of a clear in progress (R424). -/
  clearing : Option Nat := none
  clearOutcome : Nat := 0
  clearSeq : Word := 0
  badSeg : Nat := 0
  /-- Highest ring sequence carried into the log (R426). -/
  ringCarried : Nat := 0
  posts : Vector (Vector Word 10) 4 := Vector.replicate 4 (Vector.replicate 10 0)
  deriving DecidableEq, Repr, Inhabited

/-- What the LG is serving (R402, R407): a sheet being stored at a position, with the head, LG_NEXT and latches as
they were before it was accepted (`prior`: the unacknowledged sheet it overwrites, as number and Bd), or an
acknowledgement (A, N, G). -/
inductive LgJob where
  | sheet (pos : Nat) (bytes : List Byte) (prior : Option (Nat × Nat)) (prevNext : Nat) (prevDig : List Byte)
      (prevLog prevTamper : Bool)
  | ack (aid n : Nat) (g : List Byte)
  deriving DecidableEq, Repr, Inhabited

/-- A sheet whose Sign job hart 3 has submitted (R587): the job's tag, SheetNumber, Bd, ContinuationIndex, and the attempts
that have failed. -/
structure SheetSigning where
  tag : Nat
  no : Nat
  bd : Nat
  ci : Nat
  tries : Nat
  deriving DecidableEq, Repr, Inhabited

/-- The boot ledger (R397–R413). -/
structure Ledger where
  recovered : Bool := false
  degraded : Bool := false
  /-- LogDegraded and TamperSeen for the next sheet (R399). -/
  logDegraded : Bool := false
  tamperSeen : Bool := false
  next : Nat := 0
  /-- The chain digest of the head (LG_HEAD_DIG). -/
  headDig : List Byte := zeros 64
  recorded : Nat := 0
  ovrUpTo : Word := 0xFFFFFFFF
  nonce : Nat := 0
  lastCmd : Nat := 0
  outcome : Nat := 0
  ackNum : Word := 0
  ackDig : List Byte := zeros 8
  wipeAccepted : Bool := false
  /-- Event 0x0A11 has been recorded for the present full episode (R410). -/
  fullEpisode : Bool := false
  /-- Below low water (R410). -/
  lowWater : Bool := false
  /-- Positions whose write failed, or whose sheet could not be read, in this MAIN power period (R429). -/
  bad : List Nat := []
  /-- Bitmap of the positions that have held a sheet since the ream was last zeroed (R403 item 1), kept as MRAM is. -/
  used : Nat := 0
  /-- Waiting jobs and the one being served, head first; host pages only wait here (R407, R409). -/
  jobs : List LgJob := []
  /-- ContinuationIndex that the next sheet of each domain's boot carries (R402 outcome 1). -/
  contNext : Vector Nat 16 := Vector.replicate 16 0
  /-- The sheet that hart 3 has at the signature engine (R587). -/
  signing : Option SheetSigning := none
  deriving DecidableEq, Repr, Inhabited

/-! ### Errors and the perturbation unit (spec/21) -/

/-- A detected error on its way through the controller (R574–R576): class 1 C, 2 D, 3 F1, 4 F2. -/
structure ErrRec where
  cls : Nat
  block : Nat
  inst : Nat
  kind : Nat
  word : Nat
  deriving DecidableEq, Repr, Inhabited

/-- The error controller (R574–R579); MAIN domain. -/
structure Errors where
  /-- The error being handled and those it pre-empted, innermost first. -/
  handling : List ErrRec := []
  queue : List ErrRec := []
  overflow : Bool := false
  /-- Reports that found the FIFO full since the last event 0x0F06. -/
  lostReports : Nat := 0
  reports : List ErrRec := []
  report1 : Word := 0
  corrected : Nat := 0
  deferred : Nat := 0
  restarts : Nat := 0
  irqEn : Word := 0
  inject : Word := 0
  /-- Corrected errors by block since the last 0x0F01 of the block. -/
  sinceRecord : List (Nat × Nat) := []
  /-- Access faults counted against each hart (R88), and the address of the last. -/
  faults : Vector Nat 4 := Vector.replicate 4 0
  lastFault : Vector Word 4 := Vector.replicate 4 0
  deriving DecidableEq, Repr, Inhabited

/-- EC_LAST_F2; STBY domain. -/
structure LastF2 where
  block : Nat := 0
  kind : Nat := 0
  escalated : Bool := false
  hardware : Bool := false
  count : Nat := 0
  deriving DecidableEq, Repr, Inhabited

/-- The funhouse (R580–R584); MAIN domain. -/
structure Funhouse where
  enable : Bool := false
  seed : Word := 1
  zones : Vector Word 8 := Vector.replicate 8 0x10
  compl : Vector Word 4 := Vector.replicate 4 0
  lateReads : Nat := 0
  latePorts : Nat := 0
  deriving DecidableEq, Repr, Inhabited

/-! ### Couch unit (spec/05) -/

/-- The states of the mould (R143). -/
inductive MouldState where
  | idle | opened | staging | checking | ready | committing | done | aborted
  deriving DecidableEq, Repr, Inhabited

/-- The couch unit (R143–R167). -/
structure Couch where
  state : MouldState := .idle
  owner : Nat := 0xFF
  requester : Nat := 0xFF
  /-- Actions, 32 bytes each (R149). -/
  actions : List (List Byte) := []
  /-- An abort taken during Checking, with its reason: it takes effect when the check ends (R144). -/
  pendingAbort : Option Nat := none
  abortReason : Nat := 0
  stateAtAbort : Nat := 0
  checkCode : Nat := 0
  checkPhase : Nat := 0
  checkWhere : Nat := 0
  /-- The SI_LOAD whose content checks run (R153). -/
  siChecking : Option (List Byte) := none
  siCopyBusy : Bool := false
  sipLocked : Bool := false
  fabricLive : Bool := false
  fenceArmed : Bool := false
  epoch : Nat := 0
  act : Vector Word 8 := Vector.replicate 8 0
  cfg : Word := 0x28
  sipPtr : Word := 0
  /-- The lower word of a pair written to TX_SIP_DATA, until its upper word arrives. -/
  sipLow : Word := 0
  mouldIdx : Word := 0
  siDigest : List Byte := zeros 64
  pendDigest : List Byte := zeros 64
  /-- The amendments in force, as action descriptors (R150). -/
  amendments : List (List Byte) := []
  /-- The retirement list (R151). -/
  retired : List Nat := []
  /-- Registers and their journal: valid bank, generation, offset of the next record in the bank. -/
  jrnlValid : Bool := false
  jrnlBank : Nat := 0
  jrnlGen : Nat := 0
  jrnlNext : Nat := 0
  /-- A Restore has failed since main power-up (R142, R166). -/
  restoreFailed : Bool := false
  /-- TX_CMD_RESULT of each hart: last command, outcome. -/
  results : Vector (Nat × Nat) 4 := Vector.replicate 4 (0, 0)
  /-- The configuration leaf of even and of odd epochs. -/
  leafEven : Leaf := {}
  leafOdd : Leaf := {}
  deriving DecidableEq, Repr, Inhabited

/-! ### Boot ports, flash buses and turnstiles (spec/06, spec/07) -/

/-- Who issued a flash command (R205): a serving burst of a domain's image, spare mirroring of a Primary, the copy of a
resync onto its target, a hart's queue entry, an upstream port (a presented read, or a forwarded program or erase), or hart
2's firmware as it reads a domain's manifest area (R387 step 4) or installs a bundle (R395), by the install's number. -/
inductive Issuer where
  | serving (bd image : Nat)
  | mirror (primary : Nat)
  | resync (target : Nat)
  | hart (h entry : Nat)
  | portRead (p at_ : Nat)
  | portWrite (p : Nat)
  | area (bd : Nat)
  | install (job : Nat)
  deriving DecidableEq, Repr, Inhabited

/-- Who gave firmware an object and hears its outcome (R444, R497, R518): no one, hart 3 for a card, or an I3C port. -/
inductive Sender where
  | none
  | card (slot : Nat)
  | port (m : Nat)
  deriving DecidableEq, Repr, Inhabited

/-- Kinds of command (R206). -/
inductive CmdKind where
  | read | program | erase (bytes : Nat) | chip | reserved | other
  deriving DecidableEq, Repr, Inhabited

/-- Who chose a command's opcode: its issuer, or the controller of the device that receives it, for an access of this
kind (R192, R193, R205). -/
inductive OpChoice where
  | given | read | program | erase (bytes : Nat)
  deriving DecidableEq, Repr, Inhabited

/-- A command for a flash device: opcode, device address, length, data sent to the device, issuer, epoch tag once it
is in the fabric (R227), and its group: members of one group carry one number; `member` counts within it (R214). -/
structure FlashCmd where
  op : Nat
  choice : OpChoice := .given
  addr : Nat
  len : Nat
  data : List Byte
  issuer : Issuer
  aid : Nat
  tag : Option Bool
  group : Nat
  member : Nat
  deriving DecidableEq, Repr, Inhabited

/-- A serve lock (R226): the domain that holds it and a range in 4 KiB units. -/
structure ServeLock where
  bd : Nat
  base : Nat
  len : Nat
  deriving DecidableEq, Repr, Inhabited

/-- A held command with the time it was first held, in ticks of 1/1,024 s (R218). `due` says that a change since its
last decision calls for a new one; `rest` are the later bursts of its member, held with it (R209, R214); `cls` is its
class, as the Hold decision found it. -/
structure HeldCmd where
  cmd : FlashCmd
  since : Nat
  due : Bool
  cls : Nat
  rest : List FlashCmd := []
  deriving DecidableEq, Repr, Inhabited

/-- The dynamic state of a turnstile (R205–R230). -/
structure Turnstile where
  state : Nat := 0
  restarting : Bool := false
  /-- Commands that have reached the turnstile, at most 64, and those their issuers hold back meanwhile (R214). -/
  waiting : List FlashCmd := []
  back : List FlashCmd := []
  held : List HeldCmd := []
  locks : List ServeLock := []
  /-- The rate curve it goes by, and the epoch of the leaf that gave it (R225). -/
  curve : Option CurveRec := none
  boundEpoch : Nat := 0
  segment : Nat := 0
  wear : Nat := 0
  wearHi : Word := 0
  wearHiLatch : Word := 0
  credit : Nat := 0
  creditHiLatch : Word := 0
  denyCount : Nat := 0
  rateDenyCount : Nat := 0
  lastOp : Nat := 0
  lastAid : Nat := 0xFF
  lastReason : Nat := 0
  lastLogged : Bool := false
  lastClass : Nat := 0
  lastAddr : Nat := 0
  /-- Credit has fallen short since a rate-charged command was last admitted (R220). -/
  rateShort : Bool := false
  /-- The group whose members are being decided back to back (R214). -/
  openGroup : Option Nat := none
  /-- The command in its command or data phase on the bus. -/
  current : Option FlashCmd := none
  deriving DecidableEq, Repr, Inhabited

/-- A program, erase or register write under way in its device (R194): the command, its kind, the limit in µs and
whether a timeout resets the device, all under the leaf it was issued by. -/
structure BusyOp where
  cmd : FlashCmd
  kind : CmdKind
  limit : Nat
  rst : Bool
  deriving DecidableEq, Repr, Inhabited

/-- A flash device as its bus controller sees it (R191–R196). -/
structure FlashDev where
  /-- FBm_RSTk# is released. -/
  rstHigh : Bool := false
  /-- Discovery runs, at the wait of step 2 (R191). -/
  discovering : Bool := false
  /-- A reset pulse of 10 µs is in progress (R195, R200). -/
  pulsing : Bool := false
  /-- The device passed discovery and is in service. -/
  ready : Bool := false
  jedec : Nat := 0
  discResult : Nat := 0
  sfdpGoverns : Bool := false
  /-- What discovery read in its SFDP (R192). -/
  sfdp : Option SfdpData := none
  /-- Dummy cycles of the controller's reads (R192). -/
  dummy : Nat := 8
  /-- The discovery that runs follows a DevReset (R261). -/
  byDevReset : Bool := false
  /-- The program, erase or register write under way in the device (R194). -/
  busy : Option BusyOp := none
  /-- Left busy after a timeout (R195). -/
  stuck : Bool := false
  /-- The DQS retry of the current read has been used (R198). -/
  dqsRetried : Bool := false
  /-- SFDP advertises a flag status register. -/
  flagStatus : Bool := false
  deriving DecidableEq, Repr, Inhabited

/-- A flash bus (R199–R202). -/
structure FlashBus where
  quarantined : Bool := false
  requalifying : Bool := false
  restarting : Bool := false
  contention : Bool := false
  dqsTimeout : Bool := false
  timeout : Bool := false
  timeoutCount : Nat := 0
  dqsCount : Nat := 0
  contentionCount : Nat := 0
  /-- Timestamps of the detections of the last millisecond (R199), in ticks. -/
  recent : List Nat := []
  /-- Devices waiting for the requalification's discovery to report (event 0x0723). -/
  requalPending : Bool := false
  deriving DecidableEq, Repr, Inhabited

/-- A presented read in progress (R170, R174): presented address, length, bytes already delivered, epoch tag, pieces
fetched from flash by presented address, and whether a piece failed (R176). -/
structure PortRead where
  addr : Nat
  len : Nat
  done : Nat
  tag : Bool
  pieces : List (Nat × List Byte)
  /-- The bursts asked of flash: presented address and group number of the command. -/
  asked : List (Nat × Nat)
  failed : Bool
  deriving DecidableEq, Repr, Inhabited

/-- A deferred eSPI request (R185): kind 0 read, 1 write, 2 erase; and its completion once it is ready (R186). -/
structure Deferred where
  kind : Nat
  addr : Nat
  len : Nat
  completion : Option (Bool × List Byte)
  deriving DecidableEq, Repr, Inhabited

/-- An upstream boot port (R168–R190, R204). -/
structure UpPort where
  undefOp : Bool := false
  protoErr : Bool := false
  overClock : Bool := false
  writeDiscarded : Bool := false
  dqsWaits : Nat := 0
  defers : Nat := 0
  last : Nat := 0
  /-- A forwarded program or erase is in its device (WIP); it outlives a port reset (R187). -/
  wip : Bool := false
  wel : Bool := false
  eraseError : Bool := false
  programError : Bool := false
  protected_ : Bool := false
  resetEnable : Bool := false
  /-- Kinds of event 0x0726 recorded since the last port reset. -/
  errKinds : Nat := 0
  /-- Later errors of a kind already recorded in this interval (R204; notes/assumptions/117.md). -/
  laterErrors : Nat := 0
  /-- Opcode and presented address of the forwarded program or erase (event 0x0726). -/
  wrote : Nat × Nat := (0, 0)
  read : Option PortRead := none
  deferred : Option Deferred := none
  alert : Bool := false
  quarantined : Bool := false
  /-- Commands denied under the quarantine (event 0x0703). -/
  quarDenied : Nat := 0
  deriving DecidableEq, Repr, Inhabited

/-- The guard fabric (GF_): ports, buses, devices, turnstiles. -/
structure GuardFabric where
  ports : Vector UpPort 8 := Vector.replicate 8 {}
  buses : Vector FlashBus 16 := Vector.replicate 16 {}
  devs : Vector FlashDev 64 := Vector.replicate 64 {}
  ts : Vector Turnstile 64 := Vector.replicate 64 {}
  tsCfg : Word := 0x14
  /-- The next group number (the model's own). -/
  nextGroup : Nat := 0
  deriving DecidableEq, Repr, Inhabited

/-! ### Image store, serving engine, gates, spares (spec/08, spec/13) -/

/-- Boot domain states (R237), in code order. -/
inductive BdState where
  | none | held | waiting | loading | running | verified | passed | stopped
  deriving DecidableEq, Repr, Inhabited

/-- An image of the served slot (R240–R244): its record, its digest context and compare entry, what is resident, and
the verdict. -/
structure ServeImage where
  imgRec : ImageRec
  /-- First granule of its partition, as the leaf it is served under gives it (R140). -/
  base : Nat
  /-- Index of its record in the image table (event 0x0804). -/
  recIdx : Nat
  digest : List Byte
  ctx : Nat
  cmp : Nat
  /-- Units loaded in order, or read by the background pass. -/
  units : Nat
  /-- The group number of its serving burst in flight. -/
  burst : Option Nat
  retried : Bool
  /-- Unit tags recorded (R244): (unit, tag). -/
  tags : List (Nat × Nat)
  /-- When the image was last read by its host, in ticks (R242 step 4). -/
  lastRead : Nat
  closed : Bool
  verified : Bool
  deriving DecidableEq, Repr, Inhabited

/-- An accepted manifest (R382–R386): version, key kind and slot, and each image header as ImageId and Digest. -/
structure Manifest where
  version : Nat
  keyKind : Nat
  keySlot : Nat
  headers : List (List Byte × List Byte)
  /-- Digest of the manifest, for WMK extension (R386). -/
  digest : List Byte
  deriving DecidableEq, Repr, Inhabited

/-- Hart 2's reading of a manifest area (R377, R384, R387 step 4): the slot, the device of its locator with Offset and size,
the epoch noted, which verify jobs end in an engine fault (bit 0 the key manifest's, bit 1 the manifest's), the manifest and
the key manifest as read so far, the group number of the burst in flight, and whether a read failed. -/
structure AreaRead where
  slot : Nat
  flash : Nat
  offset : Nat
  size : Nat
  epoch : Nat
  fault : Nat
  man : List Byte := []
  keys : List Byte := []
  burst : Option Nat := none
  failed : Bool := false
  deriving DecidableEq, Repr, Inhabited

/-- A boot domain (R237–R254, R387–R393). -/
structure BootDomain where
  state : BdState := .none
  slot : Nat := 0
  goldenUsed : Bool := false
  fetchAhead : Bool := false
  streamed : Bool := false
  failCount : Nat := 0
  lastCause : Nat := 0
  imagesVerified : Nat := 0
  imagesTotal : Nat := 0
  images : List ServeImage := []
  /-- The leaf serving goes by: the epoch tag when it started. -/
  tag : Bool := false
  runPoint : Bool := false
  /-- The run-point output is high (R254). -/
  runOut : Bool := false
  /-- The domain's gates in the Order of its last release (R250). -/
  gateOrder : List Nat := []
  /-- Order of the gate whose Delay runs during a release (R248). -/
  releasing : Option Nat := none
  /-- Order of the gate to be held next during a return to reset from Passed (R251). -/
  holding : Option Nat := none
  /-- Event 0x0808 has been recorded for this wait (R243). -/
  waitRecorded : Bool := false
  /-- Its place behind the domains that were short of a resource when it asked to be served (R243). -/
  waitRank : Nat := 0
  /-- A boot sequence of hart 2 runs (R387). -/
  seqRunning : Bool := false
  /-- The attempt whose area hart 2 is reading (R387 step 4). -/
  attempt : Option AreaRead := none
  /-- Boot reason of R392. -/
  reason : Nat := 0
  /-- Slots that failed in this boot, as a bitmap. -/
  failedSlots : Nat := 0
  manifest : Option Manifest := none
  /-- It holds the tag entries of its Streamed images (R242, R252). -/
  tagsHeld : Bool := false
  /-- The domain restarts its sequence without hart 2 having taken it up. -/
  restart : Bool := false
  /-- Event 0x0844 has been recorded in this sequence (R391). -/
  depRecorded : Bool := false
  /-- An SI_LOAD changed its records since its sequence began (R392, reason 6). -/
  structChanged : Bool := false
  deriving DecidableEq, Repr, Inhabited

/-- A flash command descriptor of a hart (R255). -/
structure FqDesc where
  op : Nat
  f : Nat
  groupNext : Bool
  len : Nat
  addr : Nat
  buffer : Nat
  ctx : Nat
  snoop : Bool
  tag : Nat
  deriving DecidableEq, Repr, Inhabited

/-- A descriptor in flight: its number, how many of its commands are unanswered, the first failure, and the bytes of its
data phase. -/
structure FqEntry where
  id : Nat
  desc : FqDesc
  left : Nat
  reason : Nat
  result : Nat
  data : List Byte := []
  deriving DecidableEq, Repr, Inhabited

/-- A hart's bank of the flash command queue (R255, R256). -/
structure FlashQueue where
  desc : Vector Word 4 := Vector.replicate 4 0
  /-- Descriptors of the open group, which waits for its last member, each with the epoch tag of its acceptance
  (R227). -/
  openGroup : List (FqDesc × Bool) := []
  inFlight : List FqEntry := []
  results : List Word := []
  nextId : Nat := 0
  deriving DecidableEq, Repr, Inhabited

/-- Health and condition of a device (R257, R261). -/
structure DevHealth where
  progFail : Nat := 0
  eraseFail : Nat := 0
  timeoutResets : Nat := 0
  cond : Nat := 0
  /-- Consecutive DevReset attempts whose discovery did not pass. -/
  failedResets : Nat := 0
  deriving DecidableEq, Repr, Inhabited

/-- A resync in progress (R258, R264): target, source, 4 KiB units copied, whether the target is in Probation, the
writes of the unit being copied that are unanswered (none while its read is awaited), and, while both devices are read at
its end, the digest contexts of source and target with the units read of both. -/
structure Resync where
  target : Nat
  source : Nat
  copied : Nat
  probation : Bool
  left : Option Nat
  closing : Option (Nat × Nat × Nat) := none
  deriving DecidableEq, Repr, Inhabited

/-- A step of a bundle's installation (R395): a digest context opened, over what data phases send or, with a device and an
address, over what a kind 2 tap reads there; its digest compared, for an image or for the area; a program or erase, behind
its write enable; a read. -/
inductive InstallStep where
  | digest (tap : Option (Nat × Nat)) (len : Nat)
  | compare (expected : List Byte) (image : Bool)
  | write (f : Nat) (choice : OpChoice) (addr : Nat) (data : List Byte)
  | read (f addr len : Nat)
  deriving DecidableEq, Repr, Inhabited

/-- A bundle that hart 2 is installing (R395, R444): its number, domain, sender's AID and who hears the outcome, whether it is
an update bundle, its length, the steps left, the digest context open, the group number of the flash command in flight, the
images written, and at its end the code of event 0x0843. -/
structure Install where
  job : Nat
  bd : Nat
  sender : Nat
  via : Sender
  update : Bool
  len : Nat
  steps : List InstallStep
  ctx : Option Nat := none
  burst : Option Nat := none
  written : Nat := 0
  code : Option Nat := none
  deriving DecidableEq, Repr, Inhabited

/-- The image store block (IS_). -/
structure ImageStore where
  bds : Vector BootDomain 16 := Vector.replicate 16 {}
  gates : Nat := 0
  cfg : Word := 0x05
  scrubPasses : Nat := 0
  scrubCorrected : Nat := 0
  /-- Corrections since the last event 0x0810. -/
  scrubSince : Nat := 0
  poisonLast : Nat := 0
  /-- Poisoned 64-bit words, by word number in the store (R236). -/
  poisoned : List Nat := []
  tagFree : Nat := 0x20000
  fq : Vector FlashQueue 4 := Vector.replicate 4 {}
  health : Vector DevHealth 64 := Vector.replicate 64 {}
  resyncs : List Resync := []
  installs : List Install := []
  deriving DecidableEq, Repr, Inhabited

/-! ### Digest engine (spec/09) -/

/-- Context states (R269), in code order. -/
inductive CtxState where
  | free | prefix_ | absorbing | final_ | closed | faulted
  deriving DecidableEq, Repr, Inhabited

/-- A snoop tap (R280): kind 1 serving image of a domain, kind 2 device F from an offset, kind 3 queue descriptors,
kind 4 sweep region; with the next expected offset (R281). -/
structure Tap where
  kind : Nat
  dev : Nat
  start : Nat
  next : Nat
  deriving DecidableEq, Repr, Inhabited

/-- A digest context that is not Free (R268–R287). The Keccak state is what `head` (prefix and key block) and `msg`
have put into it. -/
structure Context where
  no : Nat
  owner : Nat
  state : CtxState
  cls : Nat
  keyMode : Bool
  source : Nat
  domain : Nat
  outLen : Nat
  outDest : Nat
  suffix : List Byte
  declLen : Nat
  vaultSlot : Nat
  destSlot : Nat
  head : List Byte := []
  msg : List Byte := []
  tap : Option Tap := none
  /-- The tap that was bound: kind, device, start and the epoch recorded then (R280, check 0x57). -/
  bound : Option (Nat × Nat × Nat × Nat) := none
  epoch : Nat := 0
  trunc : Bool := false
  short : Bool := false
  gap : Bool := false
  passed : Bool := false
  keyed : Bool := false
  /-- Class and version of the ladder rung that the output is (R328). -/
  rung : Option (Nat × Nat) := none
  output : List Byte := []
  /-- Blocks the lanes have absorbed, and since when it waits for a lane (juggler order). -/
  blocks : Nat := 0
  waits : Nat := 0
  deriving DecidableEq, Repr, Inhabited

/-- The result of a compare entry (R294). -/
inductive CmpResult where
  | pending | pass | mismatch | fault
  deriving DecidableEq, Repr, Inhabited

/-- A compare entry in use (R293). -/
structure CmpEntry where
  no : Nat
  ctx : Nat
  owner : Nat
  expected : List Byte
  result : CmpResult
  deriving DecidableEq, Repr, Inhabited

/-- A Prefix or Feed a hart has running (DG_RESULT.Busy): context, bytes, whether it is a Prefix. -/
structure DgJob where
  ctx : Nat
  bytes : List Byte
  isPrefix : Bool
  deriving DecidableEq, Repr, Inhabited

/-- A hart's bank of DG_ registers. -/
structure DgBank where
  args : Vector Word 5 := Vector.replicate 5 0
  lastCmd : Nat := 0
  outcome : Nat := 0
  value : Nat := 0
  job : Option DgJob := none
  ctxSel : Word := 0
  cmpSel : Word := 0
  absHi : Word := 0
  deriving DecidableEq, Repr, Inhabited

/-- A lane (R267, R289): the context on it, its consecutive blocks, when it took it. -/
structure LaneState where
  ctx : Option Nat := none
  run : Nat := 0
  took : Nat := 0
  offline : Bool := false
  deriving DecidableEq, Repr, Inhabited

/-- The digest engine (R267–R302). -/
structure DigestEngine where
  ctxs : List Context := []
  cmps : List CmpEntry := []
  banks : Vector DgBank 4 := Vector.replicate 4 {}
  lanes : Vector LaneState 16 := Vector.replicate 16 {}
  laneFaults : Nat := 0
  eccFaults : Nat := 0
  cmpFaults : Nat := 0
  restarts : Nat := 0
  /-- Order counter of the juggler (the model's own). -/
  order : Nat := 0
  deriving DecidableEq, Repr, Inhabited

/-! ### Signature engine (spec/10) -/

/-- A job (R308): its descriptor as copied, the submitting hart (none: the ticket booth, R543), and whether the vault
slot it names was changed by a couch (R319). For the booth the inputs stand in the job. -/
structure SgJob where
  hart : Option Nat
  op : Nat
  source : Nat
  key : Nat
  det : Bool
  tag : Nat
  ctxLen : Nat
  msgAddr : Nat
  msgLen : Nat
  ctxAddr : Nat
  keyAddr : Nat
  sigAddr : Nat
  pkDigAddr : Nat
  /-- A reserved field of the descriptor was not zero. -/
  badReserved : Bool
  changed : Bool
  deriving DecidableEq, Repr, Inhabited

/-- A completed job in a hart's result queue (R313). -/
structure SgResult where
  tag : Nat
  op : Nat
  code : Nat
  deriving DecidableEq, Repr, Inhabited

/-- A unit: 0 and 1 verify, 2 signs and generates keys (R312, R318). -/
structure SigUnit where
  job : Option SgJob := none
  offline : Bool := false
  testing : Bool := false
  deriving DecidableEq, Repr, Inhabited

/-- The signature engine (R303–R321). -/
structure SigEngine where
  verifyQ : List SgJob := []
  signQ : List SgJob := []
  units : Vector SigUnit 3 := Vector.replicate 3 {}
  /-- The result queues, of 4 entries each (R313). -/
  results : Vector (List SgResult) 4 := Vector.replicate 4 []
  /-- Results of jobs that ended while the queue of their hart was full; they complete as it is popped
  (notes/assumptions/65.md). -/
  late : Vector (List SgResult) 4 := Vector.replicate 4 []
  verdict : Vector (Word × Word) 4 := Vector.replicate 4 (0, 0)
  unitFaults : Nat := 0
  selfCheckFails : Nat := 0
  zeroisations : Nat := 0
  restarts : Nat := 0
  /-- The restart of the engine is under way: no job starts (R318). -/
  restarting : Bool := false
  deriving DecidableEq, Repr, Inhabited

/-! ### Key vault and battery domain (spec/11) -/

/-- A root secret buffer in BBRAM (R322). -/
structure RootBuf where
  generation : Nat := 0
  secret : List Byte := zeros 64
  check : List Byte := zeros 16
  commit : Nat := 0
  deriving DecidableEq, Repr, Inhabited

/-- The battery domain: BBRAM as R98, R322 and R344 lay it out, and the pattern drivers (R339). -/
structure Battery where
  roots : Vector RootBuf 2 := Vector.replicate 2 {}
  mirror : Nat := 0
  /-- MRAM-untouched flag: 0x4843554E when set. -/
  untouched : Word := 0
  latch : Nat := 0
  firstSensor : Nat := 0
  firstPower : Nat := 0
  alarms : Nat := 0
  firstTs : Nat := 0
  firstTsHi : Word := 0
  ringNext : Nat := 0
  ringCount : Nat := 0
  ringSeq : Nat := 1
  ring : Vector (List Byte) 16 := Vector.replicate 16 (zeros 64)
  reseed : List Byte := zeros 128
  /-- The shift registers of the ten pattern drivers (T0–T7, MESH0, MESH1), from their seeds on (R339). -/
  seeds : Vector Word 10 := Vector.replicate 10 0
  /-- XtalOk has been set since the battery domain came up (R339, sensor 12). -/
  xtalSeen : Bool := false
  /-- A battery-domain loss has occurred since the counts were last valid (R414). -/
  lost : Bool := true
  /-- VBD is present: VSTBY or VBAT supplies the battery domain (R65). -/
  vbd : Bool := false
  deriving DecidableEq, Repr, Inhabited

/-- A key vault slot that is not Empty (R329): state 1 Reserved, 2 Valid; rights bit 0 KeyedDigest, 1 DigestSource,
2 Sign, 3 Keygen. -/
structure VaultSlot where
  no : Nat
  valid : Bool
  owner : Nat
  rights : Nat
  persistent : Bool := false
  pending : Bool := false
  ladder : Bool := false
  cls : Nat := 0
  version : Nat := 0
  value : List Byte := []
  deriving DecidableEq, Repr, Inhabited

/-- A hart's bank of KV_ registers. -/
structure KvBank where
  arg : Word := 0
  lastCmd : Nat := 0
  outcome : Nat := 0
  busy : Bool := false
  slotSel : Word := 0
  deriving DecidableEq, Repr, Inhabited

/-- The key vault (R323–R336), the event log key the recorder holds (R325), and TM_ registers outside the battery. -/
structure KeyVault where
  slots : List VaultSlot := []
  loadDone : Bool := false
  rootOk : Bool := false
  rootBuffer : Nat := 0
  entropyOk : Bool := false
  wk : List Byte := []
  evKey : List Byte := []
  jrnlGen : Nat := 0
  jrnlBuf : Nat := 0
  rootGen : Nat := 0
  written : Bool := false
  stagedRoot : Bool := false
  banks : Vector KvBank 4 := Vector.replicate 4 {}
  rootLock : Bool := false
  lgSel : Word := 0
  deriving DecidableEq, Repr, Inhabited

/-! ### Start-up, deckle, watermarks (spec/12) -/

/-- Where the harts stand: no power, ROM waiting at R61 or for LoadDone, ROM done and waiting for hand-over (R352),
ROM recovery (R368), stage 1, or halted in ROM (R355). -/
inductive StartPhase where
  | off | rom | loaded | recovery | stage1 | halted
  deriving DecidableEq, Repr, Inhabited

/-- A firmware image header's fields that the device keeps (R347): segments as (Kind, Offset, Length, LoadAddr). -/
structure FwHeader where
  secVer : Nat
  installGolden : Bool
  entryOffset : Nat
  blockMask : List Nat
  wmkMask : List Nat
  mramWrite : Bool
  segments : List (Nat × Nat × Nat × Nat)
  deriving DecidableEq, Repr, Inhabited

/-- A device firmware image in the image buffer, verified, that waits for step 2 of R373: who gave it, and its length. -/
structure FwUpdate where
  via : Sender
  len : Nat
  deriving DecidableEq, Repr, Inhabited

/-- SYS_ start and deckle registers, CORE domain (spec/12). -/
structure Start where
  phase : StartPhase := .off
  path : Nat := 0
  slot : Nat := 0
  tamperResp : Bool := false
  recovery : Bool := false
  activeFail : Nat := 0
  goldenFail : Nat := 0
  secVer : Nat := 0
  keySlot : Nat := 0
  resetKind : Nat := 0
  /-- The header of the image the ROM chose, and its digest. -/
  fw : Option FwHeader := none
  fwDigest : List Byte := []
  /-- SecurityVersion and KeySlot read from each failed slot (event 0x0102). -/
  failVers : List (Nat × Nat × Nat × Nat) := []
  released : Bool := false
  hartReady : Nat := 0
  /-- Harts whose PMP entries 0–6 are set and locked (R358). -/
  pmp : Nat := 0
  lock : Bool := false
  blk : Vector Nat 4 := Vector.replicate 4 0x7FFFF
  wmkMask : Vector Nat 4 := Vector.replicate 4 0xFFFFFFFF
  activeWrite : Bool := false
  goldenWrite : Bool := false
  openSlot : Bool := false
  target : Bool := false
  fwPtr : Nat := 0
  /-- The lower word of a pair written to SYS_FW_DATA (R372). -/
  fwLow : Word := 0
  wmkSel : Vector Nat 4 := Vector.replicate 4 0
  wmkIn : Vector (List Byte) 4 := Vector.replicate 4 (zeros 64)
  /-- ROM recovery: source of the image installed (1 card, 2 I3C) and slots written (event 0x0103). -/
  recovered : Option (Nat × Nat) := none
  /-- The engines that the ROM has tested at this start (R353, R354 step 4): bits 0–15 the digest lanes, bit 16 the compare
  unit, bits 17–19 the signature units. -/
  tested : Nat := 0
  /-- A fault has met an engine that the ROM uses since its last check of an image (R350, code 9). -/
  engineFault : Bool := false
  /-- Stage firmware has extended WMK3 and recorded its start (R586). -/
  measured : Bool := false
  /-- The firmware image that waits to be written to the Active slot (R373). -/
  update : Option FwUpdate := none
  deriving DecidableEq, Repr, Inhabited

/-- Watermarks WMK0–WMK31 (R361) and SlotClean (R365). -/
structure Measures where
  wmk : Vector (List Byte) 32 := Vector.replicate 32 (zeros 64)
  slotClean : Bool := false
  deriving DecidableEq, Repr, Inhabited

/-! ### CXL port (spec/15) -/

/-- A staging session (R441–R444): length, Base, frames by chunk as (chunk, frame), chunks declared, chunks popped. -/
structure StgSession where
  kind : Nat
  len : Nat
  base : Nat
  slots : List (Nat × Nat)
  declared : List Nat
  delivered : Nat
  /-- The mould opened for the session has reached Committing (R445). -/
  committed : Bool := false
  deriving DecidableEq, Repr, Inhabited

/-- Fields of configuration space that every reset of an LD resets (R435, R453), with PCIe's reset values: BAR0's base
above its 1 MiB, Memory Space and SERR# Enable, the MSI capability's enable, message and number of vectors, Device Control
and Status, Link Control. -/
structure PciFunc where
  barBase : Nat := 0
  memSpace : Bool := false
  serrEnable : Bool := false
  msiEnable : Bool := false
  msiMultiple : Nat := 0
  msiAddr : Nat := 0
  msiData : Nat := 0
  devCtl : Nat := 0x2810
  devStatus : Nat := 0
  linkCtl : Nat := 0
  /-- The DOE interrupt enable and its status (R447). -/
  doeIntEnable : Bool := false
  doeInt : Bool := false
  deriving DecidableEq, Repr, Inhabited

/-- AER registers beside the uncorrectable status and the header log (R454): masks, severity, correctable status, and the
error messages sent. -/
structure AerRegs where
  mask : Nat := 0x00400000
  severity : Nat := 0x00462030
  corr : Nat := 0
  corrMask : Nat := 0x6000
  sentCor : Nat := 0
  sentNonfatal : Nat := 0
  sentFatal : Nat := 0
  deriving DecidableEq, Repr, Inhabited

/-- The CXL RAS capability (R437, R454), with CXL 2.0's reset values. -/
structure RasCap where
  unc : Nat := 0
  uncMask : Nat := 0x1CFFF
  uncSeverity : Nat := 0x1CFFF
  cor : Nat := 0
  corMask : Nat := 0x7F
  ctrl : Nat := 0
  header : List Word := []
  deriving DecidableEq, Repr, Inhabited

/-- A logical device (R433–R454): HDM decoder, configuration space fields that bear on the block, host page, DOE
mailbox, memory device mailbox. -/
structure LogicalDev where
  viewWriteDrop : Bool := false
  channelDrop : Bool := false
  viewResets : Nat := 0
  allocated : Bool := true
  decCommitted : Bool := false
  decLocked : Bool := false
  decError : Bool := false
  decBase : Nat := 0
  decIg : Nat := 0
  /-- Mem_Enable of the CXL device DVSEC (R436, R453). -/
  memEnable : Bool := false
  busMaster : Bool := false
  tag10 : Bool := false
  d3hot : Bool := false
  msiMask : Nat := 0
  msiPending : Nat := 0
  /-- MSIs sent, by vector (R435). -/
  msiSent : Vector Nat 4 := Vector.replicate 4 0
  /-- Uncorrectable AER status and the DWs of the last logged header (R454). -/
  aerStatus : Nat := 0
  aerHeader : List Word := []
  pci : PciFunc := {}
  aer : AerRegs := {}
  ras : RasCap := {}
  stgLen : Word := 0
  stgBase : Nat := 0
  stgState : Nat := 0
  stgOutcome : Nat := 0
  stgCheck : Nat := 0
  session : Option StgSession := none
  /-- DOE: the object being answered, the response waiting to be read, DOE Error (R447). -/
  doeReq : Option (List Byte) := none
  doeRsp : Option (List Byte) := none
  doeError : Bool := false
  /-- The mailbox command in progress (R449, R452), return code and output payload of the last. -/
  mboxRunning : Option Nat := none
  mboxReturn : Nat := 0
  mboxOut : List Byte := []
  /-- The mailbox's Command register: opcode and payload length; its doorbell interrupt enable (R437). -/
  mboxCmd : Nat := 0
  mboxLength : Nat := 0
  mboxInt : Bool := false
  expFind : Word := 0
  expDig : List Byte := zeros 8
  ackOutcome : Nat := 0
  /-- An acknowledgement of this LD waits or is being served (R409). -/
  ackBusy : Bool := false
  clearOutcome : Nat := 0
  /-- Sweep page (R475, R480). -/
  swpBase : Nat := 0
  swpUnits : Nat := 0
  swpPeriod : Nat := 0
  swpOutcome : Nat := 0
  swpRegion : Nat := 0
  swpDone : Bool := false
  swpSel : Nat := 0
  swpAlert : Nat := 0
  swpRemoved : Bool := false
  swpExp : List Byte := zeros 64
  deriving DecidableEq, Repr, Inhabited

/-- A sweep region (R475–R479): state 1 Waiting, 2 Sweeping (Paused is what CX_HP_SWP_STAT shows of it while reads are
barred); bytes its last pass delivered. -/
structure SweepRegion where
  ld : Nat
  no : Nat
  base : Nat
  units : Nat
  period : Nat
  compare : Bool
  attest : Bool
  expected : List Byte
  state : Nat := 1
  lastResult : Nat := 0
  lastCause : Nat := 0
  passes : Nat := 0
  digest : List Byte := []
  lastDelivered : Nat := 0
  /-- The millisecond at which its last pass started (R478). -/
  started : Option Nat := none
  deriving DecidableEq, Repr, Inhabited

/-- A pass in progress (R476): context, bytes issued, bytes delivered to the tap, completions that wait for an earlier
one as (offset, data), and the bytes issued before the last couch instant, whose reads carry the earlier tag (R23). -/
structure SweepPass where
  ld : Nat
  no : Nat
  ctx : Nat
  issued : Nat
  delivered : Nat
  arrived : List (Nat × List Byte)
  oldUpTo : Nat
  deriving DecidableEq, Repr, Inhabited

/-- An ended pass for CX_SWP_END (R479). -/
structure SweepEnd where
  ld : Nat
  no : Nat
  ctx : Nat
  cause : Nat
  deriving DecidableEq, Repr, Inhabited

/-- The CX block (R431–R458, R475–R480). -/
structure CxlPort where
  linkUp : Bool := false
  /-- Link training runs (R431). -/
  training : Bool := false
  rate : Nat := 0
  width : Nat := 0
  cxl : Bool := false
  w64Active : Bool := false
  w64Offered : Bool := false
  w64FellBack : Bool := false
  downCount : Nat := 0
  w64Enable : Bool := true
  cfgLock : Bool := false
  corrected : Nat := 0
  discarded : Nat := 0
  /-- Discarded blocks of the last millisecond (R457). -/
  recentDiscards : Nat := 0
  /-- The sequence number of the last W64 block received and of the next one sent (R456), and the flit slots of the last data
  block received. -/
  w64RxSeq : Nat := 0
  w64TxSeq : Nat := 0
  w64Flits : List (List Byte) := []
  completerAbort : Nat := 0
  uncorrectable : Nat := 0
  lds : Vector LogicalDev 16 := Vector.replicate 16 {}
  /-- The FM-owned LD's DOE and mailbox. -/
  fm : LogicalDev := {}
  freeFrames : List Nat := List.range 16
  /-- Delivered chunks not yet popped, oldest first: (LD, chunk). -/
  ready : List (Nat × Nat) := []
  cdatSeq : Nat := 0
  regions : List SweepRegion := []
  passes : List SweepPass := []
  /-- Due passes queued for hart 1 (R478). -/
  due : List (Nat × Nat) := []
  popped : Option (Nat × Nat) := none
  ends : List SweepEnd := []
  swpDig : List Byte := zeros 64
  buckets : Vector Nat 16 := Vector.replicate 16 65536
  /-- Milliseconds of the standby timebase, as each LD's bucket has counted them (R477, R478). -/
  millis : Vector Nat 16 := Vector.replicate 16 0
  /-- The block restarts after an F1 error (R454). -/
  restarting : Bool := false
  deriving DecidableEq, Repr, Inhabited

/-- An SPDM connection (R463–R468): transport AID and source EID, version chosen, stage (0 reset, 1 GET_VERSION done,
2 capabilities, 3 algorithms), whether the algorithm selection is zero; the messages of the transcript; a held signed
response with its token; a chunked request or response in progress; when last used. -/
structure SpdmConn where
  transport : Nat
  eid : Nat
  version : Nat := 0
  stage : Nat := 0
  noAlgs : Bool := false
  vca : List Byte := []
  transB : List Byte := []
  transL : List Byte := []
  held : Option (Nat × Nat × List Byte) := none
  token : Nat := 0
  chunkIn : Option (Nat × Nat × List Byte) := none
  chunkOut : Option (Nat × Nat × List Byte) := none
  lastUsed : Nat := 0
  deriving DecidableEq, Repr, Inhabited

/-- Attestation state in hart 1's DTCM (R461–R468): connections, the certificate chain, and rung tokens (R474). -/
structure Attest where
  conns : List SpdmConn := []
  deviceId : List Byte := []
  aliasKey : List Byte := []
  chain : List Byte := []
  rungTokens : List (Nat × List Byte) := []
  uses : Nat := 0
  /-- The CHUNK_SEND_ACK that the response in progress is carried in (R466). -/
  ack : List Byte := []
  /-- Extends of commits done while no stage firmware was attached: watermark and input (R362, R473;
  notes/assumptions/101.md). -/
  owed : List (Nat × List Byte) := []
  deriving DecidableEq, Repr, Inhabited

/-! ### Mailboxes and I3C (spec/17) -/

/-- A mailbox channel (R483–R487). -/
structure Channel where
  word : Word := 0
  full : Bool := false
  senderEpoch : Bool := false
  drop : Bool := false
  lost : Bool := false
  lostCount : Nat := 0
  deriving DecidableEq, Repr, Inhabited

/-- The MB block, kept through Deep Sleep but for the CORE interrupt enables (R488). `irqs` counts the machine
external interrupts raised at each hart. -/
structure Mailboxes where
  chans : Vector Channel 128 := Vector.replicate 128 {}
  irqEn : Vector (Vector Word 4) 4 := Vector.replicate 4 (Vector.replicate 4 0)
  irqs : Vector Nat 4 := Vector.replicate 4 0
  deriving DecidableEq, Repr, Inhabited

/-- A transfer session of an I3C port (R497). -/
structure Transfer where
  kind : Nat
  len : Nat
  data : List Byte
  deriving DecidableEq, Repr, Inhabited

/-- A message being reassembled from MCTP packets (R493), with how many packets it has so far (event 0x0B11). -/
structure Reassembly where
  src : Nat
  tag : Nat
  seq : Nat
  packets : Nat
  data : List Byte
  deriving DecidableEq, Repr, Inhabited

/-- An I3C port (R492–R497). -/
structure I3cPort where
  /-- A dynamic address is assigned; kept until RSTDAA or MAIN reset, and through Deep Sleep (R556). -/
  daValid : Bool := false
  dynAddr : Nat := 0
  ibiEnabled : Bool := false
  eid : Nat := 0
  mwl : Nat := 69
  mrl : Nat := 69
  rstAction : Nat := 1
  select : Option Nat := none
  rx : List McPacket := []
  asm : List Reassembly := []
  /-- Source and tag of the discarded messages whose later packets are still to come: those are dropped without another
  record (R493). -/
  dropping : List (Nat × Nat) := []
  /-- Whole messages received and not yet served, as (source, tag, bytes). -/
  msgs : List (Nat × Nat × List Byte) := []
  /-- Response packets waiting for the controller, each from its MCTP header on. -/
  tx : List (List Byte) := []
  session : Option Transfer := none
  /-- The session's content is being consumed (R497): Tag of the Transfer end, and source and tag of its message. -/
  ending : Option (Nat × Nat × Nat) := none
  /-- Hart 0 is loading the SI of this port's session (R371, R444). -/
  loading : Bool := false
  /-- Pending in-band interrupts: a channel, or 0x80 for the pending-read IBI. -/
  ibis : List Nat := []
  /-- Channels whose interrupt waits for ENEC (R489). -/
  ibiWait : List Nat := []
  /-- What a MAIN reset found in the port, recorded as it is released (R496): packets discarded, and Kind and length of the
  session it ended. -/
  note : Option (Nat × Option (Nat × Nat)) := none
  nacks : Nat := 0
  discarded : Nat := 0
  resets : Nat := 0
  deriving DecidableEq, Repr, Inhabited

/-! ### Card port (spec/18) -/

/-- What the port's command is doing (R508): none, waiting for the slot's power to settle (R500), waiting for the response,
reading, sending write data before the token, busy, waiting out the detect hold (R507). -/
inductive CardPhase where
  | none | settling | response | read | writeData | busy | hold
  deriving DecidableEq, Repr, Inhabited

/-- A card slot: CD_SLOTs_INFO fields and the settling times of R500. -/
structure CardSlot where
  rca : Nat := 0
  type : Nat := 0
  speed : Nat := 0
  permWp : Bool := false
  tmpWp : Bool := false
  highCap : Bool := false
  state : Nat := 0
  /-- Reason of an Unsupported slot (event 0x0D03). -/
  reason : Nat := 0
  /-- Kn_PWR has been high for 5 ms. -/
  settled : Bool := false
  deriving DecidableEq, Repr, Inhabited

/-- The CD block: CARD domain but for the CORE window and the STBY slot status. -/
structure CardPort where
  slots : Vector CardSlot 4 := Vector.replicate 4 {}
  clock : Nat := 0
  wide : Bool := false
  openDrain : Bool := true
  /-- 0 no mode, 1 MMC, 2 SD (R501). -/
  mode : Nat := 0
  cmd : Word := 0
  arg : Word := 0
  xfer : Word := 0x2000000
  bufOff : Word := 0
  busy : Bool := false
  done : Bool := false
  outcome : Nat := 0
  blocksDone : Nat := 0
  resp : Vector Word 4 := Vector.replicate 4 0
  phase : CardPhase := .none
  /-- The check CMD2 after a CMD3 is on the bus (R502). -/
  checkCmd2 : Bool := false
  /-- A core reset has abandoned the command: it ends with its current block (R39). -/
  abandoned : Bool := false
  deriving DecidableEq, Repr, Inhabited

/-- CD_BUF and CD_CFG, CORE, and what hart 3 has in hand for a card. -/
structure CardWindow where
  base : Word := 0
  len : Word := 0
  lock : Bool := false
  /-- The SI of a card that hart 0 is loading, as slot and length (R518). -/
  siLoad : Option (Nat × Nat) := none
  /-- The card's acknowledgement that found the LG busy or recovering, as N and G: it is written again (R407, R515). -/
  ack : Option (Nat × List Byte) := none
  /-- Hart 3 has taken up the port since stage 1 attached (R509). -/
  taken : Bool := false
  deriving DecidableEq, Repr, Inhabited

/-- CD_SLOT_STAT (STBY) and the 10 ms power-off times (R500). -/
structure CardStat where
  present : Nat := 0
  powered : Nat := 0
  changed : Nat := 0
  poweringOff : Nat := 0
  deriving DecidableEq, Repr, Inhabited

/-! ### Life cycle, debug, JTAG (spec/19) -/

/-- The life-cycle controller; OTP words that are not zero as (word, value). -/
structure LifeCycle where
  otp : List (Nat × Nat) := []
  /-- The decoded state (R524), 0–7 in state order; 8 Indeterminate. Test-Unlocked is never decoded. -/
  state : Nat := 0
  /-- The burn in progress: word, value burned so far is already in `otp` once it completes; target state code. -/
  burn : Option (Nat × Nat) := none
  wipe : Option Nat := none
  lastCmd : Nat := 0
  outcome : Nat := 0
  detail : Nat := 0
  otpIdx : Nat := 0
  otpLo : Word := 0
  otpHi : Word := 0
  token : List Byte := zeros 64
  /-- A token mismatch since the last MAIN reset (R534). -/
  mismatch : Bool := false
  scanAllow : Bool := false
  /-- Scan mode is entered by a private instruction (R536). -/
  scanning : Bool := false
  mbistTarget : Nat := 0
  mbistRunning : Bool := false
  mbistDone : Bool := false
  mbistFail : Bool := false
  mramTest : Bool := false
  deriving DecidableEq, Repr, Inhabited

/-- The ticket booth (R538–R548). -/
structure Booth where
  level : Nat := 0
  /-- The nonce outstanding. -/
  nonce : Option (List Byte) := none
  chal : List Byte := zeros 64
  vaultLocked : Bool := false
  armed : Option Nat := none
  /-- A Submit whose verify job runs: its source (1 BOOTH, 2 hart) and the ticket as submitted. -/
  checking : Option (Nat × List Byte) := none
  lastResult : Nat := 0
  lastKeyKind : Nat := 0
  lastKeySlot : Nat := 0
  tktPtr : Nat := 0
  ticket : List Byte := zeros 5344
  /-- Harts halted by debug, as a bitmap, and halt-on-reset (R538). -/
  halted : Nat := 0
  haltOnReset : Bool := false
  /-- dcsr.step of each hart. -/
  stepping : Nat := 0
  deriving DecidableEq, Repr, Inhabited

/-- The JTAG port (R539): the instruction, the last word read through BOOTH, the boundary cells EXTEST drives. -/
structure Jtag where
  ir : Nat := 0x01
  boothData : Word := 0
  extest : List Bool := []
  deriving DecidableEq, Repr, Inhabited

/-! ### The device -/

/-- Memory: the cells in canonical form, and how often the volatile memory, and its part that a wake keeps (R90), have been
lost: what was lost reads as free bytes (notes/assumptions/9.md). -/
structure Memory where
  cells : List Host.Cell := []
  lost : Nat := 0
  keptLost : Nat := 0
  deriving DecidableEq, Repr, Inhabited

/-- Everything the device holds. -/
structure Device where
  pins : Pins := {}
  junction : Junction := {}
  guard : Guard := {}
  clock : Clock := {}
  power : Power := {}
  lastF2 : LastF2 := {}
  /-- Memory bytes by key (notes/assumptions/8.md): the internal map and each hart's TCMs. -/
  mem : Memory := {}
  /-- Words stored with injected flips, by word address, with the flip kind (EC_INJECT). -/
  flipped : List (Nat × Nat) := []
  start : Start := {}
  measures : Measures := {}
  ev : Recorder := {}
  lg : Ledger := {}
  ec : Errors := {}
  pt : Funhouse := {}
  tx : Couch := {}
  gf : GuardFabric := {}
  is_ : ImageStore := {}
  dg : DigestEngine := {}
  sg : SigEngine := {}
  bat : Battery := {}
  /-- TM_SENSOR.Live (STBY). -/
  sensorLive : Nat := 0
  kv : KeyVault := {}
  cx : CxlPort := {}
  att : Attest := {}
  mb : Mailboxes := {}
  mg : Vector I3cPort 2 := Vector.replicate 2 {}
  cd : CardPort := {}
  cdWin : CardWindow := {}
  cdStat : CardStat := {}
  lc : LifeCycle := {}
  db : Booth := {}
  jtag : Jtag := {}
  /-- What the last command returned on its interface (the model's own, notes/assumptions/2.md). -/
  reply : List Byte := []
  /-- How many free bytes have been taken (the model's own, notes/assumptions/5.md). -/
  free : Nat := 0
  deriving DecidableEq, Repr, Inhabited

/-! ### Faults and refusals -/

/-- A stop the manual describes. The model has none: every error the manual describes leaves a next state. -/
inductive Fault where
  /-- Raised by no command; the manual gives the block no stuck state. Safe. -/
  | none
  deriving DecidableEq, Repr, Inhabited

/-- A command turned away by the model. -/
inductive Refusal where
  /-- A command without a meaning, by its mnemonic. Safe: the model stops where the device goes on. -/
  | notModelled (mnemonic : String)
  deriving DecidableEq, Repr, Inhabited

/-- The machine: the device and the commands that wait, first in, first out. -/
structure State where
  dev : Device
  pending : List Instr
  deriving DecidableEq, Repr, Inhabited

/-- The machine right after reset: a battery-domain reset with no power (spec/20, R564), every field at the value of
its structure, memory with nothing listed, no command waiting. -/
def State.reset : State := { dev := {}, pending := [] }

end Sys2Proof.Machine
end

