-- ==== Sys2Proof/Machine/Digest.lean ====
section
/-! DEFINITION. The digest engine on its own state (spec/09_digest_engine.md, R267–R302): contexts, taps, juggler,
compare unit. Machine/DigestCmds.lean makes the commands of it. -/

namespace Sys2Proof.Machine

/-- A context's record, where it is not Free. -/
def ctxOf (dg : DigestEngine) (n : Nat) : Option Context := dg.ctxs.find? (fun c => c.no == n)

/-- A context's record replaced. -/
def setCtx (dg : DigestEngine) (c : Context) : DigestEngine :=
  { dg with ctxs := dg.ctxs.map (fun x => if x.no == c.no then c else x) }

/-- The lowest free context. -/
def freeCtx (dg : DigestEngine) : Option Nat := (List.range 4096).find? (fun n => (ctxOf dg n).isNone)

/-- The lowest free compare entry. -/
def freeCmp (dg : DigestEngine) : Option Nat := (List.range 256).find? (fun n => !dg.cmps.any (fun e => e.no == n))

/-- The key block of R273. -/
def keyBlock (k : List Byte) : List Byte := [0x01, 0x88, 0x02, 0x02, 0x00] ++ padTo 64 k ++ zeros 67

/-- The output of a context (R274): the sponge over all it absorbed. -/
def ctxOutput (c : Context) : List Byte := sponge c.domain (c.head ++ c.msg ++ c.suffix) c.outLen

/-- Blocks of 136 bytes a context has ready for a lane; a finalised one counts its last block (R288). -/
def blocksReady (c : Context) : Nat :=
  let n := c.head.length + c.msg.length
  match c.state with
  | .final_ => (n + c.suffix.length) / 136 + 1
  | .closed => 0
  | .faulted => 0
  | _ => n / 136

/-- A context is Ready (R288). -/
def ctxReady (c : Context) : Bool := decide (c.blocks < blocksReady c)

/-- A context's record after new input: one that becomes Ready waits for a lane from now on (R289). -/
def putCtx (dg : DigestEngine) (c : Context) : DigestEngine :=
  if ctxReady c && !(ctxOf dg c.no).any ctxReady then { setCtx dg { c with waits := dg.order } with order := dg.order + 1 }
  else setCtx dg c

/-- The context is on a lane. -/
def onLane (dg : DigestEngine) (n : Nat) : Bool := dg.lanes.toList.any (fun l => l.ctx == some n)

/-- The Ready context an idle lane takes: highest class (lowest number), longest waiting (R289). -/
def nextReady (dg : DigestEngine) : Option Context :=
  (dg.ctxs.filter (fun c => ctxReady c && !onLane dg c.no)).foldl (fun acc c =>
    match acc with
    | none => some c
    | some b => if c.cls < b.cls || (c.cls == b.cls && decide (c.waits < b.waits)) then some c else some b) none

/-- An idle lane takes the next Ready context. -/
def assignLane (dg : DigestEngine) (l : Lane) : DigestEngine :=
  if dg.lanes[l].ctx.isSome || dg.lanes[l].offline then dg
  else match nextReady dg with
    | none => dg
    | some c => { dg with lanes := dg.lanes.set l { ctx := some c.no, run := 0, took := dg.order, offline := false }
                          order := dg.order + 1 }

/-- Every idle lane takes a Ready context, where there is one (R289). -/
def juggle (dg : DigestEngine) : DigestEngine := (List.finRange 16).foldl assignLane dg

/-- A context leaves its lane. -/
def offLanes (dg : DigestEngine) (n : Nat) : DigestEngine :=
  { dg with lanes := dg.lanes.map (fun l => if l.ctx == some n then { l with ctx := none, run := 0 } else l) }

/-- The lane that a waiting Ready context of class `cls` switches out: the lowest class below it, longest running
(R289). -/
def victimLane (dg : DigestEngine) (cls : Nat) : Option Nat :=
  ((dg.lanes.toList.zipIdx.filter (fun p =>
      match p.1.ctx.bind (ctxOf dg) with
      | some c => decide (cls < c.cls)
      | none => false)).foldl (fun acc p =>
    let pc := ((p.1.ctx.bind (ctxOf dg)).map (·.cls)).getD 0
    match acc with
    | none => some (p.2, pc, p.1.took)
    | some q => if q.2.1 < pc || (q.2.1 == pc && decide (p.1.took < q.2.2)) then some (p.2, pc, p.1.took) else some q)
    none).map (·.1)

/-- LANE_BLOCK_ABSORBED (R289): the lane's context has one block less to go; at this boundary it stays, yields or is
switched out, and idle lanes take the next contexts. -/
def laneBlock (dg : DigestEngine) (l : Lane) : DigestEngine :=
  match dg.lanes[l].ctx.bind (ctxOf dg) with
  | none => juggle { dg with lanes := dg.lanes.set l { dg.lanes[l] with ctx := none, run := 0 } }
  | some c =>
    let c1 := { c with blocks := c.blocks + 1 }
    let dg1 := setCtx dg c1
    let run := dg.lanes[l].run + 1
    let peers := dg1.ctxs.any (fun x => ctxReady x && !onLane dg1 x.no && x.cls == c.cls)
    let outrank := match nextReady dg1 with
      | some n => decide (n.cls < c.cls) && victimLane dg1 n.cls == some l.val
      | none => false
    if ctxReady c1 && !(peers && decide (32 ≤ run)) && !outrank then
      { dg1 with lanes := dg1.lanes.set l { dg1.lanes[l] with run := run } }
    else
      juggle { setCtx dg1 { c1 with waits := dg1.order } with
        lanes := dg1.lanes.set l { dg1.lanes[l] with ctx := none, run := 0 }, order := dg1.order + 1 }

/-- What a step of the engine gives beside its state: events as (code, severity, parameters without the epoch), and an
output for a vault slot as slot, bytes, owner, and class and version where it is a ladder rung (R328). -/
structure DgOut where
  dg : DigestEngine
  events : List (Nat × Nat × List Nat) := []
  install : Option (Nat × List Byte × Nat × Option (Nat × Nat)) := none

/-- Finalisation (R285): state Final, tap unbound, the committed epoch recorded. -/
def finalise (epoch : Nat) (c : Context) : Context := { c with state := .final_, tap := none, epoch := epoch }

/-- Message bytes offered to a context in Absorbing (R285): those within DeclaredLen are absorbed; more set TRUNC; the
length reached finalises. -/
def feedBytes (epoch : Nat) (bs : List Byte) (c : Context) : Context :=
  let room := c.declLen - c.msg.length
  let c1 := { c with msg := c.msg ++ bs.take room, trunc := c.trunc || decide (room < bs.length) }
  if c1.msg.length = c1.declLen then finalise epoch c1 else c1

/-- Feed bytes with event 0x0504 where more than DeclaredLen came. -/
def feedCtx (epoch : Nat) (bs : List Byte) (c : Context) (dg : DigestEngine) : DgOut :=
  let c1 := feedBytes epoch bs c
  { dg := juggle (putCtx dg c1)
    events := if c.declLen - c.msg.length < bs.length then [(0x0504, 3, [c.no, c.owner, c.declLen, c.msg.length + bs.length])] else [] }

/-- A burst reaches a sequential tap (R281). -/
def tapBurst (epoch off : Nat) (data : List Byte) (c : Context) (dg : DigestEngine) : DgOut :=
  match c.tap with
  | none => { dg := dg }
  | some t =>
    if c.gap || c.state != .absorbing then { dg := dg }
    else if off + data.length ≤ t.next then { dg := dg }
    else if t.next < off then
      { dg := setCtx dg { c with gap := true }, events := [(0x0506, 3, [c.no, c.owner, t.next, off])] }
    else
      let bs := data.drop (t.next - off)
      feedCtx epoch bs { c with tap := some { t with next := t.next + bs.length } } dg

/-- The verdict of an entry on a Closed or Faulted context (R294). -/
def cmpVerdict (c : Context) (expected : List Byte) : CmpResult :=
  if c.state = .faulted then .fault
  else if c.output == expected && c.output.length == 64 && !c.trunc && !c.short && !c.gap then .pass
  else .mismatch

/-- The flags parameter of event 0x0501. -/
def ctxFlags (c : Context) : Nat := flag c.trunc + 2 * flag c.short + 4 * flag c.gap

/-- The pending entry armed on a context is decided (R294); a pass sets Passed (R296). -/
def decideEntry (c : Context) (dg : DigestEngine) : DgOut :=
  match dg.cmps.find? (fun e => e.ctx == c.no && e.result == .pending) with
  | none => { dg := dg }
  | some e =>
    let v := cmpVerdict c e.expected
    let dg1 := { dg with cmps := dg.cmps.map (fun x => if x.no == e.no then { x with result := v } else x)
                         cmpFaults := if v = .fault then satAdd 8 dg.cmpFaults 1 else dg.cmpFaults }
    { dg := if v = .pass then setCtx dg1 { c with passed := true } else dg1
      events := match v with
        | .mismatch => [(0x0501, 3, [c.no, e.no, e.owner, ctxFlags c])]
        | .fault => [(0x0502, 5, [c.no, e.no, e.owner, 0])]
        | _ => [] }

/-- CONTEXT_SQUEEZE_DONE (R274, R292, R296): a Final context is Closed with its output, and its entry is decided. -/
def squeezeCtx (c : Context) (dg : DigestEngine) : DgOut :=
  let out := if c.gap then [] else ctxOutput c
  let c1 := { c with state := .closed, output := out, blocks := blocksReady c }
  let r := decideEntry c1 (juggle (offLanes (setCtx dg c1) c.no))
  { r with install := if c.outDest = 1 ∧ c.gap = false then some (c.destSlot, out, c.owner, c.rung) else none }

/-- The end of a stream (R286): a context with fewer bytes than declared is Closed with SHORT. -/
def closeStream (c : Context) (dg : DigestEngine) : DgOut :=
  if c.state = .absorbing ∧ c.msg.length < c.declLen then
    let c1 := { c with state := .closed, short := true, tap := none }
    let r := decideEntry c1 (juggle (offLanes (setCtx dg c1) c.no))
    { r with events := (0x0505, 3, [c.no, c.owner, c.declLen, c.msg.length]) :: r.events }
  else { dg := setCtx dg { c with tap := none } }

/-- Free (R270): the context and the entry armed on it are gone. -/
def freeContext (n : Nat) (dg : DigestEngine) : DigestEngine :=
  juggle { offLanes dg n with
    ctxs := (offLanes dg n).ctxs.filter (fun c => c.no != n)
    cmps := (offLanes dg n).cmps.filter (fun e => e.ctx != n) }

/-- A context becomes Faulted (R298–R300); its entry is decided as Fault. Cause and lane go into event 0x0503. -/
def faultCtx (cause lane : Nat) (c : Context) (dg : DigestEngine) : DgOut :=
  let c1 := { c with state := .faulted, tap := none, output := [],
                     head := if cause = 4 then [] else c.head, msg := if cause = 4 then [] else c.msg }
  let r := decideEntry c1 (juggle (offLanes (setCtx dg c1) c.no))
  { r with events := (0x0503, 4, [c.no, c.owner, cause, lane]) :: r.events }

/-- Every context that satisfies `p` becomes Faulted. -/
def faultAll (cause : Nat) (p : Context → Bool) (dg : DigestEngine) : DgOut :=
  (dg.ctxs.filter p).foldl (fun acc c =>
    let r := faultCtx cause 0 ((ctxOf acc.dg c.no).getD c) acc.dg
    { dg := r.dg, events := acc.events ++ r.events }) { dg := dg }

/-- An open context that is not yet Closed (R299). -/
def ctxOpen (c : Context) : Bool := c.state == .prefix_ || c.state == .absorbing || c.state == .final_

/-- A tamper alarm or key vault clear (R300): every keyed context not yet Closed. -/
def vaultClearContexts (dg : DigestEngine) : DgOut := faultAll 4 (fun c => c.keyed && ctxOpen c) dg

/-- An engine restart (R299): every context in Prefix, Absorbing or Final is Faulted. -/
def restartEngine (dg : DigestEngine) : DgOut :=
  let nCtx := (dg.ctxs.filter ctxOpen).length
  let nEnt := (dg.cmps.filter (fun e => e.result == .pending && dg.ctxs.any (fun c => c.no == e.ctx && ctxOpen c))).length
  let r := faultAll 3 ctxOpen { dg with lanes := dg.lanes.map (fun l => { l with ctx := none, run := 0 }) }
  { dg := { r.dg with restarts := satAdd 8 r.dg.restarts 1
                      banks := r.dg.banks.map (fun b => { b with job := none }) }
    events := r.events ++ [(0x0508, 4, [nCtx, nEnt, 0, 0])] }

/-- A core reset on the engine (R34, R297): contexts of harts without a tap are freed; the banks are reset. -/
def coreResetDigest (dg : DigestEngine) : DigestEngine :=
  let gone := (dg.ctxs.filter (fun c => decide (0x10 ≤ c.owner ∧ c.owner ≤ 0x13) && c.tap.isNone)).map (·.no)
  { gone.foldl (fun acc n => freeContext n acc) dg with banks := Vector.replicate 4 {} }

/-- Arm an entry (R293): decided at once where the context is already Closed or Faulted (R294). -/
def armEntry (no : Nat) (c : Context) (expected : List Byte) (dg : DigestEngine) : DgOut :=
  let dg1 := { dg with cmps := dg.cmps ++ [{ no := no, ctx := c.no, owner := c.owner, expected := expected, result := .pending }] }
  if c.state = .closed ∨ c.state = .faulted then decideEntry c dg1 else { dg := dg1 }

/-- A class with its message source (R288). -/
def classOk (cls source : Nat) : Bool := if source = 1 then cls == 0 || cls == 3 else cls == 1 || cls == 2

/-- The registers a compare entry shows (R294): DG_CMP_RES and DG_CMP_RESN. -/
def cmpRegs (r : CmpResult) : Word × Word :=
  match r with
  | .pass => (0x6B3D94C2, 0x94C26B3D)
  | .mismatch => (0x00000000, 0xFFFFFFFF)
  | .pending => (0x5A5A5A5A, 0xA5A5A5A5)
  | .fault => (0x00000000, 0x00000000)

end Sys2Proof.Machine
end

