-- ==== Sys2Proof/Machine/Memory.lean ====
section
/-! DEFINITION. Memory: one list of cells in canonical form (spec/03_address_map.md, R87–R97). Keys below 2^32 are the
internal map; the TCMs of hart h start at 2^36 + h·2^18 (notes/assumptions/8.md). -/

namespace Sys2Proof.Machine

/-- Base of shared working SRAM (R87). -/
def sramBase : Nat := 0x20000000
/-- Base of the image store (R87). -/
def storeBase : Nat := 0x40000000
/-- Base of the MRAM window (R87). -/
def mramBase : Nat := 0x50000000
/-- Base of the staging frames (R97). -/
def frameBase : Nat := 0x52000000
/-- MRAM regions (R95), as internal addresses. -/
def fwActiveBase : Nat := 0x50000000
/-- Firmware Golden slot. -/
def fwGoldenBase : Nat := 0x50300000
/-- SI Active. -/
def siActiveBase : Nat := 0x50600000
/-- SI Pending. -/
def siPendingBase : Nat := 0x50700000
/-- Ream. -/
def reamBase : Nat := 0x50800000
/-- Event log. -/
def eventBase : Nat := 0x51800000
/-- Key journal. -/
def keyJournalBase : Nat := 0x51C00000
/-- Couch journal. -/
def couchJournalBase : Nat := 0x51C80000
/-- Key of a hart's TCM byte at internal address `a` (R89). -/
def tcmKey (h a : Nat) : Nat := 2 ^ 36 + h * 2 ^ 18 + (a - 0x10000000)

/-- The key lies in MRAM, whose contents are kept. -/
def mramKey (a : Nat) : Bool := decide (mramBase ≤ a ∧ a < frameBase)

/-- What an MRAM byte that nothing has written reads as (notes/assumptions/9.md): the sequence number of an unwritten event
record 0xFFFFFFFF (R418); zero elsewhere. -/
def mramRest (a : Nat) : Byte :=
  if eventBase ≤ a ∧ a < keyJournalBase ∧ 8 ≤ a % 64 ∧ a % 64 < 12 then 0xFF else 0

/-- Memory that a loss of main power or a MAIN reset leaves undefined (R90, R97, R551): everything outside MRAM, but for
the retained part of shared working SRAM on a wake. -/
def volatileKey (wake : Bool) (a : Nat) : Bool :=
  !mramKey a && !(wake && decide (sramBase ≤ a ∧ a < sramBase + 0x40000))

/-- The ROM identity (R363): the 64 bytes at ROM offset 0x1_FFC0 are the SHAKE256 digest of the ROM's bytes below. -/
def romIdentity : List Byte := shake256 ((List.range 0x1FFC0).map Config.romByte) 64

/-- A byte of the boot ROM (R87, R363). -/
def romAt (a : Nat) : Byte := if a < 0x1FFC0 then Config.romByte a else romIdentity.getD (a - 0x1FFC0) 0

/-- What a byte that is not listed reads as: MRAM at rest, the boot ROM's byte (R87), or a free byte of volatile memory. -/
def unlisted (m : Memory) (a : Nat) : Byte :=
  if mramKey a then mramRest a
  else if a < 0x20000 then romAt a
  else Config.ramByte (if volatileKey true a then m.lost else m.keptLost) a

/-- A value that need not be listed. -/
def elided (a : Nat) (v : Byte) : Bool := mramKey a && v == mramRest a

/-- The byte listed for a key. -/
def cellGet : List Host.Cell → Nat → Option Byte
  | [], _ => none
  | (k, v) :: tl, a => if k = a then some v else if a < k then none else cellGet tl a

/-- A byte listed for a key; the canonical form is kept. -/
def cellSet : List Host.Cell → Nat → Byte → List Host.Cell
  | [], a, v => if elided a v then [] else [(a, v)]
  | (k, w) :: tl, a, v =>
    if a < k then (if elided a v then (k, w) :: tl else (a, v) :: (k, w) :: tl)
    else if a = k then (if elided a v then tl else (a, v) :: tl)
    else (k, w) :: cellSet tl a v

/-- The canonical form: keys strictly rising and above `lo`, no MRAM cell equal to what an unlisted key reads as. -/
def cellsWf : Nat → List Host.Cell → Bool
  | _, [] => true
  | lo, (k, v) :: tl => decide (lo ≤ k) && !elided k v && cellsWf (k + 1) tl

/-- Memory is in canonical form. -/
def Memory.wf (m : Memory) : Bool := cellsWf 0 m.cells

/-- A byte of memory. -/
def memGet (m : Memory) (a : Nat) : Byte := (cellGet m.cells a).getD (unlisted m a)

/-- A byte written. -/
def memSet (m : Memory) (a : Nat) (v : Byte) : Memory := { m with cells := cellSet m.cells a v }

/-- Volatile memory lost (R90, R97, R551). -/
def memLose (wake : Bool) (m : Memory) : Memory where
  cells := m.cells.filter (fun c => !volatileKey wake c.1)
  lost := m.lost + 1
  keptLost := if wake then m.keptLost else m.keptLost + 1

/-- Bytes written from an address up. -/
def memWrite : Memory → Nat → List Byte → Memory
  | m, _, [] => m
  | m, a, b :: bs => memWrite (memSet m a b) (a + 1) bs

/-- `n` bytes filled with a value. -/
def memFill : Memory → Nat → Nat → Byte → Memory
  | m, _, 0, _ => m
  | m, a, n + 1, v => memFill (memSet m a v) (a + 1) n v

/-- `n` bytes read. -/
def memRead (m : Memory) (a n : Nat) : List Byte := (List.range n).map fun i => memGet m (a + i)

/-- The little-endian number in `n` bytes of memory (R5). -/
def memLe (m : Memory) (a n : Nat) : Nat := leNat (memRead m a n)

/-- A copy of `n` bytes. -/
def memCopy (m : Memory) (src dst n : Nat) : Memory := memWrite m dst (memRead m src n)

end Sys2Proof.Machine
end

