-- ==== Sys2Proof/Machine/Keys.lean ====
section
/-! DEFINITION. Root secret, key vault and key journal on their own state (spec/11_keys_and_tamper.md, R322–R345).
Machine/KeyCmds.lean makes the commands of it. -/

namespace Sys2Proof.Machine

/-- A derivation from a root (R325): KMAC256 over label and parameter, 64 bytes. -/
def derive (root : List Byte) (label : String) (param : Nat) : List Byte :=
  kmac256 root (ascii label ++ leBytes 2 param) 64 []

/-- A ladder rung `n` steps below the top (R327). -/
def ladderDown : Nat → List Byte → List Byte
  | 0, k => k
  | n + 1, k => ladderDown n (shake256 k 64)

/-- Rung `v` of a class (R327). -/
def ladderRung (root : List Byte) (cls v : Nat) : List Byte := ladderDown (255 - v) (derive root "ladder" cls)

/-- The Check of a root buffer (R322). -/
def rootCheck (gen : Nat) (secret : List Byte) : List Byte := shake256 (leBytes 4 gen ++ secret) 16

/-- The CommitWord of a root buffer (R322). -/
def rootCommit (gen : Nat) : Nat := 0x544F4F5200000000 + gen

/-- The CommitWord of a key journal generation (R333). -/
def journalCommit (gen : Nat) : Nat := 0x544D4B4300000000 + gen

/-- Status of a root buffer for a RootGeneration limit (event 0x0407): 0 qualifies, 1 CommitWord bad, 2 Check bad,
3 generation too high. -/
def rootStatus (limit : Nat) (b : RootBuf) : Nat :=
  if b.commit ≠ rootCommit b.generation then 1
  else if b.check ≠ rootCheck b.generation b.secret then 2
  else if limit < b.generation then 3 else 0

/-- The active root buffer (R323). -/
def selectRoot (limit : Nat) (roots : Vector RootBuf 2) : Option Nat :=
  let ok0 := rootStatus limit roots[0] == 0
  let ok1 := rootStatus limit roots[1] == 0
  if ok0 && ok1 then some (if roots[0].generation < roots[1].generation then 1 else 0)
  else if ok0 then some 0 else if ok1 then some 1 else none

/-- Address of key journal buffer `b` (R333). -/
def keyBuf (b : Nat) : Nat := keyJournalBase + b * 0x40000

/-- A key journal buffer holds a committed generation (R333). -/
def keyBufOk (m : Memory) (b : Nat) : Bool :=
  memLe m (keyBuf b) 4 == 0x4A4B5842 && memLe m (keyBuf b + 4) 2 == 1 &&
    memLe m (keyBuf b + 0x3FFF8) 8 == journalCommit (memLe m (keyBuf b + 8) 4)

/-- The buffer of the committed generation (R333). -/
def committedBuf (m : Memory) : Option Nat :=
  let ok0 := keyBufOk m 0
  let ok1 := keyBufOk m 1
  if ok0 && ok1 then some (if memLe m (keyBuf 0 + 8) 4 < memLe m (keyBuf 1 + 8) 4 then 1 else 0)
  else if ok0 then some 0 else if ok1 then some 1 else none

/-- The byte-wise exclusive or of two strings. -/
def xorBytes (a b : List Byte) : List Byte := a.zipWith (· ^^^ ·) b

/-- KV_SLOT_ATTR of a slot (R329). -/
def slotAttr (s : VaultSlot) : Word :=
  pack [(0, 2, if s.valid then 2 else 1), (2, 1, flag s.persistent), (3, 1, flag s.pending), (4, 4, s.rights), (8, 8, s.owner)]

/-- KV_SLOT_LADDER of a slot (R329). -/
def slotLadder (s : VaultSlot) : Word := pack [(0, 16, s.cls), (16, 8, s.version), (24, 1, flag s.ladder)]

/-- The stream a slot's key is wrapped with (R333). -/
def wrapStream (wk : List Byte) (gen slot : Nat) : List Byte :=
  kmac256 wk (ascii "wrap" ++ leBytes 4 gen ++ leBytes 1 slot) 64 []

/-- The Tag of a journal entry (R333). -/
def entryTag (wk : List Byte) (gen slot : Nat) (attr ladder cipher : List Byte) : List Byte :=
  kmac256 wk (ascii "jtag" ++ leBytes 4 gen ++ leBytes 1 slot ++ attr ++ ladder ++ cipher) 16 []

/-- A journal entry (R333). -/
def journalEntry (wk : List Byte) (gen : Nat) (s : VaultSlot) : List Byte :=
  let attr := leBytes 4 (slotAttr { s with valid := true, persistent := true, pending := false }).toNat
  let lad := leBytes 4 (slotLadder s).toNat
  let cipher := xorBytes (padTo 64 s.value) (wrapStream wk gen s.no)
  leBytes 1 s.no ++ zeros 3 ++ attr ++ lad ++ zeros 4 ++ cipher ++ entryTag wk gen s.no attr lad cipher ++ zeros 32

/-- A key journal buffer with its header and entries and no commit word (R334). -/
def journalImage (wk : List Byte) (gen rootGen : Nat) (hasRoot : Bool) (slots : List VaultSlot) : List Byte :=
  leBytes 4 0x4A4B5842 ++ leBytes 2 1 ++ leBytes 2 slots.length ++ leBytes 4 gen ++ leBytes 4 (flag hasRoot) ++
    leBytes 4 rootGen ++ zeros 44 ++ slots.flatMap (journalEntry wk gen)

/-- Entry `i` of a buffer as a slot; none where its Tag fails (R333). -/
def readEntry (m : Memory) (wk : List Byte) (gen b i : Nat) : Option VaultSlot :=
  let o := keyBuf b + 0x40 + 128 * i
  let no := memLe m o 1
  let attr := memRead m (o + 4) 4
  let lad := memRead m (o + 8) 4
  let cipher := memRead m (o + 16) 64
  if memRead m (o + 80) 16 == entryTag wk gen no attr lad cipher then
    let aw : Word := BitVec.ofNat 32 (leNat attr)
    let lw : Word := BitVec.ofNat 32 (leNat lad)
    some { no := no, valid := true, owner := field aw 8 8, rights := field aw 4 4, persistent := true, pending := false,
           ladder := bit lw 24, cls := field lw 0 16, version := field lw 16 8,
           value := xorBytes cipher (wrapStream wk gen no) }
  else none

/-- A slot of the vault. -/
def slotOf (kv : KeyVault) (n : Nat) : Option VaultSlot := kv.slots.find? (fun s => s.no == n)

/-- A slot set or replaced; slots stay in ascending order. -/
def setSlot (kv : KeyVault) (s : VaultSlot) : KeyVault :=
  { kv with slots := (kv.slots.filter (fun x => decide (x.no < s.no))) ++ [s] ++ (kv.slots.filter (fun x => decide (s.no < x.no))) }

/-- A slot emptied. -/
def dropSlot (kv : KeyVault) (n : Nat) : KeyVault := { kv with slots := kv.slots.filter (fun x => x.no != n) }

/-- RootValid (KV_STAT): an active root exists and no tamper latch is set. -/
def rootValid (kv : KeyVault) (bat : Battery) : Bool := kv.rootOk && bat.latch == 0

/-- The next register of a pattern driver: feedback polynomial x³² + x²² + x² + x + 1 (R339; its form and its output bit are
notes/assumptions/121.md). -/
def patternNext (w : Word) : Word :=
  (w <<< 1) ||| (((w >>> 31) ^^^ (w >>> 21) ^^^ (w >>> 1) ^^^ w) &&& 1)

/-- The patterns after a tick of 1/1,024 s: 32 bits further. -/
def patternTick (b : Battery) : Battery := { b with seeds := b.seeds.map (fun w => Nat.repeat patternNext 32 w) }

/-- The pattern drivers seeded with 40 bytes of the entropy source (R339). -/
def patternSeed (bs : List Byte) (b : Battery) : Battery :=
  { b with seeds := Vector.ofFn (fun i : Fin 10 => BitVec.ofNat 32 (leNat ((bs.drop (4 * i.val)).take 4))) }

/-- The active root secret. -/
def activeRoot (kv : KeyVault) (bat : Battery) : List Byte := (vget bat.roots kv.rootBuffer).secret

/-- Slots Pending installation and Pending retirement (KV_STAGE). -/
def installs (kv : KeyVault) : List VaultSlot := kv.slots.filter (fun s => s.pending && !s.persistent)
/-- Slots Pending retirement. -/
def retires (kv : KeyVault) : List VaultSlot := kv.slots.filter (fun s => s.pending && s.persistent)

/-- The buffer a staged generation goes into (R334). -/
def stagedBuf (kv : KeyVault) : Nat := if kv.jrnlGen = 0 then 0 else 1 - kv.jrnlBuf
/-- The root buffer a staged root goes into (R331). -/
def stagedRootBuf (kv : KeyVault) : Nat := 1 - kv.rootBuffer

/-- The slots of the staged generation (R334); none in Tamper-Response (R343). -/
def stagedSlots (kv : KeyVault) (tamper : Bool) : List VaultSlot :=
  if tamper then [] else kv.slots.filter (fun s => (s.persistent && !s.pending) || (!s.persistent && s.pending))

/-- The wrap key of the staged generation (R334). -/
def stagedWk (kv : KeyVault) (bat : Battery) : List Byte :=
  if kv.stagedRoot then derive (vget bat.roots (stagedRootBuf kv)).secret "journal" 0 else kv.wk

/-- The staged generation is valid for a couch whose key actions name `install` and `retire` slots (R334, check
0x56). -/
def stagedValid (kv : KeyVault) (gen : Nat) (install retire : List Nat) : Bool :=
  kv.written && gen == kv.jrnlGen + 1 &&
    (installs kv).all (fun s => install.contains s.no) && (retires kv).all (fun s => retire.contains s.no) &&
    install.all (fun n => if n == 0 then kv.stagedRoot else (installs kv).any (fun s => s.no == n)) &&
    retire.all (fun n => (retires kv).any (fun s => s.no == n)) && (!kv.stagedRoot || install.contains 0)

/-- The root selection, derivations and slot load (R323): the vault, and the entries rejected as (index, slot). -/
def loadVault (m : Memory) (bat : Battery) (kv : KeyVault) : KeyVault × List (Nat × Nat) :=
  match committedBuf m with
  | none => ({ kv with loadDone := true, rootOk := false, jrnlGen := 0, rootGen := 0 }, [])
  | some b =>
    let gen := memLe m (keyBuf b + 8) 4
    let rg := memLe m (keyBuf b + 0x10) 4
    let kv1 := { kv with loadDone := true, jrnlGen := gen, jrnlBuf := b, rootGen := rg }
    match selectRoot rg bat.roots with
    | none => ({ kv1 with rootOk := false }, [])
    | some r =>
      let root := (vget bat.roots r).secret
      let wk := derive root "journal" 0
      let kv2 := { kv1 with rootOk := true, rootBuffer := r, wk := wk, evKey := derive root "event-log" 0 }
      if bat.latch ≠ 0 then ({ kv2 with wk := [], evKey := [] }, [])
      else
        let n := memLe m (keyBuf b + 6) 2
        (List.range n).foldl (fun acc i =>
          match readEntry m wk gen b i with
          | some s => (setSlot acc.1 s, acc.2)
          | none => (acc.1, acc.2 ++ [(i, memLe m (keyBuf b + 0x40 + 128 * i) 1)])) (kv2, [])

/-- The vault after the journal commit of a couch (R335): installed slots Persistent, retired slots Empty, Wk of the
committed generation. -/
def commitVault (kv : KeyVault) (bat : Battery) : KeyVault :=
  { kv with
    slots := (kv.slots.filter (fun s => !(s.pending && s.persistent))).map
      (fun s => if s.pending then { s with persistent := true, pending := false } else s)
    wk := stagedWk kv bat
    jrnlGen := kv.jrnlGen + 1
    jrnlBuf := stagedBuf kv
    rootGen := if kv.stagedRoot then kv.jrnlGen + 1 else kv.rootGen
    written := false
    stagedRoot := false }

/-- The zeroing of the vault by a tamper alarm or key vault clear (R341 step 3, R577 step 3). -/
def clearVault (kv : KeyVault) : KeyVault :=
  { kv with slots := [], wk := [], evKey := [], rootOk := false, written := false, stagedRoot := false }

/-- A core reset on the vault (R332): slots neither Persistent nor Pending are emptied; banks and RootLock reset. -/
def coreResetVault (kv : KeyVault) : KeyVault :=
  { kv with slots := kv.slots.filter (fun s => s.persistent || s.pending), banks := Vector.replicate 4 {}, rootLock := false }

/-- A last-gasp record written into the ring (R345): the event layout with the ring sequence and CRC-64. -/
def ringWrite (e : EventRec) (bat : Battery) : Battery :=
  let body := leBytes 8 e.ts ++ leBytes 4 bat.ringSeq ++ leBytes 2 e.code ++ leBytes 1 e.aid ++
    leBytes 1 (e.sev + 16 * e.flags) ++ ((List.range 5).flatMap fun k => leBytes 8 (e.params.getD k 0))
  { bat with
    ring := vmod bat.ring bat.ringNext (fun _ => body ++ leBytes 8 (crc64 body).toNat)
    ringNext := (bat.ringNext + 1) % 16
    ringCount := min 16 (bat.ringCount + 1)
    ringSeq := (bat.ringSeq + 1) % 2 ^ 32 }

/-- BBRAM 0x000–0x0FF and 0x600–0xFFF cleared and the latch set by an alarm of sensor `n` (R341 step 2). -/
def tamperClear (n power ts : Nat) (bat : Battery) : Battery :=
  { bat with
    roots := Vector.replicate 2 {}
    reseed := zeros 128
    latch := setBit bat.latch n
    firstSensor := if bat.alarms = 0 then n else bat.firstSensor
    firstPower := if bat.alarms = 0 then power else bat.firstPower
    firstTs := if bat.alarms = 0 then ts else bat.firstTs
    alarms := satAdd 16 bat.alarms 1 }

/-- The ring records, oldest first, as they stand in BBRAM. -/
def ringRecords (bat : Battery) : List (Nat × List Byte) :=
  (List.range bat.ringCount).map fun i =>
    let p := (bat.ringNext + 16 - bat.ringCount + i) % 16
    (p, vget bat.ring p)

end Sys2Proof.Machine
end

