-- ==== Sys2Proof/Machine/MlDsa.lean ====
section
/-! DEFINITION. ML-DSA-65 in its pure form (R303–R306, R315): FIPS 204 as the manual cites it (notes/assumptions/6.md).
A polynomial is the list of its 256 coefficients, each a number below q. -/

namespace Sys2Proof.Machine

/-- The 256 coefficients of a polynomial, each below q. -/
abbrev Poly := List Nat

/-- The modulus q. -/
def mlQ : Nat := 8380417
/-- The bits that t1 drops of t: d. -/
def mlDrop : Nat := 13
/-- The non-zero coefficients of a challenge: τ. -/
def mlTau : Nat := 49
/-- The range of the mask: γ1. -/
def mlGamma1 : Nat := 524288
/-- Half the step of the high bits: γ2 = (q − 1)/32. -/
def mlGamma2 : Nat := 261888
/-- The bound of the secret's coefficients: η. -/
def mlEta : Nat := 4
/-- The rejection margin: β = τ·η. -/
def mlBeta : Nat := 196
/-- The hints a signature may carry: ω. -/
def mlOmega : Nat := 55
/-- The rows of the matrix: k. -/
def mlRows : Nat := 6
/-- The columns of the matrix: l. -/
def mlCols : Nat := 5
/-- The bytes of a commitment hash: λ/4. -/
def mlHashLen : Nat := 48

/-! ### Arithmetic -/

/-- Sum. -/
def polyAdd (a b : Poly) : Poly := a.zipWith (fun x y => (x + y) % mlQ) b
/-- Difference. -/
def polySub (a b : Poly) : Poly := a.zipWith (fun x y => (x + (mlQ - y)) % mlQ) b
/-- Product by coefficients: the product of transformed polynomials. -/
def polyMul (a b : Poly) : Poly := a.zipWith (fun x y => x * y % mlQ) b
/-- Every coefficient times a number. -/
def polyScale (z : Nat) (a : Poly) : Poly := a.map (fun x => x * z % mlQ)
/-- The polynomial 0. -/
def polyZero : Poly := List.replicate 256 0

/-- x^e modulo q, `bits` bits of the exponent. -/
def powQ (bits x e : Nat) : Nat :=
  match bits with
  | 0 => 1
  | n + 1 => (if e % 2 = 1 then x else 1) * powQ n (x * x % mlQ) (e / 2) % mlQ

/-- An 8-bit number with its bits in reverse. -/
def revBits (k : Nat) : Nat := (List.range 8).foldl (fun acc i => 2 * acc + (k / 2 ^ i) % 2) 0

/-- The root of node `k` of the transform's tree: 1753 to the power of `k`'s bits in reverse. -/
def nodeRoot (k : Nat) : Nat := powQ 8 1753 (revBits k)

/-- The transform of 2^depth coefficients at a node of its tree: the residues modulo X^(n/2) − root and X^(n/2) + root,
each transformed in turn. -/
def nttNode (depth k : Nat) (a : Poly) : Poly :=
  match depth with
  | 0 => a
  | n + 1 =>
    let lo := a.take (2 ^ n)
    let hi := polyScale (nodeRoot k) (a.drop (2 ^ n))
    nttNode n (2 * k) (polyAdd lo hi) ++ nttNode n (2 * k + 1) (polySub lo hi)

/-- What undoes the transform at a node, but for the factor 2^depth. -/
def inttNode (depth k : Nat) (a : Poly) : Poly :=
  match depth with
  | 0 => a
  | n + 1 =>
    let lo := inttNode n (2 * k) (a.take (2 ^ n))
    let hi := inttNode n (2 * k + 1) (a.drop (2 ^ n))
    polyAdd lo hi ++ polyScale (powQ 23 (nodeRoot k) (mlQ - 2)) (polySub lo hi)

/-- The number theoretic transform. -/
def ntt (a : Poly) : Poly := nttNode 8 1 a
/-- Its inverse; 8347681 is the inverse of 256 modulo q. -/
def intt (a : Poly) : Poly := polyScale 8347681 (inttNode 8 1 a)

/-- The inner product of two rows of transformed polynomials. -/
def rowMul (row v : List Poly) : Poly := (row.zipWith polyMul v).foldl polyAdd polyZero

/-- A coefficient as a signed number: (−q/2, q/2]. -/
def centred (x : Nat) : Int := if x ≤ mlQ / 2 then x else (x : Int) - mlQ

/-- A signed number as a coefficient. -/
def coeff (x : Int) : Nat := (x % (mlQ : Int)).toNat

/-- Every coefficient of the polynomials is below a bound in absolute value. -/
def normBelow (bound : Nat) (v : List Poly) : Bool := v.all fun p => p.all fun x => decide ((centred x).natAbs < bound)

/-! ### Rounding and hints -/

/-- The low part of Power2Round, in (−2^12, 2^12]. -/
def lowPart (x : Nat) : Int := let r := x % 2 ^ mlDrop; if r ≤ 2 ^ (mlDrop - 1) then r else (r : Int) - 2 ^ mlDrop
/-- The high part of Power2Round. -/
def highPart (x : Nat) : Nat := (((x : Int) - lowPart x) / 2 ^ mlDrop).toNat

/-- Decompose: high bits and low bits. -/
def decompose (x : Nat) : Nat × Int :=
  let r := x % (2 * mlGamma2)
  let r0 : Int := if r ≤ mlGamma2 then r else (r : Int) - 2 * mlGamma2
  if (x : Int) - r0 = mlQ - 1 then (0, r0 - 1) else ((((x : Int) - r0) / (2 * mlGamma2)).toNat, r0)

/-- A hint: whether adding `z` changes the high bits of `x`. -/
def makeHint (z x : Nat) : Bool := decide ((decompose x).1 ≠ (decompose ((x + z) % mlQ)).1)

/-- The high bits that a hint mends. -/
def useHint (h : Bool) (x : Nat) : Nat :=
  let d := decompose x
  if h then if 0 < d.2 then (d.1 + 1) % 16 else (d.1 + 15) % 16 else d.1

/-! ### Packing -/

/-- The numbers of `w` bits that a byte string packs, `n` of them. -/
def unpackBits (w n : Nat) (bs : List Byte) : List Nat :=
  -- Eight numbers of w bits fill w bytes.
  (List.range (n / 8)).flatMap fun g =>
    let v := leNat ((bs.drop (w * g)).take w)
    (List.range 8).map fun i => (v / 2 ^ (w * i)) % 2 ^ w

/-- Numbers of `w` bits packed, eight at a time; `groups` is how many eights there are. -/
def packGroups (w groups : Nat) (l : List Nat) : List Byte :=
  match groups with
  | 0 => []
  | n + 1 => leBytes w ((l.take 8).foldr (fun x acc => x + 2 ^ w * acc) 0) ++ packGroups w n (l.drop 8)

/-- A polynomial's numbers of `w` bits packed. -/
def packBits (w : Nat) (p : List Nat) : List Byte := packGroups w 32 p

/-- The bytes of the hints: the positions, polynomial after polynomial, then how many there are up to each. -/
def packHints (h : List (List Bool)) : List Byte :=
  let at1 := h.map fun p => (List.range 256).filter fun i => p.getD i false
  let ends := (List.range mlRows).map fun i => ((at1.take (i + 1)).map List.length).foldl (· + ·) 0
  padTo mlOmega (at1.flatten.map (BitVec.ofNat 8)) ++ ends.map (BitVec.ofNat 8)

/-- The hints that decoded bytes give: those of polynomial `i` are the positions from the end of the one before to its
own. -/
def unpackHints (y : List Byte) : List (List Bool) :=
  let num (i : Nat) : Nat := (y.getD i 0).toNat
  (List.range mlRows).map fun i =>
    let first := if i = 0 then 0 else num (mlOmega + i - 1)
    let here := (List.range (num (mlOmega + i) - first)).map fun j => num (first + j)
    (List.range 256).map fun p => here.contains p

/-! ### Sampling -/

/-- What a sponge's blocks give until `n` numbers are found, at most `fuel` blocks. -/
def sampleBlocks (rate n fuel : Nat) (pick : List Byte → List Nat) (st : List DWord) (have_ : List Nat) : List Nat :=
  match fuel with
  | 0 => padNats have_
  | m + 1 =>
    let got := have_ ++ pick ((lanesBytes st).take rate)
    if n ≤ got.length then got.take n else sampleBlocks rate n m pick (keccakF st) got
where
  /-- Zeros where the blocks ran out. -/
  padNats (l : List Nat) : List Nat := l ++ List.replicate (n - l.length) 0

/-- The state of a sponge that has absorbed a message of less than one block. -/
def absorbed (rate : Nat) (msg : List Byte) : List DWord := absorb rate 1 (List.replicate 25 0) (padMsg rate 0x1F msg)

/-- Three bytes give a coefficient below q or none. -/
def pickUniform : List Byte → List Nat
  | a :: b :: c :: tl =>
    let v := a.toNat + 256 * b.toNat + 65536 * (c.toNat % 128)
    if v < mlQ then v :: pickUniform tl else pickUniform tl
  | _ => []

/-- Each half of a byte below 9 gives a coefficient η − half. -/
def pickSmall (bs : List Byte) : List Nat :=
  bs.flatMap fun b => ([b.toNat % 16, b.toNat / 16].filter (· < 9)).map fun (v : Nat) => coeff ((mlEta : Int) - v)

/-- The matrix of a seed, transformed: entry (r, s) comes from SHAKE128 of the seed, s and r. -/
def expandMatrix (rho : List Byte) : List (List Poly) :=
  (List.range mlRows).map fun r => (List.range mlCols).map fun s =>
    sampleBlocks rate128 256 64 pickUniform (absorbed rate128 (rho ++ leBytes 1 s ++ leBytes 1 r)) []

/-- Secret polynomial number `r` of a seed. -/
def expandSecret (rho : List Byte) (r : Nat) : Poly :=
  sampleBlocks rate256 256 64 pickSmall (absorbed rate256 (rho ++ leBytes 2 r)) []

/-- The mask that a seed and a counter give. -/
def expandMask (rho : List Byte) (mu : Nat) : List Poly :=
  (List.range mlCols).map fun r =>
    (unpackBits 20 256 (shake256 (rho ++ leBytes 2 (mu + r)) 640)).map fun (v : Nat) => coeff ((mlGamma1 : Int) - v)

/-- One place of a challenge: `c` has its last place `i`, whose draw is the first byte not above `i`. -/
def ballPlace (i : Nat) (sign : Bool) (c : Poly × List Byte) : Poly × List Byte :=
  let bs := c.2.dropWhile fun b => decide (i < b.toNat)
  let j := (bs.headD 0).toNat
  (((c.1.set i (c.1.getD j 0)).set j (if sign then mlQ - 1 else 1)), bs.drop 1)

/-- The challenge of a commitment hash: τ coefficients 1 or −1. -/
def sampleBall (hash : List Byte) : Poly :=
  let bs := shake256 hash 1360
  let signs := leNat (bs.take 8)
  ((List.range mlTau).foldl (fun c t => ballPlace (256 - mlTau + t) (hasBit signs t) c) (polyZero, bs.drop 8)).1

/-! ### Keys -/

/-- What key generation draws from a seed: the public seed ρ, the secret seed ρ′ and K. -/
def keySeeds (seed : List Byte) : List Byte × List Byte × List Byte :=
  let h := shake256 (seed ++ leBytes 1 mlRows ++ leBytes 1 mlCols) 128
  (h.take 32, (h.drop 32).take 64, h.drop 96)

/-- The secrets s1 and s2 of a seed. -/
def secretsOf (seed : List Byte) : List Poly × List Poly :=
  let r := (keySeeds seed).2.1
  ((List.range mlCols).map (expandSecret r), (List.range mlRows).map fun i => expandSecret r (i + mlCols))

/-- t = A·s1 + s2. -/
def keyVector (a : List (List Poly)) (s1 s2 : List Poly) : List Poly :=
  let v := s1.map ntt
  (a.map fun row => intt (rowMul row v)).zipWith polyAdd s2

/-- A public key: ρ and t1. -/
def publicBytes (rho : List Byte) (t : List Poly) : List Byte := rho ++ t.flatMap fun p => packBits 10 (p.map highPart)

/-- The public key of a seed (R304). -/
def mldsaPublic (seed : List Byte) : List Byte :=
  let s := secretsOf seed
  let rho := (keySeeds seed).1
  publicBytes rho (keyVector (expandMatrix rho) s.1 s.2)

/-! ### Signing -/

/-- M′ of R303: 0x00 ‖ CtxLen ‖ context string ‖ message. -/
def formatted (ctx msg : List Byte) : List Byte := 0 :: BitVec.ofNat 8 ctx.length :: ctx ++ msg

/-- μ: the digest of the public key's digest and M′. -/
def messageRep (pk ctx msg : List Byte) : List Byte := shake256 (shake256 pk 64 ++ formatted ctx msg) 64

/-- The hash of a commitment's high bits. -/
def commitHash (mu : List Byte) (w1 : List Poly) : List Byte := shake256 (mu ++ w1.flatMap (packBits 4)) mlHashLen

/-- What signing needs of a key, transformed once. -/
structure SignKey where
  /-- The matrix. -/
  matrix : List (List Poly)
  /-- s1, transformed. -/
  s1 : List Poly
  /-- s2, transformed. -/
  s2 : List Poly
  /-- The low part of t, transformed. -/
  t0 : List Poly

/-- The expanded key of a seed, which each job makes and forgets (R304). -/
def signKey (seed : List Byte) : SignKey :=
  let s := secretsOf seed
  let a := expandMatrix (keySeeds seed).1
  { matrix := a, s1 := s.1.map ntt, s2 := s.2.map ntt
    t0 := (keyVector a s.1 s.2).map fun p => ntt (p.map fun x => coeff (lowPart x)) }

/-- One iteration of signing with a mask: a signature or a rejection. -/
def signOnce (k : SignKey) (mu : List Byte) (y : List Poly) : Option (List Byte) :=
  let yv := y.map ntt
  let w := k.matrix.map fun row => intt (rowMul row yv)
  let hash := commitHash mu (w.map fun p => p.map fun x => (decompose x).1)
  let c := ntt (sampleBall hash)
  let times (v : List Poly) : List Poly := v.map fun p => intt (polyMul c p)
  let z := y.zipWith polyAdd (times k.s1)
  let r := w.zipWith polySub (times k.s2)
  let ct0 := times k.t0
  let small := r.all fun p => p.all fun x => decide ((decompose x).2.natAbs < mlGamma2 - mlBeta)
  let hints := (ct0.zip r).map fun q => q.1.zipWith (fun t x => makeHint ((mlQ - t) % mlQ) ((x + t) % mlQ)) q.2
  if normBelow (mlGamma1 - mlBeta) z && small && normBelow mlGamma2 ct0 &&
      decide (((hints.map fun p => p.countP id).foldl (· + ·) 0) ≤ mlOmega) then
    some (hash ++ z.flatMap (fun p => packBits 20 (p.map fun x => ((mlGamma1 : Int) - centred x).toNat)) ++ packHints hints)
  else none

/-- Rejection iterations from a counter on, at most `fuel` (R315). -/
def signLoop (k : SignKey) (mu rho : List Byte) (fuel kappa : Nat) : Option (List Byte) :=
  match fuel with
  | 0 => none
  | n + 1 =>
    match signOnce k mu (expandMask rho kappa) with
    | some s => some s
    | none => signLoop k mu rho n (kappa + mlCols)

/-- The signature of a message with the randomness `rnd` (R303, R305); none after 1,024 iterations (R315). -/
def mldsaSign (seed ctx msg rnd : List Byte) : Option (List Byte) :=
  let mu := messageRep (mldsaPublic seed) ctx msg
  signLoop (signKey seed) mu (shake256 ((keySeeds seed).2.2 ++ rnd ++ mu) 64) 1024 0

/-! ### Verifying -/

/-- The hint bytes of a signature decode (R316 code 2): the counters do not fall or pass ω, the positions of each
polynomial rise, unused positions are zero (notes/assumptions/22.md). -/
def hintsDecode (sig : List Byte) : Bool :=
  let y := (sig.drop (3309 - 61)).map (·.toNat)
  let cnt := fun i => y.getD (55 + i) 0
  let bound := fun (i : Nat) => if i = 0 then 0 else cnt (i - 1)
  (List.range 6).all (fun i => decide (bound i ≤ cnt i ∧ cnt i ≤ 55) &&
    (List.range 55).all (fun j => !(decide (bound i < j ∧ j < cnt i)) || decide (y.getD (j - 1) 0 < y.getD j 0))) &&
  (List.range 55).all (fun j => decide (j < cnt 5) || y.getD j 0 == 0)

/-- A signature whose hints decode verifies: public key, context string, message, signature. -/
def mldsaVerify (pk ctx msg sig : List Byte) : Bool :=
  let hash := sig.take mlHashLen
  let z := (List.range mlCols).map fun i =>
    (unpackBits 20 256 ((sig.drop (mlHashLen + 640 * i)).take 640)).map fun (v : Nat) => coeff ((mlGamma1 : Int) - v)
  let t1 := (List.range mlRows).map fun i =>
    (unpackBits 10 256 ((pk.drop (32 + 320 * i)).take 320)).map fun v => v * 2 ^ mlDrop % mlQ
  let c := ntt (sampleBall hash)
  let zv := z.map ntt
  let w := ((expandMatrix (pk.take 32)).zip t1).map fun q => intt (polySub (rowMul q.1 zv) (polyMul c (ntt q.2)))
  let w1 := (w.zip (unpackHints (sig.drop (mlHashLen + 640 * mlCols)))).map fun q => q.1.zipWith (fun x h => useHint h x) q.2
  normBelow (mlGamma1 - mlBeta) z && commitHash (messageRep pk ctx msg) w1 == hash

/-- Verify on its inputs (R316): 0, 1 or 2. -/
def verifyCode (pk ctx msg sig : List Byte) : Nat :=
  if !hintsDecode sig then 2 else if mldsaVerify pk ctx msg sig then 0 else 1

end Sys2Proof.Machine
end

