-- ==== Sys2Proof/Machine/SiFormat.lean ====
section
/-! DEFINITION. The bytes of the structure image (spec/04_structure_image.md, R107–R134): section layouts, the
parser, and the tables checks 0x07–0x0B go by. `rd` answers the image's byte at an offset. -/

namespace Sys2Proof.Machine

/-- One field of a record: offset, size in bytes, the bit from which it is reserved, and whether a value is one
that R107–R136 give the field in any case (check 0x0B of R137). -/
structure FieldSpec where
  off : Nat
  size : Nat
  resFrom : Nat
  ok : Nat → Bool

/-- A field whose values `ok` accepts, no bit of it reserved. -/
def fld (off size : Nat) (ok : Nat → Bool) : FieldSpec := ⟨off, size, 8 * size, ok⟩
/-- A field of flags whose bits from `from_` up are reserved. -/
def flg (off size from_ : Nat) : FieldSpec := ⟨off, size, from_, fun _ => true⟩
/-- A reserved field. -/
def rsv (off size : Nat) : FieldSpec := ⟨off, size, 0, fun _ => true⟩

/-- Any value. -/
def anyVal (_ : Nat) : Bool := true
/-- A value in `lo … hi`. -/
def within (lo hi v : Nat) : Bool := decide (lo ≤ v ∧ v ≤ hi)
/-- A value in `lo … hi`, or 0xFF for none. -/
def withinOrNone (lo hi v : Nat) : Bool := within lo hi v || v == 0xFF
/-- A multiple of 4 KiB. -/
def page4K (v : Nat) : Bool := v % 4096 == 0
/-- AIDs R12 lists. -/
def aidListed (a : Nat) : Bool :=
  decide (a ≤ 0x13) || a == 0x18 || a == 0x19 || a == 0x1C || a == 0x1F || within 0x20 0x27 a || a == 0x30 || a == 0xFF
/-- AIDs a channel record may name (R127). -/
def aidChannel (a : Nat) : Bool := decide (a ≤ 0x13) || a == 0x18 || a == 0x19 || a == 0x1F
/-- AIDs a rights record may have (R128). -/
def aidRights (a : Nat) : Bool := decide (a ≤ 0x0F) || a == 0x18 || a == 0x19 || a == 0x1F || a == 0x30
/-- A slot locator: a device with a 4 KiB offset, or absent (R114). -/
def locatorOk (v : Nat) : Bool :=
  let f := v % 256
  let o := v / 2 ^ 32
  (decide (f ≤ 63) && page4K o) || (f == 0xFF && o == 0)

/-- The locator of slot A, which is never absent (R114). -/
def slotAOk (v : Nat) : Bool := locatorOk v && v % 256 != 0xFF

/-- An image class that R376 names; every other value is reserved. -/
def imageClassOk (v : Nat) : Bool :=
  v == 0x0000 || v == 0x0001 || v == 0x0100 || within 0x0110 0x011F v || within 0x0200 0xFFFF v

/-- A state table entry's Action is 0–4 (R123). -/
def entryOk (v : Nat) : Bool := decide (v % 8 ≤ 4)

/-- One section type of R110. -/
structure SectionSpec where
  type : Nat
  recSize : Nat
  maxRec : Nat
  /-- The key fields of R110, as (offset, size), compared in this order. -/
  key : List (Nat × Nat)
  /-- A key field compared bytewise from byte 0 (ImageId), as (offset, size); size 0 for none. -/
  keyBytes : Nat × Nat
  required : Bool
  fields : List FieldSpec

/-- R110, R112–R133. -/
def sections : List SectionSpec :=
  [ { type := 0x01, recSize := 16, maxRec := 16, key := [(0, 1)], keyBytes := (0, 0), required := true,
      fields := [fld 0 1 (within 0 15), fld 1 1 (within 0 4), fld 2 2 (within 1 200), fld 4 1 (within 0 30),
        fld 5 1 (within 3 4), flg 6 1 1, rsv 7 1, fld 8 4 (within 1 1000000), rsv 12 4] },
    { type := 0x02, recSize := 32, maxRec := 64, key := [(0, 1)], keyBytes := (0, 0), required := true,
      fields := [fld 0 1 (within 0 63), fld 1 1 (within 1 3), fld 2 1 (withinOrNone 0 63), fld 3 1 (withinOrNone 0 15),
        fld 4 1 (within 20 29), fld 5 1 (within 0 63), fld 6 1 (within 0 63), fld 7 1 (withinOrNone 0 63),
        fld 8 2 anyVal, fld 10 1 (within 0 64), fld 11 1 (within 0 31), fld 12 3 anyVal, rsv 15 1, flg 16 1 4,
        fld 17 1 (within 0 2), fld 18 2 (fun v => v == 256 || v == 512), fld 20 4 (within 1 600000),
        fld 24 4 (within 1 100000), rsv 28 4] },
    { type := 0x03, recSize := 32, maxRec := 16, key := [(0, 1)], keyBytes := (0, 0), required := true,
      fields := [fld 0 1 (within 0 15), fld 1 1 (withinOrNone 0 7), flg 2 1 1, fld 3 1 (withinOrNone 0 15),
        fld 4 1 (within 0 1), rsv 5 3, fld 8 8 slotAOk, rsv 9 3, fld 16 8 locatorOk, rsv 17 3, fld 24 8 locatorOk,
        rsv 25 3] },
    { type := 0x04, recSize := 8, maxRec := 64, key := [(0, 1)], keyBytes := (0, 0), required := false,
      fields := [fld 0 1 (within 0 63), rsv 1 3, fld 4 2 (within 0 1535), fld 6 2 (within 1 1536)] },
    { type := 0x05, recSize := 40, maxRec := 256, key := [(16, 1), (17, 1)], keyBytes := (0, 16), required := true,
      fields := [fld 0 16 (fun v => v != 0), fld 16 1 (within 0 15), fld 17 1 (within 0 2), fld 18 1 (within 0 2),
        fld 19 1 (within 0 63), fld 20 4 page4K, fld 24 4 (within 1 (2 ^ 29)), fld 28 1 (withinOrNone 0 63), rsv 29 3,
        fld 32 4 page4K, rsv 36 4] },
    { type := 0x06, recSize := 16, maxRec := 8, key := [(0, 1)], keyBytes := (0, 0), required := false,
      fields := [fld 0 1 (within 0 7), fld 1 1 (within 0 5), fld 2 1 (within 1 200), fld 3 1 (within 0 15), fld 4 1 anyVal,
        fld 5 1 (fun v => v == 0 || v == 3 || v == 4), fld 6 1 (within 20 29), flg 7 1 1, fld 8 3 anyVal, flg 11 1 4,
        rsv 12 4] },
    { type := 0x07, recSize := 16, maxRec := 64, key := [(0, 1), (4, 4)], keyBytes := (0, 0), required := false,
      fields := [fld 0 1 (within 0 7), fld 1 1 (within 0 63), flg 2 1 2, rsv 3 1, fld 4 4 page4K, fld 8 4 page4K,
        fld 12 4 (fun v => page4K v && v != 0)] },
    { type := 0x08, recSize := 264, maxRec := 64, key := [(0, 1)], keyBytes := (0, 0), required := true,
      fields := [fld 0 1 (within 0 63), fld 1 1 (within 0 2), rsv 2 6] ++
        (List.range 256).map fun k => fld (8 + k) 1 (withinOrNone 0 63) },
    { type := 0x09, recSize := 4104, maxRec := 64, key := [(0, 1)], keyBytes := (0, 0), required := true,
      fields := [fld 0 1 (within 0 63), fld 1 1 (within 1 32), fld 2 1 (within 1 64), rsv 3 5] ++
        (List.range 2048).map fun k => ⟨8 + 2 * k, 2, 10, entryOk⟩ },
    { type := 0x0A, recSize := 16, maxRec := 4096, key := [(0, 1), (1, 1)], keyBytes := (0, 0), required := false,
      fields := [fld 0 1 (within 0 63), fld 1 1 (within 0 63), flg 2 1 3, flg 3 1 2, fld 4 4 anyVal,
        fld 8 4 (fun v => v != 0), fld 12 1 aidListed, rsv 13 3] },
    { type := 0x0B, recSize := 72, maxRec := 64, key := [(0, 1)], keyBytes := (0, 0), required := false,
      fields := [fld 0 1 (within 0 63), fld 1 1 (within 1 8), rsv 2 6] },
    { type := 0x0C, recSize := 8, maxRec := 32, key := [(0, 1)], keyBytes := (0, 0), required := false,
      fields := [fld 0 1 (within 0 31), fld 1 1 (within 0 15), fld 2 1 (within 0 1), fld 3 1 anyVal, fld 4 2 anyVal,
        rsv 6 2] },
    { type := 0x0D, recSize := 8, maxRec := 128, key := [(0, 1)], keyBytes := (0, 0), required := false,
      fields := [fld 0 1 (within 0 127), fld 1 1 aidChannel, fld 2 1 aidChannel, flg 3 1 3, rsv 4 4] },
    { type := 0x0E, recSize := 32, maxRec := 33, key := [(0, 1)], keyBytes := (0, 0), required := false,
      fields := [fld 0 1 aidRights, flg 1 1 3, fld 2 2 anyVal, rsv 4 4, fld 8 8 anyVal, flg 16 8 34, fld 24 2 anyVal,
        rsv 26 6] },
    { type := 0x0F, recSize := 8, maxRec := 256, key := [(0, 2)], keyBytes := (0, 0), required := false,
      fields := [fld 0 2 (fun v => v == 0 || within 0x0100 0x0FFF v), fld 2 2 (within 1 65535), fld 4 4 (within 0 3686400)] },
    { type := 0x10, recSize := 32, maxRec := 256, key := [(0, 1), (8, 8)], keyBytes := (0, 0), required := false,
      fields := [fld 0 1 (within 0 15), flg 1 1 2, fld 2 1 (within 1 64), rsv 3 1, fld 4 2 (within 1 1024),
        fld 6 2 (within 1 65535), fld 8 8 page4K, fld 16 8 (fun v => page4K v && v != 0), fld 24 4 (within 1 86400000),
        rsv 28 4] },
    { type := 0x11, recSize := 16, maxRec := 1, key := [], keyBytes := (0, 0), required := true,
      fields := [fld 0 1 (within 0 1), flg 1 1 1, fld 2 2 (within 0 2047), rsv 4 12] },
    { type := 0x12, recSize := 4, maxRec := 64, key := [(0, 2)], keyBytes := (0, 0), required := false,
      fields := [fld 0 2 imageClassOk, fld 2 1 anyVal, rsv 3 1] },
    { type := 0x13, recSize := 8, maxRec := 18, key := [(0, 1), (1, 1)], keyBytes := (0, 0), required := false,
      fields := [fld 0 1 (within 1 2), fld 1 1 (within 0 15), fld 2 1 (within 1 4), fld 3 1 (within 0 127), rsv 4 4] } ]

/-- Bytes [off, off + n) of the image. -/
def rdBytes (rd : Nat → Byte) (off n : Nat) : List Byte := (List.range n).map fun i => rd (off + i)

/-- The little-endian number of `n` bytes at `off` (R5). -/
def rdLe (rd : Nat → Byte) (off n : Nat) : Nat := leNat (rdBytes rd off n)

/-- Length of the header (R108) and of the signature block (R134). -/
def siHeaderLen : Nat := 128
/-- Length of the signature block (R134). -/
def sigBlockLen : Nat := 5280

/-- A section directory entry (R109). -/
structure DirEntry where
  type : Nat
  recSize : Nat
  count : Nat
  offset : Nat
  length : Nat

/-- Directory entry `i` (R109). -/
def dirEntry (rd : Nat → Byte) (i : Nat) : DirEntry :=
  let o := siHeaderLen + 16 * i
  { type := rdLe rd o 2, recSize := rdLe rd (o + 2) 2, count := rdLe rd (o + 4) 4, offset := rdLe rd (o + 8) 4,
    length := rdLe rd (o + 12) 4 }

/-- SectionCount (R108). -/
def siSectionCount (rd : Nat → Byte) : Nat := rdLe rd 0x10 2
/-- SigOffset (R108). -/
def siSigOffset (rd : Nat → Byte) : Nat := rdLe rd 0x0C 4
/-- TotalLength (R108). -/
def siTotalLength (rd : Nat → Byte) : Nat := rdLe rd 0x08 4

/-- The directory. -/
def siDir (rd : Nat → Byte) : List DirEntry := (List.range (siSectionCount rd)).map (dirEntry rd)

/-- Offsets of the records of the section of a type; none where the section is absent. -/
def recOffsets (rd : Nat → Byte) (type : Nat) : List Nat :=
  match (siDir rd).find? (fun e => e.type == type) with
  | none => []
  | some e => (List.range e.count).map fun i => e.offset + i * e.recSize

/-- A slot locator at an offset (R114). -/
def rdLocator (rd : Nat → Byte) (o : Nat) : Locator := { flash := rdLe rd o 1, offset := rdLe rd (o + 4) 4 }

/-- R112. -/
def rdBus (rd : Nat → Byte) (o : Nat) : BusRec :=
  { bus := rdLe rd o 1, mode := rdLe rd (o + 1) 1, clockMHz := rdLe rd (o + 2) 2, captureDelay := rdLe rd (o + 4) 1,
    addrBytes := rdLe rd (o + 5) 1, resetOnTimeout := (rdLe rd (o + 6) 1).testBit 0, readyTimeoutUs := rdLe rd (o + 8) 4 }

/-- R113. -/
def rdFlash (rd : Nat → Byte) (o : Nat) : FlashRec :=
  { f := rdLe rd o 1, role := rdLe rd (o + 1) 1, spareFor := rdLe rd (o + 2) 1, ownerBd := rdLe rd (o + 3) 1,
    sizeLog2 := rdLe rd (o + 4) 1, classTable := rdLe rd (o + 5) 1, stateTable := rdLe rd (o + 6) 1,
    rateCurve := rdLe rd (o + 7) 1, windowFirst := rdLe rd (o + 8) 2, windowCount := rdLe rd (o + 10) 1,
    initialState := rdLe rd (o + 11) 1, jedecId := rdBytes rd (o + 12) 3, eraseSizes := rdLe rd (o + 16) 1,
    sfdpPolicy := rdLe rd (o + 17) 1, pageSize := rdLe rd (o + 18) 2, maxEraseMs := rdLe rd (o + 20) 4,
    maxProgramUs := rdLe rd (o + 24) 4 }

/-- R114. -/
def rdBd (rd : Nat → Byte) (o : Nat) : BdRec :=
  { bd := rdLe rd o 1, port := rdLe rd (o + 1) 1, tamperBoot := (rdLe rd (o + 2) 1).testBit 0, afterBd := rdLe rd (o + 3) 1,
    activeSlot := rdLe rd (o + 4) 1, slotA := rdLocator rd (o + 8), slotB := rdLocator rd (o + 16),
    golden := rdLocator rd (o + 24) }

/-- R116. -/
def rdPart (rd : Nat → Byte) (o : Nat) : PartRec :=
  { partition := rdLe rd o 1, firstGranule := rdLe rd (o + 4) 2, granuleCount := rdLe rd (o + 6) 2 }

/-- R117. -/
def rdImage (rd : Nat → Byte) (o : Nat) : ImageRec :=
  { imageId := rdBytes rd o 16, bd := rdLe rd (o + 16) 1, slot := rdLe rd (o + 17) 1, serveMode := rdLe rd (o + 18) 1,
    sourceFlash := rdLe rd (o + 19) 1, sourceOffset := rdLe rd (o + 20) 4, length := rdLe rd (o + 24) 4,
    partition := rdLe rd (o + 28) 1, presentOffset := rdLe rd (o + 32) 4 }

/-- R119. -/
def rdPort (rd : Nat → Byte) (o : Nat) : PortRec :=
  { port := rdLe rd o 1, mode := rdLe rd (o + 1) 1, clockMHz := rdLe rd (o + 2) 1, bd := rdLe rd (o + 3) 1,
    dummyCycles := rdLe rd (o + 4) 1, addrBytes := rdLe rd (o + 5) 1, sizeLog2 := rdLe rd (o + 6) 1,
    waitMode := (rdLe rd (o + 7) 1).testBit 0, jedecId := rdBytes rd (o + 8) 3, eraseSizes := rdLe rd (o + 11) 1 }

/-- R120. -/
def rdPresent (rd : Nat → Byte) (o : Nat) : PresentRec :=
  { port := rdLe rd o 1, flash := rdLe rd (o + 1) 1, access := rdLe rd (o + 2) 1, presentOffset := rdLe rd (o + 4) 4,
    flashOffset := rdLe rd (o + 8) 4, length := rdLe rd (o + 12) 4 }

/-- R121. -/
def rdClassTable (rd : Nat → Byte) (o : Nat) : ClassTableRec :=
  { tableId := rdLe rd o 1, protocol := rdLe rd (o + 1) 1, classes := (List.range 256).map fun k => rdLe rd (o + 8 + k) 1 }

/-- R122. -/
def rdStateTable (rd : Nat → Byte) (o : Nat) : StateTableRec :=
  { tableId := rdLe rd o 1, stateCount := rdLe rd (o + 1) 1, classCount := rdLe rd (o + 2) 1,
    entries := (List.range 2048).map fun k => rdLe rd (o + 8 + 2 * k) 2 }

/-- R124. -/
def rdWindow (rd : Nat → Byte) (o : Nat) : WindowRec :=
  { f := rdLe rd o 1, index := rdLe rd (o + 1) 1, access := rdLe rd (o + 2) 1, anyAgent := (rdLe rd (o + 3) 1).testBit 0,
    logDenied := (rdLe rd (o + 3) 1).testBit 1, baseUnit := rdLe rd (o + 4) 4, lengthUnits := rdLe rd (o + 8) 4,
    aid := rdLe rd (o + 12) 1 }

/-- R125. -/
def rdCurve (rd : Nat → Byte) (o : Nat) : CurveRec :=
  { curveId := rdLe rd o 1,
    points := (List.range (rdLe rd (o + 1) 1)).map fun k => (rdLe rd (o + 8 + 8 * k) 4, rdLe rd (o + 12 + 8 * k) 4) }

/-- R126. -/
def rdGate (rd : Nat → Byte) (o : Nat) : GateRec :=
  { gate := rdLe rd o 1, bd := rdLe rd (o + 1) 1, drive := rdLe rd (o + 2) 1, order := rdLe rd (o + 3) 1,
    delay := rdLe rd (o + 4) 2 }

/-- R127. -/
def rdChannel (rd : Nat → Byte) (o : Nat) : ChannelRec :=
  let fl := rdLe rd (o + 3) 1
  { channel := rdLe rd o 1, sender := rdLe rd (o + 1) 1, receiver := rdLe rd (o + 2) 1, barker := fl.testBit 0,
    ibi := fl.testBit 1, logPost := fl.testBit 2 }

/-- R128. -/
def rdRights (rd : Nat → Byte) (o : Nat) : RightsRec :=
  let fl := rdLe rd (o + 1) 1
  { aid := rdLe rd o 1, stagingWindow := fl.testBit 0, mayStage := fl.testBit 1, mayClearEventLog := fl.testBit 2,
    ledgerBdMask := rdLe rd (o + 2) 2, partitionMask := rdLe rd (o + 8) 8, eventSourceMask := rdLe rd (o + 16) 8,
    exportBdMask := rdLe rd (o + 24) 2 }

/-- R129. -/
def rdEventRate (rd : Nat → Byte) (o : Nat) : EventRateRec :=
  { code := rdLe rd o 2, depth := rdLe rd (o + 2) 2, refillPerHour := rdLe rd (o + 4) 4 }

/-- R130. -/
def rdSweep (rd : Nat → Byte) (o : Nat) : SweepRec :=
  let fl := rdLe rd (o + 1) 1
  { ld := rdLe rd o 1, compare := fl.testBit 0, attest := fl.testBit 1, maxRegions := rdLe rd (o + 2) 1,
    maxOutstanding := rdLe rd (o + 4) 2, rateCapMBps := rdLe rd (o + 6) 2, windowBase := rdLe rd (o + 8) 8,
    windowLength := rdLe rd (o + 16) 8, minPeriodMs := rdLe rd (o + 24) 4 }

/-- R131. -/
def rdLedger (rd : Nat → Byte) (o : Nat) : LedgerRec :=
  { wrapExported := rdLe rd o 1 == 1, cardAutoExport := (rdLe rd (o + 1) 1).testBit 0, lowWaterSheets := rdLe rd (o + 2) 2 }

/-- R132. -/
def rdFloor (rd : Nat → Byte) (o : Nat) : FloorRec := { imageClass := rdLe rd o 2, minVersion := rdLe rd (o + 2) 1 }

/-- R133. -/
def rdPin (rd : Nat → Byte) (o : Nat) : PinRec :=
  { kind := rdLe rd o 1, index := rdLe rd (o + 1) 1, function := rdLe rd (o + 2) 1, param := rdLe rd (o + 3) 1 }

/-- The leaf a structure image spells (R107). -/
def parseSi (rd : Nat → Byte) : Leaf :=
  let recs {α : Type} (t : Nat) (f : Nat → α) : List α := (recOffsets rd t).map f
  { siVersion := rdLe rd 0x14 4
    buses := recs 0x01 (rdBus rd)
    flashes := recs 0x02 (rdFlash rd)
    bds := recs 0x03 (rdBd rd)
    partitions := recs 0x04 (rdPart rd)
    images := recs 0x05 (rdImage rd)
    ports := recs 0x06 (rdPort rd)
    presents := recs 0x07 (rdPresent rd)
    classTables := recs 0x08 (rdClassTable rd)
    stateTables := recs 0x09 (rdStateTable rd)
    windows := recs 0x0A (rdWindow rd)
    curves := recs 0x0B (rdCurve rd)
    gates := recs 0x0C (rdGate rd)
    channels := recs 0x0D (rdChannel rd)
    rights := recs 0x0E (rdRights rd)
    eventRates := recs 0x0F (rdEventRate rd)
    sweeps := recs 0x10 (rdSweep rd)
    ledger := (recs 0x11 (rdLedger rd)).headD default
    floors := recs 0x12 (rdFloor rd)
    pins := recs 0x13 (rdPin rd) }

end Sys2Proof.Machine
end

