-- ==== Sys2Proof/Machine/SiCheck.lean ====
section
/-! DEFINITION. The content checks of a structure image (spec/04_structure_image.md, R135–R139, codes 0x01–0x28). A
check answers the byte offset of the failing field or record, or none where it holds (notes/assumptions/20.md). -/

namespace Sys2Proof.Machine

/-- What the checks read beside the image: the serial number, the fused owner key hashes and revocation bits, whether
the life-cycle state accepts an image (R136), and the length an SI_LOAD names (check 0x02). -/
structure SiEnv where
  serial : Nat
  ownerHash : Nat → List Byte
  revoked : Nat → Bool
  accepts : Bool
  expectLen : Option Nat

/-- The section layout of a type. -/
def sectionSpec (t : Nat) : Option SectionSpec := sections.find? (fun s => s.type == t)

/-- The first of a list of (offset, holds) that does not hold. -/
def firstBad (l : List (Nat × Bool)) : Option Nat := (l.find? (fun p => !p.2)).map (·.1)

/-- Whether bytes [off, off + n) are zero; else the first that is not. -/
def firstNonZero (rd : Nat → Byte) (off n : Nat) : Option Nat :=
  ((List.range n).find? (fun i => rd (off + i) != 0)).map (off + ·)

/-- The SI digest (R135). -/
def siDigest (rd : Nat → Byte) : List Byte := shake256 (rdBytes rd 0 (siSigOffset rd)) 64

/-- R136 and R135 on a signature block at `o` over `msg`. -/
def siSignatureOk (env : SiEnv) (rd : Nat → Byte) : Bool :=
  let o := siSigOffset rd
  let slot := rdLe rd (o + 5) 1
  let pk := rdBytes rd (o + 16) 1952
  let sig := rdBytes rd (o + 1968) 3309
  env.accepts && !env.revoked slot && shake256 pk 64 == env.ownerHash slot &&
    verifyCode pk (ascii "BX6440 SI") (siDigest rd) sig == 0

/-- Check 0x08: sections in ascending type order, each at the place R111 gives it, SigOffset after the last. -/
def placementBad (rd : Nat → Byte) : Option Nat :=
  let n := siSectionCount rd
  let rec go (i : Nat) (es : List DirEntry) (prevType next : Nat) : Option Nat :=
    match es with
    | [] => if siSigOffset rd == alignUp 16 next then none else some 0x0C
    | e :: tl =>
      if decide (prevType < e.type) && e.offset == alignUp 16 next && decide (e.offset + e.length ≤ siSigOffset rd) then
        go (i + 1) tl e.type (e.offset + e.length)
      else some (siHeaderLen + 16 * i)
  go 0 (siDir rd) 0 (siHeaderLen + 16 * n)

/-- The gaps between sections, as (offset, length), the one before the signature block included. -/
def siGaps (rd : Nat → Byte) : List (Nat × Nat) :=
  let n := siSectionCount rd
  let ends := (siHeaderLen + 16 * n) :: (siDir rd).map (fun e => e.offset + e.length)
  let starts := (siDir rd).map (·.offset) ++ [siSigOffset rd]
  (ends.zip starts).map fun p => (p.1, p.2 - p.1)

/-- Check 0x09 on one record. -/
def recordReservedBad (rd : Nat → Byte) (s : SectionSpec) (o : Nat) : Option Nat :=
  match s.fields.find? (fun f => rdLe rd (o + f.off) f.size / 2 ^ f.resFrom != 0) with
  | some f => some (o + f.off)
  | none =>
    if s.type == 0x09 then
      let sc := rdLe rd (o + 1) 1
      let cc := rdLe rd (o + 2) 1
      ((List.range 2048).find? (fun k =>
        (decide (sc ≤ k / 64) || decide (cc ≤ k % 64)) && rdLe rd (o + 8 + 2 * k) 2 != 0)).map (fun k => o + 8 + 2 * k)
    else if s.type == 0x0B then
      let pc := rdLe rd (o + 1) 1
      ((List.range 8).find? (fun k => decide (pc ≤ k) && rdLe rd (o + 8 + 8 * k) 8 != 0)).map (fun k => o + 8 + 8 * k)
    else none

/-- The points of a rate curve hold a value that R125 lists for some PointCount: the first ones rise strictly from
zero, the rest are zero (R137: the union over every case). -/
def pointsOk (rd : Nat → Byte) (o : Nat) : Bool :=
  let ps := (List.range 8).map (fun k => (rdLe rd (o + 8 + 8 * k) 4, rdLe rd (o + 12 + 8 * k) 4))
  (List.range 8).any fun k =>
    let ws := (ps.take (k + 1)).map (·.1)
    ws.headD 0 == 0 && (ws.zip (ws.drop 1)).all (fun p => decide (p.1 < p.2)) && (ps.drop (k + 1)).all (· == (0, 0))

/-- Check 0x0B on one record: each field alone (R137). -/
def recordValueBad (rd : Nat → Byte) (s : SectionSpec) (o : Nat) : Option Nat :=
  match s.fields.find? (fun f => !f.ok (rdLe rd (o + f.off) f.size)) with
  | some f => some (o + f.off)
  | none => if s.type == 0x0B && !pointsOk rd o then some (o + 8) else none

/-- Each record of every section, with its layout. -/
def allRecords (rd : Nat → Byte) : List (SectionSpec × Nat) :=
  (siDir rd).flatMap fun e =>
    match sectionSpec e.type with
    | some s => (recOffsets rd e.type).map (fun o => (s, o))
    | none => []

/-- The key of a record, in comparison order (R110, R111). -/
def recordKey (rd : Nat → Byte) (s : SectionSpec) (o : Nat) : List Nat :=
  s.key.map (fun k => rdLe rd (o + k.1) k.2) ++
    (rdBytes rd (o + s.keyBytes.1) s.keyBytes.2).map (·.toNat)

/-- Strict order of keys, field by field. -/
def keyLt : List Nat → List Nat → Bool
  | a :: as, b :: bs => decide (a < b) || (a == b && keyLt as bs)
  | _, _ => false

/-- Check 0x0A on the records of a section. -/
def orderBad (rd : Nat → Byte) (s : SectionSpec) : Option Nat :=
  let os := recOffsets rd s.type
  ((os.zip (os.drop 1)).find? (fun p => !keyLt (recordKey rd s p.1) (recordKey rd s p.2))).map (·.2)

/-- Whether half-open ranges overlap. -/
def overlaps (a la b lb : Nat) : Bool := decide (a < b + lb ∧ b < a + la)

/-- The first record of a section that fails `p`, as (section type, index). -/
def badIn {α : Type} (t : Nat) (l : List α) (p : α → Bool) : Option (Nat × Nat) :=
  (l.findIdx? (fun r => !p r)).map (fun i => (t, i))

/-- Whether following AfterBd from `b` comes back to no domain twice within 16 steps (check 0x1C). -/
def afterBdEnds (L : Leaf) : Nat → Nat → Bool
  | 0, _ => false
  | n + 1, b =>
    match L.bds.find? (fun r => r.bd == b) with
    | none => true
    | some r => r.afterBd == 0xFF || afterBdEnds L n r.afterBd

/-- The sorted distinct ImageIds of a slot of a domain. -/
def slotIds (L : Leaf) (bd slot : Nat) : List (List Byte) :=
  (L.images.filter (fun i => i.bd == bd && i.slot == slot)).map (·.imageId)

/-- Whether a locator is present (R114). -/
def locPresent (l : Locator) : Bool := l.flash != 0xFF

/-- The device record of F in a leaf. -/
def flashOf (L : Leaf) (f : Nat) : Option FlashRec := L.flashes.find? (fun r => r.f == f)
/-- The bus record of a bus in a leaf. -/
def busOf (L : Leaf) (b : Nat) : Option BusRec := L.buses.find? (fun r => r.bus == b)
/-- The domain record of a domain in a leaf. -/
def bdOf (L : Leaf) (b : Nat) : Option BdRec := L.bds.find? (fun r => r.bd == b)
/-- The port record of a port in a leaf. -/
def portOf (L : Leaf) (p : Nat) : Option PortRec := L.ports.find? (fun r => r.port == p)
/-- A partition record in a leaf. -/
def partOf (L : Leaf) (p : Nat) : Option PartRec := L.partitions.find? (fun r => r.partition == p)
/-- A class table in a leaf. -/
def classTableOf (L : Leaf) (t : Nat) : Option ClassTableRec := L.classTables.find? (fun r => r.tableId == t)
/-- A state table in a leaf. -/
def stateTableOf (L : Leaf) (t : Nat) : Option StateTableRec := L.stateTables.find? (fun r => r.tableId == t)
/-- A rate curve in a leaf. -/
def curveOf (L : Leaf) (c : Nat) : Option CurveRec := L.curves.find? (fun r => r.curveId == c)
/-- The region windows of a device, in rank order (R124). -/
def windowsOf (L : Leaf) (r : FlashRec) : List WindowRec := (L.windows.drop r.windowFirst).take r.windowCount
/-- The floor of an image class (R132). -/
def floorOf (L : Leaf) (c : Nat) : Nat := ((L.floors.find? (fun r => r.imageClass == c)).map (·.minVersion)).getD 0
/-- The rights of an agent (R128). -/
def rightsOf (L : Leaf) (aid : Nat) : Option RightsRec := L.rights.find? (fun r => r.aid == aid)
/-- The channel record of a channel (R127). -/
def channelOf (L : Leaf) (c : Nat) : Option ChannelRec := L.channels.find? (fun r => r.channel == c)

/-- The class table protocol a bus mode needs (R121). -/
def protocolOfMode (m : Nat) : Nat := if m ≤ 2 then 0 else if m == 3 then 1 else 2

/-- The presented ranges of a port: (owner tag, start, length), one tag per ImageId, windows each their own. -/
def presentedRanges (L : Leaf) (p : Nat) : List (Nat × List Byte × Nat × Nat) :=
  let bdNo := ((portOf L p).map (·.bd)).getD 0xFF
  (L.images.filter (fun i => i.bd == bdNo)).map (fun i => (0, i.imageId, i.presentOffset, i.length)) ++
    (L.presents.zipIdx.filter (fun w => w.1.port == p)).map (fun w => (w.2 + 1, [], w.1.presentOffset, w.1.length))

/-- Check 0x20 on one presented range of a port: within the presented size, and apart from every other range of it. -/
def presentedRangeGood (L : Leaf) (p : PortRec) (tag : Nat) (id : List Byte) (start len : Nat) : Bool :=
  decide (start + len ≤ 2 ^ p.sizeLog2) &&
    (presentedRanges L p.port).all (fun b => (b.1 == tag && b.2.1 == id) || !overlaps start len b.2.2.1 b.2.2.2)

/-- Check 0x20: the first image, then the first presentation window that fails it. -/
def presentationBad (L : Leaf) : Option (Nat × Nat) :=
  (badIn 0x05 L.images fun i =>
    L.ports.all (fun p => p.bd != i.bd || presentedRangeGood L p 0 i.imageId i.presentOffset i.length)).or
  ((L.presents.zipIdx.find? (fun w =>
    L.ports.any (fun p => p.port == w.1.port && !presentedRangeGood L p (w.2 + 1) [] w.1.presentOffset w.1.length))).map
      (fun w => (0x07, w.2)))

/-- A locator's device is a Primary whose OwnerBd is the domain (check 0x1A). -/
def locatorGood (L : Leaf) (bd : Nat) (l : Locator) : Bool :=
  match flashOf L l.flash with
  | some r => r.role == 1 && r.ownerBd == bd
  | none => false

/-- Check 0x16 on a device. -/
def sparesGood (L : Leaf) (r : FlashRec) : Bool :=
  (if r.role == 2 then
    match flashOf L r.spareFor with
    | some p => p.role == 1 && p.sizeLog2 == r.sizeLog2 && p.eraseSizes == r.eraseSizes && p.pageSize == r.pageSize
    | none => false
   else true) &&
  decide ((L.flashes.filter (fun s => s.role == 2 && s.spareFor == r.f)).length ≤ 1) &&
  (if r.role == 3 then
    r.windowCount == 0 && !L.images.any (fun i => i.sourceFlash == r.f) &&
      !L.bds.any (fun b => b.slotA.flash == r.f || b.slotB.flash == r.f || b.golden.flash == r.f) &&
      !L.presents.any (fun w => w.flash == r.f) && !L.flashes.any (fun s => s.role == 2 && s.spareFor == r.f)
   else true)

/-- Check 0x19 on an image. -/
def imagePlaceGood (L : Leaf) (i : ImageRec) : Bool :=
  (if i.serveMode == 2 then i.partition == 0xFF
   else match partOf L i.partition with
    | some p => decide (i.length ≤ p.granuleCount * 65536)
    | none => false) &&
  L.images.all (fun j =>
    (j.partition != i.partition || i.partition == 0xFF ||
      (j.bd == i.bd && j.imageId == i.imageId && j.presentOffset == i.presentOffset)) &&
    (!(j.bd == i.bd && j.imageId == i.imageId) || j.serveMode == i.serveMode))

/-- Check 0x21 on a presentation window. -/
def presentGood (L : Leaf) (w : PresentRec) : Bool :=
  match flashOf L w.flash with
  | none => false
  | some r =>
    let need := (if w.access.testBit 0 then 1 else 0) + (if w.access.testBit 1 then 6 else 0)
    r.role == 1 && ((portOf L w.port).map (·.bd)) == some r.ownerBd &&
      decide (w.flashOffset + w.length ≤ 2 ^ r.sizeLog2) &&
      (windowsOf L r).any (fun g =>
        (g.anyAgent || g.aid == 0x20 + w.port) && (g.access &&& need) == need &&
          decide (g.baseUnit * 4096 ≤ w.flashOffset ∧ w.flashOffset + w.length ≤ (g.baseUnit + g.lengthUnits) * 4096))

/-- Check 0x15 on a device. -/
def deviceWindowsGood (L : Leaf) (r : FlashRec) : Bool :=
  let ws := windowsOf L r
  ws.length == r.windowCount &&
    ws.zipIdx.all (fun p => p.1.f == r.f && p.1.index == p.2 &&
      decide (p.1.baseUnit + p.1.lengthUnits ≤ 2 ^ (r.sizeLog2 - 12)))

/-- Check 0x1E on a port. -/
def portTimingGood (p : PortRec) : Bool :=
  let lim := if p.mode ≤ 3 then 100 else if p.mode == 4 then 200 else 66
  decide (p.clockMHz ≤ lim) &&
    (if p.mode == 5 then p.dummyCycles == 0 && p.addrBytes == 0 && p.jedecId.all (· == 0) && p.waitMode
     else decide (ceilDiv (65 * p.clockMHz) 1000 ≤ p.dummyCycles)) &&
    (if p.mode ≤ 3 then !p.waitMode else true) && (if p.addrBytes == 3 then decide (p.sizeLog2 ≤ 24) else true)

/-- The checks 0x10–0x28 on a parsed image, each with the failing record as (section type, index). -/
def crossChecks (L : Leaf) : List (Nat × (Unit → Option (Nat × Nat))) :=
  [ (0x10, fun _ => badIn 0x02 L.flashes fun r => (busOf L (r.f / 4)).isSome),
    (0x11, fun _ => badIn 0x01 L.buses fun b =>
      b.addrBytes == 4 || L.flashes.all (fun r => r.f / 4 != b.bus || decide (r.sizeLog2 ≤ 24))),
    (0x12, fun _ => badIn 0x02 L.flashes fun r =>
      match classTableOf L r.classTable, stateTableOf L r.stateTable, busOf L (r.f / 4) with
      | some c, some s, some b => c.protocol == protocolOfMode b.mode && decide (r.initialState < s.stateCount) &&
          (r.rateCurve == 0xFF || (curveOf L r.rateCurve).isSome)
      | _, _, _ => false),
    (0x13, fun _ => badIn 0x08 L.classTables fun c =>
      L.flashes.all (fun r => r.classTable != c.tableId ||
        (match stateTableOf L r.stateTable with
         | some s => c.classes.all (fun v => v == 0xFF || decide (v < s.classCount))
         | none => true))),
    (0x14, fun _ => badIn 0x09 L.stateTables fun s =>
      s.entries.zipIdx.all (fun e => decide (s.stateCount ≤ e.2 / 64) || decide (s.classCount ≤ e.2 % 64) ||
        decide (e.1 / 8 % 32 < s.stateCount))),
    (0x15, fun _ =>
      match badIn 0x02 L.flashes (deviceWindowsGood L) with
      | some o => some o
      | none => (L.windows.zipIdx.find? (fun w =>
          !L.flashes.any (fun r => decide (r.windowFirst ≤ w.2 ∧ w.2 < r.windowFirst + r.windowCount)))).map
            (fun w => (0x0A, w.2))),
    (0x16, fun _ => badIn 0x02 L.flashes (sparesGood L)),
    (0x17, fun _ => badIn 0x04 L.partitions fun p =>
      decide (p.firstGranule + p.granuleCount ≤ 1536) &&
        L.partitions.all (fun q => q.partition == p.partition ||
          !overlaps p.firstGranule p.granuleCount q.firstGranule q.granuleCount)),
    (0x18, fun _ => badIn 0x05 L.images fun i =>
      match flashOf L i.sourceFlash with
      | some r => r.role == 1 && decide (i.sourceOffset + i.length ≤ 2 ^ r.sizeLog2) && r.ownerBd == i.bd
      | none => false),
    (0x19, fun _ => badIn 0x05 L.images (imagePlaceGood L)),
    (0x1A, fun _ => badIn 0x03 L.bds fun b =>
      locPresent b.slotA && locatorGood L b.bd b.slotA && (!locPresent b.slotB || locatorGood L b.bd b.slotB) &&
        (!locPresent b.golden || locatorGood L b.bd b.golden) && (b.activeSlot != 1 || locPresent b.slotB)),
    (0x1B, fun _ => badIn 0x03 L.bds fun b =>
      let a := slotIds L b.bd 0
      !a.isEmpty && slotIds L b.bd 1 == (if locPresent b.slotB then a else []) &&
        slotIds L b.bd 2 == (if locPresent b.golden then a else [])),
    (0x1C, fun _ => badIn 0x03 L.bds fun b =>
      b.afterBd == 0xFF || ((bdOf L b.afterBd).isSome && b.afterBd != b.bd && afterBdEnds L 17 b.bd)),
    (0x1D, fun _ =>
      match badIn 0x03 L.bds (fun b =>
          b.port == 0xFF || ((portOf L b.port).map (·.bd)) == some b.bd) with
      | some o => some o
      | none => badIn 0x06 L.ports fun p =>
          ((bdOf L p.bd).map (·.port)) == some p.port),
    (0x1E, fun _ => badIn 0x06 L.ports portTimingGood),
    (0x1F, fun _ => badIn 0x06 L.ports fun p =>
      p.waitMode || (L.images.all (fun i => i.bd != p.bd || i.serveMode == 0) &&
        L.presents.all (fun w => w.port != p.port))),
    (0x20, fun _ => presentationBad L),
    (0x21, fun _ => badIn 0x07 L.presents (presentGood L)),
    (0x22, fun _ => badIn 0x0C L.gates fun g =>
      (bdOf L g.bd).isSome && (g.order != 0 || g.delay == 0) &&
        (g.order == 0 || L.gates.any (fun h => h.bd == g.bd && h.order + 1 == g.order)) &&
        decide ((L.gates.filter (fun h => h.bd == g.bd && h.order == g.order)).length ≤ 1)),
    (0x23, fun _ => badIn 0x0D L.channels fun c =>
      c.sender != c.receiver && (!c.ibi || c.receiver == 0x18 || c.receiver == 0x19)),
    (0x24, fun _ => badIn 0x0E L.rights fun r =>
      (!r.stagingWindow || decide (r.aid ≤ 0x0F)) &&
        (List.range 64).all (fun n => !r.partitionMask.testBit n || (partOf L n).isSome) &&
        (List.range 16).all (fun n => !(r.ledgerBdMask.testBit n || r.exportBdMask.testBit n) || (bdOf L n).isSome)),
    (0x25, fun _ => badIn 0x0F L.eventRates fun e =>
      (e.code == 0 || within 0x0100 0x0FFF e.code) && decide (1 ≤ e.depth)),
    (0x26, fun _ =>
      match badIn 0x10 L.sweeps (fun s =>
          L.sweeps.all (fun t => t.ld != s.ld || (t.compare == s.compare && t.attest == s.attest &&
            t.maxRegions == s.maxRegions && t.maxOutstanding == s.maxOutstanding && t.rateCapMBps == s.rateCapMBps &&
            t.minPeriodMs == s.minPeriodMs && (t.windowBase == s.windowBase ||
              !overlaps s.windowBase s.windowLength t.windowBase t.windowLength)))) with
      | some o => some o
      | none =>
        -- No record alone breaks the sum: Where is the last sweep record (notes/assumptions/20.md).
        let tot := (List.range 16).foldl (fun n ld =>
          n + ((L.sweeps.find? (fun s => s.ld == ld)).map (·.maxOutstanding)).getD 0) 0
        if tot ≤ 1024 then none else some (0x10, L.sweeps.length - 1)),
    (0x27, fun _ => badIn 0x12 L.floors fun f =>
      f.imageClass != 0 || decide (f.minVersion ≤ L.siVersion)),
    (0x28, fun _ => badIn 0x13 L.pins fun p =>
      (!(p.kind == 1 && (p.function == 3 || p.function == 4)) || (bdOf L p.param).isSome) &&
        (!(p.kind == 1 && p.function == 4) ||
          decide ((L.pins.filter (fun q => q.kind == 1 && q.function == 4 && q.param == p.param)).length ≤ 1)) &&
        (p.kind != 2 || L.pins.all (fun q => q.kind != 2 || q.index == p.index || q.param != p.param)) &&
        decide ((L.pins.filter (fun q => q.kind == p.kind && q.index == p.index)).length ≤ 1)) ]

/-- The checks 0x01–0x0B, which make the image safe to parse. -/
def formatChecks (env : SiEnv) (rd : Nat → Byte) : List (Nat × (Unit → Option Nat)) :=
  [ (0x01, fun _ => firstBad
      [(0, rdLe rd 0 4 == 0x49535842), (4, rdLe rd 4 2 == 1), (6, rdLe rd 6 2 == 0x80)]),
    (0x02, fun _ =>
      let t := siTotalLength rd
      firstBad [(0x08, decide (t ≤ 1048576) && t % 16 == 0 && siSigOffset rd + sigBlockLen == t &&
        (env.expectLen == none || env.expectLen == some t))]),
    (0x03, fun _ =>
      let o := siSigOffset rd
      firstBad [(o, rdLe rd o 4 == 0x47535842), (o + 4, rdLe rd (o + 4) 1 == 1),
        (o + 5, decide (rdLe rd (o + 5) 1 ≤ 7)), (o + 8, rdLe rd (o + 8) 4 == 1952), (o + 12, rdLe rd (o + 12) 4 == 3309)]),
    (0x04, fun _ => if siSignatureOk env rd then none else some (siSigOffset rd)),
    (0x05, fun _ =>
      let t := rdLe rd 0x18 8
      if t == 0 || t == env.serial then none else some 0x18),
    (0x06, fun _ => firstBad
      [(0x12, rdLe rd 0x12 2 == 0), (0x14, decide (rdLe rd 0x14 4 ≤ 255)), (0x10, within 1 19 (siSectionCount rd))]),
    (0x07, fun _ =>
      let es := siDir rd
      match es.zipIdx.find? (fun p =>
          let e := p.1
          !(match sectionSpec e.type with
            | some s => e.recSize == s.recSize && within 1 s.maxRec e.count && e.length == e.recSize * e.count &&
                (es.filter (fun x => x.type == e.type)).length == 1
            | none => false)) with
      | some p => some (siHeaderLen + 16 * p.2)
      | none => -- No directory entry is at fault: Where is SectionCount (notes/assumptions/20.md).
        if sections.all (fun s => !s.required || es.any (fun e => e.type == s.type)) then none else some 0x10),
    (0x08, fun _ => placementBad rd),
    (0x09, fun _ =>
      let o := siSigOffset rd
      ((firstNonZero rd 0x28 24).or ((allRecords rd).findSome? (fun p => recordReservedBad rd p.1 p.2))).or
        (((siGaps rd).findSome? (fun g => firstNonZero rd g.1 g.2)).or
          ((firstNonZero rd (o + 6) 2).or (firstNonZero rd (o + 5277) 3)))),
    (0x0A, fun _ => sections.findSome? (orderBad rd)),
    (0x0B, fun _ => (allRecords rd).findSome? (fun p => recordValueBad rd p.1 p.2)) ]

/-- The first check that fails, as (code, Where); checks run in the order of the list. -/
def firstFail {α : Type} : List (Nat × (Unit → Option α)) → Option (Nat × α)
  | [] => none
  | (c, f) :: tl =>
    match f () with
    | some w => some (c, w)
    | none => firstFail tl

/-- The content checks in ascending code order (R137, R139). -/
def contentCheck (env : SiEnv) (rd : Nat → Byte) : Option (Nat × Nat) :=
  (firstFail (formatChecks env rd)).or
    ((firstFail (crossChecks (parseSi rd))).map fun r => (r.1, (recOffsets rd r.2.1).getD r.2.2 0))

end Sys2Proof.Machine
end

