-- ==== Sys2Proof/Machine/Ledger.lean ====
section
/-! DEFINITION. The boot ledger over the ream in MRAM (spec/14_ream_and_event_recorder.md, R397–R413): positions,
checks of a submitted sheet, acknowledgements. Machine/LedgerCmds.lean makes the commands of it. -/

namespace Sys2Proof.Machine

/-- Address of ream position `p` (R397). -/
def sheetAddr (p : Nat) : Nat := reamBase + p * 0x2000
/-- A position holds a stored sheet: its Magic is correct (R406). -/
def sheetHeld (m : Memory) (p : Nat) : Bool := memLe m (sheetAddr p) 4 == 0x48535842
/-- SheetNumber of a position (R398). -/
def sheetNo (m : Memory) (p : Nat) : Nat := memLe m (sheetAddr p + 4) 4
/-- Bd of a position (R398). -/
def sheetBd (m : Memory) (p : Nat) : Nat := memLe m (sheetAddr p + 0x0A) 1
/-- A position's sheet is acknowledged (R397). -/
def sheetAcked (m : Memory) (p : Nat) : Bool := memLe m (sheetAddr p + 8184) 4 == 0x444B4341
/-- The chain digest of a position's sheet (R401). -/
def sheetDigest (m : Memory) (p : Nat) : List Byte := shake256 (memRead m (sheetAddr p) 7405) 64

/-- The 2,048 positions. -/
def positions : List Nat := List.range 2048
/-- The positions that hold a sheet. -/
def heldPositions (m : Memory) : List Nat := positions.filter (sheetHeld m)

/-- The stored sheets (R406): the positions that hold one, but for those that could not be read (R429). -/
def storedPositions (m : Memory) (bad : List Nat) : List Nat := (heldPositions m).filter (fun p => !bad.contains p)

/-- The position with the lowest SheetNumber of a list. -/
def lowestSheet (m : Memory) (ps : List Nat) : Option Nat :=
  ps.foldl (fun acc p => match acc with
    | none => some p
    | some q => if sheetNo m p < sheetNo m q then some p else some q) none

/-- The position with the highest SheetNumber of a list. -/
def highestSheet (m : Memory) (ps : List Nat) : Option Nat :=
  ps.foldl (fun acc p => match acc with
    | none => some p
    | some q => if sheetNo m q < sheetNo m p then some p else some q) none

/-- The position of sheet `n`, where it is stored. -/
def positionOf (m : Memory) (bad : List Nat) (n : Nat) : Option Nat := (storedPositions m bad).find? (fun p => sheetNo m p == n)

/-- R403 item 1: positions that have never held a sheet and are not bad. -/
def freePositions (m : Memory) (bad : List Nat) (used : Nat) : List Nat :=
  positions.filter (fun p => !sheetHeld m p && !hasBit used p && !bad.contains p)

/-- R403 item 2. -/
def reusable (wrap : Bool) (m : Memory) (bad : List Nat) : Option Nat :=
  let held := storedPositions m bad
  if wrap then lowestSheet m (held.filter (sheetAcked m))
  else match lowestSheet m held with
    | some p => if sheetAcked m p then some p else none
    | none => none

/-- R403 item 3: the lowest-numbered unacknowledged sheet the release covers. -/
def overridable (m : Memory) (bad : List Nat) (upTo : Nat) : Option Nat :=
  if upTo = 0xFFFFFFFF then none
  else lowestSheet m ((storedPositions m bad).filter (fun p => !sheetAcked m p && decide (sheetNo m p ≤ upTo)))

/-- The position R403 yields, and whether it is item 3 that does. -/
def choosePosition (wrap : Bool) (m : Memory) (bad : List Nat) (used upTo : Nat) : Option (Nat × Bool) :=
  match (freePositions m bad used).head? with
  | some p => some (p, false)
  | none =>
    match reusable wrap m bad with
    | some p => some (p, false)
    | none => (overridable m bad upTo).map (fun p => (p, true))

/-- The stored sheets of a list that are acknowledged before any unacknowledged one, in number order. -/
def ackedPrefix (m : Memory) (ps : List Nat) : Nat :=
  let unacked := ps.filter (fun p => !sheetAcked m p)
  match lowestSheet m unacked with
  | none => ps.length
  | some q => (ps.filter (fun p => decide (sheetNo m p < sheetNo m q))).length

/-- Positions that items 1 and 2 could offer (LG_STAT.Available, R410). -/
def available (wrap : Bool) (m : Memory) (bad : List Nat) (used : Nat) : Nat :=
  let held := storedPositions m bad
  (freePositions m bad used).length +
    (if wrap then (held.filter (sheetAcked m)).length else ackedPrefix m held)

/-- What the LG compares a sheet with (R402): its domain, the couch unit, the clock, the watermarks and the life of
the tamper unit. -/
structure LgEnv where
  now : Nat
  epoch : Nat
  siDigest : List Byte
  wrap : Bool
  /-- The domain is in Verified. -/
  verified : Nat → Bool
  /-- The image headers armed for a domain, ImageId and Digest, 80 bytes each, in manifest order. -/
  armed : Nat → List (List Byte)
  servingSlot : Nat → Nat
  goldenUsed : Nat → Bool
  fetchAhead : Nat → Bool
  /-- TM_LATCH is non-zero. -/
  tmLatched : Bool
  /-- WMK6 is non-zero. -/
  debugOpen : Bool
  fwSummary : List Byte
  tamperResponse : Bool

/-- The number in `n` bytes of a buffer at an offset. -/
def bufLe (b : List Byte) (off n : Nat) : Nat := leNat ((b.drop off).take n)
/-- Bytes of a buffer. -/
def bufBytes (b : List Byte) (off n : Nat) : List Byte := (b.drop off).take n
/-- Bytes of a buffer are zero. -/
def bufZero (b : List Byte) (off n : Nat) : Bool := (bufBytes b off n).all (· == 0)

/-- Bits 5:0 of Flags as the LG sees them now (R399). -/
def flagsNow (env : LgEnv) (m : Memory) (lg : Ledger) (bd : Nat) : Nat :=
  flag lg.logDegraded + 2 * flag (env.tmLatched || lg.tamperSeen) + 4 * flag env.debugOpen +
    8 * flag (env.goldenUsed bd) + 16 * flag (env.fetchAhead bd) +
    32 * flag (((choosePosition env.wrap m lg.bad lg.used lg.ovrUpTo.toNat).map (·.2)).getD false)

/-- The checks of R402 on a submitted buffer, in their order: 0, or the outcome of the first that fails. -/
def checkSheet (env : LgEnv) (m : Memory) (lg : Ledger) (b : List Byte) : Nat :=
  let bd := bufLe b 0x0A 1
  let no := bufLe b 0x04 4
  let ci := bufLe b 0x20 1
  let fl := bufLe b 0x1C 2
  let heads := (env.armed bd).drop (48 * ci)
  let part := heads.take 48
  let ts := bufLe b 0x10 8
  if !(env.verified bd && ci == lg.contNext.toList.getD bd 0) then 1
  else if !(no == lg.next && bufLe b 0x0C 4 == (if no = 0 then 0xFFFFFFFF else no - 1) && bufBytes b 0x40 64 == lg.headDig)
  then 2
  else if !(bufLe b 0x18 4 == env.epoch && bufBytes b 0x80 64 == env.siDigest &&
      decide (ts ≤ env.now ∧ env.now ≤ ts + 1024)) then 3
  else if !(bufLe b 0x1E 1 == part.length && decide (1 ≤ part.length) &&
      bufBytes b 256 3840 == padTo 3840 part.flatten && fl.testBit 6 == decide (48 < heads.length) &&
      bufLe b 0x1F 1 == env.servingSlot bd) then 4
  else if fl % 64 != flagsNow env m lg bd then 5
  else if bufBytes b 0xC0 64 != env.fwSummary then 6
  else if (choosePosition env.wrap m lg.bad lg.used lg.ovrUpTo.toNat).isNone then 7
  else if !(bufLe b 0 4 == 0x48535842 && bufLe b 8 2 == 1 && decide (bd ≤ 15) && within 1 6 (bufLe b 0x0B 1) &&
      fl / 256 == 0 && bufZero b 0x24 28 && bufZero b 7405 779 && (!fl.testBit 7 || bufZero b 4096 3309)) then 8
  else if fl.testBit 7 != env.tamperResponse then 9
  else 0

/-- The bytes of a sheet as stored: AckWord zero (R404). -/
def storedBytes (b : List Byte) : List Byte := padTo 8184 b ++ zeros 8

/-- Steps 2–4 of R404 in memory. -/
def storeSheet (m : Memory) (p : Nat) (b : List Byte) : Memory :=
  memWrite m (sheetAddr p) (storedBytes b)

/-- An acknowledgement against the stored sheets (R407): 0, or its outcome. -/
def checkAck (m : Memory) (bad : List Nat) (mask n : Nat) (g : List Byte) : Nat :=
  match positionOf m bad n with
  | none => 17
  | some p => if !mask.testBit (sheetBd m p) then 16 else if (sheetDigest m p).take 8 != g then 18 else 0

/-- The positions an accepted acknowledgement marks (R407). -/
def ackPositions (m : Memory) (bad : List Nat) (mask n : Nat) : List Nat :=
  (storedPositions m bad).filter (fun p => decide (sheetNo m p ≤ n) && mask.testBit (sheetBd m p) && !sheetAcked m p)

/-- AckWord of an acknowledging agent (R397). -/
def ackWord (aid : Nat) : List Byte := leBytes 4 0x444B4341 ++ leBytes 1 aid ++ zeros 3

/-- AckWord written at positions. -/
def writeAcks (aid : Nat) : List Nat → Memory → Memory
  | [], m => m
  | p :: ps, m => writeAcks aid ps (memWrite m (sheetAddr p + 8184) (ackWord aid))

/-- Every position that holds a sheet has held one. -/
def noteHeld (m : Memory) (lg : Ledger) : Ledger := { lg with used := (heldPositions m).foldl setBit lg.used }

/-- The ream as its recovery finds it (R406): LG_NEXT and the head's chain digest; `readable` says whether the head can
be read. -/
def recoverReam (m : Memory) (readable : Bool) (lg : Ledger) : Ledger :=
  match highestSheet m (heldPositions m) with
  | none => { lg with recovered := true, next := 0, headDig := zeros 64 }
  | some p =>
    { noteHeld m lg with
      recovered := true
      next := sheetNo m p + 1
      headDig := if readable then sheetDigest m p else List.replicate 64 0xFF
      logDegraded := lg.logDegraded || !readable }

end Sys2Proof.Machine
end

