-- ==== Sys2Proof/Machine/Recorder.lean ====
section
/-! DEFINITION. The event recorder, on its own state (spec/14_ream_and_event_recorder.md, R414–R430): buckets,
pending queue, records, clearing. Machine/Ops.lean lifts these to the device. -/

namespace Sys2Proof.Machine

/-- What the recorder reads of the device: the time (R414), the committed epoch, the event log key while RootValid is
1 (R417), and the committed epoch's event rates (R129). -/
structure EvEnv where
  now : Nat
  epoch : Nat
  key : Option (List Byte)
  rates : List EventRateRec

/-- Units to a token (R420). -/
def tokenUnits : Nat := 3686400

/-- BucketDepth and RefillPerHour of a code (R129). -/
def eventRate (rates : List EventRateRec) (code : Nat) : Nat × Nat :=
  match rates.find? (fun r => r.code == code) with
  | some r => (r.depth, r.refillPerHour)
  | none =>
    match rates.find? (fun r => r.code == 0) with
    | some r => (r.depth, r.refillPerHour)
    | none => (64, 3600)

/-- Units missing from a code's bucket. -/
def takenOf (r : Recorder) (code : Nat) : Nat := ((r.taken.find? (fun t => t.1 == code)).map (·.2)).getD 0

/-- Set the units missing from a bucket; a full bucket is not listed. -/
def setTaken (r : Recorder) (code n : Nat) : Recorder :=
  let rest := r.taken.filter (fun t => t.1 != code)
  { r with taken := if n = 0 then rest else (code, n) :: rest }

/-- Whether a code's bucket holds a whole token. -/
def hasToken (rates : List EventRateRec) (r : Recorder) (code : Nat) : Bool :=
  decide (takenOf r code + tokenUnits ≤ (eventRate rates code).1 * tokenUnits)

/-- The queue has room (R422). -/
def queueRoom (r : Recorder) : Bool := decide (r.queue.length < 32)

/-- One more suppressed event in a counter. -/
def Suppress.bump (s : Suppress) (now : Nat) : Suppress :=
  { s with count := s.count + 1, first := if s.count = 0 then now else s.first, last := now }

/-- No event enters the queue any more: the log is full and no clear runs (R423, R424), or no segment is left (R428). -/
def logShut (r : Recorder) : Bool := (r.full && r.clearing.isNone) || r.noSurvivor

/-- A record or event that a shut log does not take is counted in EV_DROP. -/
def dropEvent (r : Recorder) : Recorder := { r with drop := satAdd 32 r.drop 1 }

/-- A suppressed event is counted under its code, or in the shared counter where none of the 64 is free (R421). -/
def suppressEvent (now code : Nat) (r : Recorder) : Recorder :=
  let r1 := { r with suppressed := satAdd 16 r.suppressed 1 }
  if r.suppress.any (fun s => s.code == code) then
    { r1 with suppress := r.suppress.map (fun s => if s.code == code then s.bump now else s) }
  else if r.suppress.length < 64 then
    { r1 with suppress := r.suppress ++ [{ code := code, count := 1, first := now, last := now }] }
  else { r1 with shared := r.shared.bump now }

/-- An event that finds the queue full is lost and counted (R422). -/
def loseEvent (now code : Nat) (r : Recorder) : Recorder :=
  { r with
    queueLost := satAdd 16 r.queueLost 1
    lost := if r.lost.count = 0 then { code := code, count := 1, first := now, last := now } else r.lost.bump now }

/-- A record enters the pending queue; the caller knows there is room. -/
def enqueue (e : EventRec) (r : Recorder) : Recorder := { r with queue := r.queue ++ [e] }

/-- The 0x0A01 record of a counter (R421, R430). -/
def summaryRec (env : EvEnv) (s : Suppress) : EventRec :=
  { ts := env.now, code := 0x0A01, aid := 0xFF, sev := 2, flags := 1, params := [s.code, s.count, s.first, s.last, env.epoch] }

/-- The 0x0A02 record of the events lost (R422, R430). -/
def overflowRec (env : EvEnv) (s : Suppress) : EventRec :=
  { ts := env.now, code := 0x0A02, aid := 0xFF, sev := 3, flags := 1, params := [s.count, s.first, s.last, s.code, env.epoch] }

/-- A counted suppressed code is summarised before any new event of that code (R421): its record takes the token and frees
the counter. At a full queue it waits ahead of later posts; a shut log drops it. -/
def summarise (env : EvEnv) (code : Nat) (r : Recorder) : Recorder :=
  match r.suppress.find? (fun s => s.code == code) with
  | none => r
  | some s =>
    if !hasToken env.rates r code then r
    else
      let r1 := { setTaken r code (takenOf r code + tokenUnits) with suppress := r.suppress.filter (fun t => t.code != code) }
      if logShut r then dropEvent r1
      else if queueRoom r then enqueue (summaryRec env s) r1
      else { r1 with stalled := r1.stalled ++ [summaryRec env s] }

/-- The record of a counter enters where there is room, or is dropped by a shut log; `clear` frees the counter. -/
def reportCount (s : Suppress) (e : EventRec) (clear : Recorder → Recorder) (r : Recorder) : Recorder :=
  if s.count = 0 then r
  else if logShut r then dropEvent (clear r)
  else if queueRoom r then enqueue e (clear r) else r

/-- A counter that counts nothing. -/
def noCount : Suppress := { code := 0, count := 0, first := 0, last := 0 }

/-- The shared counter is summarised as soon as the queue has room (R421). -/
def summariseShared (env : EvEnv) (r : Recorder) : Recorder :=
  reportCount r.shared (summaryRec env r.shared) (fun x => { x with shared := noCount }) r

/-- Room in the queue: the lost events are reported, the shared counter is summarised, and what stalled enters in its order
(R421, R422). -/
def fillQueue (env : EvEnv) (r : Recorder) : Recorder :=
  let r1 := reportCount r.lost (overflowRec env r.lost) (fun x => { x with lost := noCount }) r
  let r2 := summariseShared env r1
  match r2.stalled with
  | e :: tl => if queueRoom r2 then { enqueue { e with ts := env.now } r2 with stalled := tl } else r2
  | [] => r2

/-- An event arrives (R420–R423): bucket, then queue. `hart` says that it is a hart's post, which stalls at a full
queue. A shut log drops and counts it. -/
def arrive (env : EvEnv) (hart : Bool) (code aid sev : Nat) (params : List Nat) (r : Recorder) : Recorder :=
  if logShut r then dropEvent r
  else
    let r1 := summarise env code r
    if !hasToken env.rates r1 code then summariseShared env (suppressEvent env.now code r1)
    else
      let r2 := setTaken r1 code (takenOf r1 code + tokenUnits)
      let e : EventRec := { ts := env.now, code := code, aid := aid, sev := sev, flags := 0, params := params }
      if queueRoom r2 then enqueue e r2
      else if hart then { r2 with stalled := r2.stalled ++ [e] }
      else loseEvent env.now code r2

/-- RATE_CREDIT_REFILL of the event buckets at a tick of 1/1,024 s (R420), and the summaries that follow (R421). -/
def refillBuckets (env : EvEnv) (r : Recorder) : Recorder :=
  let r1 : Recorder := { r with taken := (r.taken.map (fun t => (t.1, t.2 - (eventRate env.rates t.1).2))).filter (fun t => t.2 != 0) }
  fillQueue env ((r1.suppress.map (·.code)).foldl (fun acc c => summarise env c acc) r1)

/-- The sequence number after `n`; 0xFFFFFFFF is skipped (R418). -/
def nextSeq (n : Nat) : Nat := if 0xFFFFFFFE ≤ n then 0 else n + 1

/-- MRAM address of event record `j` (R95). -/
def recordAddr (j : Nat) : Nat := eventBase + j * 0x40

/-- Bytes 0–55 of a record (R415). -/
def recordBody (e : EventRec) (seq flags : Nat) : List Byte :=
  leBytes 8 e.ts ++ leBytes 4 seq ++ leBytes 2 e.code ++ leBytes 1 e.aid ++ leBytes 1 (e.sev + 16 * flags) ++
    ((List.range 5).flatMap fun k => leBytes 8 (e.params.getD k 0))

/-- A record with its tag: 8 bytes of KMAC256 under the event log key, or zero with Untagged (R417). -/
def recordBytes (env : EvEnv) (r : Recorder) (e : EventRec) (seq : Nat) : List Byte :=
  let fl := e.flags ||| (if r.degraded then 8 else 0)
  match env.key with
  | some k =>
    let b := recordBody e seq fl
    b ++ kmac256 k b 8 (ascii "BX6440 EV")
  | none => recordBody e seq (fl ||| 4) ++ zeros 8

/-- The first index at or after `j` whose segment of 1,024 records is not marked (R428); 65,536 where none is. -/
def skipBad (bad j : Nat) : Nat :=
  if !hasBit bad (j / 1024) then j
  else (((List.range 64).filter (fun s => decide (j / 1024 < s) && !hasBit bad s)).head?.map (· * 1024)).getD 65536

/-- Step 1 of R418: the words at bytes 0–7 and 16–63 of a record. -/
def putBody (j : Nat) (b : List Byte) (m : Memory) : Memory :=
  memWrite (memWrite m (recordAddr j) (b.take 8)) (recordAddr j + 16) (b.drop 16)

/-- Step 2 of R418: the word at bytes 8–15, which makes the record valid. -/
def putSeqWord (j : Nat) (b : List Byte) (m : Memory) : Memory := memWrite m (recordAddr j + 8) ((b.drop 8).take 8)

/-- Write one record at the pointer (R418): the memory and the recorder after it. With no unmarked segment left after
it, NoSurvivor is set (R428). -/
def putRecord (env : EvEnv) (e : EventRec) (m : Memory) (r : Recorder) : Memory × Recorder :=
  let seq := nextSeq r.lastSeq
  let next := skipBad r.badSeg (r.nextIndex + 1)
  let b := recordBytes env r e seq
  (putSeqWord r.nextIndex b (putBody r.nextIndex b m),
   { r with lastSeq := seq, nextIndex := next, noSurvivor := decide (65536 ≤ next) })

/-- After record 65,534 the recorder writes record 65,535 as 0x0A07 and stops; what waits is dropped and counted
(R423). -/
def closeIfFull (env : EvEnv) (m : Memory) (r : Recorder) : Memory × Recorder :=
  if r.nextIndex = 65535 ∧ r.full = false then
    let e : EventRec := { ts := env.now, code := 0x0A07, aid := 0xFF, sev := 4, flags := 0, params := [r.lastSeq, 0, 0, 0, env.epoch] }
    let p := putRecord env e m r
    (p.1, { p.2 with
      full := true, noSurvivor := false, nextIndex := 65536, drop := satAdd 32 r.drop (r.queue.length + r.stalled.length)
      queue := [], stalled := [] })
  else (m, r)

/-- Records go from the queue to the log: recovery and clearing done, a record position left (R422–R424, R428). -/
def logOpen (r : Recorder) : Bool := !r.recovering && r.clearing.isNone && decide (r.nextIndex < 65536)

/-- RECORD_WRITE_DONE: the front of the queue is in the log, and the next may enter (R418, R422). -/
def writeFront (env : EvEnv) (m : Memory) (r : Recorder) : Memory × Recorder :=
  match r.queue with
  | [] => (m, r)
  | e :: tl =>
    if !logOpen r then (m, r) else
    let p := putRecord env e m { r with queue := tl }
    let c := closeIfFull env p.1 p.2
    (c.1, fillQueue env c.2)

/-- A record write cut short before its sequence word (R63, R418): the record is torn. -/
def tearFront (env : EvEnv) (m : Memory) (r : Recorder) : Memory :=
  match r.queue with
  | [] => m
  | e :: _ => if logOpen r then putBody r.nextIndex (recordBytes env r e (nextSeq r.lastSeq)) m else m

/-- The whole pending queue written at once (R555 step 4, R577 step 2). -/
def writeAll (env : EvEnv) : Nat → Memory → Recorder → Memory × Recorder
  | 0, m, r => (m, r)
  | n + 1, m, r =>
    let p := writeFront env m r
    writeAll env n p.1 p.2

/-- The sequence word of record `j` in memory. -/
def recordSeq (m : Memory) (j : Nat) : Nat := memLe m (recordAddr j + 8) 4

/-- A record position holds a record: its sequence number is not 0xFFFFFFFF and it is not all zero (a wiped
position, R413). -/
def recordValid (m : Memory) (j : Nat) : Bool :=
  recordSeq m j != 0xFFFFFFFF && (memRead m (recordAddr j) 64).any (· != 0)

/-- The code of record `j`. -/
def recordCode (m : Memory) (j : Nat) : Nat := memLe m (recordAddr j + 12) 2

/-- Step 1 of a clear: the sequence numbers of the records below `top` become 0xFFFFFFFF, from the highest down; record 1 is
the last, record 0 keeps its own, and at most `n` are written (R424). -/
def clearSeqs : Nat → Nat → Memory → Memory
  | 0, _, m => m
  | _, 0, m => m
  | n + 1, j + 1, m => if j = 0 then m else clearSeqs n j (memWrite m (recordAddr j + 8) (leBytes 4 0xFFFFFFFF))

/-- A clear cut short by a loss of power after `n` of its words (R424). -/
def cutClear (n : Nat) (m : Memory) (r : Recorder) : Memory := if r.clearing.isSome then clearSeqs n r.nextIndex m else m

/-- The log after a clear: record 0 is 0x0A05 with the next sequence number, recording resumes at record 1 (R424). -/
def clearLog (env : EvEnv) (requester : Nat) (m : Memory) (r : Recorder) : Memory × Recorder :=
  let m1 := clearSeqs r.nextIndex r.nextIndex m
  let e : EventRec :=
    { ts := env.now, code := 0x0A05, aid := 0xFF, sev := 3, flags := 0
      params := [requester, r.lastSeq, r.ringCarried, r.drop, env.epoch] }
  let p := putRecord env e m1 { r with nextIndex := 0, full := false, clearing := none }
  (p.1, fillQueue env p.2)

/-- A clear in progress is completed, where power goes down in order (R62, R555). -/
def finishClear (env : EvEnv) (m : Memory) (r : Recorder) : Memory × Recorder :=
  match r.clearing with
  | some aid => clearLog env aid m r
  | none => (m, r)

/-- The write pointer and last sequence number a recovery finds (R425): the record after the last valid one. -/
def recoverPointer (m : Memory) : Nat × Nat :=
  (List.range 65536).foldl (fun acc j => if recordValid m j then (j + 1, recordSeq m j) else acc) (0, 0xFFFFFFFF)

/-- Parameter 2 of the last 0x0A04 or 0x0A05 record (R425, R426). -/
def recoverCarried (m : Memory) : Nat :=
  (List.range 65536).foldl (fun acc j =>
    if recordValid m j && (recordCode m j == 0x0A04 || recordCode m j == 0x0A05) then memLe m (recordAddr j + 32) 8
    else acc) 0

end Sys2Proof.Machine
end

