-- ==== Sys2Proof/Machine/Signature.lean ====
section
/-! DEFINITION. The signature engine on its own state (spec/10_signature_engine.md, R303–R321): queues, units, result
codes. Machine/SignatureCmds.lean makes the commands of it. -/

namespace Sys2Proof.Machine

/-- Jobs of a hart that are submitted and not completed (R311, SG_STAT): queued, running, or ended with their result still
to complete into a full queue. -/
def jobsInFlight (sg : SigEngine) (h : Nat) : Nat :=
  ((sg.verifyQ ++ sg.signQ ++ sg.units.toList.filterMap (·.job)).filter (fun j => j.hart == some h)).length + (vget sg.late h).length

/-- A free unit takes the first job of its queue (R312). -/
def startJob (sg : SigEngine) (u : Unit3) : SigEngine :=
  if sg.units[u].job.isSome || sg.units[u].offline || sg.restarting then sg
  else if u.val < 2 then
    match sg.verifyQ with
    | j :: tl => { sg with verifyQ := tl, units := sg.units.set u { sg.units[u] with job := some j } }
    | [] => sg
  else
    match sg.signQ with
    | j :: tl => { sg with signQ := tl, units := sg.units.set u { sg.units[u] with job := some j } }
    | [] => sg

/-- Every free unit takes a job. -/
def startJobs (sg : SigEngine) : SigEngine := startJob (startJob (startJob sg 0) 1) 2

/-- A job enters its queue (R312). A job whose Op is undefined ends at a verify unit (R316, code 8). -/
def queueJob (j : SgJob) (sg : SigEngine) : SigEngine :=
  startJobs (if j.op = 2 ∨ j.op = 3 then { sg with signQ := sg.signQ ++ [j] } else { sg with verifyQ := sg.verifyQ ++ [j] })

/-- A result enters the hart's queue of 4 entries (R313), or waits while that is full; the booth has none. -/
def putResult (j : SgJob) (code : Nat) (sg : SigEngine) : SigEngine :=
  let r : SgResult := { tag := j.tag, op := j.op, code := code }
  match j.hart with
  | none => sg
  | some h =>
    if (vget sg.results h).length < 4 then { sg with results := vmod sg.results h (fun l => l ++ [r]) }
    else { sg with late := vmod sg.late h (fun l => l ++ [r]) }

/-- A hart's queue after its first entry was popped: a result that waited completes into it. -/
def popResult (h : Hart) (tl : List SgResult) (sg : SigEngine) : SigEngine :=
  { sg with results := sg.results.set h (tl ++ sg.late[h].take 1), late := sg.late.set h (sg.late[h].drop 1) }

/-- The verdict pair of a code (R317). -/
def verdictPair (code : Nat) : Word × Word :=
  if code = 0 then (0x3C96A55A, 0xC3695AA5)
  else if code = 12 ∨ code = 10 then (0, 0)
  else (0x00000000, 0xFFFFFFFF)

/-- The AID of event parameters for a job (R321). -/
def jobAid (j : SgJob) : Nat := match j.hart with
  | some h => 0x10 + h
  | none => 0xFF

/-- The events of a job that ended with a code on a unit (R321), without parameter 4. -/
def jobEvents (j : SgJob) (unit code : Nat) : List (Nat × Nat × List Nat) :=
  let key := j.source + 256 * j.key
  if code = 12 ∧ unit = 3 then [(0x0604, 5, [j.key, jobAid j, j.tag, 0])]
  else if code = 9 then [(0x0605, 4, [j.key, jobAid j, j.tag, 0])]
  else if code = 5 then [(0x0602, 3, [jobAid j, j.tag, j.key, j.op])]
  else if j.op = 1 ∧ 1 ≤ code ∧ code ≤ 8 then [(0x0601, 3, [jobAid j, j.tag, code, key])]
  else []

/-- Event 0x0603 (R321). -/
def zeroisedEvent (cause unit : Nat) (j : SgJob) : Nat × Nat × List Nat := (0x0603, 4, [cause, j.op, jobAid j, unit])

/-- The jobs running on units, with their unit. -/
def runningJobs (sg : SigEngine) : List (SgJob × Nat) :=
  sg.units.toList.zipIdx.filterMap (fun p => p.1.job.map (fun j => (j, p.2)))

/-- Every unit without a job. -/
def idleUnits (sg : SigEngine) : Vector SigUnit 3 := sg.units.map (fun u => { u with job := none })

/-- A core reset on the engine (R35, R318): running jobs aborted, queued jobs discarded, result queues cleared. The
booth's job, which no hart submitted, ends too. -/
def coreResetSig (sg : SigEngine) : SigEngine × List (Nat × Nat × List Nat) :=
  ({ sg with
     verifyQ := [], signQ := [], units := idleUnits sg
     results := Vector.replicate 4 [], late := Vector.replicate 4 [], verdict := Vector.replicate 4 (0, 0)
     zeroisations := satAdd 8 sg.zeroisations (runningJobs sg).length },
   (runningJobs sg).map (fun p => zeroisedEvent 1 p.2 p.1))

/-- A tamper alarm or key vault clear (R318): running and queued jobs end with code 11. -/
def vaultClearSig (sg : SigEngine) : SigEngine × List (Nat × Nat × List Nat) :=
  let run := runningJobs sg
  let all := run.map (·.1) ++ sg.verifyQ ++ sg.signQ
  let sg1 := { sg with verifyQ := [], signQ := [], units := idleUnits sg
                       zeroisations := satAdd 8 sg.zeroisations all.length }
  (all.foldl (fun acc j => putResult j 11 acc) sg1, run.map (fun p => zeroisedEvent 2 p.2 p.1))

/-- An engine restart begins (R318): running jobs end with code 12, queued jobs wait. -/
def restartSig (sg : SigEngine) : SigEngine × List (Nat × Nat × List Nat) :=
  let run := runningJobs sg
  let sg1 := { sg with units := idleUnits sg, restarts := satAdd 8 sg.restarts 1, restarting := true }
  let off := bitmap 3 (fun i => (sg.units.toList.getD i {}).offline)
  (run.foldl (fun acc p => putResult p.1 12 acc) sg1,
   run.map (fun p => zeroisedEvent 3 p.2 p.1) ++ [(0x0606, 4, [run.length, off, 0, 0])])

/-- A dual-rail fault in a unit (R318): its job ends with code 12, the unit is out of service and self-tests. -/
def unitFault (u : Unit3) (sg : SigEngine) : SigEngine × List (Nat × Nat × List Nat) :=
  let sg1 := { sg with units := sg.units.set u { job := none, offline := true, testing := true }
                       unitFaults := satAdd 8 sg.unitFaults 1 }
  match sg.units[u].job with
  | none => (sg1, [])
  | some j => (putResult j 12 sg1, [zeroisedEvent 4 u.val j])

/-- The end of a unit's self-test (R318): back in service if it passed; with the sign/keygen unit out of service,
Sign and Keygen jobs end with code 12. -/
def unitTested (u : Unit3) (passed : Bool) (sg : SigEngine) : SigEngine :=
  let sg1 := { sg with units := sg.units.set u { sg.units[u] with offline := !passed, testing := false } }
  if u.val = 2 ∧ passed = false then
    sg1.signQ.foldl (fun acc j => putResult j 12 acc) { sg1 with signQ := [] }
  else startJobs sg1

/-- A couch instant changed vault slots (R319): jobs that name one end with code 5. -/
def slotsChanged (slots : List Nat) (sg : SigEngine) : SigEngine × List (Nat × Nat × List Nat) :=
  let hit := fun (j : SgJob) => (j.op == 2 || j.op == 3) && j.source == 4 && slots.contains j.key
  let run := (runningJobs sg).filter (fun p => hit p.1)
  let gone := run.map (·.1) ++ sg.signQ.filter hit
  let sg1 := { sg with
    signQ := sg.signQ.filter (fun j => !hit j)
    units := sg.units.map (fun u => match u.job with
      | some j => if hit j then { u with job := none } else u
      | none => u) }
  (startJobs (gone.foldl (fun acc j => putResult j 5 acc) sg1),
   run.map (fun p => zeroisedEvent 5 p.2 p.1) ++ gone.map (fun j => (0x0602, 3, [jobAid j, j.tag, j.key, j.op])))

end Sys2Proof.Machine
end

