-- ==== Sys2Proof/Machine/Ops.lean ====
section
/-! DEFINITION. The operations every command shares: leaves and tags, time, events, the last-gasp ring, access faults,
free bytes, watermarks, rights, life cycle. -/

namespace Sys2Proof.Machine

open Sys2Proof

/-- A command's effect on the device; the queue is not touched. -/
def State.run (f : Device → Device) (s : State) : Host.Outcome State Fault Refusal :=
  .next { s with dev := f s.dev }

/-! ### Power and life cycle -/

/-- The main core has power: Run, its start-up, Deep Sleep entry or the safe state (R551). -/
def mainUp (d : Device) : Bool :=
  match d.power.state with
  | .run | .starting | .entering | .safe => true
  | _ => false

/-- MAIN is released, and the fabric and harts are not held by Deep Sleep entry or the safe state (R60, R555, R577). -/
def mainRuns (d : Device) : Bool := d.power.state == .run

/-- The device is in Deep Sleep (R556). -/
def asleep (d : Device) : Bool := d.power.state == .deepSleep

/-- The MB block and the I3C front ends have power: the retention island (R551). -/
def islandUp (d : Device) : Bool := mainUp d || asleep d

/-- Life-cycle codes (R523); 8 stands for Indeterminate. -/
def lcManufactured : Nat := 3
/-- Provisioned. -/
def lcProvisioned : Nat := 4
/-- Field. -/
def lcField : Nat := 5

/-- The state code as registers and records show it: 0xFF for Indeterminate (R363, R472). -/
def lcCode (d : Device) : Nat := if d.lc.state = 8 then 0xFF else d.lc.state

/-- A word of OTP; a word nothing has burned is zero (R532). -/
def otpWord (d : Device) (w : Nat) : Nat := ((d.lc.otp.find? (fun x => x.1 == w)).map (·.2)).getD 0

/-- The device serial number, OTP word 64 (R337). -/
def serialNo (d : Device) : Nat := otpWord d 64

/-- Eight consecutive OTP words as 64 bytes (R337). -/
def otpHash (d : Device) (w : Nat) : List Byte := (List.range 8).flatMap fun i => leBytes 8 (otpWord d (w + i))

/-- The key hash of a slot: KeySource 1 owner root keys, 2 Fjarlin firmware keys, whose slots 0 and 1 are in the boot
ROM (R337). -/
def fusedHash (d : Device) (source slot : Nat) : List Byte :=
  if source = 1 then otpHash d (96 + 8 * slot)
  else if slot < 2 then padTo 64 (Config.romKeyHash slot) else otpHash d (80 + 8 * (slot - 2))

/-- A fused slot is not all zero (R337). -/
def keyFused (d : Device) (source slot : Nat) : Bool := (fusedHash d source slot).any (· != 0)

/-- A revocation word with any bit set revokes its slot (R337). -/
def keyRevoked (d : Device) (source slot : Nat) : Bool :=
  if source = 1 then otpWord d (70 + slot) != 0 else otpWord d (66 + slot) != 0

/-- Tamper-Response (R342): a latch is set, or RootValid is 0, which in Blank is no Tamper-Response (R355). -/
def tamperResponse (d : Device) : Bool := d.bat.latch != 0 || (!rootValid d.kv d.bat && d.lc.state != 0)

/-- The CXL port carries requests: main core running, link up, the CX block not restarting (R432, R454). -/
def cxlUp (d : Device) : Bool := mainRuns d && d.cx.linkUp && !d.cx.restarting

/-! ### Leaves -/

/-- The tag of an operation that enters now: the low bit of the epoch (R22). -/
def curTag (d : Device) : Bool := d.tx.epoch % 2 == 1

/-- The leaf a tag selects (R22). -/
def leafBy (d : Device) (tag : Bool) : Leaf := if tag then d.tx.leafOdd else d.tx.leafEven

/-- The committed epoch's leaf. -/
def curLeaf (d : Device) : Leaf := leafBy d (curTag d)

/-- The rights record of an agent in the committed epoch (R128). -/
def rightsNow (d : Device) (aid : Nat) : Option RightsRec := rightsOf (curLeaf d) aid

/-- The domains an agent's ledger rights cover. -/
def ledgerMask (d : Device) (aid : Nat) : Nat := ((rightsNow d aid).map (·.ledgerBdMask)).getD 0

/-- Stage 1 is attached on the harts (R28, R352). -/
def attached (d : Device) : Bool := d.start.phase == .stage1

/-- A hart that can act: main power up and the hart not halted by debug (R548). -/
def hartUp (d : Device) (h : Nat) : Bool := mainRuns d && !hasBit d.db.halted h

/-! ### Time and events -/

/-- The timestamp (R414). -/
def nowTs (d : Device) : Nat := d.clock.powerCycles * 2 ^ 44 + d.clock.opTime

/-- What the recorder reads of the device. -/
def evEnv (d : Device) : EvEnv where
  now := nowTs d
  epoch := d.tx.epoch
  key := if rootValid d.kv d.bat then some d.kv.evKey else none
  rates := (curLeaf d).eventRates

/-- The five parameters of a record: four of the event and the committed epoch. -/
def fiveParams (ps : List Nat) (epoch : Nat) : List Nat := [ps.getD 0 0, ps.getD 1 0, ps.getD 2 0, ps.getD 3 0, epoch]

/-- A record of an agent in the last-gasp ring (R345). -/
def lastGaspBy (code aid sev : Nat) (params : List Nat) (d : Device) : Device :=
  { d with bat := ringWrite { ts := nowTs d, code := code, aid := aid, sev := sev, flags := if d.ev.degraded then 8 else 0, params := params } d.bat }

/-- A record in the last-gasp ring. -/
def lastGasp (code sev : Nat) (params : List Nat) (d : Device) : Device := lastGaspBy code 0xFF sev params d

/-- An event arrives at the recorder with its five parameters (R420). `hart` says that a hart posts it. With no segment
of the log left it reaches the ring alone, from severity 4 up, and is counted otherwise (R428). -/
def arriveEvent (hart : Bool) (code aid sev : Nat) (params : List Nat) (d : Device) : Device :=
  if !mainUp d then d
  else if d.ev.noSurvivor then
    if 4 ≤ sev then lastGaspBy code aid sev params d else { d with ev := { d.ev with drop := satAdd 32 d.ev.drop 1 } }
  else { d with ev := arrive (evEnv d) hart code aid sev params d.ev }

/-- An event of hardware: source AID 0xFF (R33). -/
def event (code sev : Nat) (ps : List Nat) (d : Device) : Device :=
  arriveEvent false code 0xFF sev (fiveParams ps d.tx.epoch) d

/-- An event caused by an agent, recorded by hardware. -/
def agentEvent (code aid sev : Nat) (ps : List Nat) (d : Device) : Device :=
  arriveEvent false code aid sev (fiveParams ps d.tx.epoch) d

/-- An event that stage firmware records on a hart (R422): absent while stage 1 is not attached (R33). -/
def hartEvent (h code sev : Nat) (ps : List Nat) (d : Device) : Device :=
  if attached d then arriveEvent true code (0x10 + h) sev (fiveParams ps d.tx.epoch) d else d

/-- A list of hardware events (code, severity, parameters), in order. -/
def events (l : List (Nat × Nat × List Nat)) (d : Device) : Device :=
  l.foldl (fun acc e => event e.1 e.2.1 e.2.2 acc) d

/-- A list of hardware events whose five parameters are given. -/
def eventsRaw (l : List (Nat × Nat × List Nat)) (d : Device) : Device :=
  l.foldl (fun acc e => arriveEvent false e.1 0xFF e.2.1 e.2.2 acc) d

/-! ### Faults, free values, replies -/

/-- A load or store access fault of a hart (R88): no effect but the count the error controller keeps. -/
def accessFault (h : Hart) (addr : Nat) (d : Device) : Device :=
  { d with ec := { d.ec with
      faults := d.ec.faults.set h (d.ec.faults[h] + 1)
      lastFault := d.ec.lastFault.set h (BitVec.ofNat 32 addr) } }

/-- A fault of an engine while the ROM runs or waits for an image: it meets the ROM's own job (R350, code 9). -/
def romFaulted (d : Device) : Device :=
  if d.start.phase == .rom || d.start.phase == .recovery then { d with start := { d.start with engineFault := true } } else d

/-- The next `n` free bytes (notes/assumptions/5.md). -/
def freeBytes (d : Device) (n : Nat) : List Byte := (List.range n).map fun i => Config.freeByte (d.free + i)

/-- `n` free bytes have been taken. -/
def tookFree (n : Nat) (d : Device) : Device := { d with free := d.free + n }

/-- What a command returns on its interface. -/
def reply (bs : List Byte) (d : Device) : Device := { d with reply := bs }

/-- A register word returned. -/
def replyWord (w : Word) (d : Device) : Device := reply (leBytes 4 w.toNat) d

/-- The EC_INJECT target a write at an address has (R571): 0 image store, 1 shared working SRAM, 3 MRAM event log. -/
def injectTarget (a : Nat) : Option Nat :=
  if storeBase ≤ a ∧ a < storeBase + 0x6000000 then some 0
  else if sramBase ≤ a ∧ a < sramBase + 0x400000 then some 1
  else if eventBase ≤ a ∧ a < eventBase + 0x400000 then some 3 else none

/-- A write of `n` bytes at an address: the words written hold no old flip, and with EC_INJECT armed for the target the
first word is stored flipped, which clears Arm. -/
def noteStore (a n : Nat) (d : Device) : Device :=
  let d1 := { d with flipped := d.flipped.filter (fun w => n == 0 || !overlaps w.1 8 a n) }
  let j := d.ec.inject
  if bit j 31 && injectTarget a == some (field j 0 3) && n != 0 then
    { d1 with
      flipped := if field j 4 2 = 0 then d1.flipped else d1.flipped ++ [(a - a % 8, field j 4 2)]
      ec := { d1.ec with inject := j &&& 0x7FFFFFFF } }
  else d1

/-- Bytes written to memory at a key. -/
def store (a : Nat) (bs : List Byte) (d : Device) : Device := noteStore a bs.length { d with mem := memWrite d.mem a bs }

/-- `n` bytes of memory set to one value. -/
def fill (a n : Nat) (v : Byte) (d : Device) : Device := noteStore a n { d with mem := memFill d.mem a n v }

/-- The MRAM controller zeroes the MRAM-untouched flag before the first word of any MRAM write (R365). -/
def mramUsed (d : Device) : Device := { d with bat := { d.bat with untouched := 0 } }

/-- Bytes written to MRAM. -/
def mramStore (a : Nat) (bs : List Byte) (d : Device) : Device := store a bs (mramUsed d)

/-- Memory bytes that become undefined: free bytes stand there (notes/assumptions/5.md). -/
def scramble (a n : Nat) (d : Device) : Device := tookFree n (store a (freeBytes d n) d)

/-! ### Parts of the device -/

/-- A logical device. -/
def ldOf (d : Device) (n : Nat) : LogicalDev := vget d.cx.lds n
/-- A logical device changed. -/
def modLd (n : Nat) (f : LogicalDev → LogicalDev) (d : Device) : Device :=
  { d with cx := { d.cx with lds := vmod d.cx.lds n f } }
/-- The logical device of a requester; none is the FM-owned LD. -/
def whoOf (d : Device) : Option Ld → LogicalDev
  | some n => ldOf d n
  | none => d.cx.fm
/-- A requester's logical device changed. -/
def modWho (who : Option Ld) (f : LogicalDev → LogicalDev) (d : Device) : Device :=
  match who with
  | some n => modLd n f d
  | none => { d with cx := { d.cx with fm := f d.cx.fm } }
/-- AID of a requester (R12). -/
def whoAid : Option Ld → Nat
  | some n => n
  | none => 0x1F
/-- A boot domain. -/
def domain (d : Device) (n : Nat) : BootDomain := vget d.is_.bds n
/-- A boot domain changed. -/
def modBd (n : Nat) (f : BootDomain → BootDomain) (d : Device) : Device :=
  { d with is_ := { d.is_ with bds := vmod d.is_.bds n f } }
/-- An upstream port. -/
def portAt (d : Device) (n : Nat) : UpPort := vget d.gf.ports n
/-- An upstream port changed. -/
def modPort (n : Nat) (f : UpPort → UpPort) (d : Device) : Device :=
  { d with gf := { d.gf with ports := vmod d.gf.ports n f } }
/-- A flash bus. -/
def busAt (d : Device) (n : Nat) : FlashBus := vget d.gf.buses n
/-- A flash bus changed. -/
def modBus (n : Nat) (f : FlashBus → FlashBus) (d : Device) : Device :=
  { d with gf := { d.gf with buses := vmod d.gf.buses n f } }
/-- A flash device. -/
def devAt (d : Device) (n : Nat) : FlashDev := vget d.gf.devs n
/-- A flash device changed. -/
def modDev (n : Nat) (f : FlashDev → FlashDev) (d : Device) : Device :=
  { d with gf := { d.gf with devs := vmod d.gf.devs n f } }
/-- A turnstile. -/
def tsAt (d : Device) (n : Nat) : Turnstile := vget d.gf.ts n
/-- A turnstile changed. -/
def modTs (n : Nat) (f : Turnstile → Turnstile) (d : Device) : Device :=
  { d with gf := { d.gf with ts := vmod d.gf.ts n f } }
/-- A device's health record. -/
def healthAt (d : Device) (n : Nat) : DevHealth := vget d.is_.health n
/-- A device's health record changed. -/
def modHealth (n : Nat) (f : DevHealth → DevHealth) (d : Device) : Device :=
  { d with is_ := { d.is_ with health := vmod d.is_.health n f } }
/-- A mailbox channel. -/
def chanAt (d : Device) (n : Nat) : Channel := vget d.mb.chans n
/-- A mailbox channel changed. -/
def modChan (n : Nat) (f : Channel → Channel) (d : Device) : Device :=
  { d with mb := { d.mb with chans := vmod d.mb.chans n f } }
/-- An I3C port. -/
def i3cAt (d : Device) (n : Nat) : I3cPort := vget d.mg n
/-- An I3C port changed. -/
def modI3c (n : Nat) (f : I3cPort → I3cPort) (d : Device) : Device := { d with mg := vmod d.mg n f }
/-- A card slot. -/
def slotAt (d : Device) (n : Nat) : CardSlot := vget d.cd.slots n
/-- A card slot changed. -/
def modSlot (n : Nat) (f : CardSlot → CardSlot) (d : Device) : Device :=
  { d with cd := { d.cd with slots := vmod d.cd.slots n f } }

/-- A machine external interrupt at a hart (R489, R579). -/
def interrupt (h : Nat) (d : Device) : Device := { d with mb := { d.mb with irqs := vmod d.mb.irqs h (· + 1) } }

/-- A function sends an MSI, which stays pending while its vector is masked (R435). As PCIe has it, it sends none without
MSI Enable and Bus Master Enable, nor in D3hot (notes/assumptions/124.md). -/
def sendMsi (vec : Nat) (l : LogicalDev) : LogicalDev :=
  if !l.pci.msiEnable || !l.busMaster || l.d3hot then l
  else if hasBit l.msiMask vec then { l with msiPending := setBit l.msiPending vec }
  else { l with msiSent := vmod l.msiSent vec (· + 1) }

/-- An MSI of a logical device (R435). -/
def msi (ld vec : Nat) (d : Device) : Device := modLd ld (sendMsi vec) d

/-! ### Watermarks -/

/-- A watermark. -/
def wmkOf (d : Device) (n : Nat) : List Byte := vget d.measures.wmk n

/-- An extend (R361): SHAKE256 of the watermark and 64 bytes, 512 bits of output. -/
def extendWmk (n : Nat) (m : List Byte) (d : Device) : Device :=
  { d with measures := { d.measures with wmk := vmod d.measures.wmk n (fun w => shake256 (w ++ padTo 64 m) 64) } }

/-- A watermark cleared (R362). -/
def clearWmk (n : Nat) (d : Device) : Device :=
  { d with measures := { d.measures with wmk := vmod d.measures.wmk n (fun _ => zeros 64) } }

/-! ### Guarding availability (R40–R47) -/

/-- The buses to which the committed epoch assigns a device (R40). -/
def guardedBuses (d : Device) : Nat :=
  if d.tx.fabricLive then bitmap 16 (fun b => (curLeaf d).flashes.any (fun r => r.f / 4 == b)) else 0

/-- An unguarded interval begins on a bus, with its cause (R46): it opens a span or joins the one in progress. -/
def intervalBegin (buses cause bus : Nat) (d : Device) : Device :=
  if !d.guard.winOpen then d
  else match d.guard.span with
    | some s =>
      { d with guard := { d.guard with
          span := some { s with buses := s.buses ||| buses, causes := setBit s.causes (cause - 1), open_ := (cause, bus) :: s.open_ } } }
    | none =>
      { d with guard := { d.guard with
          span := some { start := nowTs d, buses := buses, firstCause := cause, causes := 2 ^ (cause - 1), epoch := d.tx.epoch, ticks := 0, open_ := [(cause, bus)] } } }

/-- The least length, in ticks of 1/32,768 s, that the clock ticks counted in a span leave open (R46: rounded up, never
zero). -/
def leastTicks (s : Span) : Nat := s.ticks - 32 + 1

/-- A span's length where no command gives it: anything the clock ticks counted in it leave open
(notes/assumptions/98.md). -/
def freeTicks (d : Device) (s : Span) : Nat :=
  leastTicks s + (Config.freeByte d.free).toNat % (if s.ticks = 0 then 32 else 64)

/-- A span of this length is counted (R46). -/
def spanCounted (ticks : Nat) (d : Device) : Device :=
  { d with guard := { d.guard with span := none, lost := d.guard.lost + ticks, intervals := satAdd 16 d.guard.intervals 1 } }

/-- The parameters of event 0x0110 of a span (R47). -/
def spanParams (s : Span) (ticks : Nat) : List Nat := [s.start, ticks, s.buses, s.firstCause + 256 * s.causes, s.epoch]

/-- The record of an ended span (R47). -/
def spanEvent (ps : List Nat) (d : Device) : Device := arriveEvent false 0x0110 0xFF 4 ps d

/-- A span ends (R46, R47) with a length that a command gives: it is counted and recorded. -/
def spanEnd (ticks : Nat) (d : Device) : Device :=
  match d.guard.span with
  | none => d
  | some s =>
    let n := max ticks (leastTicks s)
    spanEvent (spanParams s n) (spanCounted n d)

/-- A span in progress ends with a length that no command gives (R46, R47). -/
def spanEndFree (d : Device) : Device :=
  match d.guard.span with
  | none => d
  | some s => tookFree 1 (spanEnd (freeTicks d s) d)

/-- An interval on a bus ends; the span ends with its last interval (R46). `ticks` is the span's length. -/
def intervalEnd (cause bus ticks : Nat) (d : Device) : Device :=
  match d.guard.span with
  | none => d
  | some s =>
    let rest := s.open_.erase (cause, bus)
    if rest.isEmpty then spanEnd ticks d
    else { d with guard := { d.guard with span := some { s with open_ := rest } } }

/-- The buses whose interval in the span is open now (R40): the F2 safe state takes every bus. -/
def openBuses (s : Span) : Nat :=
  s.open_.foldl (fun m i => m ||| (if i.1 = 3 then s.buses else 2 ^ i.2)) 0

/-- The window closes at Deep Sleep entry (R41); a span in progress ends with it. -/
def closeWindow (d : Device) : Device :=
  let d1 := spanEndFree d
  { d1 with guard := { d1.guard with winOpen := false } }

/-- The window closes as the main core goes down (R41); the record of a span in progress waits for the recorder. -/
def windowDown (d : Device) : Device :=
  match d.guard.span with
  | none => { d with guard := { d.guard with winOpen := false } }
  | some s =>
    let n := freeTicks d s
    let d1 := tookFree 1 (spanCounted n d)
    { d1 with guard := { d1.guard with winOpen := false, unrecorded := d1.guard.unrecorded ++ [spanParams s n] } }

/-- The recorder runs again: spans that ended with the main core down are recorded (R47). -/
def recordSpans (d : Device) : Device :=
  let d1 := d.guard.unrecorded.foldl (fun acc ps => spanEvent ps acc) d
  { d1 with guard := { d1.guard with unrecorded := [] } }

/-! ### Committed state of the ledger and vault -/

/-- The owner root key slots that are fused and not revoked (R338). -/
def liveOwnerKeys (d : Device) : List Nat := (List.range 8).filter (fun k => keyFused d 1 k && !keyRevoked d 1 k)

/-- The Fjarlin firmware key slots that are not revoked (R338). -/
def liveFwKeys (d : Device) : List Nat := (List.range 4).filter (fun k => keyFused d 2 k && !keyRevoked d 2 k)

/-- A pure ML-DSA-65 signature by a fused key over a message (R309, R310): 0 pass, else the verify code, with the
engine's own checks: 3 the key digest does not match, 4 revoked. -/
def fusedVerify (d : Device) (source slot : Nat) (pk ctx msg sig : List Byte) : Nat :=
  if !keyFused d source slot || shake256 pk 64 != fusedHash d source slot then 3
  else if keyRevoked d source slot then 4
  else verifyCode pk ctx msg sig

end Sys2Proof.Machine
end

