-- ==== Sys2Proof/Machine/Certificates.lean ====
section
/-! DEFINITION. The two X.509 certificates of hart 1 in DER (spec/16_attestation_and_sweep.md, R461, R462). Choices that
R461 leaves to X.509: notes/assumptions/53.md. -/

namespace Sys2Proof.Machine

open Sys2Proof

/-- The DER length octets. -/
def derLen (n : Nat) : List Byte :=
  if n < 128 then [BitVec.ofNat 8 n] else if n < 256 then [0x81, BitVec.ofNat 8 n] else [0x82, BitVec.ofNat 8 (n / 256), BitVec.ofNat 8 n]
/-- A DER value with its tag. -/
def tlv (tag : Byte) (body : List Byte) : List Byte := tag :: derLen body.length ++ body
/-- SEQUENCE. -/
def derSeq (parts : List (List Byte)) : List Byte := tlv 0x30 parts.flatten
/-- OCTET STRING. -/
def derOctets (b : List Byte) : List Byte := tlv 0x04 b
/-- BIT STRING with a number of unused bits. -/
def derBits (unused : Byte) (b : List Byte) : List Byte := tlv 0x03 (unused :: b)
/-- Leading zero bytes left out. -/
def dropZeros : List Byte → List Byte
  | b :: bs => if b == 0 then dropZeros bs else b :: bs
  | [] => []
/-- INTEGER, not negative, from big-endian bytes. -/
def derInt (b : List Byte) : List Byte :=
  match dropZeros b with
  | [] => tlv 0x02 [0]
  | x :: xs => tlv 0x02 (if x.getLsbD 7 then 0 :: x :: xs else x :: xs)
/-- INTEGER of a number below 2^64. -/
def derNat (n : Nat) : List Byte := derInt (leBytes 8 n).reverse

/-- id-ml-dsa-65 with parameters absent. -/
def mldsaAlgorithm : List Byte := derSeq [tlv 0x06 [0x60, 0x86, 0x48, 0x01, 0x65, 0x03, 0x04, 0x03, 0x12]]

/-- A name with a common name and the organisation Fjarlin. -/
def derName (cn : List Byte) : List Byte :=
  let attr := fun (t : Byte) (v : List Byte) => tlv 0x31 (derSeq [tlv 0x06 [0x55, 0x04, t], tlv 0x0C v])
  derSeq [attr 0x03 cn, attr 0x0A (ascii "Fjarlin")]

/-- A number as `k` upper-case hexadecimal digits. -/
def upperHex (k n : Nat) : List Byte :=
  (List.range k).map fun i =>
    let v := n / 16 ^ (k - 1 - i) % 16
    if v < 10 then BitVec.ofNat 8 (0x30 + v) else BitVec.ofNat 8 (0x37 + v)

/-- A number below 1,000 in decimal. -/
def decimal (n : Nat) : List Byte :=
  let digit := fun k => (BitVec.ofNat 8 (0x30 + n / k % 10) : Byte)
  if n < 10 then [digit 1] else if n < 100 then [digit 10, digit 1] else [digit 100, digit 10, digit 1]

/-- The DeviceID subject, which issues both certificates. -/
def deviceName (d : Device) : List Byte := derName (ascii "BX6440 DeviceID " ++ upperHex 16 (serialNo d))

/-- The first 20 bytes of H(public key): the key identifier. -/
def keyIdentifier (pk : List Byte) : List Byte := shake256 pk 20

/-- serialNumber of a certificate: the first 16 bytes of H(public key), bit 7 of byte 0 clear. -/
def certSerial (pk : List Byte) : List Byte :=
  match shake256 pk 16 with
  | x :: xs => derInt ((x &&& 0x7F) :: xs)
  | [] => derInt []

/-- An extension: identifier, whether it is critical, its value. -/
def derExtension (oid : List Byte) (critical : Bool) (v : List Byte) : List Byte :=
  derSeq ([tlv 0x06 oid] ++ (if critical then [tlv 0x01 [0xFF]] else []) ++ [derOctets v])

/-- The part of a certificate that is signed. -/
def tbsCertificate (d : Device) (subject pk : List Byte) (extensions : List (List Byte)) : List Byte :=
  derSeq [tlv 0xA0 (derNat 2), certSerial pk, mldsaAlgorithm, deviceName d,
    derSeq [tlv 0x18 (ascii "20240101000000Z"), tlv 0x18 (ascii "99991231235959Z")], subject,
    derSeq [mldsaAlgorithm, derBits 0 pk], tlv 0xA3 (derSeq extensions)]

/-- The DeviceID certificate before its signature. -/
def deviceTbs (d : Device) (pk : List Byte) : List Byte :=
  tbsCertificate d (deviceName d) pk
    [ derExtension [0x55, 0x1D, 0x13] true (derSeq [tlv 0x01 [0xFF], derNat 0]),
      derExtension [0x55, 0x1D, 0x0F] true (derBits 2 [0x04]),
      derExtension [0x55, 0x1D, 0x0E] false (derOctets (keyIdentifier pk)) ]

/-- The Fjarlin TCB extension. -/
def tcbExtension (d : Device) : List Byte :=
  derExtension [0x2B, 0x06, 0x01, 0x04, 0x01, 0x83, 0xCA, 0x58, 0xB2, 0x28, 0x01] false
    (derSeq [derNat (serialNo d), derNat d.start.secVer, derNat d.lc.state, derOctets (wmkOf d 0), derOctets (wmkOf d 1),
      derOctets (wmkOf d 2), derOctets (wmkOf d 7)])

/-- The Alias certificate before its signature. -/
def aliasTbs (d : Device) (devicePk pk : List Byte) : List Byte :=
  tbsCertificate d (derName (ascii "BX6440 Alias v" ++ decimal d.start.secVer)) pk
    [ derExtension [0x55, 0x1D, 0x13] true (derSeq []),
      derExtension [0x55, 0x1D, 0x0F] true (derBits 7 [0x80]),
      derExtension [0x55, 0x1D, 0x0E] false (derOctets (keyIdentifier pk)),
      derExtension [0x55, 0x1D, 0x23] false (derSeq [tlv 0x80 (keyIdentifier devicePk)]),
      tcbExtension d ]

/-- A certificate: its signed part, the algorithm, the signature. -/
def certificate (tbs sig : List Byte) : List Byte := derSeq [tbs, mldsaAlgorithm, derBits 0 sig]

/-- The chain of certificate slot 0 (R462). -/
def certChain (device alias_ : List Byte) : List Byte :=
  leBytes 2 (4 + 32 + device.length + alias_.length) ++ zeros 2 ++ sha3_256 device ++ device ++ alias_

end Sys2Proof.Machine
end

