-- ==== Sys2Proof/Machine/Operands.lean ====
section
/-! DEFINITION. The operand forms of commands that name memory: which ranges a hart or an engine reads and writes, and
the keys they have (spec/03_address_map.md, R87–R97, R100). -/

namespace Sys2Proof.Machine

open Sys2Proof

/-- A range lies inside another. -/
def inside (lo size a n : Nat) : Bool := decide (lo ≤ a ∧ a + n ≤ lo + size)

/-- The range lies in shared working SRAM (R87). -/
def inSram (a n : Nat) : Bool := inside sramBase 0x400000 a n
/-- The range lies in the image store. -/
def inStore (a n : Nat) : Bool := inside storeBase 0x6000000 a n
/-- The range lies in the MRAM read window. -/
def inMram (a n : Nat) : Bool := inside mramBase 0x2000000 a n
/-- The range lies in the staging frames. -/
def inFrames (a n : Nat) : Bool := inside frameBase 0x100000 a n
/-- The range lies in a hart's own TCMs. -/
def inTcm (a n : Nat) : Bool := inside 0x10000000 0x40000 a n

/-- What the digest and signature engines read (R278, R310): shared working SRAM, the image store, the MRAM read
window, the staging frames. PMP entries 0–6 of R358 let each of these through. -/
def engineReads (a n : Nat) : Bool := inSram a n || inStore a n || inMram a n || inFrames a n

/-- The range lies in the boot ROM (R87). -/
def inRom (a n : Nat) : Bool := inside 0 0x20000 a n

/-! ### PMP (R100, R358) -/

/-- PMP entries 0–6 of R358: base, size, read, write. -/
def pmpEntries : List (Nat × Nat × Bool × Bool) :=
  [(0, 0x20000, false, false), (0x10000000, 0x20000, true, false), (0x10020000, 0x20000, true, true), (sramBase, 0x400000, true, true),
    (storeBase, 0x6000000, true, false), (mramBase, 0x2000000, true, false), (0x60000000, 0x130000, true, true)]

/-- A hart's PMP regions allow an access (R100, R358): the first entry that the range touches decides, and it must hold the
whole range; machine mode reaches what no entry covers. Before the hart has programmed them nothing is narrowed. -/
def pmpAllows (d : Device) (h : Nat) (write : Bool) (a n : Nat) : Bool :=
  !hasBit d.start.pmp h ||
    match pmpEntries.find? (fun e => overlaps e.1 e.2.1 a n) with
    | none => true
    | some e => inside e.1 e.2.1 a n && if write then e.2.2.2 else e.2.2.1

/-! ### Loads and stores -/

/-- A poisoned image store word in the range (R236). -/
def rangePoisoned (d : Device) (a n : Nat) : Bool :=
  inStore a n && d.is_.poisoned.any (fun w => overlaps (storeBase + 8 * w) 8 a n)

/-- A word with an uncorrectable flip in the range (EC_INJECT kinds 2 and 3, R572). -/
def rangeBroken (d : Device) (a n : Nat) : Bool :=
  d.flipped.any (fun w => decide (2 ≤ w.2) && overlaps w.1 8 a n)

/-- An engine's read of memory: none where R278 or R310 refuses it, or where a word of it is uncorrectable (R574). -/
def engineRead (d : Device) (a n : Nat) : Option (List Byte) :=
  if engineReads a n && !rangePoisoned d a n && !rangeBroken d a n then some (memRead d.mem a n) else none

/-- An engine's read for a hart, checked against the hart's PMP regions (R278, R293, R310). -/
def engineReadFor (h : Nat) (d : Device) (a n : Nat) : Option (List Byte) := if pmpAllows d h false a n then engineRead d a n else none

/-- The key of a hart's load (R87): none where the map, the hart's PMP regions or an uncorrectable word give an access
fault. -/
def hartLoadKey (d : Device) (h : Hart) (a n : Nat) : Option Nat :=
  if !pmpAllows d h false a n then none
  else if inTcm a n then some (tcmKey h a)
  else if inRom a n || (engineReads a n && !rangePoisoned d a n && !rangeBroken d a n) then some a
  else none

/-- The key of a hart's store (R87, R100): its own TCMs and shared working SRAM, as its PMP regions allow; stores elsewhere
are refused (R88). -/
def hartStoreKey (d : Device) (h : Hart) (a n : Nat) : Option Nat :=
  if !pmpAllows d h true a n then none
  else if inTcm a n then some (tcmKey h a) else if inSram a n then some a else none

/-- The block a control register address lies in (R92). -/
def blockOf (addr : Nat) : Nat := (addr - 0x60000000) / 0x10000

/-- A hart's deckle lets it write a control block (R359). -/
def deckleAllows (d : Device) (h : Nat) (block : Nat) : Bool := hasBit (vget d.start.blk h) block

/-- Harts 1–3 are in WFI: from the ROM's start until hart 0 releases them, and through a ROM recovery (R15, R352). -/
def hartWaits (s : Start) : Bool := s.phase == .rom || s.phase == .recovery || (s.phase == .loaded && !s.released)

/-- A hart that writes nothing: it is stalled at its EV_POST by a full event queue (R422), halted in ROM (R355), in WFI, halted by debug below level 2 (R538), or held in reset while its TCMs are tested
(R536). -/
def hartStalled (d : Device) (h : Nat) : Bool :=
  d.ev.stalled.any (fun e => e.aid == 0x10 + h) || d.start.phase == .halted || (hartWaits d.start && h != 0) || (hasBit d.db.halted h && decide (d.db.level < 2)) ||
    (d.lc.mbistRunning && d.lc.mbistTarget == 4)

/-- A write of a control register by a hart that its deckle excludes raises a store access fault and has no effect
(R359); `f` is the write's effect otherwise. A hart that cannot run writes nothing. -/
def hartWrite (h : Hart) (block addr : Nat) (f : Device → Device) (d : Device) : Device :=
  if !mainRuns d || hartStalled d h then d
  else if !deckleAllows d h block then accessFault h addr d
  else f d

/-- As `hartWrite`, for a register that only one hart writes: writes of others are ignored. -/
def onlyHart (owner : Nat) (h : Hart) (block addr : Nat) (f : Device → Device) (d : Device) : Device :=
  hartWrite h block addr (fun d1 => if h.val = owner then f d1 else d1) d

end Sys2Proof.Machine
end

