-- ==== Sys2Proof/Machine/Channels.lean ====
section
/-! DEFINITION. Mailbox channels and barkers (spec/17_mailboxes.md, R482–R489). -/

namespace Sys2Proof.Machine

open Sys2Proof

/-- Why a post was not taken: the channel is full, or does not exist for the sender (R482, R484). -/
inductive PostResult where
  | posted | full | notSender
  deriving DecidableEq, Repr

/-- The agent is a hart. -/
def aidIsHart (a : Nat) : Bool := decide (0x10 ≤ a ∧ a ≤ 0x13)
/-- The agent is a logical device. -/
def aidIsLd (a : Nat) : Bool := decide (a ≤ 0x0F)
/-- The agent is an I3C port. -/
def aidIsI3c (a : Nat) : Bool := a == 0x18 || a == 0x19

/-- The port is the one that recovery uses (R492): M0 in ROM recovery, and in stage 1 without an epoch. -/
def recoveryPort (d : Device) (m : Nat) : Bool :=
  m == 0 && (d.start.phase == .recovery || (d.start.phase == .stage1 && !d.tx.fabricLive))

/-- Mode of an I3C port (R492): 0 disabled, 1 I3C, 2 I2C, by its pin record; the recovery port runs in I3C mode. -/
def i3cMode (d : Device) (m : Nat) : Nat :=
  if recoveryPort d m then 1
  else ((((curLeaf d).pins.find? (fun p => p.kind == 2 && p.index == m)).map (·.function)).getD 0)

/-- The in-band interrupt of a post to an I3C port in I3C mode (R489): pending at once while the controller has enabled target
interrupts, else waiting for ENEC. -/
def raiseIbi (m c : Nat) (d : Device) : Device :=
  if i3cMode d m != 1 then d
  else if (i3cAt d m).ibiEnabled then modI3c m (fun p => { p with ibis := p.ibis.filter (· != c) ++ [c] }) d
  else modI3c m (fun p => { p with ibiWait := p.ibiWait.filter (· != c) ++ [c] }) d

/-- The wake of an accepted post (R489). A channel with Ibi set and Barker clear raises none: R489 says so, where R127's words
and the example of spec/17_mailboxes.md (MC5) can be read otherwise (DESIGN CHOICE, notes/assumptions/126.md). -/
def barker (r : ChannelRec) (d : Device) : Device :=
  if !r.barker then d
  else if aidIsHart r.receiver then
    let h := r.receiver - 0x10
    if bit (vget (vget d.mb.irqEn h) (r.channel / 32)) (r.channel % 32) then interrupt h d else d
  else if aidIsLd r.receiver then msi r.receiver 2 d
  else if aidIsI3c r.receiver && r.ibi then raiseIbi (r.receiver - 0x18) r.channel d
  else d

/-- Whether a post by an agent would be taken (R483, R484), under the leaf of its tag. -/
def postCheck (L : Leaf) (d : Device) (aid c : Nat) : PostResult :=
  match channelOf L c with
  | none => .notSender
  | some r => if r.sender != aid then .notSender else if (chanAt d c).full then .full else .posted

/-- A post taken (R483): the word is stored, Full is set, SenderEpoch cleared, 0x0B03 with LogPost, the barker. -/
def postTaken (L : Leaf) (aid c : Nat) (w : Word) (d : Device) : Device :=
  match channelOf L c with
  | none => d
  | some r =>
    let d1 := modChan c (fun ch => { ch with word := w, full := true, senderEpoch := false }) d
    let d2 := if r.logPost then event 0x0B03 0 [c, aid, w.toNat] d1 else d1
    barker r d2

/-- A post refused at a full channel: the sender's Drop and event 0x0B02 (R484, R498). -/
def postRefused (aid c : Nat) (d : Device) : Device :=
  event 0x0B02 2 [c, aid] (modChan c (fun ch => { ch with drop := true }) d)

/-- The receiver of a channel is this agent. -/
def receives (L : Leaf) (aid c : Nat) : Bool := ((channelOf L c).map (·.receiver == aid)).getD false

/-- The sender of a channel is this agent. -/
def sends (L : Leaf) (aid c : Nat) : Bool := ((channelOf L c).map (·.sender == aid)).getD false

/-- What a take returns (R483): the word of a full channel, else zero; zero where the reader is not the receiver. -/
def takeWord (L : Leaf) (d : Device) (aid c : Nat) : Word :=
  if receives L aid c && (chanAt d c).full then (chanAt d c).word else 0

/-- A take clears Full (R483) and ends a pending in-band interrupt of the channel (R489). -/
def taken (L : Leaf) (aid c : Nat) (d : Device) : Device :=
  if receives L aid c then
    let d1 := modChan c (fun ch => { ch with full := false }) d
    if aidIsI3c aid then
      modI3c (aid - 0x18) (fun p => { p with ibis := p.ibis.filter (· != c), ibiWait := p.ibiWait.filter (· != c) }) d1
    else d1
  else d

/-- The status word of a channel as an agent sees it (R499). -/
def chanStatus (L : Leaf) (d : Device) (aid c : Nat) : Word :=
  match channelOf L c with
  | none => 0
  | some r =>
    if r.sender != aid && r.receiver != aid then 0
    else
      let ch := chanAt d c
      let s := r.sender == aid
      pack [(0, 1, flag ch.full), (1, 1, flag s), (2, 1, flag (r.receiver == aid)), (3, 1, flag ch.senderEpoch),
        (4, 1, flag (s && ch.drop)), (5, 1, flag (s && ch.lost)), (8, 8, if s then ch.lostCount else 0),
        (16, 8, r.sender), (24, 8, r.receiver)]

/-- A word of the pending bitmap of a reader (MB_PEND, CX_HP_CH_PEND): full channels it receives. -/
def pendWord (L : Leaf) (d : Device) (aid k : Nat) : Word :=
  BitVec.ofNat 32 (bitmap 32 (fun b => receives L aid (32 * k + b) && (chanAt d (32 * k + b)).full))

/-- A full channel loses its word: the sender's LostCount and Lost, and event 0x0B01 (R485, R487). -/
def loseWord (c sender receiver cause : Nat) (d : Device) : Device :=
  event 0x0B01 3 [c, sender, receiver, cause]
    (modChan c (fun ch => { ch with full := false, lost := true, lostCount := satAdd 8 ch.lostCount 1 }) d)

/-- Channels of the committed table. -/
def chanRecs (d : Device) : List ChannelRec := (curLeaf d).channels

/-- A receiver resets (R485): the words of its full channels are lost, cause 1. -/
def receiverReset (aid : Nat) (d : Device) : Device :=
  (chanRecs d).foldl (fun acc r =>
    if r.receiver == aid && (chanAt acc r.channel).full then loseWord r.channel r.sender aid 1 acc else acc) d

/-- A sender resets (R486): the words stay with SenderEpoch set; its Drop, Lost and LostCount are cleared. -/
def senderReset (aid : Nat) (d : Device) : Device :=
  (chanRecs d).foldl (fun acc r =>
    if r.sender == aid then
      modChan r.channel (fun ch =>
        { ch with senderEpoch := ch.senderEpoch || ch.full, drop := false, lost := false, lostCount := 0 }) acc
    else acc) d

/-- Both ends of an agent's channels reset (R453, R496). -/
def channelEndReset (aid : Nat) (d : Device) : Device := senderReset aid (receiverReset aid d)

/-- The couch instant on one channel (R141, R487): where its sender or receiver changes, the word is lost with cause 2,
SenderEpoch is cleared, and a new sender starts afresh. -/
def channelInstant (old new : Leaf) (c : Nat) (d : Device) : Device :=
  let o := channelOf old c
  let n := channelOf new c
  if o.map (fun r => (r.sender, r.receiver)) == n.map (fun r => (r.sender, r.receiver)) then d
  else
    let d1 := if (chanAt d c).full then
        loseWord c ((o.map (·.sender)).getD 0xFF) ((o.map (·.receiver)).getD 0xFF) 2 d else d
    if o.map (·.sender) == n.map (·.sender) then modChan c (fun ch => { ch with senderEpoch := false }) d1
    else modChan c (fun _ => {}) d1

/-- The leaf of a post's tag: `old` says that it carries the tag of the epoch before (R22, R487). -/
def postLeaf (d : Device) (old : Bool) : Leaf := if old then leafBy d (!curTag d) else curLeaf d

/-- A channel's sender or receiver is not what it was in the epoch before. -/
def endsMoved (d : Device) (c : Nat) : Bool :=
  (channelOf (postLeaf d true) c).map (fun r => (r.sender, r.receiver)) != (channelOf (curLeaf d) c).map (fun r => (r.sender, r.receiver))

/-- A post with the old tag reaches a channel whose ends the couch instant has changed (R487): decided under the old leaf, it
is counted as accepted and then lost with cause 2. The channel stays as it is; a sender it keeps sees the loss. -/
def latePost (aid c : Nat) (w : Word) (d : Device) : Device :=
  match channelOf (postLeaf d true) c with
  | none => d
  | some r =>
    let d1 := if r.logPost then event 0x0B03 0 [c, aid, w.toNat] d else d
    event 0x0B01 3 [c, r.sender, r.receiver, 2]
      (if sends (curLeaf d) aid c then modChan c (fun ch => { ch with lost := true, lostCount := satAdd 8 ch.lostCount 1 }) d1 else d1)

/-- Whether a post arriving now would be taken (R483, R484, R487). -/
def postAnswer (d : Device) (old : Bool) (aid c : Nat) : PostResult :=
  if old && endsMoved d c then (if sends (postLeaf d true) aid c then .posted else .notSender)
  else postCheck (postLeaf d old) d aid c

/-- A post that is taken (R483, R487). -/
def postDone (old : Bool) (aid c : Nat) (w : Word) (d : Device) : Device :=
  if old && endsMoved d c then latePost aid c w d else postTaken (postLeaf d old) aid c w d

/-- The couch instant on every channel. -/
def channelsInstant (old new : Leaf) (d : Device) : Device :=
  (List.range 128).foldl (fun acc c => channelInstant old new c acc) d

/-! ### The commands -/

/-- A hart posts by writing MB_CHn_DATA (R482–R484): a store access fault for another than the sender, and at a full
channel. -/
def hartChannelPostEffect (h : Hart) (c : Chan) (v : Word) (old : Bool) (d : Device) : Device :=
  hartWrite h 11 (0x600B0000 + 4 * c.val) (fun d1 =>
    match postAnswer d1 old (0x10 + h.val) c with
    | .posted => postDone old (0x10 + h.val) c v d1
    | .full => accessFault h (0x600B0000 + 4 * c.val) (postRefused (0x10 + h.val) c d1)
    | .notSender => accessFault h (0x600B0000 + 4 * c.val) d1) d

/-- HART_CHANNEL_POST. -/
def execHartChannelPost (h : Hart) (c : Chan) (v : Word) (old : Bool) (s : State) : Host.Outcome State Fault Refusal :=
  s.run (hartChannelPostEffect h c v old)

/-- A hart takes by reading MB_CHn_DATA (R483); zero for a hart that is not the receiver. -/
def hartChannelTakeEffect (h : Hart) (c : Chan) (d : Device) : Device :=
  if !mainRuns d || hartStalled d h then d
  else taken (curLeaf d) (0x10 + h.val) c (replyWord (takeWord (curLeaf d) d (0x10 + h.val) c) d)

/-- HART_CHANNEL_TAKE. -/
def execHartChannelTake (h : Hart) (c : Chan) (s : State) : Host.Outcome State Fault Refusal :=
  s.run (hartChannelTakeEffect h c)

/-- A Completer Abort on an LD's write (R454): counted, the header logged, event 0x0C05 with Completer Abort Status
(bit 15 of the AER uncorrectable status), ERR_NONFATAL sent. -/
def completerAbort (ld : Ld) (addr : Nat) (d : Device) : Device :=
  let d1 := modLd ld (fun l =>
    { l with
      aerStatus := setBit l.aerStatus 15, aerHeader := [0x40000001, 0x0F, BitVec.ofNat 32 addr, 0]
      aer := { l.aer with sentNonfatal := l.aer.sentNonfatal + 1 } }) d
  event 0x0C05 3 [ld, 15, 0x40000001, addr]
    { d1 with cx := { d1.cx with completerAbort := satAdd 16 d1.cx.completerAbort 1 } }

/-- An LD posts through its host page (R482–R484, R454). -/
def hostChannelPostEffect (ld : Ld) (c : Chan) (v : Word) (old : Bool) (d : Device) : Device :=
  if !cxlUp d then d
  else match postAnswer d old ld c with
    | .posted => postDone old ld c v d
    | .full => completerAbort ld (0x11000 + 4 * c.val) (postRefused ld c (modLd ld (fun l => { l with channelDrop := true }) d))
    | .notSender => d

/-- HOST_CHANNEL_POST. -/
def execHostChannelPost (ld : Ld) (c : Chan) (v : Word) (old : Bool) (s : State) : Host.Outcome State Fault Refusal :=
  s.run (hostChannelPostEffect ld c v old)

/-- An LD takes through its host page (R483, R102). -/
def hostChannelTakeEffect (ld : Ld) (c : Chan) (d : Device) : Device :=
  if !cxlUp d then d
  else taken (curLeaf d) ld c (replyWord (takeWord (curLeaf d) d ld c) d)

/-- HOST_CHANNEL_TAKE. -/
def execHostChannelTake (ld : Ld) (c : Chan) (s : State) : Host.Outcome State Fault Refusal :=
  s.run (hostChannelTakeEffect ld c)

end Sys2Proof.Machine
end

