-- ==== Sys2Proof/Machine/Flags.lean ====
section
/-! DEFINITION. Status bytes and flag words that are put together from single bits (R177, R499, GF_ and SYS_ status). -/

namespace Sys2Proof.Machine

open Sys2Proof

/-- The presented status byte (R177). -/
def statusByte (p : UpPort) : Byte := BitVec.ofNat 8 (flag p.wip + 2 * flag p.wel)

/-- The presented flag status byte (R177). -/
def flagStatusByte (p : UpPort) : Byte :=
  BitVec.ofNat 8 (2 * flag p.protected_ + 16 * flag p.programError + 32 * flag p.eraseError + 128 * flag (!p.wip))

/-- SYS_PIN_STAT (spec/02). -/
def pinStat (p : Pins) : Word :=
  pack [(0, 1, flag p.strapGolden), (1, 1, flag p.recoverFilt), (2, 1, flag p.recoverSettled), (3, 1, flag p.testEn),
    (4, 1, flag p.holdupOk), (5, 1, flag p.mainPg), (6, 1, flag p.xtalOk), (7, 1, flag p.vbatOk),
    (8, 1, flag p.strapAtStart), (9, 1, flag p.recoverAtStart)]

/-- SYS_JUNCTION (spec/02). -/
def junctionStat (j : Junction) : Word :=
  pack [(0, 8, j.tempNow), (8, 8, j.tempPeak), (16, 1, flag j.warn), (17, 1, flag j.vcoreLow)]

end Sys2Proof.Machine
end

