-- ==== Sys2Proof/Machine/CouchModel.lean ====
section
/-! DEFINITION. Action descriptors, the couch journal in MRAM and the checks of a mould
(spec/05_couch_transactions.md, R149–R154, R159–R161; spec/04_structure_image.md, checks 0x40–0x45). The commands are in
Machine/Couch.lean. -/

namespace Sys2Proof.Machine

open Sys2Proof

/-! ### Action descriptors (R149, R150) -/

/-- Type of an action. -/
def actType (a : List Byte) : Nat := bufLe a 0 1
/-- The byte at an offset of an action. -/
def actByte (a : List Byte) (off : Nat) : Nat := bufLe a off 1

/-- The window a REGION_SET gives (R149, R124). -/
def actWindow (a : List Byte) : WindowRec :=
  { f := actByte a 4, index := actByte a 5, access := actByte a 6, anyAgent := (actByte a 7).testBit 0,
    logDenied := (actByte a 7).testBit 1, baseUnit := bufLe a 8 4, lengthUnits := bufLe a 12 4, aid := actByte a 16 }

/-- The gate record a GATE_POLICY gives (R149, R126). -/
def actGate (a : List Byte) : GateRec :=
  { gate := actByte a 4, bd := actByte a 5, drive := actByte a 6, order := actByte a 7, delay := bufLe a 8 2 }

/-- The actions that amend a structure. -/
def isAmendment (a : List Byte) : Bool := [0x02, 0x03, 0x04, 0x08].contains (actType a)

/-- The key of an amendment, or of a retirement (R150). -/
def actKey (a : List Byte) : Nat :=
  match actType a with
  | 0x03 => actByte a 4 * 256 + actByte a 5
  | 0x08 => bufLe a 4 2
  | _ => actByte a 4

/-- An amendment applied to a leaf (R150). -/
def applyAmendment (L : Leaf) (a : List Byte) : Leaf :=
  match actType a with
  | 0x02 => { L with bds := L.bds.map (fun b => if b.bd == actByte a 4 then { b with activeSlot := actByte a 5 } else b) }
  | 0x03 =>
    match flashOf L (actByte a 4) with
    | some r => { L with windows := L.windows.set (r.windowFirst + actByte a 5) (actWindow a) }
    | none => L
  | 0x04 =>
    { L with gates := L.gates.filter (fun g => decide (g.gate < actByte a 4)) ++ [actGate a] ++
        L.gates.filter (fun g => decide (actByte a 4 < g.gate)) }
  | 0x08 =>
    let c := bufLe a 4 2
    { L with floors := L.floors.filter (fun f => decide (f.imageClass < c)) ++
        [{ imageClass := c, minVersion := actByte a 6 }] ++ L.floors.filter (fun f => decide (c < f.imageClass)) }
  | _ => L

/-- Amendments applied in order. -/
def amendLeaf (L : Leaf) (as : List (List Byte)) : Leaf := as.foldl applyAmendment L

/-- A later amendment with the same key replaces an earlier one (R150). -/
def mergeAmendment (old : List (List Byte)) (a : List Byte) : List (List Byte) :=
  old.filter (fun b => !(actType b == actType a && actKey b == actKey a)) ++ [a]

/-- Committed state as the journal keeps it: epoch, SI digest, amendments, retirement list (R159–R161). -/
structure Committed where
  epoch : Nat
  siDigest : List Byte
  amendments : List (List Byte)
  retired : List Nat
  deriving DecidableEq, Repr, Inhabited

/-- The empty state of R166. -/
def Committed.empty : Committed := { epoch := 0, siDigest := zeros 64, amendments := [], retired := [] }

/-- One action applied to the committed state (R150, R151). -/
def applyAction (siDig : List Byte) (c : Committed) (a : List Byte) : Committed :=
  match actType a with
  | 0x01 => { c with amendments := [], siDigest := siDig }
  | 0x07 => { c with retired := c.retired.filter (· != actByte a 4) }
  | 0x09 => { c with retired := c.retired.filter (· != actByte a 4) ++ [actByte a 4] }
  | _ => if isAmendment a then { c with amendments := mergeAmendment c.amendments a } else c

/-- The actions of a mould applied, and the epoch advanced (R26). -/
def applyActions (siDig : List Byte) (as : List (List Byte)) (c : Committed) : Committed :=
  { as.foldl (applyAction siDig) c with epoch := c.epoch + 1 }

/-! ### The journal (R159–R161) -/

/-- Address of a bank. -/
def bankAddr (b : Nat) : Nat := couchJournalBase + b * 0x40000
/-- Size of a bank. -/
def bankSize : Nat := 0x40000
/-- HeaderCommit of a generation (R159). -/
def headerCommit (gen : Nat) : Nat := 0x4B4E414200000000 + gen
/-- CommitWord of a new epoch (R160). -/
def recordCommit (epoch : Nat) : Nat := 0x544D4F4300000000 + epoch

/-- A bank's header is correct (R159). -/
def bankOk (m : Memory) (b : Nat) : Bool :=
  memLe m (bankAddr b) 4 == 0x4A435842 && memLe m (bankAddr b + 4) 2 == 1 &&
    memLe m (bankAddr b + 0x78) 8 == headerCommit (memLe m (bankAddr b + 8) 4)

/-- The valid bank (R159). -/
def validBank (m : Memory) : Option Nat :=
  let ok0 := bankOk m 0
  let ok1 := bankOk m 1
  if ok0 && ok1 then some (if memLe m (bankAddr 0 + 8) 4 < memLe m (bankAddr 1 + 8) 4 then 1 else 0)
  else if ok0 then some 0 else if ok1 then some 1 else none

/-- Size of a record of `n` actions (R160). -/
def recordSize (n : Nat) : Nat := 192 + 32 * n

/-- `n` descriptors that stand in memory one after another. -/
def readDescs (m : Memory) (a n : Nat) : List (List Byte) := (List.range n).map fun i => memRead m (a + 32 * i) 32

/-- A bank as replayed: committed state, offset of the next record, records applied, and of the last record whether it
has keys and its KeyGeneration. -/
structure Replay where
  state : Committed
  next : Nat
  count : Nat
  lastKeys : Bool
  lastKeyGen : Nat
  deriving DecidableEq, Repr, Inhabited

/-- The records of a bank applied from an offset on (R161), at most `fuel` of them. -/
def replayRecords (m : Memory) (b gen : Nat) : Nat → Replay → Replay
  | 0, r => r
  | fuel + 1, r =>
    let o := bankAddr b + r.next
    let n := memLe m (o + 4) 2
    let fl := memLe m (o + 6) 2
    if decide (r.next + recordSize n ≤ bankSize) && within 1 256 n && memLe m o 4 == 0x52435842 && memLe m (o + 8) 4 == gen &&
        memLe m (o + 0x0C) 4 == r.state.epoch &&
        memLe m (o + 128 + 32 * n) 8 == recordCommit (memLe m (o + 0x10) 4) then
      let st := applyActions (memRead m (o + 0x40) 64) (readDescs m (o + 128) n) r.state
      replayRecords m b gen fuel
        { state := { st with epoch := memLe m (o + 0x10) 4 }, next := r.next + recordSize n, count := r.count + 1,
          lastKeys := fl.testBit 1, lastKeyGen := memLe m (o + 0x14) 4 }
    else r

/-- The committed state that a bank holds (R161). -/
def replayBank (m : Memory) (b : Nat) : Replay :=
  let n := memLe m (bankAddr b + 0x10) 4
  let snap := readDescs m (bankAddr b + 128) n
  let c : Committed :=
    { epoch := memLe m (bankAddr b + 0x0C) 4, siDigest := memRead m (bankAddr b + 0x20) 64,
      amendments := snap.filter isAmendment,
      retired := (snap.filter (fun a => actType a == 0x09)).map (fun a => actByte a 4) }
  replayRecords m b (memLe m (bankAddr b + 8) 4) 1170
    { state := c, next := 128 + 32 * n, count := 0, lastKeys := false, lastKeyGen := 0 }

/-- The committed state the journal recovers, the empty one where no bank is valid (R166). -/
def recoverCommitted (m : Memory) : Committed :=
  match validBank m with
  | some b => (replayBank m b).state
  | none => Committed.empty

/-- The descriptor of a retired device in a snapshot (R159). -/
def retireDesc (f : Nat) : List Byte := [0x09, 0, 0, 0, BitVec.ofNat 8 f] ++ zeros 27

/-- An entry put in its place: ascending by Type and then by key (R159). -/
def insertDesc (a : List Byte) : List (List Byte) → List (List Byte)
  | [] => [a]
  | b :: tl =>
    if actType a < actType b ∨ (actType a = actType b ∧ actKey a < actKey b) then a :: b :: tl else b :: insertDesc a tl

/-- The snapshot of a committed state. -/
def snapshotOf (c : Committed) : List (List Byte) :=
  (c.amendments ++ c.retired.map retireDesc).foldl (fun acc a => insertDesc a acc) []

/-- A bank as first written: header, snapshot (R159). -/
def bankImage (gen : Nat) (c : Committed) : List Byte :=
  let snap := snapshotOf c
  leBytes 4 0x4A435842 ++ leBytes 2 1 ++ zeros 2 ++ leBytes 4 gen ++ leBytes 4 c.epoch ++ leBytes 4 snap.length ++ zeros 12 ++
    padTo 64 c.siDigest ++ zeros 24 ++ leBytes 8 (headerCommit gen) ++ snap.flatten

/-- A commit record (R160). -/
def recordImage (gen old ts requester : Nat) (acts : List (List Byte)) (hasSi hasKeys : Bool) (keyGen : Nat)
    (siDig : List Byte) : List Byte :=
  leBytes 4 0x52435842 ++ leBytes 2 acts.length ++ leBytes 2 (flag hasSi + 2 * flag hasKeys) ++ leBytes 4 gen ++
    leBytes 4 old ++ leBytes 4 (old + 1) ++ leBytes 4 (if hasKeys then keyGen else 0xFFFFFFFF) ++ leBytes 8 ts ++
    leBytes 1 requester ++ zeros 31 ++ padTo 64 (if hasSi then siDig else []) ++ (acts.map (padTo 32)).flatten ++
    leBytes 8 (recordCommit (old + 1)) ++ zeros 56

/-! ### Views of the device the checks need -/

/-- The SI at an MRAM address, `n` bytes; a byte at or beyond reads as zero (R153). -/
def siAt (d : Device) (base n a : Nat) : Byte := if a < n then memGet d.mem (base + a) else 0

/-- The environment of the content checks (R136, R139). -/
def siEnv (d : Device) (expect : Option Nat) : SiEnv where
  serial := serialNo d
  ownerHash := fusedHash d 1
  revoked := keyRevoked d 1
  accepts := d.lc.state == lcProvisioned || d.lc.state == lcField
  expectLen := expect

/-- The content checks on SI Pending for an SI_LOAD of `n` bytes (R153). -/
def pendingCheck (d : Device) (n : Nat) : Option (Nat × Nat) :=
  if n < 128 then some (0x01, 0)
  else if !(n % 16 == 0 && decide (n ≤ 1048576)) then
    (firstFail ((formatChecks (siEnv d (some n)) (siAt d siPendingBase n)).take 1)).or (some (0x02, 0x08))
  else contentCheck (siEnv d (some n)) (siAt d siPendingBase n)

/-- The content checks on SI Active at start-up (R137, R164). -/
def activeCheck (d : Device) : Option (Nat × Nat) := contentCheck (siEnv d none) (siAt d siActiveBase 0x100000)

/-- The length that the header of SI Active or SI Pending gives, at most 1 MiB. -/
def siLen (d : Device) (base : Nat) : Nat := min (memLe d.mem (base + 8) 4) 0x100000

/-- The SI digest of an MRAM region: over its bytes below SigOffset, none where its length cannot be an SI's. -/
def regionDigest (d : Device) (base : Nat) : List Byte :=
  let so := memLe d.mem (base + 12) 4
  if so ≤ 0x100000 then shake256 (memRead d.mem base so) 64 else []

/-- The mould has an SI_LOAD. -/
def hasSiLoad (t : Couch) : Bool := t.actions.any (fun a => actType a == 0x01)
/-- The mould has key actions. -/
def hasKeyActs (t : Couch) : Bool := t.actions.any (fun a => actType a == 0x05 || actType a == 0x06)
/-- The slots of key actions of a type. -/
def keySlots (t : Couch) (ty : Nat) : List Nat := (t.actions.filter (fun a => actType a == ty)).map (fun a => actByte a 4)
/-- KeyGeneration of the mould's key actions. -/
def mouldKeyGen (t : Couch) : Nat :=
  ((t.actions.find? (fun a => actType a == 0x05 || actType a == 0x06)).map (fun a => bufLe a 8 4)).getD 0xFFFFFFFF

/-- The length of the SI in SI Pending that the mould's SI_LOAD names. -/
def mouldSiLen (t : Couch) : Nat := ((t.actions.find? (fun a => actType a == 0x01)).map (fun a => bufLe a 4 4)).getD 0

/-- The leaf SI Pending spells. -/
def pendingLeaf (d : Device) : Leaf := parseSi (siAt d siPendingBase (mouldSiLen d.tx))

/-- The committed state a check goes by: the live one, or the recovered one (R166). -/
def committedNow (d : Device) : Committed :=
  if d.tx.fabricLive then
    { epoch := d.tx.epoch, siDigest := d.tx.siDigest, amendments := d.tx.amendments, retired := d.tx.retired }
  else recoverCommitted d.mem

/-- The committed floors (R132, R154): the committed leaf's; with no live fabric those of SI Active where its digest is
the recovered one, and of the recovered amendments (R166). -/
def committedFloors (d : Device) : Leaf :=
  if d.tx.fabricLive then curLeaf d
  else
    let c := recoverCommitted d.mem
    let base := if regionDigest d siActiveBase == c.siDigest then parseSi (siAt d siActiveBase 0x100000) else {}
    amendLeaf { floors := base.floors } (c.amendments.filter (fun a => actType a == 0x08))

/-- The leaf that results from the mould (R150). -/
def resultLeaf (d : Device) : Leaf :=
  amendLeaf (if hasSiLoad d.tx then pendingLeaf d else curLeaf d) (d.tx.actions.filter isAmendment)

/-- A domain is being served: from its Start on, until its gates are released (checks 0x43, 0x53; "Couches during an
attempt" of spec/13). -/
def beingServed (d : Device) (bd : Nat) : Bool :=
  match (domain d bd).state with
  | .waiting | .loading | .running | .verified => true
  | _ => false

/-- A device is in Probation, or is being copied in Probation (R263, R264). -/
def inProbation (d : Device) (f : Nat) : Bool :=
  (healthAt d f).cond == 8 || ((healthAt d f).cond == 3 && d.is_.resyncs.any (fun r => r.target == f && r.probation))

/-- A device is retired in hardware: Retired, or in Probation (R257). -/
def hwRetired (d : Device) (f : Nat) : Bool := (healthAt d f).cond == 7 || inProbation d f

/-- A device is retired or Fenced now (checks 0x42, 0x54). -/
def outOfUse (d : Device) (f : Nat) : Bool :=
  hwRetired d f || d.tx.retired.contains f || ((flashOf (curLeaf d) f).map (·.role)) == some 3

/-! ### State checks 0x40–0x45 (R139) -/

/-- What a domain's serving rests on (check 0x43). -/
def servedPart (L : Leaf) (bd : Nat) :
    Option BdRec × List ImageRec × List PartRec × Option PortRec × List PresentRec × List FlashRec :=
  let imgs := L.images.filter (fun i => i.bd == bd)
  let port := ((bdOf L bd).map (·.port)).getD 0xFF
  (bdOf L bd, imgs, L.partitions.filter (fun p => imgs.any (fun i => i.partition == p.partition)), portOf L port,
    L.presents.filter (fun w => w.port == port), L.flashes.filter (fun r => r.ownerBd == bd))

/-- The partitions of a domain's images in a leaf. -/
def partsOfBd (L : Leaf) (bd : Nat) : List PartRec :=
  L.partitions.filter (fun p => L.images.any (fun i => i.bd == bd && i.partition == p.partition))

/-- The state checks on the new leaf, each with the failing record as (section type, index) (R139, notes/assumptions/
20.md). -/
def stateChecks (d : Device) (N : Leaf) : List (Nat × (Unit → Option (Nat × Nat))) :=
  let C := curLeaf d
  [ (0x40, fun _ => if floorOf (committedFloors d) 0 ≤ N.siVersion then none else some (0, 0x14)),
    (0x41, fun _ => if !d.tx.fabricLive then none else badIn 0x02 N.flashes fun r =>
      (flashOf C r.f).isNone || (match stateTableOf N r.stateTable with
        | some s => decide ((tsAt d r.f).state < s.stateCount)
        | none => true)),
    (0x42, fun _ => badIn 0x02 N.flashes fun r =>
      r.role != 1 || d.tx.actions.any (fun a => actType a == 0x07 && actByte a 4 == r.f) ||
        (if d.tx.fabricLive then !outOfUse d r.f else !(committedNow d).retired.contains r.f)),
    (0x43, fun _ => if !d.tx.fabricLive then none else badIn 0x03 C.bds fun b =>
      !beingServed d b.bd || servedPart C b.bd == servedPart N b.bd),
    (0x44, fun _ => if !d.tx.fabricLive then none else badIn 0x04 N.partitions fun p =>
      C.bds.all (fun b => (domain d b.bd).state != .passed ||
        (partsOfBd C b.bd).all (fun q => q == p || !overlaps q.firstGranule q.granuleCount p.firstGranule p.granuleCount))),
    (0x45, fun _ => if !d.tx.fabricLive then none else badIn 0x0C C.gates fun g =>
      !hasBit d.is_.gates g.gate || N.gates.any (fun h => h.gate == g.gate && h.bd == g.bd)) ]

/-- Where a state check fails: the record's offset in the SI; a record the SI no longer has is reported at the section
directory (notes/assumptions/20.md). -/
def stateWhere (d : Device) (r : Nat × Nat) : Nat :=
  if r.1 = 0 then r.2
  else
    let rd := siAt d siPendingBase (mouldSiLen d.tx)
    let rec_ := match r.1 with
      | 0x03 => ((curLeaf d).bds[r.2]?).bind (fun b => (pendingLeaf d).bds.findIdx? (fun x => x.bd == b.bd))
      | 0x0C => ((curLeaf d).gates[r.2]?).bind (fun g => (pendingLeaf d).gates.findIdx? (fun x => x.gate == g.gate))
      | _ => some r.2
    match rec_ with
    | some i => (recOffsets rd r.1).getD i 0x10
    | none => 0x10

/-! ### Action checks 0x50–0x5A (R154) -/

/-- Bytes of an action from `off` on are zero. -/
def restZero (a : List Byte) (off : Nat) : Bool := (a.drop off).all (· == 0)

/-- Check 0x51 on one action. -/
def actDefined (a : List Byte) : Bool :=
  bufZero a 1 3 &&
  (match actType a with
   | 0x01 => restZero a 8
   | 0x02 => decide (actByte a 4 ≤ 15) && decide (actByte a 5 ≤ 1) && restZero a 6
   | 0x03 => decide (actByte a 4 ≤ 63) && decide (actByte a 5 ≤ 63) && decide (actByte a 6 ≤ 7) && decide (actByte a 7 ≤ 3) &&
       bufLe a 12 4 != 0 && aidListed (actByte a 16) && restZero a 17
   | 0x04 => decide (actByte a 4 ≤ 31) && withinOrNone 0 15 (actByte a 5) && decide (actByte a 6 ≤ 1) && restZero a 10
   | 0x05 => bufZero a 5 3 && restZero a 12
   | 0x06 => bufZero a 5 3 && restZero a 12
   | 0x07 => decide (actByte a 4 ≤ 63) && actByte a 5 == 0 && decide (bufLe a 6 2 ≤ 4095) && restZero a 8
   | 0x08 => imageClassOk (bufLe a 4 2) && restZero a 7
   | 0x09 => decide (actByte a 4 ≤ 63) && restZero a 5
   | _ => false)

/-- No earlier action has this one's type and key. -/
def firstOfKey (t : Couch) (i : Nat) (a : List Byte) : Bool :=
  (t.actions.take i).all (fun b => !(actType b == actType a && actKey b == actKey a))

/-- The first action of some types that fails `p`, by index. -/
def badAction (t : Couch) (tys : List Nat) (p : Nat → List Byte → Bool) : Option Nat :=
  (t.actions.zipIdx.find? (fun x => tys.contains (actType x.1) && !p x.2 x.1)).map (·.2)

/-- Check 0x56 on one key action. -/
def keyActionGood (d : Device) (i : Nat) (a : List Byte) : Bool :=
  (d.tx.actions.take i).all (fun b => !((actType b == 0x05 || actType b == 0x06) && actByte b 4 == actByte a 4)) &&
    bufLe a 8 4 == mouldKeyGen d.tx && stagedValid d.kv (mouldKeyGen d.tx) (keySlots d.tx 0x05) (keySlots d.tx 0x06)

/-- Check 0x57 on one action. -/
def reinstateGood (d : Device) (a : List Byte) : Bool :=
  let f := actByte a 4
  (d.tx.retired.contains f || ((flashOf (curLeaf d) f).map (·.role)) == some 3) &&
  (match d.dg.ctxs.find? (fun c => c.no == bufLe a 6 2), flashOf (curLeaf d) f with
   | some c, some r => c.owner == 0x12 && c.state == .closed && c.passed && c.declLen == 2 ^ r.sizeLog2 &&
       c.bound == some (2, f, 0, d.tx.epoch) && c.epoch == d.tx.epoch
   | _, _ => false)

/-- The content checks that check 0x5A repeats, with the action types that change what they examine. -/
def repeated5A : List (Nat × Nat) := [(0x15, 0x03), (0x1A, 0x02), (0x1B, 0x02), (0x1F, 0x00), (0x21, 0x03), (0x22, 0x04)]

/-- Check 0x5A: the failing content check. An unbound gate (BD 0xFF) has no record to examine (R250). -/
def structureBad (d : Device) : Option Nat :=
  let L := resultLeaf d
  let L1 := { L with gates := L.gates.filter (fun g => g.bd != 0xFF) }
  (firstFail ((crossChecks L1).filter (fun c => repeated5A.any (fun r => r.1 == c.1)))).map (·.1)

/-- TX_CHECK_WHERE of check 0x5A (R154). Check 0x21 examines the windows of devices that a presentation window names. -/
def where5A (N : Leaf) (t : Couch) (code : Nat) : Nat :=
  let ty := ((repeated5A.find? (fun r => r.1 == code)).map (·.2)).getD 0
  let hit := fun (a : List Byte) =>
    actType a == ty && (code != 0x21 || N.presents.any (fun w => w.flash == actByte a 4))
  ((t.actions.zipIdx.filter (fun x => hit x.1)).getLast?.map (·.2)).getD 0 + 65536 * code

/-- The action checks (R154), each with TX_CHECK_WHERE. With FabricLive 0 a mould of one SI_LOAD passes check 0x52 whether or
not a Restore has failed: DESIGN CHOICE, R166 names two situations (notes/assumptions/82.md). -/
def actionChecks (d : Device) : List (Nat × (Unit → Option Nat)) :=
  let t := d.tx
  [ (0x50, fun _ =>
      if within 1 256 t.actions.length && decide ((committedNow d).epoch < 0xFFFFFFFE) then none else some 0xFFFFFFFF),
    (0x51, fun _ => (t.actions.zipIdx.find? (fun x => !actDefined x.1)).map (·.2)),
    (0x52, fun _ =>
      match t.actions.zipIdx.find? (fun x => (actType x.1 == 0x01 && x.2 != 0) || (!t.fabricLive && actType x.1 != 0x01)) with
      | some x => some x.2
      | none =>
        if hasSiLoad t && !(t.sipLocked && (committedFloors d).floors.all (fun f =>
            decide (f.minVersion ≤ floorOf (pendingLeaf d) f.imageClass))) then some 0 else none),
    (0x53, fun _ => badAction t [0x02] fun i a =>
      firstOfKey t i a && (match bdOf (resultLeaf d) (actByte a 4) with
        | some b => locPresent (if actByte a 5 = 0 then b.slotA else b.slotB)
        | none => false) && !beingServed d (actByte a 4)),
    (0x54, fun _ => badAction t [0x03] fun i a =>
      firstOfKey t i a && (match flashOf (resultLeaf d) (actByte a 4) with
        | some r => r.role != 3 && decide (actByte a 5 < r.windowCount) &&
            decide (bufLe a 8 4 + bufLe a 12 4 ≤ 2 ^ (r.sizeLog2 - 12))
        | none => false)),
    (0x55, fun _ => badAction t [0x04] fun i a =>
      firstOfKey t i a && (!hasBit d.is_.gates (actByte a 4) ||
        (curLeaf d).gates.any (fun g => g.gate == actByte a 4 && g.bd == actByte a 5 && g.drive == actByte a 6))),
    (0x56, fun _ => badAction t [0x05, 0x06] (keyActionGood d)),
    (0x57, fun _ => badAction t [0x07] fun _ a => reinstateGood d a),
    (0x58, fun _ => badAction t [0x08] fun i a =>
      firstOfKey t i a && decide (floorOf (committedFloors d) (bufLe a 4 2) ≤ actByte a 6)),
    (0x59, fun _ => badAction t [0x09] fun _ a =>
      ((healthAt d (actByte a 4)).cond == 7 || (healthAt d (actByte a 4)).cond == 8) && !t.retired.contains (actByte a 4) &&
        !t.actions.any (fun b => actType b == 0x07 && actByte b 4 == actByte a 4)),
    (0x5A, fun _ => (structureBad d).map (where5A (resultLeaf d) t)) ]

/-- The couch check (R154): the first failure as (code, Where). -/
def couchCheck (d : Device) : Option (Nat × Nat) :=
  ((if hasSiLoad d.tx then firstFail (stateChecks d (pendingLeaf d)) else none).map (fun r => (r.1, stateWhere d r.2))).or
    (firstFail (actionChecks d))

end Sys2Proof.Machine
end

