-- ==== Sys2Proof/Machine/Turnstile.lean ====
section
/-! DEFINITION. The turnstile of one flash device, on its own state (spec/07_turnstiles.md, R205–R231). What it
answers to issuers and records is a list of completions and of events; Machine/FlashPath.lean carries them out. -/

namespace Sys2Proof.Machine

/-- The kind of an opcode under a class table protocol (R206). -/
def kindOf (proto op : Nat) : CmdKind :=
  if op ∈ [0x30, 0x66, 0x75, 0x7A, 0x99, 0xB0, 0xB7, 0xE9] then .reserved
  else if op ∈ [0x20, 0x21] then .erase 4096
  else if op ∈ [0x52, 0x5C] then .erase 32768
  else if op ∈ [0xD8, 0xDC] then .erase 65536
  else if op ∈ [0x60, 0xC7] then .chip
  else if proto = 2 then
    if op ∈ [0x0B, 0x0C, 0xEE] then .read else if op ∈ [0x02, 0x12] then .program else .other
  else
    if op ∈ [0x03, 0x13, 0x0B, 0x0C, 0x6B, 0x6C, 0xEB, 0xEC] then .read
    else if op ∈ [0x02, 0x12, 0x32, 0x34, 0x38, 0x3E] then .program else .other

/-- The positions a page program writes: the bytes addressed where they stay in the page, else the whole page (R181,
R182). -/
def programRange (page addr len : Nat) : Nat × Nat :=
  if addr % page + len ≤ page then (addr, len) else (addr / page * page, page)

/-- The address range of a command (R206), none where its kind has no range. -/
def rangeOf (k : CmdKind) (r : FlashRec) (addr len : Nat) : Option (Nat × Nat) :=
  match k with
  | .read => some (addr, len)
  | .program => some (programRange r.pageSize addr len)
  | .erase n => some (addr / n * n, n)
  | .chip => some (0, 2 ^ r.sizeLog2)
  | .reserved => none
  | .other => none

/-- The access bit of a kind (R206, R124). -/
def accessBit : CmdKind → Nat
  | .read => 0
  | .program => 1
  | _ => 2

/-- What the turnstile reads beside its own state: the leaf of the command's tag, the device's fate, whether the issuing
port is quarantined, the committed fence (R155), whether the bus cannot take a command now, the epoch of the deciding leaf
(R231), the tag of the present epoch. -/
structure TsEnv where
  f : Nat
  leaf : Leaf
  retired : Bool
  quarantined : Bool
  /-- The StateCount that no state may reach: the device's new one while fences are armed (R155), and for a command of
  the earlier tag the committed one (R228). -/
  fence : Option Nat
  busTaken : Bool
  epoch : Nat
  tag : Bool
  now : Nat

/-- A decision (R210): the class is 0x3F where the command was not classified. `fenced` and `waits` leave the command
where it stands, for the fence (R155) or for the bus. -/
inductive Decision where
  | deny (reason : Nat) (logged : Bool) (cls : Nat)
  | quarantine (cls : Nat)
  | hold (cls : Nat)
  | fenced
  | waits
  | issue (next cost : Nat)
  deriving DecidableEq, Repr, Inhabited

/-- A range overlaps a serve lock (R226). -/
def lockHits (locks : List ServeLock) (rng : Nat × Nat) : Bool :=
  locks.any (fun l => overlaps (l.base * 4096) (l.len * 4096) rng.1 rng.2)

/-- A command hits a serve lock (R226). -/
def serveLocked (locks : List ServeLock) (k : CmdKind) (op : Nat) (rng : Option (Nat × Nat)) : Bool :=
  match k with
  | .read => false
  | .reserved => false
  | .chip => !locks.isEmpty
  | .other => !locks.isEmpty && !([0x05, 0x70, 0x9F, 0x5A].contains op)
  | _ => match rng with
    | some r => lockHits locks r
    | none => false

/-- The window decision (R215, R216): passes, or fails with whether it is logged. -/
def windowDecision (ws : List WindowRec) (aid : Nat) (k : CmdKind) (rng : Nat × Nat) : Option Bool :=
  match ws.find? (fun w => (w.anyAgent || w.aid == aid) && overlaps (w.baseUnit * 4096) (w.lengthUnits * 4096) rng.1 rng.2) with
  | none => some true
  | some w =>
    if w.baseUnit * 4096 ≤ rng.1 ∧ rng.1 + rng.2 ≤ (w.baseUnit + w.lengthUnits) * 4096 ∧ w.access.testBit (accessBit k) = true
    then none else some w.logDenied

/-- Cost of a command whose entry has RateCharge (R224). -/
def chargeOf (k : CmdKind) (r : FlashRec) (len : Nat) : Nat :=
  match k with
  | .program => 230400 * ceilDiv len 256
  | .erase n => 3686400 * (n / 4096)
  | .chip => 3686400 * (2 ^ r.sizeLog2 / 4096)
  | _ => 0

/-- Wear a command adds, in sixteenths (R222). -/
def wearOf (k : CmdKind) (r : FlashRec) (len : Nat) : Nat :=
  match k with
  | .program => ceilDiv len 256
  | .erase n => 16 * (n / 4096)
  | .chip => 16 * (2 ^ r.sizeLog2 / 4096)
  | _ => 0

/-- The segment of a curve at a wear count, and its budget (R223). -/
def segmentOf (c : CurveRec) (wear : Nat) : Nat × Nat :=
  let below := (c.points.takeWhile (fun p => decide (p.1 ≤ wear / 16))).length
  let i := below - 1
  (i, (c.points.getD i (0, 0)).2)

/-- The bound curve of a device in a leaf. -/
def boundCurve (L : Leaf) (f : Nat) : Option CurveRec :=
  match flashOf L f with
  | some r => if r.rateCurve = 0xFF then none else curveOf L r.rateCurve
  | none => none

/-- The device's class table protocol in a leaf. -/
def protoOf (L : Leaf) (r : FlashRec) : Nat := ((classTableOf L r.classTable).map (·.protocol)).getD 0

/-- A state table entry (R122, R123). -/
def entryAt (t : StateTableRec) (s c : Nat) : Nat := t.entries.getD (s * 64 + c) 0

/-- The decision of R210. -/
def decideCmd (env : TsEnv) (t : Turnstile) (c : FlashCmd) : Decision :=
  match flashOf env.leaf env.f with
  | none => .deny 9 false 0x3F
  | some r =>
    if env.retired || r.role == 3 then .deny 9 false 0x3F
    else if env.quarantined then .deny 8 false 0x3F
    else
      let k := kindOf (protoOf env.leaf r) c.op
      let rng := rangeOf k r c.addr c.len
      if k = .reserved then .deny 6 true 0x3F
      else if serveLocked t.locks k c.op rng then .deny 10 true 0x3F
      else
        let cls := ((classTableOf env.leaf r.classTable).map (fun ct => ct.classes.getD c.op 0xFF)).getD 0xFF
        if cls = 0xFF then .deny 5 true 0x3F
        else
          let e := ((stateTableOf env.leaf r.stateTable).map (fun st => entryAt st t.state cls)).getD 1
          match e % 8 with
          | 1 => .deny 1 false cls
          | 2 => .deny 2 true cls
          | 3 => .hold cls
          | 4 => .quarantine cls
          | _ =>
            let next := e / 8 % 32
            let win := match rng with
              | some g => if e.testBit 8 then windowDecision (windowsOf env.leaf r) c.aid k g else none
              | none => none
            match win with
            | some log => .deny 3 log cls
            | none =>
              let cost := if e.testBit 9 && (boundCurve env.leaf env.f).isSome then chargeOf k r c.len else 0
              if t.credit < cost then .deny 4 false cls
              else if env.fence.any (fun n => decide (n ≤ next)) then .fenced
              else if env.busTaken then .waits
              else .issue next cost

/-- An answer to an issuer: the denial reason, or 0 with the flash result of R256, and the data read. -/
structure Completion where
  cmd : FlashCmd
  reason : Nat
  result : Nat
  data : List Byte
  deriving DecidableEq, Repr, Inhabited

/-- What a turnstile step gives: its new state, answers, events as (code, severity, parameters), and the port it
quarantines. -/
structure TsOut where
  ts : Turnstile
  done : List Completion
  events : List (Nat × Nat × List Nat)
  quarantine : Option Nat
  deriving DecidableEq, Repr, Inhabited

/-- The port that issued a command; the demand reads of its Streamed images are the serving engine's, with AID 0x12
(R205, R244). -/
def issuerPort (c : FlashCmd) : Option Nat :=
  match c.issuer with
  | .portRead p _ => if c.aid = 0x12 then none else some p
  | .portWrite p => some p
  | _ => none

/-! ### The queue of 64 (R214) -/

/-- Commands held back at their issuers reach the turnstile as soon as its queue has room. -/
def refill (t : Turnstile) : Turnstile :=
  { t with waiting := t.waiting ++ t.back.take (64 - t.waiting.length), back := t.back.drop (64 - t.waiting.length) }

/-- A command is sent to the turnstile: behind every other, and held back at its issuer while 64 wait. -/
def sendCmd (c : FlashCmd) (t : Turnstile) : Turnstile := refill { t with back := t.back ++ [c] }

/-- The queue without the commands of a kind; an open group whose members are gone is closed. -/
def dropCmds (p : FlashCmd → Bool) (t : Turnstile) : Turnstile :=
  let ws := t.waiting.filter (fun c => !p c)
  refill { t with
    waiting := ws, back := t.back.filter (fun c => !p c)
    openGroup := t.openGroup.filter (fun g => ws.any (fun c => c.group == g)) }

/-- The commands of a kind that wait. -/
def waitingCmds (p : FlashCmd → Bool) (t : Turnstile) : List FlashCmd := (t.waiting ++ t.back).filter p

/-- The device address GF_TSn_LAST_ADDR shows: 0 for kind Other. -/
def shownAddr (env : TsEnv) (c : FlashCmd) : Nat :=
  match flashOf env.leaf env.f with
  | some r => if kindOf (protoOf env.leaf r) c.op = .other then 0 else c.addr
  | none => if kindOf 0 c.op = .other then 0 else c.addr

/-- A denial in the turnstile's registers (GF_TSn_COUNT, LAST_DENY, LAST_ADDR). -/
def recordDeny (env : TsEnv) (t : Turnstile) (c : FlashCmd) (reason : Nat) (logged : Bool) (cls : Nat) : Turnstile :=
  { t with
    denyCount := satAdd 16 t.denyCount 1
    rateDenyCount := if reason = 4 then satAdd 16 t.rateDenyCount 1 else t.rateDenyCount
    rateShort := if reason = 4 then true else t.rateShort
    lastOp := c.op
    lastAid := c.aid
    lastReason := reason
    lastLogged := logged
    lastClass := cls
    lastAddr := shownAddr env c }

/-- Event 0x0701 (R231). -/
def denyEvent (env : TsEnv) (t : Turnstile) (c : FlashCmd) (reason cls : Nat) : Nat × Nat × List Nat :=
  (0x0701, 3, [env.f, c.aid + 256 * reason, c.op + 256 * cls + 65536 * t.state, shownAddr env c, env.epoch])

/-- Later members of a group are withdrawn with a reason (R214): the turnstile without them, and the answers. -/
def withdrawGroup (t : Turnstile) (g reason result : Nat) : Turnstile × List Completion :=
  (dropCmds (fun c => c.group == g) { t with openGroup := none },
   (waitingCmds (fun c => c.group == g) t).map (fun c => ⟨c, reason, result, []⟩))

/-- A command is denied: registers, event, answer, and the end of its group (R214, R217). -/
def denyCmd (env : TsEnv) (t : Turnstile) (c : FlashCmd) (reason : Nat) (logged : Bool) (cls : Nat) : TsOut :=
  let rate := reason = 4 && !t.rateShort
  let ev :=
    if rate then [(0x0706, 3, [env.f, c.aid, (match flashOf env.leaf env.f with
        | some r => chargeOf (kindOf (protoOf env.leaf r) c.op) r c.len
        | none => 0), t.credit, env.epoch])]
    else if logged then [denyEvent env t c reason cls] else []
  let t1 := recordDeny env t c reason (logged || rate) cls
  let w := withdrawGroup t1 c.group reason 0
  { ts := w.1, done := ⟨c, reason, 0, []⟩ :: w.2, events := ev, quarantine := none }

/-- A command is held (R218): at most 16, else reason 7 with event 0x0704. The later bursts of its member are held with
it; later members of its group are withdrawn with reason 0 and result 7 (R209, R214). -/
def holdCmd (env : TsEnv) (t : Turnstile) (c : FlashCmd) (cls : Nat) : TsOut :=
  if t.held.length < 16 then
    let same := fun (x : FlashCmd) => x.group == c.group && x.member == c.member
    let w := withdrawGroup
      (dropCmds same { t with held := t.held ++ [{ cmd := c, since := env.now, due := false, cls := cls, rest := waitingCmds same t }] })
      c.group 0 7
    { ts := w.1, done := w.2, events := [], quarantine := none }
  else
    let t1 := recordDeny env t c 7 true cls
    let w := withdrawGroup t1 c.group 7 0
    { ts := w.1, done := ⟨c, 7, 0, []⟩ :: w.2, events := [(0x0704, 3, [env.f, c.aid, c.op, 0, env.epoch])], quarantine := none }

/-- The segment of the bound curve is followed (R223, R224): on entering another one, event 0x0705; the credit is cut to
the cap. -/
def followSegment (f epoch : Nat) (t : Turnstile) : Turnstile × List (Nat × Nat × List Nat) :=
  match t.curve with
  | none => ({ t with segment := 0 }, [])
  | some c =>
    let s := segmentOf c t.wear
    ({ t with segment := s.1, credit := min t.credit (3686400 * s.2) },
     if s.1 = t.segment then [] else [(0x0705, 3, [f, s.1, t.wear, s.2, epoch])])

/-- Wear counted (R222) and the segment followed. -/
def countWear (env : TsEnv) (t : Turnstile) (add : Nat) : Turnstile × List (Nat × Nat × List Nat) :=
  followSegment env.f env.epoch { t with wear := (t.wear + add) % 2 ^ 64 }

/-- The first command decided under a newer leaf binds that leaf's curve (R225, R228). -/
def bindCurve (env : TsEnv) (t : Turnstile) : Turnstile × List (Nat × Nat × List Nat) :=
  if env.epoch ≤ t.boundEpoch then (t, [])
  else
    let c := boundCurve env.leaf env.f
    if c = t.curve then ({ t with boundEpoch := env.epoch }, [])
    else followSegment env.f env.epoch { t with curve := c, boundEpoch := env.epoch }

/-- Every held command is due for a new decision (R218). -/
def holdsDue (t : Turnstile) : Turnstile := { t with held := t.held.map (fun h => { h with due := true }) }

/-- A command is issued (R210, R212, R222). -/
def issueCmd (env : TsEnv) (t : Turnstile) (c : FlashCmd) (next cost : Nat) : TsOut :=
  let add := match flashOf env.leaf env.f with
    | some r => wearOf (kindOf (protoOf env.leaf r) c.op) r c.len
    | none => 0
  let more := t.waiting.any (fun x => x.group == c.group)
  let t1 : Turnstile :=
    { t with
      credit := t.credit - cost
      rateShort := if cost = 0 then t.rateShort else false
      openGroup := if more then some c.group else none
      current := some c
      state := next }
  let t2 := if next = t.state then t1 else holdsDue t1
  let w := countWear env t2 add
  { ts := w.1, done := [], events := w.2, quarantine := none }

/-- Quarantine (R217, R219): of a port, with reason 8 and event 0x0702; of any other issuer, Deny-and-log. -/
def quarantineCmd (env : TsEnv) (t : Turnstile) (c : FlashCmd) (cls : Nat) : TsOut :=
  match issuerPort c with
  | none => denyCmd env t c 2 true cls
  | some p =>
    let t1 := recordDeny env t c 8 true cls
    let w := withdrawGroup t1 c.group 8 0
    { ts := w.1, done := ⟨c, 8, 0, []⟩ :: w.2,
      events := [(0x0702, 5, [c.aid, env.f, c.op, shownAddr env c, env.epoch])], quarantine := some p }

/-- The next command to decide (R214, R218): the open group's next member, then a held command that is due, then the
command that arrived first. -/
inductive NextCmd where
  | none
  | waiting (c : FlashCmd)
  | held (h : HeldCmd)
  deriving DecidableEq, Repr, Inhabited

/-- The choice of the next command. -/
def nextCmd (t : Turnstile) : NextCmd :=
  match t.openGroup, t.waiting with
  | some _, c :: _ => .waiting c
  | _, _ =>
    match t.held.find? (·.due), t.waiting with
    | some h, _ => .held h
    | none, c :: _ => .waiting c
    | none, [] => .none

/-- A turnstile that leaves everything as it is. -/
def tsIdle (t : Turnstile) : TsOut := { ts := t, done := [], events := [], quarantine := none }

/-- The command with the tag it is decided under (R227): its own, or where it has none the present one. -/
def taggedNow (env : TsEnv) (c : FlashCmd) : FlashCmd := { c with tag := some (c.tag.getD env.tag) }

/-- The turnstile without its command at the head of the queue. -/
def dropHead (t : Turnstile) : Turnstile := refill { t with waiting := t.waiting.drop 1 }

/-- The turnstile without a held command, whose later bursts come next (R209). -/
def unhold (h : HeldCmd) (t : Turnstile) : Turnstile :=
  { t with
    held := t.held.erase h, waiting := h.rest ++ t.waiting
    openGroup := if h.rest.isEmpty then t.openGroup else some h.cmd.group }

/-- Act on the decision on the command at the head of the queue. -/
def applyWaiting (env : TsEnv) (t : Turnstile) (c : FlashCmd) : TsOut :=
  let x := taggedNow env c
  match decideCmd env t c with
  | .deny reason logged cls => denyCmd env (dropHead t) x reason logged cls
  | .quarantine cls => quarantineCmd env (dropHead t) x cls
  | .hold cls => holdCmd env (dropHead t) x cls
  | .issue next cost => issueCmd env (dropHead t) x next cost
  | .fenced => tsIdle t
  | .waits => tsIdle t

/-- Act on the decision on a held command that is due (R218): one held again keeps its place. -/
def applyHeld (env : TsEnv) (t : Turnstile) (h : HeldCmd) : TsOut :=
  match decideCmd env t h.cmd with
  | .deny reason logged cls => denyCmd env (unhold h t) h.cmd reason logged cls
  | .quarantine cls => quarantineCmd env (unhold h t) h.cmd cls
  | .hold cls => tsIdle { t with held := t.held.map (fun x => if x == h then { h with due := false, cls := cls } else x) }
  | .issue next cost => issueCmd env (unhold h t) h.cmd next cost
  | .fenced => tsIdle t
  | .waits => tsIdle t

/-- TURNSTILE_DECIDE on the turnstile (R210, R214): the next command is decided under the leaf of its tag, after the
curve of a newer leaf is bound (R225). -/
def decideNext (env : TsEnv) (t : Turnstile) : TsOut :=
  let b := bindCurve env t
  match nextCmd t with
  | .none => tsIdle t
  | .waiting c =>
    let r := applyWaiting env b.1 c
    { r with events := b.2 ++ r.events }
  | .held h =>
    let r := applyHeld env b.1 h
    { r with events := b.2 ++ r.events }

/-- The command that a fence holds before issue (R155), with the later members of its group, which wait with it. -/
def fencedCmds (env : TsEnv) (t : Turnstile) : List FlashCmd :=
  match nextCmd t with
  | .none => []
  | .waiting c => if decideCmd env t c = .fenced then (t.waiting ++ t.back).filter (fun x => x.group == c.group) else []
  | .held h => if decideCmd env t h.cmd = .fenced then h.cmd :: h.rest else []

/-- The fence releases what it holds (R155): those commands are tagged now. -/
def retag (cs : List FlashCmd) (tag : Bool) (t : Turnstile) : Turnstile :=
  let g := fun (c : FlashCmd) => if cs.contains c then { c with tag := some tag } else c
  { t with
    waiting := t.waiting.map g, back := t.back.map g
    held := t.held.map (fun h => { h with cmd := g h.cmd, rest := h.rest.map g }) }

/-- HOLD_LIMIT_EXPIRY on the turnstile (R218): the `i`-th held command is denied with reason 7, under the class it was held
with, and event 0x0704; the later bursts of its member are withdrawn with it. -/
def expireHold (env : TsEnv) (t : Turnstile) (i ticks : Nat) : TsOut :=
  match t.held[i]? with
  | none => tsIdle t
  | some h =>
    { ts := recordDeny env { t with held := t.held.erase h } h.cmd 7 true h.cls
      done := (h.cmd :: h.rest).map (fun c => ⟨c, 7, 0, []⟩)
      events := [(0x0704, 3, [env.f, h.cmd.aid, h.cmd.op, ticks, env.epoch])], quarantine := none }

/-- The commands of an issuer are withdrawn with a reason, waiting and held (R219, R230). Only a decision is a denial: the
turnstile's registers stay as they were (DESIGN CHOICE, notes/assumptions/119.md). -/
def withdrawIf (p : FlashCmd → Bool) (reason : Nat) (t : Turnstile) : Turnstile × List Completion :=
  (dropCmds p { t with held := t.held.filter (fun h => !p h.cmd) },
   ((t.held.flatMap (fun h => h.cmd :: h.rest)).filter p ++ waitingCmds p t).map (fun c => ⟨c, reason, 0, []⟩))

/-- RATE_CREDIT_REFILL at a tick of 1/1,024 s (R224). -/
def refillCredit (t : Turnstile) : Turnstile :=
  match t.curve with
  | none => t
  | some c =>
    let b := (segmentOf c t.wear).2
    { t with credit := min (t.credit + b) (3686400 * b) }

/-- The credit at its cap (R225). -/
def creditCap (L : Leaf) (f : Nat) (wear : Nat) : Nat :=
  match boundCurve L f with
  | none => 0
  | some c => 3686400 * (segmentOf c wear).2

/-- The turnstile of a device at the initial couch (R213, R225): the curve bound, its segment, the credit at the cap. -/
def initialTs (L : Leaf) (f epoch state : Nat) (t : Turnstile) : Turnstile :=
  { t with
    state := state, credit := creditCap L f t.wear, curve := boundCurve L f, boundEpoch := epoch
    segment := ((boundCurve L f).map (fun c => (segmentOf c t.wear).1)).getD 0 }

/-- InitialState of a device (R213). -/
def initialState (L : Leaf) (f : Nat) : Nat := ((flashOf L f).map (·.initialState)).getD 0

/-- What a turnstile keeps of commands, each with its class: a held command was classified, any other was not. -/
def keptCmds (t : Turnstile) : List (FlashCmd × Nat) :=
  t.held.flatMap (fun h => (h.cmd, h.cls) :: h.rest.map (fun c => (c, 0x3F))) ++ (t.waiting ++ t.back).map (fun c => (c, 0x3F))

/-- The end of a turnstile restart (R229): leaves reloaded, state, credit and queues; every held and queued command
denied with reason 11, and shown as denied. -/
def restartTurnstile (env : TsEnv) (t : Turnstile) : TsOut :=
  let cmds := (keptCmds t).map (·.1)
  let t1 := (keptCmds t).foldl (fun acc c => recordDeny env acc c.1 11 false c.2) t
  let c := boundCurve env.leaf env.f
  { ts := { t1 with state := initialState env.leaf env.f, credit := 0, held := [], waiting := [], back := [], openGroup := none
                    restarting := false, curve := c, boundEpoch := env.epoch
                    segment := (c.map (fun x => (segmentOf x t.wear).1)).getD 0 }
    done := cmds.map (fun c => ⟨c, 11, 0, []⟩)
    events := [(0x0707, 4, [env.f, cmds.length, 0, 0, env.epoch])]
    quarantine := none }

/-- GF_TSn_WEAR_LO (R225): the whole count from the written value and the staged high half; the segment follows
(R223). -/
def setWear (f epoch : Nat) (lo : Word) (t : Turnstile) : Turnstile × List (Nat × Nat × List Nat) :=
  followSegment f epoch { t with wear := t.wearHi.toNat * 2 ^ 32 + lo.toNat }

end Sys2Proof.Machine
end

