-- ==== Sys2Proof/Machine/Serving.lean ====
section
/-! DEFINITION. Device conditions, gates, boot domains and the serving engine's own steps
(spec/08_serving_gates_and_spares.md, R232–R254, R257–R260). The commands are in Machine/ServingCmds.lean. -/

namespace Sys2Proof.Machine

open Sys2Proof

/-! ### Conditions and substitution (R257, R259) -/

/-- The Spare of a Primary (R113). -/
def spareOf (L : Leaf) (f : Nat) : Option Nat := (L.flashes.find? (fun r => r.role == 2 && r.spareFor == f)).map (·.f)

/-- The partner of a device: a Primary's Spare, a Spare's Primary, 0xFF for none (event 0x0820). -/
def partnerOf (L : Leaf) (f : Nat) : Nat :=
  match flashOf L f with
  | some r => if r.role = 2 then r.spareFor else (spareOf L f).getD 0xFF
  | none => 0xFF

/-- A condition changes, with event 0x0820 (R257, R266). -/
def setCond (f c : Nat) (d : Device) : Device :=
  let old := (healthAt d f).cond
  if old = c then d
  else event 0x0820 2 [f, old, c, partnerOf (curLeaf d) f] (modHealth f (fun h => { h with cond := c }) d)

/-- The condition of a device that has none, as its record and the retirement list give it (R257, R151, R260): assignment
is no change of condition and records no event. -/
def takeCond (f : Nat) (r : FlashRec) (d : Device) : Device :=
  if (healthAt d f).cond = 0 then
    modHealth f (fun h => { h with
      cond := if r.role = 3 then 9 else if d.tx.retired.contains f then 7 else if r.role = 2 then 2 else 1 }) d
  else d

/-- The device that answers for `f`: where it is retired in hardware, its Spare that is not itself retired (R259). -/
def redirect (d : Device) (f : Nat) : Nat :=
  match spareOf (curLeaf d) f with
  | some s => if hwRetired d f && !hwRetired d s then s else f
  | none => f

/-- The device whose turnstile gets a command addressed to `f`: a device in Probation decides the commands of harts and
of a resync itself (R263). -/
def targetOf (d : Device) (f : Nat) (c : FlashCmd) : Nat :=
  match c.issuer with
  | .hart _ _ => if inProbation d f then f else redirect d f
  | .mirror _ => f
  | .resync _ => f
  | _ => redirect d f

/-- RSTk# may be high (R54): assigned, not Fenced, not retired; or in Probation. -/
def rstAllowed (L : Leaf) (retired : List Nat) (f : Nat) : Bool :=
  match flashOf L f with
  | some r => r.role != 3 && !retired.contains f
  | none => false

/-! ### Commands into the fabric -/

/-- Every held command of a device is due again (R218). -/
def retryHolds (f : Nat) (d : Device) : Device := modTs f holdsDue d

/-- Four address bytes on a device (R192, R193): mode 4, or the bus record's AddrBytes, or what governs under SfdpPolicy
0. -/
def fourBytes (d : Device) (L : Leaf) (f : Nat) : Bool :=
  match busOf L (f / 4) with
  | some b =>
    b.mode == 4 || (match (devAt d f).sfdpGoverns, (devAt d f).sfdp with
      | true, some s => s.addrBytes == 4
      | _, _ => b.addrBytes == 4)
  | none => false

/-- The read opcode of a bus mode, with 3- or 4-byte addresses (R193; notes/assumptions/37.md). -/
def readOpcode (d : Device) (L : Leaf) (f : Nat) : Nat :=
  let four := fourBytes d L f
  match ((busOf L (f / 4)).map (·.mode)).getD 0 with
  | 0 => if four then 0x0C else 0x0B
  | 1 => if four then 0x6C else 0x6B
  | 2 => if four then 0xEC else 0xEB
  | 3 => if four then 0xEC else 0xEB
  | _ => 0xEE

/-- The erase opcode for a block size, with 3- or 4-byte addresses (R193; notes/assumptions/37.md). -/
def eraseOpcode (four : Bool) (block : Nat) : Nat :=
  if block = 4096 then (if four then 0x21 else 0x20) else if block = 32768 then (if four then 0x5C else 0x52)
  else (if four then 0xDC else 0xD8)

/-- A device's discovered erase opcode for a block size (R192). -/
def sfdpErase (s : SfdpData) (block : Nat) : Nat :=
  if block = 4096 then s.eraseOps.1 else if block = 32768 then s.eraseOps.2.1 else s.eraseOps.2.2

/-- The opcode that the controller of a device chooses (R192, R193). -/
def chosenOpcode (d : Device) (L : Leaf) (f : Nat) (c : OpChoice) (given : Nat) : Nat :=
  match c with
  | .given => given
  | .read => readOpcode d L f
  | .program => if fourBytes d L f then 0x12 else 0x02
  | .erase n =>
    match (devAt d f).sfdpGoverns, (devAt d f).sfdp with
    | true, some s => sfdpErase s n
    | _, _ => eraseOpcode (fourBytes d L f) n

/-- The page size that governs the controller's programs of a device (R192). -/
def pageOf (d : Device) (r : FlashRec) : Nat :=
  match (devAt d r.f).sfdpGoverns, (devAt d r.f).sfdp with
  | true, some s => s.pageSize
  | _, _ => r.pageSize

/-- The leaf that a command's tag selects (R22); a command not yet tagged goes by the present one. -/
def cmdLeaf (d : Device) (c : FlashCmd) : Leaf :=
  match c.tag with
  | some t => leafBy d t
  | none => curLeaf d

/-- A command reaches the turnstile of its device, or of the Spare that answers for it, with the opcode chosen for the
device that receives it (R205, R259). -/
def enqueueCmd (f : Nat) (c : FlashCmd) (d : Device) : Device :=
  let g := targetOf d f c
  modTs g (sendCmd { c with op := chosenOpcode d (cmdLeaf d c) g c.choice c.op }) d

/-- A fresh group number. -/
def newGroup (d : Device) : Nat := d.gf.nextGroup
/-- A group number is used. -/
def usedGroup (d : Device) : Device := { d with gf := { d.gf with nextGroup := d.gf.nextGroup + 1 } }

/-! ### Parts of the image store -/

/-- Units of 4 KiB that hold `n` bytes. -/
def unitsOf (n : Nat) : Nat := ceilDiv n 4096

/-- Address of byte `off` of a served image's partition (R232). -/
def imgAddr (i : ServeImage) (off : Nat) : Nat := storeBase + i.base * 65536 + off

/-- A served image of a domain changed. -/
def modImage (bd i : Nat) (f : ServeImage → ServeImage) (d : Device) : Device :=
  modBd bd (fun b => { b with images := b.images.modify i f }) d

/-- Whether a domain is being loaded or run. -/
def bdServing (b : BootDomain) : Bool := b.state == .loading || b.state == .running

/-- Tag entries of a domain's Streamed images (R242). -/
def tagUnits (b : BootDomain) : Nat :=
  (b.images.filter (fun i => i.imgRec.serveMode == 2)).foldl (fun n i => n + unitsOf i.imgRec.length) 0

/-! ### Gates (R248–R254) -/

/-- The gate records of a domain, by Order. -/
def gatesOf (L : Leaf) (bd : Nat) : List GateRec :=
  let gs := L.gates.filter (fun g => g.bd == bd)
  (List.range 256).filterMap (fun o => gs.find? (fun g => g.order == o))

/-- The gates of a domain in the Order of its last release that are still bound to it (R250). -/
def orderedGates (d : Device) (bd : Nat) : List Nat :=
  (domain d bd).gateOrder.filter (fun g => (curLeaf d).gates.any (fun r => r.gate == g && r.bd == bd))

/-- The gates of a domain that are released now, as a bitmap. -/
def releasedGates (d : Device) (bd : Nat) : Nat :=
  (orderedGates d bd).foldl (fun m g => if hasBit d.is_.gates g then setBit m g else m) 0

/-- A gate's output. -/
def setGate (g : Nat) (on : Bool) (d : Device) : Device :=
  { d with is_ := { d.is_ with gates := if on then setBit d.is_.gates g else clrBit d.is_.gates g } }

/-- Every gate held at once (R251). -/
def holdAllGates (d : Device) : Device :=
  { d with is_ := { d.is_ with gates := 0, bds := d.is_.bds.map (fun b => { b with releasing := none, holding := none }) } }

/-- A domain's serve locks are cleared, and held commands are due (R252, R218). -/
def clearLocks (bd : Nat) (d : Device) : Device :=
  { d with gf := { d.gf with ts := d.gf.ts.map (fun t =>
      if t.locks.any (fun l => l.bd == bd) then holdsDue { t with locks := t.locks.filter (fun l => l.bd != bd) } else t) } }

/-- A domain's tag entries and serve locks are freed (R252). -/
def freeTags (bd : Nat) (d : Device) : Device :=
  let n := if (domain d bd).tagsHeld then tagUnits (domain d bd) else 0
  let d1 := clearLocks bd (modBd bd (fun b =>
    { b with tagsHeld := false, images := b.images.map (fun i => { i with tags := [] }) }) d)
  { d1 with is_ := { d1.is_ with tagFree := d1.is_.tagFree + n } }

/-- A domain's contexts and compare entries are freed (R243). -/
def freeServing (bd : Nat) (d : Device) : Device :=
  modBd bd (fun b => { b with images := b.images.map (fun i => { i with ctx := 4096, cmp := 256 }) })
    { d with dg := (domain d bd).images.foldl (fun dg i => freeContext i.ctx dg) d.dg }

/-- The last gate of a domain is out (R248, R252, R266): event 0x0805, locks and tag entries freed. -/
def releaseDone (bd : Nat) (d : Device) : Device :=
  event 0x0805 1 [bd, (domain d bd).slot, releasedGates d bd, 0] (freeTags bd (modBd bd (fun b => { b with releasing := none }) d))

/-- Hart 1 computes the rung token of a domain once, from the rung handed to it (R474); it knows its DeviceID public key from
its certificates. -/
def rungTokenSet (bd : Nat) (d : Device) : Device :=
  let keep := d.att.rungTokens.filter (fun t => t.1 != bd)
  match slotOf d.kv (0x40 + bd) with
  | none => { d with att := { d.att with rungTokens := keep } }
  | some s =>
    if d.att.deviceId.isEmpty || !s.valid || s.owner != 0x11 then { d with att := { d.att with rungTokens := keep } }
    else { d with att := { d.att with rungTokens := keep ++
      [(bd, kmac256 s.value (shake256 d.att.deviceId 64) 32 (ascii "BX6440 BD TOKEN"))] } }

/-- The ladder rung of a Passed domain in vault slot 0x40 + n, at its manifest's SecurityVersion, with hart 1 (R390, R474):
hart 2 transfers the rung that it holds there, or firmware derives it; none without a root, under a debug level that locks the
vault, or where the slot holds something else (notes/assumptions/113.md). -/
def takeRung (bd : Nat) (d : Device) : Device :=
  match (domain d bd).manifest with
  | none => d
  | some m =>
    if !attached d || !rootValid d.kv d.bat || d.db.vaultLocked then d
    else match slotOf d.kv (0x40 + bd) with
      | some s =>
        if s.valid && s.ladder && s.cls == 0x0110 + bd && s.owner == 0x12 then { d with kv := setSlot d.kv { s with owner := 0x11 } } else d
      | none =>
        let s : VaultSlot :=
          { no := 0x40 + bd, valid := true, owner := 0x11, rights := 3, ladder := true, cls := 0x0110 + bd, version := m.version
            value := ladderRung (activeRoot d.kv d.bat) (0x0110 + bd) m.version }
        { d with kv := setSlot d.kv s }

/-- A domain reaches Passed: its rung goes to hart 1, which computes the token (R474). -/
def domainRung (bd : Nat) (d : Device) : Device := rungTokenSet bd (takeRung bd d)

/-- The rung's slot is cleared as its domain returns to reset (R390). -/
def clearRung (bd : Nat) (d : Device) : Device :=
  if (slotOf d.kv (0x40 + bd)).any (fun s => s.ladder && s.cls == 0x0110 + bd) then { d with kv := dropSlot d.kv (0x40 + bd) } else d

/-- Whether Tamper-Response holds a domain's gates (R248, R342). -/
def tamperHolds (d : Device) (bd : Nat) : Bool :=
  tamperResponse d && !((bdOf (curLeaf d) bd).any (·.tamperBoot))

/-- GATE_RELEASE (R248): a Verified domain with its sheet recorded releases its gate of Order 0 and enters Passed; with
fences armed the release waits (R249). The Order that this release and the next hold go by is taken now (R250). -/
def gateRelease (bd : Nat) (d : Device) : Device :=
  if (domain d bd).state != .verified || !hasBit d.lg.recorded bd || d.tx.fenceArmed || tamperHolds d bd then d
  else
    let gs := (gatesOf (curLeaf d) bd).map (·.gate)
    let d1 := domainRung bd (freeServing bd (modBd bd (fun b => { b with state := .passed, seqRunning := false, gateOrder := gs }) d))
    match gs with
    | [] => releaseDone bd d1
    | g :: tl =>
      let d2 := setGate g true d1
      match tl with
      | [] => releaseDone bd d2
      | _ => modBd bd (fun b => { b with releasing := some 1 }) d2

/-- Releases that waited for the fences (R249). -/
def releasePending (d : Device) : Device := (List.range 16).foldl (fun acc bd => gateRelease bd acc) d

/-- The Delay of the waiting gate has passed (R248): it is released, and the next waits its own Delay. -/
def gateDelay (bd : Nat) (d : Device) : Device :=
  match (domain d bd).releasing with
  | none => d
  | some k =>
    if d.tx.fenceArmed || tamperHolds d bd then d
    else
      match (domain d bd).gateOrder[k]? with
      | none => releaseDone bd d
      | some g =>
        let d1 := if (orderedGates d bd).contains g then setGate g true d else d
        if k + 1 < (domain d bd).gateOrder.length then modBd bd (fun b => { b with releasing := some (k + 1) }) d1
        else releaseDone bd d1

/-- Gates of a domain held in descending Order (R251): the highest released one at once, the next after its delay. -/
def holdGates (bd : Nat) (d : Device) : Device :=
  match ((orderedGates d bd).filter (hasBit d.is_.gates)).reverse with
  | [] => modBd bd (fun b => { b with holding := none }) d
  | g :: tl => modBd bd (fun b => { b with holding := tl.head?.map (fun h => (domain d bd).gateOrder.idxOf h) }) (setGate g false d)

/-! ### Return to reset and failure (R238, R246) -/

/-- A wait of the domain's port ends (R176): a mode 4 read goes on with 0xFF, a deferred request completes
unsuccessfully. -/
def endPortWait (p : Nat) (d : Device) : Device :=
  modPort p (fun u =>
    { u with
      read := u.read.map (fun r => { r with failed := true })
      deferred := u.deferred.map (fun q => if q.completion.isSome || q.kind != 0 then q else { q with completion := some (false, []) }) }) d

/-- Return to reset (R238, R251, R252, R362, R390, R404), into Held. -/
def returnToReset (bd : Nat) (d : Device) : Device :=
  let d1 := holdGates bd d
  let d2 := match bdOf (curLeaf d) bd with
    | some r => if r.port = 0xFF then d1 else endPortWait r.port d1
    | none => d1
  let d2a := { d2 with lg := { d2.lg with recorded := clrBit d2.lg.recorded bd, contNext := vmod d2.lg.contNext bd (fun _ => 0) } }
  let d3 := clearRung bd (clearWmk (8 + bd) (freeServing bd (freeTags bd d2a)))
  modBd bd (fun b =>
    { b with
      state := .held, images := [], manifest := none, runPoint := false, runOut := false, releasing := none
      fetchAhead := false, streamed := false, imagesVerified := 0, imagesTotal := 0, waitRecorded := false
      seqRunning := false, attempt := none, restart := true }) d3

/-- A domain's Golden locator is present (R115). -/
def hasGolden (d : Device) (bd : Nat) : Bool := (bdOf (curLeaf d) bd).any (fun r => locPresent r.golden)

/-- A slot has failed (R246, R393): event 0x0804, then Golden with 0x0806, or Stopped with 0x0807. `img` is the image's
record index, or 0xFF. -/
def slotFailed (bd img cause : Nat) (d : Device) : Device :=
  let b := domain d bd
  let d1 := event 0x0804 4 [bd, b.slot, img, cause] d
  let tot := b.imagesTotal
  let d2 := modBd bd (fun x =>
    { x with
      failCount := satAdd 4 x.failCount 1, lastCause := cause, failedSlots := setBit x.failedSlots b.slot
      slot := b.slot, imagesTotal := tot }) (returnToReset bd d1)
  if b.slot ≠ 2 ∧ hasGolden d bd = true then
    event 0x0806 4 [bd, b.slot, cause, 0] (modBd bd (fun x => { x with seqRunning := true }) d2)
  else event 0x0807 5 [bd, b.slot, cause, 0] (modBd bd (fun x => { x with state := .stopped, restart := false }) d2)

/-- An image fails (R246); the domain must be being served. -/
def imageFailed (bd i cause : Nat) (d : Device) : Device :=
  if bdServing (domain d bd) then slotFailed bd (((domain d bd).images[i]?).elim 0xFF (·.recIdx)) cause d else d

/-- A return to reset that counts as no failure (R392): causes 8 and 9 start a new sequence. -/
def freshSequence (bd reason : Nat) (d : Device) : Device :=
  modBd bd (fun b =>
    { b with
      failCount := 0, lastCause := 0, goldenUsed := false, failedSlots := 0, reason := reason, restart := true
      depRecorded := false, structChanged := false })
    (returnToReset bd d)

/-! ### Serving (R240–R245) -/

/-- The serving bursts that a domain's images would read next, as (priority, image record index, domain, image) (R240). -/
def servingChoices (d : Device) (bus : Nat) : List (Nat × Nat × Nat × Nat) :=
  (List.range 16).flatMap fun bd =>
    let b := domain d bd
    if !bdServing b then []
    else b.images.zipIdx.filterMap fun p =>
      let i := p.1
      if i.burst.isSome || i.closed || decide (unitsOf i.imgRec.length ≤ i.units) || redirect d i.imgRec.sourceFlash / 4 != bus then none
      else
        let pr := if i.imgRec.serveMode = 1 then (if i.units < 16 then 2 else 3) else if i.imgRec.serveMode = 0 then 4 else 5
        some (pr, i.recIdx, bd, p.2)

/-- A command of the serving engine's load or background pass. -/
def isServing (c : FlashCmd) : Bool :=
  match c.issuer with
  | .serving _ _ => true
  | _ => false

/-- A demand read of a Streamed image (R244). -/
def isDemand (c : FlashCmd) : Bool :=
  match c.issuer with
  | .portRead _ _ => c.aid == 0x12
  | _ => false

/-- A serving burst is on its way on a bus: it waits, is held, or is on the bus; or a demand read goes first (R240). -/
def servingBusy (d : Device) (bus : Nat) : Bool :=
  (List.range 4).any fun k =>
    let t := tsAt d (4 * bus + k)
    (t.waiting ++ t.back ++ t.held.map (·.cmd) ++ t.current.toList).any isServing ||
      (t.waiting ++ t.back ++ t.current.toList).any isDemand

/-- The next serving burst of a bus is issued (R240, R241): AID 0x12, the tag of the present epoch. -/
def issueServing (bus : Nat) (d : Device) : Device :=
  if servingBusy d bus then d
  else
    let best := (servingChoices d bus).foldl (fun acc c =>
      match acc with
      | none => some c
      | some b => if c.1 < b.1 || (c.1 == b.1 && decide (c.2.1 < b.2.1)) then some c else some b) none
    match best with
    | none => d
    | some (_, _, bd, i) =>
      match (domain d bd).images[i]? with
      | none => d
      | some im =>
        let off := im.units * 4096
        let c : FlashCmd :=
          { op := 0, choice := .read, addr := im.imgRec.sourceOffset + off
            len := min 4096 (im.imgRec.length - off), data := [], issuer := .serving bd i, aid := 0x12
            tag := some (curTag d), group := newGroup d, member := 0 }
        enqueueCmd im.imgRec.sourceFlash c (modImage bd i (fun x => { x with burst := some (newGroup d) }) (usedGroup d))

/-- Every bus issues its next serving burst. -/
def issueAll (d : Device) : Device := (List.range 16).foldl (fun acc b => issueServing b acc) d

/-- RUN_POINT (R245): the domain enters Running with event 0x0802 once the first 64 KiB of each Fetch-ahead image is
resident; a domain of Cached images alone has none. -/
def runPointCheck (bd : Nat) (d : Device) : Device :=
  let b := domain d bd
  if b.state != .loading || !(b.fetchAhead || b.streamed) then d
  else if b.images.all (fun i => i.imgRec.serveMode != 1 || decide (min 16 (unitsOf i.imgRec.length) ≤ i.units)) then
    event 0x0802 1 [bd, b.slot, 0, 0]
      (modBd bd (fun x => { x with state := .running, runPoint := true, runOut := true }) d)
  else d

/-- The verdict block of extend E4 (R388). -/
def verdictBlock (d : Device) (bd : Nat) : List Byte :=
  ([bd, (domain d bd).slot, 1, (domain d bd).images.length, 0, 0, 0, 0].map (fun v => (BitVec.ofNat 8 v : Byte))) ++ leBytes 4 d.tx.epoch

/-- Every image of the served slot is verified (R237): Verified, event 0x0803, without a run point the run-point output
(R254), and hart 2's extend E4 (R387 step 10, R388). -/
def verifiedCheck (bd : Nat) (d : Device) : Device :=
  let b := domain d bd
  if bdServing b && b.images.all (·.verified) && !b.images.isEmpty then
    event 0x0803 1 [bd, b.slot, b.images.length, b.images.foldl (fun n i => n + i.imgRec.length) 0]
      (modBd bd (fun x => { x with state := .verified, runOut := true })
        (if attached d then extendWmk (8 + bd) (verdictBlock d bd) d else d))
  else d

/-- What the compare unit says of a served image (R241, R246): none while undecided, 0 for a pass, else the cause. -/
def imageVerdict (d : Device) (i : ServeImage) : Option Nat :=
  match d.dg.cmps.find? (fun e => e.no == i.cmp && e.ctx == i.ctx) with
  | none => none
  | some e =>
    match e.result with
    | .pending => none
    | .pass => some 0
    | .fault => some 1
    | .mismatch =>
      match ctxOf d.dg i.ctx with
      | some c => some (if c.short then 2 else if c.trunc then 3 else 1)
      | none => some 1

/-- The verdict of one image is carried into its domain (R241, R242). -/
def serveVerdict (bd i : Nat) (d : Device) : Device :=
  if !bdServing (domain d bd) then d
  else match (domain d bd).images[i]? with
    | none => d
    | some im =>
      if im.verified then d
      else match imageVerdict d im with
        | none => d
        | some 0 =>
          if im.imgRec.serveMode = 2 ∧ im.closed = false then d
          else
            verifiedCheck bd (modBd bd (fun b => { b with imagesVerified := b.imagesVerified + 1 })
              (modImage bd i (fun x => { x with verified := true }) d))
        | some cause => imageFailed bd i cause d

/-- The verdicts of every served image. -/
def serveVerdicts (d : Device) : Device :=
  (List.range 16).foldl (fun acc bd =>
    (List.range (domain d bd).images.length).foldl (fun a i => serveVerdict bd i a) acc) d

/-! ### The digest engine in the device -/

/-- A key vault slot that receives a context's output (R328, R330): the slot is Reserved and has the owner's AID. -/
def installOutput (i : Option (Nat × List Byte × Nat × Option (Nat × Nat))) (d : Device) : Device :=
  match i with
  | none => d
  | some (slot, out, owner, rung) =>
    match slotOf d.kv slot with
    | some s =>
      if s.valid || s.owner != owner then d
      else
        let t := { s with valid := true, value := padTo 64 out, ladder := rung.isSome, cls := (rung.map (·.1)).getD 0, version := (rung.map (·.2)).getD 0 }
        { d with kv := setSlot d.kv t }
    | none => d

/-- What a step of the digest engine gives is carried out: events (parameter 4 the committed epoch), an output for the
vault, verdicts of served images. -/
def dgLift (r : DgOut) (d : Device) : Device :=
  serveVerdicts (installOutput r.install (events r.events { d with dg := r.dg }))

/-- A burst reaches the tap of a context (R281). -/
def burstToTap (c off : Nat) (data : List Byte) (d : Device) : Device :=
  match ctxOf d.dg c with
  | none => d
  | some x => dgLift (tapBurst d.tx.epoch off data x d.dg) d

/-- Data of a successful read of a device by AID 0x12 reaches the kind 2 taps on it, each with what lies in
[Start, Start + DeclaredLen) (R280). -/
def deviceTaps (f addr : Nat) (data : List Byte) (d : Device) : Device :=
  d.dg.ctxs.foldl (fun acc c => match c.tap with
      | some t =>
        let lo := max addr t.start
        let hi := min (addr + data.length) (t.start + c.declLen)
        if t.kind == 2 && t.dev == f && decide (lo < hi) then burstToTap c.no lo ((data.drop (lo - addr)).take (hi - lo)) acc else acc
      | none => acc) d

/-! ### Serving reads -/

/-- The unit tag of R244: over the unit's bytes within Length. -/
def unitTag (bs : List Byte) : Nat := leNat (shake256 bs 8)

/-- A reading of a unit of a Streamed image (R244): the first records its tag, a later one must agree; cause 5. -/
def checkTag (bd i u : Nat) (bs : List Byte) (d : Device) : Device :=
  match (domain d bd).images[i]? with
  | none => d
  | some im =>
    match im.tags.find? (fun t => t.1 == u) with
    | none => modImage bd i (fun x => { x with tags := x.tags ++ [(u, unitTag bs)] }) d
    | some t => if t.2 = unitTag bs then d else imageFailed bd i 5 d

/-- Words of the store rewritten by the serving engine are no longer poisoned (R236). -/
def unpoison (a n : Nat) (d : Device) : Device :=
  { d with is_ := { d.is_ with poisoned := d.is_.poisoned.filter (fun w => !overlaps (storeBase + 8 * w) 8 a n) } }

/-- Image bytes written to the store (R232). -/
def storeImage (a : Nat) (bs : List Byte) (d : Device) : Device := unpoison a bs.length (store a bs d)

/-- A serving burst arrives (R240, R241): into the store and past the tap, or past the tap with its unit tag; a failed
one is retried once, the second failure is cause 4. A burst of an earlier serving is discarded (R238). -/
def servingRead (bd i group : Nat) (ok : Bool) (data : List Byte) (d : Device) : Device :=
  match (domain d bd).images[i]? with
  | none => d
  | some im =>
    if im.burst != some group || !bdServing (domain d bd) then d
    else
      let d0 := modImage bd i (fun x => { x with burst := none }) d
      if !ok then
        if im.retried then imageFailed bd i 4 d0 else modImage bd i (fun x => { x with retried := true }) d0
      else
        let off := im.units * 4096
        let bs := data.take (min 4096 (im.imgRec.length - off))
        let d1 := modImage bd i (fun x => { x with units := x.units + 1, retried := false }) d0
        let d2 := if im.imgRec.serveMode = 2 then checkTag bd i im.units bs d1
          else storeImage (imgAddr im off) bs d1
        runPointCheck bd (burstToTap im.ctx off bs d2)

/-! ### Start of serving (R242, R243) -/

/-- Locks a device lacks for a domain's Streamed images: (device, needed, free) (R243). -/
def lockShort (d : Device) (b : BootDomain) : Option (Nat × Nat) :=
  let fs := (b.images.filter (fun i => i.imgRec.serveMode == 2)).map (fun i => redirect d i.imgRec.sourceFlash)
  (fs.find? (fun f => decide (8 - (tsAt d f).locks.length < (fs.filter (· == f)).length))).map
    (fun f => ((fs.filter (· == f)).length, 8 - (tsAt d f).locks.length))

/-- The resource a domain is short of, as (needed, free, resource) (R243, event 0x0808). -/
def resourceShort (d : Device) (b : BootDomain) : Option (Nat × Nat × Nat) :=
  let n := b.images.length
  if d.is_.tagFree < tagUnits b then some (tagUnits b, d.is_.tagFree, 1)
  else if 4096 - d.dg.ctxs.length < n then some (n, 4096 - d.dg.ctxs.length, 2)
  else if 256 - d.dg.cmps.length < n then some (n, 256 - d.dg.cmps.length, 3)
  else (lockShort d b).map (fun p => (p.1, p.2, 4))

/-- A context and a compare entry for an image (R241, R293), and for a Streamed one its serve lock (R226). -/
def takeImage (bd i : Nat) (d : Device) : Device :=
  match (domain d bd).images[i]?, freeCtx d.dg, freeCmp d.dg with
  | some im, some c, some e =>
    let cx : Context :=
      { no := c, owner := 0x12, state := .absorbing, cls := 0, keyMode := false, source := 1, domain := 0x1F, outLen := 64
        outDest := 2, suffix := [], declLen := im.imgRec.length, vaultSlot := 0, destSlot := 0
        tap := some { kind := 1, dev := im.imgRec.sourceFlash, start := 0, next := 0 }
        bound := some (1, im.imgRec.sourceFlash, 0, d.tx.epoch) }
    let ce : CmpEntry := { no := e, ctx := c, owner := 0x12, expected := im.digest, result := .pending }
    let d1 := { d with dg := { d.dg with ctxs := d.dg.ctxs ++ [cx], cmps := d.dg.cmps ++ [ce] } }
    let d2 := modImage bd i (fun x => { x with ctx := c, cmp := e }) d1
    if im.imgRec.serveMode = 2 then
      modTs (redirect d im.imgRec.sourceFlash) (fun t =>
        { t with locks := t.locks ++ [{ bd := bd, base := im.imgRec.sourceOffset / 4096, len := unitsOf im.imgRec.length }] }) d2
    else d2
  | _, _, _ => d

/-- The partition of an image is invalidated (R232): no unit is resident, and bytes at or beyond Length are rewritten with
zero. -/
def clearTail (im : ServeImage) (d : Device) : Device :=
  match partOf (curLeaf d) im.imgRec.partition with
  | some p =>
    let n := p.granuleCount * 65536 - im.imgRec.length
    unpoison (imgAddr im im.imgRec.length) n (fill (imgAddr im im.imgRec.length) n 0 d)
  | none => d

/-- Serving starts (R242): resources are taken, event 0x0801, Loading, and the first reads are issued. -/
def startLoading (bd : Nat) (d : Device) : Device :=
  let b := domain d bd
  let n := b.images.length
  let modes := b.images.foldl (fun m i => setBit m i.imgRec.serveMode) 0
  let d1 := (List.range n).foldl (fun acc i => takeImage bd i acc) d
  let d2 := b.images.foldl (fun acc i => clearTail i acc) { d1 with is_ := { d1.is_ with tagFree := d1.is_.tagFree - tagUnits b } }
  let d3 := modBd bd (fun x => { x with state := .loading, waitRecorded := false, tag := curTag d, tagsHeld := true }) d2
  issueAll (runPointCheck bd (event 0x0801 1 [bd, b.slot, modes, n] d3))

/-- AfterBd of a domain has passed (R391). -/
def afterPassed (d : Device) (bd : Nat) : Bool :=
  match bdOf (curLeaf d) bd with
  | some r => r.afterBd == 0xFF || (domain d r.afterBd).state == .passed
  | none => false

/-- A started domain is served or waits (R243, R387 step 8): event 0x0808 once per wait. -/
def tryServe (bd : Nat) (d : Device) : Device :=
  let d1 := modBd bd (fun b => { b with state := .waiting }) d
  if !afterPassed d bd || d.tx.fenceArmed then d1
  else match resourceShort d (domain d bd) with
    | none => startLoading bd d1
    | some (need, free_, res) =>
      if (domain d bd).waitRecorded then d1
      else event 0x0808 2 [bd, need, free_, res] (modBd bd (fun b => { b with waitRecorded := true }) d1)

end Sys2Proof.Machine
end

