-- ==== Sys2Proof/Machine/FlashPath.lean ====
section
/-! DEFINITION. The way of a flash command through turnstile, bus and back to its issuer (spec/07_turnstiles.md,
R205–R231; spec/06_boot_ports_and_flash_buses.md, R191–R202; spec/08, R255–R262). The commands are in
Machine/FlashCmds.lean. -/

namespace Sys2Proof.Machine

open Sys2Proof

/-! ### The flash command queue of a hart (R255, R256) -/

/-- The flash command queue of a hart. -/
def fqOf (d : Device) (h : Nat) : FlashQueue := vget d.is_.fq h
/-- The flash command queue of a hart changed. -/
def modFq (h : Nat) (f : FlashQueue → FlashQueue) (d : Device) : Device :=
  { d with is_ := { d.is_ with fq := vmod d.is_.fq h f } }

/-- IS_FQ_RESULT of a completed descriptor (R256). -/
def fqResultWord (e : FqEntry) : Word :=
  pack [(0, 16, e.desc.tag), (16, 4, e.reason), (20, 4, if e.reason = 0 then e.result else 0), (31, 1, 1)]

/-- Completed descriptors at the head go into the result queue of 16 entries, in order (R256). -/
def drainEntries : List FqEntry → List Word → List FqEntry × List Word
  | [], rs => ([], rs)
  | e :: tl, rs =>
    if e.left = 0 ∧ rs.length < 16 then drainEntries tl (rs ++ [fqResultWord e]) else (e :: tl, rs)

/-- The bytes of a completed descriptor with Snoop reach its kind 3 tap, in completion order (R280). -/
def snoopEntry (e : FqEntry) (d : Device) : Device :=
  if !e.desc.snoop then d
  else match ctxOf d.dg e.desc.ctx with
    | some c => match c.tap with
      | some t => if t.kind == 3 then burstToTap c.no t.next e.data d else d
      | none => d
    | none => d

/-- Completed descriptors of a hart leave the queue, in order (R256). -/
def drainHart (h : Nat) (d : Device) : Device :=
  let q := fqOf d h
  let r := drainEntries q.inFlight q.results
  (q.inFlight.take (q.inFlight.length - r.1.length)).foldl (fun acc e => snoopEntry e acc)
    (modFq h (fun q => { q with inFlight := r.1, results := r.2 }) d)

/-- Bytes pass in the data phase of a hart's command (R255): read data goes to Buffer as it arrives. -/
def hartPhase (h entry : Nat) (c : FlashCmd) (sent : Bool) (bs : List Byte) (d : Device) : Device :=
  match (fqOf d h).inFlight.find? (fun e => e.id == entry) with
  | none => d
  | some e =>
    let a := e.desc.buffer + (c.addr - e.desc.addr)
    modFq h (fun q => { q with inFlight := q.inFlight.map (fun x => if x.id == entry then { x with data := x.data ++ bs } else x) })
      (if !sent && inSram a bs.length then store a bs d else d)

/-- An answer to a hart's descriptor (R209, R256): the first failure is kept. -/
def fqAnswer (h entry : Nat) (c : Completion) (d : Device) : Device :=
  drainHart h (modFq h (fun q => { q with inFlight := q.inFlight.map (fun x =>
    if x.id != entry then x
    else if x.reason != 0 || x.result != 0 then { x with left := x.left - 1 }
    else { x with left := x.left - 1, reason := c.reason, result := c.result }) }) d)

/-! ### Answers to ports -/

/-- A Streamed image of a domain that a presented address lies in (R244). -/
def streamedAt (b : BootDomain) (addr : Nat) : Option (ServeImage × Nat) :=
  b.images.zipIdx.find? (fun p => p.1.imgRec.serveMode == 2 && decide (p.1.imgRec.presentOffset ≤ addr ∧
    addr < p.1.imgRec.presentOffset + p.1.imgRec.length))

/-- The boot domain that a port presents (R119). -/
def portBd (L : Leaf) (p : Nat) : Nat := ((portOf L p).map (·.bd)).getD 0
/-- Mode of a port (R119). -/
def portMode (L : Leaf) (p : Nat) : Nat := ((portOf L p).map (·.mode)).getD 0

/-- A piece of a presented read has come, or its burst failed: the burst's bytes are 0xFF in mode 4, the request is
unsuccessful in mode 5 (R176, R221). The burst of a read that has ended reaches no later one (R170, R187). -/
def portPiece (p at_ group len : Nat) (ok : Bool) (data : List Byte) (d : Device) : Device :=
  modPort p (fun u =>
    { u with read := u.read.map (fun r =>
        if r.asked.contains (at_, group) then
          { r with pieces := r.pieces ++ [(at_, if ok then data else List.replicate len 0xFF)]
                   failed := r.failed || (!ok && u.deferred.isSome) }
        else r) }) d

/-- A demand read of a unit of a Streamed image ends (R241, R244): its bytes within Length are delivered and its tag is
checked; a failed one is retried once, the second failure is cause 4. -/
def demandRead (f p at_ : Nat) (c : Completion) (d : Device) : Device :=
  let ok := c.reason == 0 && c.result == 0
  let bd := portBd (cmdLeaf d c.cmd) p
  let piece := portPiece p at_ c.cmd.group c.cmd.len
  match streamedAt (domain d bd) at_ with
  | none => piece false [] d
  | some (im, i) =>
    if ok then
      let bytes := c.data.take (im.imgRec.length - (at_ - im.imgRec.presentOffset))
      checkTag bd i ((at_ - im.imgRec.presentOffset) / 4096) bytes
        (modImage bd i (fun x => { x with lastRead := d.clock.opTime }) (piece true bytes d))
    else if c.cmd.member = 0 then enqueueCmd f { c.cmd with member := 1 } d
    else imageFailed bd i 4 (piece false [] d)

/-- Event 0x0726, once per kind and port reset interval; every later error is counted (R204), in a field of its own, as
GF_UPn_CNT has none for it (DESIGN CHOICE, notes/assumptions/117.md). -/
def portError (p kind op addr : Nat) (d : Device) : Device :=
  if hasBit (portAt d p).errKinds kind then modPort p (fun u => { u with laterErrors := u.laterErrors + 1 }) d
  else eventsRaw [(0x0726, 2, [p, kind, op, addr, 0])]
    (modPort p (fun u => { u with errKinds := setBit u.errKinds kind }) d)

/-- A forwarded program or erase ends (R177, R186, R221): WIP falls; a failure at the flash sets the error bit, a denial
also Protected. -/
def portWriteEnd (p : Nat) (isErase ok attempted : Bool) (d : Device) : Device :=
  modPort p (fun u =>
    { u with
      wip := false
      wel := if attempted then u.wel else false
      eraseError := u.eraseError || (!ok && isErase)
      programError := u.programError || (!ok && !isErase)
      protected_ := u.protected_ || !attempted
      deferred := u.deferred.map (fun q => if q.kind = 0 then q else { q with completion := some (ok, []) }) }) d

/-- The answer to a port's program or erase (R214, R221): one withdrawn behind a held write enable shows as discarded
(R181). -/
def portWriteAnswer (p : Nat) (c : Completion) (d : Device) : Device :=
  let withdrawn := c.reason == 0 && c.result == 7
  let d1 := portWriteEnd p (kindOf 2 c.cmd.op != .program) (c.reason == 0 && c.result == 0) (c.reason == 0 && c.result != 7) d
  let w := (portAt d p).wrote
  if withdrawn then portError p 5 w.1 w.2 (modPort p (fun u => { u with writeDiscarded := true }) d1) else d1

/-! ### Resync (R258, R264) -/

/-- The resync onto a device. -/
def resyncOf (d : Device) (f : Nat) : Option Resync := d.is_.resyncs.find? (fun r => r.target == f)

/-- A resync changed. -/
def modResync (f : Nat) (g : Resync → Resync) (d : Device) : Device :=
  { d with is_ := { d.is_ with resyncs := d.is_.resyncs.map (fun r => if r.target == f then g r else r) } }

/-- The resync onto a device ends; its digest contexts are freed. -/
def dropResync (f : Nat) (d : Device) : Device :=
  let d1 := { d with is_ := { d.is_ with resyncs := d.is_.resyncs.filter (fun r => r.target != f) } }
  match (resyncOf d f).bind (·.closing) with
  | some (a, b, _) => { d1 with dg := freeContext b (freeContext a d1.dg) }
  | none => d1

/-- Event 0x0823 and the condition Diverged; a resync onto the Spare ends (R258). -/
def mirrorFailed (spare primary code addr : Nat) (d : Device) : Device :=
  if (healthAt d spare).cond == 3 || (healthAt d spare).cond == 4 then
    event 0x0823 3 [spare, primary, code, addr] (setCond spare 5 (dropResync spare d))
  else d

/-- Units of 4 KiB of a device. -/
def unitCount (L : Leaf) (f : Nat) : Nat := ((flashOf L f).map (fun r => 2 ^ (r.sizeLog2 - 12))).getD 0

/-- The smallest erase block of a device (R113). -/
def eraseBlock (r : FlashRec) : Nat :=
  if r.eraseSizes.testBit 0 then 4096 else if r.eraseSizes.testBit 1 then 32768 else 65536

/-- A command of the resync onto `f`, from the mirror engine. -/
def resyncCmd (f : Nat) (choice : OpChoice) (addr len group member : Nat) (data : List Byte) : FlashCmd :=
  { op := 0x06, choice := choice, addr := addr, len := len, data := data, issuer := .resync f, aid := 0x12, tag := none, group := group, member := member }

/-- A group of the resync's writes reaches the target: write enable and the command. -/
def resyncGroup (f : Nat) (choice : OpChoice) (addr : Nat) (data : List Byte) (d : Device) : Device :=
  let g := newGroup d
  enqueueCmd f (resyncCmd f choice addr data.length g 1 data) (enqueueCmd f (resyncCmd f .given 0 0 g 0 []) (usedGroup d))

/-- A unit of a device is read for the resync onto `f`. -/
def resyncUnit (f dev unit : Nat) (d : Device) : Device :=
  enqueueCmd dev (resyncCmd f .read (4096 * unit) 4096 (newGroup d) 0 []) (usedGroup d)

/-- A digest context of the closing read: the whole device through a kind 2 tap, owned by AID 0x12 (R258, R268, R280). -/
def resyncContext (no dev size epoch : Nat) : Context :=
  { no := no, owner := 0x12, state := .absorbing, cls := 0, keyMode := false, source := 1, domain := 0x1F, outLen := 64
    outDest := 2, suffix := [], declLen := size, vaultSlot := 0, destSlot := 0
    tap := some { kind := 2, dev := dev, start := 0, next := 0 }, bound := some (2, dev, 0, epoch) }

/-- The copy is done (R258): both devices are read into two digest contexts, as soon as two are free. -/
def resyncClosing (f : Nat) (r : Resync) (d : Device) : Device :=
  match freeCtx d.dg with
  | none => d
  | some a =>
    let size := 4096 * unitCount (curLeaf d) f
    let g1 := { d.dg with ctxs := d.dg.ctxs ++ [resyncContext a r.source size d.tx.epoch] }
    match freeCtx g1 with
    | none => d
    | some b =>
      modResync f (fun x => { x with closing := some (a, b, 0) })
        (resyncUnit f r.source 0 { d with dg := { g1 with ctxs := g1.ctxs ++ [resyncContext b f size d.tx.epoch] } })

/-- The next read of a resync: the next unit of the source, or of both devices at its end. -/
def resyncRead (f : Nat) (d : Device) : Device :=
  match resyncOf d f with
  | none => d
  | some r =>
    let n := unitCount (curLeaf d) f
    match r.closing with
    | some (_, _, k) => if k < 2 * n then resyncUnit f (if k % 2 = 0 then r.source else f) (k / 2) d else d
    | none => if r.copied < n then modResync f (fun x => { x with left := none }) (resyncUnit f r.source r.copied d) else resyncClosing f r d

/-- A unit has been read: at the start of a block the target's block is erased, then its pages are programmed, each
behind a write enable (R258). -/
def resyncWrite (f : Nat) (data : List Byte) (r : Resync) (d : Device) : Device :=
  match flashOf (curLeaf d) f with
  | some fr =>
    let a := 4096 * r.copied
    let pg := pageOf d fr
    let er : List (OpChoice × Nat × List Byte) := if a % eraseBlock fr = 0 then [(.erase (eraseBlock fr), a, [])] else []
    let pr := (List.range (if pg = 0 then 0 else 4096 / pg)).map fun k =>
      (OpChoice.program, a + pg * k, (data.drop (pg * k)).take pg)
    (er ++ pr).foldl (fun acc g => resyncGroup f g.1 g.2.1 g.2.2 acc) (modResync f (fun x => { x with left := some (2 * (er ++ pr).length) }) d)
  | none => d

/-- A resync ends without success: a Spare is Diverged with event 0x0823, a device in Probation stays there. -/
def resyncFailed (f code addr : Nat) (d : Device) : Device :=
  match resyncOf d f with
  | none => d
  | some r => if r.probation then setCond f 8 (dropResync f d) else mirrorFailed f r.source code addr d

/-- An answer to a command of a resync: the unit's data is written, and its last write is followed by the next read. -/
def resyncAnswer (f : Nat) (c : Completion) (d : Device) : Device :=
  match resyncOf d f with
  | none => d
  | some r =>
    if c.reason != 0 || c.result != 0 then resyncFailed f (if c.reason = 0 then c.result else c.reason) c.cmd.addr d
    else match r.closing, r.left with
      | some (a, b, k), _ => resyncRead f (modResync f (fun x => { x with closing := some (a, b, k + 1) }) d)
      | none, none => resyncWrite f c.data r d
      | none, some n =>
        if n ≤ 1 then resyncRead f (modResync f (fun x => { x with copied := x.copied + 1, left := none }) d)
        else modResync f (fun x => { x with left := some (n - 1) }) d

/-! ### Manifest areas and bundles (R384, R387, R395) -/

/-- The largest manifest and key manifest that fit their fields (R378, R381): a longer TotalLength fails its check, and no
more is read. -/
def maxManifest : Nat := 5408 + 128 * 255
/-- The largest key manifest. -/
def maxKeyManifest : Nat := 5344 + 96 * 16

/-- KeyKind of the signature block of the manifest read. -/
def AreaRead.keyKind (r : AreaRead) : Nat := bufLe r.man (128 + 128 * bufLe r.man 0x13 1 + 4) 1

/-- The manifest has been read, as far as its header lets hart 2 read it. -/
def AreaRead.manRead (r : AreaRead) : Bool :=
  decide (128 ≤ r.man.length ∧ min (bufLe r.man 8 4) maxManifest ≤ r.man.length)

/-- What hart 2 reads next of an area (R384): whether of the key manifest, the area offset, and how many bytes. The header of
the manifest comes first, and nothing beyond the device is read. -/
def AreaRead.want (r : AreaRead) : Option (Bool × Nat × Nat) :=
  let total := bufLe r.man 8 4
  let ko := bufLe r.man 0x14 4
  let kt := bufLe r.keys 8 4
  if r.failed then none
  else if r.man.length < 128 then some (false, r.man.length, 128 - r.man.length)
  else if r.size < r.offset + total then none
  else if r.man.length < min total maxManifest then some (false, r.man.length, min total maxManifest - r.man.length)
  else if r.keyKind != 3 || ko % 4096 != 0 || decide (ko < alignUp 4096 total) || decide (r.size < r.offset + ko + 64) then none
  else if r.keys.length < 64 then some (true, ko + r.keys.length, 64 - r.keys.length)
  else if r.size < r.offset + ko + kt || min kt maxKeyManifest ≤ r.keys.length then none
  else some (true, ko + r.keys.length, min kt maxKeyManifest - r.keys.length)

/-- The next burst of an attempt's area is issued, with AID 0x12 (R209, R387 step 4). -/
def areaRead (bd : Nat) (d : Device) : Device :=
  match (domain d bd).attempt with
  | none => d
  | some r =>
    match r.burst, r.want with
    | none, some (_, off, n) =>
      let a := r.offset + off
      enqueueCmd r.flash
        { op := 0, choice := .read, addr := a, len := min n (4096 - a % 4096), data := [], issuer := .area bd, aid := 0x12
          tag := some (curTag d), group := newGroup d, member := 0 }
        (modBd bd (fun b => { b with attempt := some { r with burst := some (newGroup d) } }) (usedGroup d))
    | _, _ => d

/-- A burst of the area has been answered. -/
def AreaRead.took (r : AreaRead) (ok : Bool) (bs : List Byte) : AreaRead :=
  if !ok then { r with burst := none, failed := true }
  else match r.want with
    | some (true, _, _) => { r with burst := none, keys := r.keys ++ bs }
    | some (false, _, _) => { r with burst := none, man := r.man ++ bs }
    | none => { r with burst := none }

/-- An answer to a burst of an attempt's area; one of an attempt that has ended is dropped. -/
def areaAnswer (bd : Nat) (c : Completion) (d : Device) : Device :=
  match (domain d bd).attempt with
  | none => d
  | some r =>
    if r.burst != some c.cmd.group then d
    else areaRead bd (modBd bd (fun b =>
      { b with attempt := some (r.took (c.reason == 0 && c.result == 0) (c.data.take c.cmd.len)) }) d)

/-- A closing context has ended: its digest where it passes as one of the whole stream (R287). -/
def closingDigest (d : Device) (n : Nat) : Option (Option (List Byte)) :=
  match ctxOf d.dg n with
  | none => some none
  | some c =>
    if c.state = .closed then some (if c.trunc || c.short || c.gap then none else some c.output)
    else if c.state = .faulted then some none else none

/-- An install by its number. -/
def installOf (d : Device) (j : Nat) : Option Install := d.is_.installs.find? (fun i => i.job == j)
/-- An install changed. -/
def modInstall (j : Nat) (g : Install → Install) (d : Device) : Device :=
  { d with is_ := { d.is_ with installs := d.is_.installs.map (fun i => if i.job == j then g i else i) } }

/-- The digest context of an install is freed. -/
def freeInstallCtx (j : Nat) (d : Device) : Device :=
  match (installOf d j).bind (·.ctx) with
  | some n => modInstall j (fun i => { i with ctx := none }) { d with dg := freeContext n d.dg }
  | none => d

/-- An install ends with a code of event 0x0843; hart 2 takes it up at its next turn. -/
def installEnds (j code : Nat) (d : Device) : Device :=
  modInstall j (fun i => { i with steps := [], burst := none, code := some code }) (freeInstallCtx j d)

/-- A digest context of an install: a kind 2 tap on what is read, or a kind 3 tap on what data phases send (R280). -/
def installContext (no : Nat) (tap : Option (Nat × Nat)) (len epoch : Nat) : Context :=
  match tap with
  | some (f, a) => { resyncContext no f len epoch with tap := some { kind := 2, dev := f, start := a, next := a }, bound := some (2, f, a, epoch) }
  | none => { resyncContext no 0 len epoch with tap := some { kind := 3, dev := 0, start := 0, next := 0 }, bound := some (3, 0, 0, epoch) }

/-- A flash command of an install, with AID 0x12. -/
def installCmd (j : Nat) (choice : OpChoice) (addr len member : Nat) (data : List Byte) (d : Device) : FlashCmd :=
  { op := 0x06, choice := choice, addr := addr, len := len, data := data, issuer := .install j, aid := 0x12
    tag := some (curTag d), group := newGroup d, member := member }

/-- One step of an install, `tl` the steps after it: the device, and whether the next step follows at once, for what it waits
for is there: the flash, a free digest context, a digest (R395). -/
def installStep (j : Nat) (x : InstallStep) (tl : List InstallStep) (d : Device) : Device × Bool :=
  match x with
  | .digest tap len =>
    match freeCtx d.dg with
    | none => (modInstall j (fun i => { i with steps := x :: tl, burst := none }) d, false)
    | some n => (modInstall j (fun i => { i with ctx := some n })
        { d with dg := { d.dg with ctxs := d.dg.ctxs ++ [installContext n tap len d.tx.epoch] } }, true)
  | .compare g image =>
    match (((installOf d j).bind (·.ctx)).map (closingDigest d)).getD (some none) with
    | none => (modInstall j (fun i => { i with steps := x :: tl, burst := none }) d, false)
    | some y =>
      let d1 := modInstall j (fun i => { i with written := if image then i.written + 1 else i.written }) (freeInstallCtx j d)
      if y == some g then (d1, true) else (installEnds j 0x42 d1, false)
  | .write f choice addr data =>
    (enqueueCmd f (installCmd j choice addr data.length 1 data d) (enqueueCmd f (installCmd j .given 0 0 0 [] d)
      (modInstall j (fun i => { i with steps := tl, burst := some (newGroup d) }) (usedGroup d))), false)
  | .read f addr len =>
    (enqueueCmd f (installCmd j .read addr len 1 [] d)
      (modInstall j (fun i => { i with steps := tl, burst := some (newGroup d) }) (usedGroup d)), false)

/-- The steps of an install go on up to the next that waits; after the last the install ends with code 0. -/
def installRun (j : Nat) : List InstallStep → Device → Device
  | [], d => installEnds j 0 d
  | x :: tl, d => if (installStep j x tl d).2 then installRun j tl (installStep j x tl d).1 else (installStep j x tl d).1

/-- The data phase of an install's program reaches its kind 3 tap (R280, R395 step 2). -/
def installSnoop (i : Install) (c : FlashCmd) (d : Device) : Device :=
  match i.ctx.bind (ctxOf d.dg) with
  | some x => match x.tap with
    | some t => if t.kind == 3 && c.choice == .program then burstToTap x.no t.next c.data d else d
    | none => d
  | none => d

/-- An answer to a flash command of an install (R395): a failed write is code 0x41, a failed read-back 0x42. -/
def installAnswer (j : Nat) (c : Completion) (d : Device) : Device :=
  match installOf d j with
  | none => d
  | some i =>
    if i.burst != some c.cmd.group || i.code.isSome then d
    else if c.reason != 0 || c.result != 0 then installEnds j (if c.cmd.choice == .read then 0x42 else 0x41) d
    else if c.cmd.choice == .given then d
    else installRun j i.steps (installSnoop i c.cmd d)

/-- The next bursts after an image's serving read has ended: on the bus that carried it, and on the bus of the device that
answers for the image's source now (R240, R259). -/
def issueAfter (f bd i : Nat) (d : Device) : Device :=
  match (domain d bd).images[i]? with
  | some im => issueServing (redirect d im.imgRec.sourceFlash / 4) (issueServing (f / 4) d)
  | none => issueServing (f / 4) d

/-- An answer reaches its issuer (R221): `f` is the device that was asked. -/
def deliver (f : Nat) (c : Completion) (d : Device) : Device :=
  let ok := c.reason == 0 && c.result == 0
  match c.cmd.issuer with
  | .serving bd i => issueAfter f bd i (servingRead bd i c.cmd.group ok c.data d)
  | .mirror primary => if ok then d else mirrorFailed f primary (if c.reason = 0 then c.result else c.reason) c.cmd.addr d
  | .resync t => resyncAnswer t c d
  | .hart h e => fqAnswer h e c d
  | .portRead p at_ =>
    if c.cmd.aid = 0x12 then issueServing (f / 4) (demandRead f p at_ c d) else portPiece p at_ c.cmd.group c.cmd.len ok c.data d
  | .portWrite p => if c.cmd.op = 0x06 then d else portWriteAnswer p c d
  | .area bd => areaAnswer bd c d
  | .install j => installAnswer j c d

/-- Answers reach their issuers, in order. -/
def deliverAll (f : Nat) (cs : List Completion) (d : Device) : Device := cs.foldl (fun acc c => deliver f c acc) d

/-! ### Turnstile decisions -/

/-- StateCount of a device's state table in a leaf (R122). -/
def stateCount (L : Leaf) (f : Nat) : Option Nat :=
  ((flashOf L f).bind (fun r => stateTableOf L r.stateTable)).map (·.stateCount)

/-- The StateCount that a device gets by the couch in progress, where it is smaller (R155). -/
def fenceOf (d : Device) (f : Nat) : Option Nat :=
  if !d.tx.fenceArmed then none
  else
    match stateCount (resultLeaf d) f, stateCount (curLeaf d) f with
    | some n, some o => if n < o then some n else none
    | _, _ => none

/-- The StateCount that a command's transition may not reach (R155): the fence's; and for a command of the earlier tag the
committed leaf's (R228). -/
def fenceFor (d : Device) (f : Nat) (c : FlashCmd) : Option Nat :=
  match (if c.tag == some (!curTag d) then stateCount (curLeaf d) f else none), fenceOf d f with
  | some a, some b => some (min a b)
  | some a, none => some a
  | none, x => x

/-- Nothing can be put on the bus of a device now: another of its devices has it, or a restart holds it idle (R44,
R229). -/
def busTaken (d : Device) (f : Nat) : Bool :=
  (busAt d (f / 4)).restarting ||
    (List.range 4).any (fun k => let t := tsAt d (f / 4 * 4 + k); t.current.isSome || t.restarting)

/-- A device in Probation serves no image and no presentation window (R263). -/
def probationDenies (d : Device) (f : Nat) (c : FlashCmd) : Bool :=
  inProbation d f && (match c.issuer with
    | .serving _ _ => true
    | .portRead _ _ => true
    | .portWrite _ => true
    | _ => false)

/-- What a turnstile reads for a command (R210, R227): the leaf its tag selects, the epoch of that leaf. -/
def tsEnv (d : Device) (f : Nat) (c : FlashCmd) : TsEnv where
  f := f
  leaf := cmdLeaf d c
  retired := (healthAt d f).cond == 7 || probationDenies d f c
  quarantined := (issuerPort c).any (fun p => (portAt d p).quarantined)
  fence := fenceFor d f c
  busTaken := busTaken d f
  epoch := if c.tag == some (!curTag d) then d.tx.epoch - 1 else d.tx.epoch
  tag := curTag d
  now := d.clock.opTime

/-- What a turnstile reads for its restart: the committed leaf (R229). -/
def restartEnv (d : Device) (f : Nat) : TsEnv where
  f := f
  leaf := curLeaf d
  retired := false
  quarantined := false
  fence := none
  busTaken := false
  epoch := d.tx.epoch
  tag := curTag d
  now := d.clock.opTime

/-- The kind of a command under the leaf of its tag. -/
def cmdKind (d : Device) (f : Nat) (c : FlashCmd) : CmdKind :=
  match flashOf (cmdLeaf d c) f with
  | some r => kindOf (protoOf (cmdLeaf d c) r) c.op
  | none => kindOf 0 c.op

/-- A register write (R194; notes/assumptions/38.md): kind Other with a data phase sent to the device; the data of the four
read-only opcodes of R226 comes from it. -/
def isRegWrite (c : FlashCmd) : Bool := c.len != 0 && !([0x05, 0x70, 0x9F, 0x5A].contains c.op)

/-- The device polls as busy after a command (R194). -/
def makesBusy (k : CmdKind) (c : FlashCmd) : Bool :=
  match k with
  | .program => true
  | .erase _ => true
  | .chip => true
  | .other => isRegWrite c
  | _ => false

/-- A command's data phase is sent to the device. -/
def sendsData (k : CmdKind) (c : FlashCmd) : Bool :=
  match k with
  | .program => true
  | .other => isRegWrite c
  | _ => false

/-- Event 0x0723 once every device of a requalified bus has passed or failed (R201). -/
def requalReport (m : Nat) (d : Device) : Device :=
  let fs := (List.range 4).filter (fun k => rstAllowed (curLeaf d) d.tx.retired (4 * m + k) && !hwRetired d (4 * m + k))
  if (busAt d m).requalPending && !fs.any (fun k => (devAt d (4 * m + k)).discovering || (devAt d (4 * m + k)).pulsing) then
    let ok := bitmap 4 (fun k => fs.contains k && (devAt d (4 * m + k)).ready)
    let bad := bitmap 4 (fun k => fs.contains k && !(devAt d (4 * m + k)).ready)
    eventsRaw [(0x0723, 2, [m, ok, bad, d.tx.epoch, 0])] (modBus m (fun b => { b with requalPending := false }) d)
  else d

/-- A device is held in reset (R54). -/
def holdReset (f : Nat) (d : Device) : Device :=
  modDev f (fun v => { v with rstHigh := false, discovering := false, pulsing := false, ready := false, stuck := false }) d

/-- A device taken out of use is held in reset, which may end the discovery that a requalification waits for (R201). -/
def takeOut (f : Nat) (d : Device) : Device := requalReport (f / 4) (holdReset f d)

/-- RSTk# of a device may be high now (R54): assigned, not Fenced, not retired; or in Probation, or in the discovery that
opens it (R263). -/
def mayRun (d : Device) (f : Nat) : Bool :=
  (rstAllowed (curLeaf d) d.tx.retired f && (healthAt d f).cond != 7) || inProbation d f ||
    ((healthAt d f).cond == 7 && (devAt d f).discovering)

/-- Commands of the earlier tag are still on their way to a device (R54). -/
def oldTagWaits (d : Device) (f : Nat) : Bool :=
  let t := tsAt d f
  (t.waiting ++ t.back ++ t.held.flatMap (fun h => h.cmd :: h.rest)).any (fun c => c.tag == some (!curTag d))

/-- A device that a couch took out of use is held in reset once its last command under the earlier leaf has completed
(R54); on a quarantined bus RSTk# stays as it is (R200). -/
def settleReset (f : Nat) (d : Device) : Device :=
  let v := devAt d f
  if v.rstHigh && (tsAt d f).current.isNone && v.busy.isNone && !oldTagWaits d f && !mayRun d f &&
      !(busAt d (f / 4)).quarantined then takeOut f d else d

/-- A port's waiting and held commands at every turnstile are withdrawn with a reason (R219, R230). -/
def withdrawAll (p : FlashCmd → Bool) (reason : Nat) (d : Device) : Device :=
  (List.range 64).foldl (fun acc f =>
    let w := withdrawIf p reason (tsAt acc f)
    settleReset f (deliverAll f w.2 (modTs f (fun _ => w.1) acc))) d

/-- The data that a program or register write sends (R182, R255): a hart's is what stands in Buffer at the data phase;
with Buffer outside shared working SRAM it is free (notes/assumptions/43.md). -/
def dataPhase (d : Device) (k : CmdKind) (c : FlashCmd) : FlashCmd × Device :=
  match c.issuer with
  | .hart h e =>
    match (fqOf d h).inFlight.find? (fun x => x.id == e) with
    | some x =>
      if !sendsData k c then (c, d)
      else if inSram x.desc.buffer c.len then ({ c with data := memRead d.mem x.desc.buffer c.len }, d)
      else ({ c with data := freeBytes d c.len }, tookFree c.len d)
    | none => (c, d)
  | _ => (c, d)

/-- A command that has been issued to its bus (R200, R191): it fails at once on a quarantined bus, or where the device is
not in service; otherwise its bytes are on the bus: opcode, address with its most significant byte first, data (R6). -/
def onBus (f : Nat) (d : Device) : Device :=
  match (tsAt d f).current with
  | none => d
  | some c =>
    if (busAt d (f / 4)).quarantined then deliver f ⟨c, 0, 4, []⟩ (modTs f (fun t => { t with current := none }) d)
    else if !(devAt d f).ready then deliver f ⟨c, 0, 6, []⟩ (modTs f (fun t => { t with current := none }) d)
    else
      let r := dataPhase d (cmdKind d f c) c
      let x := r.1
      reply (leBytes 1 x.op ++ (leBytes 4 x.addr).reverse ++ x.data) (modTs f (fun t => { t with current := some x }) r.2)

/-- A denial under a port's quarantine is counted (event 0x0703): the command that triggers it, the members of its group
and every later command. What waited or was held when it began is withdrawn and not counted (DESIGN CHOICE,
notes/assumptions/119.md). -/
def countQuarantined (c : Completion) (d : Device) : Device :=
  match issuerPort c.cmd with
  | some p => if c.reason = 8 then modPort p (fun u => { u with quarDenied := u.quarDenied + 1 }) d else d
  | none => d

/-- A turnstile's step is carried out: its state, events, answers, and a port it quarantines (R219). -/
def finishTs (f : Nat) (r : TsOut) (d : Device) : Device :=
  let d1 := eventsRaw r.events (modTs f (fun _ => r.ts) d)
  let d2 := deliverAll f r.done (r.done.foldl (fun acc c => countQuarantined c acc) d1)
  match r.quarantine with
  | none => settleReset f d2
  | some p =>
    settleReset f (withdrawAll (fun c => issuerPort c == some p) 8 (modPort p (fun u => { u with quarantined := true }) d2))

/-- A device for which no command is decided now (R214, R195): busy, resetting or in discovery, its turnstile restarting
or a command of it on the bus. On a quarantined bus every command is decided, and fails (R200). -/
def decideBlocked (d : Device) (f : Nat) : Bool :=
  let dv := devAt d f
  let t := tsAt d f
  t.restarting || t.current.isSome ||
    (!(busAt d (f / 4)).quarantined && (dv.busy.isSome || dv.stuck || dv.discovering || dv.pulsing))

/-- The commands that the fence holds before issue at a device (R155). -/
def fenceHeld (d : Device) (f : Nat) : List FlashCmd :=
  if decideBlocked d f then []
  else match nextCmd (tsAt d f) with
    | .none => []
    | .waiting c => fencedCmds (tsEnv d f c) (tsAt d f)
    | .held h => fencedCmds (tsEnv d f h.cmd) (tsAt d f)

/-- The fences are released: `cs` are the commands they held at a device, which are tagged now (R155). -/
def unfence (f : Nat) (cs : List FlashCmd) (d : Device) : Device := modTs f (retag cs (curTag d)) d

/-- The next command is decided, and issued where the decision says so. -/
def decideOne (f : Nat) (d : Device) : Device :=
  let run := fun c => onBus f (finishTs f (decideNext (tsEnv d f c) (tsAt d f)) d)
  match nextCmd (tsAt d f) with
  | .none => d
  | .waiting c => run c
  | .held h => run h.cmd

/-- A turnstile decides its next command (R210, R214). A command of the earlier tag that would reach a state at or above
the committed StateCount is held before issue, and with no fence armed released at once (R155, R228). -/
def turnstileDecide (f : Nat) (d : Device) : Device :=
  if decideBlocked d f then d
  else decideOne f (if d.tx.fenceArmed then d else unfence f (fenceHeld d f) d)

/-! ### Ends of commands on the bus -/

/-- The limit of R194 for a command, in µs. -/
def busyLimit (r : FlashRec) (b : BusRec) (k : CmdKind) : Nat :=
  let largest := if r.eraseSizes.testBit 2 then 65536 else if r.eraseSizes.testBit 1 then 32768 else 4096
  match k with
  | .program => r.maxProgramUs
  | .erase _ => 1000 * r.maxEraseMs
  | .chip => 1000 * r.maxEraseMs * (2 ^ r.sizeLog2 / largest)
  | _ => b.readyTimeoutUs

/-- The busy time that a command begins, as the leaf of its tag has it (R22, R194). -/
def busyOp (d : Device) (f : Nat) (c : FlashCmd) : BusyOp :=
  let L := cmdLeaf d c
  { cmd := c, kind := cmdKind d f c
    limit := match flashOf L f, busOf L (f / 4) with
      | some r, some b => busyLimit r b (cmdKind d f c)
      | _, _ => 0
    rst := ((busOf L (f / 4)).map (·.resetOnTimeout)).getD false }

/-- The bytes of a data phase: those a read returned, cut to its length. -/
def phaseBytes (d : Device) (f : Nat) (c : FlashCmd) (data : List Byte) : List Byte :=
  if cmdKind d f c = .read then data.take c.len else data

/-- The command on the bus leaves it; a hart's data phase reaches its buffer and its context (R255). -/
def phaseEnd (f : Nat) (c : FlashCmd) (result : Nat) (data : List Byte) (d : Device) : Device :=
  let d1 := modDev f (fun v => { v with dqsRetried := false }) (modTs f (fun t => { t with current := none }) d)
  let sent := sendsData (cmdKind d f c) c
  match c.issuer with
  | .hart h e => hartPhase h e c sent (if !sent then phaseBytes d f c data else if result = 0 then c.data else []) d1
  | _ => d1

/-- The data phase of the command on the bus ends (R256): a program, erase or register write leaves the device busy, any
other command is answered; data read passes the kind 2 taps first (R282). What arrived before a read failed has passed
(R255). -/
def flashDone (f result : Nat) (data : List Byte) (d : Device) : Device :=
  match (tsAt d f).current with
  | none => d
  | some c =>
    let d1 := phaseEnd f c result data d
    let k := cmdKind d f c
    if result ≠ 0 then settleReset f (deliver f ⟨c, 0, result, []⟩ d1)
    else if makesBusy k c then modDev f (fun v => { v with busy := some (busyOp d f c) }) d1
    else
      let bs := phaseBytes d f c data
      settleReset f (deliver f ⟨c, 0, 0, bs⟩ (if k = .read ∧ c.aid = 0x12 then deviceTaps f c.addr bs d1 else d1))

/-- The opcode choice of a command's kind. -/
def choiceOf : CmdKind → OpChoice
  | .read => .read
  | .program => .program
  | .erase n => .erase n
  | _ => .given

/-- A Primary's successful program or erase is issued to its Spare (R258): write enable and the command, AID 0x12, with the
opcode chosen for the Spare. A write that lies wholly in units that a resync has not come to is left to the copy. -/
def mirrorWrite (f : Nat) (b : BusyOp) (d : Device) : Device :=
  match flashOf (curLeaf d) f, spareOf (curLeaf d) f with
  | some r, some s =>
    let copied := match resyncOf d s with
      | some x => decide (((rangeOf b.kind r b.cmd.addr b.cmd.len).map (·.1)).getD 0 < 4096 * (x.copied + 1))
      | none => true
    if r.role = 1 ∧ copied = true ∧ ((healthAt d s).cond = 3 ∨ (healthAt d s).cond = 4) ∧ b.kind ≠ .other ∧ (healthAt d f).cond = 1 then
      let g := newGroup d
      let base : FlashCmd := { b.cmd with choice := choiceOf b.kind, issuer := .mirror f, aid := 0x12, tag := none, group := g, member := 1 }
      enqueueCmd s base (enqueueCmd s { base with op := 0x06, choice := .given, addr := 0, len := 0, data := [], member := 0 } (usedGroup d))
    else d
  | _, _ => d

/-- A program or erase failed at the device: its health is counted (R261). -/
def countFail (f : Nat) (k : CmdKind) (d : Device) : Device :=
  modHealth f (fun h => match k with
    | .program => { h with progFail := satAdd 8 h.progFail 1 }
    | .other => h
    | _ => { h with eraseFail := satAdd 8 h.eraseFail 1 }) d

/-- A restart of the controller, or of a turnstile of the bus, holds it idle: no poll and no discovery command goes out
(R44, R229). -/
def busIdle (d : Device) (m : Nat) : Bool :=
  (busAt d m).restarting || (List.range 4).any (fun k => (tsAt d (4 * m + k)).restarting)

/-- Polling shows the device ready (R194): flag status is read where the device has it; a success is mirrored. -/
def busyEnd (f : Nat) (failed : Bool) (d : Device) : Device :=
  match if busIdle d (f / 4) then none else (devAt d f).busy with
  | none => d
  | some b =>
    let d1 := modDev f (fun v => { v with busy := none }) d
    if failed && (devAt d f).flagStatus then
      settleReset f (deliver f ⟨b.cmd, 0, match b.kind with
        | .program => 1
        | .other => 1
        | _ => 2, []⟩ (countFail f b.kind d1))
    else settleReset f (deliver f ⟨b.cmd, 0, 0, []⟩ (mirrorWrite f b d1))

/-- The command on the bus ends, failing to its issuer (R44, R202). -/
def failCurrent (f reason result : Nat) (d : Device) : Device :=
  settleReset f (deliverAll f ((tsAt d f).current.toList.map (fun c => (⟨c, reason, result, []⟩ : Completion)))
    (modDev f (fun v => { v with dqsRetried := false }) (modTs f (fun t => { t with current := none }) d)))

/-- Commands in progress on a device fail to their issuers (R195, R200, R202, R261). -/
def failInProgress (f reason result : Nat) (d : Device) : Device :=
  let b := (devAt d f).busy.toList.map (fun b => (⟨b.cmd, reason, result, []⟩ : Completion))
  settleReset f (deliverAll f b (modDev f (fun v => { v with busy := none }) (failCurrent f reason result d)))

/-! ### Discovery and quarantine -/

/-- Discovery of a device starts at step 1 (R191): RSTk# is released and the state number is InitialState (R213). -/
def startDiscovery (f : Nat) (d : Device) : Device :=
  retryHolds f (modTs f (fun t => { t with state := initialState (curLeaf d) f })
    (modDev f (fun v => { v with rstHigh := true, discovering := true, pulsing := false, ready := false, stuck := false }) d))

/-- A 10 µs reset pulse begins (R195, GF_FBm_CTRL.DevReset). -/
def startPulse (f : Nat) (d : Device) : Device :=
  retryHolds f (modTs f (fun t => { t with state := initialState (curLeaf d) f })
    (modDev f (fun v => { v with rstHigh := false, pulsing := true, discovering := false, ready := false, stuck := false }) d))

/-- The pulse ends (R195): RSTk# rises and rediscovery begins, unless a couch has taken the device out of use (R54). -/
def endPulse (f : Nat) (d : Device) : Device := if mayRun d f then startDiscovery f d else takeOut f d

/-- The sizes in EraseSizes that SFDP offers, against those of the record (R192). -/
def erasesOffered (r : FlashRec) (s : SfdpData) : Bool :=
  [(0, s.eraseOps.1), (1, s.eraseOps.2.1), (2, s.eraseOps.2.2)].all (fun p => !r.eraseSizes.testBit p.1 || p.2 != 0xFF)

/-- SFDP agrees with the flash record under SfdpPolicy 2 (R192): density, erase sizes and page size. -/
def sfdpAgrees (r : FlashRec) (s : SfdpData) : Bool :=
  s.bytes == 2 ^ r.sizeLog2 && s.pageSize == r.pageSize &&
    [(0, s.eraseOps.1), (1, s.eraseOps.2.1), (2, s.eraseOps.2.2)].all (fun p => r.eraseSizes.testBit p.1 == (p.2 != 0xFF))

/-- DiscResult of what a device answered (GF_FBm_DEVk, R191, R192). Under SfdpPolicy 0 a size in EraseSizes that is not
offered shows as 6, a geometry too small (DESIGN CHOICE, the table names no code for it; notes/assumptions/118.md). -/
def discResultOf (L : Leaf) (r : FlashRec) (a : Discovery) : Nat :=
  let mode := ((busOf L (r.f / 4)).map (·.mode)).getD 0
  if !a.wipClear then 8
  else if a.id.isEmpty then 2
  else if a.id != r.jedecId then 3
  else if r.sfdpPolicy != 1 && a.sfdp.isNone then 4
  else if r.sfdpPolicy == 2 && !(a.sfdp.all (sfdpAgrees r)) then 5
  else if r.sfdpPolicy == 0 && !(a.sfdp.all (fun s => decide (2 ^ r.sizeLog2 ≤ s.bytes) && erasesOffered r s)) then 6
  else if (mode != 0 && !(a.sfdp.any (·.modeSeq))) || a.idAgain != r.jedecId then 7
  else 1

/-- The condition a device takes when discovery passes (R257, R259, R263): the Spare of a retired Primary is Acting. -/
def condAfterPass (d : Device) (r : FlashRec) : Nat :=
  let c := (healthAt d r.f).cond
  if c = 7 then 8
  else if c = 0 ∨ c = 9 ∨ c = 10 then (if r.role ≠ 2 then 1 else if hwRetired d r.spareFor then 6 else 2)
  else c

/-- An earlier device of the bus, in chip-select order, is still in discovery (R191). -/
def discoveryWaits (d : Device) (f : Nat) : Bool :=
  (List.range (f % 4)).any (fun k => (devAt d (f / 4 * 4 + k)).discovering)

/-- Discovery of a device ends (R191, R192). -/
def endDiscovery (f : Nat) (a : Discovery) (d : Device) : Device :=
  match flashOf (curLeaf d) f with
  | none => d
  | some r =>
    if !(devAt d f).discovering || discoveryWaits d f || busIdle d (f / 4) then d
    else
      let res := discResultOf (curLeaf d) r a
      let id := leNat (a.id.take 3)
      let probing := (healthAt d f).cond == 7
      let byReset := (devAt d f).byDevReset
      let d1 := modDev f (fun v =>
        { v with
          discovering := false, jedec := id, discResult := res, sfdpGoverns := res == 1 && r.sfdpPolicy == 0, sfdp := a.sfdp
          dummy := (a.sfdp.bind (·.dummy)).getD 8, byDevReset := false, flagStatus := a.sfdp.any (·.flagStatus) }) d
      let d2 :=
        if res = 1 then
          let p := setCond f (condAfterPass d r) (modHealth f (fun h => { h with failedResets := if byReset then 0 else h.failedResets })
            (modDev f (fun v => { v with ready := true }) d1))
          if probing then event 0x0822 2 [f, 1, 0, 0] p else p
        else
          let p := eventsRaw [(0x0720, 4, [f / 4, f, res, id, r.sfdpPolicy])]
            (modHealth f (fun h => { h with failedResets := if byReset then satAdd 8 h.failedResets 1 else h.failedResets }) (holdReset f d1))
          if probing then p else if inProbation d f then setCond f 7 (dropResync f p) else setCond f 10 p
      requalReport (f / 4) d2

/-- A Probation device returns to Retired (R263). -/
def endProbation (f : Nat) (d : Device) : Device :=
  if inProbation d f then setCond f 7 (dropResync f (takeOut f (failInProgress f 9 0 d))) else d

/-- A bus is quarantined (R200): what is in progress on it fails to its issuers, and no discovery or reset pulse goes
on. -/
def quarantineBus (m : Nat) (d : Device) : Device :=
  (List.range 4).foldl (fun acc k =>
      modDev (4 * m + k) (fun v => { v with discovering := false, pulsing := false, stuck := false }) (failInProgress (4 * m + k) 0 4 acc))
    (modBus m (fun x => { x with quarantined := true, recent := [] }) d)

/-- One detection of contention on an idle bus (R199, R263): the third within 1 ms quarantines the bus with event
0x0722, whose `detections` is ContentionCount (DESIGN CHOICE, notes/assumptions/118.md). -/
def contention (m lines : Nat) (d : Device) : Device :=
  let b := busAt d m
  let now := d.clock.opTime
  let recent := (b.recent.filter (fun t => decide (now ≤ t + 1))) ++ [now]
  let n := satAdd 8 b.contentionCount 1
  let d1 := modBus m (fun x => { x with contention := true, contentionCount := n, recent := recent }) d
  let d2 := (List.range 4).foldl (fun acc k => endProbation (4 * m + k) acc) d1
  if b.quarantined || recent.length < 3 then d2
  else eventsRaw [(0x0722, 5, [m, lines, n, d.tx.epoch, 0])] (quarantineBus m d2)

/-- Every assigned device of a bus that is neither Fenced nor retired is discovered (R191, R201); one that a couch took out
of use meanwhile is held in reset. -/
def discoverBus (m : Nat) (d : Device) : Device :=
  (List.range 4).foldl (fun acc k =>
    let f := 4 * m + k
    if rstAllowed (curLeaf acc) acc.tx.retired f && !hwRetired acc f then startDiscovery f (failInProgress f 0 4 acc)
    else settleReset f acc) d

/-- The bus controller restarts (R202): commands in progress on the bus fail with FlashResult 8. -/
def busRestartBegin (m : Nat) (d : Device) : Device :=
  (List.range 4).foldl (fun acc k => failInProgress (4 * m + k) 0 8 acc) (modBus m (fun b => { b with restarting := true }) d)

/-- Serve locks move from one device to another (R259, R264). -/
def moveLocks (a b : Nat) (d : Device) : Device :=
  retryHolds a (modTs a (fun t => { t with locks := [] }) (modTs b (fun t => { t with locks := t.locks ++ (tsAt d a).locks }) d))

/-- The Spare of a device that is retired answers for it, if it is not itself retired (R259): it is Acting, and the
Primary's serve locks move to it. -/
def substitute (f : Nat) (d : Device) : Device :=
  match spareOf (curLeaf d) f with
  | some s => if hwRetired d s then d else moveLocks f s (setCond s 6 (dropResync s d))
  | none => d

/-- A device is retired in hardware (R261, R259): its Spare substitutes, an Acting Spare's redirection ends, commands in
progress fail with reason 9, chip select is high and RSTk# low, event 0x0821; what its Spare now answers for is read from
there. RSTk# falls on a quarantined bus too (DESIGN CHOICE, R200 and R261 differ; notes/assumptions/118.md). -/
def retireDevice (f trigger : Nat) (d : Device) : Device :=
  let acting := (healthAt d f).cond == 6
  let d1 := setCond f 7 (dropResync f d)
  let d2 := if acting then moveLocks f (partnerOf (curLeaf d) f) d1 else d1
  let d3 := (d2.is_.resyncs.filter (fun r => r.source == f)).foldl (fun acc r =>
    if r.probation then setCond r.target 8 (dropResync r.target acc) else dropResync r.target acc) d2
  let d4 := takeOut f (failInProgress f 9 0 (substitute f d3))
  let s := spareOf (curLeaf d) f
  issueAll (event 0x0821 4 [f, trigger, s.getD 0xFF, (s.map (fun x => (healthAt d4 x).cond)).getD 0] d4)

end Sys2Proof.Machine
end

