-- ==== Sys2Proof/Machine/ErrorOps.lean ====
section
/-! DEFINITION. The error controller's own steps: classes, queue, reports, the F2 safe state
(spec/21_errors_ecc_and_perturbation.md, R571–R579). The commands are in Machine/ErrorCmds.lean. -/

namespace Sys2Proof.Machine

open Sys2Proof

/-! ### The (72,64) code (R571, R572) -/

/-- Weight of an eight-bit value. -/
def weight8 (v : Nat) : Nat := (List.range 8).foldl (fun n i => n + flag (v.testBit i)) 0

/-- The columns of the check bits and the data bits (R571): weight 1, weight 3, the eight lowest of weight 5. -/
def singleColumns : List Nat :=
  ((List.range 256).filter (fun v => weight8 v == 1)) ++ ((List.range 256).filter (fun v => weight8 v == 3)) ++
    [0x1F, 0x2F, 0x37, 0x3B, 0x3D, 0x3E, 0x4F, 0x57]

/-- The column of data bit `i` (R571): the 56 values of weight 3 in ascending order, then eight of weight 5. -/
def dataColumn (i : Nat) : Nat := (singleColumns.drop 8).getD i 0

/-- The column of address bit `i` (R571): the values of weight 2 in ascending order. -/
def addressColumn (i : Nat) : Nat := ((List.range 256).filter (fun v => weight8 v == 2)).getD i 0

/-- The check byte of a data word at a word index (R571). -/
def checkByte (data index : Nat) : Nat :=
  let d := (List.range 64).foldl (fun acc i => if data.testBit i then acc ^^^ dataColumn i else acc) 0
  (List.range 28).foldl (fun acc i => if index.testBit i then acc ^^^ addressColumn i else acc) d

/-- The syndrome that a word stored flipped by EC_INJECT gives: one data bit, two data bits or one address bit differ from
what the stored check byte covers. Which bits makes no difference to its class. -/
def flipSyndrome (kind : Nat) : Nat :=
  match kind with
  | 1 => checkByte 0 0 ^^^ checkByte 1 0
  | 2 => checkByte 0 0 ^^^ checkByte 3 0
  | 3 => checkByte 0 0 ^^^ checkByte 0 1
  | _ => 0

/-- What a syndrome says (R572): 0 clean, 1 corrected, 2 uncorrectable. -/
def syndromeClass (s : Nat) : Nat := if s = 0 then 0 else if singleColumns.contains s then 1 else 2

/-! ### Reports (R579) -/

/-- The instance as reports show it: the operand of the model gives bus m of a controller as 64 + m
(notes/assumptions/2.md). -/
def shownInst (e : ErrRec) : Nat := if e.block = 6 ∧ 64 ≤ e.inst then e.inst - 64 else e.inst

/-- A report enters the FIFO of 32, or is lost with Overflow and event 0x0F06 (R579). -/
def queueReport (e : ErrRec) (d : Device) : Device :=
  if d.ec.reports.length < 32 then
    let d1 := { d with ec := { d.ec with reports := d.ec.reports ++ [e] } }
    if bit d.ec.irqEn (if e.cls = 2 then 0 else 1) then interrupt 0 d1 else d1
  else
    let n := d.ec.lostReports + 1
    let d1 := event 0x0F06 3 [n, 0, 0, 0] { d with ec := { d.ec with overflow := true, lostReports := n } }
    if bit d.ec.irqEn 2 then interrupt 0 d1 else d1

/-- Handling of a C error (R575, R579): counted, with event 0x0F01 and the count since its last record. -/
def handleC (e : ErrRec) (d : Device) : Device :=
  let n := ((d.ec.sinceRecord.find? (fun p => p.1 == e.block)).map (·.2)).getD 0 + 1
  let recorded := hasToken (evEnv d).rates d.ev 0x0F01 && !d.ev.full
  let rest := d.ec.sinceRecord.filter (fun p => p.1 != e.block)
  event 0x0F01 1 [e.block, n, e.word, 0]
    { d with ec := { d.ec with corrected := satAdd 16 d.ec.corrected 1, sinceRecord := if recorded then rest else (e.block, n) :: rest } }

/-- Handling of a D error: counted, reported, event 0x0F02. -/
def handleD (e : ErrRec) (d : Device) : Device :=
  event 0x0F02 3 [e.block, shownInst e, e.kind, e.word]
    (queueReport e { d with ec := { d.ec with deferred := satAdd 8 d.ec.deferred 1 } })

/-- Handling of an error begins; C and D end in the same step, an F1 when its block is back in service (R575). -/
def takeError (e : ErrRec) (d : Device) : Device :=
  match e.cls with
  | 1 => handleC e d
  | 2 => handleD e d
  | _ => queueReport e { d with ec := { d.ec with handling := e :: d.ec.handling } }

/-- The queued error that is taken next: highest class, then the longest queued (R576). -/
def nextError (q : List ErrRec) : Option ErrRec :=
  q.foldl (fun acc e => match acc with
    | none => some e
    | some b => if b.cls < e.cls then some e else some b) none

/-- Queued errors are taken until one keeps the controller. -/
def drainErrors : Nat → Device → Device
  | 0, d => d
  | n + 1, d =>
    if !d.ec.handling.isEmpty then d
    else match nextError d.ec.queue with
      | none => d
      | some e => drainErrors n (takeError e { d with ec := { d.ec with queue := d.ec.queue.erase e } })

/-! ### The F2 safe state (R577, R578) -/

/-- Keys cleared in the vault and the engines (R300, R318, R577 step 3). -/
def vaultClear (d : Device) : Device :=
  let d1 := { d with kv := clearVault d.kv }
  let d2 := dgLift (vaultClearContexts d1.dg) d1
  let r := vaultClearSig d2.sg
  events r.2 { d2 with sg := r.1 }

/-- Steps 3 and 4 of R577: keys cleared, the last-gasp record 0x0F05 written. -/
def safeTail (hardware : Bool) (d : Device) : Device :=
  lastGasp 0x0F05 5 [d.lastF2.block, d.lastF2.kind, d.ec.queue.length, flag hardware, d.tx.epoch] (vaultClear d)

/-- Steps 2–4 of R577: the pending queue and event 0x0F05 go into the log, then the tail. -/
def safeRecords (d : Device) : Device :=
  let d1 := event 0x0F05 5 [d.lastF2.block, d.lastF2.kind, d.ec.queue.length, 0] d
  let p := writeAll (evEnv d1) 40 d1.mem d1.ev
  safeTail false { mramUsed d1 with mem := p.1, ev := p.2 }

/-- Step 1 of R577: gates held, buses in the state of R53, ports and CXL lanes idle, harts held, FAULT# low; the
unguarded span of cause 3 begins (R43). -/
def enterSafe (block kind : Nat) (escalated : Bool) (d : Device) : Device :=
  let d1 := intervalBegin (guardedBuses d) 3 0 (holdAllGates d)
  let d2 := (List.range 64).foldl (fun acc f => holdReset f acc) d1
  { d2 with
    power := { d2.power with state := .safe, faultHeld := true }
    cx := { d2.cx with linkUp := false, training := false }
    ec := { d2.ec with handling := [{ cls := 4, block := block, inst := 0, kind := kind, word := 0 }] }
    is_ := { d2.is_ with bds := d2.is_.bds.map (fun b => { b with runOut := false }) }
    lastF2 := { block := block, kind := kind, escalated := escalated, hardware := false, count := satAdd 16 d2.lastF2.count 1 } }

/-- An error of any class during the safe state (R578): steps 3 and 4 at once. -/
def hardwareSafe (d : Device) : Device :=
  if d.lastF2.hardware then d else safeTail true { d with lastF2 := { d.lastF2 with hardware := true } }

/-- An error arrives at the controller (R576). Containment has been done by the caller. -/
def errorArrives (e : ErrRec) (d : Device) : Device :=
  if d.power.state == .safe then hardwareSafe d
  else match d.ec.handling with
    | [] => takeError e d
    | cur :: _ =>
      if e.cls = 3 ∧ e.block = cur.block ∧ e.inst = cur.inst then
        enterSafe e.block e.kind true (event 0x0F04 5 [e.block, shownInst e, cur.kind, e.kind] d)
      else if d.ec.queue.length < 16 then { d with ec := { d.ec with queue := d.ec.queue ++ [e] } }
      else
        let d1 := { d with ec := { d.ec with overflow := true } }
        if bit d.ec.irqEn 2 then interrupt 0 d1 else d1

/-! ### Degraded mode (R427–R429) -/

/-- With no segment left, what waits reaches the ring from severity 4 up and is counted otherwise (R428). -/
def ringOnly (d : Device) : Device :=
  (d.ev.queue ++ d.ev.stalled).foldl (fun acc e =>
    if 4 ≤ e.sev then { acc with bat := ringWrite { e with flags := e.flags ||| 8 } acc.bat }
    else { acc with ev := { acc.ev with drop := satAdd 32 acc.ev.drop 1 } }) { d with ev := { d.ev with queue := [], stalled := [] } }

/-- The event log loses the segment of its byte `off` (R428), once. -/
def degradeLog (off : Nat) (d : Device) : Device :=
  let seg := off / 0x10000
  if hasBit d.ev.badSeg seg then d else
  let bad := setBit d.ev.badSeg seg
  let none_ := !d.ev.full && decide (65536 ≤ skipBad bad d.ev.nextIndex)
  let e1 := { d.ev with badSeg := bad, degraded := true, nextIndex := skipBad bad d.ev.nextIndex }
  let d1 := { d with ev := { e1 with noSurvivor := none_ }, lg := { d.lg with logDegraded := true } }
  let ps := [1, eventBase - mramBase + off, seg, flag (!none_ && !d.ev.full), d.tx.epoch]
  if none_ then lastGasp 0x0A03 5 ps (ringOnly d1)
  else arriveEvent false 0x0A03 0xFF 5 ps (lastGasp 0x0A03 5 ps d1)

/-- The ream has an uncorrectable word at its byte `off` (R427, R429): its position is bad, and the sheet there lost. -/
def degradeReam (off : Nat) (d : Device) : Device :=
  let pos := off / 0x2000
  let bad := if d.lg.bad.contains pos then d.lg.bad else d.lg.bad ++ [pos]
  let ps := [2, reamBase - mramBase + off, pos, flag (positions.any (fun p => !bad.contains p)), d.tx.epoch]
  arriveEvent false 0x0A03 0xFF 5 ps (lastGasp 0x0A03 5 ps
    { d with lg := { d.lg with degraded := true, logDegraded := true, bad := bad } })

/-- The F1 restart that the controller handles is of this block and instance. -/
def handlingOf (d : Device) (block inst : Nat) : Option ErrRec :=
  match d.ec.handling with
  | e :: _ => if e.cls = 3 ∧ e.block = block ∧ e.inst = inst then some e else none
  | [] => none

/-- A block is back in service (R575, R579): event 0x0F03, and the next queued errors are taken. -/
def restartDone (e : ErrRec) (us : Nat) (d : Device) : Device :=
  let d1 := { d with ec := { d.ec with handling := d.ec.handling.drop 1, restarts := satAdd 8 d.ec.restarts 1 } }
  drainErrors 17 (event 0x0F03 4 [e.block, shownInst e, e.kind, us] d1)

end Sys2Proof.Machine
end

