-- ==== Sys2Proof/Machine/Sweep.lean ====
section
/-! DEFINITION. The runtime integrity sweep: registration, passes, results
(spec/16_attestation_and_sweep.md, R475–R481; spec/04_structure_image.md, R130, R141). -/

namespace Sys2Proof.Machine

open Sys2Proof

/-! ### Records and regions -/

/-- The sweep records of an LD (R130). -/
def sweepRecs (L : Leaf) (ld : Nat) : List SweepRec := L.sweeps.filter (fun r => r.ld == ld)
/-- The fields all records of an LD share: the first record. -/
def sweepRec (L : Leaf) (ld : Nat) : Option SweepRec := (sweepRecs L ld).head?
/-- The regions of an LD, in the order of registration. -/
def regionsOf (d : Device) (ld : Nat) : List SweepRegion := d.cx.regions.filter (fun r => r.ld == ld)
/-- A region. -/
def regionOf (d : Device) (ld no : Nat) : Option SweepRegion := d.cx.regions.find? (fun r => r.ld == ld && r.no == no)
/-- A region changed. -/
def modRegion (ld no : Nat) (f : SweepRegion → SweepRegion) (d : Device) : Device :=
  { d with cx := { d.cx with regions := d.cx.regions.map (fun r => if r.ld == ld && r.no == no then f r else r) } }
/-- The pass of an LD in progress. -/
def passOf (d : Device) (ld : Nat) : Option SweepPass := d.cx.passes.find? (fun p => p.ld == ld)
/-- A pass replaced. -/
def setPass (p : SweepPass) (d : Device) : Device :=
  { d with cx := { d.cx with passes := d.cx.passes.map (fun q => if q.ld == p.ld then p else q) } }
/-- A byte bucket set. -/
def setBucket (ld n : Nat) (d : Device) : Device := { d with cx := { d.cx with buckets := vmod d.cx.buckets ld (fun _ => n) } }

/-- A region lies wholly within one window of its LD (R475). -/
def inWindow (L : Leaf) (ld base units : Nat) : Bool :=
  (sweepRecs L ld).any (fun r => decide (r.windowBase ≤ base ∧ base + 4096 * units ≤ r.windowBase + r.windowLength))

/-- The lowest free region number of an LD. -/
def freeRegion (d : Device) (ld : Nat) : Nat := ((List.range 64).find? (fun n => (regionOf d ld n).isNone)).getD 0

/-! ### Passes (R476–R479) -/

/-- Reads of a pass may be issued (R480). -/
def readsAllowed (d : Device) (ld : Nat) : Bool := cxlUp d && (ldOf d ld).busMaster && !(ldOf d ld).d3hot

/-- Bytes of a pass that have come and wait for an earlier one. -/
def arrivedBytes (p : SweepPass) : Nat := p.arrived.foldl (fun n a => n + a.2.length) 0

/-- How many reads of 256 bytes the engine can issue now (R476, R477). -/
def readRoom (d : Device) (p : SweepPass) : Nat :=
  match sweepRec (curLeaf d) p.ld, regionOf d p.ld p.no with
  | some r, some g =>
    let left := (4096 * g.units - p.issued) / 256
    let buffer := r.maxOutstanding - (p.issued - p.delivered) / 256
    let tags := if (ldOf d p.ld).tag10 then 1024 else 256 - (p.issued - p.delivered - arrivedBytes p) / 256
    min (min left buffer) (min tags (vget d.cx.buckets p.ld / 256))
  | _, _ => 0

/-- The engine issues the reads it can (R476). -/
def issueReads (ld : Nat) (d : Device) : Device :=
  match passOf d ld with
  | none => d
  | some p =>
    if !readsAllowed d ld then d
    else
      let k := readRoom d p
      setBucket ld (vget d.cx.buckets ld - 256 * k) (setPass { p with issued := p.issued + 256 * k } d)

/-- A pass ends (R479): its tap's stream is closed and an entry is queued for hart 1. -/
def endPass (ld cause : Nat) (d : Device) : Device :=
  match passOf d ld with
  | none => d
  | some p =>
    let d1 := { d with cx := { d.cx with
      passes := d.cx.passes.filter (fun q => q.ld != ld), ends := d.cx.ends ++ [{ ld := ld, no := p.no, ctx := p.ctx, cause := cause }] } }
    let d2 := modRegion ld p.no (fun r => { r with state := 1, lastDelivered := p.delivered }) d1
    match ctxOf d2.dg p.ctx with
    | some c => if c.tap.isSome then dgLift (closeStream c d2.dg) d2 else d2
    | none => d2

/-- A region is unregistered (R475, R480, R141): a pass of it ends with the cause, event 0x0C21 by hart 1. -/
def unregister (ld no cause : Nat) (d : Device) : Device :=
  match regionOf d ld no with
  | none => d
  | some r =>
    let d1 := match passOf d ld with
      | some p => if p.no = no then endPass ld cause d else d
      | none => d
    hartEvent 1 0x0C21 2 [ld, no, cause, r.passes]
      { d1 with cx := { d1.cx with
          regions := d1.cx.regions.filter (fun x => !(x.ld == ld && x.no == no)), due := d1.cx.due.filter (· != (ld, no)) } }

/-- Every region of an LD is unregistered (R480), and its host page registers take their reset values. -/
def sweepReset (ld cause : Nat) (d : Device) : Device :=
  let d1 := (regionsOf d ld).foldl (fun acc r => unregister ld r.no cause acc) d
  modLd ld (fun l =>
    { l with
      swpBase := 0, swpUnits := 0, swpPeriod := 0, swpOutcome := 0, swpRegion := 0, swpDone := false, swpSel := 0
      swpAlert := 0, swpRemoved := false, swpExp := zeros 64 }) d1

/-- The couch instant of a new SI on one LD (R141): regions outside its new windows or above its new MaxRegions go, the
last registered first. A region outside the windows counts towards MaxRegions too: DESIGN CHOICE, the manual does not say
(notes/assumptions/110.md). -/
def sweepInstantLd (new : Leaf) (d : Device) (ld : Nat) : Device :=
  let max := ((sweepRec new ld).map (·.maxRegions)).getD 0
  let gone := ((regionsOf d ld).zipIdx.filter (fun p => !inWindow new ld p.1.base p.1.units || decide (max ≤ p.2))).reverse
  let d1 := gone.foldl (fun acc p => unregister ld p.1.no 7 acc) d
  if gone.isEmpty then d1 else modLd ld (fun l => { l with swpRemoved := true }) d1

/-- The couch instant of a new SI on the sweep. -/
def sweepInstant (new : Leaf) (d : Device) : Device := (List.range 16).foldl (sweepInstantLd new) d

/-- Reads in flight at a couch instant finish under their own epoch (R23, R480). -/
def sweepAge (d : Device) : Device :=
  { d with cx := { d.cx with passes := d.cx.passes.map (fun p => { p with oldUpTo := p.issued }) } }

/-- Outstanding sweep reads that carry the tag of an earlier epoch. -/
def sweepOldReads (d : Device) : Nat :=
  d.cx.passes.foldl (fun n p => n + ((p.oldUpTo - p.delivered) / 256 -
    (p.arrived.filter (fun a => decide (a.1 < p.oldUpTo))).length)) 0

/-- A pass whose context has become Faulted ends with cause 9 (R479). -/
def sweepFaults (d : Device) : Device :=
  (d.cx.passes.filter (fun p => (ctxOf d.dg p.ctx).any (fun c => c.state == .faulted))).foldl (fun acc p => endPass p.ld 9 acc) d

/-- Completions that have come in order reach the tap (R476). -/
def deliverReads : Nat → Nat → Device → Device
  | 0, _, d => d
  | n + 1, ld, d =>
    match passOf d ld with
    | none => d
    | some p =>
      match p.arrived.find? (fun a => a.1 == p.delivered) with
      | none => d
      | some a =>
        deliverReads n ld (burstToTap p.ctx p.delivered a.2
          (setPass { p with delivered := p.delivered + a.2.length, arrived := p.arrived.filter (fun b => b.1 != a.1) } d))

/-! ### Registration by a host (R475) -/

/-- The outcome of a Register (R475): the checks in code order, ascending as in R137 (notes/assumptions/116.md). -/
def registerOutcome (d : Device) (ld : Nat) (compare attest : Bool) : Nat :=
  let l := ldOf d ld
  match sweepRec (curLeaf d) ld with
  | none => 1
  | some r =>
    if !inWindow (curLeaf d) ld l.swpBase l.swpUnits then 2
    else if r.maxRegions ≤ (regionsOf d ld).length || 1024 ≤ d.cx.regions.length then 3
    else if l.swpUnits = 0 || decide (1048576 < l.swpUnits) || decide (l.swpPeriod < r.minPeriodMs) || (compare && !r.compare) ||
        (attest && !r.attest) then 4
    else if !d.tx.fabricLive then 5
    else 0

/-- The outcome of a command in CX_HP_SWP_RESULT. -/
def sweepResult (ld outcome no : Nat) (d : Device) : Device :=
  modLd ld (fun l => { l with swpOutcome := outcome, swpRegion := no, swpDone := true }) d

/-- Register (R475): the region takes the lowest free number and is due. The bucket is full until the LD's first region is
read (R477): it is not filled again at a later registration, which the rule's bound excludes. -/
def registerRegion (ld : Nat) (compare attest : Bool) (d : Device) : Device :=
  let o := registerOutcome d ld compare attest
  if o ≠ 0 then sweepResult ld o 0 d
  else
    let l := ldOf d ld
    let no := freeRegion d ld
    let g : SweepRegion :=
      { ld := ld, no := no, base := l.swpBase, units := l.swpUnits, period := l.swpPeriod, compare := compare, attest := attest
        expected := if compare then l.swpExp else zeros 64 }
    sweepResult ld 0 no (hartEvent 1 0x0C20 1 [ld, no, l.swpBase, l.swpUnits]
      { d with cx := { d.cx with regions := d.cx.regions ++ [g], due := d.cx.due ++ [(ld, no)] } })

/-- A write of CX_HP_SWP_CMD. -/
def sweepCommand (ld : Nat) (v : Word) (d : Device) : Device :=
  let no := field v 8 6
  if !cxlUp d then d
  else if field v 0 2 = 1 then registerRegion ld (bit v 4) (bit v 5) d
  else if field v 0 2 = 2 then
    if (regionOf d ld no).isNone then sweepResult ld 6 no d else sweepResult ld 0 no (unregister ld no 6 d)
  else d

/-- SWEEP_REGISTER (R475). -/
def sweepRegisterEffect (ld : Ld) (v : Word) (d : Device) : Device := sweepCommand ld v d
/-- SWEEP_REGISTER. -/
def execSweepRegister (ld : Ld) (v : Word) (s : State) : Host.Outcome State Fault Refusal := s.run (sweepRegisterEffect ld v)

/-- SWEEP_UNREGISTER (R475). -/
def sweepUnregisterEffect (ld : Ld) (v : Word) (d : Device) : Device := sweepCommand ld v d
/-- SWEEP_UNREGISTER. -/
def execSweepUnregister (ld : Ld) (v : Word) (s : State) : Host.Outcome State Fault Refusal := s.run (sweepUnregisterEffect ld v)

/-! ### The passes of hart 1 (R478, R479) -/

/-- A region's Period, or MinPeriodMs if that is larger, has elapsed since the start of its previous pass (R478). -/
def periodOver (d : Device) (ld : Nat) (g : SweepRegion) : Bool :=
  match g.started with
  | none => true
  | some t => decide (t + max g.period (((sweepRec (curLeaf d) ld).map (·.minPeriodMs)).getD 0) ≤ vget d.cx.millis ld)

/-- SWEEP_REGION_DUE (R478): time is what SWEEP_BUCKET_REFILL has counted (notes/assumptions/125.md). -/
def sweepRegionDueEffect (ld : Ld) (r : Nat) (d : Device) : Device :=
  if !mainRuns d || !(regionOf d ld r).any (periodOver d ld) || d.cx.due.contains (ld.val, r) then d
  else { d with cx := { d.cx with due := d.cx.due ++ [(ld.val, r)] } }
/-- SWEEP_REGION_DUE. -/
def execSweepRegionDue (ld : Ld) (r : Nat) (s : State) : Host.Outcome State Fault Refusal := s.run (sweepRegionDueEffect ld r)

/-- The pass CX_SWP_NEXT offers (R478): the first LD in the queue with no pass in progress, and of its due regions the
lowest-numbered. -/
def nextPass (d : Device) : Option SweepRegion :=
  match d.cx.due.find? (fun p => (passOf d p.1).isNone) with
  | none => none
  | some p => ((List.range 64).find? (fun n => d.cx.due.contains (p.1, n))).bind (regionOf d p.1)

/-- SWEEP_NEXT_POP (R478): a read of CX_SWP_NEXT, zero for other harts. -/
def sweepNextPopEffect (h : Hart) (d : Device) : Device :=
  if !mainRuns d || hartStalled d h then d
  else if h ≠ 1 then replyWord 0 d
  else match nextPass d with
    | none => replyWord 0 d
    | some r =>
      replyWord (pack [(0, 6, r.no), (8, 4, r.ld), (12, 1, flag r.compare), (13, 1, flag r.attest), (31, 1, 1)])
        { d with cx := { d.cx with popped := some (r.ld, r.no) } }
/-- SWEEP_NEXT_POP. -/
def execSweepNextPop (h : Hart) (s : State) : Host.Outcome State Fault Refusal := s.run (sweepNextPopEffect h)

/-- A context a kind 4 tap can be bound to (R280, CX_SWP_START). -/
def sweepCtxOk (d : Device) (n : Nat) : Bool :=
  (ctxOf d.dg n).any (fun c => c.owner == 0x11 && c.state == .absorbing && c.source == 1 && c.tap.isNone && c.cls == 3)

/-- The popped pass starts on a context (R478). -/
def startPass (n : Nat) (d : Device) : Device :=
  match d.cx.popped with
  | none => d
  | some (ld, no) =>
    if (regionOf d ld no).isNone || (passOf d ld).isSome || !d.cx.due.contains (ld, no) || !sweepCtxOk d n then d
    else match ctxOf d.dg n with
      | none => d
      | some c =>
        let d1 := { d with
          dg := setCtx d.dg { c with tap := some { kind := 4, dev := ld, start := 0, next := 0 }, bound := some (4, ld, 0, d.tx.epoch) }
          cx := { d.cx with
            due := d.cx.due.filter (· != (ld, no))
            passes := d.cx.passes ++ [{ ld := ld, no := no, ctx := n, issued := 0, delivered := 0, arrived := [], oldUpTo := 0 }] } }
        issueReads ld (modRegion ld no (fun r => { r with state := 2, started := some (vget d.cx.millis ld) }) d1)

/-- SWEEP_START (CX_SWP_START, R478). -/
def sweepStartEffect (h : Hart) (v : Word) (d : Device) : Device :=
  onlyHart 1 h 12 0x600C0208 (fun d1 => if bit v 31 then startPass (field v 0 12) d1 else d1) d
/-- SWEEP_START. -/
def execSweepStart (h : Hart) (v : Word) (s : State) : Host.Outcome State Fault Refusal := s.run (sweepStartEffect h v)

/-- SWEEP_READ_COMPLETION (R476, R479): `status` 0 successful, 1 UR or CA, 3 poisoned data. -/
def sweepReadCompletionEffect (ld : Ld) (offset status : Nat) (data : List Byte) (d : Device) : Device :=
  match passOf d ld with
  | none => d
  | some p =>
    if !mainRuns d || offset % 256 != 0 || decide (offset < p.delivered) || decide (p.issued ≤ offset) ||
        p.arrived.any (fun a => a.1 == offset) then d
    else if status ≠ 0 then endPass ld (if status = 3 then 3 else 1) d
    else
      let d1 := deliverReads 1025 ld (setPass { p with arrived := p.arrived ++ [(offset, padTo 256 data)] } d)
      let d2 := sweepFaults d1
      match passOf d2 ld, regionOf d2 ld p.no with
      | some q, some g => if 4096 * g.units ≤ q.delivered then endPass ld 0 d2 else issueReads ld d2
      | _, _ => d2
/-- SWEEP_READ_COMPLETION. -/
def execSweepReadCompletion (ld : Ld) (offset status : Nat) (data : List Byte) (s : State) :
    Host.Outcome State Fault Refusal :=
  s.run (sweepReadCompletionEffect ld offset status data)

/-- SWEEP_READ_TIMEOUT (R479): a read issued has had no completion for 50 ms. -/
def sweepReadTimeoutEffect (ld : Ld) (d : Device) : Device :=
  match passOf d ld with
  | none => d
  | some p => if mainRuns d && decide (p.delivered + arrivedBytes p < p.issued) then endPass ld 2 d else d
/-- SWEEP_READ_TIMEOUT. -/
def execSweepReadTimeout (ld : Ld) (s : State) : Host.Outcome State Fault Refusal := s.run (sweepReadTimeoutEffect ld)

/-- SWEEP_BUCKET_REFILL (R477): one millisecond of the standby timebase, with the LD's rate cap. -/
def sweepBucketRefillEffect (ld : Ld) (d : Device) : Device :=
  if !mainRuns d then d
  else
    let d1 := { d with cx := { d.cx with millis := vmod d.cx.millis ld (· + 1) } }
    match sweepRec (curLeaf d) ld with
    | none => d1
    | some r => issueReads ld (setBucket ld (min 65536 (vget d.cx.buckets ld + 1000 * r.rateCapMBps)) d1)
/-- SWEEP_BUCKET_REFILL. -/
def execSweepBucketRefill (ld : Ld) (s : State) : Host.Outcome State Fault Refusal := s.run (sweepBucketRefillEffect ld)

/-- SWEEP_END_POP (R479): a read of CX_SWP_END, zero for other harts. -/
def sweepEndPopEffect (h : Hart) (d : Device) : Device :=
  if !mainRuns d || hartStalled d h then d
  else if h ≠ 1 then replyWord 0 d
  else match d.cx.ends with
    | [] => replyWord 0 d
    | e :: tl => replyWord (pack [(0, 6, e.no), (8, 4, e.ld), (12, 12, e.ctx), (24, 4, e.cause), (31, 1, 1)])
        { d with cx := { d.cx with ends := tl } }
/-- SWEEP_END_POP. -/
def execSweepEndPop (h : Hart) (s : State) : Host.Outcome State Fault Refusal := s.run (sweepEndPopEffect h)

/-- A result posted to a region (R479, CX_SWP_POST). -/
def postResult (ld no result cause : Nat) (d : Device) : Device :=
  match regionOf d ld no with
  | none => d
  | some r =>
    let counted := within 1 4 result
    let n := if counted then satAdd 16 r.passes 1 else r.passes
    let dig := d.cx.swpDig
    let d1 := modRegion ld no (fun x =>
      { x with lastResult := result, lastCause := cause, passes := n, digest := if within 1 3 result then dig else x.digest }) d
    let d2 := if result = 2 ∨ result = 4 then modLd ld (fun l => { l with swpAlert := setBit l.swpAlert no }) d1 else d1
    if result = 2 then hartEvent 1 0x0C22 4 [ld, no, n, leNat (dig.take 8)] d2
    else if result = 4 then hartEvent 1 0x0C23 3 [ld, no, cause, r.lastDelivered] d2 else d2

/-- SWEEP_POST (R479). -/
def sweepPostEffect (h : Hart) (v : Word) (d : Device) : Device :=
  onlyHart 1 h 12 0x600C0210 (fun d1 =>
    if bit v 31 then postResult (field v 8 4) (field v 0 6) (field v 12 3) (field v 16 4) d1 else d1) d
/-- SWEEP_POST. -/
def execSweepPost (h : Hart) (v : Word) (s : State) : Host.Outcome State Fault Refusal := s.run (sweepPostEffect h v)

end Sys2Proof.Machine
end

