-- ==== Sys2Proof/Machine/Scrub.lean ====
section
/-! DEFINITION. Words in error: what a scrub or a read of a flipped word does (spec/21_errors_ecc_and_perturbation.md,
R572–R574; spec/08_serving_gates_and_spares.md, R235, R236). -/

namespace Sys2Proof.Machine

open Sys2Proof

/-- The memories the patrol scrub passes over (R573). -/
inductive ScrubRegion where
  | store | sram | contexts | ream | log | keyJournal | couchJournal | firmware | siActive | siPending
  deriving DecidableEq, Repr

/-- The region an operand names; none for a memory that is not scrubbed (notes/assumptions/45.md). -/
def scrubRegion (n : Nat) : Option ScrubRegion :=
  [.store, .sram, .contexts, .ream, .log, .keyJournal, .couchJournal, .firmware, .siActive, .siPending][n]?

/-- Base address, block number of R92 (0x13 the warden cores) and words of a region. -/
def scrubPlace : ScrubRegion → Nat × Nat × Nat
  | .store => (storeBase, 7, 0xC00000)
  | .sram => (sramBase, 0x13, 0x80000)
  | .contexts => (0, 4, 4096)
  | .ream => (reamBase, 10, 0x200000)
  | .log => (eventBase, 9, 0x80000)
  | .keyJournal => (keyJournalBase, 3, 0x10000)
  | .couchJournal => (couchJournalBase, 8, 0x10000)
  | .firmware => (fwActiveBase, 0, 0xC0000)
  | .siActive => (siActiveBase, 8, 0x20000)
  | .siPending => (siPendingBase, 8, 0x20000)

/-- A corrected word is rewritten (R573). -/
def scrubRewrites : ScrubRegion → Bool
  | .firmware => false
  | .siActive => false
  | .siPending => false
  | _ => true

/-- The domain whose partition holds a granule. -/
def granuleBd (L : Leaf) (g : Nat) : Option Nat :=
  (L.partitions.find? (fun p => decide (p.firstGranule ≤ g ∧ g < p.firstGranule + p.granuleCount))).bind
    (fun p => (L.images.find? (fun i => i.partition == p.partition)).map (·.bd))

/-- An uncorrectable image store word (R236): poisoned with event 0x0811; a Loading or Running domain fails with cause
6. -/
def poisonWord (w : Nat) (d : Device) : Device :=
  let g := w / 8192
  let L := curLeaf d
  let bd := granuleBd L g
  let st := (bd.map (fun b => (domain d b).state.ctorIdx)).getD 0
  let d1 := { d with is_ := { d.is_ with poisonLast := g, poisoned := if d.is_.poisoned.contains w then d.is_.poisoned else d.is_.poisoned ++ [w] } }
  let d2 := event 0x0811 4 [g, w % 8192, bd.getD 0xFF, st] d1
  match bd with
  | none => d2
  | some b =>
    if bdServing (domain d2 b) then
      let img := (domain d2 b).images.find? (fun i => decide (i.base * 8192 ≤ w) && decide (w < i.base * 8192 + ceilDiv i.imgRec.length 8))
      slotFailed b ((img.map (·.recIdx)).getD 0xFF) 6 d2
    else d2

/-- A scrub finds an uncorrectable word (R574): containment, then the report of class D. -/
def scrubBad (r : ScrubRegion) (w : Nat) (d : Device) : Device :=
  let e : ErrRec := { cls := 2, block := (scrubPlace r).2.1, inst := 0, kind := 1, word := w }
  match r with
  | .store => errorArrives e (poisonWord w d)
  | .contexts =>
    match ctxOf d.dg w with
    | some c => errorArrives e (sweepFaults (dgLift (faultCtx 2 0 c { d.dg with eccFaults := satAdd 8 d.dg.eccFaults 1 }) d))
    | none => errorArrives e d
  | .ream => errorArrives e (degradeReam (8 * w) d)
  | .log => errorArrives e (degradeLog (8 * w) d)
  | _ => errorArrives e d

/-- A corrected word (R573, R235): rewritten where the table says so, counted; an image store word also in the scrub
counters with event 0x0810. -/
def scrubCorrect (r : ScrubRegion) (w : Nat) (d : Device) : Device :=
  let a := (scrubPlace r).1 + 8 * w
  let d1 := if scrubRewrites r && r != .contexts then { d with flipped := d.flipped.filter (fun x => x.1 != a) } else d
  let e : ErrRec := { cls := 1, block := (scrubPlace r).2.1, inst := 0, kind := 1, word := w }
  match r with
  | .store =>
    let n := d1.is_.scrubSince + 1
    let recorded := hasToken (evEnv d1).rates d1.ev 0x0810 && !d1.ev.full
    errorArrives e (event 0x0810 1 [w / 8192, w % 8192, n, 0]
      { d1 with is_ := { d1.is_ with scrubCorrected := satAdd 16 d1.is_.scrubCorrected 1, scrubSince := if recorded then 0 else n } })
  | _ => errorArrives e d1

/-- What a scrub of a word finds (R572): what was injected there (EC_INJECT), else what the syndrome says. -/
def scrubFinds (d : Device) (r : ScrubRegion) (w syndrome : Nat) : Nat :=
  match d.flipped.find? (fun x => r != .contexts && x.1 == (scrubPlace r).1 + 8 * w) with
  | some x => syndromeClass (flipSyndrome x.2)
  | none => syndromeClass syndrome

/-- The region an EC_INJECT target is. -/
def injectRegion (a : Nat) : ScrubRegion :=
  match injectTarget a with
  | some 0 => .store
  | some 1 => .sram
  | _ => .log

/-- A read of `n` bytes at an address meets the flipped words in it (R572, R574): corrected ones are counted,
uncorrectable ones contained and reported. -/
def readErrors (a n : Nat) (d : Device) : Device :=
  (d.flipped.filter (fun w => overlaps w.1 8 a n)).foldl (fun acc w =>
    let r := injectRegion w.1
    let k := (w.1 - (scrubPlace r).1) / 8
    if syndromeClass (flipSyndrome w.2) = 1 then errorArrives { cls := 1, block := (scrubPlace r).2.1, inst := 0, kind := 1, word := k } acc
    else scrubBad r k acc) d

end Sys2Proof.Machine
end

