-- ==== Sys2Proof/Machine/LedgerOps.lean ====
section
/-! DEFINITION. The boot ledger and the recorder on the device: what the LG compares a sheet with, the conditions it
watches, time after a battery loss (spec/14_ream_and_event_recorder.md, R399–R414). -/

namespace Sys2Proof.Machine

open Sys2Proof

/-- FullPolicy WRAP_EXPORTED of the committed structure (R131). -/
def wrapPolicy (d : Device) : Bool := (curLeaf d).ledger.wrapExported

/-- FwSummary as the LG computes it (R398). -/
def fwSummary (d : Device) : List Byte := shake256 (wmkOf d 0 ++ wmkOf d 1 ++ wmkOf d 2 ++ wmkOf d 7) 64

/-- The image headers armed for a domain as image entries (R400). -/
def armedEntries (d : Device) (bd : Nat) : List (List Byte) :=
  (domain d bd).images.map (fun i => padTo 16 i.imgRec.imageId ++ padTo 64 i.digest)

/-- What the LG compares a sheet with, now (R402). -/
def lgEnv (d : Device) : LgEnv where
  now := nowTs d
  epoch := d.tx.epoch
  siDigest := d.tx.siDigest
  wrap := wrapPolicy d
  verified := fun bd => (domain d bd).state == .verified
  armed := armedEntries d
  servingSlot := fun bd => (domain d bd).slot
  goldenUsed := fun bd => (domain d bd).goldenUsed
  fetchAhead := fun bd => (domain d bd).fetchAhead
  tmLatched := d.bat.latch != 0
  debugOpen := (wmkOf d 6).any (· != 0)
  fwSummary := fwSummary d
  tamperResponse := tamperResponse d

/-- The ledger changed. -/
def modLg (f : Ledger → Ledger) (d : Device) : Device := { d with lg := f d.lg }

/-- Positions the LG cannot offer: bad ones, and the one it is writing. -/
def lgBusyPositions (lg : Ledger) : List Nat :=
  lg.bad ++ lg.jobs.filterMap (fun j => match j with
    | .sheet p _ _ _ _ _ _ => some p
    | .ack _ _ _ => none)

/-- The position R403 yields now. -/
def offeredPosition (d : Device) : Option (Nat × Bool) :=
  choosePosition (wrapPolicy d) d.mem (lgBusyPositions d.lg) d.lg.used d.lg.ovrUpTo.toNat

/-- The ream is full (R403, R410). -/
def reamFull (d : Device) : Bool := d.lg.recovered && (offeredPosition d).isNone

/-- LG_STAT.Available; 0 until the ream is recovered. -/
def lgAvailable (d : Device) : Nat :=
  if d.lg.recovered then available (wrapPolicy d) d.mem (lgBusyPositions d.lg) d.lg.used else 0

/-- LG_STAT.AllAcked: every stored sheet is acknowledged; 0 until the ream is recovered. -/
def allAcked (d : Device) : Bool := d.lg.recovered && (storedPositions d.mem d.lg.bad).all (sheetAcked d.mem)

/-- LG_STAT.NextWillOverride; 0 until the ream is recovered. -/
def nextOverrides (d : Device) : Bool := d.lg.recovered && (offeredPosition d).any (·.2)

/-- LG_STAT.WipeOk (R413). -/
def wipeOk (d : Device) : Bool := allAcked d || d.lg.wipeAccepted

/-- LG_STAT (spec/14). -/
def lgStat (d : Device) : Word :=
  pack [(0, 1, flag (reamFull d)), (1, 1, flag d.lg.degraded), (2, 1, flag (wrapPolicy d)),
    (3, 1, flag (nextOverrides d)), (4, 1, flag (allAcked d)), (5, 1, flag d.lg.recovered), (6, 1, flag (wipeOk d)),
    (16, 12, lgAvailable d)]

/-- LG_RESULT.Busy (R407). -/
def lgBusy (d : Device) : Bool := !d.lg.jobs.isEmpty

/-- Event 0x0A11, once in a full episode (R410). -/
def reamFullEvent (d : Device) : Device :=
  if d.lg.fullEpisode then d
  else
    let low := lowestSheet d.mem ((storedPositions d.mem d.lg.bad).filter (fun p => !sheetAcked d.mem p))
    let waiting := ((List.range 16).filter (fun b => (domain d b).state == .verified)).length
    event 0x0A11 4 [flag (wrapPolicy d), (low.map (sheetNo d.mem)).getD 0xFFFFFFFF, (low.map (sheetBd d.mem)).getD 0xFF, waiting]
      (modLg (fun g => { g with fullEpisode := true }) d)

/-- Low water, once per crossing (R410). -/
def lowWaterEvent (d : Device) : Device :=
  let low := (curLeaf d).ledger.lowWaterSheets
  let av := lgAvailable d
  if decide (av < low) && !d.lg.lowWater then event 0x0A12 3 [av, low, 0, 0] d else d

/-- The start and the end of a full episode (R410). -/
def fullSettle (d : Device) : Device := if reamFull d then reamFullEvent d else modLg (fun g => { g with fullEpisode := false }) d

/-- The conditions the LG watches (R410, R412): low water, a full episode, the end of a release. -/
def lgSettle (d : Device) : Device :=
  if !d.lg.recovered then d
  else
    let spent := d.lg.ovrUpTo.toNat != 0xFFFFFFFF &&
      (storedPositions d.mem d.lg.bad).all (fun p => sheetAcked d.mem p || decide (d.lg.ovrUpTo.toNat < sheetNo d.mem p))
    fullSettle (modLg (fun g => { g with
      lowWater := decide (lgAvailable d < (curLeaf d).ledger.lowWaterSheets), ovrUpTo := if spent then 0xFFFFFFFF else g.ovrUpTo })
      (lowWaterEvent d))

/-- The highest timestamp the event log and the ream hold (R414). -/
def highestTimestamp (m : Memory) : Option Nat :=
  let es := ((List.range 65536).filter (recordValid m)).map (fun j => memLe m (recordAddr j) 8)
  let ss := (heldPositions m).map (fun p => memLe m (sheetAddr p + 0x10) 8)
  (es ++ ss).foldl (fun acc t => some (max t (acc.getD 0))) none

/-- Timestamps taken since the battery loss move with the clock (R414, notes/assumptions/123.md). -/
def shiftTimes (n : Nat) (r : Recorder) : Recorder :=
  let s := fun (x : Suppress) => { x with first := x.first + n, last := x.last + n }
  { r with queue := r.queue.map (fun e => { e with ts := e.ts + n }), suppress := r.suppress.map s, shared := s r.shared, lost := s r.lost }

/-- After a battery loss the counts resume from what both regions of MRAM hold (R414), before the recorder writes its first
record. -/
def resumeTime (d : Device) : Device :=
  if !d.bat.lost then d
  else
    let d1 := { d with bat := { d.bat with lost := false } }
    match highestTimestamp d.mem with
    | none => d1
    | some t =>
      let d2 := { d1 with clock := { powerCycles := satAdd 20 (t / 2 ^ 44) 1, opTime := t % 2 ^ 44 } }
      { d2 with ev := shiftTimes (nowTs d2 - nowTs d) d2.ev }

/-! ### Ledger releases (R411, R412) -/

/-- Why a ledger release is turned away, if it is: 1 its fields, else 2 its signature. -/
def releaseBad (d : Device) (b : List Byte) : Option Nat :=
  let sig := bufBytes b 0x40 5280
  let kind := bufLe b 6 1
  if !(bufLe b 0 4 == 0x524C5842 && bufLe b 4 2 == 1 && within 1 2 kind && bufZero b 7 1 && bufZero b 0x0C 4 &&
      (kind == 1 || bufLe b 8 4 == 0) && bufZero b 0x20 0x20 && decide (b.length = 0x40 + 5280) &&
      bufLe b 0x10 8 != 0 && bufLe b 0x10 8 == serialNo d && bufLe b 0x18 8 == d.lg.nonce) then some 1
  else if bufLe sig 0 4 == 0x47535842 && bufLe sig 4 1 == 1 && bufLe sig 8 4 == 1952 && bufLe sig 12 4 == 3309 &&
      bufZero sig 6 2 && bufZero sig 5277 3 &&
      fusedVerify d 1 (bufLe sig 5 1) (bufBytes sig 16 1952) (ascii "BX6440 SHEET") (shake256 (bufBytes b 0 0x40) 64)
        (bufBytes sig 1968 3309) == 0 then none
  else some 2

/-- A fresh release nonce (R411). -/
def drawNonce (d : Device) : Device := tookFree 8 (modLg (fun g => { g with nonce := leNat (freeBytes d 8) }) d)

/-- An accepted release (R411–R413): Kind 1 sets LG_OVR_UPTO, Kind 2 permits the wipe; the nonce is used. -/
def acceptRelease (b : List Byte) (d : Device) : Device :=
  let d1 := drawNonce d
  lgSettle (if bufLe b 6 1 = 1 then modLg (fun g => { g with ovrUpTo := BitVec.ofNat 32 (bufLe b 8 4) }) d1
    else modLg (fun g => { g with wipeAccepted := true }) d1)

end Sys2Proof.Machine
end

