-- ==== Sys2Proof/Machine/CouchOps.lean ====
section
/-! DEFINITION. What a couch does to the device: aborts, the drain, the journal write, the couch instant, the key commit,
the initial couch (spec/05_couch_transactions.md, R143–R167; spec/01_architecture.md, R22–R26). The commands are in
Machine/Couch.lean. -/

namespace Sys2Proof.Machine

open Sys2Proof

/-- The couch unit changed. -/
def modTx (f : Couch → Couch) (d : Device) : Device := { d with tx := f d.tx }

/-- An event of the couch unit: parameter 4 is the requester (R167). -/
def couchEvent (code sev : Nat) (ps : List Nat) (d : Device) : Device :=
  arriveEvent false code 0xFF sev (fiveParams ps d.tx.requester) d

/-! ### Drain (R24, R156 step C2) -/

/-- Commands of one turnstile that carry a tag and have entered the fabric: those that a fence holds have not (R155), and a
program or erase going on inside its device is no operation. -/
def taggedCmds (d : Device) (f : Nat) (tag : Bool) : Nat :=
  let t := tsAt d f
  let held := fenceHeld d f
  ((t.waiting ++ t.back ++ t.held.flatMap (fun h => h.cmd :: h.rest) ++ t.current.toList).filter
    (fun c => c.tag == some tag && !held.contains c)).length

/-- The commands that each turnstile's fence holds, tagged now (R155). -/
def unfenceAll (held : List (Nat × List FlashCmd)) (d : Device) : Device := held.foldl (fun acc p => unfence p.1 p.2 acc) d

/-- What the fences hold at each device. -/
def allFenced (d : Device) : List (Nat × List FlashCmd) :=
  if d.tx.fenceArmed then (List.range 64).map (fun f => (f, fenceHeld d f)) else []

/-- Operations in flight that carry the tag the next epoch would reuse (TX_DRAIN.OldTagOps). -/
def oldTagOps (d : Device) : Nat :=
  let tag := !curTag d
  (List.range 64).foldl (fun n f => n + taggedCmds d f tag) 0 +
    (List.range 8).foldl (fun n p => n + flag ((portAt d p).read.any (fun r => r.tag == tag))) 0 +
    (List.range 4).foldl (fun n h => n + ((fqOf d h).openGroup.filter (fun x => x.2 == tag)).length) 0 + sweepOldReads d

/-! ### Aborts (R144, R155, R157) -/

/-- The mould is aborted with a reason: fences released, event 0x0904. With FabricLive 0 its committed epoch is TX_EPOCH, which
is 0 then (DESIGN CHOICE, R166 gives a recovered state an epoch before the fabric is live; notes/assumptions/82.md). -/
def abortMould (reason : Nat) (d : Device) : Device :=
  let t := d.tx
  let d1 := modTx (fun x =>
    { x with state := .aborted, abortReason := reason, stateAtAbort := t.state.ctorIdx, pendingAbort := none, siChecking := none, fenceArmed := false }) d
  let d2 := couchEvent 0x0904 3 [reason, t.state.ctorIdx, t.epoch, t.actions.length] d1
  if t.fenceArmed then releasePending (unfenceAll (allFenced d) d2) else d2

/-- The mould can still be aborted by an event of the device (R37, R157): it is in Open to Ready, or in Committing. -/
def mouldOpen (t : Couch) : Bool :=
  match t.state with
  | .opened | .staging | .checking | .ready => true
  | _ => false

/-- A check has ended (TX_CHECK_RESULT); a failure is event 0x0902. -/
def checkEnded (phase : Nat) (r : Option (Nat × Nat)) (d : Device) : Device :=
  let d1 := modTx (fun x => { x with checkCode := (r.map (·.1)).getD 0, checkWhere := (r.map (·.2)).getD 0, checkPhase := phase }) d
  match r with
  | some (c, w) => couchEvent 0x0902 3 [c, w, phase, d.tx.actions.length] d1
  | none => d1

/-! ### The journal (R159, R160, R166) -/

/-- The valid bank as it stands in MRAM: bank, generation, offset of the next record. -/
def journalNow (m : Memory) : Option (Nat × Nat × Nat) :=
  (validBank m).map (fun b => (b, memLe m (bankAddr b + 8) 4, (replayBank m b).next))

/-- TX_JRNL_STAT and TX_JRNL_GEN follow the bank in MRAM. -/
def noteJournal (d : Device) : Device :=
  match journalNow d.mem with
  | some (b, g, n) => modTx (fun x => { x with jrnlValid := true, jrnlBank := b, jrnlGen := g, jrnlNext := n }) d
  | none => d

/-- Compaction where the valid bank has fewer than 8,384 free bytes (R159), with event 0x0906. The bank is filled with zero
first: DESIGN CHOICE, the manual does not say what stands beyond the snapshot (notes/assumptions/104.md). -/
def compactIfShort (d : Device) : Device :=
  match journalNow d.mem with
  | none => d
  | some (b, g, n) =>
    if 8384 ≤ bankSize - n then d
    else
      let c := committedNow d
      couchEvent 0x0906 1 [g + 1, c.epoch, (snapshotOf c).length, 0]
        (noteJournal (mramStore (bankAddr (1 - b)) (bankImage (g + 1) c) (fill (bankAddr (1 - b)) bankSize 0 d)))

/-- A journal with no valid bank gets bank 0 with generation 1 and the empty state (R166), filled with zero first
(notes/assumptions/104.md). -/
def ensureBank (d : Device) : Device :=
  if (validBank d.mem).isSome then d
  else mramStore (bankAddr 0) (bankImage 1 Committed.empty) (fill (bankAddr 0) bankSize 0 d)

/-- Steps C4 and C5: the record and its commit word. -/
def writeRecord (c : Committed) (d : Device) : Device :=
  let t := d.tx
  match journalNow d.mem with
  | none => d
  | some (b, g, n) =>
    noteJournal (mramStore (bankAddr b + n)
      (recordImage g c.epoch (nowTs d) t.requester t.actions (hasSiLoad t) (hasKeyActs t) (mouldKeyGen t) t.pendDigest) d)

/-! ### The couch instant (R22, R54, R141, R228, R237, R264) -/

/-- The condition of a device whose role a couch instant changes (R257): a Primary made a Spare, a Spare made a Primary or
given another Primary. One that is being copied in Probation stays there, without its copy (R263, R264). -/
def instantCond (old : Leaf) (r : FlashRec) (d : Device) : Device :=
  let c := (healthAt d r.f).cond
  match flashOf old r.f with
  | some o =>
    if inProbation d r.f then (if r.role ≠ o.role then setCond r.f 8 (dropResync r.f d) else d)
    else if r.role = 2 ∧ (c = 1 ∨ (o.spareFor ≠ r.spareFor ∧ 2 ≤ c ∧ c ≤ 6)) then
      setCond r.f (if hwRetired d r.spareFor then 6 else 2) (dropResync r.f d)
    else if r.role = 1 ∧ o.role = 2 ∧ 2 ≤ c ∧ c ≤ 6 then setCond r.f 1 (dropResync r.f d)
    else d
  | none => d

/-- One device at the instant: held commands are due, and it is discovered, held in reset or changes its role. -/
def instantDevice (old : Leaf) (oldRetired : List Nat) (d : Device) (f : Nat) : Device :=
  let new := curLeaf d
  let d1 := modTs f holdsDue d
  let was := rstAllowed old oldRetired f
  let is := rstAllowed new d1.tx.retired f
  match flashOf new f with
  | none =>
    settleReset f (modHealth f (fun h => { h with cond := 0 }) (dropResync f d1))
  | some r =>
    let d1 := takeCond f r d1
    let c := (healthAt d1 f).cond
    if r.role = 3 then settleReset f (setCond f 9 d1)
    else if c = 9 ∧ d1.tx.retired.contains f then setCond f 7 d1
    else if !was && is && !hwRetired d1 f && !(devAt d1 f).rstHigh && !(busAt d1 (f / 4)).quarantined then startDiscovery f d1
    else if was && !is then settleReset f d1
    else instantCond old r d1

/-- SPARE_REINSTATE at the instant (R264): the device is in service, its Acting Spare InSync, the locks move back. -/
def reinstate (d : Device) (f : Nat) : Device :=
  let d1 := match spareOf (curLeaf d) f with
    | some s => if (healthAt d s).cond == 6 then moveLocks s f (setCond s 4 d) else d
    | none => d
  let spare := ((flashOf (curLeaf d) f).map (·.role)) == some 2
  setCond f (if spare then 2 else 1) (dropResync f d1)

/-- One domain at the instant of a new SI (R237, R392): a new record is Held with reason 6, a removed one None. -/
def instantDomain (old : Leaf) (d : Device) (bd : Nat) : Device :=
  let new := curLeaf d
  match bdOf old bd, bdOf new bd with
  | none, some _ => modBd bd (fun _ => { state := .held, reason := 6, restart := true }) d
  | some _, none => modBd bd (fun _ => { state := .none }) (returnToReset bd d)
  | some _, some _ => if servedPart old bd == servedPart new bd then d else modBd bd (fun b => { b with structChanged := true }) d
  | none, none => d

/-- Event buckets whose rate changes restart full (R141). -/
def instantBuckets (old : Leaf) (d : Device) : Device :=
  { d with ev := { d.ev with
      taken := d.ev.taken.filter (fun t => eventRate old.eventRates t.1 == eventRate (curLeaf d).eventRates t.1) } }

/-- COUCH_INSTANT (R22): every fabric element goes over to the new leaf; the device already holds the new epoch. -/
def couchInstant (old : Leaf) (oldRetired : List Nat) (held : List (Nat × List FlashCmd)) (acts : List (List Byte)) (d : Device) : Device :=
  let si := acts.any (fun a => actType a == 0x01)
  let d1 := unfenceAll held (modTx (fun x => { x with fenceArmed := false }) (sweepAge d))
  let d2 := (acts.filter (fun a => actType a == 0x07)).foldl (fun acc a => reinstate acc (actByte a 4)) d1
  let d3 := issueAll ((List.range 64).foldl (instantDevice old oldRetired) d2)
  let d4 := channelsInstant old (curLeaf d) (instantBuckets old d3)
  let d5 := if si then sweepInstant (curLeaf d) ((List.range 16).foldl (instantDomain old) d4) else d4
  lgSettle (releasePending d5)

/-! ### The key commit (R335, R343) -/

/-- A new root ends Tamper-Response at the key commit (R343): the latch and the first-alarm fields cleared, event 0x0405. -/
def endTamper (gen : Nat) (d : Device) : Device :=
  if d.bat.latch = 0 then d
  else event 0x0405 3 [gen, d.bat.alarms, 0, 0]
    { d with bat := { d.bat with latch := 0, firstSensor := 0, firstPower := 0, alarms := 0, firstTs := 0, firstTsHi := 0 } }

/-- An extend that stage firmware makes, WMK4 and WMK5 by hart 0 and WMK24 by hart 1, where the image's mask grants it
(R361, R362). -/
def stageExtend (n : Nat) (m : List Byte) (d : Device) : Device :=
  if hasBit (vget d.start.wmkMask (if n < 8 then 0 else 1)) n then extendWmk n m d else d

/-- An extend at a commit: made once stage firmware is attached (notes/assumptions/101.md). -/
def commitExtend (n : Nat) (m : List Byte) (d : Device) : Device :=
  if attached d then stageExtend n m d else { d with att := { d.att with owed := d.att.owed ++ [(n, m)] } }

/-- Stage firmware, attached again, makes the extends of the commits done without it. -/
def extendOwed (d : Device) : Device :=
  d.att.owed.foldl (fun acc e => stageExtend e.1 e.2 acc) { d with att := { d.att with owed := [] } }

/-- A key commit extends WMK5 with the new generation (R362); its 64 bytes are notes/assumptions/111.md. -/
def noteKeys (gen : Nat) (d : Device) : Device := commitExtend 5 (padTo 64 (leBytes 4 gen)) d

/-- The staged key generation is committed at C7: the journal's CommitWord, the root's, the vault; jobs on retired slots
end (R319); in Tamper-Response a new root clears the latch. -/
def commitKeys (d : Device) : Device :=
  let kv := d.kv
  let gen := kv.jrnlGen + 1
  let ins := (installs kv).length
  let ret := retires kv
  let d1 := mramStore (keyBuf (stagedBuf kv) + 0x3FFF8) (leBytes 8 (journalCommit gen)) d
  let d2 := if kv.stagedRoot then
      { d1 with bat := { d1.bat with roots := vmod d1.bat.roots (stagedRootBuf kv) (fun r => { r with commit := rootCommit r.generation }) } }
    else d1
  let sg := slotsChanged (ret.map (·.no)) d2.sg
  let d3 := events sg.2 { d2 with sg := sg.1, kv := commitVault kv d2.bat }
  let d4 := noteKeys gen (event 0x0403 2 [gen, ins, ret.length, flag kv.stagedRoot] d3)
  if kv.stagedRoot then endTamper gen d4 else d4

/-- What hart 1 extends WMK24 with at a commit (R473): the new epoch, the Type bitmap of event 0x0903, the requester. -/
def historyInput (epoch types requester : Nat) : List Byte := padTo 64 (leBytes 4 epoch ++ leBytes 4 types ++ leBytes 1 requester)

/-- Steps C3–C7 (R156, R166). -/
def commitMould (d : Device) : Device :=
  let d0 := if d.tx.fabricLive then d else ensureBank d
  let t := d0.tx
  let c := committedNow d0
  let leaf := resultLeaf d0
  let old := curLeaf d0
  let n := applyActions t.pendDigest t.actions c
  let bits := t.actions.foldl (fun m a => setBit m (actType a)) 0
  let si := hasSiLoad t
  let d1 := writeRecord c d0
  let d2 := modTx (fun x =>
    { x with
      state := .done, epoch := n.epoch, siDigest := n.siDigest, amendments := n.amendments, retired := n.retired
      leafEven := if t.fabricLive && n.epoch % 2 == 0 then leaf else x.leafEven
      leafOdd := if t.fabricLive && n.epoch % 2 == 1 then leaf else x.leafOdd
      siCopyBusy := x.siCopyBusy || si }) d1
  let d3 := if t.fabricLive then couchInstant old t.retired (allFenced d0) t.actions d2 else d2
  let measured := fun (x : Device) => if si then commitExtend 4 (padTo 64 n.siDigest) x else x
  let d4 := commitExtend 24 (historyInput n.epoch bits t.requester) (measured
    (couchEvent 0x0903 2 [n.epoch, t.actions.length, bits, if si then leNat (n.siDigest.take 8) else 0] d3))
  if hasKeyActs t then commitKeys d4 else d4

/-! ### The initial couch (R161, R164) -/

/-- The key journal buffer that holds a generation (R333), with its commit word or without. -/
def keyBufOf (m : Memory) (gen : Nat) : Option Nat :=
  [0, 1].find? (fun b => memLe m (keyBuf b) 4 == 0x4A4B5842 && memLe m (keyBuf b + 4) 2 == 1 && memLe m (keyBuf b + 8) 4 == gen)

/-- The root buffer of a generation that lacks nothing but its CommitWord. -/
def uncommittedRoot (gen : Nat) (x : RootBuf) : Bool :=
  x.generation == gen && x.check == rootCheck gen x.secret && x.commit != rootCommit gen

/-- The root's CommitWord is written where the generation in a journal buffer has a root that lacks it (R336); the commit
of a new root ends Tamper-Response, as C7 would have (R343, notes/assumptions/108.md). -/
def rollRoot (b : Nat) (d : Device) : Bool × Device :=
  let rg := memLe d.mem (keyBuf b + 0x10) 4
  if memLe d.mem (keyBuf b + 0x0C) 4 % 2 = 1 ∧ d.bat.roots.toList.any (uncommittedRoot rg) = true then
    (true, endTamper rg { d with bat := { d.bat with
      roots := d.bat.roots.map (fun x => if uncommittedRoot rg x then { x with commit := rootCommit rg } else x) } })
  else (false, d)

/-- The Persistent slots read again from the committed generation (R336); other slots stay. -/
def reloadKeys (d : Device) : Device :=
  let l := loadVault d.mem d.bat { d.kv with slots := d.kv.slots.filter (fun s => !s.persistent) }
  l.2.foldl (fun acc e => eventsRaw [(0x0406, 4, [l.1.jrnlGen, e.2, e.1, 0, 0])] acc) { d with kv := l.1 }

/-- Roll-forward of the key commit (R161, R336): the journal's CommitWord and the root's, each where it is absent, and a
reload of the vault. Answers whether it wrote one. -/
def rollKeys (r : Replay) (d : Device) : Bool × Device :=
  match if r.lastKeys then keyBufOf d.mem r.lastKeyGen else none with
  | none => (false, d)
  | some b =>
    let missing := !keyBufOk d.mem b
    let q := rollRoot b (if missing then mramStore (keyBuf b + 0x3FFF8) (leBytes 8 (journalCommit r.lastKeyGen)) d else d)
    if missing || q.1 then (true, noteKeys r.lastKeyGen (reloadKeys q.2)) else (false, d)

/-- Roll-forward of the SI copy (R161): 0 nothing to do, 1 copied, 2 no epoch can be loaded. -/
def rollSi (want : List Byte) (d : Device) : Nat × Device :=
  if regionDigest d siActiveBase == want then (0, d)
  else if regionDigest d siPendingBase == want then
    (1, { mramUsed d with mem := memCopy d.mem siPendingBase siActiveBase (siLen d siPendingBase) })
  else (2, d)

/-- A device at the initial couch (R164, R191, R260): retired, Fenced, or released from reset into discovery; a Spare
whose Primary is retired is Acting. -/
def initialDevice (d : Device) (f : Nat) : Device :=
  let L := curLeaf d
  match flashOf L f with
  | none => d
  | some r =>
    let d1 := takeCond f r (modTs f (initialTs L f d.tx.epoch r.initialState) d)
    if r.role = 3 || d.tx.retired.contains f then d1
    else
      let acting := r.role == 2 && d.tx.retired.contains r.spareFor
      startDiscovery f (if acting then setCond f 6 d1 else d1)

/-- A domain at the initial couch (R237, R392): Held, with the reason of the start. -/
def initialDomain (d : Device) (bd : Nat) : Device :=
  match bdOf (curLeaf d) bd with
  | some _ => modBd bd (fun _ => { state := .held, reason := if d.power.resetKind = 3 then 2 else 1, restart := true }) d
  | none => d

/-- The guarding window opens, or goes on after an F2 recovery, whose span ends here (R41, R47). -/
def guardStart (d : Device) : Device :=
  let d1 := spanEndFree d
  { d1 with guard := { d1.guard with winOpen := true }, power := { d1.power with faultHeld := false } }

/-- The initial couch fails (R142). -/
def restoreFails (d : Device) : Device := modTx (fun x => { x with restoreFailed := true }) d

/-- RESTORE (R164): recovery, content checks, leaves, FabricLive. Event 0x0905 is recorded where an epoch is loaded: DESIGN
CHOICE, the manual does not say whether a recovery that loads none records it (notes/assumptions/105.md). -/
def restoreFabric (d : Device) : Device :=
  match validBank d.mem with
  | none => restoreFails d
  | some b =>
    let r := replayBank d.mem b
    let k := rollKeys r d
    let s := rollSi r.state.siDigest k.2
    if s.1 = 2 || (activeCheck s.2).isSome then restoreFails s.2
    else
      let d1 := noteJournal s.2
      let leaf := amendLeaf (parseSi (siAt d1 siActiveBase 0x100000)) r.state.amendments
      let odd := r.state.epoch % 2 == 1
      let d2 := modTx (fun x =>
        { x with
          epoch := r.state.epoch, siDigest := r.state.siDigest, amendments := r.state.amendments, retired := r.state.retired
          leafEven := if odd then x.leafEven else leaf, leafOdd := if odd then leaf else x.leafOdd
          fabricLive := true, restoreFailed := false }) d1
      let d3 := eventsRaw [(0x0905, 2, [r.state.epoch, r.count, flag k.1 + 2 * s.1, memLe d.mem (bankAddr b + 8) 4, 0xFF])] d2
      let d4 := (List.range 64).foldl initialDevice d3
      guardStart (commitExtend 4 (padTo 64 r.state.siDigest) ((List.range 16).foldl initialDomain d4))

end Sys2Proof.Machine
end

