-- ==== Sys2Proof/Machine/I3c.lean ====
section
/-! DEFINITION. The I3C ports: common command codes, channel access, MCTP transport, port reset
(spec/17_mailboxes.md, R488–R496). -/

namespace Sys2Proof.Machine

open Sys2Proof

/-- AID of an I3C port (R12). -/
def portAid (m : Mport) : Nat := 0x18 + m.val

/-- Acknowledged on the bus, with the bytes returned. -/
def acked (bs : List Byte) (d : Device) : Device := reply (0x01 :: bs) d

/-- NACKed: no byte of the reply. -/
def nacked (d : Device) : Device := reply [] d

/-- A NACK for a full buffer or channel is counted (MG_PORTm_CNT). -/
def nackFull (m : Mport) (d : Device) : Device :=
  nacked (modI3c m (fun p => { p with nacks := satAdd 16 p.nacks 1 }) d)

/-- The port answers common command codes: I3C mode with main power up (R492, R556). -/
def cccAwake (d : Device) (m : Mport) : Bool := mainUp d && i3cMode d m == 1

/-- The port answers channel commands and GETSTATUS: also in Deep Sleep (R556). -/
def cccAlive (d : Device) (m : Mport) : Bool := islandUp d && i3cMode d m == 1

/-- A CCC with main power up; NACKed otherwise. -/
def ccc (m : Mport) (f : Device → Device) (d : Device) : Device := if cccAwake d m then f d else nacked d

/-- A CCC that changes the port. -/
def cccSet (m : Mport) (f : I3cPort → I3cPort) (d : Device) : Device := ccc m (fun d1 => acked [] (modI3c m f d1)) d

/-- The event a dynamic address assignment records (R498). -/
def assignAddress (m : Mport) (addr method : Nat) (d : Device) : Device :=
  event 0x0B10 1 [m, addr, method] (acked [] (modI3c m (fun p => { p with daValid := true, dynAddr := addr }) d))

/-- The channels whose interrupt waits for ENEC and that are still full (R489). -/
def waitingIbis (d : Device) (m : Mport) : List Nat := (i3cAt d m).ibiWait.filter (fun c => (chanAt d c).full)

/-- SI Active has a valid header (R107, check 0x01). -/
def siHeaderOk (d : Device) : Bool :=
  memLe d.mem siActiveBase 4 == 0x49535842 && memLe d.mem (siActiveBase + 4) 2 == 1 && memLe d.mem (siActiveBase + 6) 2 == 0x80

/-- The static address of a port (R492): Param of its pin record; for the recovery port that of M0's record in SI Active,
where SI Active has one, and else 0x3A. -/
def i3cStatic (d : Device) (m : Nat) : Nat :=
  let at_ := fun (L : Leaf) => (L.pins.find? (fun p => p.kind == 2 && p.index == m)).map (·.param)
  if recoveryPort d m then (if siHeaderOk d then at_ (parseSi (siAt d siActiveBase 0x100000)) else none).getD 0x3A
  else (at_ (curLeaf d)).getD 0

/-- The mark of the pending-read interrupt of the MCTP binding in a port's list of interrupts. -/
def pendingRead : Nat := 0x80

/-- A message in MCTP packets of 64 bytes (R493), each behind its header: version 1, destination, source, and the byte of
start, end, packet sequence and tag, with the tag owner bit clear as in every response. -/
def mctpPackets (dst src tag : Nat) (bs : List Byte) : List (List Byte) :=
  let n := ceilDiv bs.length 64
  (List.range n).map fun i =>
    [0x01, BitVec.ofNat 8 dst, BitVec.ofNat 8 src,
      BitVec.ofNat 8 ((if i = 0 then 0x80 else 0) + (if i + 1 = n then 0x40 else 0) + 16 * (i % 4) + tag % 8)] ++ (bs.drop (64 * i)).take 64

/-- A response is queued for the sender of a request, by its endpoint ID and message tag, and signalled by the pending-read
IBI (R493). -/
def respondTo (m : Mport) (dst tag : Nat) (bs : List Byte) (d : Device) : Device :=
  reply bs (modI3c m (fun p =>
    { p with
      tx := p.tx ++ mctpPackets dst p.eid tag bs
      ibis := if i3cMode d m == 1 && p.ibiEnabled && !p.ibis.contains pendingRead then p.ibis ++ [pendingRead] else p.ibis }) d)

/-- Source and tag of the message that a port serves first; zeros where none has been reassembled. -/
def requester (p : I3cPort) : Nat × Nat := ((p.msgs.head?).map (fun x => (x.1, x.2.1))).getD (0, 0)

/-- The message that a port serves first is answered (R493). -/
def respond (m : Mport) (bs : List Byte) (d : Device) : Device :=
  let r := requester (i3cAt d m)
  respondTo m r.1 r.2 bs (modI3c m (fun p => { p with msgs := p.msgs.drop 1 }) d)

/-- What firmware is doing for a port's session goes on without an answer. -/
def Sender.without (m : Nat) (v : Sender) : Sender := if v = .port m then .none else v

/-- The work on a port's session is no one's any more. -/
def forgetPort (m : Nat) (d : Device) : Device :=
  { d with
    is_ := { d.is_ with installs := d.is_.installs.map (fun i => { i with via := i.via.without m }) }
    start := { d.start with update := d.start.update.map (fun u => { u with via := u.via.without m }) } }

/-- The open transfer session ends with an outcome (R496–R498, event 0x0B13). -/
def endTransfer (m : Mport) (outcome check : Nat) (d : Device) : Device :=
  match (i3cAt d m).session with
  | none => d
  | some t =>
    event 0x0B13 2 [portAid m, t.kind, outcome + 256 * check, t.len]
      (forgetPort m (modI3c m (fun p => { p with session := none, ending := none }) d))

/-- A response to a Fjarlin message (R497). -/
def fjBytes (command tag status detail : Nat) (body : List Byte) : List Byte :=
  [0x7E, 0x1F, 0xA7] ++ [command ||| 0x80, tag, status, detail].map (fun v => (BitVec.ofNat 8 v : Byte)) ++ body

/-- The content of a port's session, of this Kind, has been consumed: the Transfer end is answered with the outcome and the
check code, and the session ends (R444, R497). A session that has ended meanwhile has no answer. -/
def transferAnswer (m : Mport) (kind outcome check : Nat) (d : Device) : Device :=
  match (i3cAt d m).ending, (i3cAt d m).session with
  | some e, some t =>
    if t.kind = kind then respondTo m e.2.1 e.2.2 (fjBytes 0x12 e.1 0 outcome (leBytes 1 check)) (endTransfer m outcome check d) else d
  | _, _ => d

/-- Packets that a reset of a port discards: those buffered, and those of messages partly reassembled (event 0x0B11). -/
def portPackets (p : I3cPort) : Nat := p.rx.length + (p.asm.map (·.packets)).sum

/-- I3C port reset (R496). -/
def i3cPortReset (m : Mport) (d : Device) : Device :=
  let p := i3cAt d m
  let d1 := channelEndReset (portAid m) (endTransfer m 5 0 d)
  let d2 := modI3c m (fun q =>
    { q with
      rx := [], asm := [], dropping := [], msgs := [], tx := [], select := none, ibis := [], ibiWait := []
      resets := satAdd 8 q.resets 1 }) d1
  event 0x0B11 2 [m, portPackets p, flag p.session.isSome] d2

/-- What a MAIN reset finds in a port: it is a port reset too, whose events the recorder takes as it runs again (R496;
notes/assumptions/126.md). A port without a mode is in no use. -/
def portNote (d : Device) (m : Mport) : Option (Nat × Option (Nat × Nat)) :=
  let p := i3cAt d m
  if i3cMode d m = 0 then p.note else some (portPackets p, p.session.map (fun t => (t.kind, t.len)))

/-- The events of a port reset by MAIN reset (R496, R498). -/
def recordNote (m : Mport) (d : Device) : Device :=
  match (i3cAt d m).note with
  | none => d
  | some n =>
    let d1 := modI3c m (fun p => { p with note := none }) d
    let d2 := match n.2 with
      | some t => event 0x0B13 2 [portAid m, t.1, 5, t.2] d1
      | none => d1
    event 0x0B11 2 [m, n.1, flag n.2.isSome] d2

/-! ### MCTP (R493) -/

/-- A message is discarded (event 0x0B12): reason 1 oversize, 2 sequence, 3 PEC, 4 type. `more` says that packets of it are
still to come. -/
def discardMessage (m : Mport) (src tag reason : Nat) (more : Bool) (d : Device) : Device :=
  event 0x0B12 3 [m, src, reason] (modI3c m (fun p =>
    { p with
      asm := p.asm.filter (fun a => !(a.src == src && a.tag == tag))
      dropping := p.dropping.filter (· != (src, tag)) ++ (if more then [(src, tag)] else [])
      discarded := satAdd 8 p.discarded 1 }) d)

/-- Message types accepted (R493). -/
def mctpTypeOk (t : Byte) : Bool := t == 0x00 || t == 0x05 || t == 0x7E

/-- A message of a type that the port accepts (R493): one vendor defined names PCI vendor ID 0x1FA7. -/
def mctpAccepted (msg : List Byte) : Bool :=
  mctpTypeOk (msg.headD 0) && (msg.headD 0 != 0x7E || bufBytes msg 1 2 == [0x1F, 0xA7])

/-- A message grows by a packet; it is discarded beyond 1,280 bytes, and handed over at its end if its type is one the
port accepts. -/
def extendMessage (m : Mport) (pk : McPacket) (sofar : List Byte) (d : Device) : Device :=
  let data := sofar ++ pk.payload
  if 1280 < data.length then discardMessage m pk.src pk.tag 1 (!pk.eom) d
  else
    let rest := (i3cAt d m).asm.filter (fun a => !(a.src == pk.src && a.tag == pk.tag))
    let n := (((i3cAt d m).asm.find? (fun a => a.src == pk.src && a.tag == pk.tag)).map (·.packets)).getD 0
    if !pk.eom then
      modI3c m (fun p =>
        { p with asm := rest ++ [{ src := pk.src, tag := pk.tag, seq := (pk.seq + 1) % 4, packets := n + 1, data := data }] }) d
    else if !mctpAccepted data then discardMessage m pk.src pk.tag 4 false d
    else modI3c m (fun p => { p with asm := rest, msgs := p.msgs ++ [(pk.src, pk.tag, data)] }) d

/-- A later packet of a message that has been discarded. -/
def dropped (p : I3cPort) (pk : McPacket) : Bool := !pk.som && p.dropping.contains (pk.src, pk.tag)

/-- One packet reassembled (R493); the rest of a discarded message is dropped with it, up to its last packet. -/
def reassemble (m : Mport) (pk : McPacket) (d : Device) : Device :=
  let open_ := (i3cAt d m).asm.find? (fun a => a.src == pk.src && a.tag == pk.tag)
  if dropped (i3cAt d m) pk then
    (if pk.eom then modI3c m (fun p => { p with dropping := p.dropping.filter (· != (pk.src, pk.tag)) }) d else d)
  else if !pk.pecOk then discardMessage m pk.src pk.tag 3 (!pk.eom) d
  else if pk.som then
    let d1 := if open_.isSome then discardMessage m pk.src pk.tag 2 false d else d
    extendMessage m pk [] (modI3c m (fun p => { p with dropping := p.dropping.filter (· != (pk.src, pk.tag)) }) d1)
  else match open_ with
    | none => discardMessage m pk.src pk.tag 2 (!pk.eom) d
    | some a => if a.seq == pk.seq then extendMessage m pk a.data d else discardMessage m pk.src pk.tag 2 (!pk.eom) d

/-- The hart that serves the port: hart 3 attached, or hart 0 in ROM recovery on M0 (R497). -/
def portServed (d : Device) (m : Mport) : Bool :=
  (attached d && !hasBit d.db.halted 3) || (d.start.phase == .recovery && m.val == 0)

/-- The buffered packets are taken up by the hart that serves the port. -/
def drainPackets (m : Mport) (d : Device) : Device :=
  if portServed d m then
    (i3cAt d m).rx.foldl (fun acc pk => reassemble m pk acc) (modI3c m (fun p => { p with rx := [] }) d)
  else d

/-! ### The commands -/

/-- Vendor CCC 0xE0 (R495). -/
def cccSelectEffect (m : Mport) (c : Nat) (d : Device) : Device :=
  if cccAlive d m then acked [] (modI3c m (fun p => { p with select := some c }) d) else nacked d
/-- CCC_SELECT. -/
def execCccSelect (m : Mport) (c : Nat) (s : State) : Host.Outcome State Fault Refusal := s.run (cccSelectEffect m c)

/-- A post by an I3C port (R483, R484): acknowledged, or NACKed. -/
def portPost (m : Mport) (c : Nat) (v : Word) (old : Bool) (d : Device) : Device :=
  match postAnswer d old (portAid m) c with
  | .posted => acked [] (postDone old (portAid m) c v d)
  | .full => nackFull m (postRefused (portAid m) c d)
  | .notSender => nacked d

/-- Vendor CCC 0xE1 (R495). -/
def cccPostEffect (m : Mport) (v : Word) (old : Bool) (d : Device) : Device :=
  if !cccAlive d m then nacked d
  else match (i3cAt d m).select with
    | some c => portPost m c v old d
    | none => nacked d
/-- The six bytes of a take (R495): status bits 7:0 and LostCount before the take, then the word. -/
def portTake (m : Mport) (c : Nat) (d : Device) : Device :=
  let st := chanStatus (curLeaf d) d (portAid m) c
  let w := takeWord (curLeaf d) d (portAid m) c
  taken (curLeaf d) (portAid m) c
    (acked (leBytes 1 (field st 0 8) ++ leBytes 1 (field st 8 8) ++ leBytes 4 w.toNat) d)

/-- Vendor CCC 0xE2 (R495); with nothing selected no channel exists for the port, and zeros are returned. -/
def cccTakeEffect (m : Mport) (d : Device) : Device :=
  if !cccAlive d m then nacked d
  else match (i3cAt d m).select with
    | some c => portTake m c d
    | none => acked (zeros 6) d
/-- CCC_TAKE. -/
def execCccTake (m : Mport) (s : State) : Host.Outcome State Fault Refusal := s.run (cccTakeEffect m)

/-- I2C command 0xC1 (R495): the channel byte is NACKed for another than the sender and on a full channel. -/
def i2cChannelPostEffect (m : Mport) (c : Nat) (v : Word) (old : Bool) (d : Device) : Device :=
  if islandUp d && i3cMode d m == 2 then portPost m c v old d else nacked d
/-- I2C command 0xC2 (R495): the channel byte is NACKed for another than the receiver. -/
def i2cChannelTakeEffect (m : Mport) (c : Nat) (d : Device) : Device :=
  if islandUp d && i3cMode d m == 2 && receives (curLeaf d) (portAid m) c then portTake m c d else nacked d
/-- I2C_CHANNEL_TAKE. -/
def execI2cChannelTake (m : Mport) (c : Nat) (s : State) : Host.Outcome State Fault Refusal :=
  s.run (i2cChannelTakeEffect m c)

/-- One bit of the PEC: CRC-8 with polynomial 0x07. -/
def crc8Bit (c : Nat) : Nat := if 0x80 ≤ c then ((2 * c) ^^^ 0x07) % 0x100 else 2 * c

/-- The PEC of a frame (R493, R494). -/
def pec (bs : List Byte) : Byte :=
  BitVec.ofNat 8 (bs.foldl (fun c b => (List.range 8).foldl (fun x _ => crc8Bit x) (c ^^^ b.toNat)) 0)

/-- A packet read in I3C mode: its PEC covers the address byte of the read and the packet (R493). -/
def i3cFrame (p : I3cPort) (packet : List Byte) : List Byte :=
  packet ++ [pec (BitVec.ofNat 8 (2 * p.dynAddr + 1) :: packet)]

/-- A packet read in I2C mode, framed as the SMBus/I2C binding has it (R494): byte count, source address, packet, and the PEC
over the address bytes, the command code and all of these. -/
def smbusFrame (addr : Nat) (packet : List Byte) : List Byte :=
  let body := BitVec.ofNat 8 (packet.length + 1) :: BitVec.ofNat 8 (2 * addr + 1) :: packet
  body ++ [pec ([BitVec.ofNat 8 (2 * addr), 0x0F, BitVec.ofNat 8 (2 * addr + 1)] ++ body)]

/-- The controller answers the pending interrupt first in line (R489): accepted, it carries MDB 0xE5 and the channel, or
the pending-read byte with the response packet that is then read (notes/assumptions/30.md); NACKed, it is retried. -/
def ibiAcceptedEffect (m : Mport) (ack : Bool) (d : Device) : Device :=
  if !cccAlive d m then d
  else match (i3cAt d m).ibis with
    | [] => d
    | i :: rest =>
      if !ack then nacked d
      else if i = pendingRead then
        let tx := (i3cAt d m).tx
        acked (0xAE :: (tx.head?.map (i3cFrame (i3cAt d m))).getD []) (modI3c m (fun p =>
          { p with tx := tx.drop 1, ibis := if (tx.drop 1).isEmpty then rest else rest ++ [pendingRead] }) d)
      else acked [0xE5, BitVec.ofNat 8 i] (modI3c m (fun p => { p with ibis := rest }) d)
/-- IBI_ACCEPTED. -/
def execIbiAccepted (m : Mport) (acked : Bool) (s : State) : Host.Outcome State Fault Refusal :=
  s.run (ibiAcceptedEffect m acked)

/-- ENEC (R489): bit 0 enables target interrupts and raises those that wait: of channels posted while they were disabled, if
still full, and of a pending response. -/
def enecEffect (m : Mport) (bits : Nat) (d : Device) : Device :=
  ccc m (fun d1 =>
    if bits % 2 = 1 then
      let w := waitingIbis d1 m
      acked [] (modI3c m (fun p =>
        { p with
          ibiEnabled := true, ibiWait := []
          ibis := p.ibis ++ w.filter (fun c => !p.ibis.contains c) ++
            (if p.tx.isEmpty || p.ibis.contains pendingRead then [] else [pendingRead]) }) d1)
    else acked [] d1) d
/-- ENEC. -/
def execEnec (m : Mport) (bits : Nat) (s : State) : Host.Outcome State Fault Refusal := s.run (enecEffect m bits)

/-- DISEC (R492): bit 0 disables target interrupts; those pending wait for ENEC. -/
def disecEffect (m : Mport) (bits : Nat) (d : Device) : Device :=
  cccSet m (fun p =>
    if bits % 2 = 1 then
      { p with ibiEnabled := false, ibis := [], ibiWait := p.ibiWait.filter (fun c => !p.ibis.contains c) ++ p.ibis.filter (· != pendingRead) }
    else p) d
/-- DISEC. -/
def execDisec (m : Mport) (bits : Nat) (s : State) : Host.Outcome State Fault Refusal := s.run (disecEffect m bits)

/-- RSTDAA (R492). -/
def rstdaaEffect (m : Mport) (d : Device) : Device := cccSet m (fun p => { p with daValid := false, dynAddr := 0 }) d
/-- RSTDAA. -/
def execRstdaa (m : Mport) (s : State) : Host.Outcome State Fault Refusal := s.run (rstdaaEffect m)

/-- ENTDAA (R492): a target without a dynamic address takes the one assigned. -/
def entdaaEffect (m : Mport) (addr : Nat) (d : Device) : Device :=
  ccc m (fun d1 => if (i3cAt d1 m).daValid then nacked d1 else assignAddress m addr 2 d1) d
/-- ENTDAA. -/
def execEntdaa (m : Mport) (addr : Nat) (s : State) : Host.Outcome State Fault Refusal := s.run (entdaaEffect m addr)

/-- SETDASA (R492): a target without a dynamic address takes the one assigned to its static address; one with another static
address does not answer. -/
def setdasaEffect (m : Mport) (static addr : Nat) (d : Device) : Device :=
  ccc m (fun d1 => if (i3cAt d1 m).daValid || static != i3cStatic d1 m then nacked d1 else assignAddress m addr 1 d1) d
/-- SETDASA. -/
def execSetdasa (m : Mport) (static addr : Nat) (s : State) : Host.Outcome State Fault Refusal :=
  s.run (setdasaEffect m static addr)

/-- SETNEWDA (R492): a target with a dynamic address takes a new one. -/
def setnewdaEffect (m : Mport) (addr : Nat) (d : Device) : Device :=
  ccc m (fun d1 => if (i3cAt d1 m).daValid then assignAddress m addr 3 d1 else nacked d1) d
/-- SETNEWDA. -/
def execSetnewda (m : Mport) (addr : Nat) (s : State) : Host.Outcome State Fault Refusal := s.run (setnewdaEffect m addr)

/-- The provisional ID (R492), most significant byte first. -/
def provisionalId (d : Device) (m : Mport) : List Byte :=
  (leBytes 6 (Config.mipiManufacturer % 2 ^ 15 * 2 ^ 33 + 2 ^ 32 + serialNo d % 2 ^ 31 * 2 + m.val)).reverse

/-- GETPID (R492). -/
def getpidEffect (m : Mport) (d : Device) : Device := ccc m (fun d1 => acked (provisionalId d1 m) d1) d
/-- GETPID. -/
def execGetpid (m : Mport) (s : State) : Host.Outcome State Fault Refusal := s.run (getpidEffect m)

/-- GETBCR (R492): IBI capable (bit 1) with payload (bit 2), not a controller. -/
def getbcrEffect (m : Mport) (d : Device) : Device := ccc m (acked [0x06]) d
/-- GETBCR. -/
def execGetbcr (m : Mport) (s : State) : Host.Outcome State Fault Refusal := s.run (getbcrEffect m)

/-- GETDCR (R492). -/
def getdcrEffect (m : Mport) (d : Device) : Device := ccc m (acked [Config.mctpDcr]) d
/-- GETDCR. -/
def execGetdcr (m : Mport) (s : State) : Host.Outcome State Fault Refusal := s.run (getdcrEffect m)

/-- GETSTATUS (R492, R556): the pending interrupt number in bits 3:0 of the low byte, which follows the high byte. -/
def getstatusEffect (m : Mport) (d : Device) : Device :=
  if cccAlive d m then acked [0x00, if (i3cAt d m).ibis.isEmpty then 0x00 else 0x01] d else nacked d
/-- GETSTATUS. -/
def execGetstatus (m : Mport) (s : State) : Host.Outcome State Fault Refusal := s.run (getstatusEffect m)

/-- SETMWL (R492): at most the 69 bytes the port takes. -/
def setmwlEffect (m : Mport) (n : Nat) (d : Device) : Device := cccSet m (fun p => { p with mwl := min n 69 }) d
/-- SETMWL. -/
def execSetmwl (m : Mport) (n : Nat) (s : State) : Host.Outcome State Fault Refusal := s.run (setmwlEffect m n)

/-- GETMWL (R492), most significant byte first. -/
def getmwlEffect (m : Mport) (d : Device) : Device := ccc m (fun d1 => acked (leBytes 2 (i3cAt d1 m).mwl).reverse d1) d
/-- GETMWL. -/
def execGetmwl (m : Mport) (s : State) : Host.Outcome State Fault Refusal := s.run (getmwlEffect m)

/-- SETMRL (R492): at most the 69 bytes the port gives. -/
def setmrlEffect (m : Mport) (n : Nat) (d : Device) : Device := cccSet m (fun p => { p with mrl := min n 69 }) d
/-- SETMRL. -/
def execSetmrl (m : Mport) (n : Nat) (s : State) : Host.Outcome State Fault Refusal := s.run (setmrlEffect m n)

/-- GETMRL (R492), most significant byte first. -/
def getmrlEffect (m : Mport) (d : Device) : Device := ccc m (fun d1 => acked (leBytes 2 (i3cAt d1 m).mrl).reverse d1) d
/-- GETMRL. -/
def execGetmrl (m : Mport) (s : State) : Host.Outcome State Fault Refusal := s.run (getmrlEffect m)

/-- RSTACT (R496): 0 no reset, 1 peripheral, 2 whole target. -/
def rstactEffect (m : Mport) (action : Nat) (d : Device) : Device := cccSet m (fun p => { p with rstAction := action }) d
/-- RSTACT. -/
def execRstact (m : Mport) (action : Nat) (s : State) : Host.Outcome State Fault Refusal := s.run (rstactEffect m action)

/-- The target reset pattern (R496): a port reset for peripheral or whole-target reset; the action returns to its
default. -/
def i3cTargetResetEffect (m : Mport) (d : Device) : Device :=
  if !cccAwake d m then d
  else
    let a := (i3cAt d m).rstAction
    let d1 := modI3c m (fun p => { p with rstAction := 1 }) d
    if a = 1 ∨ a = 2 then i3cPortReset m d1 else d1
/-- I3C_TARGET_RESET. -/
def execI3cTargetReset (m : Mport) (s : State) : Host.Outcome State Fault Refusal := s.run (i3cTargetResetEffect m)

/-- An MCTP packet written to the port (R492, R493, R556): NACKed while 32 packets wait or in Deep Sleep. -/
def mctpPacketEffect (m : Mport) (pk : McPacket) (d : Device) : Device :=
  if !mainUp d || i3cMode d m == 0 then nacked d
  else
    let d1 := drainPackets m d
    if 32 ≤ (i3cAt d1 m).rx.length then nackFull m d1
    else drainPackets m (acked [] (modI3c m (fun p => { p with rx := p.rx ++ [pk] }) d1))
/-- MCTP_PACKET. -/
def execMctpPacket (m : Mport) (packet : McPacket) (s : State) : Host.Outcome State Fault Refusal :=
  s.run (mctpPacketEffect m packet)

/-- The BMC fetches a response packet in I2C mode (R494), framed as its binding has it; a count of zero with none. -/
def i2cMctpResponseReadEffect (m : Mport) (d : Device) : Device :=
  if !mainUp d || i3cMode d m != 2 then nacked d
  else match (i3cAt d m).tx with
    | [] => acked [0x00] d
    | p :: rest => acked (smbusFrame (i3cStatic d m) p) (modI3c m (fun q => { q with tx := rest }) d)
/-- I2C_MCTP_RESPONSE_READ. -/
def execI2cMctpResponseRead (m : Mport) (s : State) : Host.Outcome State Fault Refusal :=
  s.run (i2cMctpResponseReadEffect m)

/-- A control message answered by the hart that serves the port; unanswered while none does. -/
def control (m : Mport) (code : Byte) (f : Device → List Byte × Device) (d : Device) : Device :=
  if mainRuns d && i3cMode d m != 0 && portServed d m then
    let r := f d
    respond m ([0x00, 0x00, code] ++ r.1) r.2
  else d

/-- Set Endpoint ID (R493): sets the port's ID; 0x00 and 0xFF are no IDs. -/
def setEndpointIdEffect (m : Mport) (op eid : Nat) (d : Device) : Device :=
  control m 0x01 (fun d1 =>
    if eid = 0 ∨ 255 ≤ eid ∨ 2 ≤ op then ([0x02], d1)
    else ([0x00, 0x00, BitVec.ofNat 8 eid, 0x00], modI3c m (fun p => { p with eid := eid }) d1)) d
/-- SET_ENDPOINT_ID. -/
def execSetEndpointId (m : Mport) (op eid : Nat) (s : State) : Host.Outcome State Fault Refusal :=
  s.run (setEndpointIdEffect m op eid)

/-- Get Endpoint ID (R493). -/
def getEndpointIdEffect (m : Mport) (d : Device) : Device :=
  control m 0x02 (fun d1 => ([0x00, BitVec.ofNat 8 (i3cAt d1 m).eid, 0x00, 0x00], d1)) d
/-- GET_ENDPOINT_ID. -/
def execGetEndpointId (m : Mport) (s : State) : Host.Outcome State Fault Refusal := s.run (getEndpointIdEffect m)

/-- Get MCTP Version Support (R493): the number of version entries and the entries. -/
def getMctpVersionSupportEffect (m : Mport) (t : Nat) (d : Device) : Device :=
  control m 0x04 (fun d1 =>
    if t = 0xFF ∨ mctpTypeOk (BitVec.ofNat 8 t) then
      (0x00 :: BitVec.ofNat 8 ((Config.mctpVersions t).length / 4) :: Config.mctpVersions t, d1)
    else ([0x80], d1)) d
/-- GET_MCTP_VERSION_SUPPORT. -/
def execGetMctpVersionSupport (m : Mport) (msgType : Nat) (s : State) : Host.Outcome State Fault Refusal :=
  s.run (getMctpVersionSupportEffect m msgType)

/-- Get Message Type Support (R493). -/
def getMessageTypeSupportEffect (m : Mport) (d : Device) : Device :=
  control m 0x05 (fun d1 => ([0x00, 0x03, 0x00, 0x05, 0x7E], d1)) d
/-- GET_MESSAGE_TYPE_SUPPORT. -/
def execGetMessageTypeSupport (m : Mport) (s : State) : Host.Outcome State Fault Refusal :=
  s.run (getMessageTypeSupportEffect m)

/-- Get Vendor Defined Message Support (R493): PCI vendor ID 0x1FA7, the only entry. -/
def getVendorDefinedMessageSupportEffect (m : Mport) (selector : Nat) (d : Device) : Device :=
  control m 0x06 (fun d1 => (if selector = 0 then [0x00, 0xFF, 0x00, 0x1F, 0xA7, 0x00, 0x00] else [0x02], d1)) d
/-- GET_VENDOR_DEFINED_MESSAGE_SUPPORT. -/
def execGetVendorDefinedMessageSupport (m : Mport) (selector : Nat) (s : State) : Host.Outcome State Fault Refusal :=
  s.run (getVendorDefinedMessageSupportEffect m selector)

end Sys2Proof.Machine
end

