-- ==== Sys2Proof/Machine/Couch.lean ====
section
/-! DEFINITION. The commands of the couch unit (spec/05_couch_transactions.md, R143–R167). -/

namespace Sys2Proof.Machine

open Sys2Proof

/-- TX_CMD_RESULT of a hart: last command and outcome (0 Accepted, 1 WrongState, 2 NotOwner, 3 MouldFull,
4 NotPermitted, 5 SiPendingBusy, 6 Undefined). -/
def couchResult (h : Hart) (cmd outcome : Nat) (d : Device) : Device :=
  modTx (fun x => { x with results := x.results.set h (cmd, outcome) }) d

/-- A write of TX_CMD by a hart (R144): `outcome` decides, `f` is the effect of an accepted command. -/
def couchCommand (h : Hart) (cmd : Nat) (outcome : Device → Nat) (f : Device → Device) (d : Device) : Device :=
  hartWrite h 8 0x60080000 (fun d1 =>
    let o := outcome d1
    couchResult h cmd o (if o = 0 then f d1 else d1)) d

/-- The hart opened the mould. -/
def couchOwner (h : Hart) (d : Device) : Bool := d.tx.owner == 0x10 + h.val

/-- A requester may be named in an Open (R145). -/
def mayOpen (d : Device) (requester : Nat) : Bool :=
  within 0x10 0x13 requester || (rightsNow d requester).any (·.mayStage)

/-- COUCH_OPEN (R144, R145): the state is tested before the requester (DESIGN CHOICE, notes/assumptions/82.md). -/
def couchOpenEffect (h : Hart) (requester : Nat) (d : Device) : Device :=
  couchCommand h 1 (fun d1 => if d1.tx.state ≠ .idle then 1 else if mayOpen d1 (requester % 256) then 0 else 4)
    (fun d1 => couchEvent 0x0901 1 [0x10 + h.val, 0, 0, 0]
      (modTx (fun x => { x with
        state := .opened, owner := 0x10 + h.val, requester := requester % 256, actions := [], abortReason := 0, stateAtAbort := 0 }) d1)) d
/-- COUCH_OPEN. -/
def execCouchOpen (h : Hart) (requester : Nat) (s : State) : Host.Outcome State Fault Refusal := s.run (couchOpenEffect h requester)

/-- The descriptor in TX_ACT0–TX_ACT7. -/
def actDesc (t : Couch) : List Byte := t.act.toList.flatMap (fun w => leBytes 4 w.toNat)

/-- Outcome of an Append (R144, R145, R158): MouldFull is tested before SiPendingBusy (DESIGN CHOICE,
notes/assumptions/82.md). -/
def appendOutcome (h : Hart) (d : Device) : Nat :=
  let t := d.tx
  if !couchOwner h d then 2
  else if !(t.state == .opened || t.state == .staging || t.state == .ready) || t.siChecking.isSome then 1
  else if 256 ≤ t.actions.length then 3
  else if actType (actDesc t) = 1 ∧ t.siCopyBusy = true then 5
  else 0

/-- COUCH_APPEND (R144, R153): an SI_LOAD first runs the content checks, with SiCheckBusy set. -/
def couchAppendEffect (h : Hart) (d : Device) : Device :=
  couchCommand h 2 (appendOutcome h)
    (fun d1 => modTx (fun x =>
      if actType (actDesc x) = 1 then { x with siChecking := some (actDesc x) }
      else { x with actions := x.actions ++ [actDesc x], state := .staging }) d1) d
/-- COUCH_APPEND. -/
def execCouchAppend (h : Hart) (s : State) : Host.Outcome State Fault Refusal := s.run (couchAppendEffect h)

/-- SI_CONTENT_CHECK_DONE (R153): on a pass the SI_LOAD is appended and SI Pending locked; a failure changes nothing
else. -/
def siContentCheckDoneEffect (d : Device) : Device :=
  match d.tx.siChecking with
  | none => d
  | some a =>
    if !mainRuns d || !(d.tx.state == .opened || d.tx.state == .staging || d.tx.state == .ready) then d
    else
      let n := bufLe a 4 4
      let r := pendingCheck d n
      let d1 := checkEnded 1 r (modTx (fun x => { x with siChecking := none }) d)
      if r.isSome then d1
      else modTx (fun x => { x with
        actions := x.actions ++ [a], state := .staging, sipLocked := true, pendDigest := regionDigest d siPendingBase }) d1
/-- SI_CONTENT_CHECK_DONE. -/
def execSiContentCheckDone (s : State) : Host.Outcome State Fault Refusal := s.run siContentCheckDoneEffect

/-- COUCH_CHECK (R144): WrongState while SiCheckBusy is 1 (DESIGN CHOICE, notes/assumptions/82.md). -/
def couchCheckEffect (h : Hart) (d : Device) : Device :=
  couchCommand h 3
    (fun d1 => if !couchOwner h d1 then 2 else if d1.tx.state ≠ .staging ∨ d1.tx.siChecking.isSome = true then 1 else 0)
    (modTx (fun x => { x with state := .checking })) d
/-- COUCH_CHECK. -/
def execCouchCheck (h : Hart) (s : State) : Host.Outcome State Fault Refusal := s.run (couchCheckEffect h)

/-- COUCH_CHECK_DONE (R144, R154, R159): the result is set; an Abort taken meanwhile takes effect; otherwise Ready, after a
compaction where space is short, or Aborted with reason 2. -/
def couchCheckDoneEffect (d : Device) : Device :=
  if !mainRuns d || d.tx.state != .checking then d
  else
    let c := couchCheck d
    let d1 := checkEnded 2 c d
    match d.tx.pendingAbort with
    | some r => abortMould r d1
    | none => if c.isSome then abortMould 2 d1 else modTx (fun x => { x with state := .ready }) (compactIfShort d1)
/-- COUCH_CHECK_DONE. -/
def execCouchCheckDone (s : State) : Host.Outcome State Fault Refusal := s.run couchCheckDoneEffect

/-- The mould is Committing: a staging session that it was opened for outlives a core reset (R445). -/
def sessionCommits (d : Device) : Device :=
  modLd d.tx.requester (fun l => { l with session := l.session.map (fun s => { s with committed := s.kind == 1 }) }) d

/-- COUCH_COMMIT (R144, R155, R156 step C1): fences are armed and every check runs again. While SiCheckBusy is 1 the answer
is WrongState (DESIGN CHOICE, notes/assumptions/82.md). -/
def couchCommitEffect (h : Hart) (d : Device) : Device :=
  couchCommand h 4 (fun d1 => if h ≠ 0 then 4 else if d1.tx.state ≠ .ready ∨ d1.tx.siChecking.isSome = true then 1 else 0)
    (fun d1 =>
      let d2 := modTx (fun x => { x with state := .committing, fenceArmed := x.fabricLive }) d1
      let c := couchCheck d2
      let d3 := checkEnded 3 c d2
      if c.isSome then abortMould 3 d3 else sessionCommits d3) d
/-- COUCH_COMMIT. -/
def execCouchCommit (h : Hart) (s : State) : Host.Outcome State Fault Refusal := s.run (couchCommitEffect h)

/-- SI_COPY_DONE (R158): SI Pending is unlocked unless the mould of the SI_LOAD is still there (R153). -/
def siCopyDoneEffect (d : Device) : Device :=
  if !mainRuns d || !d.tx.siCopyBusy then d
  else modTx (fun x => { x with siCopyBusy := false, sipLocked := x.sipLocked && hasSiLoad x })
    { mramUsed d with mem := memCopy d.mem siPendingBase siActiveBase (siLen d siPendingBase) }
/-- SI_COPY_DONE. -/
def execSiCopyDone (s : State) : Host.Outcome State Fault Refusal := s.run siCopyDoneEffect

/-- The hart may abort or release the mould: its owner, or hart 0 (R144). -/
def ownerOrHart0 (h : Hart) (d : Device) : Bool := couchOwner h d || h == 0

/-- COUCH_ABORT (R144): in Checking it takes effect when the check ends. -/
def couchAbortEffect (h : Hart) (d : Device) : Device :=
  couchCommand h 5 (fun d1 => if !ownerOrHart0 h d1 then 2 else if mouldOpen d1.tx then 0 else 1)
    (fun d1 => if d1.tx.state = .checking then modTx (fun x => { x with pendingAbort := some 1 }) d1 else abortMould 1 d1) d
/-- COUCH_ABORT. -/
def execCouchAbort (h : Hart) (s : State) : Host.Outcome State Fault Refusal := s.run (couchAbortEffect h)

/-- COUCH_RELEASE (R144, R153, R158): SI Pending stays locked while it is copied. -/
def couchReleaseEffect (h : Hart) (d : Device) : Device :=
  couchCommand h 6
    (fun d1 => if !ownerOrHart0 h d1 then 2 else if d1.tx.state = .done ∨ d1.tx.state = .aborted then 0 else 1)
    (modTx (fun x => { x with state := .idle, owner := 0xFF, requester := 0xFF, actions := [], sipLocked := x.siCopyBusy })) d
/-- COUCH_RELEASE. -/
def execCouchRelease (h : Hart) (s : State) : Host.Outcome State Fault Refusal := s.run (couchReleaseEffect h)

/-- RESTORE (R144, R164–R166). -/
def restoreEffect (h : Hart) (d : Device) : Device :=
  couchCommand h 7 (fun d1 => if h ≠ 0 then 4 else if d1.tx.state ≠ .idle ∨ d1.tx.fabricLive = true then 1 else 0) restoreFabric d
/-- RESTORE. -/
def execRestore (h : Hart) (s : State) : Host.Outcome State Fault Refusal := s.run (restoreEffect h)

/-! ### An SI that the FM-owned LD stages (R452) -/

/-- A mailbox command ends: return code and output payload; the reply is the code, then the payload. -/
def mailboxDone (who : Option Ld) (code : Nat) (out : List Byte) (d : Device) : Device :=
  reply (leBytes 2 code ++ out) (modWho who (fun l =>
    let l1 := { l with mboxRunning := none, mboxReturn := code, mboxOut := out, mboxLength := out.length }
    if l.mboxInt then sendMsi 0 l1 else l1) d)

/-- The SI load that hart 0 does for another sender has ended with an outcome as CX_HP_STG_STAT has it (1 Done,
6 Rejected, 7 CommitFailed): C011h returns (R452; notes/assumptions/49.md), hart 3 records event 0x0D06 for a card
(R518), or a port's Transfer end is answered (R497). -/
def siLoadAnswer (outcome code : Nat) (d : Device) : Device :=
  if d.cx.fm.mboxRunning == some 0xC011 then
    mailboxDone none (if outcome = 1 then 0 else if outcome = 6 then 2 else 4) (if outcome = 6 then [BitVec.ofNat 8 code] else []) d
  else match d.cdWin.siLoad with
    | some (slot, len) =>
      hartEvent 3 0x0D06 3 [slot, 1, outcome, len] { d with cdWin := { d.cdWin with siLoad := none } }
    | none =>
      match (List.finRange 2).find? (fun m => (i3cAt d m.val).loading) with
      | some m => transferAnswer m 1 outcome code (modI3c m.val (fun p => { p with loading := false }) d)
      | none => d

/-- Hart 0 is loading an SI for another sender. -/
def siLoading (d : Device) : Bool :=
  d.cx.fm.mboxRunning == some 0xC011 || d.cdWin.siLoad.isSome || d.mg.toList.any (·.loading)

/-- The commit of such a load has ended: hart 0 releases the mould, and without a live fabric it writes Restore
(R371). -/
def siLoadEnd (d : Device) : Device :=
  if !siLoading d then d
  else
    let ok := d.tx.state == .done
    let d1 := couchReleaseEffect 0 d
    let d2 := if ok && !d1.tx.fabricLive then restoreEffect 0 d1 else d1
    siLoadAnswer (if ok then 1 else 7) 0 d2

/-- COUCH_DRAIN_DONE (R156 C2–C7): no operation of the old tag is left. -/
def couchDrainDoneEffect (d : Device) : Device :=
  if !mainRuns d || d.tx.state != .committing || (d.tx.fabricLive && oldTagOps d != 0) then d else siLoadEnd (commitMould d)
/-- COUCH_DRAIN_DONE. -/
def execCouchDrainDone (s : State) : Host.Outcome State Fault Refusal := s.run couchDrainDoneEffect

/-- COUCH_DRAIN_LIMIT_EXPIRY (R157). -/
def couchDrainLimitExpiryEffect (d : Device) : Device :=
  if mainRuns d && d.tx.state == .committing then siLoadEnd (abortMould 4 d) else d
/-- COUCH_DRAIN_LIMIT_EXPIRY. -/
def execCouchDrainLimitExpiry (s : State) : Host.Outcome State Fault Refusal := s.run couchDrainLimitExpiryEffect

/-- COUCH_UNDEFINED_COMMAND (R144). -/
def couchUndefinedCommandEffect (h : Hart) (code : Nat) (d : Device) : Device :=
  couchCommand h (code % 16) (fun _ => 6) id d
/-- COUCH_UNDEFINED_COMMAND. -/
def execCouchUndefinedCommand (h : Hart) (code : Nat) (s : State) : Host.Outcome State Fault Refusal :=
  s.run (couchUndefinedCommandEffect h code)

/-- A word written to SI Pending at TX_SIP_PTR: the upper word of a pair writes the 64-bit word (TX_SIP_DATA). -/
def sipWrite (v : Word) (d : Device) : Device :=
  let off := 4 * field d.tx.sipPtr 2 18
  let d1 := if off % 8 = 0 then modTx (fun x => { x with sipLow := v }) d
    else mramStore (siPendingBase + off - 4) (leBytes 4 d.tx.sipLow.toNat ++ leBytes 4 v.toNat) d
  modTx (fun x => { x with sipPtr := BitVec.ofNat 32 ((off + 4) % 0x100000) }) d1

/-- SIP_DATA_WRITE (TX_SIP_DATA): a store access fault while SI Pending is locked (R153, R158). -/
def sipDataWriteEffect (h : Hart) (v : Word) (d : Device) : Device :=
  hartWrite h 8 0x60080064 (fun d1 =>
    if d1.tx.sipLocked || d1.tx.siCopyBusy then accessFault h 0x60080064 d1 else sipWrite v d1) d
/-- SIP_DATA_WRITE. -/
def execSipDataWrite (h : Hart) (v : Word) (s : State) : Host.Outcome State Fault Refusal := s.run (sipDataWriteEffect h v)

/-- A check of the load has failed: the mould is aborted and released, and the sender has the check code (R452). -/
def siLoadFails (d : Device) : Device :=
  let code := d.tx.checkCode
  let d1 := if mouldOpen d.tx then couchAbortEffect 0 d else d
  siLoadAnswer 6 code (couchReleaseEffect 0 d1)

/-- Hart 0 cannot load another SI now: a mould is in use, SI Pending is locked or copied, or hart 0 is loading one or
stalled. -/
def siBusy (d : Device) : Bool :=
  d.tx.state != .idle || d.tx.sipLocked || d.tx.siCopyBusy || siLoading d || hartStalled d 0

/-- Hart 0 loads the SI in SI Pending for a requester (R452, R518): it opens a mould, appends the SI_LOAD, and has it
checked and committed. With operations of the old tag in flight the load goes on until the drain ends. -/
def siLoad (requester total : Nat) (d0 : Device) : Device :=
  let desc := [1, 0, 0, 0] ++ leBytes 4 total ++ zeros 24
  let acts : Vector Word 8 := Vector.ofFn (fun i => wordAt desc i.val)
  let d1 := siContentCheckDoneEffect (couchAppendEffect 0 (modTx (fun x => { x with act := acts }) (couchOpenEffect 0 requester d0)))
  if d1.tx.state != .staging then siLoadFails d1
  else
    let d2 := couchCheckDoneEffect (couchCheckEffect 0 d1)
    if d2.tx.state != .ready then siLoadFails d2
    else
      let d3 := couchCommitEffect 0 d2
      if d3.tx.state != .committing then siLoadFails d3 else couchDrainDoneEffect d3

/-- An SI from a card or a port (R371, R444, R518) is written to SI Pending and loaded for its sender's AID; without an epoch
hart 0 is the requester. -/
def takeSi (aid : Nat) (obj : List Byte) (d : Device) : Device :=
  siLoad (if d.tx.fabricLive then aid else 0x10) obj.length (mramStore siPendingBase obj d)

end Sys2Proof.Machine
end

