-- ==== Sys2Proof/Machine/W64.lean ====
section
/-! DEFINITION. The blocks of a W64 link: header, flit slots, CRC-16, RS(144,138) over GF(2^8), lanes and symbols
(spec/15_cxl_host_port.md, R456, R457). Byte 0 of a codeword is the coefficient of the highest power (notes/assumptions/48.md). -/

namespace Sys2Proof.Machine

/-- Multiplication by α in GF(2^8) with field polynomial 0x11D (R456). -/
def gfDouble (a : Nat) : Nat := if 128 ≤ a then (2 * a) ^^^ 0x11D else 2 * a

/-- The product of two field elements: Horner's rule over the bits of `b`, the highest first. -/
def gfMul (a b : Nat) : Nat := (List.range 8).foldl (fun acc i => gfDouble acc ^^^ (if b.testBit (7 - i) then a else 0)) 0

/-- A power of a field element. -/
def gfPow (a : Nat) : Nat → Nat
  | 0 => 1
  | n + 1 => gfMul a (gfPow a n)

/-- The inverse of a field element that is not zero. -/
def gfInv (a : Nat) : Nat := gfPow a 254

/-- Syndrome j of a codeword: its value at α^j. -/
def rsSyndrome (cw : List Nat) (j : Nat) : Nat := cw.foldl (fun acc c => gfMul acc (gfPow 2 j) ^^^ c) 0

/-- The six syndromes (R456: the generator's roots are α^0 to α^5). -/
def rsSyndromes (cw : List Nat) : List Nat := (List.range 6).map (rsSyndrome cw)

/-- The value x^j times e, summed over an error pattern of (position value, magnitude). -/
def patternSyndrome (es : List (Nat × Nat)) (j : Nat) : Nat := es.foldl (fun acc e => acc ^^^ gfMul e.2 (gfPow e.1 j)) 0

/-- One row of a linear system over the field made zero in the pivot's column. -/
def gfClear (p r : List Nat) (k : Nat) : List Nat :=
  let f := gfMul (r.getD k 0) (gfInv (p.getD k 0))
  (r.zip p).map (fun x => x.1 ^^^ gfMul f x.2)

/-- Gauss-Jordan elimination of `n` columns of an augmented system from column `k` on; none where it is singular. -/
def gfSolve (n : Nat) : Nat → Nat → List (List Nat) → List (List Nat) → Option (List (List Nat))
  | 0, _, done, _ => some done
  | fuel + 1, k, done, rows =>
    if k = n then some done
    else match rows.find? (fun r => r.getD k 0 != 0) with
      | none => none
      | some p => gfSolve n fuel (k + 1) ((done.map (fun r => gfClear p r k)) ++ [p]) ((rows.erase p).map (fun r => gfClear p r k))

/-- The solution of an augmented system of `n` unknowns. -/
def gfSolution (n : Nat) (rows : List (List Nat)) : Option (List Nat) :=
  (gfSolve n (n + 1) 0 [] rows).map fun rs =>
    rs.zipIdx.map (fun x => gfMul (x.1.getD n 0) (gfInv (x.1.getD x.2 0)))

/-- The error pattern of exactly `v` bytes that has these syndromes, as (position value, magnitude): locator
coefficients, its roots among the 144 positions, magnitudes, and a check against every syndrome. -/
def rsPattern (s : List Nat) (v : Nat) : Option (List (Nat × Nat)) :=
  let at_ := fun i => s.getD i 0
  match gfSolution v ((List.range v).map (fun j => (List.range v).map (fun i => at_ (j + v - 1 - i)) ++ [at_ (j + v)])) with
  | none => none
  | some l =>
    let isRoot := fun (x : Nat) =>
      gfPow x v == (List.range v).foldl (fun acc i => acc ^^^ gfMul (l.getD i 0) (gfPow x (v - 1 - i))) 0
    let xs := ((List.range 144).map (gfPow 2)).filter isRoot
    if xs.length != v then none
    else match gfSolution v ((List.range v).map (fun j => xs.map (fun x => gfPow x j) ++ [at_ j])) with
      | none => none
      | some es =>
        let p := xs.zip es
        if (List.range 6).all (fun j => patternSyndrome p j == at_ j) && p.all (fun e => e.2 != 0) then some p else none

/-- A codeword corrected, with the number of bytes corrected: up to 3 (R456); none where it cannot be. -/
def rsCorrect (cw : List Nat) : Option (List Nat × Nat) :=
  let s := rsSyndromes cw
  if s.all (· == 0) then some (cw, 0)
  else match (rsPattern s 1).or ((rsPattern s 2).or (rsPattern s 3)) with
    | none => none
    | some p =>
      some (cw.zipIdx.map (fun c => p.foldl (fun acc e => if e.1 = gfPow 2 (143 - c.2) then acc ^^^ e.2 else acc) c.1), p.length)

/-- One bit step of the CRC-16 of polynomial 0x1021. -/
def crc16Bit (c : Nat) : Nat := if 0x8000 ≤ c then ((2 * c) ^^^ 0x1021) % 0x10000 else 2 * c

/-- The CRC-16 of R456: initial value 0xFFFF, no reflection. -/
def crc16 (bs : List Nat) : Nat :=
  bs.foldl (fun c b => (List.range 8).foldl (fun x _ => crc16Bit x) (c ^^^ (b * 0x100))) 0xFFFF

/-- Codeword c of a block: bytes i ≡ c (mod 2) of bytes 0–275, then its six parity bytes. -/
def codeword (b : List Nat) (c : Nat) : List Nat :=
  (List.range 138).map (fun i => b.getD (2 * i + c) 0) ++ (List.range 6).map (fun i => b.getD (276 + 6 * c + i) 0)

/-- A block decoded (R457): its bytes 0–275 and the number of bytes corrected, or none where it is discarded. The CRC covers
bytes 0–273; its high byte stands first. -/
def decodeBlock (block : List Byte) : Option (List Nat × Nat) :=
  let b := block.map (·.toNat)
  match rsCorrect (codeword b 0), rsCorrect (codeword b 1) with
  | some (x, m), some (y, n) =>
    let bytes := (List.range 276).map (fun i => if i % 2 = 0 then x.getD (i / 2) 0 else y.getD (i / 2) 0)
    if crc16 (bytes.take 274) == bytes.getD 274 0 * 256 + bytes.getD 275 0 then some (bytes, m + n) else none
  | _, _ => none

/-! ### What a block holds (R456) -/

/-- Its type: 1 data, 2 alignment. The header is little-endian (R6). -/
def blockType (b : List Nat) : Nat := b.getD 0 0 % 4

/-- Its sequence number, modulo 16,384. -/
def blockSeq (b : List Nat) : Nat := (b.getD 0 0 + 256 * b.getD 1 0) / 4

/-- Its four flit slots, in transmission order. -/
def blockFlits (b : List Nat) : List (List Byte) :=
  (List.range 4).map (fun k => (List.range 68).map (fun i => (BitVec.ofNat 8 (b.getD (2 + 68 * k + i) 0) : Byte)))

/-! ### What the device sends (R456) -/

/-- A polynomial times (x − root), coefficients from the highest power on. -/
def polyTimes (root : Nat) (p : List Nat) : List Nat := List.zipWith (fun a b => a ^^^ gfMul root b) (p ++ [0]) (0 :: p)

/-- The generator of RS(144,138): the product of (x − α^i) for i = 0–5. -/
def rsGenerator : List Nat := (List.range 6).foldl (fun p i => polyTimes (gfPow 2 i) p) [1]

/-- The parity bytes of 138 message bytes: the remainder of the message times x^6, the highest power first. -/
def rsParity (msg : List Nat) : List Nat :=
  msg.foldl (fun r m =>
    let f := m ^^^ r.headD 0
    List.zipWith (fun a g => a ^^^ gfMul f g) (r.tail ++ [0]) rsGenerator.tail) (List.replicate 6 0)

/-- The block of 288 bytes with a header type, a sequence number and the content of bytes 2–273. -/
def encodeBlock (type seq : Nat) (content : List Nat) : List Nat :=
  let h := type + 4 * (seq % 0x4000)
  let body := [h % 256, h / 256] ++ content
  let c := crc16 body
  let b := body ++ [c / 256, c % 256]
  b ++ rsParity ((codeword b 0).take 138) ++ rsParity ((codeword b 1).take 138)

/-- The CXL idle flit. -/
def idleSlot : List Nat := (List.range 68).map (fun i => (Config.idleFlit i).toNat)

/-- The block of a sequence number as the device sends it: every 1,024th is an alignment block, the others carry idle flits
here, for the answers to requests are the replies of their own commands (notes/assumptions/48.md). -/
def sentBlock (seq : Nat) : List Nat :=
  if seq % 1024 = 1023 then encodeBlock 2 seq (List.replicate 272 0x5A)
  else encodeBlock 1 seq (idleSlot ++ idleSlot ++ idleSlot ++ idleSlot)

/-- The level of a bit pair, Gray coded. -/
def pamSymbol (pair : Nat) : Nat := if pair = 3 then 2 else if pair = 2 then 3 else pair

/-- The four symbols of a byte, bit pair 7:6 first. -/
def pamSymbols (byte : Nat) : List Nat := [byte / 64 % 4, byte / 16 % 4, byte / 4 % 4, byte % 4].map pamSymbol

/-- The 36 bytes of a lane: block byte b goes to lane b mod 8. -/
def laneBytes (block : List Nat) (lane : Nat) : List Nat := (List.range 36).map (fun k => block.getD (8 * k + lane) 0)

/-- The symbols of a block, lane by lane. -/
def blockSymbols (block : List Nat) : List Byte :=
  (List.range 8).flatMap (fun lane => (laneBytes block lane).flatMap (fun b => (pamSymbols b).map (fun s => (BitVec.ofNat 8 s : Byte))))

end Sys2Proof.Machine
end

