-- ==== Sys2Proof/Machine/CxlPort.lean ====
section
/-! DEFINITION. The CXL link, the resets of the port and of a logical device, and HDM decoding
(spec/15_cxl_host_port.md, R431–R458). -/

namespace Sys2Proof.Machine

open Sys2Proof

/-- The CX block changed. -/
def modCx (f : CxlPort → CxlPort) (d : Device) : Device := { d with cx := f d.cx }

/-- Hart 1 answers the mailbox and DOE (CX_HP_LD_STAT.HartAttached). -/
def hart1Serves (d : Device) : Bool := attached d && hartUp d 1

/-! ### Staging sessions end (R444, R445) -/

/-- An LD's staging session ends with an outcome: frames freed, event 0x0C06. -/
def endStaging (ld outcome check : Nat) (d : Device) : Device :=
  match (ldOf d ld).session with
  | none => d
  | some s =>
    let d1 := modCx (fun c => { c with
      freeFrames := (List.range 16).filter (fun f => c.freeFrames.contains f || s.slots.any (fun x => x.2 == f))
      ready := c.ready.filter (fun r => r.1 != ld) }) d
    let d2 := modLd ld (fun l => sendMsi 3 { l with
      session := none, stgState := if outcome = 1 then 3 else 4, stgOutcome := outcome, stgCheck := check, stgBase := s.base }) d1
    event 0x0C06 2 [ld, s.kind, outcome + 256 * check, s.len] d2

/-- The hart that consumes a Kind (R443). -/
def stagingConsumer (kind : Nat) : Nat := if kind ≤ 2 then 0 else 2

/-- A core reset ends every session whose mould has not reached Committing (R445). -/
def stagingCoreReset (d : Device) : Device :=
  (List.range 16).foldl (fun acc n => if (ldOf acc n).session.any (·.committed) then acc else endStaging n 5 0 acc) d

/-- SPDM connections reset (R468): hart 1 records 0x0C30 for each. -/
def resetConnections (which : SpdmConn → Bool) (cause : Nat) (d : Device) : Device :=
  let d1 := (d.att.conns.filter which).foldl (fun acc c => hartEvent 1 0x0C30 1 [c.transport, c.eid, cause, 0] acc) d
  { d1 with att := { d1.att with conns := d1.att.conns.filter (fun c => !which c) } }

/-! ### Resets (R453) -/

/-- Acknowledgements of an LD that the LG has not started are discarded (R409). -/
def dropAcks (ld : Nat) (d : Device) : Device :=
  let keep := fun (j : LgJob) => match j with
    | .ack a _ _ => a != ld
    | .sheet _ _ _ _ _ _ _ => true
  modLg (fun g => { g with jobs := g.jobs.take 1 ++ (g.jobs.drop 1).filter keep }) d

/-- What a reset does to a function's configuration space, mailbox and DOE (R453): a function level reset keeps the DVSEC
control, the AER and RAS registers and the messages counted outside, a conventional reset resets the registers too. -/
def resetFunction (conventional : Bool) (l : LogicalDev) : LogicalDev :=
  { l with
    memEnable := l.memEnable && !conventional, busMaster := false, tag10 := false, d3hot := false, msiMask := 0, msiPending := 0
    aerStatus := if conventional then 0 else l.aerStatus, aerHeader := if conventional then [] else l.aerHeader, pci := {}
    aer := if conventional then { sentCor := l.aer.sentCor, sentNonfatal := l.aer.sentNonfatal, sentFatal := l.aer.sentFatal } else l.aer
    ras := if conventional then {} else l.ras, doeReq := none, doeRsp := none, doeError := false
    mboxRunning := none, mboxReturn := 0, mboxOut := [], mboxCmd := 0, mboxLength := 0, mboxInt := false }

/-- What an LD reset does to the LD's registers: host page, mailbox, DOE and the configuration space that a function
level reset resets; the decoder stays. -/
def ldRegisters (conventional : Bool) (started : Bool) (l : LogicalDev) : LogicalDev :=
  { resetFunction conventional l with
    viewWriteDrop := false, channelDrop := false, viewResets := satAdd 16 l.viewResets 1
    decCommitted := l.decCommitted && !conventional, decLocked := l.decLocked && !conventional
    decError := l.decError && !conventional, decBase := if conventional then 0 else l.decBase
    decIg := if conventional then 0 else l.decIg
    stgLen := 0, expFind := 0, expDig := zeros 8, ackOutcome := 0, ackBusy := started, clearOutcome := 0 }

/-- An LD reset (R453), cause 1 FLR, 2 view reset, 3 hot reset vector, 4 conventional. -/
def ldReset (ld cause : Nat) (d : Device) : Device :=
  let l := ldOf d ld
  let started := match d.lg.jobs with
    | .ack a _ _ :: _ => a == ld
    | _ => false
  let d1 := dropAcks ld (endStaging ld 5 0 (modLd ld (fun x => { x with stgState := 0, stgOutcome := 0, stgCheck := 0, stgBase := 0 }) d))
  let d2 := resetConnections (fun c => c.transport == ld) 2 (sweepReset ld (if cause = 4 then 5 else 4) (channelEndReset ld d1))
  let d3 := modLd ld (ldRegisters (cause == 4) started) d2
  event 0x0C04 2 [ld, cause, flag l.session.isSome, flag l.doeReq.isSome] d3

/-- LDs with committed decoders. -/
def committedLds (d : Device) : Nat := bitmap 16 (fun n => (ldOf d n).decCommitted)

/-- A conventional reset of the port (R432, R453): an LD reset of every LD, the link down with event 0x0C02 where it was
up, and training again once CX_PERST# allows it. -/
def conventionalReset (cause : Nat) (retrain : Bool) (d : Device) : Device :=
  let d1 := if d.cx.linkUp then
      event 0x0C02 2 [cause, committedLds d, 0, 0] (modCx (fun c => { c with downCount := satAdd 16 c.downCount 1 }) d) else d
  let d2 := (List.range 16).foldl (fun acc n => ldReset n 4 acc) d1
  modCx (fun c => { c with
    linkUp := false, training := retrain, rate := 0, width := 0, cxl := false, w64Active := false, w64Offered := false
    w64FellBack := false, recentDiscards := 0, w64RxSeq := 0, w64TxSeq := 0, w64Flits := [], fm := resetFunction true c.fm }) d2

/-- CX_PERST_ASSERT (R432). -/
def cxPerstAssertEffect (d : Device) : Device :=
  let d1 := { d with pins := { d.pins with cxPerst := true } }
  if d.pins.cxPerst || !mainRuns d then d1 else conventionalReset 1 false d1
/-- CX_PERST_ASSERT. -/
def execCxPerstAssert (s : State) : Host.Outcome State Fault Refusal := s.run cxPerstAssertEffect

/-- LINK_HOT_RESET (R432). -/
def linkHotResetEffect (d : Device) : Device := if mainRuns d && d.cx.linkUp then conventionalReset 2 true d else d
/-- LINK_HOT_RESET. -/
def execLinkHotReset (s : State) : Host.Outcome State Fault Refusal := s.run linkHotResetEffect

/-- LINK_SURPRISE_DOWN (R432). -/
def linkSurpriseDownEffect (d : Device) : Device := if mainRuns d && d.cx.linkUp then conventionalReset 3 true d else d
/-- LINK_SURPRISE_DOWN. -/
def execLinkSurpriseDown (s : State) : Host.Outcome State Fault Refusal := s.run linkSurpriseDownEffect

/-- The port accepts a proposal under Fjarlin's alternate protocol, from its Details (R455, R457): W64 in bit 0, IO and Mem in
bits 1 and 2 without Cache in bit 3, version 1 in bits 7:4. -/
def acceptsW64 (d : Device) (details : Nat) : Bool :=
  d.cx.w64Enable && !d.cx.w64FellBack && hasBit details 0 && hasBit details 1 && hasBit details 2 && !hasBit details 3 && details / 16 % 16 == 1

/-- LINK_UP (R431, R455): training completes at a rate code and width; `cxl` says that the partner accepts CXL, `w64`
holds the Details of its proposal under Fjarlin's alternate protocol, if it makes one. With neither accepted the link stays
in Detect. -/
def linkUpEffect (rate width : Nat) (cxl : Bool) (w64 : Option Nat) (d : Device) : Device :=
  if !mainRuns d || d.pins.cxPerst || !d.cx.training || d.cx.restarting || !within 1 5 rate || !([1, 2, 4, 8].contains width) then d
  else
    let w := w64.any (acceptsW64 d)
    let d1 := modCx (fun c => { c with w64Offered := w64.any (fun x => hasBit x 0) }) d
    if !w && !cxl then event 0x0C02 2 [4, committedLds d, 0, 0] d1
    else
      let active := w && rate == 5 && width == 8
      let r := if active then 5 else min rate 4
      event 0x0C01 1 [r, width, flag active, 0]
        (modCx (fun c => { c with linkUp := true, training := false, rate := r, width := width, cxl := true, w64Active := active }) d1)
/-- LINK_UP. -/
def execLinkUp (rate width : Nat) (cxl : Bool) (w64 : Option Nat) (s : State) : Host.Outcome State Fault Refusal :=
  s.run (linkUpEffect rate width cxl w64)

/-- What a decoded block leaves: its corrected bytes are counted, its sequence number is held, and the flit slots of a data
block are delivered. -/
def blockTaken (r : List Nat × Nat) (c : CxlPort) : CxlPort :=
  { c with
    corrected := satAdd 16 c.corrected r.2, w64RxSeq := blockSeq r.1
    w64Flits := if blockType r.1 = 1 then blockFlits r.1 else c.w64Flits }

/-- W64_BLOCK_RECEIVED (R456, R457): a block that cannot be corrected, or whose CRC fails, is discarded whole. The reply is
the block that the device sends meanwhile, as its PAM4 symbols lane by lane (notes/assumptions/48.md). -/
def w64BlockReceivedEffect (block : List Byte) (d : Device) : Device :=
  if !cxlUp d || !d.cx.w64Active then d
  else
    let d1 := modCx (fun c => match decodeBlock block with
      | some r => blockTaken r c
      | none => { c with discarded := satAdd 16 c.discarded 1, recentDiscards := c.recentDiscards + 1 }) d
    reply (blockSymbols (sentBlock d.cx.w64TxSeq)) (modCx (fun c => { c with w64TxSeq := (c.w64TxSeq + 1) % 0x4000 }) d1)
/-- W64_BLOCK_RECEIVED. -/
def execW64BlockReceived (block : List Byte) (s : State) : Host.Outcome State Fault Refusal := s.run (w64BlockReceivedEffect block)

/-- W64_FALLBACK (R457): more than 64 blocks were discarded within 1 ms; the link retrains at 32 GT/s. -/
def w64FallbackEffect (discarded corrected : Nat) (d : Device) : Device :=
  if !cxlUp d || !d.cx.w64Active || discarded ≤ 64 then d
  else
    event 0x0C03 3 [discarded, corrected, 0, 0]
      (modCx (fun c => { c with rate := 4, w64Active := false, w64FellBack := true, recentDiscards := 0 }) d)
/-- W64_FALLBACK. -/
def execW64Fallback (discarded corrected : Nat) (s : State) : Host.Outcome State Fault Refusal :=
  s.run (w64FallbackEffect discarded corrected)

/-- FUNCTION_LEVEL_RESET (R453). -/
def functionLevelResetEffect (ld : Ld) (d : Device) : Device := if cxlUp d then ldReset ld 1 d else d
/-- FUNCTION_LEVEL_RESET. -/
def execFunctionLevelReset (ld : Ld) (s : State) : Host.Outcome State Fault Refusal := s.run (functionLevelResetEffect ld)

/-- VIEW_RESET (R453): a write of CX_HP_VIEW_RESET. -/
def viewResetEffect (ld : Ld) (v : Word) (d : Device) : Device := if cxlUp d && bit v 0 then ldReset ld 2 d else d
/-- VIEW_RESET. -/
def execViewReset (ld : Ld) (v : Word) (s : State) : Host.Outcome State Fault Refusal := s.run (viewResetEffect ld v)

/-- HOT_RESET_VECTOR (R435, R453). -/
def hotResetVectorEffect (mask : Nat) (d : Device) : Device :=
  if cxlUp d then (List.range 16).foldl (fun acc n => if hasBit mask n then ldReset n 3 acc else acc) d else d
/-- HOT_RESET_VECTOR. -/
def execHotResetVector (mask : Nat) (s : State) : Host.Outcome State Fault Refusal := s.run (hotResetVectorEffect mask)

/-! ### HDM decoding (R438) -/

/-- HDM_DECODER_COMMIT (R438): a decoder locked on its commit ignores a further one. -/
def hdmDecoderCommitEffect (ld : Ld) (base size iw ig skip : Nat) (lock : Bool) (d : Device) : Device :=
  let l := ldOf d ld
  if !cxlUp d || (l.decCommitted && l.decLocked) then d
  else if l.allocated && base % 0x10000000 == 0 && size == 0x10000000 && iw == 0 && skip == 0 then
    modLd ld (fun x => { x with decCommitted := true, decLocked := lock, decError := false, decBase := base, decIg := ig % 16 }) d
  else
    event 0x0C08 3 [ld, base, size, iw] (modLd ld (fun x => { x with decCommitted := false, decError := true }) d)
/-- HDM_DECODER_COMMIT. -/
def execHdmDecoderCommit (ld : Ld) (base size iw ig skip : Nat) (lock : Bool) (s : State) : Host.Outcome State Fault Refusal :=
  s.run (hdmDecoderCommitEffect ld base size iw ig skip lock)

end Sys2Proof.Machine
end

