-- ==== Sys2Proof/Machine/CxlMem.lean ====
section
/-! DEFINITION. Host memory accesses, the views, and the staging window (spec/03_address_map.md, R103–R106;
spec/15_cxl_host_port.md, R439–R445). -/

namespace Sys2Proof.Machine

open Sys2Proof

/-! ### Views (R103–R106) -/

/-- The EventSourceMask bit of a source AID (R128). -/
def sourceBit (aid : Nat) : Option Nat :=
  if aid ≤ 0x13 then some aid
  else if within 0x20 0x27 aid then some (aid - 0x20 + 24)
  else match aid with
    | 0x18 => some 20
    | 0x19 => some 21
    | 0x1C => some 22
    | 0x1F => some 23
    | 0x30 => some 32
    | 0xFF => some 33
    | _ => none

/-- An agent's rights cover the records of a source AID (R104, R128). -/
def coversSource (d : Device) (aid src : Nat) : Bool :=
  match rightsNow d aid, sourceBit src with
  | some r, some b => hasBit r.eventSourceMask b
  | _, _ => false

/-- An agent's rights cover an image store granule (R104). -/
def coversGranule (d : Device) (aid g : Nat) : Bool :=
  match rightsNow d aid with
  | some r => (curLeaf d).partitions.any (fun p =>
      hasBit r.partitionMask p.partition && decide (p.firstGranule ≤ g ∧ g < p.firstGranule + p.granuleCount))
  | none => false

/-- The image view shows a granule of a partition (R234): it holds bytes of the partition's image, served from the image
store by a domain that has Passed. An image that was served under an earlier epoch lies where that epoch had the partition
(R140); whatever else the granules hold is never served (R232). -/
def granuleShown (d : Device) (n g : Nat) : Bool :=
  d.is_.bds.toList.any (fun b => b.state == .passed && b.images.any (fun i =>
    i.imgRec.partition == n && i.imgRec.serveMode != 2 && decide (i.base ≤ g ∧ g < i.base + ceilDiv i.imgRec.length 65536)))

/-- The image view of an LD shows a granule (R104, R234). -/
def viewGranule (d : Device) (ld g : Nat) : Bool :=
  match rightsNow d ld with
  | some r => (curLeaf d).partitions.any (fun p =>
      hasBit r.partitionMask p.partition && decide (p.firstGranule ≤ g ∧ g < p.firstGranule + p.granuleCount) && granuleShown d p.partition g)
  | none => false

/-- An agent's ledger rights cover the sheet at a ream position (R104). -/
def coversSheet (d : Device) (aid p : Nat) : Bool := hasBit (ledgerMask d aid) (sheetBd d.mem p)

/-- The internal address an offset of an LD's HDM window shows (R103), where the LD's rights cover it (R104); none reads
as zero. -/
def viewAddr (d : Device) (ld offset : Nat) : Option Nat :=
  if !d.tx.fabricLive then none
  else if offset < 0x6000000 then
    if viewGranule d ld (offset / 0x10000) then some (storeBase + offset) else none
  else if offset < 0x7000000 then
    if coversSheet d ld ((offset - 0x6000000) / 0x2000) then some (reamBase + (offset - 0x6000000)) else none
  else if offset < 0x7400000 then
    let o := offset - 0x7000000
    if coversSource d ld (memLe d.mem (eventBase + o / 64 * 64 + 14) 1) then some (eventBase + o) else none
  else none

/-- A 64-bit word cannot be read: it is poisoned, or stored with an uncorrectable flip. -/
def wordLost (d : Device) (a : Nat) : Bool := rangePoisoned d a 8 || rangeBroken d a 8

/-- A line of 64 bytes at an address, with free bytes in the words that cannot be read. -/
def readLine (d : Device) (a : Nat) : List Byte :=
  (List.range 8).flatMap fun k =>
    if wordLost d (a + 8 * k) then (List.range 8).map (fun i => Config.freeByte (d.free + 8 * k + i)) else memRead d.mem (a + 8 * k) 8

/-- The response to a CXL.mem request (R439): its kind (0 Cmp, 1 MemData), MetaField No-Op (3), DevLoad Light Load (0), the data
poison bit, the data. -/
def memResponse (kind : Nat) (poison : Bool) (data : List Byte) : List Byte := [BitVec.ofNat 8 kind, 3, 0, BitVec.ofNat 8 (flag poison)] ++ data

/-- MEM_RD (R439). A request to an LD with no committed decoder is not decoded. -/
def memRdEffect (ld : Ld) (offset : Nat) (d : Device) : Device :=
  if !cxlUp d || !(ldOf d ld).decCommitted then d
  else match viewAddr d ld offset with
    | none => reply (memResponse 1 false (zeros 64)) d
    | some a =>
      let lost := (List.range 8).any (fun k => wordLost d (a + 8 * k))
      readErrors a 64 (tookFree (if lost then 64 else 0) (reply (memResponse 1 lost (readLine d a)) d))
/-- MEM_RD. -/
def execMemRd (ld : Ld) (offset : Nat) (s : State) : Host.Outcome State Fault Refusal := s.run (memRdEffect ld offset)

/-! ### The staging window (R440–R445) -/

/-- The first position of the staging window (R103). -/
def stagingOffset : Nat := 0x8000000

/-- Chunks of a session (R441). -/
def stagingChunks (s : StgSession) : Nat := ceilDiv s.len 0x10000

/-- The frame that takes a write at stream position `p` (R442). -/
def writeFrame (l : LogicalDev) (p : Nat) : Option Nat :=
  match l.session with
  | none => none
  | some s =>
    let c := p / 0x10000
    if l.stgState == 1 && decide (p < s.len) && decide (s.base ≤ c ∧ c < s.base + s.slots.length) && !s.declared.contains c then
      (s.slots.find? (fun x => x.1 == c)).map (·.2)
    else none

/-- A line with the enabled bytes replaced. -/
def mergeLine : List Byte → List Byte → List Bool → List Byte
  | o :: os, n :: ns, e :: es => (if e then n else o) :: mergeLine os ns es
  | _, _, _ => []

/-- The rights leaf grants an LD the staging window now (R105, R106). -/
def stagingGranted (d : Device) (ld : Nat) : Bool := (rightsNow d ld).any (·.stagingWindow)

/-- MEM_WR (R105, R439, R442): a write of one line with byte enables. -/
def memWrEffect (ld : Ld) (offset : Nat) (data : List Byte) (mask : List Bool) (d : Device) : Device :=
  if !cxlUp d || !(ldOf d ld).decCommitted then d
  else
    let p := offset - stagingOffset
    match if stagingGranted d ld = true ∧ stagingOffset ≤ offset ∧ offset < 0xE000000 then writeFrame (ldOf d ld) p else none with
    | some f =>
      let a := frameBase + 0x10000 * f + p % 0x10000
      reply (memResponse 0 false []) (store a (mergeLine (memRead d.mem a 64) data mask) d)
    | none => reply (memResponse 0 false []) (modLd ld (fun l => { l with viewWriteDrop := true }) d)
/-- MEM_WR. -/
def execMemWr (ld : Ld) (offset : Nat) (data : List Byte) (mask : List Bool) (s : State) : Host.Outcome State Fault Refusal :=
  s.run (memWrEffect ld offset data mask)

/-- Some Stopped domain that the agent's ledger rights cover: the recovery channel is open to it (R394). -/
def recoveryOpen (d : Device) (aid : Nat) : Bool :=
  (List.range 16).any (fun b => (domain d b).state == .stopped && hasBit (ledgerMask d aid) b)

/-- Length limit of a Kind (R441). -/
def stagingLimit (kind : Nat) : Nat :=
  if kind = 1 then 0x100000 else if kind = 2 then 0x300000 else 0x6000000

/-- Outcome of a Start (R441): 0 accepted. -/
def startOutcome (d : Device) (ld kind len : Nat) : Nat :=
  if !((rightsNow d ld).any (fun r => r.stagingWindow && r.mayStage)) || !within 1 4 kind || (kind == 3 && !recoveryOpen d ld) then 2
  else if (ldOf d ld).session.isSome ||
      (List.range 16).any (fun n => n != ld && (ldOf d n).session.any (fun s => decide (s.kind ≤ 2))) ||
      d.tx.sipLocked || d.cx.freeFrames.isEmpty || !hart1Serves d then 3
  else if len = 0 || decide (stagingLimit kind < len) then 4
  else 0

/-- An accepted Start (R441): frames, Base 0. -/
def openStaging (ld kind len : Nat) (d : Device) : Device :=
  let fs := d.cx.freeFrames.take (min 4 (ceilDiv len 0x10000))
  modLd ld (fun l => { l with
      session := some { kind := kind, len := len, base := 0, slots := fs.zipIdx.map (fun x => (x.2, x.1)), declared := [], delivered := 0 }
      stgState := 1, stgOutcome := 0, stgCheck := 0, stgBase := 0 })
    (modCx (fun c => { c with freeFrames := c.freeFrames.filter (fun f => !fs.contains f) }) d)

/-- STAGING_START (R441): a write of CX_HP_STG_CTRL; its Abort bit acts first. -/
def stagingStartEffect (ld : Ld) (v : Word) (d : Device) : Device :=
  if !cxlUp d then d
  else
    let d1 := if bit v 30 then endStaging ld 5 0 d else d
    if !bit v 31 then d1
    else
      let kind := field v 0 3
      let len := (ldOf d1 ld).stgLen.toNat
      let o := startOutcome d1 ld kind len
      if o = 0 then openStaging ld kind len d1
      else modLd ld (fun l => { l with stgOutcome := o, stgState := if l.session.isSome then l.stgState else 4 }) d1
/-- STAGING_START. -/
def execStagingStart (ld : Ld) (v : Word) (s : State) : Host.Outcome State Fault Refusal := s.run (stagingStartEffect ld v)

/-- STAGING_ABORT (R445). -/
def stagingAbortEffect (ld : Ld) (d : Device) : Device := if cxlUp d then endStaging ld 5 0 d else d
/-- STAGING_ABORT. -/
def execStagingAbort (ld : Ld) (s : State) : Host.Outcome State Fault Refusal := s.run (stagingAbortEffect ld)

/-- Declared chunks are delivered in ascending order (R443). -/
def deliverChunks : Nat → Nat → StgSession → StgSession × List (Nat × Nat)
  | 0, _, s => (s, [])
  | n + 1, ld, s =>
    if s.declared.contains s.delivered then
      let r := deliverChunks n ld { s with delivered := s.delivered + 1 }
      (r.1, (ld, s.delivered) :: r.2)
    else (s, [])

/-- STAGING_CHUNK_DONE (R443): a declaration outside the window, or made before, is ignored. With the last chunk
declared the session is Processing. -/
def stagingChunkDoneEffect (ld : Ld) (v : Word) (d : Device) : Device :=
  match (ldOf d ld).session with
  | none => d
  | some s =>
    let c := field v 0 11
    if !cxlUp d || !decide (s.base ≤ c ∧ c < s.base + s.slots.length) || s.declared.contains c || decide (stagingChunks s ≤ c) then d
    else
      let r := deliverChunks 1536 ld { s with declared := s.declared ++ [c] }
      let full := decide (r.1.declared.length = stagingChunks s)
      modCx (fun x => { x with ready := x.ready ++ r.2 })
        (modLd ld (fun l => { l with session := some r.1, stgState := if full then 2 else l.stgState }) d)
/-- STAGING_CHUNK_DONE. -/
def execStagingChunkDone (ld : Ld) (v : Word) (s : State) : Host.Outcome State Fault Refusal := s.run (stagingChunkDoneEffect ld v)

/-- The kind of an LD's session. -/
def sessionKind (d : Device) (ld : Nat) : Nat := ((ldOf d ld).session.map (·.kind)).getD 0

/-- The word of CX_STG_READY for a delivered chunk. -/
def readyWord (d : Device) (ld c : Nat) : Word :=
  match (ldOf d ld).session with
  | none => 0
  | some s =>
    pack [(0, 4, ((s.slots.find? (fun x => x.1 == c)).map (·.2)).getD 0), (4, 4, ld), (8, 11, c), (19, 3, s.kind),
      (22, 1, flag (c + 1 == stagingChunks s)), (31, 1, 1)]

/-- STAGING_READY_POP (R443): a hart's read of CX_STG_READY pops the next chunk delivered to it. -/
def stagingReadyPopEffect (h : Hart) (d : Device) : Device :=
  if !mainRuns d || hartStalled d h then d
  else match d.cx.ready.find? (fun r => stagingConsumer (sessionKind d r.1) == h.val) with
    | none => replyWord 0 d
    | some r => replyWord (readyWord d r.1 r.2) (modCx (fun c => { c with ready := c.ready.erase r }) d)
/-- STAGING_READY_POP. -/
def execStagingReadyPop (h : Hart) (s : State) : Host.Outcome State Fault Refusal := s.run (stagingReadyPopEffect h)

/-- A session whose frame is released: the frame goes to the next chunk, or is free once no chunk is left for it. -/
def releaseFrame (s : StgSession) (f : Nat) : StgSession × Bool :=
  let next := s.slots.foldl (fun n x => max n (x.1 + 1)) 0
  let rest := s.slots.filter (fun x => x.2 != f)
  let more := decide (next < stagingChunks s)
  let slots := if more then rest ++ [(next, f)] else rest
  ({ s with slots := slots, base := slots.foldl (fun n x => min n x.1) (stagingChunks s) }, !more)

/-- STAGING_RELEASE (R443): the consumer frees a frame whose chunk has been delivered. -/
def stagingReleaseEffect (h : Hart) (v : Word) (d : Device) : Device :=
  hartWrite h 12 0x600C0104 (fun d1 =>
    let f := field v 0 4
    let holder := (List.range 16).find? (fun n => (ldOf d1 n).session.any (fun s =>
      stagingConsumer s.kind == h.val && s.slots.any (fun x => x.2 == f && decide (x.1 < s.delivered))))
    match if bit v 8 then holder else none with
    | none => d1
    | some n => match (ldOf d1 n).session with
      | none => d1
      | some s =>
        let r := releaseFrame s f
        let d2 := modLd n (fun l => { l with session := some r.1, stgBase := r.1.base }) d1
        if r.2 then modCx (fun c => { c with
          freeFrames := (List.range 16).filter (fun x => c.freeFrames.contains x || x == f) }) d2 else d2) d
/-- STAGING_RELEASE. -/
def execStagingRelease (h : Hart) (v : Word) (s : State) : Host.Outcome State Fault Refusal := s.run (stagingReleaseEffect h v)

/-- STAGING_END (R444): the consumer of a session ends it with an outcome. -/
def stagingEndEffect (h : Hart) (v : Word) (d : Device) : Device :=
  hartWrite h 12 0x600C0108 (fun d1 =>
    let ld := field v 0 4
    if bit v 16 && (ldOf d1 ld).session.any (fun s => stagingConsumer s.kind == h.val) then
      endStaging ld (field v 4 4) (field v 8 8) d1 else d1) d
/-- STAGING_END. -/
def execStagingEnd (h : Hart) (v : Word) (s : State) : Host.Outcome State Fault Refusal := s.run (stagingEndEffect h v)

end Sys2Proof.Machine
end

