-- ==== Sys2Proof/Machine/Manifest.lean ====
section
/-! DEFINITION. The manifest area of a slot and its checks, the start and the rejection of a slot
(spec/13_platform_boot.md, R377–R394). The commands are in Machine/ServingCmds.lean. -/

namespace Sys2Proof.Machine

open Sys2Proof

/-! ### Signature blocks and areas (R134, R377–R383) -/

/-- The fields of a signature block hold their values (R134): Magic, the two lengths, zero fields. -/
def sigBlockOk (b : List Byte) : Bool :=
  bufLe b 0 4 == 0x47535842 && bufLe b 8 4 == 1952 && bufLe b 12 4 == 3309 && bufZero b 6 2 && bufZero b 5277 3 &&
    decide (5280 ≤ b.length)
/-- KeyKind of a signature block. -/
def sigKind (b : List Byte) : Nat := bufLe b 4 1
/-- KeySlot of a signature block. -/
def sigSlot (b : List Byte) : Nat := bufLe b 5 1
/-- The public key of a signature block. -/
def sigKey (b : List Byte) : List Byte := bufBytes b 16 1952
/-- The signature of a signature block. -/
def sigBytes (b : List Byte) : List Byte := bufBytes b 1968 3309

/-- A manifest area as read: the manifest, its parts, and the key manifest behind KeyManifestOffset. -/
structure Area where
  man : List Byte
  count : Nat
  sigOff : Nat
  heads : List (List Byte)
  sig : List Byte
  keyOff : Nat
  keys : List Byte
  keyCount : Nat
  entries : List (List Byte)
  keySig : List Byte

/-- The parts of a manifest and of the key manifest behind it (R378, R381). -/
def areaOf (a k : List Byte) : Area :=
  let n := bufLe a 0x13 1
  let so := 128 + 128 * n
  let ko := bufLe a 0x14 4
  let m := bufLe k 0x11 1
  { man := a, count := n, sigOff := so, heads := (List.range n).map (fun i => bufBytes a (128 + 128 * i) 128)
    sig := bufBytes a so 5280, keyOff := ko, keys := k, keyCount := m
    entries := (List.range m).map (fun i => bufBytes k (64 + 96 * i) 96), keySig := bufBytes k (64 + 96 * m) 5280 }

/-- The parts of an area in one piece, as a bundle brings it. -/
def parseArea (a : List Byte) : Area := areaOf a (a.drop (bufLe a 0x14 4))

/-- AreaLength of R377. -/
def Area.length (a : Area) : Nat := if sigKind a.sig = 3 then a.keyOff + bufLe a.keys 8 4 else bufLe a.man 8 4

/-- The digest that a manifest's signature covers (R383). -/
def Area.digest (a : Area) : List Byte := shake256 (a.man.take a.sigOff) 64
/-- The digest that the key manifest's signature covers (R380). -/
def Area.keyDigest (a : Area) : List Byte := shake256 (a.keys.take (64 + 96 * a.keyCount)) 64
/-- The manifest is signed by a delegated key (R383). -/
def Area.delegated (a : Area) : Bool := sigKind a.sig == 3
/-- SecurityVersion of the manifest. -/
def Area.version (a : Area) : Nat := bufLe a.man 0x12 1
/-- SecurityVersion of the key manifest. -/
def Area.keyVersion (a : Area) : Nat := bufLe a.keys 0x10 1
/-- The key manifest entry that KeySlot names. -/
def Area.entry (a : Area) : Option (List Byte) := a.entries.find? (fun e => bufLe e 0 1 == sigSlot a.sig)

/-- TargetSerial passes (R378). -/
def serialPasses (d : Device) (b : List Byte) (off : Nat) : Bool :=
  bufLe b off 8 == 0 || bufLe b off 8 == serialNo d

/-- Header, headers and zero fields of a manifest (R384, 0x02). -/
def manifestFormOk (a : Area) : Bool :=
  bufLe a.man 0 4 == 0x4D425842 && bufLe a.man 4 2 == 1 && bufLe a.man 6 2 == 0x80 &&
    bufLe a.man 8 4 == 5408 + 128 * a.count && bufLe a.man 12 4 == a.sigOff && decide (1 ≤ a.count) && bufZero a.man 0x28 24 &&
    a.heads.all (fun h => bufZero h 19 1 && bufZero h 24 8 && bufZero h 96 32) && bufZero a.sig 6 2 && bufZero a.sig 5277 3

/-- Strictly ascending bytewise from byte 0 (R381). -/
def bytesLt : List Byte → List Byte → Bool
  | [], _ => false
  | _, [] => false
  | x :: xs, y :: ys => decide (x.toNat < y.toNat) || (x == y && bytesLt xs ys)

/-- Each element of a list is below the next. -/
def ascending {α : Type} (lt : α → α → Bool) : List α → Bool
  | a :: b :: tl => lt a b && ascending lt (b :: tl)
  | _ => true

/-- Key manifest form (R378–R380, 0x11); its signature block is one of an owner root key. -/
def keyFormOk (d : Device) (a : Area) : Bool :=
  bufLe a.keys 0 4 == 0x4D4B5842 && bufLe a.keys 4 2 == 1 && bufLe a.keys 6 2 == 0x40 &&
    bufLe a.keys 8 4 == 5344 + 96 * a.keyCount && bufLe a.keys 12 4 == 64 + 96 * a.keyCount && within 1 16 a.keyCount &&
    bufZero a.keys 0x12 6 && a.entries.all (fun e => decide (bufLe e 0 1 ≤ 15) && decide (bufLe e 1 1 ≤ 1) && bufZero e 4 12 && bufZero e 80 16) &&
    ascending (fun x y => decide (bufLe x 0 1 < bufLe y 0 1)) a.entries && serialPasses d a.keys 0x18 &&
    sigBlockOk a.keySig && sigKind a.keySig == 1 && decide (sigSlot a.keySig ≤ 7)

/-- Verify code of the key manifest (R380). -/
def keyVerify (d : Device) (a : Area) : Nat :=
  fusedVerify d 1 (sigSlot a.keySig) (sigKey a.keySig) (ascii "BX6440 KEYS") a.keyDigest (sigBytes a.keySig)

/-- Verify code of the manifest (R383): KeySource 1, or 3 with the entry's PubKeyDigest. -/
def manifestVerify (d : Device) (a : Area) : Nat :=
  let ctx := ascii "BX6440 MANIFEST"
  if a.delegated then
    match a.entry with
    | some e => if shake256 (sigKey a.sig) 64 != bufBytes e 16 64 then 3 else verifyCode (sigKey a.sig) ctx a.digest (sigBytes a.sig)
    | none => 3
  else fusedVerify d 1 (sigSlot a.sig) (sigKey a.sig) ctx a.digest (sigBytes a.sig)

/-- The image records of a slot with their indices in the image table (R111, R390). -/
def slotImages (L : Leaf) (bd slot : Nat) : List (ImageRec × Nat) :=
  L.images.zipIdx.filter (fun p => p.1.bd == bd && p.1.slot == slot)

/-- An image header agrees with its record (R390). -/
def headerFits (r : ImageRec) (h : List Byte) : Bool := bufBytes h 0 16 == r.imageId && bufLe h 20 4 == r.length

/-- Detail of a version check (event 0x0841). -/
def versionDetail (found floor : Nat) : Nat := found % 256 + 256 * (floor % 256)

/-- Code of a verify job: 12 where it meets an engine fault, or no verify unit is in service (R318). -/
def jobCode (d : Device) (fault : Bool) (code : Nat) : Nat :=
  if fault || (d.sg.units[0].offline && d.sg.units[1].offline) then 12 else code

/-- The checks of R384 in their order, each with the detail of event 0x0841. `size` is 2^SizeLog2 of the locator's
device, `off` its Offset; `readsOk` says that every read issued for the manifest completed; `fault` has bit 0 set where the
key manifest's verify job meets an engine fault, bit 1 for the manifest's. A job with code 12 fails the last check alone. -/
def areaChecks (d : Device) (bd slot size off : Nat) (readsOk : Bool) (fault : Nat) (a : Area) :
    List (Nat × (Unit → Option Nat)) :=
  let L := curLeaf d
  let test := fun (b : Bool) (detail : Nat) => if b then none else some detail
  let total := bufLe a.man 8 4
  let kv := jobCode d (hasBit fault 0) (keyVerify d a)
  let mv := jobCode d (hasBit fault 1) (manifestVerify d a)
  let keyed := a.delegated
  [ (0x02, fun _ => test (decide (off + total ≤ size)) 0),
    (0x01, fun _ => test readsOk 0),
    (0x02, fun _ => test (manifestFormOk a && decide (total ≤ a.man.length)) 0),
    (0x03, fun _ => test (bufLe a.man 0x10 1 == bd && bufLe a.man 0x11 1 == slot && serialPasses d a.man 0x18) 0),
    (0x04, fun _ => test (sigBlockOk a.sig &&
      ((sigKind a.sig == 1 && decide (sigSlot a.sig ≤ 7) && a.keyOff == 0) ||
        (keyed && decide (sigSlot a.sig ≤ 15) && a.keyOff % 4096 == 0 && decide (alignUp 4096 total ≤ a.keyOff)))) 0),
    (0x10, fun _ => test (!keyed || (decide (off + a.keyOff + max 64 (bufLe a.keys 8 4) ≤ size) &&
      decide (64 ≤ a.keys.length) && decide (min (bufLe a.keys 8 4) maxKeyManifest ≤ a.keys.length))) 0),
    (0x11, fun _ => test (!keyed || keyFormOk d a) 0),
    (0x12, fun _ => test (!keyed || !(kv == 3 || kv == 4)) kv),
    (0x13, fun _ => test (!keyed || kv == 0 || kv == 12) kv),
    (0x14, fun _ => test (!keyed || decide (floorOf L 0x0100 ≤ a.keyVersion)) (versionDetail a.keyVersion (floorOf L 0x0100))),
    (0x15, fun _ => test (!keyed || a.entry.any (fun e => !(bufLe e 1 1).testBit 0 && (bufLe e 2 2).testBit bd)) 0),
    (0x16, fun _ => test (keyed || !(mv == 3 || mv == 4)) mv),
    (0x20, fun _ => test (!keyed || mv != 3) mv),
    (0x21, fun _ => test (mv == 0 || mv == 12) mv),
    (0x22, fun _ => test (decide (floorOf L (0x0110 + bd) ≤ a.version)) (versionDetail a.version (floorOf L (0x0110 + bd)))),
    (0x23, fun _ => test (ascending (fun x y => bytesLt (bufBytes x 0 16) (bufBytes y 0 16)) a.heads &&
      a.heads.length == (slotImages L bd slot).length &&
      (a.heads.zip (slotImages L bd slot)).all (fun p => headerFits p.2.1 p.1)) 0),
    (0x24, fun _ => ((a.heads.find? (fun h => !(decide (0x0200 ≤ bufLe h 16 2) &&
      decide (floorOf L (bufLe h 16 2) ≤ bufLe h 18 1)))).map
        (fun h => versionDetail (bufLe h 18 1) (floorOf L (bufLe h 16 2))))),
    (0x3F, fun _ => test (!((keyed && kv == 12) || mv == 12)) 12) ]

/-- The first failing check of an area, as (code, detail). -/
def checkArea (d : Device) (bd slot size off : Nat) (readsOk : Bool) (fault : Nat) (a : Area) : Option (Nat × Nat) :=
  firstFail (areaChecks d bd slot size off readsOk fault a)

/-! ### Start and Reject (R389–R393) -/

/-- The locator of a slot. -/
def locatorOf (r : BdRec) (slot : Nat) : Locator := if slot = 0 then r.slotA else if slot = 1 then r.slotB else r.golden

/-- Start or Reject has an effect on a slot (R389). -/
def slotServable (d : Device) (bd slot : Nat) : Bool :=
  match bdOf (curLeaf d) bd with
  | some r => (slot == r.activeSlot || slot == 2) && locPresent (locatorOf r slot) && !hasBit (domain d bd).failedSlots slot &&
      (domain d bd).state == .held
  | none => false

/-- A slot rejected: cause 7 (R393). -/
def rejectSlot (bd slot : Nat) (d : Device) : Device :=
  let n := (slotImages (curLeaf d) bd slot).length
  slotFailed bd 0xFF 7 (modBd bd (fun b => { b with slot := slot, imagesTotal := n }) d)

/-- A waiting domain that still waits for resources takes precedence (R243). -/
def othersWait (d : Device) (bd : Nat) : Bool :=
  (List.range 16).any (fun b => b != bd && (domain d b).state == .waiting && (domain d b).waitRecorded)

/-- The place of a request to be served: behind every domain that is short of a resource (R243). -/
def newRank (d : Device) (bd : Nat) : Nat :=
  (List.range 16).foldl (fun n b =>
    if b != bd && (domain d b).state == .waiting && (domain d b).waitRecorded then max n ((domain d b).waitRank + 1) else n) 0

/-- Event 0x0844, once per sequence (R391). -/
def recordDependency (bd : Nat) (d : Device) : Device :=
  match bdOf (curLeaf d) bd with
  | some r =>
    if afterPassed d bd || (domain d bd).depRecorded then d
    else hartEvent 2 0x0844 2 [bd, r.afterBd, (domain d r.afterBd).state.ctorIdx, 0] (modBd bd (fun b => { b with depRecorded := true }) d)
  | none => d

/-- Start (R390): the headers are compared with the slot's records, the images are set up, and the domain is served or
waits. -/
def startSlot (bd slot : Nat) (heads : List (List Byte)) (d : Device) : Device :=
  let L := curLeaf d
  let recs := slotImages L bd slot
  if heads.length != recs.length || (recs.zip heads).any (fun p => !headerFits p.1.1 p.2) then rejectSlot bd slot d
  else
    let imgs := (recs.zip heads).map (fun p =>
      ({ imgRec := p.1.1, base := ((partOf L p.1.1.partition).map (·.firstGranule)).getD 0, recIdx := p.1.2
         digest := bufBytes p.2 32 64, ctx := 4096, cmp := 256, units := 0, burst := none, retried := false, tags := []
         lastRead := d.clock.opTime, closed := false, verified := false } : ServeImage))
    let d1 := modBd bd (fun b => { b with
      slot := slot, goldenUsed := b.goldenUsed || slot == 2, images := imgs, imagesTotal := imgs.length, imagesVerified := 0
      fetchAhead := imgs.any (fun i => i.imgRec.serveMode == 1), streamed := imgs.any (fun i => i.imgRec.serveMode == 2)
      seqRunning := true, restart := false, waitRecorded := false, waitRank := newRank d bd }) d
    recordDependency bd (if othersWait d1 bd then modBd bd (fun b => { b with state := .waiting }) d1 else tryServe bd d1)

/-- Extends E1–E3 of R388. -/
def extendStart (bd slot reason : Nat) (a : Area) (d : Device) : Device :=
  let e1 := [bd, slot, reason, a.version, sigKind a.sig, sigSlot a.sig, if a.delegated then a.keyVersion else 0xFF, 0].map
      (fun v => (BitVec.ofNat 8 v : Byte)) ++ leBytes 4 d.tx.epoch
  let d1 := extendWmk (8 + bd) e1 d
  let d2 := if a.delegated then extendWmk (8 + bd) a.keyDigest d1 else d1
  extendWmk (8 + bd) a.digest d2

end Sys2Proof.Machine
end

