-- ==== Sys2Proof/Machine/Start.lean ====
section
/-! DEFINITION. Firmware images, the ROM run, deckle, watermarks, hand-over, the firmware slot write path
(spec/12_device_start.md, R347–R375; spec/11_keys_and_tamper.md, R323). The core reset is in Machine/Power.lean. -/

namespace Sys2Proof.Machine

open Sys2Proof

/-! ### Firmware images (R347–R351) -/

/-- Base of a firmware slot: 0 Active, 1 Golden (R95). -/
def fwBase (slot : Nat) : Nat := if slot = 0 then fwActiveBase else fwGoldenBase
/-- Size of a firmware slot. -/
def fwSlotSize : Nat := 0x300000
/-- Where ROM recovery places an image (R369). -/
def fwBufferBase : Nat := 0x20040000

/-- A segment descriptor as (Kind, Offset, Length, LoadAddr) (R348). -/
def fwSegment (b : List Byte) : Nat × Nat × Nat × Nat := (bufLe b 0 1, bufLe b 4 4, bufLe b 8 4, bufLe b 12 4)

/-- The four descriptors of an image header. -/
def segDescs (h : List Byte) : List (List Byte) := (List.range 4).map (fun i => bufBytes h (0x50 + 16 * i) 16)

/-- The descriptors that are not zero. -/
def usedDescs (h : List Byte) : List (List Byte) := (segDescs h).filter (fun b => b.any (· != 0))

/-- The fields of an image header that the device keeps (R347). -/
def parseFw (h : List Byte) : FwHeader where
  secVer := bufLe h 0x10 1
  installGolden := bufLe h 0x11 1 % 2 == 1
  entryOffset := bufLe h 0x14 4
  blockMask := (List.range 4).map (fun k => bufLe h (0x28 + 4 * k) 4)
  wmkMask := (List.range 4).map (fun k => bufLe h (0x38 + 4 * k) 4)
  mramWrite := bufLe h 0x48 1 % 2 == 1
  segments := (usedDescs h).map fwSegment

/-- Check 1 of R350: fixed fields, lengths, zero fields of header, descriptors and signature block. -/
def fwFormOk (h sig : List Byte) : Bool :=
  bufLe h 0 4 == 0x57465842 && bufLe h 4 2 == 1 && bufLe h 6 2 == 0x100 && bufLe h 8 4 % 16 == 0 &&
    decide (bufLe h 8 4 ≤ fwSlotSize) && bufLe h 12 4 + 5280 == bufLe h 8 4 && decide (bufLe h 0x11 1 ≤ 1) &&
    bufZero h 0x49 7 && bufZero h 0x90 48 && (segDescs h).all (fun b => bufZero b 1 3) &&
    bufZero sig 6 2 && bufZero sig 5277 3

/-- Two segments overlap. -/
def segsMeet (a b : Nat × Nat × Nat × Nat) : Bool := overlaps a.2.1 a.2.2.1 b.2.1 b.2.2.1

/-- No two elements of a list are related. -/
def pairFree {α : Type} (r : α → α → Bool) : List α → Bool
  | [] => true
  | a :: tl => tl.all (fun b => !r a b) && pairFree r tl

/-- A segment fits its kind (R348, R350 check 2). -/
def segOk (sigOff : Nat) (s : Nat × Nat × Nat × Nat) : Bool :=
  let k := s.1
  let off := s.2.1
  let len := s.2.2.1
  let load := s.2.2.2
  off % 16 == 0 && inside 0x100 (sigOff - 0x100) off len && decide (0 < len) &&
    ((k == 1 && load == 0x10000000 && decide (len ≤ 0x20000)) || (k == 2 && load == 0x10020000 && decide (len ≤ 0x20000)) ||
      (k == 3 && decide (len ≤ 0x80000) && inside 0x20040000 0x3C0000 load len) || (k == 4 && load == 0))

/-- Check 2 of R350. -/
def fwSegsOk (h : List Byte) : Bool :=
  let n := bufLe h 0x13 1
  let segs := (usedDescs h).map fwSegment
  within 1 4 n && segs.length == n && (segDescs h).take n == usedDescs h && decide (0x100 ≤ bufLe h 12 4) &&
    segs.all (segOk (bufLe h 12 4)) && pairFree segsMeet segs && pairFree (fun a b => a.1 == b.1) segs &&
    ((segs.find? (fun s => s.1 == 1)).any (fun s => decide (bufLe h 0x14 4 < s.2.2.1)))

/-- The device firmware floor (R351): class 0x0001 of the committed state as the journal and SI Active hold it, read as
data; 0 in Manufactured and before, and where either has no valid header. -/
def fwFloor (d : Device) : Nat :=
  if d.lc.state ≤ lcManufactured || (validBank d.mem).isNone || !siHeaderOk d then 0
  else
    let c := recoverCommitted d.mem
    let base := parseSi (siAt d siActiveBase 0x100000)
    floorOf (amendLeaf { floors := base.floors } (c.amendments.filter (fun a => actType a == 0x08))) 1

/-- The image digest (R349): over the bytes below SigOffset. -/
def fwDigestAt (d : Device) (base : Nat) (h : List Byte) : List Byte := shake256 (memRead d.mem base (bufLe h 12 4)) 64

/-- The signature block of an image, as its header places it. -/
def fwSigAt (d : Device) (base : Nat) (h : List Byte) : List Byte :=
  if bufLe h 12 4 ≤ fwSlotSize - 5280 then memRead d.mem (base + bufLe h 12 4) 5280 else []

/-- Verify code of an image (R349): KeySource 2, context "BX6440 FW". -/
def fwVerify (d : Device) (base : Nat) (h sig : List Byte) : Nat :=
  fusedVerify d 2 (sigSlot sig) (sigKey sig) (ascii "BX6440 FW") (fwDigestAt d base h) (sigBytes sig)

/-- The checks of R350 in their order, with their codes. An engine fault, which an uncorrectable word below SigOffset is to
the digest (R298), leaves no verdict for check 7 to fail on: check 9 then fails. -/
def fwChecks (d : Device) (base : Nat) : List (Nat × (Unit → Bool)) :=
  let h := memRead d.mem base 256
  let sig := fwSigAt d base h
  let fault := d.start.engineFault || rangeBroken d base (bufLe h 12 4)
  [ (1, fun _ => fwFormOk h sig),
    (2, fun _ => fwSegsOk h),
    (3, fun _ => serialPasses d h 0x18 && hasBit (bufLe h 0x12 1) d.lc.state),
    (4, fun _ => (List.range 4).all (fun k => bufLe h (0x38 + 4 * k) 1 &&& 0xC7 == 0) && decide (bufLe h 0x48 1 ≤ 1)),
    (5, fun _ => sigBlockOk sig && sigKind sig == 2 && decide (sigSlot sig ≤ 3)),
    (6, fun _ => keyFused d 2 (sigSlot sig) && !keyRevoked d 2 (sigSlot sig) &&
      shake256 (sigKey sig) 64 == fusedHash d 2 (sigSlot sig)),
    (7, fun _ => fault || fwVerify d base h sig == 0),
    (8, fun _ => decide (fwFloor d ≤ bufLe h 0x10 1)),
    (9, fun _ => !fault) ]

/-- The code of the first check that fails, in a list of checks. -/
def fwFail : List (Nat × (Unit → Bool)) → Option Nat
  | [] => none
  | c :: tl => if c.2 () then fwFail tl else some c.1

/-- The code of the first check an image fails. -/
def fwCheck (d : Device) (base : Nat) : Option Nat := fwFail (fwChecks d base)

/-! ### The ROM run (R352–R369) -/

/-- The start record (R363). -/
def startRecord (d : Device) : List Byte :=
  padTo 64 (([d.start.resetKind, d.start.path, lcCode d,
      flag d.pins.strapAtStart + 2 * flag d.pins.recoverAtStart + 4 * flag d.start.tamperResp,
      d.start.activeFail, d.start.goldenFail, 0, 0].map (fun v => (BitVec.ofNat 8 v : Byte))) ++ leBytes 4 d.clock.powerCycles)

/-- The version block (R363). -/
def versionBlock (d : Device) : List Byte :=
  padTo 64 ([d.start.secVer, d.start.keySlot, d.start.slot].map (fun v => (BitVec.ofNat 8 v : Byte)))

/-- The ROM's extends of WMK0–WMK2 (R362). -/
def romExtends (d : Device) : Device :=
  let d1 := extendWmk 0 (startRecord d) (extendWmk 0 (padTo 64 romIdentity) d)
  extendWmk 2 (versionBlock d) (extendWmk 2 (fusedHash d 2 d.start.keySlot) (extendWmk 1 d.start.fwDigest d1))

/-- The vault derives keys: a root, and not locked by a debug level (R342, R545). -/
def vaultOpen (d : Device) : Bool := rootValid d.kv d.bat && !d.db.vaultLocked

/-- A slot the ROM fills (R360); a slot in use is left as it is. -/
def romSlot (n owner rights : Nat) (value : List Byte) (d : Device) : Device :=
  if (slotOf d.kv n).isSome then d
  else
    let s : VaultSlot := { no := n, valid := true, owner := owner, rights := rights, value := value }
    { d with kv := setSlot d.kv s }

/-- The derivations of R360. -/
def romDerive (d : Device) : Device :=
  if !vaultOpen d then d
  else
    let r := activeRoot d.kv d.bat
    let d1 := romSlot 0x10 0x13 12 (derive r "ledger" 0)
      (romSlot 0x08 0x11 12 (derive r "identity" 0) (romSlot 0x02 0x10 1 (derive r "fast-path" 0) d))
    let v := d.start.secVer
    if (slotOf d1.kv 0x20).isSome then d1
    else
      let s : VaultSlot := { no := 0x20, valid := true, owner := 0x10, rights := 3, ladder := true, cls := 1, version := v, value := ladderRung r 1 v }
      { d1 with kv := setSlot d1.kv s }

/-- Bytes 0x00–0x7F of the fast-path record (R364). -/
def fastRecord (d : Device) : List Byte :=
  padTo 128 (leBytes 4 0x50465842 ++ ([d.start.slot, d.start.secVer, d.start.keySlot, lcCode d].map (fun v => (BitVec.ofNat 8 v : Byte))) ++
    leBytes 4 (d.clock.powerCycles % 2 ^ 20) ++ zeros 4 ++ d.start.fwDigest)

/-- The tag of a fast-path record under the fast-path key (R364). -/
def fastTag (d : Device) (r : List Byte) : List Byte :=
  kmac256 (derive (activeRoot d.kv d.bat) "fast-path" 0) r 64 (ascii "BX6440 FP")

/-- The fast-path record is written in retained SRAM after a full verification with RootValid 1 (R364). -/
def writeFastRecord (d : Device) : Device :=
  if !vaultOpen d then d
  else store sramBase (fastRecord d ++ fastTag d (fastRecord d) ++ zeros 64) d

/-- A segment copied for a hart (R348, R352): ITCM and DTCM into its own TCMs, SRAM once, by hart 0. -/
def copySegment (base h : Nat) (s : Nat × Nat × Nat × Nat) (d : Device) : Device :=
  let bytes := memRead d.mem (base + s.2.1) s.2.2.1
  if s.1 = 1 ∨ s.1 = 2 then store (tcmKey h s.2.2.2) bytes d
  else if s.1 = 3 ∧ h = 0 then store s.2.2.2 bytes d else d

/-- The segments of the chosen image copied for a hart, and its PMP entries 0–6 set and locked (R352, R358). -/
def copySegments (h : Nat) (d : Device) : Device :=
  match d.start.fw with
  | none => d
  | some f =>
    let d1 := f.segments.foldl (fun acc s => copySegment (fwBase d.start.slot) h s acc) d
    { d1 with start := { d1.start with pmp := setBit d1.start.pmp h } }

/-- The ROM goes on with a slot that passed (R353 steps 6 and 7): segments, derivations, watermarks. `full` says that
the image was verified in full, not taken on the fast path. -/
def romLoad (slot path : Nat) (full : Bool) (digest : List Byte) (d : Device) : Device :=
  let base := fwBase slot
  let h := memRead d.mem base 256
  let d1 := { d with start := { d.start with
    phase := .loaded, recovery := false, path := path, slot := slot, secVer := bufLe h 0x10 1
    keySlot := sigSlot (fwSigAt d base h), fw := some (parseFw h), fwDigest := digest } }
  let d2 := romDerive (copySegments 0 d1)
  romExtends (if full then writeFastRecord d2 else d2)

/-- The ROM takes a slot after a full verification. -/
def romTake (slot path : Nat) (d : Device) : Device :=
  romLoad slot path true (fwDigestAt d (fwBase slot) (memRead d.mem (fwBase slot) 256)) d

/-- A slot failed with a code (R350, R375). -/
def romFailed (slot code : Nat) (d : Device) : Device :=
  let h := memRead d.mem (fwBase slot) 256
  let ks := sigSlot (fwSigAt d (fwBase slot) h)
  let s := d.start
  { d with start := { s with
    activeFail := if slot = 0 then code else s.activeFail
    goldenFail := if slot = 1 then code else s.goldenFail
    failVers := s.failVers ++ [(slot, code, bufLe h 0x10 1, ks)], engineFault := false } }

/-- The slots of the list are tried in order, each with the path it gives; recovery where all fail (R356, R368). -/
def romTry : List (Nat × Nat) → Device → Device
  | [], d => { d with start := { d.start with phase := .recovery, recovery := true } }
  | (slot, path) :: tl, d =>
    match fwCheck d (fwBase slot) with
    | none => romTake slot path d
    | some c => romTry tl (romFailed slot c d)

/-- The order of R356, as (slot, path on success). -/
def slotOrder (strap recover : Bool) : List (Nat × Nat) :=
  if strap && recover then [] else if strap then [(1, 2)] else if recover then [(1, 3)] else [(0, 1), (1, 4)]

/-- The slot that the fast path takes (R366); `untouched` is whether the MRAM-untouched flag read set. -/
def fastSlot (d : Device) (untouched : Bool) : Option Nat :=
  let r := memRead d.mem sramBase 256
  let slot := bufLe r 4 1
  let base := fwBase slot
  let h := memRead d.mem base 256
  let sig := fwSigAt d base h
  if untouched && !d.pins.strapAtStart && !d.pins.recoverAtStart && rootValid d.kv d.bat && bufLe r 0 4 == 0x50465842 &&
      bufLe r 8 4 % 2 ^ 20 == d.clock.powerCycles % 2 ^ 20 && bufLe r 7 1 == lcCode d && decide (slot ≤ 1) &&
      (fwFail ((fwChecks d base).take 5)).isNone && bufLe h 0x10 1 == bufLe r 5 1 && sigSlot sig == bufLe r 6 1 &&
      !keyRevoked d 2 (sigSlot sig) && decide (fwFloor d ≤ bufLe h 0x10 1) && bufBytes r 0x80 64 == fastTag d (r.take 128) then
    some slot
  else none

/-- The engines that step 4 of the ROM tests (R353, R354): all at main power-up, a lane, the compare unit and verify unit 0
at a wake, none at a core reset. A test that passes changes nothing else; a fault that it meets is LANE_FAULT or
SG_UNIT_FAULT (notes/assumptions/122.md). -/
def romTests (resetKind : Nat) : Nat := if resetKind = 1 then 0xFFFFF else if resetKind = 3 then 0x30001 else 0

/-- The ROM's run on hart 0 from step 3 of R353 (R354–R356): inputs latched, a press that woke the device among them (R558),
life-cycle state, engine tests, slot choice. -/
def romRun (d : Device) : Device :=
  let untouched := d.bat.untouched == 0x4843554E
  let d1 := { d with
    bat := { d.bat with untouched := 0 }
    pins := { d.pins with
      strapAtStart := d.pins.strapGolden
      recoverAtStart := d.pins.recoverFilt || (d.power.resetKind == 3 && d.power.lastWake == 3) } }
  if 7 ≤ d.lc.state then { d1 with start := { d1.start with phase := .halted } }
  else
    let d2 := { d1 with start := { d1.start with resetKind := d.power.resetKind, tamperResp := tamperResponse d1, tested := romTests d.power.resetKind } }
    match (if d.power.resetKind = 3 then fastSlot d2 untouched else none) with
    | some slot => romLoad slot (5 + slot) false (bufBytes (memRead d.mem sramBase 256) 0x10 64) d2
    | none => romTry (slotOrder d2.pins.strapAtStart d2.pins.recoverAtStart) d2

/-- The ROM goes on once LoadDone, which a core reset does not wait for (R354), and RecoverSettled are set (R61, R68,
R323). -/
def romGo (d : Device) : Device :=
  if d.power.state == .run && d.start.phase == .rom && (d.kv.loadDone || d.power.resetKind == 2) && d.pins.recoverSettled then
    romRun d
  else d

/-- A slot holds, byte for byte and readable, the image at another place (R369, R373). -/
def slotHolds (d : Device) (slot src n : Nat) : Bool :=
  !rangeBroken d (fwBase slot) n && shake256 (memRead d.mem (fwBase slot) n) 64 == shake256 (memRead d.mem src n) 64

/-- ROM recovery is handed an image (R369) from a source (1 card, 2 I3C): it is placed in shared SRAM and checked; on a
pass the slots are written and read back, and the start goes on with Active on path 7. Answers the check code, 0 for a
pass; a read-back that differs leaves the ROM waiting, with code 9 answered (notes/assumptions/112.md). -/
def romInstall (source : Nat) (image : List Byte) (d : Device) : Nat × Device :=
  if d.start.phase != .recovery then (0, d)
  else
    let d1 := store fwBufferBase (image.take fwSlotSize) d
    match fwCheck d1 fwBufferBase with
    | some c => (c, { d1 with start := { d1.start with engineFault := false } })
    | none =>
      let h := memRead d1.mem fwBufferBase 256
      let n := bufLe h 8 4
      let golden := (parseFw h).installGolden
      let m1 := memCopy d1.mem fwBufferBase fwActiveBase n
      let d2 := { mramUsed d1 with
        mem := if golden then memCopy m1 fwBufferBase fwGoldenBase n else m1
        measures := { d1.measures with slotClean := false }
        start := { d1.start with recovered := some (source, if golden then 3 else 1) } }
      if slotHolds d2 0 fwBufferBase n && (!golden || slotHolds d2 1 fwBufferBase n) then (0, romTry [(0, 7)] d2) else (9, d2)

/-! ### LoadDone (R323, R342) -/

/-- RootLost (R342): no root in Provisioned or Field sets bit 15 of the latch, with event 0x0407. -/
def rootLost (d : Device) : Device :=
  if d.kv.rootOk || !(d.lc.state == lcProvisioned || d.lc.state == lcField) then d
  else
    let st := fun (b : Nat) => rootStatus d.kv.rootGen (vget d.bat.roots b)
    event 0x0407 5 [st 0, st 1, d.kv.jrnlGen, 0] { d with bat := { d.bat with latch := setBit d.bat.latch 15 } }

/-- Event 0x0402 where the device is in Tamper-Response. -/
def noteTamper (d : Device) : Device :=
  if tamperResponse d then arriveEvent false 0x0402 0xFF 5 [d.bat.latch, flag (rootValid d.kv d.bat), 0, 0, 0] d else d

/-- KEY_VAULT_LOAD_DONE (R323, R333, R342): root selected, keys derived, slots loaded, LoadDone set; the ROM, which
waited for it, runs. The entropy source's tests pass from here (notes/assumptions/50.md). -/
def keyVaultLoadDoneEffect (d : Device) : Device :=
  if d.power.state != .run || d.kv.loadDone then d
  else
    let l := loadVault d.mem d.bat { d.kv with entropyOk := true }
    let d1 := l.2.foldl (fun acc e => eventsRaw [(0x0406, 4, [l.1.jrnlGen, e.2, e.1, 0, 0])] acc) { d with kv := l.1 }
    romGo (noteTamper (rootLost d1))
/-- KEY_VAULT_LOAD_DONE. -/
def execKeyVaultLoadDone (s : State) : Host.Outcome State Fault Refusal := s.run keyVaultLoadDoneEffect

/-! ### Hand-over (R352, R357–R359, R365) -/

/-- Address of SYS_BOOT_CTRL. -/
def bootCtrlAddr : Nat := 0x60000304

/-- RELEASE_HARTS (R352): harts 1–3 copy their segments and set their PMP entries. -/
def releaseHartsEffect (h : Hart) (d : Device) : Device :=
  onlyHart 0 h 0 bootCtrlAddr (fun d1 =>
    if d1.start.phase == .loaded && !d1.start.released then
      let d2 := copySegments 3 (copySegments 2 (copySegments 1 d1))
      { d2 with start := { d2.start with released := true } }
    else d1) d
/-- RELEASE_HARTS. -/
def execReleaseHarts (h : Hart) (s : State) : Host.Outcome State Fault Refusal := s.run (releaseHartsEffect h)

/-- HART_READY (R352): a hart sets its own bit. -/
def hartReadyEffect (h : Hart) (d : Device) : Device :=
  hartWrite h 0 bootCtrlAddr (fun d1 => { d1 with start := { d1.start with hartReady := setBit d1.start.hartReady h } }) d
/-- HART_READY. -/
def execHartReady (h : Hart) (s : State) : Host.Outcome State Fault Refusal := s.run (hartReadyEffect h)

/-- What the ROM does as it locks the deckle (R359, R362): masks and ActiveWrite from the image, WMK7 extended with
WMK1, vault slot 0x02 cleared, RootLock set (R326). -/
def romDeckle (d : Device) : Device :=
  match d.start.fw with
  | none => d
  | some f =>
    let d1 := { d with
      start := { d.start with
        blk := Vector.ofFn (fun k : Fin 4 => f.blockMask.getD k 0 % 2 ^ 19)
        wmkMask := Vector.ofFn (fun k : Fin 4 => f.wmkMask.getD k 0)
        activeWrite := f.mramWrite, goldenWrite := false }
      kv := { dropSlot d.kv 0x02 with rootLock := true } }
    extendWmk 7 (wmkOf d1 1) d1

/-- DECKLE_LOCK (R9, R359): Lock is set; in the ROM, hart 0 has put the deckle in place first. -/
def deckleLockEffect (h : Hart) (d : Device) : Device :=
  hartWrite h 0 bootCtrlAddr (fun d1 =>
    if d1.start.lock then d1
    else
      let d2 := if d1.start.phase == .loaded && h == 0 then romDeckle d1 else d1
      { d2 with start := { d2.start with lock := true } }) d
/-- DECKLE_LOCK. -/
def execDeckleLock (h : Hart) (s : State) : Host.Outcome State Fault Refusal := s.run (deckleLockEffect h)

/-- ROOT_LOCK_SET (R326). -/
def rootLockSetEffect (h : Hart) (d : Device) : Device :=
  hartWrite h 3 0x60030204 (fun d1 => { d1 with kv := { d1.kv with rootLock := true } }) d
/-- ROOT_LOCK_SET. -/
def execRootLockSet (h : Hart) (s : State) : Host.Outcome State Fault Refusal := s.run (rootLockSetEffect h)

/-- The watchdog's timeout in ms (R567). -/
def wdogMs (d : Device) : Nat := max 50 (field d.power.wdog 0 16)

/-- Epoch parameter of events that hart 0 records at a start: 0 while the fabric is not live (R375, R570). -/
def liveEpoch (d : Device) : Nat := if d.tx.fabricLive then d.tx.epoch else 0

/-- An event that hart 0 records at a start. -/
def startEvent (code sev : Nat) (ps : List Nat) (d : Device) : Device :=
  arriveEvent true code 0x10 sev (fiveParams ps (liveEpoch d)) d

/-- The events of the power block that hart 0 records once stage 1 is attached (R570). -/
def powerEvents (d : Device) : Device :=
  if d.start.resetKind = 2 then
    let d1 := startEvent 0x0206 2 [d.power.coreCause, d.power.coreResets] d
    if d.power.coreCause = 2 then startEvent 0x0205 4 [wdogMs d, d.power.coreResets] d1 else d1
  else if d.start.resetKind = 3 then
    startEvent 0x0202 1 [d.power.lastWake, d.power.sleepLen, flag (d.start.path == 5 || d.start.path == 6), d.power.laterSources] d
  else startEvent 0x0204 3 [d.power.mainCause, d.clock.powerCycles] d

/-- CX_CFG as it reads. -/
def cxCfgWord (c : CxlPort) : Word := pack [(0, 1, flag c.w64Enable), (31, 1, flag c.cfgLock)]

/-- Stage firmware has set and locked TX_CFG, GF_TS_CFG, IS_CFG, PW_WDOG and CX_CFG (R586). -/
def stageLocked (d : Device) : Bool :=
  [d.tx.cfg, d.gf.tsCfg, d.is_.cfg, d.power.wdog, cxCfgWord d.cx].all (fun w => bit w 31)

/-- The stage block (R586). -/
def stageBlock (d : Device) : List Byte :=
  padTo 64 ([1, BitVec.ofNat 8 d.start.resetKind,
      BitVec.ofNat 8 (flag d.tx.fabricLive + 2 * flag (tamperResponse d) + 4 * flag d.db.vaultLocked), 0] ++
    leBytes 4 (liveEpoch d) ++ leBytes 4 d.kv.jrnlGen ++ zeros 4 ++
    [d.tx.cfg, d.gf.tsCfg, d.is_.cfg, d.power.wdog, cxCfgWord d.cx].flatMap (fun w => leBytes 4 w.toNat))

/-- Stage firmware's start is complete once its five configuration registers are locked (R586): hart 0 extends WMK3, once
in each start, and then records event 0x0101 (R375). The model makes the extend as the last lock is set: DESIGN CHOICE
(notes/assumptions/111.md). -/
def stageStart (d : Device) : Device :=
  if attached d && !d.start.measured && stageLocked d then
    let d1 := if hasBit (vget d.start.wmkMask 0) 3 then extendWmk 3 (stageBlock d) d else d
    let s := d.start
    startEvent 0x0101 1 [s.path, s.slot, s.secVer, s.resetKind] { d1 with start := { d1.start with measured := true } }
  else d

/-- The events of R375: failed slots, recovery, firmware started. -/
def firmwareEvents (d : Device) : Device :=
  let s := d.start
  let d1 := s.failVers.foldl (fun acc f => startEvent 0x0102 4 [f.1, f.2.1, f.2.2.1, f.2.2.2] acc) d
  let d2 := match s.recovered with
    | some r => startEvent 0x0103 4 [r.1, s.secVer, r.2] d1
    | none => d1
  stageStart d2

/-- HANDOVER (R352, R375, R567, R570): accepted with every HartReady bit and Lock set; every hart enters stage 1, the
watchdog counter starts, and hart 0 records the events of the start. -/
def handoverEffect (h : Hart) (d : Device) : Device :=
  onlyHart 0 h 0 bootCtrlAddr (fun d1 =>
    if d1.start.phase == .loaded && d1.start.hartReady == 0xF && d1.start.lock then
      firmwareEvents (powerEvents { d1 with
        start := { d1.start with phase := .stage1 }
        power := { d1.power with wdogRunning := bit d1.power.wdog 16, wdogCount := 0, wdogFired := false } })
    else d1) d


/-- MARK_CLEAN (R365): hart 0, before Lock. -/
def markCleanEffect (h : Hart) (d : Device) : Device :=
  onlyHart 0 h 0 bootCtrlAddr (fun d1 =>
    if d1.start.lock then d1 else { d1 with measures := { d1.measures with slotClean := true } }) d
/-- MARK_CLEAN. -/
def execMarkClean (h : Hart) (s : State) : Host.Outcome State Fault Refusal := s.run (markCleanEffect h)

/-! ### Firmware slot writes and watermarks (R357, R361, R372) -/

/-- The open slot takes a word: open, writable, and the ROM has set Lock (R357). -/
def slotWritable (s : Start) : Bool :=
  s.openSlot && s.lock && (if s.target then s.goldenWrite else s.activeWrite) && decide (s.fwPtr + 4 ≤ fwSlotSize)

/-- A word at the pointer (R372): the upper word of a pair writes the 64-bit MRAM word; SlotClean falls (R365). -/
def fwWrite (v : Word) (d : Device) : Device :=
  let s := d.start
  let d1 := if s.fwPtr % 8 = 0 then { d with start := { s with fwLow := v } }
    else mramStore (fwBase (flag s.target) + s.fwPtr - 4) (leBytes 4 s.fwLow.toNat ++ leBytes 4 v.toNat) d
  { d1 with
    start := { d1.start with fwPtr := (s.fwPtr + 4) % 0x400000 }
    measures := { d1.measures with slotClean := false } }

/-- FW_DATA_WRITE (R372): a store access fault with no open slot. -/
def fwDataWriteEffect (h : Hart) (v : Word) (d : Device) : Device :=
  hartWrite h 0 0x60000338 (fun d1 => if slotWritable d1.start then fwWrite v d1 else accessFault h 0x60000338 d1) d
/-- FW_DATA_WRITE. -/
def execFwDataWrite (h : Hart) (v : Word) (s : State) : Host.Outcome State Fault Refusal := s.run (fwDataWriteEffect h v)

/-- WATERMARK_EXTEND (R361): a store access fault without the right. -/
def watermarkExtendEffect (h : Hart) (n : Wmk) (d : Device) : Device :=
  hartWrite h 0 0x60000400 (fun d1 =>
    if hasBit d1.start.wmkMask[h] n then extendWmk n d1.start.wmkIn[h] d1 else accessFault h 0x60000400 d1) d
/-- WATERMARK_EXTEND. -/
def execWatermarkExtend (h : Hart) (n : Wmk) (s : State) : Host.Outcome State Fault Refusal := s.run (watermarkExtendEffect h n)

end Sys2Proof.Machine
end

