-- ==== Sys2Proof/Machine/CxlDoe.lean ====
section
/-! DEFINITION. Data object exchange, CDAT, warden objects, and the memory device mailbox
(spec/15_cxl_host_port.md, R434, R446–R452). Payloads that CXL 2.0, CDAT and PCIe lay out: notes/assumptions/51.md. -/

namespace Sys2Proof.Machine

open Sys2Proof

/-! ### Objects (R446–R448) -/

/-- The Status object within a ledger mask (R448). -/
def statusObject (mask : Nat) (d : Device) : List Byte :=
  leBytes 4 d.tx.epoch ++ [BitVec.ofNat 8 (flag d.tx.fabricLive + 2 * flag (tamperResponse d) + 4 * flag (hart1Serves d))] ++ zeros 3 ++
    (List.range 16).map (fun n => if hasBit mask n then BitVec.ofNat 8 (domain d n).state.ctorIdx else 0xFF) ++ padTo 64 d.tx.siDigest ++ zeros 8

/-- The warden object for a request code (R448). -/
def wardenObject (d : Device) (aid code : Nat) : List Byte :=
  if code = 1 then statusObject (ledgerMask d aid) d else List.replicate 4 0xFF

/-- The DOE protocols as (vendor ID, type), in order (R446). -/
def doeProtocols : List (Nat × Nat) := [(0x0001, 0x00), (0x0001, 0x01), (0x1E98, 0x02), (0x1FA7, 0x01)]

/-- The DOE Discovery response for an index. -/
def discoveryObject (index : Nat) : List Byte :=
  match doeProtocols[index]? with
  | some p => leBytes 2 p.1 ++ leBytes 1 p.2 ++ leBytes 1 (if index + 1 < 4 then index + 1 else 0)
  | none => leBytes 2 0xFFFF ++ zeros 2

/-- A latency or bandwidth entry of CDAT. -/
def dslbis (dataType unit_ value : Nat) : List Byte :=
  [1, 0] ++ leBytes 2 24 ++ [0, 0, BitVec.ofNat 8 dataType, 0] ++ leBytes 8 unit_ ++ leBytes 2 value ++ zeros 6

/-- The entries of CDAT after its header (R447): the range, its read latency, read bandwidth and write bandwidth. -/
def cdatEntries : List (List Byte) :=
  [ [0, 0] ++ leBytes 2 24 ++ zeros 4 ++ leBytes 8 0 ++ leBytes 8 0x10000000,
    dslbis 1 1000 400, dslbis 4 1 28000, dslbis 5 1 0 ]

/-- The CDAT header with its checksum. -/
def cdatHeader (seq : Nat) : List Byte :=
  let rest := leBytes 4 (16 + cdatEntries.flatten.length) ++ [1]
  let tail_ := zeros 6 ++ leBytes 4 seq
  let sum := ((rest ++ tail_ ++ cdatEntries.flatten).foldl (fun n b => n + b.toNat) 0) % 256
  rest ++ [BitVec.ofNat 8 ((256 - sum) % 256)] ++ tail_

/-- A CDAT response: response code and table type zero, the next entry handle, the entry. -/
def cdatObject (d : Device) (entry : Nat) : List Byte :=
  let all := cdatHeader d.cx.cdatSeq :: cdatEntries
  [0, 0] ++ leBytes 2 (if entry + 1 < all.length then entry + 1 else 0xFFFF) ++ all.getD entry []

/-- A data object: its header of two DW, then its content padded to whole DW. -/
def doeObject (vendor type : Nat) (body : List Byte) : List Byte :=
  let dw := ceilDiv body.length 4
  leBytes 2 vendor ++ leBytes 1 type ++ [0] ++ leBytes 4 (dw + 2) ++ padTo (4 * dw) body

/-- The answer to an object, where the device has one without SPDM; an object of no protocol of R446 is discarded. -/
def doeAnswer (d : Device) (aid : Nat) (o : List Byte) : Option (List Byte) :=
  match bufLe o 0 2, bufLe o 2 1 with
  | 0x0001, 0x00 => some (doeObject 0x0001 0x00 (discoveryObject (bufLe o 8 1)))
  | 0x1E98, 0x02 => some (doeObject 0x1E98 0x02 (cdatObject d (bufLe o 10 2)))
  | 0x1FA7, 0x01 => some (doeObject 0x1FA7 0x01 (wardenObject d aid (bufLe o 8 4)))
  | _, _ => none

/-- The object is an SPDM one, which an SPDM command answers. -/
def doeIsSpdm (o : List Byte) : Bool := bufLe o 0 2 == 1 && bufLe o 2 1 == 1

/-- The response to an object is ready (R447), with MSI vector 1 where its interrupt is enabled (R435). -/
def doeReady (o : List Byte) (l : LogicalDev) : LogicalDev :=
  let l1 := { l with doeRsp := some o, pci := { l.pci with doeInt := true } }
  if l.pci.doeIntEnable then sendMsi 1 l1 else l1

/-- An object that waited is answered, or discarded where it is of no protocol; an SPDM object waits for its command. -/
def answerDoe (who : Option Ld) (d : Device) : Device :=
  match (whoOf d who).doeReq with
  | none => d
  | some o =>
    if !hart1Serves d || doeIsSpdm o then d
    else match doeAnswer d (whoAid who) o with
      | some r => reply r (modWho who (fun l => doeReady r { l with doeReq := none }) d)
      | none => modWho who (fun l => { l with doeReq := none }) d

/-- Every object held through a core reset is answered once hart 1 is attached (R38, R447). -/
def answerHeld (d : Device) : Device :=
  answerDoe none ((List.finRange 16).foldl (fun acc (n : Fin 16) => answerDoe (some n) acc) d)

/-- An object is written to a DOE mailbox (R447): DOE Error for one of more than 1,024 DW, and while a response is pending,
which it is until the host has read it whole. -/
def doeWrite (who : Option Ld) (o : List Byte) (d : Device) : Device :=
  let l := whoOf d who
  if !cxlUp d || l.doeError then d
  else if l.doeReq.isSome || l.doeRsp.isSome || decide (4096 < o.length) then modWho who (fun x => { x with doeError := true }) d
  else answerDoe who (modWho who (fun x => { x with doeReq := some o }) d)

/-- DOE_REQUEST (R447). -/
def doeRequestEffect (who : Option Ld) (object : List Byte) (d : Device) : Device := doeWrite who object d
/-- DOE_REQUEST. -/
def execDoeRequest (who : Option Ld) (object : List Byte) (s : State) : Host.Outcome State Fault Refusal :=
  s.run (doeRequestEffect who object)

/-- DOE_ABORT (R447). -/
def doeAbortEffect (who : Option Ld) (d : Device) : Device :=
  if cxlUp d then modWho who (fun x => { x with doeReq := none, doeRsp := none, doeError := false }) d else d
/-- DOE_ABORT. -/
def execDoeAbort (who : Option Ld) (s : State) : Host.Outcome State Fault Refusal := s.run (doeAbortEffect who)

/-- DOE_DISCOVERY (R446). -/
def doeDiscoveryEffect (who : Option Ld) (index : Nat) (d : Device) : Device :=
  doeWrite who (doeObject 0x0001 0x00 (leBytes 1 index)) d
/-- DOE_DISCOVERY. -/
def execDoeDiscovery (who : Option Ld) (index : Nat) (s : State) : Host.Outcome State Fault Refusal :=
  s.run (doeDiscoveryEffect who index)

/-- CDAT_READ (R447). -/
def cdatReadEffect (who : Option Ld) (entry : Nat) (d : Device) : Device :=
  doeWrite who (doeObject 0x1E98 0x02 ([0, 0] ++ leBytes 2 entry)) d
/-- CDAT_READ. -/
def execCdatRead (who : Option Ld) (entry : Nat) (s : State) : Host.Outcome State Fault Refusal := s.run (cdatReadEffect who entry)

/-- WARDEN_STATUS (R448). -/
def wardenStatusEffect (who : Option Ld) (code : Nat) (d : Device) : Device :=
  doeWrite who (doeObject 0x1FA7 0x01 (leBytes 4 code)) d
/-- WARDEN_STATUS. -/
def execWardenStatus (who : Option Ld) (code : Nat) (s : State) : Host.Outcome State Fault Refusal := s.run (wardenStatusEffect who code)

/-! ### The mailbox (R449–R452) -/

/-- A mailbox command of an opcode completes (R437, R449). -/
def mailboxEnds (who : Option Ld) (op code : Nat) (out : List Byte) (d : Device) : Device :=
  mailboxDone who code out (modWho who (fun l => { l with mboxCmd := op }) d)

/-- A mailbox command (R449, R450): Busy without hart 1 and while another runs, Unsupported where the requester has not
got the command, else its return code, output and effect. -/
def mailbox (who : Option Ld) (op : Nat) (has : Bool) (f : Device → Nat × List Byte × Device) (d : Device) : Device :=
  if !cxlUp d then d
  else if (whoOf d who).mboxRunning.isSome then reply (leBytes 2 6) d
  else if !hart1Serves d then mailboxEnds who op 6 [] d
  else if !has then mailboxEnds who op 3 [] d
  else
    let r := f d
    mailboxEnds who op r.1 r.2.1 r.2.2

/-- A command that only answers. -/
def mailboxReads (who : Option Ld) (op : Nat) (has : Bool) (f : Device → Nat × List Byte) (d : Device) : Device :=
  mailbox who op has (fun d1 => ((f d1).1, (f d1).2, d1)) d

/-- The revision of a firmware slot (R450), 16 bytes. -/
def slotRevision (version : Nat) : List Byte := padTo 16 (ascii "BX6440 FW v" ++ decimal version)

/-- Capacity of an LD in units of 256 MiB (R434). -/
def capacity (d : Device) (who : Option Ld) : Nat := flag ((whoOf d who).allocated)

/-- GET_LD_INFO (R434). -/
def getLdInfoEffect (d : Device) : Device :=
  mailboxReads none 0x5400 true (fun _ => (0, leBytes 8 0x100000000 ++ leBytes 2 16 ++ zeros 1)) d
/-- GET_LD_INFO. -/
def execGetLdInfo (s : State) : Host.Outcome State Fault Refusal := s.run getLdInfoEffect

/-- The Range 1 and Range 2 multipliers of an LD. -/
def allocationPair (d : Device) (n : Nat) : List Byte := leBytes 8 (flag (ldOf d n).allocated) ++ zeros 8

/-- GET_LD_ALLOCATIONS (R434): the list from one LD on, at most `limit` long. -/
def getLdAllocationsEffect (start limit : Nat) (d : Device) : Device :=
  mailboxReads none 0x5401 true (fun d1 =>
    if 16 ≤ start then (2, [])
    else
      let n := min limit (16 - start)
      (0, [16, 0, BitVec.ofNat 8 start, BitVec.ofNat 8 n] ++ (List.range n).flatMap (fun i => allocationPair d1 (start + i)))) d
/-- GET_LD_ALLOCATIONS. -/
def execGetLdAllocations (start limit : Nat) (s : State) : Host.Outcome State Fault Refusal := s.run (getLdAllocationsEffect start limit)

/-- LDs that are allocated. -/
def allocatedLds (d : Device) : Nat := bitmap 16 (fun n => (ldOf d n).allocated)

/-- A change of allocations is refused (R434). -/
def allocationBad (d : Device) (start : Nat) (pairs : List (Nat × Nat)) : Bool :=
  decide (16 < start + pairs.length) ||
    pairs.zipIdx.any (fun p => decide (1 < p.1.1) || p.1.2 != 0 ||
      ((ldOf d (start + p.2)).decCommitted && (p.1.1 == 1) != (ldOf d (start + p.2)).allocated))

/-- SET_LD_ALLOCATIONS (R434, R447). -/
def setLdAllocationsEffect (start : Nat) (pairs : List (Nat × Nat)) (d : Device) : Device :=
  mailbox none 0x5402 true (fun d1 =>
    if allocationBad d1 start pairs then (2, [], d1)
    else
      let d2 := pairs.zipIdx.foldl (fun acc p => modLd (start + p.2) (fun l => { l with allocated := p.1.1 == 1 }) acc) d1
      let out := [BitVec.ofNat 8 pairs.length, BitVec.ofNat 8 start, 0, 0] ++
        (List.range pairs.length).flatMap (fun i => allocationPair d2 (start + i))
      if allocatedLds d1 = allocatedLds d2 then (0, out, d2)
      else (0, out, event 0x0C07 2 [allocatedLds d1, allocatedLds d2, 0, 0] (modCx (fun c => { c with cdatSeq := c.cdatSeq + 1 }) d2))) d
/-- SET_LD_ALLOCATIONS. -/
def execSetLdAllocations (start : Nat) (pairs : List (Nat × Nat)) (s : State) : Host.Outcome State Fault Refusal :=
  s.run (setLdAllocationsEffect start pairs)

/-- GET_EVENT_RECORDS (R450): no records, no overflow. -/
def getEventRecordsEffect (who : Option Ld) (d : Device) : Device := mailboxReads who 0x0100 true (fun _ => (0, zeros 32)) d
/-- GET_EVENT_RECORDS. -/
def execGetEventRecords (who : Option Ld) (s : State) : Host.Outcome State Fault Refusal := s.run (getEventRecordsEffect who)

/-- CLEAR_EVENT_RECORDS (R450). -/
def clearEventRecordsEffect (who : Option Ld) (handles : Nat) (d : Device) : Device :=
  mailboxReads who 0x0101 true (fun _ => (if handles = 0 then 0 else 2, [])) d
/-- CLEAR_EVENT_RECORDS. -/
def execClearEventRecords (who : Option Ld) (handles : Nat) (s : State) : Host.Outcome State Fault Refusal :=
  s.run (clearEventRecordsEffect who handles)

/-- GET_EVENT_INTERRUPT_POLICY (R450): 00b for each of the four logs. -/
def getEventInterruptPolicyEffect (who : Option Ld) (d : Device) : Device := mailboxReads who 0x0102 true (fun _ => (0, zeros 4)) d
/-- GET_EVENT_INTERRUPT_POLICY. -/
def execGetEventInterruptPolicy (who : Option Ld) (s : State) : Host.Outcome State Fault Refusal :=
  s.run (getEventInterruptPolicyEffect who)

/-- SET_EVENT_INTERRUPT_POLICY (R450): only 00b. -/
def setEventInterruptPolicyEffect (who : Option Ld) (policies : List Nat) (d : Device) : Device :=
  mailboxReads who 0x0103 true (fun _ => (if policies.all (· % 4 == 0) then 0 else 2, [])) d
/-- SET_EVENT_INTERRUPT_POLICY. -/
def execSetEventInterruptPolicy (who : Option Ld) (policies : List Nat) (s : State) : Host.Outcome State Fault Refusal :=
  s.run (setEventInterruptPolicyEffect who policies)

/-- SecurityVersion in the header of a firmware slot. -/
def slotVersion (d : Device) (slot : Nat) : Nat := memLe d.mem (fwBase slot + 0x10) 1

/-- GET_FW_INFO (R450): two slots, the active one 1 (Active) or 2 (Golden). -/
def getFwInfoEffect (who : Option Ld) (d : Device) : Device :=
  mailboxReads who 0x0200 true (fun d1 =>
    (0, [2, BitVec.ofNat 8 (d1.start.slot + 1)] ++ zeros 14 ++ slotRevision (slotVersion d1 0) ++ slotRevision (slotVersion d1 1) ++ zeros 32)) d
/-- GET_FW_INFO. -/
def execGetFwInfo (who : Option Ld) (s : State) : Host.Outcome State Fault Refusal := s.run (getFwInfoEffect who)

/-- The Command Effects Log of a requester: opcodes of R450 with their CXL 2.0 effects. -/
def effectsLog (who : Option Ld) : List (Nat × Nat) :=
  let both := [(0x0100, 0), (0x0101, 0x10), (0x0102, 0), (0x0103, 0x08), (0x0200, 0), (0x0400, 0), (0x0401, 0)]
  let own := match who with
    | some _ => [(0x4000, 0), (0x4100, 0), (0x4200, 0), (0x4300, 0), (0xC000, 0)]
    | none => [(0x5400, 0), (0x5401, 0), (0x5402, 0x02), (0xC000, 0), (0xC010, 0), (0xC011, 0x0A)]
  both ++ own

/-- Its bytes. -/
def effectsBytes (who : Option Ld) : List Byte := (effectsLog who).flatMap (fun e => leBytes 2 e.1 ++ leBytes 2 e.2)

/-- The identifier of the Command Effects Log in CXL 2.0. -/
def effectsUuid : List Byte :=
  [0x0D, 0xA9, 0xC0, 0xB5, 0xBF, 0x41, 0x4B, 0x78, 0x8F, 0x79, 0x96, 0xB1, 0x62, 0x3B, 0x3F, 0x17]

/-- GET_SUPPORTED_LOGS (R450). -/
def getSupportedLogsEffect (who : Option Ld) (d : Device) : Device :=
  mailboxReads who 0x0400 true (fun _ => (0, leBytes 2 1 ++ zeros 6 ++ effectsUuid ++ leBytes 4 (effectsBytes who).length)) d
/-- GET_SUPPORTED_LOGS. -/
def execGetSupportedLogs (who : Option Ld) (s : State) : Host.Outcome State Fault Refusal := s.run (getSupportedLogsEffect who)

/-- GET_LOG (R450). -/
def getLogEffect (who : Option Ld) (uuid : List Byte) (offset len : Nat) (d : Device) : Device :=
  mailboxReads who 0x0401 true (fun _ =>
    if uuid == effectsUuid && decide (offset + len ≤ (effectsBytes who).length) then (0, bufBytes (effectsBytes who) offset len) else (2, [])) d
/-- GET_LOG. -/
def execGetLog (who : Option Ld) (uuid : List Byte) (offset len : Nat) (s : State) : Host.Outcome State Fault Refusal :=
  s.run (getLogEffect who uuid offset len)

/-- IDENTIFY_MEMORY_DEVICE (R450). -/
def identifyMemoryDeviceEffect (who : Option Ld) (d : Device) : Device :=
  mailboxReads who 0x4000 who.isSome (fun d1 =>
    let n := leBytes 8 (capacity d1 who)
    (0, slotRevision d1.start.secVer ++ n ++ n ++ zeros 8 ++ zeros 8 ++ zeros 8 ++ zeros 4 ++ leBytes 3 64 ++ zeros 2 ++ zeros 2)) d
/-- IDENTIFY_MEMORY_DEVICE. -/
def execIdentifyMemoryDevice (who : Option Ld) (s : State) : Host.Outcome State Fault Refusal := s.run (identifyMemoryDeviceEffect who)

/-- GET_PARTITION_INFO (R450). -/
def getPartitionInfoEffect (who : Option Ld) (d : Device) : Device :=
  mailboxReads who 0x4100 who.isSome (fun d1 => (0, leBytes 8 (capacity d1 who) ++ zeros 24)) d
/-- GET_PARTITION_INFO. -/
def execGetPartitionInfo (who : Option Ld) (s : State) : Host.Outcome State Fault Refusal := s.run (getPartitionInfoEffect who)

/-- A digest lane or a signature unit is offline. -/
def enginesDegraded (d : Device) : Bool := d.dg.lanes.toList.any (·.offline) || d.sg.units.toList.any (·.offline)

/-- GET_HEALTH_INFO (R450): the temperature is TempNow in °C. -/
def getHealthInfoEffect (who : Option Ld) (d : Device) : Device :=
  mailboxReads who 0x4200 who.isSome (fun d1 =>
    (0, [BitVec.ofNat 8 (2 * flag (enginesDegraded d1)), 0, 0, 0] ++ leBytes 2 d1.junction.tempNow ++ zeros 12)) d
/-- GET_HEALTH_INFO. -/
def execGetHealthInfo (who : Option Ld) (s : State) : Host.Outcome State Fault Refusal := s.run (getHealthInfoEffect who)

/-- Lines of 64 bytes that hold a poisoned word, in granules the LD may read, in a range of lines, ascending. -/
def poisonLines (d : Device) (aid base len : Nat) : List Nat :=
  let ls := (d.is_.poisoned.map (· / 8)).filter (fun l => decide (base ≤ 64 * l ∧ 64 * l < base + 64 * len) && coversGranule d aid (l / 1024))
  (ls.foldl (fun acc l => if acc.contains l then acc else (acc.filter (· < l)) ++ [l] ++ acc.filter (l < ·)) [])

/-- GET_POISON_LIST (R450): at most 64 records of one line. -/
def getPoisonListEffect (who : Option Ld) (base len : Nat) (d : Device) : Device :=
  mailboxReads who 0x4300 who.isSome (fun d1 =>
    let ls := poisonLines d1 (whoAid who) base len
    let shown := ls.take 64
    (0, [BitVec.ofNat 8 (flag (decide (64 < ls.length))), 0] ++ zeros 8 ++ leBytes 2 shown.length ++ zeros 20 ++
      shown.flatMap (fun l => leBytes 8 (64 * l + 2) ++ leBytes 4 1 ++ zeros 4))) d
/-- GET_POISON_LIST. -/
def execGetPoisonList (who : Option Ld) (base len : Nat) (s : State) : Host.Outcome State Fault Refusal :=
  s.run (getPoisonListEffect who base len)

/-- FJARLIN_WARDEN_STATUS (R450). -/
def fjarlinWardenStatusEffect (who : Option Ld) (d : Device) : Device :=
  mailboxReads who 0xC000 true (fun d1 => (0, statusObject (ledgerMask d1 (whoAid who)) d1)) d
/-- FJARLIN_WARDEN_STATUS. -/
def execFjarlinWardenStatus (who : Option Ld) (s : State) : Host.Outcome State Fault Refusal := s.run (fjarlinWardenStatusEffect who)

/-- A session of Kind 1 is open, at an LD or an I3C port. -/
def siSessionOpen (d : Device) : Bool :=
  d.cx.lds.toList.any (fun l => l.session.any (fun s => s.kind == 1)) || d.mg.toList.any (fun p => p.session.any (fun s => s.kind == 1))

/-- FJARLIN_STAGE_SI_DATA (R452): the data goes into SI Pending at the offset. -/
def fjarlinStageSiDataEffect (who : Option Ld) (offset : Nat) (data : List Byte) (d : Device) : Device :=
  mailbox who 0xC010 who.isNone (fun d1 =>
    if d1.tx.sipLocked || d1.tx.siCopyBusy || siSessionOpen d1 then (6, [], d1)
    else if decide (2040 < data.length) || decide (0x100000 < offset + data.length) then (2, [], d1)
    else (0, [], mramStore (siPendingBase + offset) data d1)) d
/-- FJARLIN_STAGE_SI_DATA. -/
def execFjarlinStageSiData (who : Option Ld) (offset : Nat) (data : List Byte) (s : State) : Host.Outcome State Fault Refusal :=
  s.run (fjarlinStageSiDataEffect who offset data)

/-- FJARLIN_STAGE_SI_COMMIT (R452): through a couch with RequesterAid 0x1F, whose rights record must have MayStage, or
under R371 without a live fabric. Busy while the mould is in use, while the SI copy of the last commit runs, and while hart 0 is
stalled (notes/assumptions/49.md). -/
def fjarlinStageSiCommitEffect (who : Option Ld) (total : Nat) (d : Device) : Device :=
  if !cxlUp d then d
  else if (whoOf d who).mboxRunning.isSome then reply (leBytes 2 6) d
  else if !hart1Serves d then mailboxEnds who 0xC011 6 [] d
  else if who.isSome then mailboxEnds who 0xC011 3 [] d
  else if d.tx.fabricLive && !((rightsNow d 0x1F).any (·.mayStage)) then mailboxEnds who 0xC011 2 [] d
  else if d.tx.state != .idle || d.tx.siCopyBusy || hartStalled d 0 then mailboxEnds who 0xC011 6 [] d
  else
    siLoad (if d.tx.fabricLive then 0x1F else 0x10) total
      { d with cx := { d.cx with fm := { d.cx.fm with mboxRunning := some 0xC011, mboxCmd := 0xC011 } } }
/-- FJARLIN_STAGE_SI_COMMIT. -/
def execFjarlinStageSiCommit (who : Option Ld) (total : Nat) (s : State) : Host.Outcome State Fault Refusal :=
  s.run (fjarlinStageSiCommitEffect who total)

/-- MAILBOX_UNSUPPORTED_OPCODE (R450). -/
def mailboxUnsupportedOpcodeEffect (who : Option Ld) (op : Nat) (d : Device) : Device := mailboxReads who op false (fun _ => (3, [])) d
/-- MAILBOX_UNSUPPORTED_OPCODE. -/
def execMailboxUnsupportedOpcode (who : Option Ld) (op : Nat) (s : State) : Host.Outcome State Fault Refusal :=
  s.run (mailboxUnsupportedOpcodeEffect who op)

end Sys2Proof.Machine
end

