-- ==== Sys2Proof/Machine/LedgerCmds.lean ====
section
/-! DEFINITION. The commands of the boot ledger (spec/14_ream_and_event_recorder.md, R397–R413). -/

namespace Sys2Proof.Machine

open Sys2Proof

/-- LG_RESULT: last command (1 submit, 2 acknowledgement) and its outcome. -/
def lgResult (cmd outcome : Nat) (d : Device) : Device :=
  modLg (fun g => { g with lastCmd := cmd, outcome := outcome }) d

/-- Event 0x0A16 for a buffer: SheetNumber, Bd, outcome, ContinuationIndex (R430). -/
def sheetRefused (b : List Byte) (outcome : Nat) (d : Device) : Device :=
  event 0x0A16 4 [bufLe b 4 4, bufLe b 0x0A 1, outcome, bufLe b 0x20 1] d

/-- Outcome of the checks of R402 on a buffer; one that is not readable shared working SRAM has outcome 8
(notes/assumptions/46.md). -/
def submitOutcome (d : Device) (a : Nat) : Nat :=
  if !inSram a 0x2000 || rangeBroken d a 0x2000 then 8
  else checkSheet (lgEnv d) d.mem { d.lg with bad := lgBusyPositions d.lg } (memRead d.mem a 0x2000)

/-- Acceptance (R404 steps 1 and 2): the new head, LG_NEXT, the position's word 0 zero, the latches consumed (R399). -/
def acceptSheet (b : List Byte) (p : Nat) (override : Bool) (d : Device) : Device :=
  let prior := if override then some (sheetNo d.mem p, sheetBd d.mem p) else none
  let g := d.lg
  let job := LgJob.sheet p b prior g.next g.headDig g.logDegraded g.tamperSeen
  { mramUsed d with
    mem := memWrite d.mem (sheetAddr p) (zeros 8)
    lg := { g with
      headDig := shake256 (b.take 7405) 64, next := g.next + 1, logDegraded := false, tamperSeen := false
      jobs := g.jobs ++ [job], contNext := vmod g.contNext (bufLe b 0x0A 1) (fun _ => bufLe b 0x20 1 + 1) } }

/-- A submission by hart 3 (R402, R407). -/
def submitSheet (a : Nat) (d : Device) : Device :=
  if lgBusy d || !d.lg.recovered then lgResult 1 19 d
  else
    let b := memRead d.mem a 0x2000
    match submitOutcome d a, offeredPosition d with
    | 0, some (p, o) => acceptSheet b p o (lgResult 1 0 d)
    | o, _ =>
      let d1 := lgResult 1 o (sheetRefused b o d)
      if o = 7 then reamFullEvent d1 else d1

/-- A command of the LG by a hart: harts other than 3 are refused with outcome 20 (R402). -/
def lgCommand (h : Hart) (addr cmd : Nat) (f : Device → Device) (d : Device) : Device :=
  hartWrite h 10 addr (fun d1 => if h.val = 3 then f d1 else lgResult (if cmd = 0 then d1.lg.lastCmd else cmd) 20 d1) d

/-- LG_SUBMIT (R402). -/
def lgSubmitEffect (h : Hart) (v : Word) (d : Device) : Device :=
  lgCommand h 0x600A0000 1 (submitSheet (v.toNat / 0x2000 * 0x2000)) d
/-- LG_SUBMIT. -/
def execLgSubmit (h : Hart) (v : Word) (s : State) : Host.Outcome State Fault Refusal := s.run (lgSubmitEffect h v)

/-- The sheet stands in the ream (R404 steps 3–5): events 0x0A10 and 0x0A15, LG_RECORDED, and the release that waited
for it. A domain that has returned to reset since the acceptance keeps its bit clear. -/
def sheetDone (p : Nat) (b : List Byte) (prior : Option (Nat × Nat)) (d : Device) : Device :=
  let bd := bufLe b 0x0A 1
  let fl := bufLe b 0x1C 2
  let rec_ := !fl.testBit 6 && d.lg.contNext.toList.getD bd 0 == bufLe b 0x20 1 + 1
  let d1 := { mramUsed d with mem := storeSheet d.mem p b, lg := { d.lg with jobs := d.lg.jobs.drop 1, used := setBit d.lg.used p } }
  let d2 := modLg (fun g => { g with recorded := if rec_ then setBit g.recorded bd else g.recorded }) d1
  let d3 := event 0x0A10 1 [bufLe b 4 4, bd, p, fl] d2
  let d4 := match prior with
    | some o => event 0x0A15 5 [o.1, o.2, bufLe b 4 4, d3.lg.ovrUpTo.toNat] d3
    | none => d3
  lgSettle (if rec_ then gateRelease bd d4 else d4)

/-- A write at the position fails (R429): it is bad, and the sheet goes to the next that R403 offers; where there is
none, outcome 10 undoes the acceptance, whose latches were not consumed (R399). -/
def sheetFailed (p : Nat) (b : List Byte) (prior : Option (Nat × Nat)) (prevNext : Nat) (prevDig : List Byte)
    (prevLog prevTamper : Bool) (d : Device) : Device :=
  let rest := d.lg.jobs.drop 1
  let d1 := degradeReam (0x2000 * p) (modLg (fun g => { g with jobs := rest }) d)
  match offeredPosition d1 with
  | some (q, o) =>
    let prior1 := if o then some (sheetNo d1.mem q, sheetBd d1.mem q) else prior
    modLg (fun g => { g with jobs := .sheet q b prior1 prevNext prevDig prevLog prevTamper :: rest })
      { mramUsed d1 with mem := memWrite d1.mem (sheetAddr q) (zeros 8) }
  | none =>
    lgSettle (sheetRefused b 10 (lgResult 1 10 (modLg (fun g => { g with
      next := prevNext, headDig := prevDig, tamperSeen := g.tamperSeen || prevTamper
      contNext := vmod g.contNext (bufLe b 0x0A 1) (fun n => n - 1) }) d1)))

/-- SHEET_STORED (R404): the write of the sheet being stored ends; `ok` says that it was read back as written. -/
def sheetStoredEffect (ok : Bool) (d : Device) : Device :=
  if !mainRuns d then d
  else match d.lg.jobs with
    | .sheet p b prior pn pd pl pt :: _ => if ok then sheetDone p b prior d else sheetFailed p b prior pn pd pl pt d
    | _ => d
/-- SHEET_STORED. -/
def execSheetStored (ok : Bool) (s : State) : Host.Outcome State Fault Refusal := s.run (sheetStoredEffect ok)

/-- An acknowledgement that hart 3 hands to the LG (R407, R408). -/
def hartAck (a n : Nat) (g : List Byte) (d : Device) : Device :=
  if a != 0x18 && a != 0x19 && a != 0x30 then lgResult 2 20 d
  else if lgBusy d || !d.lg.recovered then lgResult 2 19 d
  else modLg (fun l => { l with jobs := l.jobs ++ [.ack a n g] }) (lgResult 2 0 d)

/-- LG_ACK (R407, R408). -/
def lgAckEffect (h : Hart) (v : Word) (d : Device) : Device :=
  lgCommand h 0x600A0014 2
    (fun d1 => if bit v 8 then hartAck (field v 0 8) d1.lg.ackNum.toNat d1.lg.ackDig d1 else d1) d
/-- LG_ACK. -/
def execLgAck (h : Hart) (v : Word) (s : State) : Host.Outcome State Fault Refusal := s.run (lgAckEffect h v)

/-- HOST_PAGE_ACK (R407, R409): an LD's write of CX_HP_EXP_ACK waits, unless one of its own still waits or recovery
runs. -/
def hostPageAckEffect (ld : Ld) (v : Word) (d : Device) : Device :=
  if !cxlUp d then d
  else if !d.lg.recovered || (ldOf d ld).ackBusy then modLd ld (fun l => { l with ackOutcome := 19 }) d
  else
    modLg (fun g => { g with jobs := g.jobs ++ [.ack ld v.toNat (ldOf d ld).expDig] })
      (modLd ld (fun l => { l with ackBusy := true }) d)
/-- HOST_PAGE_ACK. -/
def execHostPageAck (ld : Ld) (v : Word) (s : State) : Host.Outcome State Fault Refusal := s.run (hostPageAckEffect ld v)

/-- The outcome of an acknowledgement goes to its requester: an LD's AckOutcome, or LG_RESULT. -/
def ackOutcome (a outcome : Nat) (d : Device) : Device :=
  if a < 16 then modLd a (fun l => { l with ackBusy := false, ackOutcome := outcome }) d else lgResult 2 outcome d

/-- An acknowledgement is served (R407). -/
def serveAck (a n : Nat) (g : List Byte) (d : Device) : Device :=
  let mask := ((rightsNow d a).map (·.exportBdMask)).getD 0
  let d1 := modLg (fun l => { l with jobs := l.jobs.drop 1 }) d
  let o := checkAck d.mem d.lg.bad mask n g
  let d2 := ackOutcome a o d1
  if o = 0 then
    let ps := ackPositions d.mem d.lg.bad mask n
    lgSettle (event 0x0A13 1 [a, n, ps.length, mask] { mramUsed d2 with mem := writeAcks a ps d2.mem })
  else lgSettle (event 0x0A14 3 [a, n, o, 0] d2)

/-- ACK_SERVED (R407). -/
def ackServedEffect (d : Device) : Device :=
  if !mainRuns d then d
  else match d.lg.jobs with
    | .ack a n g :: _ => serveAck a n g d
    | _ => d
/-- ACK_SERVED. -/
def execAckServed (s : State) : Host.Outcome State Fault Refusal := s.run ackServedEffect

/-- OVR_UPTO_WRITE (R412). -/
def ovrUptoWriteEffect (h : Hart) (v : Word) (d : Device) : Device :=
  lgCommand h 0x600A0024 0 (fun d1 => lgSettle (modLg (fun g => { g with ovrUpTo := v }) d1)) d
/-- OVR_UPTO_WRITE. -/
def execOvrUptoWrite (h : Hart) (v : Word) (s : State) : Host.Outcome State Fault Refusal := s.run (ovrUptoWriteEffect h v)

/-- REAM_RECOVERED (R406): the scan ends; `readable` says that the head could be read. A head that could not is lost
(R429). -/
def reamRecoveredEffect (readable : Bool) (d : Device) : Device :=
  if !mainRuns d || !d.kv.loadDone || d.lg.recovered then d
  else
    let head := highestSheet d.mem (heldPositions d.mem)
    let ok := readable && !(head.any (fun p => rangeBroken d (sheetAddr p) 0x2000))
    let d1 := modLg (recoverReam d.mem ok) d
    let d2 := match head with
      | some p => if ok then d1 else degradeReam (0x2000 * p) d1
      | none => d1
    lgSettle d2
/-- REAM_RECOVERED. -/
def execReamRecovered (readable : Bool) (s : State) : Host.Outcome State Fault Refusal := s.run (reamRecoveredEffect readable)

end Sys2Proof.Machine
end

