-- ==== Sys2Proof/Machine/RecorderCmds.lean ====
section
/-! DEFINITION. The commands of the event recorder (spec/14_ream_and_event_recorder.md, R414–R430). -/

namespace Sys2Proof.Machine

open Sys2Proof

/-- The recorder changed. -/
def modEv (f : Recorder → Recorder) (d : Device) : Device := { d with ev := f d.ev }

/-- EVENT_ARRIVAL (R420): an event of a hardware block, or of an agent that hardware records. No agent has an AID that R12
does not list (R13). -/
def eventArrivalEffect (code sev aid : Nat) (params : List Nat) (d : Device) : Device :=
  if aidListed (aid % 256) then arriveEvent false (code % 65536) (aid % 256) (sev % 16) params d else d
/-- EVENT_ARRIVAL. -/
def execEventArrival (code sev aid : Nat) (params : List Nat) (s : State) : Host.Outcome State Fault Refusal :=
  s.run (eventArrivalEffect code sev aid params)

/-- The five parameters in a hart's EV_POST_P0–P9. -/
def postParams (d : Device) (h : Hart) : List Nat :=
  (List.range 5).map fun k => ((d.ev.posts[h]).toList.getD (2 * k) 0).toNat + 2 ^ 32 * ((d.ev.posts[h]).toList.getD (2 * k + 1) 0).toNat

/-- EV_POST (R416, R422): by stage firmware; absent while stage 1 is not attached (R33). -/
def evPostEffect (h : Hart) (v : Word) (d : Device) : Device :=
  hartWrite h 9 0x60090000 (fun d1 =>
    if attached d1 && within 0x0100 0x0FFF (field v 0 16) then
      arriveEvent true (field v 0 16) (0x10 + h) (if 6 < field v 16 4 then 4 else field v 16 4) (postParams d1 h) d1
    else d1) d
/-- EV_POST. -/
def execEvPost (h : Hart) (v : Word) (s : State) : Host.Outcome State Fault Refusal := s.run (evPostEffect h v)

/-- The recorder writes records: main core running, recovery and clearing done, a segment left. -/
def recording (d : Device) : Bool :=
  mainRuns d && !d.ev.recovering && d.ev.clearing.isNone && !d.ev.full && !d.ev.noSurvivor

/-- What MRAM and the recorder are after a step of the log: MRAM has been written. -/
def logWritten (p : Memory × Recorder) (d : Device) : Device := { mramUsed d with mem := p.1, ev := p.2 }

/-- With the last segment gone after a write, what waits goes the way of R428. -/
def afterWrite (d : Device) : Device := if d.ev.noSurvivor then ringOnly d else d

/-- RECORD_WRITE_DONE (R418, R427): the front of the queue is written and read back; `ok` says that the read-back
succeeds. A word stored flipped by EC_INJECT fails it, or is corrected (R571). A record that fails is written again in
the next segment. -/
def recordWriteDoneEffect (ok : Bool) (d : Device) : Device :=
  if !recording d || d.ev.queue.isEmpty then d
  else
    let a := recordAddr d.ev.nextIndex
    let d1 := noteStore a 64 d
    if rangeBroken d1 a 64 then readErrors a 64 d1
    else if !ok then degradeLog (64 * d.ev.nextIndex) d1
    else
      readErrors a 64 (afterWrite (logWritten (writeFront (evEnv d1) d1.mem d1.ev) d1))
/-- RECORD_WRITE_DONE. -/
def execRecordWriteDone (ok : Bool) (s : State) : Host.Outcome State Fault Refusal := s.run (recordWriteDoneEffect ok)

/-- Outcome of a request to clear (R424): 0 accepted, 1 rights, 2 sequence, 3 busy. -/
def clearRequest (d : Device) (aid s : Nat) : Nat :=
  if d.ev.clearing.isSome || d.ev.recovering then 3
  else if !((rightsNow d aid).any (fun r => r.mayClearEventLog && r.eventSourceMask % 2 ^ 34 == 2 ^ 34 - 1)) then 1
  else if s != d.ev.lastSeq then 2 else 0

/-- An accepted request starts the clear. -/
def startClear (aid outcome : Nat) (d : Device) : Device :=
  if outcome = 0 then modEv (fun r => { r with clearing := some aid }) d else d

/-- HOST_EVENT_CLEAR (R424). -/
def hostEventClearEffect (ld : Ld) (v : Word) (d : Device) : Device :=
  if !cxlUp d then d
  else
    let o := clearRequest d ld v.toNat
    startClear ld o (modLd ld (fun l => { l with clearOutcome := o }) d)
/-- HOST_EVENT_CLEAR. -/
def execHostEventClear (ld : Ld) (v : Word) (s : State) : Host.Outcome State Fault Refusal := s.run (hostEventClearEffect ld v)

/-- A clear that hart 3 requests for an I3C port; another AID has no rights to it (notes/assumptions/47.md). -/
def hartClear (aid s : Nat) (d : Device) : Device :=
  let o := if aid = 0x18 ∨ aid = 0x19 then clearRequest d aid s else 1
  startClear aid o (modEv (fun r => { r with clearOutcome := o }) d)

/-- EV_CLEAR (R424). -/
def evClearEffect (h : Hart) (v : Word) (d : Device) : Device :=
  onlyHart 3 h 9 0x60090214 (fun d1 => if bit v 8 then hartClear (field v 0 8) d1.ev.clearSeq.toNat d1 else d1) d
/-- EV_CLEAR. -/
def execEvClear (h : Hart) (v : Word) (s : State) : Host.Outcome State Fault Refusal := s.run (evClearEffect h v)

/-- EVENT_LOG_CLEAR_DONE (R424). -/
def eventLogClearDoneEffect (d : Device) : Device :=
  match d.ev.clearing with
  | some aid =>
    if !mainRuns d then d
    else afterWrite (logWritten (clearLog (evEnv d) aid d.mem d.ev) d)
  | none => d
/-- EVENT_LOG_CLEAR_DONE. -/
def execEventLogClearDone (s : State) : Host.Outcome State Fault Refusal := s.run eventLogClearDoneEffect

/-- The record a ring entry becomes in the log (R426): its own fields with FromRing, or 0x0A06 where its CRC fails. -/
def ringEvent (env : EvEnv) (pos : Nat) (b : List Byte) : EventRec :=
  let code := bufLe b 12 2
  if bufLe b 56 8 == (crc64 (b.take 56)).toNat then
    { ts := bufLe b 0 8, code := code, aid := bufLe b 14 1, sev := bufLe b 15 1 % 16, flags := 2 ||| (bufLe b 15 1 / 16 % 2)
      params := (List.range 5).map fun k => bufLe b (16 + 8 * k) 8 }
  else { ts := env.now, code := 0x0A06, aid := 0xFF, sev := 4, flags := 0, params := [pos, bufLe b 8 4, code, 0, env.epoch] }

/-- One record written directly, with the closing record after record 65,534 (R423). -/
def putDirect (env : EvEnv) (e : EventRec) (s : Memory × Recorder) : Memory × Recorder :=
  if s.2.full then (s.1, dropEvent s.2)
  else if 65536 ≤ s.2.nextIndex then s
  else
    let p := putRecord env e s.1 s.2
    closeIfFull env p.1 p.2

/-- The log as recovery finds it (R425): pointer, last sequence number, highest ring sequence carried; a torn record at
the pointer is zeroed. -/
def recoverLog (m : Memory) (r : Recorder) : Memory × Recorder :=
  let p := recoverPointer m
  let m1 := if p.1 < 65536 then memWrite m (recordAddr p.1) (zeros 8 ++ List.replicate 4 0xFF ++ zeros 52) else m
  (m1, { r with nextIndex := skipBad r.badSeg p.1, lastSeq := p.2, full := decide (65536 ≤ p.1), ringCarried := recoverCarried m })

/-- Records in the log that hold a sequence number. -/
def recordCount (m : Memory) : Nat := ((List.range 65536).filter (recordValid m)).length

/-- The carry of ring records, in ring sequence order: memory and recorder, how many were carried, and the highest ring
sequence carried. One that finds no position left stays in the ring alone. -/
def carryRecords (env : EvEnv) : List (Nat × List Byte) → (Memory × Recorder) × Nat × Nat → (Memory × Recorder) × Nat × Nat
  | [], acc => acc
  | x :: tl, acc =>
    if acc.1.2.full || decide (65536 ≤ acc.1.2.nextIndex) then acc
    else carryRecords env tl (putDirect env (ringEvent env x.1 x.2) acc.1, acc.2.1 + 1, bufLe x.2 8 4)

/-- The carry of R426: ring records above the highest carried, then 0x0A04. -/
def carryRing (env : EvEnv) (bat : Battery) (s : Memory × Recorder) : Memory × Recorder :=
  let hi := s.2.ringCarried
  let n := recordCount s.1
  let c := carryRecords env ((ringRecords bat).filter (fun x => decide (hi < bufLe x.2 8 4))) (s, 0, hi)
  let e : EventRec :=
    { ts := env.now, code := 0x0A04, aid := 0xFF, sev := 1, flags := 0
      params := [n + c.2.1, c.2.1, c.2.2, c.1.2.dropAtReset, env.epoch] }
  let s2 := putDirect env e c.1
  (s2.1, { s2.2 with recovering := false, ringCarried := c.2.2 })

/-- RECORDER_RECOVERED (R425, R426): the log is recovered, time resumes after a battery loss (R414), the ring is carried; spans that ended as the main core went down are recorded (R47). -/
def recorderRecoveredEffect (d : Device) : Device :=
  if !mainRuns d || !d.kv.loadDone || !d.ev.recovering then d
  else
    let d1 := readErrors eventBase 0x400000 d
    let d2 := resumeTime (logWritten (recoverLog d1.mem d1.ev) d1)
    recordSpans (afterWrite (logWritten (carryRing (evEnv d2) d2.bat (d2.mem, d2.ev)) d2))
/-- RECORDER_RECOVERED. -/
def execRecorderRecovered (s : State) : Host.Outcome State Fault Refusal := s.run recorderRecoveredEffect

end Sys2Proof.Machine
end

