-- ==== Sys2Proof/Machine/ServingCmds.lean ====
section
/-! DEFINITION. The commands of the image store, the flash command queue and platform boot
(spec/08_serving_gates_and_spares.md, R232–R266; spec/13_platform_boot.md, R376–R396; spec/21, R573). -/

namespace Sys2Proof.Machine

open Sys2Proof

/-! ### IS_BDn_SERVE (R389, R390, R393) -/

/-- Address of a register of a domain in IS. -/
def isAddr (bd off : Nat) : Nat := 0x60070000 + 16 * bd + off

/-- The image headers at an address of shared working SRAM; none outside it (notes/assumptions/44.md). -/
def sramHeaders (d : Device) (a n : Nat) : List (List Byte) :=
  if inSram a (128 * n) && !rangeBroken d a (128 * n) then (List.range n).map (fun i => memRead d.mem (a + 128 * i) 128) else []

/-- A write of IS_BDn_SERVE by hart 2. -/
def serveWrite (bd : Nat) (v : Word) (d : Device) : Device :=
  let slot := field v 1 2
  if bit v 0 == bit v 3 || !slotServable d bd slot then d
  else if bit v 3 then rejectSlot bd slot d
  else startSlot bd slot (sramHeaders d (v.toNat / 16 * 16) (slotImages (curLeaf d) bd slot).length) d

/-- SERVE_START (R390). -/
def serveStartEffect (h : Hart) (bd : Bd) (v : Word) (d : Device) : Device := onlyHart 2 h 7 (isAddr bd 0x0C) (serveWrite bd v) d
/-- SERVE_START. -/
def execServeStart (h : Hart) (bd : Bd) (v : Word) (s : State) : Host.Outcome State Fault Refusal := s.run (serveStartEffect h bd v)

/-- SERVE_REJECT (R393). -/
def serveRejectEffect (h : Hart) (bd : Bd) (v : Word) (d : Device) : Device := onlyHart 2 h 7 (isAddr bd 0x0C) (serveWrite bd v) d
/-- SERVE_REJECT. -/
def execServeReject (h : Hart) (bd : Bd) (v : Word) (s : State) : Host.Outcome State Fault Refusal := s.run (serveRejectEffect h bd v)

/-- A domain waits for resources alone: its AfterBd has passed (R243, R391). -/
def waitsResources (d : Device) (bd : Nat) : Bool := (domain d bd).state == .waiting && afterPassed d bd

/-- A waiting domain starts before another: one that was short of a resource before the other asked, and else the lower
one (R243; notes/assumptions/120.md). -/
def startsBefore (d : Device) (a b : Nat) : Bool :=
  let x := (domain d a).waitRank
  let y := (domain d b).waitRank
  decide (x < y ∨ (x = y ∧ a < b))

/-- WAITING_DOMAIN_START (R243): waiting domains start in order, and none starts ahead of one that is still short. -/
def waitingDomainStartEffect (bd : Bd) (d : Device) : Device :=
  if !mainRuns d || (domain d bd).state != .waiting ||
      (List.range 16).any (fun b => waitsResources d b && startsBefore d b bd) then d
  else tryServe bd d
/-- WAITING_DOMAIN_START. -/
def execWaitingDomainStart (bd : Bd) (s : State) : Host.Outcome State Fault Refusal := s.run (waitingDomainStartEffect bd)

/-- The device whose bus carries a serving burst of an image. -/
def burstDevice (d : Device) (bd image : Nat) : Option Nat :=
  (List.range 64).find? (fun f => ((tsAt d f).current.map (·.issuer)) == some (.serving bd image))

/-- SERVING_READ_COMPLETE (R240, R241): the data phase of the image's serving burst ends. -/
def servingReadCompleteEffect (bd : Bd) (image result : Nat) (data : List Byte) (d : Device) : Device :=
  if !mainRuns d then d
  else match burstDevice d bd image with
    | some f => flashDone f result data d
    | none => d
/-- SERVING_READ_COMPLETE. -/
def execServingReadComplete (bd : Bd) (image result : Nat) (data : List Byte) (s : State) : Host.Outcome State Fault Refusal :=
  s.run (servingReadCompleteEffect bd image result data)

/-- StreamIdleMs, where 0 acts as 1 (IS_CFG). -/
def streamIdleMs (d : Device) : Nat := max 1 (field d.is_.cfg 0 8)

/-- STREAM_IDLE_EXPIRY (R242 step 4): serving of a Streamed image closes and its stream ends (R286). -/
def streamIdleExpiryEffect (bd : Bd) (image : Nat) (d : Device) : Device :=
  if !mainRuns d || !bdServing (domain d bd) then d
  else match (domain d bd).images[image]? with
    | none => d
    | some im =>
      if im.imgRec.serveMode != 2 || im.closed || decide (im.units < unitsOf im.imgRec.length) ||
          decide (d.clock.opTime * 1000 < im.lastRead * 1000 + streamIdleMs d * 1024) then d
      else
        let d1 := modImage bd image (fun x => { x with closed := true }) d
        match ctxOf d1.dg im.ctx with
        | some c => serveVerdict bd image (dgLift (closeStream c d1.dg) d1)
        | none => serveVerdict bd image d1
/-- STREAM_IDLE_EXPIRY. -/
def execStreamIdleExpiry (bd : Bd) (image : Nat) (s : State) : Host.Outcome State Fault Refusal :=
  s.run (streamIdleExpiryEffect bd image)

/-- A reboot of a domain (R238, R392), ignored in None and Held. -/
def rebootDomain (bd reason : Nat) (d : Device) : Device :=
  match (domain d bd).state with
  | .none => d
  | .held => d
  | _ => freshSequence bd reason d

/-- BD_REBOOT (IS_BDn_CTRL.Reboot): reason 6 after an SI_LOAD changed the domain's records, else 4 (R392). -/
def bdRebootEffect (h : Hart) (bd : Bd) (d : Device) : Device :=
  onlyHart 2 h 7 (isAddr bd 0x04) (fun d1 => rebootDomain bd (if (domain d1 bd).structChanged then 6 else 4) d1) d
/-- BD_REBOOT. -/
def execBdReboot (h : Hart) (bd : Bd) (s : State) : Host.Outcome State Fault Refusal := s.run (bdRebootEffect h bd)

/-- GATE_DELAY_EXPIRY (R248). -/
def gateDelayExpiryEffect (bd : Bd) (d : Device) : Device := if mainRuns d then gateDelay bd d else d
/-- GATE_DELAY_EXPIRY. -/
def execGateDelayExpiry (bd : Bd) (s : State) : Host.Outcome State Fault Refusal := s.run (gateDelayExpiryEffect bd)

/-- GATE_HOLD_DELAY_EXPIRY (R251). -/
def gateHoldDelayExpiryEffect (bd : Bd) (d : Device) : Device :=
  if (mainRuns d || d.power.state == .entering) && (domain d bd).holding.isSome then holdGates bd d else d
/-- GATE_HOLD_DELAY_EXPIRY. -/
def execGateHoldDelayExpiry (bd : Bd) (s : State) : Host.Outcome State Fault Refusal := s.run (gateHoldDelayExpiryEffect bd)

/-! ### Patrol scrub (R235, R236, R573) -/

/-- PATROL_SCRUB_STEP (R573): one word is checked; the last word of the image store ends a pass. -/
def patrolScrubStepEffect (region word syndrome : Nat) (d : Device) : Device :=
  if !mainRuns d then d
  else match scrubRegion region with
    | none => d
    | some r =>
      let w := word % (scrubPlace r).2.2
      let d1 := match scrubFinds d r w syndrome with
        | 0 => d
        | 1 => scrubCorrect r w d
        | _ => scrubBad r w d
      if r = .store ∧ w = 0xBFFFFF then { d1 with is_ := { d1.is_ with scrubPasses := (d1.is_.scrubPasses + 1) % 65536 } } else d1
/-- PATROL_SCRUB_STEP. -/
def execPatrolScrubStep (region word syndrome : Nat) (s : State) : Host.Outcome State Fault Refusal :=
  s.run (patrolScrubStepEffect region word syndrome)

/-! ### Flash command queue (R255, R256, R282) -/

/-- The descriptor in IS_FQ_DESC0–3. -/
def fqDesc (q : FlashQueue) : FqDesc :=
  { op := field q.desc[0] 0 8, f := field q.desc[0] 8 6, groupNext := bit q.desc[0] 14, len := field q.desc[0] 16 13
    addr := q.desc[1].toNat, buffer := q.desc[2].toNat, ctx := field q.desc[3] 0 12, snoop := bit q.desc[3] 12
    tag := field q.desc[3] 16 16 }

/-- A context that a descriptor may snoop into (R282), of the class a kind 3 tap requires (R280, R288). -/
def snoopOk (d : Device) (h : Nat) (n : Nat) : Bool :=
  match ctxOf d.dg n with
  | some c => c.owner == 0x10 + h && c.state == .absorbing && c.source == 1 && c.cls == 0 && (match c.tap with
      | none => true
      | some t => t.kind == 3)
  | none => false

/-- A submit that faults (R255, R282). -/
def submitFaults (d : Device) (h : Nat) (x : FqDesc) : Bool :=
  let q := fqOf d h
  decide (16 ≤ q.inFlight.length + q.openGroup.length) || (x.groupNext && decide (3 ≤ q.openGroup.length)) ||
    (x.snoop && !snoopOk d h x.ctx)

/-- A context's kind 3 tap, bound by a submit (R280). -/
def bindSnoop (x : FqDesc) (d : Device) : Device :=
  if !x.snoop then d
  else match ctxOf d.dg x.ctx with
    | some c => if c.tap.isSome then d
      else { d with dg := setCtx d.dg { c with
        tap := some { kind := 3, dev := 0, start := 0, next := 0 }, bound := some (3, 0, 0, d.tx.epoch) } }
    | none => d

/-- A range split at 4 KiB boundaries, in at most `fuel` pieces more. -/
def splitUnits : Nat → Nat → Nat → List (Nat × Nat)
  | 0, a, n => [(a, n)]
  | fuel + 1, a, n =>
    let first := 4096 - a % 4096
    if first < n then (a, first) :: splitUnits fuel (a + first) (n - first) else [(a, n)]

/-- The commands of a descriptor, whose Length has 13 bits: a read is split at 4 KiB boundaries (R209). -/
def descPieces (x : FqDesc) (isRead : Bool) : List (Nat × Nat) :=
  if isRead then splitUnits 2 x.addr x.len else [(x.addr, x.len)]

/-- A closed group enters the fabric (R214, R227): its descriptors, each with the tag of its acceptance, are in flight and
its commands reach the turnstiles that decide them. Where its members name different devices, the members for one device
are a group of their own (DESIGN CHOICE, notes/assumptions/119.md). -/
def submitGroup (h : Nat) (xs : List (FqDesc × Bool)) (d : Device) : Device :=
  let g := newGroup d
  (xs.zipIdx).foldl (fun acc p =>
    let x := p.1.1
    let id := (fqOf acc h).nextId
    let c : FlashCmd :=
      { op := x.op, addr := x.addr, len := x.len, data := [], issuer := .hart h id, aid := 0x10 + h, tag := some p.1.2
        group := g, member := p.2 }
    let ps := descPieces x (cmdKind acc (targetOf acc x.f c) c == .read)
    let acc1 := modFq h (fun q =>
      { q with nextId := q.nextId + 1, inFlight := q.inFlight ++ [{ id := id, desc := x, left := ps.length, reason := 0, result := 0 }] }) acc
    ps.foldl (fun a pc => enqueueCmd x.f { c with addr := pc.1, len := pc.2 } a) acc1) (usedGroup d)

/-- FQ_SUBMIT (IS_FQ_SUBMIT.Go). -/
def fqSubmitEffect (h : Hart) (v : Word) (d : Device) : Device :=
  hartWrite h 7 0x60070810 (fun d1 =>
    let q := fqOf d1 h
    let x := fqDesc q
    if !bit v 0 then d1
    else if submitFaults d1 h x then accessFault h 0x60070810 d1
    else
      let d2 := bindSnoop x d1
      if x.groupNext then modFq h (fun r => { r with openGroup := r.openGroup ++ [(x, curTag d2)] }) d2
      else submitGroup h (q.openGroup ++ [(x, curTag d2)]) (modFq h (fun r => { r with openGroup := [] }) d2)) d
/-- FQ_SUBMIT. -/
def execFqSubmit (h : Hart) (v : Word) (s : State) : Host.Outcome State Fault Refusal := s.run (fqSubmitEffect h v)

/-- FQ_RESULT_POP (R256): a read of IS_FQ_RESULT; Valid is 0 where the queue is empty. -/
def fqResultPopEffect (h : Hart) (d : Device) : Device :=
  if !mainRuns d || hartStalled d h then d
  else match (fqOf d h).results with
    | [] => replyWord 0 d
    | w :: tl => replyWord w (drainHart h (modFq h (fun q => { q with results := tl }) d))
/-- FQ_RESULT_POP. -/
def execFqResultPop (h : Hart) (s : State) : Host.Outcome State Fault Refusal := s.run (fqResultPopEffect h)

/-! ### IS_DEVn_CTRL (R258–R264) -/

/-- A write of IS_DEVn_CTRL by hart 2. -/
def devCtrl (h : Hart) (f : Dev) (g : Device → Device) (d : Device) : Device := onlyHart 2 h 7 (0x60070404 + 8 * f.val) g d

/-- DEVICE_RETIRE (R261): an assigned device that is neither Fenced nor retired already; the trigger of event 0x0821 is 2
after two DevReset attempts whose discovery failed, else 1. -/
def deviceRetireEffect (h : Hart) (f : Dev) (d : Device) : Device :=
  devCtrl h f (fun d1 =>
    let c := (healthAt d1 f).cond
    if (flashOf (curLeaf d1) f).isNone || c == 0 || c == 7 || c == 9 then d1
    else retireDevice f (if 2 ≤ (healthAt d1 f).failedResets then 2 else 1) d1) d
/-- DEVICE_RETIRE. -/
def execDeviceRetire (h : Hart) (f : Dev) (s : State) : Host.Outcome State Fault Refusal := s.run (deviceRetireEffect h f)

/-- DEVICE_PROBE (R263): a device retired in hardware, not Fenced, on a bus that is not quarantined, is discovered. -/
def deviceProbeEffect (h : Hart) (f : Dev) (d : Device) : Device :=
  devCtrl h f (fun d1 =>
    let fenced := ((flashOf (curLeaf d1) f).map (·.role)) == some 3
    if (healthAt d1 f).cond != 7 || fenced || (flashOf (curLeaf d1) f).isNone || (busAt d1 (f / 4)).quarantined then d1
    else startDiscovery f d1) d
/-- DEVICE_PROBE. -/
def execDeviceProbe (h : Hart) (f : Dev) (s : State) : Host.Outcome State Fault Refusal := s.run (deviceProbeEffect h f)

/-- The source a resync of a device copies from (R258, R264), and whether the device is in Probation. -/
def resyncSource (d : Device) (f : Nat) : Option (Nat × Bool) :=
  let L := curLeaf d
  match flashOf L f with
  | none => none
  | some r =>
    let c := (healthAt d f).cond
    if r.role = 2 ∧ (c = 2 ∨ c = 4 ∨ c = 5) ∧ (healthAt d r.spareFor).cond = 1 then some (r.spareFor, false)
    else if c = 8 then
      match spareOf L f with
      | some s => if (healthAt d s).cond == 6 then some (s, true) else none
      | none => none
    else none

/-- DEVICE_RESYNC (R258, R264): the copy starts with the first unit. -/
def deviceResyncEffect (h : Hart) (f : Dev) (d : Device) : Device :=
  devCtrl h f (fun d1 =>
    match resyncSource d1 f with
    | none => d1
    | some (src, prob) =>
      let d2 := setCond f 3 (dropResync f d1)
      resyncRead f { d2 with is_ := { d2.is_ with
        resyncs := d2.is_.resyncs ++ [{ target := f, source := src, copied := 0, probation := prob, left := none }] } }) d
/-- DEVICE_RESYNC. -/
def execDeviceResync (h : Hart) (f : Dev) (s : State) : Host.Outcome State Fault Refusal := s.run (deviceResyncEffect h f)

/-- RESYNC_COMPLETE (R258): both devices have been read into the two digest contexts, which have ended; on equal digests the
Spare is InSync, else Diverged. A device in Probation returns to it. Where no two contexts were free, the closing read is
tried again. -/
def resyncCompleteEffect (f : Dev) (d : Device) : Device :=
  match resyncOf d f with
  | none => d
  | some r =>
    if !mainRuns d || decide (r.copied < unitCount (curLeaf d) f) then d
    else match r.closing with
      | none => resyncRead f d
      | some (a, b, k) =>
        match closingDigest d a, closingDigest d b with
        | some x, some y =>
          if k < 2 * unitCount (curLeaf d) f then d
          else setCond f (if r.probation then 8 else if x.isSome && x == y then 4 else 5) (dropResync f d)
        | _, _ => d
/-- RESYNC_COMPLETE. -/
def execResyncComplete (f : Dev) (s : State) : Host.Outcome State Fault Refusal := s.run (resyncCompleteEffect f)

/-- END_PROBE (R263). -/
def endProbeEffect (h : Hart) (f : Dev) (d : Device) : Device := devCtrl h f (endProbation f) d
/-- END_PROBE. -/
def execEndProbe (h : Hart) (f : Dev) (s : State) : Host.Outcome State Fault Refusal := s.run (endProbeEffect h f)

/-! ### Platform boot (R384–R395) -/

/-- The manifest of an accepted area. -/
def manifestOf (a : Area) : Manifest :=
  { version := a.version, keyKind := sigKind a.sig, keySlot := sigSlot a.sig
    headers := a.heads.map (fun h => (bufBytes h 0 16, bufBytes h 32 64)), digest := a.digest }

/-- The slot of an attempt (R387 step 3): ActiveSlot, and Golden once that has failed in the sequence. -/
def attemptSlot (d : Device) (bd : Nat) (r : BdRec) : Nat := if hasBit (domain d bd).failedSlots r.activeSlot then 2 else r.activeSlot

/-- Size of a device in bytes. -/
def flashSize (d : Device) (f : Nat) : Nat := ((flashOf (curLeaf d) f).map (fun r => 2 ^ r.sizeLog2)).getD 0

/-- An attempt begins (R387 steps 3 and 4): the epoch is noted and the area's first read issued. -/
def startAttempt (bd fault : Nat) (d : Device) : Device :=
  match bdOf (curLeaf d) bd with
  | none => d
  | some r =>
    let slot := attemptSlot d bd r
    let loc := locatorOf r slot
    if !slotServable d bd slot then d
    else
      let a : AreaRead :=
        { slot := slot, flash := loc.flash, offset := loc.offset, size := flashSize d loc.flash, epoch := d.tx.epoch, fault := fault }
      areaRead bd (modBd bd (fun b => { b with attempt := some a }) d)

/-- The first failing check of the area that an attempt has read. -/
def attemptCheck (d : Device) (bd : Nat) (r : AreaRead) : Option (Nat × Nat) :=
  checkArea d bd r.slot r.size r.offset r.manRead r.fault (areaOf r.man r.keys)

/-- An attempt's area has been read (R387 steps 5–7): its checks, a new attempt where the epoch has changed, and then extends,
event 0x0840 and Start; or event 0x0841 and Reject. -/
def bootAttempt (bd : Nat) (r : AreaRead) (d : Device) : Device :=
  match attemptCheck d bd r with
  | some (code, detail) => rejectSlot bd r.slot (hartEvent 2 0x0841 4 [bd, r.slot, code, detail] d)
  | none =>
    if r.epoch ≠ d.tx.epoch then startAttempt bd r.fault d
    else
      let a := areaOf r.man r.keys
      let d1 := extendStart bd r.slot (domain d bd).reason a d
      let d2 := hartEvent 2 0x0840 1 [bd, r.slot, a.version, sigKind a.sig + 256 * sigSlot a.sig] d1
      let d3 := startSlot bd r.slot a.heads d2
      if (domain d3 bd).images.isEmpty then d3 else modBd bd (fun b => { b with manifest := some (manifestOf a) }) d3

/-- Hart 2 goes on with an attempt whose area has been read, at a tick (notes/assumptions/127.md); one whose domain has left
Held meanwhile is over. -/
def attemptTurn (bd : Nat) (d : Device) : Device :=
  match (domain d bd).attempt with
  | none => d
  | some r =>
    if r.burst.isSome || r.want.isSome then d
    else
      let d1 := modBd bd (fun b => { b with attempt := none }) d
      if slotServable d1 bd r.slot then bootAttempt bd r d1 else d1

/-- BD_SEQUENCE_START (R387): hart 2 starts the sequence of a Held domain, with event 0x0842, and begins an attempt on its
ActiveSlot; within a sequence, on Golden once that slot has failed. No agent has a reserved AID (R13). `fault` says which
verify jobs of the attempt meet an engine fault. -/
def bdSequenceStartEffect (bd : Bd) (requester fault : Nat) (d : Device) : Device :=
  match bdOf (curLeaf d) bd with
  | none => d
  | some r =>
    if !mainRuns d || !attached d || !aidListed requester || (domain d bd).state != .held || (domain d bd).attempt.isSome then d
    else
      let b := domain d bd
      startAttempt bd fault (if b.seqRunning then d
        else hartEvent 2 0x0842 1 [bd, b.reason, r.activeSlot, requester] (modBd bd (fun x => { x with seqRunning := true }) d))
/-- BD_SEQUENCE_START. -/
def execBdSequenceStart (bd : Bd) (requester fault : Nat) (s : State) : Host.Outcome State Fault Refusal :=
  s.run (bdSequenceStartEffect bd requester fault)

/-! ### Bundles (R394, R395, R444) -/

/-- The recovery channel accepts a bundle for a domain from a sender (R394). -/
def bundleAllowed (d : Device) (sender bd : Nat) : Bool :=
  let src := sender == 0x30 || sender == 0x18 || sender == 0x19 ||
    (decide (sender ≤ 15) && (rightsNow d sender).any (·.stagingWindow))
  src && (rightsNow d sender).any (fun r => r.mayStage && hasBit r.ledgerBdMask bd)

/-- The included images of a bundle, in manifest order, each with its record, the digest of its header and its bytes (R395). -/
def bundleImages (mask : Nat) : List ((List Byte × ImageRec) × Nat) → List Byte → List (ImageRec × List Byte × List Byte)
  | [], _ => []
  | ((h, r), i) :: tl, bs =>
    if hasBit mask i then (r, bufBytes h 32 64, bs.take r.length) :: bundleImages mask tl (bs.drop r.length)
    else bundleImages mask tl bs

/-- The blocks of a device that cover a range, as (device, block size, address). -/
def blocksOver (d : Device) (f off len : Nat) : List (Nat × Nat × Nat) :=
  match flashOf (curLeaf d) (redirect d f) with
  | some r =>
    let e := eraseBlock r
    (List.range (ceilDiv (off + len) e - off / e)).map (fun k => (f, e, (off / e + k) * e))
  | none => []

/-- Bytes programmed on a device, page by page. -/
def pagesOver (d : Device) (f off : Nat) (bs : List Byte) : List InstallStep :=
  match flashOf (curLeaf d) (redirect d f) with
  | some r =>
    let pg := max 1 (pageOf d r)
    (List.range (ceilDiv bs.length pg)).map (fun k => .write f .program (off + pg * k) ((bs.drop (pg * k)).take pg))
  | none => []

/-- The steps of R395 2 and 3: every block that the area and the included images cover is erased; the area is programmed, and
each image with its data phases snooped and its digest compared; the area is read back and its digest compared. -/
def bundleSteps (d : Device) (f off : Nat) (area : List Byte) (imgs : List (ImageRec × List Byte × List Byte)) : List InstallStep :=
  let blocks := (blocksOver d f off area.length ++ imgs.flatMap (fun i => blocksOver d i.1.sourceFlash i.1.sourceOffset i.1.length)).eraseDups
  blocks.map (fun b => .write b.1 (.erase b.2.1) b.2.2 []) ++ pagesOver d f off area ++
    imgs.flatMap (fun i => .digest none i.1.length :: pagesOver d i.1.sourceFlash i.1.sourceOffset i.2.2 ++ [.compare i.2.1 true]) ++
    .digest (some (redirect d f, off)) area.length :: (splitUnits (area.length / 4096 + 1) off area.length).map (fun p => .read f p.1 p.2) ++
    [.compare (shake256 area 64) false]

/-- The slot that a bundle may name (R395, R444): for a recovery bundle the ActiveSlot, for an update bundle A or B, where it
is neither the ActiveSlot nor being served. -/
def bundleSlotOk (d : Device) (r : BdRec) (bd slot : Nat) (update : Bool) : Bool :=
  if update then decide (slot ≤ 1) && slot != r.activeSlot && slot != (domain d bd).slot else slot == r.activeSlot

/-- The checks of R395 step 1, and what is then to be done; or the failing code: 0x40 short, a code of R384, 0x02 for a header
or an AreaLength that is not as R377 and R395 have it, 0x03 for a slot that the bundle may not name
(notes/assumptions/127.md). -/
def bundlePlan (d : Device) (bd slot : Nat) (update : Bool) (fault : Nat) (b : List Byte) : Except Nat (List InstallStep) :=
  let n := bufLe b 8 4
  let a := parseArea (bufBytes b 48 n)
  match bdOf (curLeaf d) bd with
  | none => .error 0x03
  | some r =>
    let loc := locatorOf r slot
    if b.length < 48 + n then .error 0x40
    else if !(bufLe b 0 4 == 0x42525842 && bufLe b 4 2 == 1 && bufZero b 12 4) then .error 0x02
    else if !bundleSlotOk d r bd slot update then .error 0x03
    else match checkArea d bd slot (flashSize d loc.flash) loc.offset true fault a with
      | some (c, _) => .error c
      | none =>
        let imgs := bundleImages (bufLe b 16 32) (a.heads.zip ((slotImages (curLeaf d) bd slot).map (·.1))).zipIdx (b.drop (48 + n))
        if n ≠ a.length then .error 0x02
        else if imgs.any (fun i => i.2.2.length != i.1.length) then .error 0x40
        else .ok (bundleSteps d loc.flash loc.offset (bufBytes b 48 n) imgs)

/-- Who gave an object hears its outcome, as CX_HP_STG_STAT has it, with the check code: hart 3 records event 0x0D06 for a card
(R518), and a port's Transfer end is answered (R497). -/
def senderHears (via : Sender) (kind outcome check len : Nat) (d : Device) : Device :=
  match via with
  | .none => d
  | .card s => hartEvent 3 0x0D06 3 [s, kind, outcome, len] d
  | .port m => transferAnswer (Fin.ofNat 2 m) kind outcome check d

/-- A bundle has been installed or rejected (R395, R396): event 0x0843, Reboot for a recovery bundle that is installed, and the
outcome to its sender. -/
def bundleEnds (i : Install) (code : Nat) (d : Device) : Device :=
  let d1 := hartEvent 2 0x0843 3 [i.bd, i.sender, code, i.written] d
  let d2 := if code = 0 ∧ i.update = false then rebootDomain i.bd 5 d1 else d1
  senderHears i.via (if i.update then 4 else 3) (if code = 0 then 1 else 6) code i.len d2

/-- Hart 2 takes a bundle (R395): one that fails a check is rejected at once, any other is installed through the flash command
queue. -/
def takeBundle (sender : Nat) (via : Sender) (update : Bool) (fault : Nat) (b : List Byte) (d : Device) : Device :=
  let bd := bufLe b 6 1
  let i : Install := { job := newGroup d, bd := bd, sender := sender, via := via, update := update, len := b.length, steps := [] }
  match bundlePlan d bd (bufLe b 7 1) update fault b with
  | .error code => bundleEnds i code d
  | .ok steps =>
    let d1 := usedGroup d
    installRun i.job steps { d1 with is_ := { d1.is_ with installs := d1.is_.installs ++ [i] } }

/-- Hart 2 goes on with an install, at a tick (notes/assumptions/127.md): one that has ended, or one that waits for a digest
context or a digest. -/
def installTurn (j : Nat) (d : Device) : Device :=
  match installOf d j with
  | none => d
  | some i =>
    match i.code with
    | some c => bundleEnds i c { d with is_ := { d.is_ with installs := d.is_.installs.filter (fun x => x.job != j) } }
    | none => if i.burst.isNone then installRun j i.steps d else d

/-- A bundle is being installed for a domain. -/
def installing (d : Device) (bd : Nat) : Bool := d.is_.installs.any (fun i => i.bd == bd)

/-- RECOVERY_BUNDLE_INSTALL (R394, R395): for a Stopped domain and an allowed sender. -/
def recoveryBundleInstallEffect (sender : Nat) (bundle : List Byte) (fault : Nat) (d : Device) : Device :=
  let bd := bufLe bundle 6 1
  if !mainRuns d || !attached d || (domain d bd).state != .stopped || !bundleAllowed d sender bd || installing d bd then d
  else takeBundle sender .none false fault bundle d
/-- RECOVERY_BUNDLE_INSTALL. -/
def execRecoveryBundleInstall (sender : Nat) (bundle : List Byte) (fault : Nat) (s : State) : Host.Outcome State Fault Refusal :=
  s.run (recoveryBundleInstallEffect sender bundle fault)

/-- The attempts whose areas have been read, in BD order. -/
def attemptsTurn (d : Device) : Device := (List.range 16).foldl (fun acc bd => attemptTurn bd acc) d

/-- The installs that wait for a free digest context or for a digest. -/
def installsTurn (d : Device) : Device := (d.is_.installs.map (·.job)).foldl (fun acc j => installTurn j acc) d

/-- Hart 2 takes its turn at a tick (R387, R395): attempts whose areas have been read, and installs. -/
def stewardTurn (d : Device) : Device := if !attached d || !hartUp d 2 then d else installsTurn (attemptsTurn d)

end Sys2Proof.Machine
end

