-- ==== Sys2Proof/Machine/Update.lean ====
section
/-! DEFINITION. Hitless self-update (spec/12_device_start.md, R373, R374), and how stage firmware takes an object that a card
or an I3C port brings (spec/15_cxl_host_port.md, R444). The update's last steps, which reset the core, are in
Machine/Power.lean. -/

namespace Sys2Proof.Machine

open Sys2Proof

/-- Every domain is None, Passed or Stopped and the mould is Idle with no SI copy (R373 step 2). -/
def updateQuiet (d : Device) : Bool :=
  (List.range 16).all (fun b => let st := (domain d b).state; st == .none || st == .passed || st == .stopped) &&
    d.tx.state == .idle && !d.tx.siCopyBusy

/-- Hart 0 takes a firmware image (R373 step 1): it is assembled in the image buffer and verified there; one that passes waits
for step 2, where the Active slot may be written. -/
def takeFirmware (via : Sender) (obj : List Byte) (d : Device) : Device :=
  let d1 := store fwBufferBase (obj.take fwSlotSize) d
  match fwCheck d1 fwBufferBase with
  | some c => senderHears via 2 6 c obj.length d1
  | none =>
    if !d1.start.activeWrite then senderHears via 2 2 0 obj.length d1
    else { d1 with start := { d1.start with update := some { via := via, len := obj.length } } }

/-- The image buffer holds an image that waits, or hart 0 is halted: no other is taken. -/
def updateBusy (d : Device) : Bool := d.start.update.isSome || hartStalled d 0

/-- A bundle may be installed (R394, R444): a recovery bundle by the recovery channel's rule, for a Stopped domain; an update
bundle by a sender that may stage for the domain. -/
def bundlePermitted (d : Device) (aid : Nat) (update : Bool) (b : List Byte) : Bool :=
  let bd := bufLe b 6 1
  if update then (rightsNow d aid).any (fun r => r.mayStage && hasBit r.ledgerBdMask bd)
  else (domain d bd).state == .stopped && bundleAllowed d aid bd

end Sys2Proof.Machine
end

