-- ==== Sys2Proof/Machine/FjMessages.lean ====
section
/-! DEFINITION. Fjarlin messages over MCTP on the I3C ports (spec/17_mailboxes.md, R497). The statuses of refusals that
R497 does not name: notes/assumptions/52.md. -/

namespace Sys2Proof.Machine

open Sys2Proof

/-- Status, detail, body and effect of a message. -/
structure FjAnswer where
  status : Nat
  detail : Nat
  body : List Byte
  dev : Device

/-- Messages on a port are served (R493, R497). -/
def fjServes (d : Device) (m : Mport) : Bool := mainRuns d && i3cMode d m != 0 && portServed d m

/-- A Fjarlin message on a port, answered by the hart that serves it (R497). -/
def fjMessage (m : Mport) (command tag : Nat) (f : Device → FjAnswer) (d : Device) : Device :=
  if fjServes d m then
    let r := f d
    respond m (fjBytes command tag r.status r.detail r.body) r.dev
  else d

/-- Stage firmware with a committed epoch: every command is served, with the port's rights. -/
def fjFull (d : Device) : Bool := attached d && d.tx.fabricLive

/-- A command that is not served in ROM recovery, nor in stage 1 without an epoch: Unavailable there. -/
def fjRights (m : Mport) (command tag : Nat) (f : Device → FjAnswer) (d : Device) : Device :=
  fjMessage m command tag (fun d1 => if fjFull d1 then f d1 else { status := 5, detail := 0, body := [], dev := d1 }) d

/-- FJ_STATUS (R448, R497): within the port's LedgerBdMask. -/
def fjStatusEffect (m : Mport) (tag : Nat) (d : Device) : Device :=
  fjMessage m 0x01 tag (fun d1 => { status := 0, detail := 0, body := statusObject (ledgerMask d1 (portAid m)) d1, dev := d1 }) d
/-- FJ_STATUS. -/
def execFjStatus (m : Mport) (tag : Nat) (s : State) : Host.Outcome State Fault Refusal := s.run (fjStatusEffect m tag)

/-! ### Transfers -/

/-- Another sender has a session of Kind 1 or 2. -/
def otherImageSession (d : Device) (m : Mport) : Bool :=
  d.cx.lds.toList.any (fun l => l.session.any (fun s => decide (s.kind ≤ 2))) ||
    (List.range 2).any (fun n => n != m.val && (i3cAt d n).session.any (fun s => decide (s.kind ≤ 2)))

/-- Outcome of a Transfer begin (R441, R497): 0 accepted, 2 NotPermitted, 3 Busy, 4 BadLength. -/
def beginOutcome (d : Device) (m : Mport) (kind len : Nat) : Nat :=
  let permitted :=
    if fjFull d then
      within 1 5 kind && (rightsNow d (portAid m)).any (·.mayStage) && (kind != 3 || recoveryOpen d (portAid m))
    else if d.start.phase == .recovery then kind == 2 else kind == 1
  let limit := if kind = 5 then 0x10000 else stagingLimit kind
  if !permitted then 2
  else if (decide (kind ≤ 2) && otherImageSession d m) || (kind == 1 && d.tx.sipLocked) then 3
  else if len = 0 || decide (limit < len) then 4
  else 0

/-- Status of a R441 outcome. -/
def outcomeStatus (o : Nat) : Nat := if o = 2 then 1 else if o = 3 then 2 else if o = 4 then 3 else 0

/-- TRANSFER_BEGIN (R497): it ends the port's current session with outcome 5. -/
def transferBeginEffect (m : Mport) (tag kind len : Nat) (d : Device) : Device :=
  fjMessage m 0x10 tag (fun d1 =>
    let d2 := endTransfer m 5 0 d1
    let o := beginOutcome d2 m kind len
    { status := outcomeStatus o, detail := o, body := []
      dev := if o = 0 then modI3c m (fun p => { p with session := some { kind := kind, len := len, data := [] } }) d2 else d2 }) d
/-- TRANSFER_BEGIN. -/
def execTransferBegin (m : Mport) (tag kind len : Nat) (s : State) : Host.Outcome State Fault Refusal :=
  s.run (transferBeginEffect m tag kind len)

/-- TRANSFER_DATA (R497). -/
def transferDataEffect (m : Mport) (tag offset : Nat) (data : List Byte) (d : Device) : Device :=
  fjMessage m 0x11 tag (fun d1 =>
    match (i3cAt d1 m).session with
    | none => { status := 3, detail := 0, body := [], dev := d1 }
    | some t =>
      if offset != t.data.length || decide (1024 < data.length) || decide (t.len < offset + data.length) then
        { status := 3, detail := 0, body := [], dev := d1 }
      else
        { status := 0, detail := 0, body := []
          dev := modI3c m (fun p => { p with session := some { t with data := t.data ++ data } }) d1 }) d
/-- TRANSFER_DATA. -/
def execTransferData (m : Mport) (tag offset : Nat) (data : List Byte) (s : State) : Host.Outcome State Fault Refusal :=
  s.run (transferDataEffect m tag offset data)

/-- What consumes a session's content cannot take it now: the Transfer end is answered Busy and the session stays open
(notes/assumptions/52.md). -/
def consumerBusy (d : Device) (t : Transfer) : Bool :=
  if d.start.phase == .recovery then false
  else match t.kind with
    | 1 => siBusy d
    | 2 => updateBusy d
    | 3 => installing d (bufLe t.data 6 1)
    | 4 => installing d (bufLe t.data 6 1)
    | _ => false

/-- A session's content is consumed (R369, R411, R444); the Transfer end is answered as that ends. `fault` says which verify
jobs of a bundle meet an engine fault. -/
def consumeTransfer (m : Mport) (t : Transfer) (fault : Nat) (d : Device) : Device :=
  let answer := fun (outcome check : Nat) (x : Device) => transferAnswer m t.kind outcome check x
  if d.start.phase == .recovery then
    let r := romInstall 2 t.data d
    answer (if r.1 = 0 then 1 else 6) r.1 r.2
  else match t.kind with
    | 1 => takeSi (portAid m) t.data (modI3c m (fun p => { p with loading := true }) d)
    | 2 => takeFirmware (.port m) t.data d
    | 5 => match releaseBad d t.data with
      | none => answer 1 0 (acceptRelease t.data d)
      | some c => answer 6 c d
    | k =>
      if bundlePermitted d (portAid m) (k == 4) t.data then takeBundle (portAid m) (.port m) (k == 4) fault t.data d
      else answer 2 0 d

/-- TRANSFER_END (R444, R497): BadArgument without a session, or with bytes missing, and the session stays open. -/
def transferEndEffect (m : Mport) (tag fault : Nat) (d : Device) : Device :=
  match (i3cAt d m).session with
  | none => fjMessage m 0x12 tag (fun d1 => { status := 3, detail := 0, body := [], dev := d1 }) d
  | some t =>
    if t.data.length < t.len then fjMessage m 0x12 tag (fun d1 => { status := 3, detail := 0, body := [], dev := d1 }) d
    else if (i3cAt d m).ending.isSome || consumerBusy d t then
      fjMessage m 0x12 tag (fun d1 => { status := 2, detail := 0, body := [], dev := d1 }) d
    else if !fjServes d m then d
    else
      let r := requester (i3cAt d m)
      consumeTransfer m t fault (modI3c m (fun p => { p with msgs := p.msgs.drop 1, ending := some (tag, r.1, r.2) }) d)
/-- TRANSFER_END. -/
def execTransferEnd (m : Mport) (tag fault : Nat) (s : State) : Host.Outcome State Fault Refusal :=
  s.run (transferEndEffect m tag fault)

/-! ### Ledger and event log -/

/-- SHEET_READ (R419, R497). -/
def sheetReadEffect (m : Mport) (tag sheet offset len : Nat) (d : Device) : Device :=
  fjRights m 0x20 tag (fun d1 =>
    if decide (1024 < len) || decide (0x2000 < offset + len) then { status := 3, detail := 0, body := [], dev := d1 }
    else match positionOf d1.mem d1.lg.bad sheet with
      | none => { status := 5, detail := 0, body := [], dev := d1 }
      | some p =>
        let a := sheetAddr p + offset
        if !coversSheet d1 (portAid m) p then { status := 1, detail := 0, body := [], dev := d1 }
        else if rangeBroken d1 a len then { status := 5, detail := 0, body := [], dev := readErrors a len d1 }
        else { status := 0, detail := 0, body := memRead d1.mem a len, dev := readErrors a len d1 }) d
/-- SHEET_READ. -/
def execSheetRead (m : Mport) (tag sheet offset len : Nat) (s : State) : Host.Outcome State Fault Refusal :=
  s.run (sheetReadEffect m tag sheet offset len)

/-- Status of an LG outcome. -/
def lgStatus (o : Nat) : Nat := if o = 0 then 0 else if o = 16 then 1 else if o = 19 then 2 else if o = 17 then 5 else 3

/-- SHEET_ACKNOWLEDGE (R407, R408, R497): hart 3 hands the acknowledgement to the LG and answers with its outcome. -/
def sheetAcknowledgeEffect (m : Mport) (tag : Nat) (sheet : Word) (g : List Byte) (d : Device) : Device :=
  fjRights m 0x21 tag (fun d1 =>
    let d2 := modLg (fun l => { l with ackNum := sheet, ackDig := padTo 8 g }) d1
    let d3 := hartAck (portAid m) sheet.toNat (padTo 8 g) d2
    let d4 := if d3.lg.outcome = 0 then serveAck (portAid m) sheet.toNat (padTo 8 g) d3 else d3
    { status := lgStatus d4.lg.outcome, detail := d4.lg.outcome, body := [], dev := d4 }) d
/-- SHEET_ACKNOWLEDGE. -/
def execSheetAcknowledge (m : Mport) (tag : Nat) (sheet : Word) (g : List Byte) (s : State) : Host.Outcome State Fault Refusal :=
  s.run (sheetAcknowledgeEffect m tag sheet g)

/-- REAM_HEAD (R497): head number, LG_STAT, LG_NONCE. -/
def reamHeadEffect (m : Mport) (tag : Nat) (d : Device) : Device :=
  fjRights m 0x22 tag (fun d1 =>
    { status := 0, detail := 0
      body := leBytes 4 (d1.lg.next + 0xFFFFFFFF) ++ leBytes 4 (lgStat d1).toNat ++ leBytes 8 d1.lg.nonce, dev := d1 }) d
/-- REAM_HEAD. -/
def execReamHead (m : Mport) (tag : Nat) (s : State) : Host.Outcome State Fault Refusal := s.run (reamHeadEffect m tag)

/-- A record as an agent may read it: zero outside its EventSourceMask. -/
def shownRecord (d : Device) (aid j : Nat) : List Byte :=
  let b := memRead d.mem (recordAddr j) 64
  if coversSource d aid (bufLe b 14 1) && !rangeBroken d (recordAddr j) 64 then b else zeros 64

/-- EVENT_READ (R497). -/
def eventReadEffect (m : Mport) (tag first count : Nat) (d : Device) : Device :=
  fjRights m 0x30 tag (fun d1 =>
    if decide (16 < count) || decide (65536 < first + count) then { status := 3, detail := 0, body := [], dev := d1 }
    else
      { status := 0, detail := 0, body := (List.range count).flatMap (fun i => shownRecord d1 (portAid m) (first + i))
        dev := readErrors (recordAddr first) (64 * count) d1 }) d
/-- EVENT_READ. -/
def execEventRead (m : Mport) (tag first count : Nat) (s : State) : Host.Outcome State Fault Refusal :=
  s.run (eventReadEffect m tag first count)

/-- EVENT_CLEAR (R424, R497). -/
def eventClearEffect (m : Mport) (tag : Nat) (seq : Word) (d : Device) : Device :=
  fjRights m 0x31 tag (fun d1 =>
    let d2 := hartClear (portAid m) seq.toNat (modEv (fun r => { r with clearSeq := seq }) d1)
    let o := d2.ev.clearOutcome
    { status := if o = 2 then 3 else if o = 3 then 2 else o, detail := o, body := [], dev := d2 }) d
/-- EVENT_CLEAR. -/
def execEventClear (m : Mport) (tag : Nat) (seq : Word) (s : State) : Host.Outcome State Fault Refusal :=
  s.run (eventClearEffect m tag seq)

end Sys2Proof.Machine
end

