-- ==== Sys2Proof/Machine/Attest.lean ====
section
/-! DEFINITION. The SPDM responder of hart 1 (spec/16_attestation_and_sweep.md, R463–R474). Message layouts are those of
the SPDM specification (notes/assumptions/54.md). -/

namespace Sys2Proof.Machine

open Sys2Proof

/-! ### Connections and transports (R463) -/

/-- The requester's transport carries SPDM now: on DOE, no response is pending (R447). -/
def peerUp (d : Device) (p : Peer) : Bool :=
  if p.transport < 16 then cxlUp d && !(ldOf d p.transport).doeError && (ldOf d p.transport).doeRsp.isNone
  else if p.transport = 0x18 ∨ p.transport = 0x19 then mainRuns d && i3cMode d (p.transport - 0x18) != 0
  else false

/-- The key of a connection: transport AID, and source EID or 0xFF on DOE. -/
def peerEid (p : Peer) : Nat := if p.transport < 16 then 0xFF else p.eid

/-- The connection of a requester. -/
def connOf (d : Device) (p : Peer) : Option SpdmConn :=
  d.att.conns.find? (fun c => c.transport == p.transport && c.eid == peerEid p)

/-- A connection set, and used now. -/
def setConn (p : Peer) (c : SpdmConn) (d : Device) : Device :=
  let rest := d.att.conns.filter (fun x => !(x.transport == p.transport && x.eid == peerEid p))
  { d with att := { d.att with conns := rest ++ [{ c with lastUsed := d.att.uses }], uses := d.att.uses + 1 } }

/-- A message to the requester, in the CHUNK_SEND_ACK that carries it, if one does: an object in its DOE mailbox, or an MCTP
message of type 0x05. -/
def spdmSend (p : Peer) (body : List Byte) (d0 : Device) : Device :=
  let msg := d0.att.ack ++ body
  let d := { d0 with att := { d0.att with ack := [] } }
  if h : p.transport < 16 then
    let o := doeObject 0x0001 0x01 msg
    let ld : Ld := ⟨p.transport, h⟩
    reply o (modLd ld (fun l => doeReady o { l with doeReq := if l.doeReq.any doeIsSpdm then none else l.doeReq }) d)
  else if p.transport = 0x18 then respond 0 ([0x05] ++ msg) d
  else respond 1 ([0x05] ++ msg) d

/-- DataTransferSize of a transport (R464). -/
def dataTransferSize (p : Peer) : Nat := if p.transport < 16 then 4088 else 1024

/-- The version byte of a connection's messages; 1.2 before a version is chosen. -/
def connVersion (c : Option SpdmConn) : Byte := BitVec.ofNat 8 ((c.map (fun x => if x.version = 0 then 0x12 else x.version)).getD 0x12)

/-- ERROR with its code, data and extended data. -/
def spdmError (v : Byte) (code data : Nat) (ext : List Byte) : List Byte := [v, 0x7F, BitVec.ofNat 8 code, BitVec.ofNat 8 data] ++ ext

/-- A message is sent, or kept for CHUNK_GET behind ERROR LargeResponse where it exceeds DataTransferSize (R466). -/
def spdmDeliver (p : Peer) (c : SpdmConn) (msg : List Byte) (d : Device) : Device :=
  if d.att.ack.length + msg.length ≤ dataTransferSize p then spdmSend p msg (setConn p { c with chunkOut := none } d)
  else spdmSend p (spdmError (connVersion (some c)) 0x0F 0 [0x01]) (setConn p { c with chunkOut := some (1, 0, msg) } d)

/-- The requests that Tamper-Response still answers (R469). -/
def tamperAnswers (code : Nat) : Bool := [0x84, 0xE1, 0xE3, 0x85, 0x86].contains code

/-- A request that comes while hart 1 is not attached: its DOE object is held (R38). The MCTP message waits in the port's
receive buffer (R39), from which its packets come again. -/
def holdSpdm (p : Peer) (raw : List Byte) (d : Device) : Device :=
  if h : p.transport < 16 then
    let ld : Ld := ⟨p.transport, h⟩
    if (ldOf d ld).doeReq.any doeIsSpdm then d else doeWrite (some ld) (doeObject 0x0001 0x01 raw) d
  else d

/-- A connection without the chunked transfers that a request other than a chunk's abandons (R468). -/
def unchunked (c : SpdmConn) : SpdmConn := { c with chunkIn := none, chunkOut := none }

/-- Tamper-Response refuses a request (R469), which uses its connection as any other does (R463, R468). -/
def tamperRefuses (p : Peer) (code : Nat) (d : Device) : Device :=
  let d1 := match connOf d p with
    | some c => setConn p (unchunked c) d
    | none => d
  spdmSend p (spdmError (connVersion (connOf d p)) 0x07 code []) (hartEvent 1 0x0C32 3 [p.transport, code, 0, 0] d1)

/-- A request that its transport does not carry now: an object written while a response is pending sets DOE Error (R447). -/
def dropSpdm (p : Peer) (d : Device) : Device :=
  if cxlUp d && decide (p.transport < 16) && (ldOf d p.transport).doeRsp.isSome then modLd p.transport (fun l => { l with doeError := true }) d
  else d

/-- A request from a connection (R466, R468, R469): held while hart 1 is not attached (R38), refused in Tamper-Response,
RequestResynch without a connection, UnexpectedRequest before the stage it needs and, for `restricted`, after a selection
of zero; a chunked transfer is abandoned. -/
def spdmRequest (p : Peer) (raw : List Byte) (code stage : Nat) (restricted : Bool) (f : SpdmConn → Device → Device) (d : Device) :
    Device :=
  if !peerUp d p then dropSpdm p d
  else if !hart1Serves d then holdSpdm p raw d
  else if tamperResponse d && !tamperAnswers code then tamperRefuses p code d
  else match connOf d p with
    | none => spdmSend p (spdmError 0x12 0x43 0 []) d
    | some c =>
      let c1 := unchunked c
      if c.stage < stage || (restricted && c.noAlgs) then spdmSend p (spdmError (connVersion (some c)) 0x04 0 []) (setConn p c1 d)
      else f c1 d

/-- The least recently used connection of a full port goes (R463). -/
def evictIfFull (p : Peer) (d : Device) : Device :=
  let here := d.att.conns.filter (fun c => c.transport == p.transport)
  if p.transport < 16 || here.length < 4 then d
  else match here.foldl (fun acc c => match acc with
      | none => some c
      | some b => if c.lastUsed < b.lastUsed then some c else some b) none with
    | some v => resetConnections (fun c => c.transport == v.transport && c.eid == v.eid) 4 d
    | none => d

/-- The VERSION response (R464): 1.2 and 1.3. -/
def versionResponse : List Byte := [0x10, 0x04, 0, 0, 0, 2, 0x00, 0x12, 0x00, 0x13]

/-- GET_VERSION (R464, R468): the connection is reset, or a new one made. -/
def getVersionEffect (p : Peer) (d : Device) : Device :=
  if !peerUp d p then dropSpdm p d
  else if !hart1Serves d then holdSpdm p [0x10, 0x84, 0, 0] d
  else
    let same := fun (c : SpdmConn) => c.transport == p.transport && c.eid == peerEid p
    let d1 := if (connOf d p).isSome then resetConnections same 1 d else evictIfFull p d
    spdmSend p versionResponse
      (setConn p { transport := p.transport, eid := peerEid p, stage := 1, vca := [0x10, 0x84, 0, 0] ++ versionResponse } d1)
/-- GET_VERSION. -/
def execGetVersion (conn : Peer) (s : State) : Host.Outcome State Fault Refusal := s.run (getVersionEffect conn)

/-- The capability flags (R464, R469). -/
def capabilityFlags (d : Device) : Nat := if tamperResponse d then 0x20000 else 0x60036

/-- GET_CAPABILITIES (R464): the request's version byte chooses the version. -/
def getCapabilitiesEffect (p : Peer) (request : List Byte) (d : Device) : Device :=
  spdmRequest p request 0xE1 1 false (fun c d1 =>
    let v := bufLe request 0 1
    if v != 0x12 && v != 0x13 then spdmSend p (spdmError (connVersion (some c)) 0x41 0 []) (setConn p c d1)
    else
      let r := [BitVec.ofNat 8 v, 0x61, 0, 0, 0, 11, 0, 0] ++ leBytes 4 (capabilityFlags d1) ++ leBytes 4 (dataTransferSize p) ++ leBytes 4 16384
      spdmSend p r (setConn p { c with version := v, stage := 2, vca := c.vca ++ request ++ r } d1)) d
/-- GET_CAPABILITIES. -/
def execGetCapabilities (conn : Peer) (request : List Byte) (s : State) : Host.Outcome State Fault Refusal :=
  s.run (getCapabilitiesEffect conn request)

/-- The ALGORITHMS response (R465), or the selection of zero. -/
def algorithmsResponse (v : Byte) (sha3 mldsa : Bool) : List Byte :=
  let all := sha3 && mldsa
  let body := [BitVec.ofNat 8 (flag all), 0] ++ leBytes 4 (flag all) ++ leBytes 4 0 ++ leBytes 4 (8 * flag all) ++ zeros 12 ++
    [BitVec.ofNat 8 (flag all), 0, 0, 0] ++ (if all then [0x03, 0x00, 0xA7, 0x1F] else [])
  [v, 0x63, 0, 0] ++ leBytes 2 (6 + body.length) ++ body

/-- NEGOTIATE_ALGORITHMS (R465). -/
def negotiateAlgorithmsEffect (p : Peer) (request : List Byte) (sha3 mldsa : Bool) (d : Device) : Device :=
  spdmRequest p request 0xE3 2 false (fun c d1 =>
    let r := algorithmsResponse (connVersion (some c)) sha3 mldsa
    spdmSend p r (setConn p { c with stage := 3, noAlgs := !(sha3 && mldsa), vca := c.vca ++ request ++ r } d1)) d
/-- NEGOTIATE_ALGORITHMS. -/
def execNegotiateAlgorithms (conn : Peer) (request : List Byte) (sha3 mldsa : Bool) (s : State) : Host.Outcome State Fault Refusal :=
  s.run (negotiateAlgorithmsEffect conn request sha3 mldsa)

/-! ### Identity (R459–R462) -/

/-- The seed (R304) that a job of hart 1, 2 Sign or 3 Keygen, takes from a vault slot: none where the job ends with code 5
(R309, R330), or with code 12 because the sign/keygen unit is out of service (R318). -/
def identitySeed (d : Device) (op slot : Nat) : Option (List Byte) :=
  if d.sg.units[2].offline && !d.sg.units[2].testing then none
  else match slotOf d.kv slot with
    | some s => if s.valid && s.owner == 0x11 && hasBit s.rights op then some (s.value.take 32) else none
    | none => none

/-- A Sign job of hart 1 with an empty context string (R307, R467): none where the job ends with another code than 0
(R315, R316, R324). -/
def identitySign (d : Device) (slot : Nat) (msg : List Byte) : Option (List Byte) :=
  match identitySeed d 2 slot with
  | some seed => if d.kv.entropyOk then mldsaSign seed [] msg (freeBytes d 32) else none
  | none => none

/-- Hart 1 builds the certificates at its stage 1 start and keeps them (R461). Where a job of it failed, it builds them at the
next request that needs them (notes/assumptions/107.md). -/
def ensureChain (d : Device) : Device :=
  match if d.att.chain.isEmpty then identitySeed d 3 0x08 else none, identitySeed d 3 0x09 with
  | some ds, some as_ =>
    let dpk := mldsaPublic ds
    let apk := mldsaPublic as_
    let t1 := deviceTbs d dpk
    let t2 := aliasTbs d dpk apk
    match identitySign d 0x08 t1, identitySign (tookFree 32 d) 0x08 t2 with
    | some s1, some s2 =>
      let d1 := tookFree 64 { d with att := { d.att with
        deviceId := dpk, aliasKey := apk, chain := certChain (certificate t1 s1) (certificate t2 s2) } }
      (List.range 16).foldl (fun acc n => if (domain acc n).state = .passed then rungTokenSet n acc else acc) d1
    | _, _ => tookFree 64 d
  | _, _ => d

/-- A request that needs the chain; without one hart 1 answers ERROR Unspecified. -/
def withChain (p : Peer) (c : SpdmConn) (f : Device → Device) (d : Device) : Device :=
  let d1 := ensureChain d
  if d1.att.chain.isEmpty then spdmSend p (spdmError (connVersion (some c)) 0x05 0 []) (setConn p c d1) else f d1

/-- GET_DIGESTS (R466): slot 0 only. -/
def getDigestsEffect (p : Peer) (request : List Byte) (d : Device) : Device :=
  spdmRequest p request 0x81 3 true (fun c d1 => withChain p c (fun d2 =>
    let r := [connVersion (some c), 0x01, BitVec.ofNat 8 (flag (c.version == 0x13)), 0x01] ++ sha3_256 d2.att.chain
    spdmSend p r (setConn p { c with transB := c.transB ++ request ++ r } d2)) d1) d
/-- GET_DIGESTS. -/
def execGetDigests (conn : Peer) (request : List Byte) (s : State) : Host.Outcome State Fault Refusal :=
  s.run (getDigestsEffect conn request)

/-- GET_CERTIFICATE (R462, R466): a portion of the chain of slot 0. -/
def getCertificateEffect (p : Peer) (slot offset len : Nat) (request : List Byte) (d : Device) : Device :=
  spdmRequest p request 0x82 3 true (fun c d1 => withChain p c (fun d2 =>
    let n := d2.att.chain.length
    if slot != 0 || decide (n ≤ offset) then spdmSend p (spdmError (connVersion (some c)) 0x01 0 []) (setConn p c d2)
    else
      let k := min len (n - offset)
      let r := [connVersion (some c), 0x02, 0, 0] ++ leBytes 2 k ++ leBytes 2 (n - offset - k) ++ bufBytes d2.att.chain offset k
      spdmDeliver p { c with transB := c.transB ++ request ++ r } r d2) d1) d
/-- GET_CERTIFICATE. -/
def execGetCertificate (conn : Peer) (slot offset len : Nat) (request : List Byte) (s : State) : Host.Outcome State Fault Refusal :=
  s.run (getCertificateEffect conn slot offset len request)

/-! ### Signed responses (R467) -/

/-- The SPDM signing message: the version prefix four times, zero padding and context string to 100 bytes, the transcript
hash. -/
def signingMessage (version : Nat) (context : String) (transcript : List Byte) : List Byte :=
  let prefix_ := if version = 0x13 then ascii "dmtf-spdm-v1.3.*" else ascii "dmtf-spdm-v1.2.*"
  let c := ascii context
  prefix_ ++ prefix_ ++ prefix_ ++ prefix_ ++ zeros (36 - c.length) ++ c ++ sha3_256 transcript

/-- A signature by the Alias key (R467), with an empty context string. -/
def aliasSign (d : Device) (msg : List Byte) : Option (List Byte) := identitySign d 0x09 msg

/-- A signed response that is ready is delivered; one that is not is held behind ERROR ResponseNotReady (R467). -/
def spdmSigned (p : Peer) (c : SpdmConn) (code : Nat) (ready : Bool) (msg : List Byte) (d : Device) : Device :=
  if ready then spdmDeliver p c msg d
  else
    let t := (c.token + 1) % 256
    spdmSend p (spdmError (connVersion (some c)) 0x42 0 [13, BitVec.ofNat 8 code, BitVec.ofNat 8 t, 8])
      (setConn p { c with token := t, held := some (code, t, msg) } d)

/-- A response with its signature; without one hart 1 answers ERROR Unspecified (notes/assumptions/107.md). -/
def spdmSigning (p : Peer) (c : SpdmConn) (code : Nat) (ready : Bool) (body : List Byte) (sig : Option (List Byte)) (d : Device) :
    Device :=
  match sig with
  | some s => spdmSigned p c code ready (body ++ s) d
  | none => spdmSend p (spdmError (connVersion (some c)) 0x05 0 []) (setConn p c d)

/-! ### Measurements (R470–R474) -/

/-- A measurement block in the SPDM layout (R470). -/
def measurementBlock (index type : Nat) (value : List Byte) : List Byte :=
  [BitVec.ofNat 8 index, 0x01] ++ leBytes 2 (value.length + 3) ++ [BitVec.ofNat 8 type] ++ leBytes 2 value.length ++ value

/-- The sheets of a domain's present boot that are stored (R472). -/
def sheetsOfBoot (d : Device) (n : Nat) : Nat :=
  let waiting := d.lg.jobs.any (fun j => match j with
    | .sheet _ b _ _ _ _ _ => bufLe b 0x0A 1 == n
    | .ack _ _ _ => false)
  vget d.lg.contNext n - flag waiting

/-- SheetNumber of the last sheet of a domain's present boot; 0xFFFFFFFF if none. -/
def lastSheet (d : Device) (n : Nat) : Nat :=
  if sheetsOfBoot d n = 0 then 0xFFFFFFFF
  else ((highestSheet d.mem ((storedPositions d.mem d.lg.bad).filter (fun p => sheetBd d.mem p == n))).map (sheetNo d.mem)).getD 0xFFFFFFFF

/-- The rung token of a domain as hart 1 has it. -/
def rungToken (d : Device) (n : Nat) : List Byte := ((d.att.rungTokens.find? (fun t => t.1 == n)).map (·.2)).getD (zeros 32)

/-- A domain's state block (R472). -/
def domainBlock (d : Device) (n : Nat) : List Byte :=
  let b := domain d n
  let man := match b.manifest with
    | some m => [m.version, m.keyKind, m.keySlot]
    | none => [0, 0, 0]
  ([b.state.ctorIdx, b.slot] ++ man ++ [flag b.goldenUsed + 2 * flag b.fetchAhead + 4 * flag b.streamed, b.reason, 0]).map
      (fun v => (BitVec.ofNat 8 v : Byte)) ++
    leBytes 4 (lastSheet d n) ++ zeros 4 ++ (if b.state == .passed then padTo 32 (rungToken d n) else zeros 32)

/-- The device state block (R472). -/
def deviceBlock (d : Device) : List Byte :=
  [BitVec.ofNat 8 (lcCode d), BitVec.ofNat 8 (flag ((wmkOf d 6).any (· != 0)) + 2 * flag d.tx.fabricLive), 0, 0] ++
    leBytes 4 d.tx.epoch ++ leBytes 4 d.clock.powerCycles ++ zeros 20 ++ padTo 64 d.tx.siDigest

/-- The blocks a requester sees, by index, ascending (R470). -/
def visibleBlocks (d : Device) (transport : Nat) : List (Nat × List Byte) :=
  let mask := ledgerMask d transport
  let wm := fun (i w t : Nat) => (i, measurementBlock i t (wmkOf d w))
  let bds := (List.range 16).filter (hasBit mask)
  [wm 1 0 0x80, wm 2 1 0x81, wm 3 2 0x81, wm 4 3 0x81, wm 5 7 0x81, wm 6 4 0x83, wm 7 5 0x83, wm 8 6 0x83, wm 9 24 0x83] ++
    bds.map (fun n => wm (0x10 + n) (8 + n) 0x81) ++ bds.map (fun n => (0x20 + n, measurementBlock (0x20 + n) 0x84 (domainBlock d n))) ++
    [(0x30, measurementBlock 0x30 0x84 (deviceBlock d)), (0x31, measurementBlock 0x31 0x87 (leBytes 4 d.start.secVer))] ++
    ((List.range 64).filterMap fun r => match regionOf d transport r with
      | some g => if g.attest && !g.digest.isEmpty && decide (transport < 16) && (rightsNow d transport).isSome then
          some (0x80 + r, measurementBlock (0x80 + r) 0x81 (padTo 64 g.digest)) else none
      | none => none)

/-- The measurement summary hash of CHALLENGE (R471): 1 the TCB blocks, 0xFF every visible block. -/
def summaryHash (d : Device) (transport kind : Nat) : List Byte :=
  let bs := visibleBlocks d transport
  if kind = 1 then sha3_256 ((bs.filter (fun b => decide (b.1 ≤ 5) || b.1 == 0x31)).flatMap (·.2))
  else if kind = 0xFF then sha3_256 (bs.flatMap (·.2)) else []

/-- The requester context that version 1.3 carries back. -/
def requesterContext (c : SpdmConn) (request : List Byte) : List Byte :=
  if c.version = 0x13 then padTo 8 (request.drop (request.length - 8)) else []

/-- CHALLENGE (R467, R471): signed by the Alias key over the exchanges so far. -/
def challengeEffect (p : Peer) (request : List Byte) (slot summary : Nat) (ready : Bool) (d : Device) : Device :=
  spdmRequest p request 0x83 3 true (fun c d0 => withChain p c (fun d1 =>
    if slot != 0 || !(summary == 0 || summary == 1 || summary == 0xFF) then
      spdmSend p (spdmError (connVersion (some c)) 0x01 0 []) (setConn p c d1)
    else
      let body := [connVersion (some c), 0x03, 0x00, 0x01] ++ sha3_256 d1.att.chain ++ freeBytes d1 32 ++
        summaryHash d1 p.transport summary ++ leBytes 2 0 ++ requesterContext c request
      let d3 := tookFree 32 d1
      let sig := aliasSign d3 (signingMessage c.version "responder-challenge_auth signing" (c.vca ++ c.transB ++ request ++ body))
      spdmSigning p { c with transB := [] } 0x83 ready body sig (tookFree 32 d3)) d0) d
/-- CHALLENGE. -/
def execChallenge (conn : Peer) (request : List Byte) (slot summary : Nat) (_nonce : List Byte) (ready : Bool) (s : State) :
    Host.Outcome State Fault Refusal :=
  s.run (challengeEffect conn request slot summary ready)

/-- GET_MEASUREMENTS (R470): index 0 asks for the count, 0xFF for every visible block; a signed response ends the
transcript of measurements. -/
def getMeasurementsEffect (p : Peer) (request : List Byte) (index : Nat) (signed ready : Bool) (d : Device) : Device :=
  spdmRequest p request 0xE0 3 signed (fun c d0 =>
    let d1 := ensureChain d0
    let all := visibleBlocks d1 p.transport
    let shown := if index = 0 then [] else if index = 0xFF then all else all.filter (fun b => b.1 == index)
    if (index != 0 && shown.isEmpty) || (signed && d1.att.chain.isEmpty) then
      spdmSend p (spdmError (connVersion (some c)) (if signed && d1.att.chain.isEmpty then 0x05 else 0x01) 0 [])
        (setConn p { c with transL := [] } d1)
    else
      let rec_ := shown.flatMap (·.2)
      let body := [connVersion (some c), 0x60, BitVec.ofNat 8 (if index = 0 then all.length else 0), 0, BitVec.ofNat 8 shown.length] ++
        leBytes 3 rec_.length ++ rec_ ++ freeBytes d1 32 ++ leBytes 2 0 ++ requesterContext c request
      let d2 := tookFree 32 d1
      let t := c.transL ++ request ++ body
      if signed then
        let sig := aliasSign d2 (signingMessage c.version "responder-measurements signing" (c.vca ++ t))
        spdmSigning p { c with transL := [] } 0xE0 ready body sig (tookFree 32 d2)
      else spdmDeliver p { c with transL := t } body d2) d
/-- GET_MEASUREMENTS. -/
def execGetMeasurements (conn : Peer) (request : List Byte) (index : Nat) (signed : Bool) (_nonce : List Byte) (ready : Bool)
    (s : State) : Host.Outcome State Fault Refusal :=
  s.run (getMeasurementsEffect conn request index signed ready)

/-- RESPOND_IF_READY (R467): the held response for its token; another token is an invalid request. -/
def respondIfReadyEffect (p : Peer) (token : Nat) (d : Device) : Device :=
  spdmRequest p [0x12, 0xFF, 0, BitVec.ofNat 8 token] 0xFF 3 false (fun c d1 =>
    match c.held with
    | some (_, t, msg) =>
      if t = token then spdmDeliver p { c with held := none } msg d1
      else spdmSend p (spdmError (connVersion (some c)) 0x01 0 []) (setConn p c d1)
    | none => spdmSend p (spdmError (connVersion (some c)) 0x01 0 []) (setConn p c d1)) d
/-- RESPOND_IF_READY. -/
def execRespondIfReady (conn : Peer) (token : Nat) (s : State) : Host.Outcome State Fault Refusal := s.run (respondIfReadyEffect conn token)

/-- SPDM_RESPONSE_NOT_READY (R467): a response that is not ready in 1.5 ms is held. -/
def spdmResponseNotReadyEffect (p : Peer) (code : Nat) (response : List Byte) (d : Device) : Device :=
  if hart1Serves d then spdmRequest p [] code 3 true (fun c d1 => spdmSigned p c code false response d1) d else d
/-- SPDM_RESPONSE_NOT_READY. -/
def execSpdmResponseNotReady (conn : Peer) (code : Nat) (response : List Byte) (s : State) : Host.Outcome State Fault Refusal :=
  s.run (spdmResponseNotReadyEffect conn code response)

/-- SPDM_UNSUPPORTED_REQUEST (R466): ERROR UnsupportedRequest with the request code in ErrorData. -/
def spdmUnsupportedRequestEffect (p : Peer) (code : Nat) (d : Device) : Device :=
  spdmRequest p [0x12, BitVec.ofNat 8 code, 0, 0] code 0 false (fun c d1 => spdmSend p (spdmError (connVersion (some c)) 0x07 code []) (setConn p c d1)) d
/-- SPDM_UNSUPPORTED_REQUEST. -/
def execSpdmUnsupportedRequest (conn : Peer) (code : Nat) (s : State) : Host.Outcome State Fault Refusal :=
  s.run (spdmUnsupportedRequestEffect conn code)

/-! ### Raw requests and chunks (R466) -/

/-- A request as its bytes: what a completed chunked request, or an object held through a core reset, is answered as. -/
def spdmRaw (p : Peer) (r : List Byte) (d : Device) : Device :=
  let offersSha3 := (bufLe r 12 4).testBit 3
  let extAsym := (List.range (bufLe r 28 1)).any (fun i => bufLe r (32 + 4 * i) 1 == 3 && bufLe r (34 + 4 * i) 2 == 0x1FA7)
  match bufLe r 1 1 with
  | 0x84 => getVersionEffect p d
  | 0xE1 => getCapabilitiesEffect p r d
  | 0xE3 => negotiateAlgorithmsEffect p r offersSha3 extAsym d
  | 0x81 => getDigestsEffect p r d
  | 0x82 => getCertificateEffect p (bufLe r 2 1 % 16) (bufLe r 4 2) (bufLe r 6 2) r d
  | 0x83 => challengeEffect p r (bufLe r 2 1) (bufLe r 3 1) true d
  | 0xE0 => getMeasurementsEffect p r (bufLe r 3 1) ((bufLe r 2 1).testBit 0) true d
  | 0xFF => respondIfReadyEffect p (bufLe r 3 1) d
  | c => spdmUnsupportedRequestEffect p c d

/-- A request on a connection that keeps its chunked transfer: CHUNK_SEND or CHUNK_GET (R468). -/
def spdmChunk (p : Peer) (raw : List Byte) (f : SpdmConn → Device → Device) (d : Device) : Device :=
  if !peerUp d p then dropSpdm p d
  else if !hart1Serves d then holdSpdm p raw d
  else match connOf d p with
    | none => spdmSend p (spdmError 0x12 0x43 0 []) d
    | some c => if c.stage < 2 then spdmSend p (spdmError (connVersion (some c)) 0x04 0 []) (setConn p c d) else f c d

/-- CHUNK_SEND as its bytes; the first chunk carries the size of the large message, which the request itself shows. -/
def chunkSendRaw (handle seq : Nat) (last : Bool) (chunk : List Byte) : List Byte :=
  [0x12, 0x85, BitVec.ofNat 8 (flag last), BitVec.ofNat 8 handle] ++ leBytes 2 seq ++ zeros 2 ++ leBytes 4 chunk.length ++
    (if seq = 0 then leBytes 4 chunk.length else []) ++ chunk

/-- CHUNK_SEND (R466): chunks of one handle in sequence; after the last the whole request is answered, within
MaxSPDMmsgSize. -/
def chunkSendEffect (p : Peer) (handle seq : Nat) (last : Bool) (chunk : List Byte) (d : Device) : Device :=
  spdmChunk p (chunkSendRaw handle seq last chunk) (fun c d1 =>
    let sofar := match c.chunkIn with
      | some (h, n, b) => if h = handle ∧ n = seq then some b else none
      | none => if seq = 0 then some [] else none
    match sofar with
    | none => spdmSend p (spdmError (connVersion (some c)) 0x01 0 []) (setConn p { c with chunkIn := none } d1)
    | some b =>
      let whole := b ++ chunk
      let ack := [connVersion (some c), 0x05, 0x00, BitVec.ofNat 8 handle] ++ leBytes 2 seq
      if 16384 < whole.length then spdmSend p (spdmError (connVersion (some c)) 0x01 0 []) (setConn p { c with chunkIn := none } d1)
      else if last then
        let d2 := setConn p { c with chunkIn := none } d1
        spdmRaw p whole { d2 with att := { d2.att with ack := ack } }
      else spdmSend p ack (setConn p { c with chunkIn := some (handle, seq + 1, whole) } d1)) d
/-- CHUNK_SEND. -/
def execChunkSend (conn : Peer) (handle seq : Nat) (last : Bool) (chunk : List Byte) (s : State) : Host.Outcome State Fault Refusal :=
  s.run (chunkSendEffect conn handle seq last chunk)

/-- CHUNK_GET (R466): the next chunk of the large response. -/
def chunkGetEffect (p : Peer) (handle seq : Nat) (d : Device) : Device :=
  spdmChunk p ([0x12, 0x86, 0, BitVec.ofNat 8 handle] ++ leBytes 2 seq) (fun c d1 =>
    match c.chunkOut with
    | some (h, n, b) =>
      if h ≠ handle ∨ n ≠ seq then spdmSend p (spdmError (connVersion (some c)) 0x01 0 []) (setConn p { c with chunkOut := none } d1)
      else
        let size := dataTransferSize p - 12 - (if seq = 0 then 4 else 0)
        let part := b.take size
        let rest := b.drop size
        let head := [connVersion (some c), 0x06, BitVec.ofNat 8 (flag rest.isEmpty), BitVec.ofNat 8 handle] ++ leBytes 2 seq ++ zeros 2 ++
          leBytes 4 part.length ++ (if seq = 0 then leBytes 4 b.length else [])
        spdmSend p (head ++ part) (setConn p { c with chunkOut := if rest.isEmpty then none else some (h, n + 1, rest) } d1)
    | none => spdmSend p (spdmError (connVersion (some c)) 0x04 0 []) (setConn p c d1)) d
/-- CHUNK_GET. -/
def execChunkGet (conn : Peer) (handle seq : Nat) (s : State) : Host.Outcome State Fault Refusal :=
  s.run (chunkGetEffect conn handle seq)

/-! ### Stage 1 start (R461, R468) -/

/-- Hart 1 starts afresh: every connection of before is reset, cause 3, and the certificates are built anew. -/
def attestStart (d : Device) : Device :=
  let d1 := resetConnections (fun _ => true) 3 d
  { d1 with att := { uses := d1.att.uses, owed := d1.att.owed } }

/-- A request held in a DOE mailbox, from its bytes: a chunk request or a whole one. -/
def spdmHeld (p : Peer) (r : List Byte) (d : Device) : Device :=
  let seq := bufLe r 4 2
  match bufLe r 1 1 with
  | 0x85 => chunkSendEffect p (bufLe r 3 1) seq ((bufLe r 2 1).testBit 0) (bufBytes r (if seq = 0 then 16 else 12) (bufLe r 8 4)) d
  | 0x86 => chunkGetEffect p (bufLe r 3 1) seq d
  | _ => spdmRaw p r d

/-- An SPDM object held through a core reset is answered (R38). -/
def answerHeldSpdm (d : Device) : Device :=
  (List.range 16).foldl (fun acc n => match (ldOf acc n).doeReq with
    | some o => if doeIsSpdm o then spdmHeld { transport := n, eid := 0xFF } (o.drop 8) acc else acc
    | none => acc) d

/-- The Alias seed of a stage 1 start (R460): KMAC256 under the device firmware rung over WMK1, in slot 0x09, handed to
hart 1. Without slot 0x20 (Tamper-Response) there is none. -/
def deriveAlias (d : Device) : Device :=
  match slotOf d.kv 0x20 with
  | some r =>
    if !r.valid || (slotOf d.kv 0x09).isSome then d
    else
      let s : VaultSlot :=
        { no := 0x09, valid := true, owner := 0x11, rights := 12, value := kmac256 r.value (wmkOf d 1) 64 (ascii "BX6440 ALIAS") }
      { d with kv := setSlot d.kv s }
  | none => d

/-- The rungs of the domains that stayed Passed through a core reset are derived again: the token stays the same (R474;
notes/assumptions/113.md). -/
def restoreRungs (d : Device) : Device :=
  (List.range 16).foldl (fun acc n => if (domain acc n).state = .passed then domainRung n acc else acc) d

/-- Hart 0 adopts the couch unit as it attaches (R28, R585): it releases a mould that was left in Done or Aborted. One that is
still Committing is released by COUCH_RELEASE when it has ended: DESIGN CHOICE (notes/assumptions/128.md). -/
def adoptCouch (d : Device) : Device :=
  if d.tx.state = .done ∨ d.tx.state = .aborted then couchReleaseEffect 0 d else d

/-- Hand-over with what stage firmware takes up as it attaches: a mould that was left is released (R585), the Alias seed is derived (R460); what was held through the reset is answered (R38, R447),
hart 1 builds its certificates (R461), hart 3 takes the MCTP packets received meanwhile (R39), and the extends of commits done meanwhile are made (R362, R473). -/
def attachEffect (h : Hart) (d : Device) : Device :=
  let d1 := handoverEffect h d
  if attached d1 && !attached d then
    drainPackets 1 (drainPackets 0 (extendOwed (answerHeldSpdm (answerHeld (restoreRungs (ensureChain (attestStart (deriveAlias
      (adoptCouch d1))))))))) else d1
/-- HANDOVER. -/
def execHandover (h : Hart) (s : State) : Host.Outcome State Fault Refusal := s.run (attachEffect h)

end Sys2Proof.Machine
end

