-- ==== Sys2Proof/Machine/Resets.lean ====
section
/-! DEFINITION. What the resets do (spec/20_power_states_and_security_matrix.md, R551, R564, R565;
spec/01_architecture.md, R27–R39): the life-cycle decode, the card reset, the core reset, the MAIN reset and release. -/

namespace Sys2Proof.Machine

open Sys2Proof

/-! ### Life-cycle decode (R523, R524, R527) -/

/-- The patterns of stage words 0–5 with the state each stands for (R523). -/
def stageWords : List (Nat × Nat × Nat) :=
  [(0, 0xA5C396F00F693C5A, 1), (1, 0x3CA50F9669F05AC3, 3), (2, 0xC35AF069960FA53C, 4), (3, 0x69965AA53CC30FF0, 5),
   (4, 0x96E14BD22DB41E87, 6), (5, 0x7887B44BD22DE11E, 7)]

/-- The stage word and pattern of a state (R523). -/
def stageOf (state : Nat) : Option (Nat × Nat) := (stageWords.find? (fun s => s.2.2 == state)).map (fun s => (s.1, s.2.1))

/-- The state that the stage words decode to (R524); 8 stands for Indeterminate. -/
def decodedState (d : Device) : Nat :=
  if stageWords.any (fun s => otpWord d s.1 != 0 && otpWord d s.1 != s.2.1) then 8
  else stageWords.foldl (fun acc s => if otpWord d s.1 = s.2.1 then s.2.2 else acc) 0

/-- BBRAM 0x000–0x0FF and 0x600–0xFFF cleared (R527): root buffers and reseed state. -/
def clearSecrets (b : Battery) : Battery := { b with roots := Vector.replicate 2 {}, reseed := zeros 128 }

/-- LIFE_CYCLE_DECODE (R524): an Indeterminate decode clears the secrets of BBRAM (R527). -/
def lifeDecode (d : Device) : Device :=
  let st := decodedState d
  { d with
    lc := { d.lc with state := st }
    bat := if st = 8 then clearSecrets d.bat else d.bat }

/-! ### Card reset (R510) -/

/-- Every slot is powered off, the CARD registers are reset, a command in progress ends with outcome Reset. -/
def cardPortReset (d : Device) : Device :=
  { d with
    cd := { done := d.cd.busy, outcome := if d.cd.busy then 9 else 0 }
    cdStat := { d.cdStat with powered := 0, poweringOff := d.cdStat.poweringOff ||| d.cdStat.powered } }

/-- A card reset in Run with its cause (R510, R522). -/
def cardReset (cause : Nat) (d : Device) : Device := event 0x0D08 2 [cause, 0, 0, 0] (cardPortReset d)

/-! ### Core reset (R27–R39, R564) -/

/-- Boot domains at a core reset (R31): a sequence not yet passed restarts with reason 3; Passed and Stopped stay. -/
def coreResetDomain (d : Device) (bd : Nat) : Device :=
  let b := domain d bd
  match b.state with
  | .waiting | .loading | .running | .verified => freshSequence bd 3 d
  | .held => if b.seqRunning then freshSequence bd 3 d else d
  | _ => d

/-- A block of a card command's data phase is on the bus. -/
def cardInBlock (cd : CardPort) : Bool :=
  match cd.phase with
  | .read => true
  | .writeData => true
  | .busy => field cd.cmd 12 2 == 2
  | _ => false

/-- A card command is abandoned at the end of its current block (R39), at once where none is on the bus. CD_STAT then shows
outcome 9 Reset: DESIGN CHOICE, the manual names no outcome (notes/assumptions/102.md). -/
def abandonCard (d : Device) : Device :=
  if !d.cd.busy then d
  else if cardInBlock d.cd then { d with cd := { d.cd with abandoned := true } }
  else { d with cd := { d.cd with busy := false, done := true, outcome := 9, phase := .none, checkCmd2 := false } }

/-- A mailbox command that runs ends with Busy (R38). -/
def busyMailbox (d : Device) : Device :=
  let f := fun (l : LogicalDev) => if l.mboxRunning.isSome then { l with mboxRunning := none, mboxReturn := 6, mboxOut := [] } else l
  { d with cx := { d.cx with lds := d.cx.lds.map f, fm := f d.cx.fm } }

/-- What the harts had in hand at a core reset: posts that were stalled, firmware assembly and transfer sessions. -/
def coreResetServices (d : Device) : Device :=
  let idle := fun (x : Device) => { x with mg := x.mg.map (fun p => { p with loading := false }) }
  let d1 := idle (endTransfer 1 5 0 (endTransfer 0 5 0 (stagingCoreReset (busyMailbox (abandonCard d)))))
  [0x10, 0x11, 0x12, 0x13].foldl (fun acc a => senderReset a acc) d1

/-- CORE-domain registers at their reset values (R551, R564). -/
def coreRegisters (d : Device) : Device :=
  { d with
    start := { phase := .rom, resetKind := 2 }
    tx := { d.tx with results := Vector.replicate 4 (0, 0), act := Vector.replicate 8 0, sipPtr := 0, sipLow := 0, mouldIdx := 0 }
    is_ := { d.is_ with fq := d.is_.fq.map (fun q => { nextId := q.nextId }) }
    lg := { d.lg with lastCmd := 0, outcome := 0, ackNum := 0, ackDig := zeros 8, signing := none }
    ev := { d.ev with posts := Vector.replicate 4 (Vector.replicate 10 0), stalled := d.ev.stalled.filter (·.aid == 0xFF), clearSeq := 0 }
    cx := { d.cx with popped := none }
    mb := { d.mb with irqEn := Vector.replicate 4 (Vector.replicate 4 0) }
    cdWin := {}
    lc := { d.lc with lastCmd := 0, outcome := 0, detail := 0, otpIdx := 0, otpLo := 0, otpHi := 0, token := zeros 64 }
    ec := { d.ec with irqEn := 0 } }

/-- Engines and vault at a core reset (R34, R35, R332). -/
def coreResetEngines (d : Device) : Device :=
  let r := coreResetSig d.sg
  events r.2 { d with sg := r.1, dg := coreResetDigest d.dg, kv := coreResetVault d.kv }

/-- Watermarks 0–3 are cleared at a core reset (R362). -/
def coreWatermarks (d : Device) : Device := clearWmk 3 (clearWmk 2 (clearWmk 1 (clearWmk 0 d)))

/-- Harts after the reset: halted at the first ROM instruction under halt-on-reset (R538), else running; single step
ends. -/
def coreDebug (d : Device) : Device :=
  { d with db := { d.db with halted := if d.db.haltOnReset then 0xF else 0, stepping := 0 } }

/-- A core reset with its cause, 1 CoreReset or 2 watchdog (R27–R39, R567): the ROM runs again. -/
def coreReset (cause : Nat) (d : Device) : Device :=
  let d0 := { d with power := { d.power with
    coreCause := cause, coreResets := satAdd 16 d.power.coreResets 1, wdogRunning := false, wdogFired := cause == 2, resetKind := 2 } }
  let d1 := if mouldOpen d0.tx then abortMould 5 d0 else d0
  let d2 := withdrawAll (fun c => match c.issuer with
    | .hart _ _ => true
    | .area _ => true
    | .install _ => true
    | _ => false) 12 { d1 with is_ := { d1.is_ with installs := [], bds := d1.is_.bds.map (fun b => { b with attempt := none }) } }
  let d3 := (List.range 16).foldl coreResetDomain (coreResetEngines d2)
  romGo (coreDebug (coreWatermarks (coreRegisters (coreResetServices d3))))

/-! ### MAIN reset (R564, R565) -/

/-- The MB block and the I3C addresses, kept by a wake and cleared by any other MAIN reset, the channels without a record
(R485, R488, R496, R556). -/
def keptIsland (wake : Bool) (d : Device) : Mailboxes × Vector I3cPort 2 :=
  if wake then
    ({ chans := d.mb.chans, irqs := d.mb.irqs }, d.mg.map (fun p => { daValid := p.daValid, dynAddr := p.dynAddr }))
  else ({ irqs := d.mb.irqs }, Vector.ofFn (fun m => { note := portNote d m }))

/-- The main core without its state (R551, R564): what is left is standby, battery, OTP and MRAM, and on a wake what R556
keeps. An excursion of the junction is the board's (R85). A press of RECOVER# that began under stage firmware counts as one
that began before it: DESIGN CHOICE, the manual speaks of core resets only (R69; notes/assumptions/103.md). -/
def mainCleared (wake : Bool) (d : Device) : Device where
  pins := { d.pins with pressUnderStage := false }
  junction := { hot := d.junction.hot }
  guard := d.guard
  clock := d.clock
  power := { d.power with wdog := 0x3E8, wdogRunning := false, wdogFired := false, coreCause := 0, coreResets := 0 }
  lastF2 := d.lastF2
  mem := memLose wake d.mem
  flipped := d.flipped.filter (fun w => !volatileKey wake w.1)
  bat := d.bat
  sensorLive := d.sensorLive
  ev := { dropAtReset := d.ev.drop }
  lg := { used := d.lg.used }
  mb := (keptIsland wake d).1
  mg := (keptIsland wake d).2
  cd := { done := d.cd.busy, outcome := if d.cd.busy then 9 else 0 }
  cdStat := { d.cdStat with powered := 0, poweringOff := d.cdStat.poweringOff ||| d.cdStat.powered }
  lc := { otp := d.lc.otp, burn := d.lc.burn, state := d.lc.state }
  jtag := d.jtag
  reply := d.reply
  free := d.free

/-- A MAIN reset is a card reset (R510), whose event the recorder takes as it runs again. Its cause is free: the table of
event 0x0D08 has no code for it (notes/assumptions/127.md). -/
def cardNote (d : Device) : Device := tookFree 1 (event 0x0D08 2 [leNat (freeBytes d 1), 0, 0, 0] d)

/-- MAIN is released (R60 step 7, R558, R565): the stage words are decoded (R524), the power cycle is counted but for a
wake, a release nonce is drawn (R411), CXL training may begin (R431), what a MAIN reset ended at the I3C ports is recorded
(R496), and so is the card reset, the ROM starts. -/
def mainRelease (d : Device) : Device :=
  let wake := d.power.resetKind = 3
  let d1 := lifeDecode { d with
    clock := if wake then d.clock else { d.clock with powerCycles := satAdd 20 d.clock.powerCycles 1 }
    power := { d.power with state := .run }
    start := { phase := .rom, resetKind := d.power.resetKind }
    cx := { training := !d.pins.cxPerst } }
  cardNote (recordNote 1 (recordNote 0 (drawNonce d1)))

/-- Power is good: MAIN is released, once the crystal is stable (R61). -/
def powerGood (d : Device) : Device :=
  if d.pins.xtalOk then mainRelease d else { d with power := { d.power with state := .starting } }

/-- The main core is down (R62 step 2): gates held, the guarding window closed (R41), the domain without state. -/
def mainDown (cause : Nat) (state : PowerState) (d : Device) : Device :=
  let d1 := mainCleared false (windowDown (holdAllGates d))
  { d1 with power := { d1.power with state := state, mainCause := cause, resetKind := 1 } }

/-! ### What MRAM keeps of a write in progress (R62, R63, R577) -/

/-- The event record being written is in the log. -/
def recordLands (d : Device) : Device :=
  let p := writeFront (evEnv d) d.mem d.ev
  { mramUsed d with mem := p.1, ev := p.2 }

/-- The record being written is torn: its sequence word is not written (R63, R418). -/
def recordTorn (d : Device) : Device := { mramUsed d with mem := tearFront (evEnv d) d.mem d.ev }

/-- The sheet being written is in the ream. -/
def sheetLands (d : Device) : Device :=
  match d.lg.jobs with
  | .sheet p b _ _ _ _ _ :: _ => { mramUsed d with mem := storeSheet d.mem p b, lg := { d.lg with used := setBit d.lg.used p } }
  | _ => d

/-- A clear cut short (R424): how many of its words are written is free. -/
def clearCut (d : Device) : Device :=
  if d.ev.clearing.isNone then d
  else tookFree 2 { mramUsed d with mem := cutClear (leNat (freeBytes d 2)) d.mem d.ev }

/-- A power-down by MAIN_PG: the words in progress are completed (R62 step 3). -/
def writesComplete (d : Device) : Device := clearCut (sheetLands (recordLands d))

/-- A rail loss: a record or sheet being written may be lost, the record torn (R63); free bits decide. -/
def writesMayComplete (d : Device) : Device :=
  let b := (Config.freeByte d.free).toNat
  let d1 := if b.testBit 0 then recordLands d else if b.testBit 2 then recordTorn d else d
  clearCut (tookFree 1 (if b.testBit 1 then sheetLands d1 else d1))

/-! ### MAIN reset under power -/

/-- A MAIN reset under power: the causes 3–8 of PW_RESET_CAUSE (R564). A cause other than F2 recovery closes the guarding
window (R41). What an MRAM write in progress leaves at a MAIN reset by request or scan exit the manual does not say: free
(notes/assumptions/128.md). -/
def mainReset (cause : Nat) (d : Device) : Device :=
  if cause = 4 then
    let d1 := mainCleared false (holdAllGates d)
    powerGood { d1 with power := { d1.power with mainCause := 4, resetKind := 1 } }
  else powerGood (mainDown cause .standby (if cause = 5 then d else writesMayComplete d))

end Sys2Proof.Machine
end

