-- ==== Sys2Proof/Machine/LifeCycle.lean ====
section
/-! DEFINITION. The life-cycle controller (spec/19_life_cycle_and_debug.md, R523–R537, R549): transitions, OTP burns, test
tokens, test modes. -/

namespace Sys2Proof.Machine

open Sys2Proof

/-- The life-cycle controller changed. -/
def modLc (f : LifeCycle → LifeCycle) (d : Device) : Device := { d with lc := f d.lc }

/-- LC_RESULT: last command, outcome, Detail. -/
def lcResult (cmd outcome detail : Nat) (d : Device) : Device :=
  modLc (fun l => { l with lastCmd := cmd, outcome := outcome, detail := detail }) d

/-- A burn or a wipe runs (R526). -/
def lcBusy (d : Device) : Bool := d.lc.burn.isSome || d.lc.wipe.isSome

/-- A burn may start (R525): HOLDUP_OK is asserted and VSTBY is within its limits. -/
def canBurn (d : Device) : Bool := d.pins.holdupOk && d.pins.vstby

/-- A word of OTP with bits burned. -/
def burnBits (w v : Nat) (d : Device) : Device :=
  let old := otpWord d w
  modLc (fun l => { l with otp := (w, old ||| v) :: l.otp.filter (fun x => x.1 != w) }) d

/-- A command of LC_CMD by hart 0 (R526, R528): Busy while a burn or wipe runs. -/
def lcCommand (h : Hart) (cmd : Nat) (f : Device → Device) (d : Device) : Device :=
  onlyHart 0 h 2 0x60020004 (fun d1 => if lcBusy d1 then lcResult cmd 4 0 d1 else f d1) d

/-- TestModes (R535, R536): Test-Unlocked with TEST_EN high. -/
def testModes (d : Device) : Bool := d.lc.state == 2 && d.pins.testEn

/-! ### The funhouse's permission (R537, R580) -/

/-- PT_CTRL.Allowed (R537): by state, and in Provisioned and Field at debug level 2 or above. -/
def ptAllowed (d : Device) : Bool :=
  if d.lc.state = lcProvisioned ∨ d.lc.state = lcField then decide (2 ≤ d.db.level) else decide (d.lc.state ≤ 6)

/-- PT_CTRL as it reads. -/
def ptCtrlWord (d : Device) : Word := pack [(0, 1, flag d.pt.enable), (16, 1, flag (ptAllowed d))]

/-- Event 0x0F10 (R579): PT_CTRL, zones with a stretch or back-pressure, rims with a delay, life-cycle state. -/
def ptChanged (d : Device) : Device :=
  event 0x0F10 3 [(ptCtrlWord d).toNat,
    bitmap 8 (fun z => decide (16 < field (vget d.pt.zones z) 0 7) || field (vget d.pt.zones z) 8 7 != 0),
    bitmap 4 (fun r => field (vget d.pt.compl r) 0 16 != 0), lcCode d] d

/-- Allowed has fallen (R580): every PT register takes its reset value, and event 0x0F10 is recorded. -/
def ptSettle (was : Bool) (d : Device) : Device := if was && !ptAllowed d then ptChanged { d with pt := {} } else d

/-- PT_CTRL_WRITE (R580): Enable changes with Key 0xF7 and Allowed. -/
def ptCtrlWriteEffect (h : Hart) (v : Word) (d : Device) : Device :=
  onlyHart 0 h 16 0x60100000 (fun d1 =>
    if field v 8 8 == 0xF7 && ptAllowed d1 then ptChanged { d1 with pt := { d1.pt with enable := bit v 0 } } else d1) d
/-- PT_CTRL_WRITE. -/
def execPtCtrlWrite (h : Hart) (v : Word) (s : State) : Host.Outcome State Fault Refusal := s.run (ptCtrlWriteEffect h v)

/-! ### Transitions (R528–R530) -/

/-- The lowest fused test token that is not used (R534). -/
def nextToken (d : Device) : Option Nat :=
  (List.range 8).find? (fun i => (List.range 4).any (fun k => otpWord d (16 + 4 * i + k) != 0) && otpWord d (6 + i) == 0)

/-- Tokens fused and not used. -/
def tokensLeft (d : Device) : Nat :=
  ((List.range 8).filter (fun i => (List.range 4).any (fun k => otpWord d (16 + 4 * i + k) != 0) && otpWord d (6 + i) == 0)).length

/-- A test token hash is fused. -/
def anyTokenHash (d : Device) : Bool := (List.range 32).any (fun k => otpWord d (16 + k) != 0)

/-- The ticket booth holds a transition ticket for a target (R529). -/
def armedFor (d : Device) (target : Nat) : Bool := d.db.armed == some target

/-- The row of R528 for a pair of states: its preconditions in order, each with the outcome of its failure (2 NotPermitted,
5 NotArmed, 8 WipeRefused). None: there is no such transition. In Blank, R528 asks for TEST_EN high where R70 ignores it:
DESIGN CHOICE, R528 is followed (notes/assumptions/106.md). -/
def transitionRow (d : Device) (target : Nat) : Option (List (Bool × Nat)) :=
  let s := d.lc.state
  if s = 0 ∧ target = 1 then some [(d.pins.testEn, 2), (anyTokenHash d, 2)]
  else if (s = 1 ∨ s = 2) ∧ target = 3 then some [(serialNo d != 0, 2)]
  else if s = 3 ∧ target = 4 then some [(decide (1 ≤ d.kv.jrnlGen) && rootValid d.kv d.bat, 2), (!(liveOwnerKeys d).isEmpty, 2)]
  else if s = 4 ∧ target = 5 then some [(armedFor d 5, 5)]
  else if (s = 3 ∨ s = 4 ∨ s = 5) ∧ target = 6 then some [(armedFor d 6, 5), (wipeOk d, 8)]
  else if (s = 0 ∨ s = 1 ∨ s = 2) ∧ target = 7 then some []
  else if (s = 3 ∨ s = 6) ∧ target = 7 then some [(armedFor d 7, 5)]
  else if (s = 4 ∨ s = 5) ∧ target = 7 then some [(armedFor d 7, 5), (wipeOk d, 8)]
  else none

/-- The first precondition that fails, as (outcome, its position from 1). -/
def firstFailed (ps : List (Bool × Nat)) : Option (Nat × Nat) :=
  (ps.zipIdx.find? (fun p => !p.1.1)).map (fun p => (p.1.2, p.2 + 1))

/-- A transition refused (R528, R549): event 0x0302. -/
def lcRefuse (target outcome detail : Nat) (d : Device) : Device :=
  event 0x0302 3 [target, outcome, detail, 0] (lcResult 1 outcome detail d)

/-- Steps 1–3 of R530: the guarding window closed (R41), gates held, word 0 of every ream position zero, root buffers, vault and its keys cleared. -/
def wipeBegins (target : Nat) (d : Device) : Device :=
  let d1 := vaultClear { holdAllGates (windowDown d) with bat := { d.bat with roots := Vector.replicate 2 {} } }
  modLc (fun l => { l with wipe := some target }) { mramUsed d1 with mem := positions.foldl (fun m p => memWrite m (sheetAddr p) (zeros 8)) d1.mem }

/-- The transition is carried out: its stage word burns, after the wipe of a target that has one (R529, R530). -/
def transitionBegins (target : Nat) (d : Device) : Device :=
  let d1 := lcResult 1 0 0 { d with db := { d.db with armed := none } }
  if 6 ≤ target then wipeBegins target d1
  else modLc (fun l => { l with burn := stageOf target }) d1

/-- LC_TRANSITION (R526, R528). -/
def lcTransitionEffect (h : Hart) (target : Nat) (d : Device) : Device :=
  onlyHart 0 h 2 0x60020004 (fun d1 =>
    if lcBusy d1 then lcRefuse (target % 8) 4 0 d1
    else match transitionRow d1 (target % 8) with
    | none => lcRefuse (target % 8) 1 0 d1
    | some ps => match firstFailed ps with
      | some (o, i) => lcRefuse (target % 8) o i d1
      | none => if canBurn d1 then transitionBegins (target % 8) d1 else lcRefuse (target % 8) 3 0 d1) d
/-- LC_TRANSITION. -/
def execLcTransition (h : Hart) (target : Nat) (s : State) : Host.Outcome State Fault Refusal :=
  s.run (lcTransitionEffect h target)

/-- What the wipe zeroes in MRAM (R530 step 4), as (address, size); Scrap also the Golden slot. -/
def wipeRegions (target : Nat) : List (Nat × Nat) :=
  [(keyJournalBase, 0x80000), (couchJournalBase, 0x80000), (reamBase, 0x1000000), (eventBase, 0x400000), (siActiveBase, 0x100000),
   (siPendingBase, 0x100000), (fwActiveBase, 0x300000)] ++ (if target = 7 then [(fwGoldenBase, 0x300000)] else [])

/-- Regions zeroed. -/
def zeroRegions (rs : List (Nat × Nat)) (d : Device) : Device :=
  { mramUsed d with
    mem := rs.foldl (fun m r => memFill m r.1 r.2 0) d.mem
    lg := if rs.any (fun r => r.1 == reamBase) then { d.lg with used := 0 } else d.lg
    flipped := d.flipped.filter (fun w => !rs.any (fun r => decide (r.1 ≤ w.1 ∧ w.1 < r.1 + r.2))) }

/-- Scrap zeroes the whole of BBRAM (R530). -/
def clearBbram (b : Battery) : Battery := { seeds := b.seeds, xtalSeen := b.xtalSeen, vbd := b.vbd, lost := b.lost, ringSeq := 0 }

/-- LIFE_CYCLE_WIPE_DONE (R530 steps 4 and 5): what is to be zeroed is, and the stage word burns. Without hold-up the burn
is refused with NoHoldup and the state stays (R525; notes/assumptions/55.md). -/
def lifeCycleWipeDoneEffect (d : Device) : Device :=
  match d.lc.wipe with
  | none => d
  | some t =>
    if d.lc.burn.isSome then d
    else
      let d1 := zeroRegions (wipeRegions t) d
      let d2 := if t = 7 then { d1 with bat := clearBbram d1.bat } else d1
      if canBurn d2 then modLc (fun l => { l with burn := stageOf t }) d2
      else lcRefuse t 3 0 (modLc (fun l => { l with wipe := none }) d2)
/-- LIFE_CYCLE_WIPE_DONE. -/
def execLifeCycleWipeDone (s : State) : Host.Outcome State Fault Refusal := s.run lifeCycleWipeDoneEffect

/-! ### OTP (R532–R534) -/

/-- An OTP word as ReadWord returns it (R532). -/
def otpRead (d : Device) (w : Nat) : Nat := if within 16 47 w && !decide (d.lc.state ≤ 2) then 0 else otpWord d w

/-- LC_READ_WORD (R532). -/
def lcReadWordEffect (h : Hart) (d : Device) : Device :=
  lcCommand h 4 (fun d1 =>
    let v := otpRead d1 d1.lc.otpIdx
    modLc (fun l => { l with otpLo := BitVec.ofNat 32 v, otpHi := BitVec.ofNat 32 (v / 2 ^ 32) }) (lcResult 4 0 0 d1)) d
/-- LC_READ_WORD. -/
def execLcReadWord (h : Hart) (s : State) : Host.Outcome State Fault Refusal := s.run (lcReadWordEffect h)

/-- A monotone word that BurnWord burns (R532). -/
def monotoneWord (w : Nat) : Bool := within 65 77 w

/-- BurnWord may burn a word in a state (R532). -/
def burnAllowed (w st : Nat) : Bool :=
  if within 16 47 w then st == 0
  else if within 48 64 w then decide (st ≤ 2)
  else if w = 65 then st == 3 || st == 4
  else if within 66 69 w then within 3 5 st
  else if within 70 77 w then st == 4 || st == 5
  else if within 80 95 w then decide (st ≤ 3)
  else if within 96 159 w then st == 3 || st == 4
  else false

/-- The burn would revoke the last key of its kind (R338). -/
def lastKey (d : Device) (w v : Nat) : Bool :=
  v != 0 && ((within 70 77 w && liveOwnerKeys d == [w - 70]) || (within 66 69 w && liveFwKeys d == [w - 66]))

/-- Outcome of a BurnWord (R525, R532, R533). -/
def burnOutcome (d : Device) (w v : Nat) : Nat :=
  if !burnAllowed w d.lc.state then 2
  else if w = 65 ∧ v.testBit 14 = true then 11
  else if !monotoneWord w && otpWord d w != 0 then 10
  else if lastKey d w v then 9
  else if !canBurn d then 3
  else 0

/-- LC_BURN_WORD (R533): the value staged in LC_OTP_DATA. -/
def lcBurnWordEffect (h : Hart) (d : Device) : Device :=
  lcCommand h 3 (fun d1 =>
    let v := d1.lc.otpLo.toNat + d1.lc.otpHi.toNat * 2 ^ 32
    let o := burnOutcome d1 d1.lc.otpIdx v
    let d2 := lcResult 3 o 0 d1
    if o = 0 then modLc (fun l => { l with burn := some (l.otpIdx, v) }) d2 else d2) d
/-- LC_BURN_WORD. -/
def execLcBurnWord (h : Hart) (s : State) : Host.Outcome State Fault Refusal := s.run (lcBurnWordEffect h)

/-- The hash of a test token: four OTP words (R532). -/
def tokenHash (d : Device) (i : Nat) : List Byte := (List.range 4).flatMap (fun k => leBytes 8 (otpWord d (16 + 4 * i + k)))

/-- An Unlock (R534); the outcome of one after a mismatch: notes/assumptions/55.md. -/
def unlock (d : Device) : Device :=
  if d.lc.state != 1 then lcResult 2 1 0 d
  else if !d.pins.testEn then lcResult 2 2 0 d
  else if d.lc.mismatch then lcResult 2 6 0 d
  else match nextToken d with
    | none => lcResult 2 7 0 d
    | some i =>
      if shake256 d.lc.token 32 != tokenHash d i then
        event 0x0304 4 [i, 0, 0, 0] (lcResult 2 6 0 (modLc (fun l => { l with mismatch := true }) d))
      else if !canBurn d then lcResult 2 3 0 d
      else modLc (fun l => { l with burn := some (6 + i, 1) }) (lcResult 2 0 0 d)

/-- LC_UNLOCK (R534): LC_TOKEN is zeroed whatever the outcome. -/
def lcUnlockEffect (h : Hart) (d : Device) : Device :=
  onlyHart 0 h 2 0x60020004 (fun d1 =>
    modLc (fun l => { l with token := zeros 64 }) (if lcBusy d1 then lcResult 2 4 0 d1 else unlock d1)) d
/-- LC_UNLOCK. -/
def execLcUnlock (h : Hart) (s : State) : Host.Outcome State Fault Refusal := s.run (lcUnlockEffect h)

/-- LC_UNDEFINED_COMMAND (R528). -/
def lcUndefinedCommandEffect (h : Hart) (code : Nat) (d : Device) : Device := lcCommand h (code % 16) (lcResult (code % 16) 11 0) d
/-- LC_UNDEFINED_COMMAND. -/
def execLcUndefinedCommand (h : Hart) (code : Nat) (s : State) : Host.Outcome State Fault Refusal := s.run (lcUndefinedCommandEffect h code)

/-- Set bits of a 64-bit value. -/
def weight64 (v : Nat) : Nat := ((List.range 64).filter (fun i => v.testBit i)).length

/-- What a completed burn does besides the bits: a new state at once with event 0x0301, Test-Unlocked with 0x0303, else
0x0305 (R529, R533, R534, R549). With a wipe, which leaves no record in the log, nothing more. -/
def burnEnds (w v old : Nat) (d : Device) : Device :=
  match stageWords.find? (fun s => s.1 == w) with
  | some s =>
    if d.lc.wipe.isSome then d
    else ptSettle (ptAllowed d) (event 0x0301 3 [d.lc.state, s.2.2, 0, 0] (modLc (fun l => { l with state := s.2.2 }) d))
  | none =>
    if within 6 13 w then event 0x0303 3 [w - 6, tokensLeft d, 0, 0] (modLc (fun l => { l with state := 2 }) d)
    else event 0x0305 2 [w, if monotoneWord w then 2 else 1, weight64 (v - (v &&& old)), 0] d

/-- OTP_BURN_DONE (R525, R526): the burn completes from VSTBY; a wipe then ends with a MAIN reset of cause 5 (R530
step 6). With main power down only the bits are burned. -/
def otpBurnDoneEffect (d : Device) : Device :=
  match d.lc.burn with
  | none => d
  | some (w, v) =>
    let old := otpWord d w
    let d1 := modLc (fun l => { l with burn := none }) (burnBits w v d)
    if !mainUp d1 then d1
    else
      let d2 := burnEnds w v old d1
      if d2.lc.wipe.isSome then mainReset 5 d2 else d2
/-- OTP_BURN_DONE. -/
def execOtpBurnDone (s : State) : Host.Outcome State Fault Refusal := s.run otpBurnDoneEffect

/-! ### Test modes (R535, R536) -/

/-- A write of LC_TEST: ignored unless TestModes is 1 (R536). -/
def lcTestWrite (h : Hart) (v : Word) (f : Device → Device) (d : Device) : Device :=
  onlyHart 0 h 2 0x60020080 (fun d1 =>
    if testModes d1 then
      f (modLc (fun l => { l with scanAllow := bit v 0, mbistTarget := field v 2 3, mramTest := bit v 7 }) d1)
    else d1) d

/-- MBIST starts (R536), unless one runs. -/
def mbistStart (d : Device) : Device :=
  if d.lc.mbistRunning then d else modLc (fun l => { l with mbistRunning := true, mbistDone := false, mbistFail := false }) d

/-- The MRAM test leaves the array undefined (R536); its reserved region reads zero (R95). -/
def mramTested (d : Device) : Device := scramble mramBase 0x1D00000 d

/-- What a write of LC_TEST sets off: MBIST by MbistGo, the MRAM test where MramTest rises. -/
def testActions (v : Word) (rises : Bool) (d : Device) : Device :=
  let d1 := if bit v 1 then mbistStart d else d
  if rises then mramTested d1 else d1

/-- SCAN_ALLOW (R536): a write of LC_TEST. -/
def scanAllowEffect (h : Hart) (v : Word) (d : Device) : Device := lcTestWrite h v (testActions v (bit v 7 && !d.lc.mramTest)) d
/-- SCAN_ALLOW. -/
def execScanAllow (h : Hart) (v : Word) (s : State) : Host.Outcome State Fault Refusal := s.run (scanAllowEffect h v)

/-- MBIST_GO (R536): a write of LC_TEST. -/
def mbistGoEffect (h : Hart) (v : Word) (d : Device) : Device := lcTestWrite h v (testActions v (bit v 7 && !d.lc.mramTest)) d
/-- MBIST_GO. -/
def execMbistGo (h : Hart) (v : Word) (s : State) : Host.Outcome State Fault Refusal := s.run (mbistGoEffect h v)

/-- MRAM_TEST (R536): a write of LC_TEST. -/
def mramTestEffect (h : Hart) (v : Word) (d : Device) : Device := lcTestWrite h v (testActions v (bit v 7 && !d.lc.mramTest)) d
/-- MRAM_TEST. -/
def execMramTest (h : Hart) (v : Word) (s : State) : Host.Outcome State Fault Refusal := s.run (mramTestEffect h v)

/-- BBRAM after its pattern test: undefined (R536). -/
def scrambledBbram (d : Device) : Device :=
  let at_ := fun (o n : Nat) => (List.range n).map (fun i => Config.freeByte (d.free + o + i))
  let root := fun (o : Nat) =>
    ({ generation := leNat (at_ o 4), secret := at_ (o + 4) 64, check := at_ (o + 68) 16, commit := leNat (at_ (o + 84) 8) } : RootBuf)
  let b := { d.bat with
    roots := Vector.ofFn (fun k : Fin 2 => root (92 * k.val)), mirror := leNat (at_ 184 8), untouched := BitVec.ofNat 32 (leNat (at_ 192 4))
    latch := leNat (at_ 196 2), firstSensor := leNat (at_ 198 1), firstPower := leNat (at_ 199 1), alarms := leNat (at_ 200 2)
    firstTs := leNat (at_ 202 8), ringNext := leNat (at_ 210 1) % 16, ringCount := min 16 (leNat (at_ 211 1)), ringSeq := leNat (at_ 212 4)
    ring := Vector.ofFn (fun k : Fin 16 => at_ (216 + 64 * k.val) 64), reseed := at_ 1240 128 }
  tookFree 1368 { d with bat := b }

/-- The memory an MBIST has tested is undefined (R536): the image store, shared working SRAM, the context memory, the fabric
buffers (of which the block holds no state), the TCMs, BBRAM. -/
def mbistDestroys (target : Nat) (d : Device) : Device :=
  match target with
  | 0 => scramble storeBase 0x6000000 d
  | 1 => scramble sramBase 0x400000 d
  | 2 => tookFree 64 { d with dg := { d.dg with
      ctxs := d.dg.ctxs.map (fun c => { c with head := (List.range 32).map (fun i => Config.freeByte (d.free + i)), msg := (List.range 32).map (fun i => Config.freeByte (d.free + 32 + i)) }) } }
  | 4 => scramble (2 ^ 36) (2 ^ 20) d
  | 6 => scrambledBbram d
  | _ => d

/-- MBIST_DONE (R536). -/
def mbistDoneEffect (failed : Bool) (d : Device) : Device :=
  if mainRuns d && d.lc.mbistRunning then
    mbistDestroys d.lc.mbistTarget (modLc (fun l => { l with mbistRunning := false, mbistDone := true, mbistFail := failed }) d)
  else d
/-- MBIST_DONE. -/
def execMbistDone (failed : Bool) (s : State) : Host.Outcome State Fault Refusal := s.run (mbistDoneEffect failed)

/-- SCAN_EXIT (R535): leaving scan mode causes a MAIN reset with cause 6. -/
def scanExitEffect (d : Device) : Device := if d.lc.scanning && mainUp d then mainReset 6 d else d
/-- SCAN_EXIT. -/
def execScanExit (s : State) : Host.Outcome State Fault Refusal := s.run scanExitEffect

/-- TEST_EN_FALL (R70, R535): in Test-Locked and Test-Unlocked every test mode ends; leaving scan mode causes a MAIN reset. An MBIST in progress has tested what
it tested: its target is undefined. -/
def testEnFallEffect (d : Device) : Device :=
  let d1 := { d with pins := { d.pins with testEn := false } }
  if !mainUp d || !within 1 2 d.lc.state then d1
  else
    let d2 := if d1.lc.mbistRunning then mbistDestroys d1.lc.mbistTarget d1 else d1
    let d3 := modLc (fun l => { l with scanAllow := false, mbistTarget := 0, mbistRunning := false, mbistDone := false, mbistFail := false, mramTest := false }) d2
    if d3.lc.scanning then mainReset 6 d3 else d3
/-- TEST_EN_FALL. -/
def execTestEnFall (s : State) : Host.Outcome State Fault Refusal := s.run testEnFallEffect

/-- TEST_EN_RISE (R535): the level is read where R528, R534 and R536 name it. -/
def testEnRiseEffect (d : Device) : Device := { d with pins := { d.pins with testEn := true } }
/-- TEST_EN_RISE. -/
def execTestEnRise (s : State) : Host.Outcome State Fault Refusal := s.run testEnRiseEffect

end Sys2Proof.Machine
end

