-- ==== Sys2Proof/Machine/Booth.lean ====
section
/-! DEFINITION. The ticket booth: challenges, tickets, debug levels (spec/19_life_cycle_and_debug.md, R538–R550). The JTAG
instructions are in Machine/Jtag.lean. -/

namespace Sys2Proof.Machine

open Sys2Proof

/-- The ticket booth changed. -/
def modDb (f : Booth → Booth) (d : Device) : Device := { d with db := f d.db }

/-- Address of DB_CTRL. -/
def dbCtrlAddr : Nat := 0x60110000

/-- The source of a booth command in events (R550): 1 BOOTH, 2 a hart. -/
def boothSource : BoothSrc → Nat
  | .booth => 1
  | .hart _ => 2

/-- A booth register written by BOOTH, while main power is up (R539), or by one hart. -/
def boothWrite (owner : Nat) (src : BoothSrc) (addr : Nat) (f : Device → Device) (d : Device) : Device :=
  match src with
  | .booth => if mainRuns d then f d else d
  | .hart h => onlyHart owner h 17 addr f d

/-! ### Challenges (R540) -/

/-- The challenge of a nonce (R540). -/
def challengeBytes (d : Device) (nonce : List Byte) : List Byte :=
  padTo 64 (leBytes 4 0x43445842 ++ leBytes 2 1 ++ leBytes 1 (lcCode d) ++ zeros 1 ++ leBytes 8 (serialNo d) ++
    leBytes 4 (d.clock.powerCycles % 2 ^ 20) ++ leBytes 4 d.kv.jrnlGen ++ nonce)

/-- A challenge is issued (R540): it replaces the outstanding one and disarms any transition; LastResult 9 where the
entropy source fails. -/
def issueChallenge (d : Device) : Device :=
  if !d.kv.entropyOk then modDb (fun b => { b with lastResult := 9 }) d
  else
    let n := freeBytes d 32
    tookFree 32 (modDb (fun b => { b with nonce := some n, chal := challengeBytes d n, armed := none }) d)

/-- DB_CHALLENGE (R540). -/
def dbChallengeEffect (src : BoothSrc) (d : Device) : Device := boothWrite 3 src dbCtrlAddr issueChallenge d
/-- DB_CHALLENGE. -/
def execDbChallenge (src : BoothSrc) (s : State) : Host.Outcome State Fault Refusal := s.run (dbChallengeEffect src)

/-! ### Tickets (R541–R543) -/

/-- R542: the signer (1 owner, 2 Fjarlin) is admitted for a ticket in a state. -/
def signerAdmitted (state kind value signer : Nat) : Bool :=
  if kind = 1 then
    match state, signer with
    | 3, 2 => within 1 3 value
    | 4, 1 => within 1 3 value
    | 4, 2 => value == 1
    | 5, 1 => within 1 2 value
    | 6, 2 => within 1 3 value
    | _, _ => false
  else
    match state, signer with
    | 3, 2 => value == 6 || value == 7
    | 4, 1 => within 5 7 value
    | 5, 1 => value == 6 || value == 7
    | 6, 2 => value == 7
    | _, _ => false

/-- The signature block of a ticket (R541). -/
def ticketSig (t : List Byte) : List Byte := bufBytes t 0x40 5280

/-- Check 1 of R543: fixed fields, zero bytes, ranges of Kind and Value, signature block. -/
def ticketFormOk (t : List Byte) : Bool :=
  bufLe t 0 4 == 0x54445842 && bufLe t 4 2 == 1 && bufZero t 0x11 7 && bufZero t 0x38 8 &&
    ((bufLe t 6 1 == 1 && within 1 3 (bufLe t 7 1)) || (bufLe t 6 1 == 2 && within 5 7 (bufLe t 7 1))) &&
    sigBlockOk (ticketSig t) && within 1 2 (sigKind (ticketSig t))

/-- Checks 1–5 of R543, as LastResult; 0 where the signature remains to be checked. -/
def ticketFields (d : Device) (t : List Byte) : Nat :=
  if !ticketFormOk t then 1
  else if bufLe t 8 8 = 0 ∨ bufLe t 8 8 ≠ serialNo d then 2
  else if d.db.nonce ≠ some (bufBytes t 0x18 32) then 3
  else if bufLe t 0x10 1 ≠ lcCode d then 4
  else if !signerAdmitted d.lc.state (bufLe t 6 1) (bufLe t 7 1) (sigKind (ticketSig t)) then 5
  else 0

/-- The message digest of a ticket (R541). -/
def ticketDigest (t : List Byte) : List Byte := shake256 (t.take 64) 64

/-- A ticket fails (R543, R550): event 0x0E02. -/
def ticketFails (source result : Nat) (t : List Byte) (d : Device) : Device :=
  event 0x0E02 3 [result, bufLe t 6 1, bufLe t 7 1, source] (modDb (fun b => { b with lastResult := result, checking := none }) d)

/-- The verify job of the booth for a ticket (R543, R312, R321): KeySource as the ticket's KeyKind, KeyIndex its KeySlot;
its inputs stand in the booth. -/
def boothJob (t : List Byte) : SgJob where
  hart := none
  op := 1
  source := sigKind (ticketSig t)
  key := sigSlot (ticketSig t)
  det := false
  tag := 0
  ctxLen := 0
  msgAddr := 0
  msgLen := 0
  ctxAddr := 0
  keyAddr := 0
  sigAddr := 0
  pkDigAddr := 0
  badReserved := false
  changed := false

/-- A Submit (R543): the outstanding challenge is consumed whatever the result; one that is being checked goes on. -/
def submitTicket (source : Nat) (t : List Byte) (d : Device) : Device :=
  if d.db.checking.isSome then d
  else
    let r := ticketFields d t
    let form := ticketFormOk t
    let d1 := modDb (fun b => { b with
      nonce := none, chal := zeros 64, lastKeyKind := if form then sigKind (ticketSig t) else 0
      lastKeySlot := if form then sigSlot (ticketSig t) % 8 else 0 }) d
    if r ≠ 0 then ticketFails source r t d1
    else { modDb (fun b => { b with checking := some (source, t) }) d1 with sg := queueJob (boothJob t) d1.sg }

/-- DB_SUBMIT (R543). -/
def dbSubmitEffect (src : BoothSrc) (d : Device) : Device :=
  boothWrite 3 src dbCtrlAddr (fun d1 => submitTicket (boothSource src) d1.db.ticket d1) d
/-- DB_SUBMIT. -/
def execDbSubmit (src : BoothSrc) (s : State) : Host.Outcome State Fault Refusal := s.run (dbSubmitEffect src)

/-- VAULT_LOCK (R545): every slot zeroed as in a key vault clear, VaultLocked set; Wk, event log key and root stay. -/
def vaultLock (d : Device) : Device :=
  let d1 := dgLift (vaultClearContexts d.dg) { d with kv := { d.kv with slots := [] } }
  let r := vaultClearSig d1.sg
  modDb (fun b => { b with vaultLocked := true }) (events r.2 { d1 with sg := r.1 })

/-- A level opens (R544, R545): the higher of the present one and the one named, WMK6 extended, event 0x0E01; levels 2 and
3 lock the vault in Manufactured, Provisioned and Field. -/
def openLevel (value keyKind keySlot : Nat) (digest : List Byte) (d : Device) : Device :=
  let level := max d.db.level value
  let d1 := if 2 ≤ value ∧ within lcManufactured lcField d.lc.state = true then vaultLock d else d
  let d2 := modDb (fun b => { b with level := level }) d1
  let m := [level, keyKind, keySlot, lcCode d].map (fun v => (BitVec.ofNat 8 v : Byte)) ++ leBytes 4 d.clock.powerCycles ++ padTo 32 digest
  event 0x0E01 4 [level, keyKind, keySlot, lcCode d] (extendWmk 6 m d2)

/-- A ticket passes (R529, R544): its level opens, or its target is armed with event 0x0E04. -/
def ticketPasses (t : List Byte) (d : Device) : Device :=
  let kind := sigKind (ticketSig t)
  let slot := sigSlot (ticketSig t)
  let d1 := modDb (fun b => { b with lastResult := 0, checking := none }) d
  if bufLe t 6 1 = 1 then openLevel (bufLe t 7 1) kind slot (ticketDigest t) d1
  else event 0x0E04 3 [bufLe t 7 1, kind, slot, 0] (modDb (fun b => { b with armed := some (bufLe t 7 1) }) d1)

/-- The code that the booth's verify job ends with (R316). -/
def ticketCode (d : Device) (t : List Byte) : Nat :=
  let sig := ticketSig t
  fusedVerify d (sigKind sig) (sigSlot sig) (sigKey sig) (ascii "BX6440 DEBUG") (ticketDigest t) (sigBytes sig)

/-- Checks 6–8 of R543 on a ticket whose verify job ended with a code: LastResult, 0 pass. -/
def ticketVerdict (v : Nat) : Nat := if v = 0 then 0 else if v = 3 ∨ v = 4 then 6 else 7

/-- The verify unit that runs the booth's job. -/
def boothUnit (d : Device) : Option Nat := (List.range 2).find? (fun u => ((vget d.sg.units u).job).any (·.hart.isNone))

/-- The booth's job waits in the verify queue. -/
def boothQueued (d : Device) : Bool := d.sg.verifyQ.any (·.hart.isNone)

/-- TICKET_VERIFY_DONE (R543, R544, R321): the verify job has ended, a failed one with event 0x0601; one that the engine dropped is an engine fault
(result 8). -/
def ticketVerifyDoneEffect (d : Device) : Device :=
  match d.db.checking with
  | none => d
  | some (source, t) =>
    if !mainRuns d then d
    else match boothUnit d with
      | some u =>
        let v := ticketCode d t
        let d1 := events (jobEvents (boothJob t) u v)
          { d with sg := startJobs { d.sg with units := vmod d.sg.units u (fun x => { x with job := none }) } }
        if v = 0 then ticketPasses t d1 else ticketFails source (ticketVerdict v) t d1
      | none => if boothQueued d then d else ticketFails source 8 t d
/-- TICKET_VERIFY_DONE. -/
def execTicketVerifyDone (s : State) : Host.Outcome State Fault Refusal := s.run ticketVerifyDoneEffect

/-! ### Close, Request, the ticket buffer -/

/-- Close (R547): level 0, harts resumed, halt-on-reset ended, event 0x0E03. -/
def closeDebug (source : Nat) (d : Device) : Device :=
  ptSettle (ptAllowed d)
    (event 0x0E03 2 [d.db.level, source, 0, 0] (modDb (fun b => { b with level := 0, halted := 0, stepping := 0, haltOnReset := false }) d))

/-- DB_CLOSE (R547): from BOOTH or hart 0. -/
def dbCloseEffect (src : BoothSrc) (d : Device) : Device := boothWrite 0 src dbCtrlAddr (closeDebug (boothSource src)) d
/-- DB_CLOSE. -/
def execDbClose (src : BoothSrc) (s : State) : Host.Outcome State Fault Refusal := s.run (dbCloseEffect src)

/-- A Request is accepted (R537, R544): Blank and the test states, levels 1–3. -/
def requestAccepted (d : Device) (level : Nat) : Bool := decide (d.lc.state ≤ 2) && within 1 3 level

/-- DB_REQUEST (R544): from BOOTH. -/
def dbRequestEffect (level : Nat) (d : Device) : Device :=
  if mainRuns d && requestAccepted d level then openLevel level 0 0 (zeros 32) d else d
/-- DB_REQUEST. -/
def execDbRequest (level : Nat) (s : State) : Host.Outcome State Fault Refusal := s.run (dbRequestEffect level)

/-- A word of the ticket buffer at the pointer (DB_TKT_DATA); beyond the buffer nothing is stored. -/
def ticketWord (v : Word) (d : Device) : Device :=
  modDb (fun b => { b with
    ticket := if b.tktPtr + 4 ≤ 5344 then b.ticket.take b.tktPtr ++ leBytes 4 v.toNat ++ b.ticket.drop (b.tktPtr + 4) else b.ticket
    tktPtr := (b.tktPtr + 4) % 0x2000 }) d

/-- TKT_DATA_WRITE (R541). -/
def tktDataWriteEffect (src : BoothSrc) (v : Word) (d : Device) : Device := boothWrite 3 src 0x60110014 (ticketWord v) d
/-- TKT_DATA_WRITE. -/
def execTktDataWrite (src : BoothSrc) (v : Word) (s : State) : Host.Outcome State Fault Refusal := s.run (tktDataWriteEffect src v)

end Sys2Proof.Machine
end

