-- ==== Sys2Proof/Machine/Card.lean ====
section
/-! DEFINITION. The card port: its command engine, identification, and what hart 3 does with a card
(spec/18_card_port.md, R500–R522). CARD_PRESENT, which may wake the device, is in Machine/Power.lean. -/

namespace Sys2Proof.Machine

open Sys2Proof

/-- The card port changed. -/
def modCd (f : CardPort → CardPort) (d : Device) : Device := { d with cd := f d.cd }
/-- CD_SLOT_STAT changed. -/
def modCs (f : CardStat → CardStat) (d : Device) : Device := { d with cdStat := f d.cdStat }

/-! ### The command engine (R505–R508) -/

/-- The card slot of CD_CMD. -/
def cmdSlot (cd : CardPort) : Nat := field cd.cmd 6 2
/-- The command index of CD_CMD. -/
def cmdIndex (cd : CardPort) : Nat := field cd.cmd 0 6
/-- The data phase of CD_CMD: 0 none, 1 read, 2 write. -/
def cmdData (cd : CardPort) : Nat := field cd.cmd 12 2
/-- Blocks of the data phase. -/
def xferBlocks (cd : CardPort) : Nat := field cd.xfer 0 16
/-- Bytes per block. -/
def xferLen (cd : CardPort) : Nat := field cd.xfer 16 10

/-- Internal address of a block of the data phase. -/
def blockAddr (d : Device) (i : Nat) : Nat := d.cdWin.base.toNat + d.cd.bufOff.toNat + i * xferLen d.cd

/-- The data phase stays in the window, and the window in shared working SRAM (R100, CD_BUF_OFF). -/
def windowOk (d : Device) : Bool :=
  let n := xferBlocks d.cd * xferLen d.cd
  cmdData d.cd == 0 || (decide (d.cd.bufOff.toNat + n ≤ d.cdWin.len.toNat) && inSram (blockAddr d 0) n)

/-- A write that the slot's protect bits refuse (R506). -/
def writeProtected (s : CardSlot) (idx : Nat) : Bool :=
  ((idx == 24 || idx == 25) && (s.permWp || s.tmpWp)) || (idx == 27 && s.permWp)

/-- The command ends with an outcome; one that a core reset abandoned ends with 9 Reset but for a removal
(notes/assumptions/102.md). -/
def cardEnd (outcome : Nat) (d : Device) : Device :=
  modCd (fun c => { c with
    busy := false, done := true, outcome := if c.abandoned && outcome != 8 then 9 else outcome, phase := .none, checkCmd2 := false
    abandoned := false }) d

/-- The next block of a write goes to the card; its bytes are what the interface returns. -/
def sendBlock (d : Device) : Device :=
  let a := blockAddr d d.cd.blocksDone
  let d1 := readErrors a (xferLen d.cd) d
  reply (memRead d1.mem a (xferLen d1.cd)) (modCd (fun c => { c with phase := .writeData }) d1)

/-- What follows the response of a command: its data phase, its busy, or its end (R505). -/
def afterResponse (d : Device) : Device :=
  if cmdData d.cd = 1 ∧ xferBlocks d.cd ≠ 0 then modCd (fun c => { c with phase := .read }) d
  else if cmdData d.cd = 2 ∧ xferBlocks d.cd ≠ 0 then sendBlock d
  else if field d.cd.cmd 8 3 = 2 then modCd (fun c => { c with phase := .busy }) d
  else cardEnd 0 d

/-- A CD register written: by hart 3, or by hart 0 in ROM recovery (CD_ registers). -/
def cardWrite (h : Hart) (addr : Nat) (f : Device → Device) (d : Device) : Device :=
  hartWrite h 14 addr (fun d1 => if h = 3 ∨ (h = 0 ∧ d1.start.phase = .recovery) then f d1 else d1) d

/-- The slot's power has not been high for 5 ms: no command goes to it yet (R500). -/
def unsettled (d : Device) (s : Nat) : Bool := hasBit d.cdStat.powered s && !(slotAt d s).settled

/-- A command goes onto the bus, or waits for its slot's power to settle (R500); one without a response goes on at once. -/
def beginCommand (waits : Bool) (d : Device) : Device :=
  if waits then modCd (fun c => { c with phase := .settling }) d
  else if field d.cd.cmd 8 3 = 0 then afterResponse d else modCd (fun c => { c with phase := .response }) d

/-- CARD_COMMAND_ISSUE (R505, R506): a write of CD_CMD. One command runs at a time: a write while it runs is ignored. -/
def cardCommandIssueEffect (h : Hart) (v : Word) (d : Device) : Device :=
  cardWrite h 0x600E0040 (fun d1 =>
    if d1.cd.busy then d1
    else
      let d2 := modCd (fun c => { c with cmd := v &&& 0x000037FF }) d1
      if !bit v 31 then d2
      else if writeProtected (slotAt d2 (cmdSlot d2.cd)) (cmdIndex d2.cd) then cardEnd 7 (modCd (fun c => { c with blocksDone := 0 }) d2)
      else if !windowOk d2 then cardEnd 10 (modCd (fun c => { c with blocksDone := 0 }) d2)
      else
        beginCommand (unsettled d2 (cmdSlot d2.cd))
          (modCd (fun c => { c with busy := true, done := false, outcome := 0, blocksDone := 0, phase := .response }) d2)) d
/-- CARD_COMMAND_ISSUE. -/
def execCardCommandIssue (h : Hart) (v : Word) (s : State) : Host.Outcome State Fault Refusal := s.run (cardCommandIssueEffect h v)

/-- The protect bits of a CMD9 response are latched (R506). -/
def latchCsd (bits : List Byte) (d : Device) : Device :=
  if cmdIndex d.cd = 9 then
    modSlot (cmdSlot d.cd) (fun s => { s with permWp := hasBit (leNat bits) 13, tmpWp := hasBit (leNat bits) 12 }) d
  else d

/-- CARD_RESPONSE (R501, R502, R505): `bits` is the response from its lowest bit. After each CMD3 the port issues CMD2 once
more; an answer to that is a card reset with cause 2. -/
def cardResponseEffect (bits : List Byte) (crcOk : Bool) (d : Device) : Device :=
  if !mainRuns d || d.cd.phase != .response then d
  else if d.cd.checkCmd2 then cardReset 2 d
  else
    let rt := field d.cd.cmd 8 3
    if rt != 4 && !crcOk then cardEnd 2 d
    else
      let b := padTo 16 bits
      let n := if rt = 3 then 4 else 2
      let d1 := modCd (fun c => { c with resp := Vector.ofFn (fun k : Fin 4 => if k.val < n then wordAt b k.val else vget c.resp k.val) }) d
      let d2 := latchCsd bits d1
      if cmdIndex d.cd = 3 then modCd (fun c => { c with checkCmd2 := true }) d2 else afterResponse d2
/-- CARD_RESPONSE. -/
def execCardResponse (bits : List Byte) (crcOk : Bool) (s : State) : Host.Outcome State Fault Refusal :=
  s.run (cardResponseEffect bits crcOk)

/-- CARD_RESPONSE_TIMEOUT (R505); no answer to the check CMD2 is the normal case (R502). -/
def cardResponseTimeoutEffect (d : Device) : Device :=
  if !mainRuns d || d.cd.phase != .response then d
  else if d.cd.checkCmd2 then afterResponse (modCd (fun c => { c with checkCmd2 := false }) d)
  else cardEnd 1 d
/-- CARD_RESPONSE_TIMEOUT. -/
def execCardResponseTimeout (s : State) : Host.Outcome State Fault Refusal := s.run cardResponseTimeoutEffect

/-- CARD_DATA_BLOCK (R505, R39): a block read; one with a bad CRC, and the last of an abandoned command, is not
delivered. -/
def cardDataBlockEffect (data : List Byte) (crcOk : Bool) (d : Device) : Device :=
  if !mainRuns d || d.cd.phase != .read then d
  else if !crcOk || d.cd.abandoned then cardEnd 3 d
  else
    let d1 := store (blockAddr d d.cd.blocksDone) (padTo (xferLen d.cd) data) d
    let d2 := modCd (fun c => { c with blocksDone := c.blocksDone + 1 }) d1
    if d2.cd.blocksDone = xferBlocks d2.cd then cardEnd 0 d2 else d2
/-- CARD_DATA_BLOCK. -/
def execCardDataBlock (data : List Byte) (crcOk : Bool) (s : State) : Host.Outcome State Fault Refusal :=
  s.run (cardDataBlockEffect data crcOk)

/-- CARD_DATA_TIMEOUT (R505). -/
def cardDataTimeoutEffect (d : Device) : Device := if mainRuns d && d.cd.phase == .read then cardEnd 4 d else d
/-- CARD_DATA_TIMEOUT. -/
def execCardDataTimeout (s : State) : Host.Outcome State Fault Refusal := s.run cardDataTimeoutEffect

/-- CMD12 as its six bytes stand on the bus, with CRC7. -/
def cmd12 : List Byte := [0x4C, 0x00, 0x00, 0x00, 0x00, 0x61]

/-- CARD_CRC_STATUS_TOKEN (R505): 0b010 starts the busy of the block; at any other the command is stopped with CMD12. -/
def cardCrcStatusTokenEffect (token : Nat) (d : Device) : Device :=
  if !mainRuns d || d.cd.phase != .writeData then d
  else if token = 2 then modCd (fun c => { c with phase := .busy }) d else reply cmd12 (cardEnd 5 d)
/-- CARD_CRC_STATUS_TOKEN. -/
def execCardCrcStatusToken (token : Nat) (s : State) : Host.Outcome State Fault Refusal := s.run (cardCrcStatusTokenEffect token)

/-- CARD_BUSY_END (R505, R507): the next block of a write follows, or after the last the detect hold. -/
def cardBusyEndEffect (d : Device) : Device :=
  if !mainRuns d || d.cd.phase != .busy then d
  else if cmdData d.cd ≠ 2 || d.cd.abandoned then cardEnd 0 d
  else if d.cd.blocksDone + 1 < xferBlocks d.cd then sendBlock (modCd (fun c => { c with blocksDone := c.blocksDone + 1 }) d)
  else modCd (fun c => { c with phase := .hold }) d
/-- CARD_BUSY_END. -/
def execCardBusyEnd (s : State) : Host.Outcome State Fault Refusal := s.run cardBusyEndEffect

/-- CARD_BUSY_TIMEOUT (R505). -/
def cardBusyTimeoutEffect (d : Device) : Device := if mainRuns d && d.cd.phase == .busy then cardEnd 6 d else d
/-- CARD_BUSY_TIMEOUT. -/
def execCardBusyTimeout (s : State) : Host.Outcome State Fault Refusal := s.run cardBusyTimeoutEffect

/-- CARD_WRITE_DETECT_HOLD (R507): Kn_DET# has stayed low for 32 samples after the last busy. -/
def cardWriteDetectHoldEffect (d : Device) : Device :=
  if mainRuns d && d.cd.phase == .hold then cardEnd 0 (modCd (fun c => { c with blocksDone := c.blocksDone + 1 }) d) else d
/-- CARD_WRITE_DETECT_HOLD. -/
def execCardWriteDetectHold (s : State) : Host.Outcome State Fault Refusal := s.run cardWriteDetectHoldEffect

/-! ### Slots (R500, R508, R510) -/

/-- A slot's power switch (R500, CD_CTRL.SlotPower): on only where the slot is Present, not Unsupported and not within the
10 ms after power-off. -/
def slotPower (s : Nat) (on : Bool) (d : Device) : Device :=
  if on then
    if hasBit d.cdStat.present s && (slotAt d s).state != 3 && !hasBit d.cdStat.poweringOff s then
      modCs (fun c => { c with powered := setBit c.powered s }) d
    else d
  else if hasBit d.cdStat.powered s then
    modSlot s (fun x => { x with settled := false })
      (modCs (fun c => { c with powered := clrBit c.powered s, poweringOff := setBit c.poweringOff s }) d)
  else d

/-- SLOT_POWER_SETTLED (R500): 5 ms after Kn_PWR rose; a command that waited for it goes onto the bus. -/
def slotPowerSettledEffect (s : Slot) (d : Device) : Device :=
  if mainRuns d && hasBit d.cdStat.powered s then
    let d1 := modSlot s (fun x => { x with settled := true }) d
    if d.cd.phase == .settling && cmdSlot d.cd == s.val then beginCommand false d1 else d1
  else d
/-- SLOT_POWER_SETTLED. -/
def execSlotPowerSettled (s : Slot) (st : State) : Host.Outcome State Fault Refusal := st.run (slotPowerSettledEffect s)

/-- CARD_POWER_OFF_END (R500): 10 ms after Kn_PWR fell. -/
def cardPowerOffEndEffect (s : Slot) (d : Device) : Device := modCs (fun c => { c with poweringOff := clrBit c.poweringOff s }) d
/-- CARD_POWER_OFF_END. -/
def execCardPowerOffEnd (s : Slot) (st : State) : Host.Outcome State Fault Refusal := st.run (cardPowerOffEndEffect s)

/-- CARD_RESET (R510): by CD_CTRL.CardReset, a second CMD2 answer, or hart 3 after a core reset (R509). -/
def cardResetEffect (cause : Nat) (d : Device) : Device :=
  if mainRuns d && within 1 3 cause then cardReset cause d else d
/-- CARD_RESET. -/
def execCardReset (cause : Nat) (s : State) : Host.Outcome State Fault Refusal := s.run (cardResetEffect cause)

/-- The phase of a slot's command as event 0x0D02 gives it (R508, R522); the busy of a command without data belongs to its
response. -/
def removalPhase (cd : CardPort) (s : Nat) : Nat :=
  if !cd.busy || cmdSlot cd != s then 0
  else match cd.phase with
    | .none => 0
    | .settling => 1
    | .response => 1
    | .read => 2
    | .writeData => if cmdIndex cd = 27 then 5 else 3
    | .busy | .hold => if cmdData cd ≠ 2 then 1 else if cmdIndex cd = 27 then 5 else 4

/-- Blocks left indeterminate, and the card block of the first (R508). -/
def removalBlocks (cd : CardPort) (sl : CardSlot) (phase : Nat) : Nat × Nat :=
  let blk := if sl.highCap then cd.arg.toNat else cd.arg.toNat / 512
  if phase = 1 ∧ (cmdIndex cd = 24 ∨ cmdIndex cd = 25) then (xferBlocks cd, blk)
  else if phase = 3 ∨ phase = 4 then (1, blk + cd.blocksDone)
  else (0, 0)

/-- The clock that every identified card supports (R504): 52 MHz all MMC at high speed, 50 MHz an SD card at high speed, else
25 MHz. -/
def cardClock (d : Device) : Nat :=
  let ready := d.cd.slots.toList.filter (fun s => s.state == 4)
  if ready.all (fun s => s.type == 1 && s.speed == 2) then 3
  else if ready.all (fun s => s.type == 2 && s.speed == 2) then 2
  else 1

/-- A card has left (R502–R504): with no card identified the port has no mode, and slots Unsupported with reason 4 count as
newly inserted; else the bus runs at the clock that the cards left support. -/
def portEmptied (d : Device) : Device :=
  if d.cd.slots.toList.any (fun s => s.state == 4 || s.state == 5) then modCd (fun c => { c with clock := cardClock d }) d
  else
    modCd (fun c => { c with
      mode := 0, slots := c.slots.map (fun s => if s.state = 3 ∧ s.reason = 4 then { s with state := 1, reason := 0 } else s) }) d

/-- CARD_REMOVED (R500, R508): Kn_DET# has been high for 32 samples. Without main power only the slot status changes. -/
def cardRemovedEffect (s : Slot) (d : Device) : Device :=
  let d1 := { d with pins := { d.pins with cardDet := d.pins.cardDet.set s false, cards := d.pins.cards.set s none } }
  if !d.pins.vstby || !hasBit d.cdStat.present s then d1
  else
    let d2 := modCs (fun c => { c with present := clrBit c.present s, changed := setBit c.changed s }) d1
    if !mainUp d then d2
    else
      let ph := removalPhase d.cd s
      let b := removalBlocks d.cd (slotAt d s) ph
      let d3 := if d.cd.busy && cmdSlot d.cd == s.val then cardEnd 8 d2 else d2
      let d4 := modCd (fun c => { c with slots := c.slots.set s {} }) (slotPower s false d3)
      event 0x0D02 2 [s, ph, b.1, b.2] (portEmptied d4)
/-- CARD_REMOVED. -/
def execCardRemoved (s : Slot) (st : State) : Host.Outcome State Fault Refusal := st.run (cardRemovedEffect s)

/-! ### Identification (R501–R504) -/

/-- Event 0x0D03 and the state Unsupported (R503); the slot stays unpowered. -/
def unsupported (s reason : Nat) (d : Device) : Device :=
  hartEvent 3 0x0D03 3 [s, reason, 0, 0] (modSlot s (fun _ => { state := 3, reason := reason }) (slotPower s false d))

/-- Why a card cannot be used in a slot, with the path it would be identified on (R501–R503): reason, or 0. `mode` is the
port's mode, 0 where it holds no identified card. An SD card never becomes ready on the MMC path. -/
def unusable (mode s : Nat) (c : Card) : Nat :=
  if mode = 2 ∧ s ≠ 0 then 4
  else if c.kind = 2 then (if s ≠ 0 then 1 else if mode = 0 then 0 else 4)
  else match c.kind with
    | 1 => 0
    | 3 => 2
    | 4 => 3
    | _ => 1

/-- An identified card (R501 steps 2–5, R504, R506): RCA s + 2 in MMC mode, the card's own in SD mode. -/
def identified (s : Nat) (c : Card) (d : Device) : Device :=
  let sl : CardSlot :=
    { rca := if c.kind = 2 then c.rca % 65536 else s + 2, type := if c.kind = 2 then 2 else 1, speed := if c.highSpeed then 2 else 1
      permWp := c.permWp, tmpWp := c.tmpWp, highCap := c.highCap, state := 4, reason := 0, settled := true }
  let d1 := modSlot s (fun _ => sl) d
  modCd (fun p => { p with mode := if c.kind = 2 then 2 else 1, wide := true, openDrain := false, clock := cardClock d1 }) d1

/-! ### Card layout (R511–R513, R517, R521) -/

/-- A block of a card; blocks not listed are zero. -/
def cardBlock (c : Card) (n : Nat) : List Byte := padTo 512 (((c.blocks.find? (fun b => b.1 == n)).map (·.2)).getD [])

/-- Consecutive blocks of a card. -/
def cardBlocks (c : Card) (first n : Nat) : List Byte := (List.range n).flatMap (fun i => cardBlock c (first + i))

/-- A block in the range keeps failing (R505). -/
def blocksFail (c : Card) (first n : Nat) : Bool := c.badBlocks.any (fun b => decide (first ≤ b ∧ b < first + n))

/-- The areas a label names, as (first block, blocks): the descriptor stands for the recovery area (R511;
notes/assumptions/57.md). -/
def labelAreas (l : List Byte) : List (Nat × Nat) :=
  let fl := bufLe l 6 2
  (if fl.testBit 0 then [(bufLe l 0x10 4, 17 * bufLe l 0x14 4)] else []) ++ (if fl.testBit 1 then [(bufLe l 0x18 4, 1)] else []) ++
    (if fl.testBit 2 then [(bufLe l 0x20 4, bufLe l 0x24 4)] else [])

/-- A valid label whose areas neither overlap nor exceed the card (R511). -/
def labelOk (c : Card) : Bool :=
  let l := cardBlock c 0
  let areas := labelAreas l
  bufLe l 0 4 == 0x4C435842 && bufLe l 4 2 == 1 && bufZero l 0x1C 4 && bufZero l 0x28 0x1D0 && bufBytes l 0x1F8 8 == shake256 (l.take 0x1F8) 8 &&
    areas.all (fun a => decide (1 ≤ a.1 ∧ a.1 + a.2 ≤ c.blockCount)) && pairFree (fun a b => overlaps a.1 a.2 b.1 b.2) areas &&
    (!(bufLe l 6 2).testBit 2 || decide (19 ≤ bufLe l 0x24 4))

/-- The tag of data block `i` of an export slot (R512). -/
def blockTag (cardId : List Byte) (k i : Nat) (data : List Byte) : List Byte := shake256 (leBytes 4 (16 * k + i) ++ cardId ++ data) 8

/-- The sixteen data blocks of a sheet. -/
def sheetBlocks (sheet : List Byte) : List (List Byte) := (List.range 16).map (fun i => bufBytes sheet (512 * i) 512)

/-- The chain prefix of a sheet (R401, R512). -/
def chainPrefix (sheet : List Byte) : List Byte := (shake256 (sheet.take 7405) 64).take 8

/-- The header of export slot `k` for a sheet (R512). -/
def slotHeader (d : Device) (cardId : List Byte) (k : Nat) (sheet : List Byte) : List Byte :=
  let tags := (sheetBlocks sheet).zipIdx.flatMap (fun b => blockTag cardId k b.2 b.1)
  let h := padTo 0x1F8 (leBytes 4 0x58435842 ++ leBytes 2 1 ++ bufBytes sheet 0x0A 1 ++ zeros 1 ++ leBytes 4 k ++ bufBytes sheet 4 4 ++
    leBytes 8 (serialNo d) ++ cardId ++ chainPrefix sheet ++ zeros 0x18 ++ tags)
  h ++ shake256 h 8

/-- The conditions of R513 on export slot `k` but for the serial number; `prev` is the SheetNumber of slot k − 1. -/
def slotFormOk (c : Card) (cardId : List Byte) (first k : Nat) (prev : Option Nat) : Bool :=
  let b := first + 17 * k
  let h := cardBlock c b
  let sheet := cardBlocks c (b + 1) 16
  !blocksFail c b 17 && bufLe h 0 4 == 0x58435842 && bufLe h 4 2 == 1 && bufBytes h 0x1F8 8 == shake256 (h.take 0x1F8) 8 &&
    bufBytes h 0x18 8 == cardId && bufLe h 8 4 == k &&
    (sheetBlocks sheet).zipIdx.all (fun p => bufBytes h (0x40 + 8 * p.2) 8 == blockTag cardId k p.2 p.1) &&
    bufBytes h 0x20 8 == chainPrefix sheet && prev.all (fun p => decide (p < bufLe h 0x0C 4))

/-- Valid slots from slot `k` on, as (SheetNumber, ChainPrefix), until the first that is not valid (R513). -/
def validSlots (d : Device) (c : Card) (cardId : List Byte) (first : Nat) : Nat → Nat → Option Nat → List (Nat × List Byte)
  | 0, _, _ => []
  | n + 1, k, prev =>
    let h := cardBlock c (first + 17 * k)
    if slotFormOk c cardId first k prev && bufLe h 0x10 8 == serialNo d then
      (bufLe h 0x0C 4, bufBytes h 0x20 8) :: validSlots d c cardId first n (k + 1) (some (bufLe h 0x0C 4))
    else []

/-! ### Export (R513–R516) -/

/-- Unacknowledged stored sheets with their Bd in a mask, as (SheetNumber, position), by number. -/
def openSheets (d : Device) (mask : Nat) : List (Nat × Nat) :=
  let ps := (storedPositions d.mem d.lg.bad).filter (fun p => !sheetAcked d.mem p && hasBit mask (sheetBd d.mem p))
  (ps.map (fun p => (sheetNo d.mem p, p))).mergeSort (fun a b => decide (a.1 ≤ b.1))

/-- The card's acknowledgement (R515): N is the highest SheetNumber on the card with every unacknowledged stored sheet up to
it, whose Bd is in ExportBdMask, on the card. -/
def cardAckNumber (d : Device) (slots : List (Nat × List Byte)) : Option (Nat × List Byte) :=
  let mask := ((rightsNow d 0x30).map (·.exportBdMask)).getD 0
  let open_ := (openSheets d mask).map (·.1)
  let missing := open_.find? (fun n => !slots.any (fun s => s.1 == n))
  let ok := slots.filter (fun s => missing.all (fun m => decide (s.1 < m)))
  ok.getLast?

/-- What hart 3 has to write to LG_ACK again. -/
def keepAck (a : Option (Nat × List Byte)) (d : Device) : Device := { d with cdWin := { d.cdWin with ack := a } }

/-- Hart 3 writes LG_ACK with A = 0x30, N and G (R407, R515): refused with outcome 19, it is written again later. -/
def cardAck (s : Nat × List Byte) (d : Device) : Device :=
  let d1 := hartAck 0x30 s.1 s.2 (keepAck none (modLg (fun l => { l with ackNum := BitVec.ofNat 32 s.1, ackDig := s.2 }) d))
  if d1.lg.outcome = 19 then keepAck (some s) d1
  else if d1.lg.outcome = 0 then serveAck 0x30 s.1 s.2 d1 else d1

/-- Hart 3 acknowledges for the card (R515); the device, and N where the LG accepted. -/
def cardAcknowledge (slots : List (Nat × List Byte)) (r : Device × Option Nat) : Device × Option Nat :=
  match cardAckNumber r.1 slots with
  | none => r
  | some s =>
    let d1 := cardAck s r.1
    (d1, if d1.lg.outcome = 0 then some s.1 else r.2)

/-- An export in progress: the device, the valid slots on the card, the blocks written (block number, bytes), the last N
acknowledged. -/
structure Export where
  dev : Device
  slots : List (Nat × List Byte)
  out : List (Nat × List Byte)
  acked : Option Nat

/-- How often the read-back of an export slot fails (R514). -/
def readBackFails (c : Card) (k : Nat) : Nat := ((c.rereads.find? (fun r => r.1 == k)).map (·.2)).getD 0

/-- Eligible sheets are written in turn (R514), a slot whose read-back fails once more; the outcome of R516, none where there
is nothing to do. -/
def exportSheets (c : Card) (cardId : List Byte) (first total : Nat) : Nat → Export → Option Nat × Export
  | 0, x => (none, x)
  | n + 1, x =>
    let top := x.slots.getLast?.map (·.1)
    let next := (openSheets x.dev (ledgerMask x.dev 0x30)).find? (fun s => top.all (fun t => decide (t < s.1)))
    match next with
    | none => (if x.slots.isEmpty then none else some 0, x)
    | some (no, p) =>
      let k := x.slots.length
      if total ≤ k then (some 1, x)
      else if c.pulled = some k then (some 4, x)
      else if blocksFail c (first + 17 * k) 17 then (some 6, x)
      else
        let sheet := memRead x.dev.mem (sheetAddr p) 0x2000
        let b := first + 17 * k
        let blocks := (sheetBlocks sheet).zipIdx.map (fun q => (b + 1 + q.2, q.1)) ++ [(b, slotHeader x.dev cardId k sheet)]
        let out := x.out ++ blocks ++ (if readBackFails c k = 0 then [] else blocks)
        let d1 := readErrors (sheetAddr p) 0x2000 x.dev
        if 2 ≤ readBackFails c k then (some 6, { x with dev := d1, out := out })
        else
          let slots := x.slots ++ [(no, chainPrefix sheet)]
          let r := cardAcknowledge slots (d1, x.acked)
          exportSheets c cardId first total n { dev := r.1, slots := slots, out := out, acked := r.2 }

/-- A slot in error: a command to its card has failed three times (R505). -/
def cardError (s : Nat) (d : Device) : Device := modSlot s (fun x => { x with state := 5 }) d

/-- The card in a slot changed. -/
def modCard (s : Nat) (f : Card → Card) (d : Device) : Device :=
  { d with pins := { d.pins with cards := vmod d.pins.cards s (·.map f) } }

/-- Blocks written to a card stand on it. -/
def cardWrote (s : Nat) (out : List (Nat × List Byte)) (d : Device) : Device :=
  modCard s (fun c => { c with blocks := out.reverse ++ c.blocks.filter (fun b => !out.any (fun o => o.1 == b.1)) }) d

/-- Event 0x0D04; outcomes 0 and 1 set TMP_WRITE_PROTECT by CMD27 (R516), outcome 6 puts the slot in error (R505). -/
def exportEnds (s outcome written : Nat) (acked : Option Nat) (d : Device) : Device :=
  let d1 := if outcome ≤ 1 then modCard s (fun c => { c with tmpWp := true }) (modSlot s (fun x => { x with tmpWp := true }) d)
    else if outcome = 6 then cardError s d else d
  hartEvent 3 0x0D04 2 [s, written, acked.getD 0xFFFFFFFF, outcome] d1

/-- What goes onto the card: block numbers and bytes. -/
def cardOut (out : List (Nat × List Byte)) : List Byte := out.flatMap (fun b => leBytes 4 b.1 ++ b.2)

/-- Reconciliation with event 0x0D05, acknowledgement, and export where the ledger policy sets CardAutoExport (R513–R516). A
block that cannot be read while the slots are scanned puts the slot in error (R505). -/
def cardExport (s : Nat) (c : Card) (d : Device) : Device :=
  let l := cardBlock c 0
  let first := bufLe l 0x10 4
  let total := bufLe l 0x14 4
  let cardId := bufBytes l 8 8
  let slots := validSlots d c cardId first total 0 none
  let bad := decide (slots.length < total) && blocksFail c (first + 17 * slots.length) 17
  let foreign := slotFormOk c cardId first 0 none && bufLe (cardBlock c first) 0x10 8 != serialNo d && decide (0 < total)
  let d1 := hartEvent 3 0x0D05 1 [s, slots.length, (slots.getLast?.map (·.1)).getD 0xFFFFFFFF, slots.length] d
  let r := cardAcknowledge slots (d1, none)
  if !d.tx.fabricLive || !(curLeaf d).ledger.cardAutoExport then (if bad then cardError s r.1 else r.1)
  else if foreign then exportEnds s 3 0 r.2 r.1
  else if (rightsNow d 0x30).isNone then exportEnds s 5 0 r.2 r.1
  else if c.permWp || c.tmpWp then exportEnds s 2 0 r.2 r.1
  else if bad then exportEnds s 6 0 r.2 r.1
  else
    let x := exportSheets c cardId first total 2049 { dev := r.1, slots := slots, out := [], acked := r.2 }
    let d2 := cardWrote s x.2.out (reply (x.2.dev.reply ++ cardOut x.2.out) x.2.dev)
    match x.1 with
    | none => d2
    | some o => exportEnds s o (x.2.slots.length - slots.length) x.2.acked d2

/-! ### Recovery objects (R517–R519) -/

/-- A recovery descriptor is valid, with its object on the card (R517). -/
def descriptorOk (c : Card) (first : Nat) : Bool :=
  let h := cardBlock c first
  bufLe h 0 4 == 0x4F435842 && bufLe h 4 2 == 1 && within 1 5 (bufLe h 6 1) &&
    decide (first + 1 + ceilDiv (bufLe h 8 4) 512 ≤ c.blockCount)

/-- The object's bytes that a descriptor names. -/
def objectBytes (c : Card) (first : Nat) : List Byte :=
  let len := bufLe (cardBlock c first) 8 4
  (cardBlocks c (first + 1) (ceilDiv len 512)).take len

/-- The object's blocks keep failing (R505). -/
def objectFails (c : Card) (first : Nat) : Bool := blocksFail c (first + 1) (ceilDiv (bufLe (cardBlock c first) 8 4) 512)

/-- The limit of an object (R441, R517). -/
def objectLimit (kind : Nat) : Nat := if kind = 5 then 0x10000 else stagingLimit kind

/-- Hart 3 skips an object (R518): an SI or image that is the committed or running one, a bundle whose domain is not
Stopped. -/
def objectSkipped (d : Device) (kind : Nat) (obj : List Byte) : Bool :=
  let below := shake256 (obj.take (bufLe obj 12 4)) 64
  (kind == 1 && d.tx.fabricLive && below == d.tx.siDigest) || (kind == 2 && below == d.start.fwDigest) ||
    (kind == 3 && (domain d (bufLe obj 6 1)).state != .stopped)

/-- The card agent's rights admit an object (R394, R518); without an epoch only an SI, from the card in K0 (R369, R371). -/
def objectPermitted (d : Device) (s kind : Nat) (obj : List Byte) : Bool :=
  if !d.tx.fabricLive then kind == 1 && s == 0
  else (rightsNow d 0x30).any (fun r => r.mayStage && (!(kind == 3 || kind == 4) || hasBit r.ledgerBdMask (bufLe obj 6 1)))

/-- Event 0x0D06: what became of a recovery object. -/
def objectEnds (s kind len outcome : Nat) (d : Device) : Device := hartEvent 3 0x0D06 3 [s, kind, outcome, len] d

/-- An object is handed to its consumer (R444, R518), which may answer later: hart 0 for an SI and for device firmware, hart 2
for bundles, hart 3 itself for a ledger release. One that is busy shows as outcome 3. -/
def consumeObject (s : Nat) (c : Card) (kind : Nat) (obj : List Byte) (d : Device) : Device :=
  let ended := objectEnds s kind obj.length
  match kind with
  | 1 => if siBusy d then ended 3 d else takeSi 0x30 obj { d with cdWin := { d.cdWin with siLoad := some (s, obj.length) } }
  | 2 => if updateBusy d then ended 3 d else takeFirmware (.card s) obj d
  | 5 => match releaseBad d obj with
    | none => ended 1 (acceptRelease obj d)
    | some _ => ended 6 d
  | k =>
    if !bundlePermitted d 0x30 (k == 4) obj then ended 2 d
    else if installing d (bufLe obj 6 1) then ended 3 d
    else takeBundle 0x30 (.card s) (k == 4) c.fault obj d

/-- The recovery object of a card in stage firmware (R517, R518), with event 0x0D06; one whose blocks cannot be read puts the
slot in error (R505). A descriptor that is not valid shows as Rejected (notes/assumptions/57.md). -/
def cardRecovery (s : Nat) (c : Card) (first : Nat) (d : Device) : Device :=
  let kind := bufLe (cardBlock c first) 6 1
  let obj := objectBytes c first
  let ended := objectEnds s kind (bufLe (cardBlock c first) 8 4)
  if blocksFail c first 1 then cardError s d
  else if !descriptorOk c first then ended 6 d
  else if !objectPermitted d s kind obj then ended 2 d
  else if obj.isEmpty || decide (objectLimit kind < obj.length) then ended 4 d
  else if objectFails c first then cardError s (ended 6 d)
  else if shake256 obj 64 != bufBytes (cardBlock c first) 0x40 64 then ended 6 d
  else if objectSkipped d kind obj then ended 8 d
  else consumeObject s c kind obj d

/-! ### Debug tickets (R521) -/

/-- The object in a ticket container, of a Kind and within a number of blocks; every other byte is zero. -/
def containerObject (c : Card) (first blocks kind : Nat) : Option (List Byte) :=
  let b := cardBlocks c first blocks
  let len := bufLe b 8 4
  let obj := bufBytes b 0x20 len
  if bufLe b 0 4 == 0x4B545842 && bufLe b 4 2 == 1 && bufLe b 6 1 == kind && decide (0x20 + len ≤ 512 * blocks) &&
      bufZero b 7 1 && bufZero b 0x0C 4 && bufZero b 0x18 8 && bufZero b (0x20 + len) (512 * blocks - (0x20 + len)) &&
      bufBytes b 0x10 8 == shake256 obj 8 then some obj else none

/-- A container around an object. -/
def containerBytes (kind : Nat) (obj : List Byte) : List Byte :=
  leBytes 4 0x4B545842 ++ leBytes 2 1 ++ leBytes 1 kind ++ zeros 1 ++ leBytes 4 obj.length ++ zeros 4 ++ shake256 obj 8 ++ zeros 8 ++ obj

/-- The ticket area on insertion (R521): a valid response goes to the booth, else on a writable card a challenge is written as
the request. Event 0x0D07; its outcome is the booth's LastResult (notes/assumptions/57.md). -/
def cardTicket (s : Nat) (c : Card) (first blocks : Nat) (d : Device) : Device :=
  if blocksFail c first blocks then cardError s d
  else match containerObject c (first + 8) (blocks - 8) 2 with
  | some t =>
    let d1 := submitTicket 2 (padTo 5344 t) (modDb (fun b => { b with ticket := padTo 5344 t }) d)
    hartEvent 3 0x0D07 3 [s, 2, d1.db.lastResult, 0] d1
  | none =>
    if c.permWp || c.tmpWp then d
    else
      let d1 := issueChallenge d
      let out := [(first, padTo 512 (containerBytes 1 d1.db.chal))]
      let d2 := if d1.db.nonce.isSome then cardWrote s out (reply (d1.reply ++ cardOut out) d1) else d1
      hartEvent 3 0x0D07 3 [s, 1, if d.kv.entropyOk then 0 else 9, 0] d2

/-! ### A card is inserted (R501, R502, R509, R518–R520) -/

/-- Hart 3 goes on with a card: stage firmware runs, and its slot is not in error. -/
def cardGoes (d : Device) (s : Nat) : Bool := attached d && (slotAt d s).state == 4

/-- What hart 3 does with an identified card (R511, R520): label, then recovery, ticket and export areas. -/
def serveCard (s : Nat) (c : Card) (d : Device) : Device :=
  let l := cardBlock c 0
  let fl := bufLe l 6 2
  let d1 := hartEvent 3 0x0D01 1 [s, (slotAt d s).type, (slotAt d s).rca, if labelOk c && !blocksFail c 0 1 then fl else 0xFFFF] d
  if blocksFail c 0 1 then cardError s d1
  else if !labelOk c then hartEvent 3 0x0D03 3 [s, 5, 0, 0] d1
  else
    let d2 := if fl.testBit 1 then cardRecovery s c (bufLe l 0x18 4) d1 else d1
    let d3 := if fl.testBit 2 && cardGoes d2 s then cardTicket s c (bufLe l 0x20 4) (bufLe l 0x24 4) d2 else d2
    if fl.testBit 0 && cardGoes d3 s then cardExport s c d3 else d3

/-- A card is identified and served by hart 3 (R501–R503). An answer to the check CMD2 is a card reset with cause 2, after which
every Present card is identified anew. -/
def identifyCard (s : Nat) (c : Card) (d : Device) : Device :=
  let r := unusable d.cd.mode s c
  if r ≠ 0 then unsupported s r d
  else if c.secondAnswer then cardReset 2 (modCard s (fun x => { x with secondAnswer := false }) d)
  else serveCard s c (identified s c d)

/-- ROM recovery takes the card in K0 (R519): only a Kind 2 object, handed to the ROM. -/
def romCard (c : Card) (d : Device) : Device :=
  if unusable 0 0 c ≠ 0 then modSlot 0 (fun _ => { state := 3, reason := unusable 0 0 c }) (slotPower 0 false d)
  else
    let d1 := identified 0 c d
    let first := bufLe (cardBlock c 0) 0x18 4
    if blocksFail c 0 1 || !labelOk c || !(bufLe (cardBlock c 0) 6 2).testBit 1 || blocksFail c first 1 || !descriptorOk c first ||
        objectFails c first || bufLe (cardBlock c first) 6 1 != 2 ||
        shake256 (objectBytes c first) 64 != bufBytes (cardBlock c first) 0x40 64 then d1
    else (romInstall 1 (objectBytes c first) d1).2

/-- A slot whose card is to be identified: Present, and Empty, Detected or Identifying. -/
def slotWaits (d : Device) (s : Nat) : Bool := hasBit d.cdStat.present s && decide ((slotAt d s).state ≤ 2)

/-- Identification of a slot begins (R500, R501): a full one, where the port holds no identified card, with every slot powered
off. -/
def slotBegins (s : Nat) (d : Device) : Device :=
  let off := d.cd.mode == 0 && d.cdStat.powered != 0
  if off then (List.range 4).foldl (fun acc k => slotPower k false acc) d
  else slotPower s true (modSlot s (fun x => { x with state := 2 }) d)

/-- The slot that is identified next is brought on by a step (R500–R503): powered, once its power-off has lasted; identified, once
its power has settled. `serve` identifies its card. -/
def bringOn (s : Nat) (serve : Card → Device → Device) (d : Device) : Device :=
  if d.cd.mode = 2 ∧ s ≠ 0 then unsupported s 4 d
  else if hasBit d.cdStat.poweringOff s then d
  else if (slotAt d s).state ≠ 2 ∨ hasBit d.cdStat.powered s = false then slotBegins s d
  else if !(slotAt d s).settled then d
  else match vget d.pins.cards s with
    | some c => serve c d
    | none => d

/-- Hart 3 with stage 1 attached, or hart 0 in ROM recovery for K0 alone, goes on with the card port (R501, R509, R515, R519), at
a tick (notes/assumptions/127.md): after a core reset a card reset comes first; an acknowledgement that was refused as busy
is written again; then the lowest slot that waits is brought on. -/
def cardTurn (d : Device) : Device :=
  if d.cd.busy then d
  else if attached d && hartUp d 3 then
    if !d.cdWin.taken then
      let d1 := { d with cdWin := { d.cdWin with taken := true } }
      if d.start.resetKind = 2 then cardReset 3 d1 else d1
    else
      let d1 := match d.cdWin.ack with
        | some s => cardAck s d
        | none => d
      match (List.range 4).find? (slotWaits d1) with
      | some s => bringOn s (identifyCard s) (reply [] d1)
      | none => d1
  else if d.start.phase == .recovery && !hasBit d.db.halted 0 && slotWaits d 0 then bringOn 0 romCard d
  else d

/-- The slot becomes Present (R500). -/
def cardInserted (s : Slot) (c : Card) (d : Device) : Device :=
  let rises := !hasBit d.cdStat.present s
  let d1 := modCs (fun x => { x with present := setBit x.present s, changed := if rises then setBit x.changed s else x.changed })
    { d with pins := { d.pins with cardDet := d.pins.cardDet.set s true, cards := d.pins.cards.set s (some c) } }
  if mainUp d && rises then modSlot s (fun x => { x with state := 1 }) d1 else d1

end Sys2Proof.Machine
end

