-- ==== Sys2Proof/Machine/DigestCmds.lean ====
section
/-! DEFINITION. The commands of the digest engine (spec/09_digest_engine.md, R267–R302). -/

namespace Sys2Proof.Machine

open Sys2Proof

/-- The digest engine changed. -/
def modDg (f : DigestEngine → DigestEngine) (d : Device) : Device := { d with dg := f d.dg }

/-- A hart's bank of DG_ registers. -/
def dgBank (d : Device) (h : Hart) : DgBank := d.dg.banks[h]

/-- A hart's bank changed. -/
def modDgBank (h : Hart) (f : DgBank → DgBank) (d : Device) : Device :=
  modDg (fun g => { g with banks := g.banks.set h (f g.banks[h]) }) d

/-- DG_RESULT of a hart: last command, outcome (0 Accepted, 1 WrongState, 2 NotOwner, 3 NoContext, 4 NoEntry,
5 BadArgument, 6 Busy, 7 KeyRefused, 8 SourceFault) and value. -/
def dgResult (h : Hart) (cmd outcome value : Nat) (d : Device) : Device :=
  modDgBank h (fun b => { b with lastCmd := cmd, outcome := outcome, value := value }) d

/-- A write of DG_CMD (R278, DG_RESULT): refused with Busy while a Prefix or Feed of the hart runs. `f` gives outcome,
value and the device. -/
def digestCommand (h : Hart) (cmd : Nat) (f : Device → Nat × Nat × Device) (d : Device) : Device :=
  hartWrite h 4 0x60040000 (fun d1 =>
    if (dgBank d1 h).job.isSome then dgResult h cmd 6 0 d1
    else
      let r := f d1
      dgResult h cmd r.1 r.2.1 r.2.2) d

/-- A refusal with an outcome. -/
def dgRefuse (outcome : Nat) (d : Device) : Nat × Nat × Device := (outcome, 0, d)

/-- A command on a context: refused with WrongState where it is Free and NotOwner for another owner (R268). -/
def onContext (h : Hart) (c : Ctx) (f : Context → Device → Nat × Nat × Device) (d : Device) : Nat × Nat × Device :=
  match ctxOf d.dg c with
  | none => dgRefuse 1 d
  | some x => if x.owner ≠ 0x10 + h.val then dgRefuse 2 d else f x d

/-! ### Open (R268, R277, R288) -/

/-- The settings of an Open, from DG_ARG0–4, as a context numbered `n`. -/
def openSettings (b : DgBank) (h : Hart) (n : Nat) : Context where
  no := n
  owner := 0x10 + h.val
  state := .prefix_
  cls := field b.args[0] 0 2
  keyMode := bit b.args[0] 2
  source := field b.args[0] 4 2
  domain := field b.args[0] 8 7
  outLen := field b.args[0] 16 7
  outDest := field b.args[0] 24 2
  suffix := (leBytes 4 b.args[3].toNat ++ leBytes 4 b.args[4].toNat).take (field b.args[0] 28 4)
  declLen := b.args[1].toNat + 2 ^ 32 * field b.args[2] 0 16
  vaultSlot := field b.args[2] 16 8
  destSlot := field b.args[2] 24 8
  keyed := bit b.args[0] 2 || field b.args[0] 4 2 == 2 || field b.args[0] 24 2 == 1

/-- The settings are within their ranges (R274, R278, R285, R288). -/
def openRanges (b : DgBank) (c : Context) : Bool :=
  decide (c.source ≤ 2) && classOk c.cls c.source && decide (1 ≤ c.domain) && within 1 64 c.outLen &&
    decide (c.outDest ≤ 2) && decide (field b.args[0] 28 4 ≤ 8)

/-- A vault slot admits a use by an owner: Valid, owned, with the right (R329, R330). Rights: 0 KeyedDigest,
1 DigestSource. -/
def slotAdmits (kv : KeyVault) (slot owner right : Nat) : Bool :=
  (slotOf kv slot).any (fun s => s.valid && s.owner == owner && hasBit s.rights right)

/-- The key rules of R277 and R330 on a context's settings. -/
def keysAdmit (kv : KeyVault) (c : Context) : Bool :=
  (!c.keyMode || (slotAdmits kv c.vaultSlot c.owner 0 && c.source != 2)) &&
    (c.source != 2 || (slotAdmits kv c.vaultSlot c.owner 1 && c.declLen == 64 && !c.keyMode && c.outDest == 1)) &&
    (c.outDest != 1 || (c.outLen == 64 && (slotOf kv c.destSlot).any (fun s => !s.valid && s.owner == c.owner)))

/-- DG_OPEN (R268, R270, R277, R288). -/
def openContext (h : Hart) (d : Device) : Nat × Nat × Device :=
  let b := dgBank d h
  let c := openSettings b h 0
  if !openRanges b c then dgRefuse 5 d
  else if !keysAdmit d.kv c then dgRefuse 7 d
  else match freeCtx d.dg with
    | none => dgRefuse 3 (event 0x0507 3 [c.owner, c.cls, 0, 0] d)
    | some n => (0, n, modDg (fun g => { g with ctxs := g.ctxs ++ [openSettings b h n] }) d)

/-- DG_OPEN. -/
def dgOpenEffect (h : Hart) (d : Device) : Device := digestCommand h 1 (openContext h) d
/-- DG_OPEN. -/
def execDgOpen (h : Hart) (s : State) : Host.Outcome State Fault Refusal := s.run (dgOpenEffect h)

/-! ### Prefix, Feed (R272, R278, R285) -/

/-- A Prefix or Feed starts (R278): its bytes are read, checked against the hart's PMP regions and deckle, or it ends with
SourceFault. -/
def startFeed (h : Hart) (x : Context) (isPrefix : Bool) (d : Device) : Nat × Nat × Device :=
  let a := (dgBank d h).args[0].toNat
  let n := (dgBank d h).args[1].toNat
  let d1 := readErrors a n d
  match engineReadFor h d a n with
  | none => dgRefuse 8 d1
  | some bs => (0, 0, modDgBank h (fun b => { b with job := some { ctx := x.no, bytes := bs, isPrefix := isPrefix } }) d1)

/-- DG_PREFIX (R272). -/
def dgPrefixEffect (h : Hart) (c : Ctx) (d : Device) : Device :=
  digestCommand h 2 (onContext h c (fun x d1 => if x.state ≠ .prefix_ then dgRefuse 1 d1 else startFeed h x true d1)) d
/-- DG_PREFIX. -/
def execDgPrefix (h : Hart) (c : Ctx) (s : State) : Host.Outcome State Fault Refusal := s.run (dgPrefixEffect h c)

/-- TRUNC is set on a context by a refused Feed (R285). -/
def truncated (x : Context) (d : Device) : Device := modDg (fun g => setCtx g { x with trunc := true }) d

/-- DG_FEED (R278, R285). -/
def dgFeedEffect (h : Hart) (c : Ctx) (d : Device) : Device :=
  digestCommand h 4 (onContext h c (fun x d1 =>
    if x.source ≠ 0 then dgRefuse 5 d1
    else match x.state with
      | .absorbing => startFeed h x false d1
      | .prefix_ => dgRefuse 1 d1
      | _ => dgRefuse 1 (truncated x d1))) d
/-- DG_FEED. -/
def execDgFeed (h : Hart) (c : Ctx) (s : State) : Host.Outcome State Fault Refusal := s.run (dgFeedEffect h c)

/-- The bytes of a running Prefix or Feed are in (R272, R285). -/
def feedEnds (h : Hart) (j : DgJob) (d : Device) : Device :=
  match ctxOf d.dg j.ctx with
  | none => dgResult h (if j.isPrefix then 2 else 4) 1 0 d
  | some x =>
    if j.isPrefix then
      if x.state = .prefix_ then dgResult h 2 0 0 (modDg (fun g => juggle (putCtx g { x with head := x.head ++ j.bytes })) d)
      else dgResult h 2 1 0 d
    else if x.state = .absorbing then dgResult h 4 0 0 (dgLift (feedCtx d.tx.epoch j.bytes x d.dg) d)
    else dgResult h 4 1 0 (truncated x d)

/-- DG_FEED_COMPLETE (R285). -/
def dgFeedCompleteEffect (h : Hart) (d : Device) : Device :=
  match (dgBank d h).job with
  | none => d
  | some j => if mainRuns d then feedEnds h j (modDgBank h (fun b => { b with job := none }) d) else d
/-- DG_FEED_COMPLETE. -/
def execDgFeedComplete (h : Hart) (s : State) : Host.Outcome State Fault Refusal := s.run (dgFeedCompleteEffect h)

/-! ### Begin, Bind, Close, Free (R270–R273, R280, R286) -/

/-- The job has the plain SHAKE256 form of R328: no prefix, no key block, no suffix, D 0x1F. -/
def plainShake (x : Context) : Bool :=
  x.head.isEmpty && !x.keyMode && x.suffix.isEmpty && x.domain == 0x1F && x.outLen == 64 && x.outDest == 1

/-- The rung that a vault-source job on a ladder slot yields (R328): class and version, none for other jobs. -/
def rungOf (kv : KeyVault) (x : Context) : Option (Nat × Nat) :=
  if x.source = 2 ∧ plainShake x = true then
    ((slotOf kv x.vaultSlot).filter (·.ladder)).map (fun s => (s.cls, s.version))
  else none

/-- Begin of a context whose checks passed (R273, R278, R285). -/
def beginContext (x : Context) (d : Device) : Device :=
  let key := ((slotOf d.kv x.vaultSlot).map (·.value)).getD []
  let rung := (rungOf d.kv x).map (fun r => (r.1, r.2 - 1))
  let x1 := { x with state := .absorbing, head := x.head ++ (if x.keyMode then keyBlock key else []), rung := rung }
  let g := putCtx d.dg x1
  if x.source = 2 then dgLift (feedCtx d.tx.epoch (padTo 64 key) x1 g) d
  else if x.declLen = 0 then { d with dg := juggle (putCtx g (finalise d.tx.epoch x1)) }
  else { d with dg := juggle g }

/-- DG_BEGIN (R272, R273, R328): a prefix that fills no whole blocks is refused, and so is a key that is not admitted
now, or a ladder slot of version 0. -/
def dgBeginEffect (h : Hart) (c : Ctx) (d : Device) : Device :=
  digestCommand h 3 (onContext h c (fun x d1 =>
    if x.state ≠ .prefix_ then dgRefuse 1 d1
    else if x.head.length % 136 ≠ 0 then dgRefuse 5 d1
    else if x.keyed = true ∧ keysAdmit d1.kv x = false then dgRefuse 7 d1
    else if (rungOf d1.kv x).any (fun r => r.2 == 0) then dgRefuse 7 d1
    else (0, 0, beginContext x d1))) d
/-- DG_BEGIN. -/
def execDgBegin (h : Hart) (c : Ctx) (s : State) : Host.Outcome State Fault Refusal := s.run (dgBeginEffect h c)

/-- A kind 2 tap bound to a context, with the epoch of the moment (R280). -/
def bindTap (x : Context) (f start : Nat) (d : Device) : Device :=
  modDg (fun g => setCtx g { x with
    tap := some { kind := 2, dev := f, start := start, next := start }, bound := some (2, f, start, d.tx.epoch) }) d

/-- DG_BIND (R280): hart 2 only. -/
def dgBindEffect (h : Hart) (c : Ctx) (d : Device) : Device :=
  digestCommand h 5 (fun d1 =>
    if h ≠ 2 then dgRefuse 2 d1
    else onContext h c (fun x d2 =>
      let start := (dgBank d2 h).args[1].toNat
      if x.state ≠ .absorbing ∨ x.tap.isSome = true then dgRefuse 1 d2
      else if x.source ≠ 1 ∨ x.cls ≠ 0 ∨ start % 4096 ≠ 0 then dgRefuse 5 d2
      else (0, 0, bindTap x (field (dgBank d2 h).args[0] 0 6) start d2)) d1) d
/-- DG_BIND. -/
def execDgBind (h : Hart) (c : Ctx) (s : State) : Host.Outcome State Fault Refusal := s.run (dgBindEffect h c)

/-- DG_CLOSE (R286). -/
def dgCloseEffect (h : Hart) (c : Ctx) (d : Device) : Device :=
  digestCommand h 6 (onContext h c (fun x d1 =>
    if x.state ≠ .absorbing then dgRefuse 1 d1 else (0, 0, dgLift (closeStream x d1.dg) d1))) d
/-- DG_CLOSE. -/
def execDgClose (h : Hart) (c : Ctx) (s : State) : Host.Outcome State Fault Refusal := s.run (dgCloseEffect h c)

/-- DG_FREE (R269, R270): a context in Final is left only by its squeeze. -/
def dgFreeEffect (h : Hart) (c : Ctx) (d : Device) : Device :=
  digestCommand h 7 (onContext h c (fun x d1 =>
    if x.state = .final_ then dgRefuse 1 d1 else (0, 0, modDg (freeContext x.no) d1))) d
/-- DG_FREE. -/
def execDgFree (h : Hart) (c : Ctx) (s : State) : Host.Outcome State Fault Refusal := s.run (dgFreeEffect h c)

/-! ### Compare entries (R293) -/

/-- An entry is armed for a context, its expected value read from an address (R293). -/
def armFrom (h : Hart) (x : Context) (d : Device) : Nat × Nat × Device :=
  let a := (dgBank d h).args[0].toNat
  if x.outLen ≠ 64 ∨ x.outDest = 1 ∨ d.dg.cmps.any (fun e => e.ctx == x.no) = true then dgRefuse 5 d
  else
    let d1 := readErrors a 64 d
    match (if a % 8 = 0 then engineReadFor h d a 64 else none) with
    | none => dgRefuse 8 d1
    | some bs =>
      match freeCmp d1.dg with
      | none => dgRefuse 4 d1
      | some n => (0, n, dgLift (armEntry n x bs d1.dg) d1)

/-- DG_CMP_ARM (R293). -/
def dgCmpArmEffect (h : Hart) (c : Ctx) (d : Device) : Device := digestCommand h 8 (onContext h c (armFrom h)) d
/-- DG_CMP_ARM. -/
def execDgCmpArm (h : Hart) (c : Ctx) (s : State) : Host.Outcome State Fault Refusal := s.run (dgCmpArmEffect h c)

/-- DG_CMP_FREE (R293): by the entry's owner; `e` is what stands in DG_ARG0. -/
def dgCmpFreeEffect (h : Hart) (e : Nat) (d : Device) : Device :=
  digestCommand h 9 (fun d1 =>
    match d1.dg.cmps.find? (fun x => x.no == e % 256) with
    | none => dgRefuse 1 d1
    | some x =>
      if x.owner ≠ 0x10 + h.val then dgRefuse 2 d1
      else (0, 0, modDg (fun g => { g with cmps := g.cmps.filter (fun y => y.no != x.no) }) d1)) d
/-- DG_CMP_FREE. -/
def execDgCmpFree (h : Hart) (e : Nat) (s : State) : Host.Outcome State Fault Refusal := s.run (dgCmpFreeEffect h e)

/-- DG_UNDEFINED_COMMAND (DG_CMD). -/
def dgUndefinedCommandEffect (h : Hart) (code : Nat) (d : Device) : Device := digestCommand h (code % 16) (dgRefuse 5) d
/-- DG_UNDEFINED_COMMAND. -/
def execDgUndefinedCommand (h : Hart) (code : Nat) (s : State) : Host.Outcome State Fault Refusal :=
  s.run (dgUndefinedCommandEffect h code)

/-! ### Taps, lanes, squeeze, faults (R281–R299) -/

/-- TAP_BURST (R281): a kind 3 tap has no offsets, its burst comes next. -/
def tapBurstEffect (c : Ctx) (offset : Nat) (data : List Byte) (d : Device) : Device :=
  match (ctxOf d.dg c).bind (·.tap) with
  | none => d
  | some t => if mainRuns d then burstToTap c (if t.kind = 3 then t.next else offset) data d else d
/-- TAP_BURST. -/
def execTapBurst (c : Ctx) (offset : Nat) (data : List Byte) (s : State) : Host.Outcome State Fault Refusal :=
  s.run (tapBurstEffect c offset data)

/-- A context faults (R298): cause 1 lane, 2 context memory; the error is of class D, and sweep passes on it end. -/
def contextFault (cause : Nat) (l : Lane) (c : Nat) (d : Device) : Device :=
  let d1 := match ctxOf d.dg c with
    | some x => if x.state = .faulted then d else dgLift (faultCtx cause l x d.dg) d
    | none => d
  let w := if cause = 2 then 32 * c else 0
  sweepFaults (errorArrives { cls := 2, block := 4, inst := l, kind := if cause = 2 then 1 else 2, word := w } d1)

/-- A lane's context is written back flipped with EC_INJECT armed for context memory (R572): a corrected error, or a
faulted context. -/
def injectContext (l : Lane) (d : Device) : Device :=
  let j := d.ec.inject
  match d.dg.lanes[l].ctx with
  | none => d
  | some c =>
    if bit j 31 && field j 0 3 == 2 then
      let d1 := { d with ec := { d.ec with inject := j &&& 0x7FFFFFFF } }
      match field j 4 2 with
      | 0 => d1
      | 1 => errorArrives { cls := 1, block := 4, inst := l, kind := 1, word := 32 * c } d1
      | _ => contextFault 2 l c (modDg (fun g => { g with eccFaults := satAdd 8 g.eccFaults 1 }) d1)
    else d

/-- LANE_BLOCK_ABSORBED (R289). -/
def laneBlockAbsorbedEffect (l : Lane) (d : Device) : Device :=
  if mainRuns d && d.dg.lanes[l].ctx.isSome then injectContext l (modDg (fun g => laneBlock g l) d) else d
/-- LANE_BLOCK_ABSORBED. -/
def execLaneBlockAbsorbed (l : Lane) (s : State) : Host.Outcome State Fault Refusal := s.run (laneBlockAbsorbedEffect l)

/-- CONTEXT_SQUEEZE_DONE (R274, R292, R296). -/
def contextSqueezeDoneEffect (c : Ctx) (d : Device) : Device :=
  match ctxOf d.dg c with
  | none => d
  | some x => if mainRuns d && x.state == .final_ then dgLift (squeezeCtx x d.dg) d else d
/-- CONTEXT_SQUEEZE_DONE. -/
def execContextSqueezeDone (c : Ctx) (s : State) : Host.Outcome State Fault Refusal := s.run (contextSqueezeDoneEffect c)

/-- LANE_FAULT (R298): a dual-rail fault takes the lane out of service; with `ecc` the context's record was
uncorrectable. -/
def laneFaultEffect (l : Lane) (c : Ctx) (ecc : Bool) (d : Device) : Device :=
  if !mainRuns d then d
  else romFaulted <| if ecc then contextFault 2 l c (modDg (fun g => { g with eccFaults := satAdd 8 g.eccFaults 1 }) d)
  else
    contextFault 1 l c (modDg (fun g =>
      { g with laneFaults := satAdd 8 g.laneFaults 1, lanes := g.lanes.set l { g.lanes[l] with ctx := none, run := 0, offline := true } }) d)
/-- LANE_FAULT. -/
def execLaneFault (l : Lane) (c : Ctx) (ecc : Bool) (s : State) : Host.Outcome State Fault Refusal := s.run (laneFaultEffect l c ecc)

/-- LANE_SELF_TEST_DONE (R298): the lane returns to service only if the test passed. -/
def laneSelfTestDoneEffect (l : Lane) (passed : Bool) (d : Device) : Device :=
  if mainRuns d && d.dg.lanes[l].offline && passed then
    modDg (fun g => juggle { g with lanes := g.lanes.set l { g.lanes[l] with offline := false } }) d
  else d
/-- LANE_SELF_TEST_DONE. -/
def execLaneSelfTestDone (l : Lane) (passed : Bool) (s : State) : Host.Outcome State Fault Refusal :=
  s.run (laneSelfTestDoneEffect l passed)

/-- A digest engine restart begins with its F1 error (R299, R575). -/
def digestRestart (d : Device) : Device := sweepFaults (dgLift (restartEngine d.dg) d)

/-- The restart time that event 0x0F03 gives, where no operand carries it: a free value. -/
def freeRestart (e : ErrRec) (d : Device) : Device := restartDone e (Config.freeByte d.free).toNat (tookFree 1 d)

/-- DIGEST_ENGINE_RESTART_DONE (R299): the engine is back in service. -/
def digestEngineRestartDoneEffect (d : Device) : Device :=
  match handlingOf d 4 0 with
  | none => d
  | some e => freeRestart e d
/-- DIGEST_ENGINE_RESTART_DONE. -/
def execDigestEngineRestartDone (s : State) : Host.Outcome State Fault Refusal := s.run digestEngineRestartDoneEffect

end Sys2Proof.Machine
end

