-- ==== Sys2Proof/Machine/Power.lean ====
section
/-! DEFINITION. Power, pins, the clock tick, the watchdog, Deep Sleep (spec/02_signals_and_electrical.md, R57–R86;
spec/20_power_states_and_security_matrix.md, R551–R570). -/

namespace Sys2Proof.Machine

open Sys2Proof

/-- The power block changed. -/
def modPw (f : Power → Power) (d : Device) : Device := { d with power := f d.power }

/-- The pins changed. -/
def modPins (f : Pins → Pins) (d : Device) : Device := { d with pins := f d.pins }

/-! ### What a power-down cuts short -/

/-- A life-cycle wipe cut short by a loss of power in step 4 (R531): how many of its regions are zeroed is free. -/
def wipeCut (d : Device) : Device :=
  match d.lc.wipe with
  | none => d
  | some t =>
    if d.lc.burn.isSome then d
    else
      let rs := wipeRegions t
      tookFree 1 (zeroRegions (rs.take ((Config.freeByte d.free).toNat % (rs.length + 1))) d)

/-- The main core is not powered down: it runs, or sleeps with its rails up. -/
def railsUsed (d : Device) : Bool := mainUp d || asleep d

/-- A brown-out's cause (R560, PW_RESET_CAUSE): 7 during Deep Sleep or its entry, else 3. -/
def brownCause (d : Device) : Nat := if asleep d || d.power.state == .entering then 7 else 3

/-! ### Supplies (R57–R65) -/

/-- The counts resume from the BBRAM mirror (R414). -/
def resumeMirror (d : Device) : Device :=
  { d with clock := { powerCycles := d.bat.mirror / 2 ^ 44, opTime := d.bat.mirror % 2 ^ 44 } }

/-- STBY_RESET (R564): standby registers, guard counters and retention island at their reset values. -/
def stbyReset (d : Device) : Device :=
  let d1 := mainCleared false d
  { d1 with
    guard := {}, power := { state := .standby }, lastF2 := {}, cdStat := {}, sensorLive := 0, jtag := {}, mb := {}, mg := Vector.replicate 2 {}
    pins := { d1.pins with
      xtalOk := false, recoverFilt := false, recoverSettled := false, pressUnderStage := false, strapAtStart := false
      recoverAtStart := false } }

/-- VSTBY_POWER_ON (R60, R64, R65): the battery domain is reset where neither supply held it; STBY reset; the pattern
drivers are seeded from the entropy source (R339); life-cycle decode; MAIN is released where MAIN_PG is high already. -/
def vstbyPowerOnEffect (vbat strap : Bool) (d : Device) : Device :=
  if d.pins.vstby then d
  else
    let bat : Battery := if vbat && d.bat.vbd then d.bat else {}
    let d1 := tookFree 40 (stbyReset { d with bat := patternSeed (freeBytes d 40) { bat with vbd := true } })
    let d2 := lifeDecode (resumeMirror (modPins (fun p => { p with vstby := true, vbatOk := vbat, strapGolden := strap }) d1))
    if d2.pins.mainPg then powerGood d2 else d2
/-- VSTBY_POWER_ON. -/
def execVstbyPowerOn (vbat strap : Bool) (s : State) : Host.Outcome State Fault Refusal := s.run (vstbyPowerOnEffect vbat strap)

/-- XTAL_STABLE (R60 step 4, R61). -/
def xtalStableEffect (d : Device) : Device :=
  if !d.pins.vstby then d
  else
    let d1 := modPins (fun p => { p with xtalOk := true }) { d with bat := { d.bat with xtalSeen := true } }
    if d1.power.state == .starting then mainRelease d1 else d1
/-- XTAL_STABLE. -/
def execXtalStable (s : State) : Host.Outcome State Fault Refusal := s.run xtalStableEffect

/-- MAIN_PG_ASSERT (R60, R61, R553). -/
def mainPgAssertEffect (d : Device) : Device :=
  let d1 := modPins (fun p => { p with mainPg := true, mainRails := true }) d
  if d.power.state == .standby && !d.pins.mainPg then powerGood d1 else d1
/-- MAIN_PG_ASSERT. -/
def execMainPgAssert (s : State) : Host.Outcome State Fault Refusal := s.run mainPgAssertEffect

/-- MAIN_PG_DEASSERT (R62, R553, R560): gates held, MRAM writes in progress completed, Standby. -/
def mainPgDeassertEffect (d : Device) : Device :=
  let d1 := modPins (fun p => { p with mainPg := false }) d
  if railsUsed d then
    mainDown 2 .standby (wipeCut (if mainUp d then writesComplete (holdAllGates d1) else d1))
  else d1
/-- MAIN_PG_DEASSERT. -/
def execMainPgDeassert (s : State) : Host.Outcome State Fault Refusal := s.run mainPgDeassertEffect

/-- What a rail loss or brown-out does (R59, R63, R86): the last-gasp record, the writes in progress, the main core down. -/
def railsLost (mv ticks : Nat) (d : Device) : Device :=
  let low := min mv (d.junction.lowMv.getD mv)
  let cause := brownCause d
  let d1 := lastGasp 0x0243 5 [low, ticks, 0, 0, d.tx.epoch] d
  mainDown cause .standby (wipeCut (if mainUp d then writesMayComplete (holdAllGates d1) else d1))

/-- MAIN_RAIL_LOSS (R63, R553). -/
def mainRailLossEffect (mv ticks : Nat) (d : Device) : Device :=
  if railsUsed d then railsLost mv ticks (modPins (fun p => { p with mainRails := false }) d) else d
/-- MAIN_RAIL_LOSS. -/
def execMainRailLoss (mv ticks : Nat) (s : State) : Host.Outcome State Fault Refusal := s.run (mainRailLossEffect mv ticks)

/-- MAIN_RAILS_UP (R53, R60 step 5): the device starts again where MAIN_PG is high. After a rail loss under MAIN_PG the manual
does not say what restarts it: DESIGN CHOICE, the return of the rails does, at once (notes/assumptions/31.md). -/
def mainRailsUpEffect (d : Device) : Device :=
  let d1 := modPins (fun p => { p with mainRails := true }) d
  if d.power.state == .standby && d.pins.mainPg then powerGood d1 else d1
/-- MAIN_RAILS_UP. -/
def execMainRailsUp (s : State) : Host.Outcome State Fault Refusal := s.run mainRailsUpEffect

/-- VCORE_LOW_EXCURSION (R59): VcoreLow is set and the lowest VCORE is kept for event 0x0242. -/
def vcoreLowExcursionEffect (mv : Nat) (d : Device) : Device :=
  if mainUp d && within 680 719 mv then
    { d with junction := { d.junction with vcoreLow := true, lowMv := some (min mv (d.junction.lowMv.getD mv)) } }
  else d
/-- VCORE_LOW_EXCURSION. -/
def execVcoreLowExcursion (mv : Nat) (s : State) : Host.Outcome State Fault Refusal := s.run (vcoreLowExcursionEffect mv)

/-- VCORE_EXCURSION_END (R59, R86): event 0x0242, once per excursion. -/
def vcoreExcursionEndEffect (ticks : Nat) (d : Device) : Device :=
  match d.junction.lowMv with
  | none => d
  | some mv => event 0x0242 3 [mv, ticks, 0, 0] { d with junction := { d.junction with lowMv := none } }
/-- VCORE_EXCURSION_END. -/
def execVcoreExcursionEnd (ticks : Nat) (s : State) : Host.Outcome State Fault Refusal := s.run (vcoreExcursionEndEffect ticks)

/-- VCORE_BROWN_OUT (R59, R560): a MAIN reset; MAIN_PG stays asserted and the ROM starts at once. -/
def vcoreBrownOutEffect (mv ticks : Nat) (d : Device) : Device :=
  if railsUsed d && decide (mv < 680) then powerGood (railsLost mv ticks d) else d
/-- VCORE_BROWN_OUT. -/
def execVcoreBrownOut (mv ticks : Nat) (s : State) : Host.Outcome State Fault Refusal := s.run (vcoreBrownOutEffect mv ticks)

/-- Bits of a 64-bit value, lowest first. -/
def bitsOf (v : Nat) : List Nat := (List.range 64).filter (fun i => v.testBit i)

/-- A burn cut short by the loss of VSTBY (R525, R527): the bits burned are the first of its set bits, in ascending order;
how many is free. -/
def burnCut (d : Device) : Device :=
  match d.lc.burn with
  | none => d
  | some (w, v) =>
    let bs := bitsOf v
    let done := bs.take ((Config.freeByte d.free).toNat % (bs.length + 1))
    tookFree 1 (modLc (fun l => { l with burn := none }) (burnBits w (done.foldl (fun m i => setBit m i) 0) d))

/-- VSTBY_FALL (R64, R65): MAIN is down, a burn in progress is cut; without VBAT the battery domain is lost too. -/
def vstbyFallEffect (vbat : Bool) (d : Device) : Device :=
  if !d.pins.vstby then d
  else
    let d1 := if railsUsed d then wipeCut (if mainUp d then writesMayComplete (holdAllGates d) else d) else d
    let d2 := burnCut (modPins (fun p => { p with vstby := false }) d1)
    let d3 := mainDown 1 .standbyOff d2
    if vbat then d3 else { d3 with bat := {} }
/-- VSTBY_FALL. -/
def execVstbyFall (vbat : Bool) (s : State) : Host.Outcome State Fault Refusal := s.run (vstbyFallEffect vbat)

/-- VBAT_LEVEL_CHANGE (R65). -/
def vbatLevelChangeEffect (ok : Bool) (d : Device) : Device := modPins (fun p => { p with vbatOk := ok }) d
/-- VBAT_LEVEL_CHANGE. -/
def execVbatLevelChange (ok : Bool) (s : State) : Host.Outcome State Fault Refusal := s.run (vbatLevelChangeEffect ok)

/-- HOLDUP_OK_CHANGE (R66). -/
def holdupOkChangeEffect (ok : Bool) (d : Device) : Device := modPins (fun p => { p with holdupOk := ok }) d
/-- HOLDUP_OK_CHANGE. -/
def execHoldupOkChange (ok : Bool) (s : State) : Host.Outcome State Fault Refusal := s.run (holdupOkChangeEffect ok)

/-! ### Deep Sleep: wake (R557–R559) -/

/-- A wake source's bit in PW_WAKE_EN is set; Barker is always enabled, the timer needs a value (R557). -/
def wakeEnabled (d : Device) (src : Nat) : Bool :=
  src == 1 || (within 2 6 src && bit d.power.wakeEn (src - 1) && (src != 6 || d.power.wakeTimer != 0))

/-- DEEP_SLEEP_WAKE (R558): a MAIN release that keeps what R556 lists; reset kind 3, cause 9. -/
def wake (src ticks : Nat) (d : Device) : Device :=
  let d1 := mainCleared true d
  mainRelease (modPw (fun p => { p with
    lastWake := src, sleepLen := ticks, mainCause := 9, resetKind := 3, latched := none }) d1)

/-- A wake source acts: in Deep Sleep it wakes the device, during entry it is latched (R559), after the wake it is noted
for event 0x0202 (R558). -/
def wakeSource (src ticks : Nat) (d : Device) : Device :=
  if !wakeEnabled d src then d
  else match d.power.state with
    | .deepSleep => wake src ticks d
    | .entering =>
      if d.power.latched.isNone then modPw (fun p => { p with latched := some src }) d
      else modPw (fun p => { p with laterSources := setBit p.laterSources src }) d
    | .run | .starting =>
      if d.power.resetKind = 3 ∧ attached d = false then modPw (fun p => { p with laterSources := setBit p.laterSources src }) d
      else d
    | _ => d

/-- Length of the sleep so far, in ticks of 1/32,768 s. -/
def sleptTicks (d : Device) : Nat := 32 * (d.clock.opTime - d.power.sleepStart)

/-- WAKE_EVENT (R557–R559): the timer has a command of its own. -/
def wakeEventEffect (source ticks : Nat) (d : Device) : Device := if within 1 5 source then wakeSource source ticks d else d
/-- WAKE_EVENT. -/
def execWakeEvent (source ticks : Nat) (s : State) : Host.Outcome State Fault Refusal := s.run (wakeEventEffect source ticks)

/-- WAKE_TIMER_EXPIRY (R557): the timer runs from step 5 of R555. -/
def wakeTimerExpiryEffect (ticks : Nat) (d : Device) : Device := if asleep d then wakeSource 6 ticks d else d
/-- WAKE_TIMER_EXPIRY. -/
def execWakeTimerExpiry (ticks : Nat) (s : State) : Host.Outcome State Fault Refusal := s.run (wakeTimerExpiryEffect ticks)

/-- A post by an I3C port would be taken, to a channel with Barker set whose receiver is a hart (R557 source 1). -/
def postWakes (d : Device) (m : Mport) (old : Bool) (c : Nat) : Bool :=
  !(old && endsMoved d c) && postCheck (postLeaf d old) d (portAid m) c == .posted &&
    (channelOf (postLeaf d old) c).any (fun r => r.barker && aidIsHart r.receiver)

/-- CCC_POST (R495, R557): a post with the vendor CCC, and the wake of its barker. -/
def execCccPost (m : Mport) (v : Word) (old : Bool) (s : State) : Host.Outcome State Fault Refusal :=
  s.run (fun d =>
    let d1 := cccPostEffect m v old d
    if cccAlive d m && (i3cAt d m).select.any (postWakes d m old) then wakeSource 1 (sleptTicks d) d1 else d1)

/-- I2C_CHANNEL_POST (R495, R557): a post in I2C mode, and the wake of its barker. -/
def execI2cChannelPost (m : Mport) (c : Nat) (v : Word) (old : Bool) (s : State) : Host.Outcome State Fault Refusal :=
  s.run (fun d =>
    let d1 := i2cChannelPostEffect m c v old d
    if islandUp d && i3cMode d m == 2 && postWakes d m old c then wakeSource 1 (sleptTicks d) d1 else d1)

/-- CARD_PRESENT (R500, R557 source 5). -/
def execCardPresent (slot : Slot) (card : Card) (s : State) : Host.Outcome State Fault Refusal :=
  s.run (fun d =>
    if !d.pins.vstby then { d with pins := { d.pins with cardDet := d.pins.cardDet.set slot true, cards := d.pins.cards.set slot (some card) } }
    else
      let d1 := cardInserted slot card d
      if !hasBit d.cdStat.present slot then wakeSource 5 (sleptTicks d) d1 else d1)

/-! ### Inputs (R61, R67–R69, R85, R133) -/

/-- RECOVER_FILTER_ASSERT (R68, R69, R557 source 3). -/
def recoverFilterAssertEffect (d : Device) : Device :=
  if !d.pins.vstby || d.pins.recoverFilt then d
  else wakeSource 3 (sleptTicks d) (modPins (fun p => { p with recoverFilt := true, pressUnderStage := mainRuns d && attached d }) d)
/-- RECOVER_FILTER_ASSERT. -/
def execRecoverFilterAssert (s : State) : Host.Outcome State Fault Refusal := s.run recoverFilterAssertEffect

/-- RECOVER_FILTER_DEASSERT (R69): event 0x0120 of a press that began under stage firmware. -/
def recoverFilterDeassertEffect (ticks : Nat) (d : Device) : Device :=
  if !d.pins.recoverFilt then d
  else
    let d1 := modPins (fun p => { p with recoverFilt := false, pressUnderStage := false }) d
    if d.pins.pressUnderStage then event 0x0120 2 [ticks, 0, 0, 0] d1 else d1
/-- RECOVER_FILTER_DEASSERT. -/
def execRecoverFilterDeassert (ticks : Nat) (s : State) : Host.Outcome State Fault Refusal := s.run (recoverFilterDeassertEffect ticks)

/-- RECOVER_SETTLED (R61, R68): a ROM that waits goes on. -/
def recoverSettledEffect (d : Device) : Device :=
  if d.pins.vstby then romGo (modPins (fun p => { p with recoverSettled := true }) d) else d
/-- RECOVER_SETTLED. -/
def execRecoverSettled (s : State) : Host.Outcome State Fault Refusal := s.run recoverSettledEffect

/-- A reading of the hottest sensor (R85). -/
def junctionReading (temp : Nat) (d : Device) : Device :=
  { d with junction := { d.junction with tempNow := min temp 255, tempPeak := max d.junction.tempPeak (min temp 255) } }

/-- The hottest sensor is at 100 °C or above (R85): Warn, and event 0x0240 once per excursion. -/
def junctionHot (temp : Nat) (d : Device) : Device :=
  let d1 := junctionReading temp d
  let d2 := { d1 with junction := { d1.junction with hot := true, warn := true } }
  if d.junction.hot then d2 else event 0x0240 3 [temp, 0, 0, 0] d2

/-- JUNCTION_WARNING (R85). -/
def junctionWarningEffect (temp : Nat) (d : Device) : Device := if mainUp d && decide (100 ≤ temp) then junctionHot temp d else d
/-- JUNCTION_WARNING. -/
def execJunctionWarning (temp : Nat) (s : State) : Host.Outcome State Fault Refusal := s.run (junctionWarningEffect temp)

/-- JUNCTION_TRIP (R85, R574): last-gasp record 0x0241 and the F2 safe state, kind 4 thermal. -/
def junctionTripEffect (temp : Nat) (d : Device) : Device :=
  if !mainUp d || decide (temp < 112) then d
  else
    let d1 := junctionHot temp d
    let d2 := lastGasp 0x0241 5 [temp, 0, 0, 0, d1.tx.epoch] d1
    if d.power.state == .safe then hardwareSafe d2 else enterSafe 0 4 false d2
/-- JUNCTION_TRIP. -/
def execJunctionTrip (temp : Nat) (s : State) : Host.Outcome State Fault Refusal := s.run (junctionTripEffect temp)

/-- JUNCTION_EXCURSION_END (R85): below 100 °C the warning excursion is over. -/
def junctionExcursionEndEffect (temp : Nat) (d : Device) : Device :=
  let d1 := if mainUp d then junctionReading temp d else d
  if temp < 100 then { d1 with junction := { d1.junction with hot := false } } else d1
/-- JUNCTION_EXCURSION_END. -/
def execJunctionExcursionEnd (temp : Nat) (s : State) : Host.Outcome State Fault Refusal := s.run (junctionExcursionEndEffect temp)

/-- A GPIO's function under the committed epoch (R133). -/
def gpioFunction (d : Device) (g : Nat) : Nat :=
  ((((curLeaf d).pins.find? (fun p => p.kind == 1 && p.index == g)).map (·.function)).getD 0)

/-- The event of a GPIO's level change (R133): the manual gives it no code, severity or parameters; they are free. -/
def gpioEvent (d : Device) : Device :=
  let b := freeBytes d 35
  tookFree 35 (arriveEvent false (leNat (b.take 2)) 0xFF (leNat ((b.drop 2).take 1) % 7)
    [leNat ((b.drop 3).take 8), leNat ((b.drop 11).take 8), leNat ((b.drop 19).take 8), leNat ((b.drop 27).take 8), d.tx.epoch] d)

/-- GPIO_INPUT_CHANGE (R133, R557 source 2). -/
def gpioInputChangeEffect (g : Gpio) (level : Bool) (d : Device) : Device :=
  if d.pins.gpioIn[g] == level then d
  else
    let d1 := modPins (fun p => { p with gpioIn := p.gpioIn.set g level }) d
    if !islandUp d || gpioFunction d g != 1 then d1
    else
      let d2 := if mainUp d then gpioEvent d1 else d1
      if bit d.power.wakeGpio g then wakeSource 2 (sleptTicks d) d2 else d2
/-- GPIO_INPUT_CHANGE. -/
def execGpioInputChange (g : Gpio) (level : Bool) (s : State) : Host.Outcome State Fault Refusal := s.run (gpioInputChangeEffect g level)

/-- CX_PERST_DEASSERT (R431, R432, R557 source 4). -/
def cxPerstDeassertEffect (d : Device) : Device :=
  if !d.pins.cxPerst then d
  else
    let d1 := modPins (fun p => { p with cxPerst := false }) d
    let d2 := if mainRuns d && !d.cx.restarting then modCx (fun c => { c with training := true }) d1 else d1
    wakeSource 4 (sleptTicks d) d2
/-- CX_PERST_DEASSERT. -/
def execCxPerstDeassert (s : State) : Host.Outcome State Fault Refusal := s.run cxPerstDeassertEffect

/-! ### The tick of 1/1,024 s (R41, R224, R414, R420, R567) -/

/-- The window and the span in progress grow by 32 ticks of 1/32,768 s. -/
def guardTick (d : Device) : Device :=
  { d with guard := { d.guard with
      win := if d.guard.winOpen then d.guard.win + 32 else d.guard.win
      span := d.guard.span.map (fun s => { s with ticks := s.ticks + 32 }) } }

/-- What a tick does while the main core is up: turnstile credit (R224), event buckets (R420), the watchdog counter, which
stands still while a hart is halted by debug (R567). -/
def mainTick (d : Device) : Device :=
  let d1 := (List.range 64).foldl (fun acc f => modTs f refillCredit acc) d
  { d1 with
    ev := refillBuckets (evEnv d1) d1.ev
    power := if d1.power.wdogRunning && d1.db.halted == 0 then { d1.power with wdogCount := d1.power.wdogCount + 1 } else d1.power }

/-- Steps 3–5 of R373, once step 2 has waited for what it waits for: the image in the buffer is written to the Active slot with
event 0x0104 and read back; on an equal digest its sender hears of it and CoreReset is written, else it hears of a failed
write (R444; notes/assumptions/112.md). -/
def updateTurn (d : Device) : Device :=
  match d.start.update with
  | none => d
  | some u =>
    if !attached d || hartStalled d 0 || !updateQuiet d then d
    else
      let n := memLe d.mem (fwBufferBase + 8) 4
      let d1 := mramUsed { d with start := { d.start with update := none }, measures := { d.measures with slotClean := false } }
      let d2 := hartEvent 0 0x0104 2 [0, n, memLe d.mem (fwBufferBase + 0x10) 1, 0x10]
        { d1 with mem := memCopy d.mem fwBufferBase fwActiveBase n }
      if slotHolds d2 0 fwBufferBase n then coreReset 1 (senderHears u.via 2 1 0 u.len d2) else senderHears u.via 2 7 0 u.len d2

/-- Stage firmware and the ROM take their turns at a tick (notes/assumptions/127.md): hart 2 with attempts and bundles, hart 0
with an update that waits, hart 3 with the card port. -/
def firmwareTurn (d : Device) : Device := if mainRuns d then cardTurn (updateTurn (stewardTurn d)) else d

/-- Operating time, its mirror and the window in progress advance (R41, R414); the tamper patterns go on (R339). -/
def timeTick (d : Device) : Device :=
  let t := (d.clock.opTime + 1) % 2 ^ 44
  guardTick { d with clock := { d.clock with opTime := t }, bat := patternTick { d.bat with mirror := d.clock.powerCycles * 2 ^ 44 + t } }

/-- OPERATING_TIME_TICK (R414): only while MAIN_PG is asserted; with the main core up its blocks and its firmware go on. -/
def operatingTimeTickEffect (d : Device) : Device :=
  if !d.pins.vstby || !d.pins.mainPg then d
  else if mainUp (timeTick d) then firmwareTurn (mainTick (timeTick d)) else timeTick d
/-- OPERATING_TIME_TICK. -/
def execOperatingTimeTick (s : State) : Host.Outcome State Fault Refusal := s.run operatingTimeTickEffect

/-! ### Core reset, watchdog, MAIN reset (R564–R567) -/

/-- CORE_RESET (R564): hart 0 sets SYS_BOOT_CTRL.CoreReset. -/
def coreResetEffect (h : Hart) (d : Device) : Device := onlyHart 0 h 0 bootCtrlAddr (coreReset 1) d
/-- CORE_RESET. -/
def execCoreReset (h : Hart) (s : State) : Host.Outcome State Fault Refusal := s.run (coreResetEffect h)

/-- The watchdog counter has reached its timeout, to the tick (R567). -/
def wdogExpired (d : Device) : Bool :=
  d.power.wdogRunning && d.db.halted == 0 && decide (1024 * wdogMs d ≤ 1000 * (d.power.wdogCount + 1))

/-- WATCHDOG_EXPIRY (R567). -/
def watchdogExpiryEffect (d : Device) : Device := if mainRuns d && wdogExpired d then coreReset 2 d else d
/-- WATCHDOG_EXPIRY. -/
def execWatchdogExpiry (s : State) : Host.Outcome State Fault Refusal := s.run watchdogExpiryEffect

/-- WATCHDOG_KICK (R567): 0x5A restarts the counter. -/
def watchdogKickEffect (h : Hart) (v : Word) (d : Device) : Device :=
  onlyHart 0 h 1 0x60010024 (fun d1 => if field v 0 8 = 0x5A then modPw (fun p => { p with wdogCount := 0 }) d1 else d1) d
/-- WATCHDOG_KICK. -/
def execWatchdogKick (h : Hart) (v : Word) (s : State) : Host.Outcome State Fault Refusal := s.run (watchdogKickEffect h v)

/-! ### Deep Sleep: entry (R554, R555) -/

/-- A flash command is queued, held or in progress, or a device is busy (R554 outcome 7). -/
def flashInUse (d : Device) : Bool :=
  d.gf.ts.toList.any (fun t => !t.waiting.isEmpty || !t.back.isEmpty || !t.held.isEmpty || t.current.isSome) ||
    d.gf.devs.toList.any (fun f => f.busy.isSome || f.stuck)

/-- Why an entry is refused (R554); 0 accepted. -/
def sleepRefusal (d : Device) : Nat :=
  if !d.tx.fabricLive || d.start.phase == .recovery then 1
  else if d.is_.bds.toList.any (fun b => b.state == .waiting || b.state == .loading || b.state == .running || b.state == .verified) then 2
  else if d.tx.state != .idle || d.tx.siCopyBusy then 3
  else if lcBusy d then 4
  else if d.kv.slots.any (·.pending) || d.kv.stagedRoot then 5
  else if d.cd.busy then 6
  else if flashInUse d then 7
  else 0

/-- Domains that exist. -/
def liveDomains (d : Device) : Nat := bitmap 16 (fun bd => (domain d bd).state != .none)

/-- An accepted entry, steps 1 and 2 (R547, R555): event 0x0201, the guarding window closed, domains Held, debug closed. -/
def sleepBegins (d : Device) : Device :=
  let d1 := event 0x0201 1 [d.power.wakeEn.toNat, d.is_.gates, liveDomains d, d.power.wakeTimer.toNat] (closeWindow d)
  let d2 := (List.range 16).foldl (fun acc bd => if (domain acc bd).state == .none then acc else returnToReset bd acc) d1
  let d3 := ptSettle (ptAllowed d) { d2 with db := { d2.db with level := 0, halted := 0, stepping := 0, haltOnReset := false } }
  modPw (fun p => { p with refused := 0, state := .entering, latched := none, laterSources := 0, wdogRunning := false }) d3

/-- A write of PW_SLEEP_CTRL (R554, R566): nothing without its Key; MainReset before Enter. -/
def sleepCtrl (v : Word) (d : Device) : Device :=
  if field v 8 8 ≠ 0xD5 then d
  else if bit v 1 then mainReset 8 d
  else if bit v 0 then
    let o := sleepRefusal d
    if o = 0 then sleepBegins d else hartEvent 0 0x0203 2 [o, 0, 0, 0] (modPw (fun p => { p with refused := o }) d)
  else d

/-- DEEP_SLEEP_ENTER (R554). -/
def deepSleepEnterEffect (h : Hart) (v : Word) (d : Device) : Device := onlyHart 0 h 1 0x60010010 (sleepCtrl v) d
/-- DEEP_SLEEP_ENTER. -/
def execDeepSleepEnter (h : Hart) (v : Word) (s : State) : Host.Outcome State Fault Refusal := s.run (deepSleepEnterEffect h v)

/-- MAIN_RESET_REQUEST (R566). -/
def mainResetRequestEffect (h : Hart) (v : Word) (d : Device) : Device := onlyHart 0 h 1 0x60010010 (sleepCtrl v) d
/-- MAIN_RESET_REQUEST. -/
def execMainResetRequest (h : Hart) (v : Word) (s : State) : Host.Outcome State Fault Refusal := s.run (mainResetRequestEffect h v)

/-- A conventional reset whose cause the manual gives no code of event 0x0C02: the code is a free byte. -/
def conventionalResetFree (d : Device) : Device := tookFree 1 (conventionalReset (Config.freeByte d.free).toNat false d)

/-- Step 3 of R555: buses in the state of R53, ports idle, the CXL port reset, transfer sessions ended. -/
def sleepFabric (d : Device) : Device :=
  let d1 := (List.range 64).foldl (fun acc f => holdReset f acc) (holdAllGates d)
  let d2 := { d1 with gf := { d1.gf with ports := Vector.replicate 8 {} } }
  endTransfer 1 5 0 (endTransfer 0 5 0 (conventionalResetFree d2))

/-- Step 4 of R555: jobs ended as at a core reset, every slot zeroed, MRAM writes and a clear completed, the pending queue in
the log. -/
def sleepRecords (d : Device) : Device :=
  let d1 := sheetLands (coreResetEngines d)
  let d2 := { d1 with kv := { d1.kv with slots := [] } }
  let c := finishClear (evEnv d2) d2.mem d2.ev
  logWritten (writeAll (evEnv d2) 80 c.1 c.2) d2

/-- DEEP_SLEEP_ENTRY_COMPLETE (R555, R559, R365): steps 3–5; a latched source wakes the device at once. -/
def deepSleepEntryCompleteEffect (d : Device) : Device :=
  if d.power.state != .entering then d
  else
    let d1 := sleepRecords (sleepFabric d)
    let d2 := modPw (fun p => { p with state := .deepSleep, sleepCount := satAdd 16 p.sleepCount 1, sleepStart := d.clock.opTime })
      { d1 with bat := { d1.bat with untouched := if d1.measures.slotClean then 0x4843554E else 0 }, start := {} }
    match d.power.latched with
    | some src => wake src 0 d2
    | none => d2
/-- DEEP_SLEEP_ENTRY_COMPLETE. -/
def execDeepSleepEntryComplete (s : State) : Host.Outcome State Fault Refusal := s.run deepSleepEntryCompleteEffect

end Sys2Proof.Machine
end

