-- ==== Sys2Proof/Machine/SignatureCmds.lean ====
section
/-! DEFINITION. The commands of the signature engine (spec/10_signature_engine.md, R303–R321). -/

namespace Sys2Proof.Machine

open Sys2Proof

/-- The signature engine changed. -/
def modSg (f : SigEngine → SigEngine) (d : Device) : Device := { d with sg := f d.sg }

/-- A step of the engine that gives events. -/
def sgLift (r : SigEngine × List (Nat × Nat × List Nat)) (d : Device) : Device := events r.2 { d with sg := r.1 }

/-! ### Submission (R308, R311, R312) -/

/-- A job from the 64 bytes of its descriptor (R308). -/
def parseJob (h : Hart) (b : List Byte) : SgJob where
  hart := some h.val
  op := bufLe b 0 1
  source := bufLe b 1 1
  key := bufLe b 2 1
  det := bufLe b 3 1 % 2 == 1
  tag := bufLe b 4 2
  ctxLen := bufLe b 6 1
  msgAddr := bufLe b 8 4
  msgLen := bufLe b 12 4
  ctxAddr := bufLe b 16 4
  keyAddr := bufLe b 20 4
  sigAddr := bufLe b 24 4
  pkDigAddr := bufLe b 28 4
  badReserved := !(decide (bufLe b 3 1 ≤ 1) && bufZero b 7 1 && bufZero b 32 32)
  changed := false

/-- The descriptor at an address; one outside shared working SRAM is read as none (code 8). -/
def readJob (h : Hart) (a : Nat) (d : Device) : SgJob :=
  if inSram a 64 && !rangeBroken d a 64 then parseJob h (memRead d.mem a 64) else { parseJob h [] with badReserved := true }

/-- A job taken in: with the sign/keygen unit out of service its jobs end with code 12 at once (R318). -/
def acceptJob (j : SgJob) (d : Device) : Device :=
  if (j.op == 2 || j.op == 3) && d.sg.units[2].offline && !d.sg.units[2].testing then modSg (putResult j 12) d
  else modSg (queueJob j) d

/-- A Sign job of hart 3 for a sheet (R401, R587): hart 3 keeps which sheet it is for, and how often that sheet failed. -/
def noteSigning (h : Hart) (j : SgJob) (d : Device) : Device :=
  if h.val = 3 ∧ j.op = 2 ∧ j.source = 4 ∧ j.key = 0x10 ∧ memRead d.mem j.ctxAddr j.ctxLen = ascii "BX6440 SHEET" ∧
      memLe d.mem j.msgAddr 4 = 0x48535842 then
    let x : SheetSigning :=
      { tag := j.tag, no := memLe d.mem (j.msgAddr + 4) 4, bd := memLe d.mem (j.msgAddr + 0x0A) 1
        ci := memLe d.mem (j.msgAddr + 0x20) 1, tries := 0 }
    let tries := match d.lg.signing with
      | some y => if y.no = x.no ∧ y.bd = x.bd then y.tries else 0
      | none => 0
    { d with lg := { d.lg with signing := some { x with tries := tries } } }
  else d

/-- SG_SUBMIT (R311): a store access fault beyond 4 jobs in flight. -/
def sgSubmitEffect (h : Hart) (v : Word) (d : Device) : Device :=
  hartWrite h 5 0x60050000 (fun d1 =>
    if 4 ≤ jobsInFlight d1.sg h then accessFault h 0x60050000 d1
    else
      let a := v.toNat - v.toNat % 64
      acceptJob (readJob h a d1) (noteSigning h (readJob h a d1) (readErrors a 64 d1))) d
/-- SG_SUBMIT. -/
def execSgSubmit (h : Hart) (v : Word) (s : State) : Host.Outcome State Fault Refusal := s.run (sgSubmitEffect h v)

/-! ### Completion (R309, R310, R315, R316) -/

/-- An input of a hart's job (R310), checked against the hart's PMP regions; no access is made for no bytes. -/
def jobInput (d : Device) (h a n : Nat) : Option (List Byte) := if n = 0 then some [] else engineReadFor h d a n

/-- Whether a job of a hart writes its output there (R310): shared working SRAM, as the hart's PMP regions allow. -/
def jobWrites (d : Device) (h a n : Nat) : Bool := inSram a n && pmpAllows d h true a n

/-- The hart whose rights a job has. The booth's inputs stand in the booth and are no memory access of a job. -/
def jobHart (j : SgJob) : Nat := j.hart.getD 0

/-- The descriptor is bad (code 8). -/
def badJob (j : SgJob) : Bool :=
  !within 1 3 j.op || decide (4 < j.source) || (j.op == 1) == (j.source == 4) || j.badReserved || decide (65536 < j.msgLen)

/-- The key check of R309 on a public key: 0, 3 or 4. `digest` is the value at PkDigestAddr. -/
def keyCheck (d : Device) (j : SgJob) (pk digest : List Byte) : Nat :=
  match j.source with
  | 0 => 0
  | 1 =>
    if 8 ≤ j.key ∨ keyFused d 1 j.key = false ∨ shake256 pk 64 ≠ fusedHash d 1 j.key then 3 else if keyRevoked d 1 j.key then 4 else 0
  | 2 =>
    if 4 ≤ j.key ∨ keyFused d 2 j.key = false ∨ shake256 pk 64 ≠ fusedHash d 2 j.key then 3 else if keyRevoked d 2 j.key then 4 else 0
  | _ => if shake256 pk 64 = digest then 0 else 3

/-- Code of a Verify job (R316). -/
def verifyJob (d : Device) (j : SgJob) : Nat :=
  let h := jobHart j
  let dig := if j.source = 3 then jobInput d h j.pkDigAddr 64 else some []
  match jobInput d h j.msgAddr j.msgLen, jobInput d h j.ctxAddr j.ctxLen, jobInput d h j.keyAddr 1952, jobInput d h j.sigAddr 3309, dig with
  | some msg, some ctx, some pk, some sig, some dg =>
    let k := keyCheck d j pk dg
    if k ≠ 0 then k else verifyCode pk ctx msg sig
  | _, _, _, _, _ => 6

/-- The seed of a job's vault slot, where its rights admit the Op for the hart (R304, R309, R330). -/
def jobSeed (d : Device) (j : SgJob) : Option (List Byte) :=
  match slotOf d.kv j.key with
  | some s => if s.valid && s.owner == jobAid j && hasBit s.rights j.op then some (s.value.take 32) else none
  | none => none

/-- Sign on its inputs (R305, R306, R310, R315): the code, and the signature to write. The signature is verified under the
public key of the same seed before it is released; `faulty` says that a fault in the signing datapath spoilt it. -/
def signJob (d : Device) (j : SgJob) (faulty : Bool) : Nat × List Byte :=
  let h := jobHart j
  match jobSeed d j with
  | none => (5, [])
  | some seed =>
    match jobInput d h j.msgAddr j.msgLen, jobInput d h j.ctxAddr j.ctxLen with
    | some msg, some ctx =>
      if !jobWrites d h j.sigAddr 3309 then (7, [])
      else match mldsaSign seed ctx msg (if j.det then zeros 32 else freeBytes d 32) with
        | none => (9, [])
        | some sig => if faulty || verifyCode (mldsaPublic seed) ctx msg sig != 0 then (12, []) else (0, sig)
    | _, _ => (6, [])

/-- Keygen on its inputs: the code, and the public key to write. -/
def keygenJob (d : Device) (j : SgJob) : Nat × List Byte :=
  match jobSeed d j with
  | none => (5, [])
  | some seed => if !jobWrites d (jobHart j) j.keyAddr 1952 then (7, []) else (0, mldsaPublic seed)

/-- What a job comes to (R316): code and output. `fault` 12 says that a fault met the job's datapath: a Sign's signature
fails its self-check (R306), the comparators of a Verify disagree (R317). A Sign job ends with code 12 while the entropy
source fails its tests (R324). -/
def jobOutcome (d : Device) (j : SgJob) (fault : Nat) : Nat × List Byte :=
  if badJob j then (8, [])
  else if j.op = 1 then if fault = 12 then (12, []) else (verifyJob d j, [])
  else if j.op = 2 then if d.kv.entropyOk then signJob d j (fault == 12) else (12, [])
  else keygenJob d j

/-- The output of a job in memory. The hedging randomness of a Sign is used up, however the job ends (R305). -/
def writeOutput (j : SgJob) (out : List Byte) (d : Device) : Device :=
  let d1 := tookFree (if j.op = 2 ∧ j.det = false then 32 else 0) d
  if out.isEmpty then d1 else store (if j.op = 2 then j.sigAddr else j.keyAddr) out d1

/-- The errors in words that a job's inputs hold surface (R572). -/
def jobErrors (j : SgJob) (d : Device) : Device :=
  let d1 := readErrors j.ctxAddr j.ctxLen (readErrors j.msgAddr j.msgLen d)
  if j.op = 1 then readErrors j.sigAddr 3309 (readErrors j.keyAddr 1952 d1) else d1

/-- A hart's job on a unit ends (R313, R316, R321). -/
def endJob (u : Unit3) (j : SgJob) (fault : Nat) (d : Device) : Device :=
  let r := jobOutcome d j fault
  let selfCheck := r.1 == 12 && j.op == 2 && d.kv.entropyOk
  let d1 := writeOutput j r.2 (jobErrors j d)
  let d2 := modSg (fun g =>
    startJobs (putResult j r.1 { g with
      units := g.units.set u { g.units[u] with job := none }
      selfCheckFails := if selfCheck then satAdd 8 g.selfCheckFails 1 else g.selfCheckFails })) d1
  events (jobEvents j (if selfCheck then 3 else u.val) r.1) d2

/-- SG_JOB_COMPLETE (R313, R316): a job of the booth ends with TICKET_VERIFY_DONE, and a full result queue holds the
unit. -/
def sgJobCompleteEffect (u : Unit3) (fault : Nat) (d : Device) : Device :=
  match d.sg.units[u].job with
  | none => d
  | some j =>
    match j.hart with
    | none => d
    | some h => if mainRuns d && decide ((vget d.sg.results h).length < 4) then endJob u j fault d else d
/-- SG_JOB_COMPLETE. -/
def execSgJobComplete (u : Unit3) (fault : Nat) (s : State) : Host.Outcome State Fault Refusal := s.run (sgJobCompleteEffect u fault)

/-- The word SG_RESULT shows for a result. -/
def resultWord (r : SgResult) : Word := pack [(0, 16, r.tag), (16, 4, r.op), (20, 8, r.code), (31, 1, 1)]

/-- Hart 3 takes the result of a sheet's Sign job (R587): a failure that may pass is tried three times in all; without a
signature it records event 0x0A16 with outcome 11. The resubmission is an SG_SUBMIT of its own
(notes/assumptions/114.md). -/
def sheetSigned (r : SgResult) (d : Device) : Device :=
  match d.lg.signing with
  | none => d
  | some x =>
    let keep := fun (v : Option SheetSigning) (e : Device) => { e with lg := { e.lg with signing := v } }
    if r.op != 2 || r.tag != x.tag then d
    else
      let dead := r.code == 5 || (r.code == 12 && d.sg.units[2].offline)
      let again := r.code == 9 || r.code == 12
      if dead || (again && decide (2 ≤ x.tries)) then keep none (hartEvent 3 0x0A16 4 [x.no, x.bd, 11, x.ci] d)
      else keep (if again then some { x with tries := x.tries + 1 } else none) d

/-- SG_RESULT_POP (R313, R317). -/
def sgResultPopEffect (h : Hart) (d : Device) : Device :=
  if !mainRuns d || hartStalled d h then d
  else match d.sg.results[h] with
    | [] => replyWord 0 d
    | r :: tl =>
      let d1 := modSg (fun g =>
        { popResult h tl g with verdict := if r.op = 1 then g.verdict.set h (verdictPair r.code) else g.verdict }) d
      replyWord (resultWord r) (if h.val = 3 then sheetSigned r d1 else d1)
/-- SG_RESULT_POP. -/
def execSgResultPop (h : Hart) (s : State) : Host.Outcome State Fault Refusal := s.run (sgResultPopEffect h)

/-! ### Faults and restart (R318) -/

/-- SG_UNIT_FAULT (R318): class D (R574). -/
def sgUnitFaultEffect (u : Unit3) (d : Device) : Device :=
  if mainRuns d then errorArrives { cls := 2, block := 5, inst := u, kind := 2, word := 0 } (romFaulted (sgLift (unitFault u d.sg) d)) else d
/-- SG_UNIT_FAULT. -/
def execSgUnitFault (u : Unit3) (s : State) : Host.Outcome State Fault Refusal := s.run (sgUnitFaultEffect u)

/-- SG_UNIT_SELF_TEST_DONE (R318). -/
def sgUnitSelfTestDoneEffect (u : Unit3) (passed : Bool) (d : Device) : Device :=
  if mainRuns d && d.sg.units[u].testing then modSg (unitTested u passed) d else d
/-- SG_UNIT_SELF_TEST_DONE. -/
def execSgUnitSelfTestDone (u : Unit3) (passed : Bool) (s : State) : Host.Outcome State Fault Refusal :=
  s.run (sgUnitSelfTestDoneEffect u passed)

/-- A signature engine restart begins with its F1 error (R318, R575). -/
def signatureRestart (d : Device) : Device := sgLift (restartSig d.sg) d

/-- SG_ENGINE_RESTART_DONE (R318): queued jobs run. -/
def sgEngineRestartDoneEffect (d : Device) : Device :=
  match handlingOf d 5 0 with
  | none => d
  | some e => freeRestart e (modSg (fun g => startJobs { g with restarting := false }) d)
/-- SG_ENGINE_RESTART_DONE. -/
def execSgEngineRestartDone (s : State) : Host.Outcome State Fault Refusal := s.run sgEngineRestartDoneEffect

end Sys2Proof.Machine
end

