-- ==== Sys2Proof/Machine/ErrorCmds.lean ====
section
/-! DEFINITION. The error controller's commands: detected errors with their containment, the safe state's reset, restarts,
reports, error injection (spec/21_errors_ecc_and_perturbation.md, R571–R580). -/

namespace Sys2Proof.Machine

open Sys2Proof

/-! ### Classes C and D (R574, R575) -/

/-- Corrected Internal Error of the allocated LDs (R454): bit 14 of the AER correctable status, ERR_COR sent. -/
def correctedInternal (d : Device) : Device :=
  (List.range 16).foldl (fun acc n => modLd n (fun l =>
    if l.allocated then { l with aer := { l.aer with corr := setBit l.aer.corr 14, sentCor := l.aer.sentCor + 1 } } else l) acc) d

/-- CORRECTED_ERROR (R575): corrected data is delivered; the error is counted. In a buffer of the CXL port it is a Corrected
Internal Error too (R454). -/
def correctedErrorEffect (block word : Nat) (d : Device) : Device :=
  if mainUp d then
    errorArrives { cls := 1, block := block, inst := 0, kind := 1, word := word } (if block = 12 then correctedInternal d else d)
  else d
/-- CORRECTED_ERROR. -/
def execCorrectedError (block word : Nat) (s : State) : Host.Outcome State Fault Refusal := s.run (correctedErrorEffect block word)

/-- The compare unit's comparators disagree on an entry (R294, R574): its result is Fault, with event 0x0502. -/
def compareFault (no : Nat) (d : Device) : Device :=
  match d.dg.cmps.find? (fun e => e.no == no && e.result == .pending) with
  | none => d
  | some e =>
    event 0x0502 5 [e.ctx, e.no, e.owner, 0] { d with dg := { d.dg with
      cmps := d.dg.cmps.map (fun x => if x.no == no then { x with result := .fault } else x), cmpFaults := satAdd 8 d.dg.cmpFaults 1 } }

/-- A fault in the digest engine's data path (R298, R294): kind 1 an uncorrectable context record, which the word index
names; kind 2 a dual-rail fault in a lane; else the compare unit's entry. -/
def digestContained (inst kind word : Nat) (d : Device) : Device :=
  match kind with
  | 1 => match ctxOf d.dg (word / 32) with
    | some c => sweepFaults (dgLift (faultCtx 2 inst c { d.dg with eccFaults := satAdd 8 d.dg.eccFaults 1 }) d)
    | none => d
  | 2 =>
    let c := (vget d.dg.lanes inst).ctx
    let d1 := { d with dg := { d.dg with
      laneFaults := satAdd 8 d.dg.laneFaults 1, lanes := vmod d.dg.lanes inst (fun l => { l with ctx := none, run := 0, offline := true }) } }
    match c.bind (ctxOf d1.dg) with
    | some x => sweepFaults (dgLift (faultCtx 1 inst x d1.dg) d1)
    | none => d1
  | _ => compareFault inst d

/-- Containment at detection of a class D error (R574), by block of R92; 0x13 are the warden cores, whose hart takes an
access fault at an uncorrectable word. -/
def deferredContained (block inst kind word : Nat) (d : Device) : Device :=
  match block with
  | 4 => digestContained inst kind word d
  | 5 => if h : inst < 3 then sgLift (unitFault ⟨inst, h⟩ d.sg) d else d
  | 7 => poisonWord word d
  | 9 => degradeLog (8 * word) d
  | 10 => degradeReam (8 * word) d
  | 0x13 => if h : inst < 4 then accessFault ⟨inst, h⟩ (sramBase + 8 * word) d else d
  | _ => d

/-- DEFERRED_ERROR (R574, R575). -/
def deferredErrorEffect (block inst kind word : Nat) (d : Device) : Device :=
  if !mainUp d then d
  else if d.power.state == .safe then hardwareSafe d
  else errorArrives { cls := 2, block := block, inst := inst, kind := kind, word := word } (deferredContained block inst kind word d)
/-- DEFERRED_ERROR. -/
def execDeferredError (block inst kind word : Nat) (s : State) : Host.Outcome State Fault Refusal :=
  s.run (deferredErrorEffect block inst kind word)

/-! ### Class F1 (R43, R44, R574–R576) -/

/-- An unguarded interval begins where the bus is guarded (R40, R46). -/
def busIdled (m cause : Nat) (d : Device) : Device := if hasBit (guardedBuses d) m then intervalBegin (2 ^ m) cause m d else d

/-- A couch unit fault before C5 (R157): the mould, open or committing, is aborted with reason 7. -/
def couchContained (d : Device) : Device :=
  if mouldOpen d.tx || d.tx.state == .committing then siLoadEnd (abortMould 7 d) else d

/-- Uncorrectable Internal Error of an allocated LD (R454): status bit 22, ERR_FATAL sent. -/
def fatalInternal (l : LogicalDev) : LogicalDev :=
  if l.allocated then { l with aerStatus := setBit l.aerStatus 22, aer := { l.aer with sentFatal := l.aer.sentFatal + 1 } } else l

/-- The CX block restarts (R454): Uncorrectable Internal Error to every allocated LD, which stands for a bound one, and a
conventional reset, after which its status bit shows (notes/assumptions/124.md). -/
def cxContained (d : Device) : Device :=
  let d1 := (List.range 16).foldl (fun acc n =>
    if (ldOf acc n).allocated then
      event 0x0C05 3 [n, 22, ((ldOf acc n).aerHeader.getD 0 0).toNat, ((ldOf acc n).aerHeader.getD 2 0).toNat] acc
    else acc) d
  modCx (fun c => { c with restarting := true, uncorrectable := satAdd 16 c.uncorrectable 1, lds := c.lds.map fatalInternal }) (conventionalResetFree d1)

/-- An F1 error in a turnstile (R44, R574): its bus is held idle, so the commands on the bus end with FlashResult 8, as at a
restart of the bus controller: DESIGN CHOICE, the manual names no result (notes/assumptions/99.md). -/
def turnstileContained (f : Nat) (d : Device) : Device :=
  (List.range 4).foldl (fun acc k => failCurrent (4 * (f / 4) + k) 0 8 acc) (modTs f (fun t => { t with restarting := true }) d)

/-- Containment of an F1 error (R574): a turnstile, a bus controller (instance 64 and up), the digest or signature engine,
the couch unit, the CX block. -/
def f1Contained (block inst : Nat) (d : Device) : Device :=
  match block with
  | 4 => digestRestart d
  | 5 => signatureRestart d
  | 6 => if inst < 64 then turnstileContained inst (busIdled (inst / 4) 1 d)
    else busRestartBegin (inst - 64) (busIdled (inst - 64) 2 d)
  | 8 => couchContained d
  | _ => cxContained d

/-- The blocks that have F1 errors (R574). -/
def f1Source (block inst : Nat) : Bool := [4, 5, 8, 12].contains block || (block == 6 && decide (inst < 80))

/-- F1_ERROR (R574–R576). -/
def f1ErrorEffect (block inst kind : Nat) (d : Device) : Device :=
  if !mainUp d || !f1Source block inst then d
  else if d.power.state == .safe then hardwareSafe d
  else
    let i := if block = 6 then inst else 0
    errorArrives { cls := 3, block := block, inst := i, kind := kind, word := 0 } (f1Contained block i d)
/-- F1_ERROR. -/
def execF1Error (block inst kind : Nat) (s : State) : Host.Outcome State Fault Refusal := s.run (f1ErrorEffect block inst kind)

/-- TURNSTILE_RESTART_DONE (R229, R46): `ticks` is the length of the unguarded span. -/
def turnstileRestartDoneEffect (f : Dev) (ticks : Nat) (d : Device) : Device :=
  match handlingOf d 6 f with
  | none => d
  | some e =>
    freeRestart e (intervalEnd 1 (f / 4) ticks (finishTs f (restartTurnstile (restartEnv d f) (tsAt d f)) d))
/-- TURNSTILE_RESTART_DONE. -/
def execTurnstileRestartDone (f : Dev) (ticks : Nat) (s : State) : Host.Outcome State Fault Refusal :=
  s.run (turnstileRestartDoneEffect f ticks)

/-- BUS_CONTROLLER_RESTART_DONE (R202, R46). -/
def busControllerRestartDoneEffect (m : Bus) (ticks : Nat) (d : Device) : Device :=
  match handlingOf d 6 (64 + m) with
  | none => d
  | some e => freeRestart e (intervalEnd 2 m ticks (modBus m (fun b => { b with restarting := false }) d))
/-- BUS_CONTROLLER_RESTART_DONE. -/
def execBusControllerRestartDone (m : Bus) (ticks : Nat) (s : State) : Host.Outcome State Fault Refusal :=
  s.run (busControllerRestartDoneEffect m ticks)

/-- BLOCK_RESTART_DONE (R575): the couch unit (8) or the CX block (12), which may train again (R431). -/
def blockRestartDoneEffect (block us : Nat) (d : Device) : Device :=
  if block = 8 ∨ block = 12 then
    match handlingOf d block 0 with
    | none => d
    | some e =>
      restartDone e us (if block = 12 then modCx (fun c => { c with restarting := false, training := !d.pins.cxPerst }) d else d)
  else d
/-- BLOCK_RESTART_DONE. -/
def execBlockRestartDone (block us : Nat) (s : State) : Host.Outcome State Fault Refusal := s.run (blockRestartDoneEffect block us)

/-! ### Class F2 (R577, R578) -/

/-- A fault of the couch unit is of class F2 from C5 on (R157, R574): the commit word is in the journal, and the restart
restores the new epoch. -/
def commitWordLands (block : Nat) (d : Device) : Device :=
  if block = 8 ∧ d.tx.state = .committing ∧ (d.tx.fabricLive = false ∨ oldTagOps d = 0) then
    let d0 := if d.tx.fabricLive then d else ensureBank d
    writeRecord (committedNow d0) d0
  else d

/-- F2_ERROR (R157, R576, R577). -/
def f2ErrorEffect (block _inst kind : Nat) (d : Device) : Device :=
  if !mainUp d then d
  else if d.power.state == .safe then hardwareSafe d
  else enterSafe block kind false (commitWordLands block d)
/-- F2_ERROR. -/
def execF2Error (block inst kind : Nat) (s : State) : Host.Outcome State Fault Refusal := s.run (f2ErrorEffect block inst kind)

/-- SAFE_STATE_RESET (R577 steps 2–5): the log and the ring written, or, where R578 has done its part, the record in progress
completed; then a MAIN reset with cause 4. -/
def safeStateResetEffect (d : Device) : Device :=
  if d.power.state != .safe then d
  else mainReset 4 (clearCut (sheetLands (if d.lastF2.hardware then recordLands d else safeRecords d)))
/-- SAFE_STATE_RESET. -/
def execSafeStateReset (s : State) : Host.Outcome State Fault Refusal := s.run safeStateResetEffect

/-! ### Reports and injection (R579, EC_INJECT) -/

/-- EC_REPORT0 of a report. -/
def reportWord (e : ErrRec) : Word := pack [(0, 3, e.cls), (8, 8, e.block), (16, 8, shownInst e), (24, 4, e.kind), (31, 1, 1)]

/-- EC_REPORT_POP (R579): a read of EC_REPORT0; zero with no report waiting. -/
def ecReportPopEffect (h : Hart) (d : Device) : Device :=
  if !mainRuns d || hartStalled d h then d
  else match d.ec.reports with
    | [] => replyWord 0 d
    | e :: tl =>
      replyWord (reportWord e) { d with ec := { d.ec with
        reports := tl, report1 := if e.kind = 1 then BitVec.ofNat 32 e.word else 0 } }
/-- EC_REPORT_POP. -/
def execEcReportPop (h : Hart) (s : State) : Host.Outcome State Fault Refusal := s.run (ecReportPopEffect h)

/-- EC_INJECT_ARM (EC_INJECT): ignored unless PT_CTRL.Allowed is 1. -/
def ecInjectArmEffect (h : Hart) (v : Word) (d : Device) : Device :=
  onlyHart 0 h 15 0x600F0020 (fun d1 =>
    if ptAllowed d1 then { d1 with ec := { d1.ec with inject := v &&& 0x80000037 } } else d1) d
/-- EC_INJECT_ARM. -/
def execEcInjectArm (h : Hart) (v : Word) (s : State) : Host.Outcome State Fault Refusal := s.run (ecInjectArmEffect h v)

end Sys2Proof.Machine
end

