-- ==== Sys2Proof/Machine/FlashCmds.lean ====
section
/-! DEFINITION. The commands of turnstiles, flash buses and devices (spec/06_boot_ports_and_flash_buses.md, R191–R204;
spec/07_turnstiles.md, R205–R231). -/

namespace Sys2Proof.Machine

open Sys2Proof

/-- TURNSTILE_DECIDE (R210, R214). -/
def turnstileDecideEffect (f : Dev) (d : Device) : Device := if mainRuns d then turnstileDecide f d else d
/-- TURNSTILE_DECIDE. -/
def execTurnstileDecide (f : Dev) (s : State) : Host.Outcome State Fault Refusal := s.run (turnstileDecideEffect f)

/-- The hold limit in ticks of 1/32,768 s, where 0 acts as 1 ms (GF_TS_CFG, R218). -/
def holdLimit (d : Device) : Nat := ceilDiv (32768 * max 1 (field d.gf.tsCfg 0 8)) 1000

/-- The limit of a held command has passed, as far as the clock of 1/1,024 s tells (R218; notes/assumptions/72.md). -/
def holdExpired (d : Device) (h : HeldCmd) : Bool := decide (holdLimit d < 32 * (d.clock.opTime - h.since + 1))

/-- HOLD_LIMIT_EXPIRY (R218): the `i`-th held command has waited `ticks` of 1/32,768 s: the limit, or one tick more. -/
def holdLimitExpiryEffect (f : Dev) (i ticks : Nat) (d : Device) : Device :=
  if !mainRuns d then d
  else match (tsAt d f).held[i]? with
    | none => d
    | some h =>
      if holdExpired d h then
        finishTs f (expireHold (tsEnv d f h.cmd) (tsAt d f) i (min (max ticks (holdLimit d)) (holdLimit d + 1))) d
      else d
/-- HOLD_LIMIT_EXPIRY. -/
def execHoldLimitExpiry (f : Dev) (i ticks : Nat) (s : State) : Host.Outcome State Fault Refusal :=
  s.run (holdLimitExpiryEffect f i ticks)

/-- FLASH_COMMAND_DONE (R256): the data phase of the command on the bus ends with a FlashResult and read data. -/
def flashCommandDoneEffect (f : Dev) (result : Nat) (data : List Byte) (d : Device) : Device :=
  if mainRuns d then flashDone f result data d else d
/-- FLASH_COMMAND_DONE. -/
def execFlashCommandDone (f : Dev) (result : Nat) (data : List Byte) (s : State) : Host.Outcome State Fault Refusal :=
  s.run (flashCommandDoneEffect f result data)

/-- FLASH_STATUS_POLL (R194, R195): a device left busy after a timeout reports ready; any other poll changes nothing. -/
def flashStatusPollEffect (f : Dev) (ready : Bool) (d : Device) : Device :=
  if mainRuns d && ready && (devAt d f).stuck && !(busAt d (f / 4)).quarantined && !busIdle d (f / 4) then modDev f (fun v => { v with stuck := false }) d else d
/-- FLASH_STATUS_POLL. -/
def execFlashStatusPoll (f : Dev) (ready : Bool) (s : State) : Host.Outcome State Fault Refusal :=
  s.run (flashStatusPollEffect f ready)

/-- FLASH_BUSY_END (R194, R258); `failed` is what flag status says. -/
def flashBusyEndEffect (f : Dev) (failed : Bool) (d : Device) : Device := if mainRuns d then busyEnd f failed d else d
/-- FLASH_BUSY_END. -/
def execFlashBusyEnd (f : Dev) (failed : Bool) (s : State) : Host.Outcome State Fault Refusal :=
  s.run (flashBusyEndEffect f failed)

/-- FLASH_POLL_TIMEOUT (R195): the command fails, Timeout is set, event 0x0721; with ResetOnTimeout the device is pulsed,
else it is left busy; one that a couch has taken out of use is held in reset (R54). -/
def flashPollTimeoutEffect (f : Dev) (d : Device) : Device :=
  if !mainRuns d then d
  else match (devAt d f).busy with
    | some b =>
      let rst := b.rst && mayRun d f
      let d1 := modBus (f / 4) (fun x => { x with timeout := true, timeoutCount := satAdd 16 x.timeoutCount 1 })
        (modDev f (fun v => { v with busy := none }) d)
      let d2 := eventsRaw [(0x0721, 3, [f, b.cmd.op, b.cmd.addr, b.limit, flag rst])] d1
      let d3 := if rst then startPulse f (modHealth f (fun h => { h with timeoutResets := satAdd 8 h.timeoutResets 1 }) d2)
        else modDev f (fun v => { v with stuck := true }) d2
      settleReset f (deliver f ⟨b.cmd, 0, 3, []⟩ d3)
    | none => d
/-- FLASH_POLL_TIMEOUT. -/
def execFlashPollTimeout (f : Dev) (s : State) : Host.Outcome State Fault Refusal := s.run (flashPollTimeoutEffect f)

/-- DEVICE_RESET_PULSE_END (R195). -/
def deviceResetPulseEndEffect (f : Dev) (d : Device) : Device :=
  if mainRuns d && (devAt d f).pulsing then endPulse f d else d
/-- DEVICE_RESET_PULSE_END. -/
def execDeviceResetPulseEnd (f : Dev) (s : State) : Host.Outcome State Fault Refusal := s.run (deviceResetPulseEndEffect f)

/-- DISCOVERY_RESET_RECOVERY_END (R191, R192). -/
def discoveryResetRecoveryEndEffect (f : Dev) (a : Discovery) (d : Device) : Device :=
  if mainRuns d then endDiscovery f a d else d
/-- DISCOVERY_RESET_RECOVERY_END. -/
def execDiscoveryResetRecoveryEnd (f : Dev) (a : Discovery) (s : State) : Host.Outcome State Fault Refusal :=
  s.run (discoveryResetRecoveryEndEffect f a)

/-- DQS_TIMEOUT (R198): in mode 4 the read is retried once; the second miss fails it with FlashResult 5 and event
0x0724. -/
def dqsTimeoutEffect (f : Dev) (d : Device) : Device :=
  if !mainRuns d then d
  else match (tsAt d f).current with
    | none => d
    | some c =>
      if cmdKind d f c != .read || ((busOf (cmdLeaf d c) (f / 4)).map (·.mode)) != some 4 then d
      else if !(devAt d f).dqsRetried then modDev f (fun v => { v with dqsRetried := true }) d
      else
        let d1 := modBus (f / 4) (fun x => { x with dqsTimeout := true, dqsCount := satAdd 8 x.dqsCount 1 }) d
        flashDone f 5 [] (eventsRaw [(0x0724, 3, [f, c.addr, c.aid, 0, 0])] d1)
/-- DQS_TIMEOUT. -/
def execDqsTimeout (f : Dev) (s : State) : Host.Outcome State Fault Refusal := s.run (dqsTimeoutEffect f)

/-- BUS_CONTENTION_DETECTED (R199). -/
def busContentionDetectedEffect (m : Bus) (lines : Nat) (d : Device) : Device :=
  if mainRuns d && (busOf (curLeaf d) m).isSome && d.tx.fabricLive then contention m lines d else d
/-- BUS_CONTENTION_DETECTED. -/
def execBusContentionDetected (m : Bus) (lines : Nat) (s : State) : Host.Outcome State Fault Refusal :=
  s.run (busContentionDetectedEffect m lines)

/-- REQUALIFY (R201): a write of GF_FBm_CTRL.Requalify, ignored unless the bus is quarantined. -/
def requalifyEffect (h : Hart) (m : Bus) (d : Device) : Device :=
  hartWrite h 6 (0x60060404 + 0x40 * m.val) (fun d1 =>
    if (busAt d1 m).quarantined then modBus m (fun b => { b with requalifying := true }) d1 else d1) d
/-- REQUALIFY. -/
def execRequalify (h : Hart) (m : Bus) (s : State) : Host.Outcome State Fault Refusal := s.run (requalifyEffect h m)

/-- REQUALIFY_SAMPLE_END (R201): a clean bus returns to service after discovery; otherwise it stays quarantined. -/
def requalifySampleEndEffect (m : Bus) (clean : Bool) (lines : Nat) (d : Device) : Device :=
  if !mainRuns d || !(busAt d m).requalifying then d
  else
    let d1 := modBus m (fun b => { b with requalifying := false }) d
    if clean then requalReport m (modBus m (fun b => { b with requalPending := true }) (discoverBus m (modBus m (fun b => { b with quarantined := false }) d1)))
    else contention m lines d1
/-- REQUALIFY_SAMPLE_END. -/
def execRequalifySampleEnd (m : Bus) (clean : Bool) (lines : Nat) (s : State) : Host.Outcome State Fault Refusal :=
  s.run (requalifySampleEndEffect m clean lines)

/-- DEV_RESET (GF_FBm_CTRL.DevReset): RSTk# pulses; a command in progress on the device fails. Ignored for unassigned,
Fenced or retired devices and on a quarantined bus (R54, R200). -/
def devResetEffect (h : Hart) (m : Bus) (mask : Nat) (d : Device) : Device :=
  hartWrite h 6 (0x60060404 + 0x40 * m.val) (fun d1 =>
    if (busAt d1 m).quarantined then d1
    else (List.range 4).foldl (fun acc k =>
      let f := 4 * m.val + k
      if hasBit mask k && rstAllowed (curLeaf acc) acc.tx.retired f && !hwRetired acc f then
        modDev f (fun v => { v with byDevReset := true }) (startPulse f (failInProgress f 0 6 acc)) else acc) d1) d
/-- DEV_RESET. -/
def execDevReset (h : Hart) (m : Bus) (mask : Nat) (s : State) : Host.Outcome State Fault Refusal :=
  s.run (devResetEffect h m mask)

end Sys2Proof.Machine
end

