-- ==== Sys2Proof/Machine/KeyCmds.lean ====
section
/-! DEFINITION. The commands of the key vault, tamper alarms, entropy health (spec/11_keys_and_tamper.md, R322–R346). -/

namespace Sys2Proof.Machine

open Sys2Proof

/-- The vault changed. -/
def modKv (f : KeyVault → KeyVault) (d : Device) : Device := { d with kv := f d.kv }

/-- KV_RESULT of a hart: last command, outcome (0 Accepted, 1 WrongState, 2 NotOwner, 3 Refused, 4 NoRoot,
5 EntropyFail, 6 Busy, 7 BadArgument); an accepted command runs until KV_COMMAND_DONE. -/
def kvResult (h : Hart) (cmd outcome : Nat) (busy : Bool) (d : Device) : Device :=
  modKv (fun k => { k with banks := k.banks.set h { k.banks[h] with lastCmd := cmd, outcome := outcome, busy := busy } }) d

/-- A write of KV_CMD (R331): refused with Busy while a command runs; commands 8–13 are hart 0's. `outcome` decides, `f`
is the effect of an accepted command. -/
def vaultCommand (h : Hart) (cmd : Nat) (outcome : Device → Nat) (f : Device → Device) (d : Device) : Device :=
  hartWrite h 3 0x60030000 (fun d1 =>
    if d1.kv.banks[h].busy then kvResult h cmd 6 true d1
    else
      let o := if 8 ≤ cmd ∧ cmd ≤ 13 ∧ h ≠ 0 then 3 else outcome d1
      if o = 0 then kvResult h cmd 0 true (f d1) else kvResult h cmd o false d1) d

/-- KV_ARG of a hart. -/
def kvArg (d : Device) (h : Hart) : Word := d.kv.banks[h].arg

/-- A condition on a slot (R331): BadArgument for slot 0, WrongState for an Empty slot, NotOwner for another hart's; `f`
goes on. -/
def onSlot (h : Hart) (k : KvSlot) (f : VaultSlot → Nat) (d : Device) : Nat :=
  if k = 0 then 7
  else match slotOf d.kv k with
    | none => 1
    | some s => if s.owner ≠ 0x10 + h.val then 2 else f s

/-- The slot changed by a command. -/
def modSlotKv (k : KvSlot) (f : VaultSlot → VaultSlot) (d : Device) : Device :=
  match slotOf d.kv k with
  | some s => modKv (fun v => setSlot v (f s)) d
  | none => d

/-- Written falls: the staged generation no longer stands (R334). -/
def unwritten (d : Device) : Device := modKv (fun k => { k with written := false }) d

/-! ### Commands 1–7 (R329–R331) -/

/-- Outcome of a derivation command on its root (R342, R545): Refused while VaultLocked, NoRoot without a root. -/
def rootOutcome (d : Device) : Nat := if d.db.vaultLocked then 3 else if rootValid d.kv d.bat then 0 else 4

/-- KV_RESERVE (R342: without a root the refusal comes first). -/
def kvReserveEffect (h : Hart) (k : KvSlot) (d : Device) : Device :=
  vaultCommand h 1
    (fun d1 => if rootOutcome d1 ≠ 0 then rootOutcome d1 else if k = 0 then 7 else if (slotOf d1.kv k).isSome then 1 else 0)
    (fun d1 =>
      let s : VaultSlot := { no := k, valid := false, owner := 0x10 + h.val, rights := field (kvArg d1 h) 0 4 }
      modKv (fun v => setSlot v s) d1) d
/-- KV_RESERVE. -/
def execKvReserve (h : Hart) (k : KvSlot) (s : State) : Host.Outcome State Fault Refusal := s.run (kvReserveEffect h k)

/-- KV_CLEAR. -/
def kvClearEffect (h : Hart) (k : KvSlot) (d : Device) : Device :=
  vaultCommand h 2 (onSlot h k (fun s => if s.persistent || s.pending then 1 else 0))
    (fun d1 => unwritten (modKv (fun v => dropSlot v k) d1)) d
/-- KV_CLEAR. -/
def execKvClear (h : Hart) (k : KvSlot) (s : State) : Host.Outcome State Fault Refusal := s.run (kvClearEffect h k)

/-- KV_RANDOM (R324): 64 bytes of the entropy source. -/
def kvRandomEffect (h : Hart) (k : KvSlot) (d : Device) : Device :=
  vaultCommand h 3 (fun d1 => onSlot h k (fun s => if s.valid then 1 else if d1.kv.entropyOk then 0 else 5) d1)
    (fun d1 => tookFree 64 (modSlotKv k (fun s => { s with valid := true, value := freeBytes d1 64 }) d1)) d
/-- KV_RANDOM. -/
def execKvRandom (h : Hart) (k : KvSlot) (s : State) : Host.Outcome State Fault Refusal := s.run (kvRandomEffect h k)

/-- Label and rights of a RootDerive label (R325). -/
def rootLabel (n : Nat) : Option (String × Nat) :=
  match n with
  | 1 => some ("fast-path", 1)
  | 2 => some ("identity", 12)
  | 3 => some ("ledger", 12)
  | 4 => some ("seal", 3)
  | _ => none

/-- KV_ROOT_DERIVE (R325, R326): the label fixes the rights. Without a root the refusal comes first (R342). -/
def kvRootDeriveEffect (h : Hart) (k : KvSlot) (d : Device) : Device :=
  vaultCommand h 4
    (fun d1 => if rootOutcome d1 ≠ 0 then rootOutcome d1 else onSlot h k (fun s =>
      if s.valid then 1
      else if (rootLabel (field (kvArg d1 h) 0 4)).isNone then 7
      else if d1.kv.rootLock then 3 else 0) d1)
    (fun d1 =>
      match rootLabel (field (kvArg d1 h) 0 4) with
      | none => d1
      | some (label, rights) =>
        let p := if label = "seal" then field (kvArg d1 h) 16 16 else 0
        modSlotKv k (fun s => { s with valid := true, rights := rights, value := derive (activeRoot d1.kv d1.bat) label p }) d1) d
/-- KV_ROOT_DERIVE. -/
def execKvRootDerive (h : Hart) (k : KvSlot) (s : State) : Host.Outcome State Fault Refusal := s.run (kvRootDeriveEffect h k)

/-- KV_LADDER_DERIVE (R327): class 0x0001 only while RootLock is clear. -/
def kvLadderDeriveEffect (h : Hart) (k : KvSlot) (d : Device) : Device :=
  vaultCommand h 5
    (fun d1 => if rootOutcome d1 ≠ 0 then rootOutcome d1 else onSlot h k (fun s =>
      if s.valid then 1
      else if field (kvArg d1 h) 0 16 = 1 ∧ d1.kv.rootLock = true then 3 else 0) d1)
    (fun d1 =>
      let c := field (kvArg d1 h) 0 16
      let v := field (kvArg d1 h) 16 8
      modSlotKv k (fun s =>
        { s with valid := true, rights := 3, ladder := true, cls := c, version := v, value := ladderRung (activeRoot d1.kv d1.bat) c v }) d1) d
/-- KV_LADDER_DERIVE. -/
def execKvLadderDerive (h : Hart) (k : KvSlot) (s : State) : Host.Outcome State Fault Refusal := s.run (kvLadderDeriveEffect h k)

/-- KV_TRANSFER: the new owner is a hart. -/
def kvTransferEffect (h : Hart) (k : KvSlot) (d : Device) : Device :=
  vaultCommand h 6
    (fun d1 => onSlot h k (fun s => if !s.valid then 1 else if within 0x10 0x13 (field (kvArg d1 h) 0 8) then 0 else 7) d1)
    (fun d1 => unwritten (modSlotKv k (fun s => { s with owner := field (kvArg d1 h) 0 8 }) d1)) d
/-- KV_TRANSFER. -/
def execKvTransfer (h : Hart) (k : KvSlot) (s : State) : Host.Outcome State Fault Refusal := s.run (kvTransferEffect h k)

/-- KV_RESTRICT. -/
def kvRestrictEffect (h : Hart) (k : KvSlot) (d : Device) : Device :=
  vaultCommand h 7 (onSlot h k (fun s => if !s.valid || s.persistent then 1 else 0))
    (fun d1 => modSlotKv k (fun s => { s with rights := s.rights &&& field (kvArg d1 h) 0 4 }) d1) d
/-- KV_RESTRICT. -/
def execKvRestrict (h : Hart) (k : KvSlot) (s : State) : Host.Outcome State Fault Refusal := s.run (kvRestrictEffect h k)

/-! ### Commands 8–13 (R331, R334, R343) -/

/-- A condition on a slot for hart 0's staging commands. -/
def anySlot (k : KvSlot) (f : VaultSlot → Bool) (d : Device) : Nat :=
  if k = 0 then 7 else if (slotOf d.kv k).any f then 0 else 1

/-- KV_STAGE_INSTALL. -/
def kvStageInstallEffect (h : Hart) (k : KvSlot) (d : Device) : Device :=
  vaultCommand h 8 (anySlot k (fun s => s.valid && !s.persistent))
    (fun d1 => unwritten (modSlotKv k (fun s => { s with pending := true }) d1)) d
/-- KV_STAGE_INSTALL. -/
def execKvStageInstall (h : Hart) (k : KvSlot) (s : State) : Host.Outcome State Fault Refusal := s.run (kvStageInstallEffect h k)

/-- KV_STAGE_RETIRE. -/
def kvStageRetireEffect (h : Hart) (k : KvSlot) (d : Device) : Device :=
  vaultCommand h 9 (anySlot k (·.persistent))
    (fun d1 => unwritten (modSlotKv k (fun s => { s with pending := true }) d1)) d
/-- KV_STAGE_RETIRE. -/
def execKvStageRetire (h : Hart) (k : KvSlot) (s : State) : Host.Outcome State Fault Refusal := s.run (kvStageRetireEffect h k)

/-- A root in the buffer that is not active, without its CommitWord (R322, R331). -/
def stageRoot (d : Device) : Device :=
  let g := d.kv.jrnlGen + 1
  let secret := freeBytes d 64
  let b : RootBuf := { generation := g, secret := secret, check := rootCheck g secret, commit := 0 }
  eventsRaw [(0x0404, 2, [g, 0, 0, 0, 0])] (unwritten (tookFree 64 { d with
    bat := { d.bat with roots := vmod d.bat.roots (stagedRootBuf d.kv) (fun _ => b) }
    kv := { d.kv with stagedRoot := true } }))

/-- KV_STAGE_ROOT (R324, R343): accepted in Tamper-Response too. -/
def kvStageRootEffect (h : Hart) (d : Device) : Device :=
  vaultCommand h 10 (fun d1 => if d1.kv.stagedRoot then 1 else if d1.kv.entropyOk then 0 else 5) stageRoot d
/-- KV_STAGE_ROOT. -/
def execKvStageRoot (h : Hart) (s : State) : Host.Outcome State Fault Refusal := s.run (kvStageRootEffect h)

/-- The staged generation written into the buffer that does not hold the committed one (R334); its RootGeneration is its
own with a staged root. -/
def stageWrite (d : Device) : Device :=
  let kv := d.kv
  let g := kv.jrnlGen + 1
  let img := journalImage (stagedWk kv d.bat) g (if kv.stagedRoot then g else kv.rootGen) kv.stagedRoot
    (stagedSlots kv (tamperResponse d))
  modKv (fun k => { k with written := true }) (mramStore (keyBuf (stagedBuf kv)) img d)

/-- KV_STAGE_WRITE. -/
def kvStageWriteEffect (h : Hart) (d : Device) : Device :=
  vaultCommand h 11 (fun d1 => if d1.kv.stagedRoot || d1.kv.slots.any (·.pending) then 0 else 1) stageWrite d
/-- KV_STAGE_WRITE. -/
def execKvStageWrite (h : Hart) (s : State) : Host.Outcome State Fault Refusal := s.run (kvStageWriteEffect h)

/-- Pending marks and the staged root discarded; the staged buffer's header zeroed. -/
def stageDrop (d : Device) : Device :=
  let kv := d.kv
  mramStore (keyBuf (stagedBuf kv)) (zeros 64) (unwritten { d with
    bat := if kv.stagedRoot then { d.bat with roots := vmod d.bat.roots (stagedRootBuf kv) (fun _ => {}) } else d.bat
    kv := { kv with slots := kv.slots.map (fun s => { s with pending := false }), stagedRoot := false } })

/-- KV_STAGE_DROP. -/
def kvStageDropEffect (h : Hart) (d : Device) : Device := vaultCommand h 12 (fun _ => 0) stageDrop d
/-- KV_STAGE_DROP. -/
def execKvStageDrop (h : Hart) (s : State) : Host.Outcome State Fault Refusal := s.run (kvStageDropEffect h)

/-- KV_COMMIT_INITIAL: generation 1; its root becomes active at the next main power-up. -/
def kvCommitInitialEffect (h : Hart) (d : Device) : Device :=
  vaultCommand h 13
    (fun d1 => if d1.lc.state ≠ lcManufactured then 3 else if d1.kv.jrnlGen = 0 ∧ d1.kv.written = true ∧ d1.kv.stagedRoot = true then 0 else 1)
    commitKeys d
/-- KV_COMMIT_INITIAL. -/
def execKvCommitInitial (h : Hart) (s : State) : Host.Outcome State Fault Refusal := s.run (kvCommitInitialEffect h)

/-- KV_UNDEFINED_COMMAND. -/
def kvUndefinedCommandEffect (h : Hart) (code : Nat) (d : Device) : Device := vaultCommand h (code % 16) (fun _ => 7) id d
/-- KV_UNDEFINED_COMMAND. -/
def execKvUndefinedCommand (h : Hart) (code : Nat) (s : State) : Host.Outcome State Fault Refusal :=
  s.run (kvUndefinedCommandEffect h code)

/-- KV_COMMAND_DONE (R331): Busy clears. -/
def kvCommandDoneEffect (h : Hart) (d : Device) : Device :=
  if mainRuns d then modKv (fun k => { k with banks := k.banks.set h { k.banks[h] with busy := false } }) d else d
/-- KV_COMMAND_DONE. -/
def execKvCommandDone (h : Hart) (s : State) : Host.Outcome State Fault Refusal := s.run (kvCommandDoneEffect h)

/-! ### Tamper (R339–R342) and entropy health (R324) -/

/-- The power state code of event 0x0401 (R552). -/
def powerCode (d : Device) : Nat :=
  match d.power.state with
  | .standbyOff => 3
  | .standby => 2
  | .deepSleep => 1
  | _ => 0

/-- Sensor `n` is enabled (R340). -/
def sensorEnabled (d : Device) (n : Nat) : Bool := !(otpWord d 65).testBit n

/-- The bit that pattern driver `n` sends now. -/
def driverBit (d : Device) (n : Nat) : Bool := (vget d.bat.seeds n).getLsbD 31

/-- Sensor `n` runs (R339): sensor 13 with main power up, sensor 12 once XtalOk has been set, all with the battery domain. -/
def sensorRuns (d : Device) (n : Nat) : Bool := d.bat.vbd && (n != 13 || mainUp d) && (n != 12 || d.bat.xtalSeen)

/-- The mould is aborted with reason 7 where its couch has key actions and is before C5 (R341). -/
def tamperCouch (d : Device) : Device :=
  if hasKeyActs d.tx && (mouldOpen d.tx || d.tx.state == .committing) then abortMould 7 d else d

/-- An alarm of an enabled sensor (R341): BBRAM cleared, vault and engines zeroised with main power up, records. -/
def tamperAlarm (n : Nat) (d : Device) : Device :=
  let was := tamperResponse d
  let d1 := { d with bat := tamperClear n (powerCode d) (nowTs d) d.bat, lg := { d.lg with tamperSeen := true } }
  let ps := [n, d1.bat.latch, powerCode d, lcCode d, liveEpoch d]
  if mainUp d then
    let d2 := arriveEvent false 0x0401 0xFF 6 ps (lastGasp 0x0401 6 ps (tamperCouch (vaultClear d1)))
    if was then d2 else noteTamper d2
  else lastGasp 0x0401 6 ps d1

/-- TAMPER_ALARM: the alarm condition of a sensor that runs begins (`on`) or ends. TM_SENSOR.Live follows it; an enabled
sensor alarms as it begins (R340, R341). -/
def tamperAlarmEffect (n : Sensor) (on : Bool) (d : Device) : Device :=
  if !sensorRuns d n then d
  else if !on then { d with sensorLive := clrBit d.sensorLive n }
  else
    let d1 := { d with sensorLive := setBit d.sensorLive n }
    if sensorEnabled d n then tamperAlarm n d1 else d1
/-- TAMPER_ALARM. -/
def execTamperAlarm (n : Sensor) (on : Bool) (s : State) : Host.Outcome State Fault Refusal := s.run (tamperAlarmEffect n on)

/-- ENTROPY_HEALTH_FAILURE (R324): event 0x0408. -/
def entropyHealthFailureEffect (test : Nat) (d : Device) : Device :=
  if mainUp d then eventsRaw [(0x0408, 4, [test, 0, 0, 0, 0])] (modKv (fun k => { k with entropyOk := false }) d) else d
/-- ENTROPY_HEALTH_FAILURE. -/
def execEntropyHealthFailure (test : Nat) (s : State) : Host.Outcome State Fault Refusal := s.run (entropyHealthFailureEffect test)

/-- ENTROPY_HEALTH_RECOVERY (R324). -/
def entropyHealthRecoveryEffect (d : Device) : Device :=
  if mainUp d then modKv (fun k => { k with entropyOk := true }) d else d
/-- ENTROPY_HEALTH_RECOVERY. -/
def execEntropyHealthRecovery (s : State) : Host.Outcome State Fault Refusal := s.run entropyHealthRecoveryEffect

end Sys2Proof.Machine
end

