-- ==== Sys2Proof/Machine/Registers.lean ====
section
/-! DEFINITION. What the registers read as: the control blocks (spec/03_address_map.md, R92, and the register tables of
spec/02, 05–12, 14–21) and the host page (R101). A read code WO or RSV reads zero (R8), and so does an offset without
a register (R11). -/

namespace Sys2Proof.Machine

open Sys2Proof

/-- The register at an offset among single registers. -/
def pick (off : Nat) (l : List (Nat × Word)) : Option Word := (l.find? (fun r => r.1 == off)).map (·.2)

/-- The register at an offset of an array of `n` registers from `base`, `stride` apart. -/
def arr (off base stride n : Nat) (f : Nat → Word) : Option Word :=
  if base ≤ off ∧ off < base + stride * n ∧ (off - base) % stride = 0 then some (f ((off - base) / stride)) else none

/-- A number as a register word. -/
def w32 (n : Nat) : Word := BitVec.ofNat 32 n

/-- The low and high words of a 64-bit count. -/
def loWord (n : Nat) : Word := w32 (n % 2 ^ 32)
/-- The high word. -/
def hiWord (n : Nat) : Word := w32 (n / 2 ^ 32)

/-! ### SYS, PW, LC, KV -/

/-- Guarded buses under active policy now (R40, SYS_GUARD_STAT.BusActive). -/
def busActive (d : Device) : Nat :=
  let open_ := (d.guard.span.map openBuses).getD 0
  bitmap 16 (fun b => mainRuns d && hasBit (guardedBuses d) b && !hasBit open_ b)

/-- SYS_BOOT_STAT. -/
def bootStat (s : Start) : Word :=
  pack [(0, 4, s.path), (4, 2, s.slot), (6, 1, flag s.tamperResp), (7, 1, flag s.recovery), (8, 4, s.activeFail),
    (12, 4, s.goldenFail), (16, 8, s.secVer), (24, 2, s.keySlot), (26, 2, s.resetKind)]

/-- SYS_FW_CTRL. -/
def fwCtrl (d : Device) : Word :=
  pack [(0, 1, flag d.start.activeWrite), (1, 1, flag d.start.goldenWrite), (4, 1, flag d.start.openSlot),
    (5, 1, flag d.start.target), (16, 1, flag d.measures.slotClean)]

/-- SYS registers (spec/01, spec/02, spec/12). -/
def sysReg (d : Device) (h : Hart) (off : Nat) : Option Word :=
  pick off [(0x100, pinStat d.pins), (0x104, junctionStat d.junction), (0x200, loWord d.guard.win), (0x204, d.guard.winHi),
    (0x208, loWord d.guard.lost), (0x20C, d.guard.lostHi), (0x210, pack [(0, 16, busActive d), (16, 16, d.guard.intervals)]),
    (0x300, bootStat d.start), (0x304, pack [(8, 4, d.start.hartReady), (31, 1, flag d.start.lock)]), (0x330, fwCtrl d),
    (0x334, w32 d.start.fwPtr), (0x404, w32 (vget d.start.wmkSel h))]
  <|> arr off 0x310 4 4 (fun k => w32 (vget d.start.blk k)) <|> arr off 0x320 4 4 (fun k => w32 (vget d.start.wmkMask k))
  <|> arr off 0x440 4 16 (fun k => wordAt (vget d.start.wmkIn h) k)
  <|> arr off 0x480 4 16 (fun k => wordAt (wmkOf d (vget d.start.wmkSel h)) k)

/-- PW registers (spec/20). -/
def pwReg (d : Device) (off : Nat) : Option Word :=
  let p := d.power
  pick off [(0x00, pack [(0, 4, p.mainCause), (4, 4, p.coreCause), (8, 16, p.coreResets)]), (0x04, p.wakeEn), (0x08, p.wakeGpio),
    (0x0C, p.wakeTimer),
    (0x14, pack [(0, 4, p.refused), (4, 1, flag (p.state == .entering)), (8, 4, p.lastWake), (16, 16, p.sleepCount)]),
    (0x18, loWord p.sleepLen), (0x1C, p.sleepLenHi), (0x20, p.wdog)]

/-- LC_STATE. -/
def lcStateWord (d : Device) : Word :=
  pack [(0, 3, min d.lc.state 7), (3, 1, flag (d.lc.state == 8)), (4, 8, bitmap 8 (fun i => otpWord d (6 + i) != 0)),
    (12, 1, flag d.lc.burn.isSome), (13, 1, flag d.lc.wipe.isSome), (14, 1, flag (testModes d))]

/-- LC_TEST: zero unless TestModes is 1. -/
def lcTestWord (d : Device) : Word :=
  if testModes d then
    pack [(0, 1, flag d.lc.scanAllow), (2, 3, d.lc.mbistTarget), (5, 1, flag d.lc.mbistDone), (6, 1, flag d.lc.mbistFail),
      (7, 1, flag d.lc.mramTest)]
  else 0

/-- LC registers (spec/19). -/
def lcReg (d : Device) (off : Nat) : Option Word :=
  pick off [(0x00, lcStateWord d), (0x08, pack [(0, 4, d.lc.lastCmd), (4, 4, d.lc.outcome), (8, 8, d.lc.detail)]),
    (0x0C, w32 d.lc.otpIdx), (0x10, d.lc.otpLo), (0x14, d.lc.otpHi), (0x80, lcTestWord d)]

/-- Vault slots among 1–255 that are not Empty (KV_STAT.EmptySlots). -/
def usedSlots (d : Device) : Nat := (d.kv.slots.filter (fun s => s.no != 0)).length

/-- KV registers (spec/11). -/
def kvReg (d : Device) (h : Hart) (off : Nat) : Option Word :=
  let b := vget d.kv.banks h
  let s := slotOf d.kv b.slotSel.toNat
  pick off [(0x04, b.arg), (0x08, pack [(0, 4, b.lastCmd), (4, 4, b.outcome), (8, 1, flag b.busy)]), (0x10, b.slotSel),
    (0x14, (s.map slotAttr).getD 0xFF00), (0x18, (s.map slotLadder).getD 0),
    (0x200, pack [(0, 1, flag d.kv.loadDone), (1, 1, flag (rootValid d.kv d.bat)), (2, 1, d.kv.rootBuffer), (3, 1, flag d.kv.entropyOk),
      (16, 8, 255 - usedSlots d)]),
    (0x204, w32 (flag d.kv.rootLock)), (0x208, w32 d.kv.jrnlGen),
    (0x20C, pack [(0, 1, flag d.kv.written), (1, 1, flag d.kv.stagedRoot), (2, 1, stagedBuf d.kv), (8, 8, (installs d.kv).length),
      (16, 8, (retires d.kv).length)])]

/-! ### DG, SG -/

/-- DG_CTX_STAT (spec/09). -/
def ctxStat (c : Context) : Word :=
  pack [(0, 3, c.state.ctorIdx), (4, 2, c.cls), (6, 2, c.source), (8, 1, flag c.trunc), (9, 1, flag c.short), (10, 1, flag c.gap),
    (11, 1, flag (c.state == .faulted)), (12, 1, flag c.passed), (13, 1, flag c.tap.isSome), (14, 1, flag c.keyed), (16, 8, c.owner)]

/-- DG_OUT (R292): the output of a Closed context with OutDest 0, SHORT and Gap clear. -/
def ctxOut (c : Context) (k : Nat) : Word :=
  if c.state = .closed ∧ c.outDest = 0 ∧ c.short = false ∧ c.gap = false then wordAt c.output k else 0

/-- The context of DG_CTX_SEL, where the hart owns it. -/
def selCtx (d : Device) (h : Hart) : Option Context :=
  (ctxOf d.dg (field (dgBank d h).ctxSel 0 12)).filter (fun c => c.owner == 0x10 + h.val)

/-- The entry of DG_CMP_SEL, where the hart owns it. -/
def selCmp (d : Device) (h : Hart) : Option CmpEntry :=
  d.dg.cmps.find? (fun e => e.no == field (dgBank d h).cmpSel 0 8 && e.owner == 0x10 + h.val)

/-- DG_CMP_STAT. -/
def cmpStat (e : CmpEntry) : Word :=
  pack [(0, 2, if e.result = .pending then 1 else 2), (8, 8, e.owner), (16, 12, e.ctx)]

/-- DG registers (spec/09). -/
def dgReg (d : Device) (h : Hart) (off : Nat) : Option Word :=
  let b := dgBank d h
  let c := selCtx d h
  let e := selCmp d h
  let r := cmpRegs ((e.map (·.result)).getD .pending)
  pick off [(0x20, pack [(0, 4, b.lastCmd), (4, 4, b.outcome), (8, 1, flag b.job.isSome), (16, 12, b.value)]), (0x40, b.ctxSel),
    (0x44, (c.map ctxStat).getD 0), (0x48, (c.map (fun x => loWord x.msg.length)).getD 0), (0x4C, if c.isSome then b.absHi else 0),
    (0x50, (c.map (fun x => w32 x.epoch)).getD 0), (0x100, b.cmpSel), (0x104, r.1), (0x108, r.2), (0x10C, (e.map cmpStat).getD 0),
    (0x200, pack [(0, 13, 4096 - d.dg.ctxs.length), (16, 9, 256 - d.dg.cmps.length)]),
    (0x204, pack [(0, 16, bitmap 16 (fun l => (vget d.dg.lanes l).ctx.isSome)), (16, 16, bitmap 16 (fun l => (vget d.dg.lanes l).offline))]),
    (0x208, pack [(0, 8, d.dg.laneFaults), (8, 8, d.dg.eccFaults), (16, 8, d.dg.cmpFaults), (24, 8, d.dg.restarts)])]
  <|> arr off 0x04 4 5 (fun k => vget b.args k) <|> arr off 0x80 4 16 (fun k => (c.map (ctxOut · k)).getD 0)

/-- SG registers (spec/10). -/
def sgReg (d : Device) (h : Hart) (off : Nat) : Option Word :=
  pick off [(0x08, (vget d.sg.verdict h).1), (0x0C, (vget d.sg.verdict h).2),
    (0x10, pack [(0, 3, jobsInFlight d.sg h), (4, 3, (vget d.sg.results h).length)]),
    (0x200, pack [(0, 3, bitmap 3 (fun u => (vget d.sg.units u).job.isSome)), (4, 3, bitmap 3 (fun u => (vget d.sg.units u).offline)),
      (8, 5, d.sg.verifyQ.length), (16, 5, d.sg.signQ.length)]),
    (0x204, pack [(0, 8, d.sg.unitFaults), (8, 8, d.sg.selfCheckFails), (16, 8, d.sg.zeroisations), (24, 8, d.sg.restarts)])]

/-! ### GF, IS, TX -/

/-- GF_UPn_STAT. -/
def upStat (d : Device) (n : Nat) : Word :=
  let u := portAt d n
  let L := curLeaf d
  let has := d.tx.fabricLive && (portOf L n).isSome
  pack [(0, 1, flag has), (1, 3, if has then portMode L n else 0), (4, 1, flag (vget d.pins.upReset n)), (5, 1, flag u.deferred.isSome),
    (8, 1, flag u.undefOp), (9, 1, flag u.protoErr), (10, 1, flag u.overClock), (11, 1, flag u.writeDiscarded),
    (16, 8, if has then portBd L n else 0)]

/-- Chip selects of a bus that are assigned, not Fenced and not retired (GF_FBm_STAT.Assigned). -/
def busAssigned (d : Device) (m : Nat) : Nat :=
  if d.tx.fabricLive then bitmap 4 (fun k => rstAllowed (curLeaf d) d.tx.retired (4 * m + k) && !outOfUse d (4 * m + k)) else 0

/-- GF_FBm_STAT.State: 0 Unassigned, 1 Held, 2 Discovering, 3 InService, 4 Restarting, 5 Quarantined. -/
def busState (d : Device) (m : Nat) : Nat :=
  let b := busAt d m
  let devs := (List.range 4).map (fun k => devAt d (4 * m + k))
  if !d.tx.fabricLive then 1
  else if b.quarantined then 5
  else if b.restarting then 4
  else if !hasBit (guardedBuses d) m then 0
  else if b.requalPending || devs.any (·.discovering) then 2
  else 3

/-- A program, erase or register write runs at a device, or it is stuck busy (GF_FBm_STAT.Busy, GF_TSn_STAT.Busy). -/
def devBusy (d : Device) (f : Nat) : Bool := (devAt d f).busy.isSome || (devAt d f).stuck

/-- GF_FBm_STAT. -/
def fbStat (d : Device) (m : Nat) : Word :=
  let b := busAt d m
  pack [(0, 3, busState d m), (4, 4, busAssigned d m), (8, 4, bitmap 4 (fun k => (devAt d (4 * m + k)).ready)),
    (12, 4, bitmap 4 (fun k => devBusy d (4 * m + k))), (16, 1, flag b.contention), (17, 1, flag b.dqsTimeout), (18, 1, flag b.timeout)]

/-- GF_FBm_ERR. -/
def fbErr (b : FlashBus) : Word := pack [(0, 16, b.timeoutCount), (16, 8, b.dqsCount), (24, 8, b.contentionCount)]

/-- GF_FBm_DEVk. -/
def fbDev (v : FlashDev) : Word := pack [(0, 24, v.jedec), (24, 4, v.discResult), (28, 1, flag v.sfdpGoverns)]

/-- GF_TSn_STAT. -/
def tsStat (d : Device) (n : Nat) : Word :=
  let t := tsAt d n
  let r := flashOf (curLeaf d) n
  pack [(0, 5, t.state), (5, 1, flag (d.tx.fabricLive && r.isSome)), (6, 1, flag (d.tx.retired.contains n || hwRetired d n)),
    (7, 1, flag (r.any (fun x => x.role == 3))), (8, 1, flag t.restarting), (9, 1, flag (devBusy d n)), (16, 5, t.held.length),
    (21, 4, t.locks.length), (25, 3, t.segment), (28, 1, flag (boundCurve (curLeaf d) n).isSome)]

/-- The registers of a turnstile at an offset of its 64 bytes. -/
def tsReg (d : Device) (n off : Nat) : Word :=
  let t := tsAt d n
  (pick off [(0x00, tsStat d n), (0x04, pack [(0, 16, t.denyCount), (16, 16, t.rateDenyCount)]),
    (0x08, pack [(0, 8, t.lastOp), (8, 8, t.lastAid), (16, 4, t.lastReason), (20, 1, flag t.lastLogged), (24, 6, t.lastClass)]),
    (0x0C, w32 t.lastAddr), (0x10, loWord t.wear), (0x14, t.wearHiLatch), (0x18, loWord t.credit), (0x1C, t.creditHiLatch)]).getD 0

/-- The registers of a port at an offset of its 64 bytes. -/
def upReg (d : Device) (n off : Nat) : Word :=
  (pick off [(0x00, upStat d n), (0x04, pack [(0, 16, (portAt d n).dqsWaits), (16, 16, (portAt d n).defers)]),
    (0x08, w32 (portAt d n).last)]).getD 0

/-- The registers of a bus at an offset of its 64 bytes. -/
def fbReg (d : Device) (m off : Nat) : Word :=
  (pick off [(0x00, fbStat d m), (0x08, fbErr (busAt d m))] <|> arr off 0x10 4 4 (fun k => fbDev (devAt d (4 * m + k)))).getD 0

/-- GF registers (spec/06, spec/07). -/
def gfReg (d : Device) (off : Nat) : Option Word :=
  let n := off % 0x400 / 0x40
  if off < 0x200 then some (upReg d (off / 0x40) (off % 0x40))
  else if 0x400 ≤ off ∧ off < 0x800 then some (fbReg d n (off % 0x40))
  else if 0x1000 ≤ off ∧ off < 0x2000 then some (tsReg d ((off - 0x1000) / 0x40) (off % 0x40))
  else pick off [(0x2000, d.gf.tsCfg), (0x2004, w32 (bitmap 8 (fun p => (portAt d p).quarantined)))]

/-- IS_BDn_STAT. -/
def bdStat (b : BootDomain) : Word :=
  pack [(0, 3, b.state.ctorIdx), (3, 2, b.slot), (5, 1, flag b.goldenUsed), (6, 1, flag b.fetchAhead), (7, 1, flag b.streamed),
    (8, 4, b.failCount), (12, 4, b.lastCause), (16, 8, b.imagesVerified), (24, 8, b.imagesTotal)]

/-- IS_BDn_RESIDENT. -/
def bdResident (b : BootDomain) : Word := w32 (b.images.foldl (fun n i => n + i.units) 0)

/-- IS_DEVn_HEALTH. -/
def devHealthWord (x : DevHealth) : Word := pack [(0, 8, x.progFail), (8, 8, x.eraseFail), (16, 8, x.timeoutResets), (24, 4, x.cond)]

/-- IS registers (spec/08, spec/13). -/
def isReg (d : Device) (h : Hart) (off : Nat) : Option Word :=
  let q := fqOf d h
  arr off 0x00 0x10 16 (fun n => bdStat (domain d n)) <|> arr off 0x08 0x10 16 (fun n => bdResident (domain d n))
  <|> arr off 0x400 8 64 (fun n => devHealthWord (healthAt d n)) <|> arr off 0x800 4 4 (fun k => vget q.desc k)
  <|> pick off [(0x100, w32 d.is_.gates), (0x104, d.is_.cfg), (0x110, pack [(0, 16, d.is_.scrubPasses), (16, 16, d.is_.scrubCorrected)]),
    (0x114, pack [(0, 11, d.is_.poisonLast), (16, 16, d.is_.poisoned.length)]), (0x118, w32 d.is_.tagFree),
    (0x818, pack [(0, 5, q.inFlight.length + q.openGroup.length), (8, 5, q.results.length)])]

/-- TX_STATUS (spec/05). -/
def txStatus (t : Couch) : Word :=
  pack [(0, 3, t.state.ctorIdx), (3, 1, flag t.siChecking.isSome), (4, 1, flag t.siCopyBusy), (5, 1, flag t.fabricLive),
    (6, 1, flag t.fenceArmed), (8, 8, t.owner), (16, 9, t.actions.length)]

/-- TX registers (spec/05). -/
def txReg (d : Device) (h : Hart) (off : Nat) : Option Word :=
  let t := d.tx
  let r := vget t.results h
  pick off [(0x04, pack [(0, 4, r.1), (4, 4, r.2)]), (0x08, txStatus t), (0x0C, w32 t.requester), (0x10, w32 t.epoch),
    (0x14, pack [(0, 14, oldTagOps d)]), (0x18, pack [(0, 8, t.checkCode), (8, 2, t.checkPhase)]), (0x1C, w32 t.checkWhere),
    (0x20, pack [(0, 4, t.abortReason), (4, 3, t.stateAtAbort)]), (0x24, t.cfg),
    (0x28, pack [(0, 19, if t.jrnlValid then bankSize - t.jrnlNext else 0), (31, 1, t.jrnlBank)]), (0x2C, w32 t.jrnlGen), (0x60, t.sipPtr), (0x68, t.mouldIdx)]
  <|> arr off 0x40 4 8 (fun k => vget t.act k)
  <|> arr off 0x80 4 8 (fun k => wordAt (t.actions.getD t.mouldIdx.toNat []) k)
  <|> arr off 0xC0 4 16 (fun k => wordAt t.siDigest k) <|> arr off 0x100 4 16 (fun k => wordAt t.pendDigest k)

/-! ### EV, LG, MB, MG -/

/-- EV_STAT (spec/14). -/
def evStat (r : Recorder) : Word :=
  pack [(0, 17, r.nextIndex), (17, 1, flag r.full), (18, 1, flag r.degraded), (19, 1, flag r.noSurvivor), (20, 1, flag r.recovering),
    (21, 1, flag r.clearing.isSome), (24, 6, r.queue.length), (30, 2, r.clearOutcome)]

/-- EV registers (spec/14). -/
def evReg (d : Device) (h : Hart) (off : Nat) : Option Word :=
  pick off [(0x200, evStat d.ev), (0x204, w32 d.ev.lastSeq), (0x208, w32 d.ev.drop),
    (0x20C, pack [(0, 16, d.ev.queueLost), (16, 16, d.ev.suppressed)]), (0x210, d.ev.clearSeq), (0x218, loWord d.ev.badSeg), (0x21C, hiWord d.ev.badSeg)]
  <|> arr off 0x04 4 10 (fun k => vget (vget d.ev.posts h) k)

/-- LG registers (spec/14). -/
def lgReg (d : Device) (off : Nat) : Option Word :=
  pick off [(0x04, pack [(0, 4, d.lg.lastCmd), (4, 8, d.lg.outcome), (12, 1, flag (lgBusy d))]), (0x08, w32 d.lg.next), (0x0C, lgStat d),
    (0x10, w32 d.lg.recorded), (0x18, d.lg.ackNum), (0x1C, wordAt d.lg.ackDig 0), (0x20, wordAt d.lg.ackDig 1), (0x24, d.lg.ovrUpTo),
    (0x28, loWord d.lg.nonce), (0x2C, hiWord d.lg.nonce)]
  <|> arr off 0x40 4 16 (fun k => wordAt d.lg.headDig k)

/-- MB registers of a hart (spec/17): a channel's data word is what a take would return. -/
def mbReg (d : Device) (h : Hart) (off : Nat) : Option Word :=
  arr off 0x000 4 128 (fun c => takeWord (curLeaf d) d (0x10 + h.val) c) <|> arr off 0x200 4 128 (fun c => chanStatus (curLeaf d) d (0x10 + h.val) c)
  <|> arr off 0x400 4 4 (fun k => pendWord (curLeaf d) d (0x10 + h.val) k) <|> arr off 0x410 4 4 (fun k => vget (vget d.mb.irqEn h) k)

/-- MG_PORTm_STAT (spec/17). -/
def mgStat (d : Device) (m : Nat) : Word :=
  let p := i3cAt d m
  pack [(0, 2, i3cMode d m), (2, 1, flag p.daValid), (3, 1, flag p.ibiEnabled), (4, 1, flag (decide (32 ≤ p.rx.length))),
    (5, 3, (p.session.map (·.kind)).getD 0), (8, 7, p.dynAddr), (16, 8, p.eid), (24, 6, p.rx.length)]

/-- MG registers (spec/17). -/
def mgReg (d : Device) (off : Nat) : Option Word :=
  arr off 0x00 0x20 2 (mgStat d)
  <|> arr off 0x04 0x20 2 (fun m => pack [(0, 16, (i3cAt d m).nacks), (16, 8, (i3cAt d m).discarded), (24, 8, (i3cAt d m).resets)])
  <|> arr off 0x08 0x20 2 (fun m => w32 (((i3cAt d m).session.map (·.data.length)).getD 0))

/-! ### CX, CD, EC, PT, DB, TM -/

/-- CX_LINK_STAT (spec/15). -/
def linkStat (c : CxlPort) : Word :=
  pack [(0, 1, flag c.linkUp), (1, 3, c.rate), (4, 4, c.width), (8, 1, flag c.cxl), (9, 1, flag c.w64Active), (10, 1, flag c.w64Offered),
    (11, 1, flag c.w64FellBack), (16, 16, c.downCount)]

/-- The popped sweep region (CX_SWP_LENGTH, CX_SWP_EXP). -/
def poppedRegion (d : Device) : Option SweepRegion := d.cx.popped.bind (fun p => regionOf d p.1 p.2)

/-- CX sweep registers (spec/16): zero for harts other than hart 1. -/
def cxSweepReg (d : Device) (off : Nat) : Option Word :=
  pick off [(0x204, w32 (((poppedRegion d).map (·.units)).getD 0)), (0x214, pack [(0, 11, d.cx.regions.length), (16, 5, d.cx.passes.length)])]
  <|> arr off 0x240 4 16 (fun k => wordAt (((poppedRegion d).map (·.expected)).getD []) k) <|> arr off 0x280 4 16 (fun k => wordAt d.cx.swpDig k)

/-- CX registers (spec/15, spec/16). -/
def cxReg (d : Device) (h : Hart) (off : Nat) : Option Word :=
  let c := d.cx
  pick off [(0x00, linkStat c), (0x04, cxCfgWord c),
    (0x08, pack [(0, 16, bitmap 16 (fun n => (ldOf d n).allocated)), (16, 16, committedLds d)]),
    (0x0C, pack [(0, 16, c.corrected), (16, 16, c.discarded)]), (0x10, pack [(0, 16, c.completerAbort), (16, 16, c.uncorrectable)]),
    (0x20, w32 c.freeFrames.length)]
  <|> arr off 0x40 4 16 (fun n => w32 (((ldOf d n).session.map (·.len)).getD 0)) <|> (if h = 1 then cxSweepReg d off else none)

/-- CD_SLOTs_INFO (spec/18). -/
def slotInfo (s : CardSlot) : Word :=
  pack [(0, 16, s.rca), (16, 2, s.type), (18, 2, s.speed), (20, 1, flag s.permWp), (21, 1, flag s.tmpWp), (22, 1, flag s.highCap), (24, 3, s.state)]

/-- CD registers (spec/18). -/
def cdReg (d : Device) (off : Nat) : Option Word :=
  let c := d.cd
  pick off [(0x00, pack [(0, 4, d.cdStat.present), (4, 4, d.cdStat.powered), (8, 4, d.cdStat.changed)]),
    (0x04, pack [(0, 4, d.cdStat.powered), (4, 2, c.clock), (6, 1, flag c.wide), (7, 1, flag c.openDrain)]),
    (0x20, d.cdWin.base), (0x24, d.cdWin.len), (0x28, pack [(31, 1, flag d.cdWin.lock)]), (0x40, c.cmd), (0x44, c.arg), (0x48, c.xfer), (0x4C, c.bufOff),
    (0x50, pack [(0, 1, flag c.busy), (1, 1, flag c.done), (2, 4, c.outcome), (16, 16, c.blocksDone)])]
  <|> arr off 0x10 4 4 (fun s => slotInfo (slotAt d s)) <|> arr off 0x60 4 4 (fun k => vget c.resp k)

/-- EC_STAT (spec/21). -/
def ecStat (e : Errors) : Word :=
  pack [(0, 3, (e.handling.head?.map (·.cls)).getD 0), (8, 5, e.queue.length), (16, 6, e.reports.length), (22, 1, flag e.overflow)]

/-- EC registers (spec/21). -/
def ecReg (d : Device) (off : Nat) : Option Word :=
  let f := d.lastF2
  pick off [(0x00, ecStat d.ec), (0x08, d.ec.report1), (0x0C, pack [(0, 16, d.ec.corrected), (16, 8, d.ec.deferred), (24, 8, d.ec.restarts)]),
    (0x10, d.ec.irqEn), (0x14, pack [(0, 8, f.block), (8, 4, f.kind), (12, 1, flag f.escalated), (13, 1, flag f.hardware), (16, 16, f.count)]),
    (0x20, d.ec.inject)]

/-- PT registers (spec/21). -/
def ptReg (d : Device) (off : Nat) : Option Word :=
  pick off [(0x00, ptCtrlWord d), (0x04, d.pt.seed), (0x80, pack [(0, 16, d.pt.lateReads), (16, 8, d.pt.latePorts)])]
  <|> arr off 0x40 4 8 (fun z => vget d.pt.zones z) <|> arr off 0x60 4 4 (fun r => vget d.pt.compl r)

/-- DB_STAT (spec/19). -/
def dbStat (b : Booth) : Word :=
  pack [(0, 2, b.level), (2, 1, flag b.nonce.isSome), (3, 1, flag b.vaultLocked), (4, 1, flag b.armed.isSome), (5, 3, b.armed.getD 0),
    (8, 1, flag b.checking.isSome), (16, 4, b.lastResult), (20, 2, b.lastKeyKind), (22, 3, b.lastKeySlot)]

/-- DB registers (spec/19). -/
def dbReg (d : Device) (off : Nat) : Option Word :=
  pick off [(0x04, dbStat d.db), (0x10, w32 d.db.tktPtr)] <|> arr off 0x40 4 16 (fun k => wordAt d.db.chal k)

/-- TM registers (spec/11). -/
def tmReg (d : Device) (off : Nat) : Option Word :=
  let b := d.bat
  pick off [(0x00, w32 b.latch), (0x04, pack [(0, 4, b.firstSensor), (4, 3, b.firstPower), (16, 16, b.alarms)]), (0x08, loWord b.firstTs), (0x0C, b.firstTsHi),
    (0x10, pack [(0, 15, d.sensorLive), (16, 15, bitmap 15 (sensorEnabled d))]), (0x20, pack [(0, 4, b.ringNext), (4, 5, b.ringCount)]), (0x24, d.kv.lgSel)]
  <|> arr off 0x40 4 16 (fun k => wordAt (vget b.ring d.kv.lgSel.toNat) k)

/-! ### The map -/

/-- A register of block `n` (R92) as a hart reads it; the words that a read of a queue pops are commands of their own. -/
def blockReg (d : Device) (h : Hart) (n off : Nat) : Option Word :=
  match n with
  | 0 => sysReg d h off
  | 1 => pwReg d off
  | 2 => lcReg d off
  | 3 => kvReg d h off
  | 4 => dgReg d h off
  | 5 => sgReg d h off
  | 6 => gfReg d off
  | 7 => isReg d h off
  | 8 => txReg d h off
  | 9 => evReg d h off
  | 10 => lgReg d off
  | 11 => mbReg d h off
  | 12 => cxReg d h off
  | 13 => mgReg d off
  | 14 => cdReg d off
  | 15 => ecReg d off
  | 16 => ptReg d off
  | 17 => dbReg d off
  | 18 => tmReg d off
  | _ => none

/-- The address lies in a control block (R92). -/
def inBlocks (addr : Nat) : Bool := decide (0x60000000 ≤ addr ∧ addr < 0x60130000)

/-- A register as a hart reads it. -/
def regRead (d : Device) (h : Hart) (addr : Nat) : Word := (blockReg d h (blockOf addr) (addr % 0x10000)).getD 0

/-- State of a sweep region as its LD sees it (R480): Paused while its reads are barred. -/
def shownRegion (d : Device) (r : SweepRegion) : Nat := if r.state = 2 ∧ readsAllowed d r.ld = false then 3 else r.state

/-- CX_HP_SWP_STAT. -/
def swpStat (d : Device) (r : SweepRegion) : Word :=
  pack [(0, 3, shownRegion d r), (4, 3, r.lastResult), (8, 4, r.lastCause), (12, 1, flag r.compare), (13, 1, flag r.attest), (16, 16, r.passes)]

/-- CX_HP_LD_STAT (spec/15). -/
def ldStat (d : Device) (n : Nat) : Word :=
  let l := ldOf d n
  pack [(0, 1, flag l.viewWriteDrop), (1, 1, flag l.channelDrop), (2, 1, flag (hart1Serves d)), (3, 1, flag d.tx.fabricLive),
    (4, 1, flag (tamperResponse d)), (5, 1, flag l.allocated), (6, 1, flag l.decCommitted), (16, 16, l.viewResets)]

/-- CX_HP_STG_STAT (spec/15). -/
def stgStat (l : LogicalDev) : Word :=
  pack [(0, 11, l.stgBase), (12, 3, (l.session.map (·.slots.length)).getD 0), (16, 3, l.stgState), (20, 4, l.stgOutcome), (24, 8, l.stgCheck)]

/-- Sheet position of CX_HP_EXP_FIND, where the LD's ledger rights cover it (CX_HP_EXP_POS). -/
def expPos (d : Device) (n : Nat) : Word :=
  match positionOf d.mem d.lg.bad (ldOf d n).expFind.toNat with
  | some p => if hasBit (ledgerMask d n) (sheetBd d.mem p) then pack [(0, 11, p), (16, 1, 1), (17, 1, flag (sheetAcked d.mem p))] else 0
  | none => 0

/-- CX_HP_SWP_INFO (spec/16). -/
def swpInfo (d : Device) (n : Nat) : Word :=
  let r := sweepRec (curLeaf d) n
  pack [(0, 7, (regionsOf d n).length), (8, 7, (r.map (·.maxRegions)).getD 0), (16, 1, flag r.isSome), (17, 1, flag (r.any (·.compare))),
    (18, 1, flag (r.any (·.attest))), (19, 1, flag (ldOf d n).swpRemoved)]

/-- Host page registers of an LD (R101; spec/03, 14–17). -/
def pageRead (d : Device) (n off : Nat) : Word :=
  let l := ldOf d n
  let sel := regionOf d n l.swpSel
  (pick off [(0x10000, pack [(0, 16, 0xB640), (16, 4, n), (20, 4, 1), (24, 1, flag ((rightsNow d n).any (·.stagingWindow)))]), (0x10004, ldStat d n),
      (0x10014, l.stgLen), (0x1001C, stgStat l), (0x10020, w32 d.tx.epoch),
      (0x10100, pack [(0, 1, flag (reamFull d)), (1, 1, flag d.lg.degraded), (2, 1, flag (wrapPolicy d)), (8, 8, l.ackOutcome)]),
      (0x10104, if d.lg.next = 0 then 0xFFFFFFFF else w32 (d.lg.next - 1)), (0x10108, l.expFind), (0x1010C, expPos d n),
      (0x10110, wordAt l.expDig 0), (0x10114, wordAt l.expDig 1),
      (0x10140, pack [(0, 17, d.ev.nextIndex), (17, 1, flag d.ev.full), (18, 1, flag d.ev.degraded), (30, 2, l.clearOutcome)]), (0x10144, w32 d.ev.lastSeq),
      (0x10204, loWord l.swpBase), (0x10208, hiWord l.swpBase), (0x1020C, w32 l.swpUnits), (0x10210, w32 l.swpPeriod),
      (0x10214, pack [(0, 4, l.swpOutcome), (8, 6, l.swpRegion), (31, 1, flag l.swpDone)]), (0x10218, w32 l.swpSel),
      (0x1021C, (sel.map (swpStat d)).getD 0), (0x10220, loWord l.swpAlert), (0x10224, hiWord l.swpAlert), (0x10228, swpInfo d n)]
    <|> arr off 0x10030 4 4 (fun k => pendWord (curLeaf d) d n k) <|> arr off 0x10240 4 16 (fun k => wordAt l.swpExp k)
    <|> arr off 0x10280 4 16 (fun k => wordAt ((sel.map (·.digest)).getD []) k)
    <|> arr off 0x11000 4 128 (fun c => takeWord (curLeaf d) d n c) <|> arr off 0x11200 4 128 (fun c => chanStatus (curLeaf d) d n c)).getD 0

/-! ### Reads that have an effect -/

/-- What a hart's read of a register does besides returning its word: queues it pops, latches. -/
def popRead (h : Hart) (addr : Nat) : Option (Device → Device) :=
  if addr = 0x600F0004 then some (ecReportPopEffect h)
  else if addr = 0x60070814 then some (fqResultPopEffect h)
  else if addr = 0x60050004 then some (sgResultPopEffect h)
  else if addr = 0x600C0100 then some (stagingReadyPopEffect h)
  else if addr = 0x600C0200 then some (sweepNextPopEffect h)
  else if addr = 0x600C020C then some (sweepEndPopEffect h)
  else if c : 0x600B0000 ≤ addr ∧ addr < 0x600B0200 ∧ addr % 4 = 0 then
    some (hartChannelTakeEffect h ⟨(addr - 0x600B0000) / 4, by omega⟩)
  else none

/-- A read of a _LO half latches its _HI half (R45, SYS_GUARD_, GF_TSn_, DG_CTX_ABS_, TM_FIRST_TS_, PW_SLEEP_LEN_). -/
def latchHi (h : Hart) (addr : Nat) (d : Device) : Device :=
  if addr = 0x60000200 then { d with guard := { d.guard with winHi := hiWord d.guard.win } }
  else if addr = 0x60000208 then { d with guard := { d.guard with lostHi := hiWord d.guard.lost } }
  else if addr = 0x60010018 then modPw (fun p => { p with sleepLenHi := hiWord p.sleepLen }) d
  else if addr = 0x60120008 then { d with bat := { d.bat with firstTsHi := hiWord d.bat.firstTs } }
  else if addr = 0x60040048 then
    match selCtx d h with
    | some c => modDgBank h (fun b => { b with absHi := hiWord c.msg.length &&& 0xFFFF }) d
    | none => d
  else if 0x60061000 ≤ addr ∧ addr < 0x60062000 then
    let n := (addr - 0x60061000) / 0x40
    if addr % 0x40 = 0x10 then modTs n (fun t => { t with wearHiLatch := hiWord t.wear }) d
    else if addr % 0x40 = 0x18 then modTs n (fun t => { t with creditHiLatch := hiWord t.credit }) d
    else d
  else d

end Sys2Proof.Machine
end

