-- ==== Sys2Proof/Machine/HostRegs.lean ====
section
/-! DEFINITION. Reads of registers and memory by harts (R10, R87–R91), and the registers that hosts read: BAR0 and the
configuration space (spec/03_address_map.md, R101, R102; spec/15_cxl_host_port.md, R435–R438, R454). Places that PCIe and
CXL 2.0 give: notes/assumptions/66.md. -/

namespace Sys2Proof.Machine

open Sys2Proof

/-! ### Harts -/

/-- A hart's read of a control register: what it pops or latches, and the word. -/
def readRegister (h : Hart) (addr : Nat) (d : Device) : Device :=
  match popRead h addr with
  | some f => f d
  | none => latchHi h addr (replyWord (regRead d h addr) d)

/-- A hart's load of `n` bytes: a control register as an aligned word (R10), or memory (R87). Anything else is a load access
fault without effect (R88). -/
def hartRead (h : Hart) (n addr : Nat) (d : Device) : Device :=
  if inBlocks addr then if n = 4 ∧ addr % 4 = 0 then readRegister h addr d else accessFault h addr d
  else match hartLoadKey d h addr n with
    | some a => readErrors a n (reply (memRead d.mem a n) d)
    | none => accessFault h addr (readErrors addr n d)

/-- A hart's load, where the hart runs. -/
def hartLoad (h : Hart) (n addr : Nat) (d : Device) : Device := if !mainRuns d || hartStalled d h then d else hartRead h n addr d

/-! ### BAR0 (R101, R437) -/

/-- CXL device registers: the capabilities array, device status, memory device status, the mailbox. -/
def deviceRegs (l : LogicalDev) (off : Nat) : Option Word :=
  pick off [(0x0000, 0x00010000), (0x0004, 3), (0x0010, 0x00010001), (0x0014, 0x2000), (0x0018, 8),
    (0x0020, 0x00014000), (0x0024, 0x2100), (0x0028, 8), (0x0030, 0x00010002), (0x0034, 0x3000), (0x0038, 0x820),
    (0x2100, 0x14), (0x3000, 0x2B), (0x3004, pack [(0, 1, flag l.mboxRunning.isSome), (1, 1, flag l.mboxInt)]),
    (0x3008, pack [(0, 16, l.mboxCmd), (16, 16, l.mboxLength)]), (0x300C, pack [(0, 5, l.mboxLength / 0x10000)]), (0x3014, w32 l.mboxReturn)]
  <|> arr off 0x3020 4 512 (fun k => wordAt l.mboxOut k)

/-- CXL.cachemem registers: the capability headers, the RAS capability, the HDM decoder (R437, R438). -/
def cachememRegs (l : LogicalDev) (off : Nat) : Option Word :=
  arr off 0x1058 4 16 (fun k => l.ras.header.getD k 0)
  <|> pick off [(0x1040, w32 l.ras.unc), (0x1044, w32 l.ras.uncMask), (0x1048, w32 l.ras.uncSeverity), (0x104C, w32 l.ras.cor),
    (0x1050, w32 l.ras.corMask), (0x1054, w32 l.ras.ctrl), (0x1000, 0x02110001), (0x1004, 0x04010002), (0x1008, 0x10010005), (0x1100, 0x400),
    (0x1110, loWord l.decBase), (0x1114, hiWord l.decBase), (0x1118, if l.decCommitted then 0x10000000 else 0),
    (0x1120, pack [(0, 4, l.decIg), (8, 1, flag (l.decCommitted && l.decLocked)), (9, 1, flag l.decCommitted),
      (10, 1, flag l.decCommitted), (11, 1, flag l.decError), (12, 1, 1)])]

/-- A word of BAR0 [0, 0x1_0000); what no register stands at, and the ARB/MUX range, reads zero. -/
def cxlWord (l : LogicalDev) (off : Nat) : Word := ((deviceRegs l off).or (cachememRegs l off)).getD 0

/-- The header of a memory request TLP as AER logs it. -/
def tlpHeader (write : Bool) (n addr : Nat) : List Word :=
  [w32 ((if write then 0x40000000 else 0) + ceilDiv (addr % 4 + n) 4), w32 ((2 ^ n - 1) * 2 ^ (addr % 4) % 16), w32 (addr - addr % 4), 0]

/-- An access that is not an aligned word is an Unsupported Request (R102, R454): bit 20 of the AER uncorrectable status,
the header logged, counted, event 0x0C05. The reply is empty. -/
def unsupportedRequest (who : Option Ld) (write : Bool) (n addr : Nat) (d : Device) : Device :=
  let hd := tlpHeader write n addr
  reply [] (event 0x0C05 3 [whoAid who, 20, (hd.getD 0 0).toNat, (hd.getD 2 0).toNat]
    (modCx (fun c => { c with uncorrectable := satAdd 16 c.uncorrectable 1 })
      (modWho who (fun l => { l with aerStatus := setBit l.aerStatus 20, aerHeader := hd }) d)))

/-- A word of an LD's host page; a channel's data word is taken (R483). -/
def hostPageLoad (ld : Ld) (off : Nat) (d : Device) : Device :=
  if c : 0x11000 ≤ off ∧ off < 0x11200 then hostChannelTakeEffect ld ⟨(off - 0x11000) / 4, by omega⟩ d
  else replyWord (pageRead d ld off) d

/-- A read of BAR0. The FM-owned LD has no host page (R433). -/
def bar0Load (who : Option Ld) (n off : Nat) (d : Device) : Device :=
  if !cxlUp d then d
  else if n ≠ 4 ∨ off % 4 ≠ 0 then unsupportedRequest who false n off d
  else if off < 0x10000 then replyWord (cxlWord (whoOf d who) off) d
  else match who with
    | some ld => hostPageLoad ld off d
    | none => replyWord 0 d

/-! ### Configuration space (R435, R436) -/

/-- Memory_Active (R436): the LD is allocated, and the event log and the ream are recovered. -/
def memoryActive (d : Device) (l : LogicalDev) : Bool := l.allocated && !d.ev.recovering && d.lg.recovered

/-- The speed code of PCIe for a rate code of CX_LINK_STAT: 2.5, 8, 16 and 32 GT/s are 1, 3, 4 and 5. -/
def speedCode (rate : Nat) : Nat := if rate = 1 then 1 else if rate = 0 then 0 else min 5 (rate + 1)

/-- PCI header, PCI Express, power management and MSI registers (R435): BAR0 is 64 bits and 1 MiB; the link of 8 lanes does
32 GT/s and ASPM L1 (R431). -/
def pciRegs (c : CxlPort) (l : LogicalDev) (off : Nat) : Option Word :=
  let f := l.pci
  pick off [(0x00, 0x64401FA7), (0x04, pack [(1, 1, flag f.memSpace), (2, 1, flag l.busMaster), (8, 1, flag f.serrEnable), (20, 1, 1)]),
    (0x08, 0x05021001), (0x10, w32 (f.barBase * 0x100000 + 4)), (0x14, w32 (f.barBase / 0x1000)), (0x2C, 0x00011FA7),
    (0x34, 0x40), (0x40, 0x00028010), (0x44, 0x10008001), (0x48, pack [(0, 16, f.devCtl), (16, 4, f.devStatus)]), (0x4C, 0x00400885),
    (0x50, pack [(0, 16, f.linkCtl), (16, 4, speedCode c.rate), (20, 6, c.width)]), (0x68, pack [(12, 1, flag l.tag10)]), (0x6C, 0x3A),
    (0x80, 0x00039001), (0x84, if l.d3hot then 3 else 0),
    (0x90, pack [(0, 16, 5), (16, 1, flag f.msiEnable), (17, 3, 2), (20, 3, f.msiMultiple), (23, 2, 3)]), (0x94, w32 f.msiAddr),
    (0x98, w32 (f.msiAddr / 2 ^ 32)), (0x9C, w32 f.msiData), (0xA0, w32 l.msiMask), (0xA4, w32 l.msiPending)]

/-- DOE status (R447): busy with an object, DOE Error, Data Object Ready, which a core reset holds clear (R38). -/
def doeStatus (d : Device) (l : LogicalDev) : Word :=
  pack [(0, 1, flag l.doeReq.isSome), (1, 1, flag l.pci.doeInt), (2, 1, flag l.doeError), (31, 1, flag (l.doeRsp.isSome && hart1Serves d))]

/-- AER, DOE and serial number registers. -/
def extendedRegs (d : Device) (l : LogicalDev) (off : Nat) : Option Word :=
  pick off [(0x100, 0x14820001), (0x104, w32 l.aerStatus), (0x108, w32 l.aer.mask), (0x10C, w32 l.aer.severity), (0x110, w32 l.aer.corr),
    (0x114, w32 l.aer.corrMask), (0x148, 0x1601002E), (0x14C, 3), (0x150, pack [(1, 1, flag l.pci.doeIntEnable)]), (0x154, doeStatus d l), (0x15C, if hart1Serves d then wordAt (l.doeRsp.getD []) 0 else 0), (0x160, 0x17010003),
    (0x164, loWord (serialNo d)), (0x168, hiWord (serialNo d))]
  <|> arr off 0x11C 4 4 (fun k => l.aerHeader.getD k 0)

/-- The CXL device DVSEC (R436) and the Register Locator; `last` says that no capability follows. -/
def dvsecRegs (d : Device) (l : LogicalDev) (last : Bool) (off : Nat) : Option Word :=
  pick off [(0x170, 0x1B010023), (0x174, 0x03811E98), (0x178, 0x20160000), (0x17C, pack [(1, 1, 1), (2, 1, flag l.memEnable)]),
    (0x18C, pack [(0, 1, flag d.cx.linkUp), (1, 1, flag (memoryActive d l)), (2, 3, 2), (5, 3, 2), (28, 1, flag l.allocated)]),
    (0x1B0, if last then 0x00010023 else 0x1D010023), (0x1B4, 0x01C01E98), (0x1B8, 8), (0x1BC, 0x100), (0x1C4, 0x300)]

/-- What the FM-owned LD presents besides (R435): DVSEC IDs 9 and 7. -/
def fmRegs (off : Nat) : Option Word :=
  pick off [(0x1D0, 0x1E010023), (0x1D4, 0x01001E98), (0x1D8, 0x00100009), (0x1E0, 0x00010023), (0x1E4, 0x00E21E98), (0x1E8, 0x00060007)]

/-- A word of configuration space. -/
def configWord (d : Device) (who : Option Ld) (off : Nat) : Word :=
  let l := whoOf d who
  ((pciRegs d.cx l off).or ((extendedRegs d l off).or ((dvsecRegs d l who.isSome off).or (if who.isNone then fmRegs off else none)))).getD 0

/-- A read of configuration space: bytes of one word. -/
def configLoad (who : Option Ld) (n off : Nat) (d : Device) : Device :=
  if !cxlUp d || decide (4 < off % 4 + n) then d
  else reply (((leBytes 4 (configWord d who (off - off % 4)).toNat).drop (off % 4)).take n) d

/-! ### The command -/

/-- LATCHED_LO_READ (R45, R10, R87, R101, R435): a read by a hart, of BAR0, or of configuration space. -/
def latchedLoReadEffect (sp : Space) (size : Size) (addr : Nat) (d : Device) : Device :=
  match sp with
  | .hart h => hartLoad h size.bytes addr d
  | .page who => bar0Load who size.bytes addr d
  | .config who => configLoad who size.bytes addr d
/-- LATCHED_LO_READ. -/
def execLatchedLoRead (sp : Space) (size : Size) (addr : Nat) (s : State) : Host.Outcome State Fault Refusal :=
  s.run (latchedLoReadEffect sp size addr)

end Sys2Proof.Machine
end

