-- ==== Sys2Proof/Machine/Sfdp.lean ====
section
/-! DEFINITION. The synthesised SFDP space of a presented flash (spec/06_boot_ports_and_flash_buses.md, R178–R180);
places of fields inside the JESD216 tables that R180 only names are notes/assumptions/21.md. -/

namespace Sys2Proof.Machine

/-- A 32-bit word of ones with the fields (lowest bit, width, value) set. -/
def onesWith (fs : List (Nat × Nat × Nat)) : Nat :=
  fs.foldl (fun acc f => acc - ((acc / 2 ^ f.1) % 2 ^ f.2.1) * 2 ^ f.1 + (f.2.2 % 2 ^ f.2.1) * 2 ^ f.1) 0xFFFFFFFF

/-- A fast-read half word: wait states, no mode clocks, opcode; 0 where the read is not supported (R179). -/
def fastReadField (supported : Bool) (wait op : Nat) : Nat := if supported then wait % 32 + 256 * op else 0

/-- An erase type half word, 0 where absent. -/
def eraseField (supported : Bool) (log2 op : Nat) : Nat := if supported then log2 + 256 * op else 0

/-- The 16 DWORDs of the basic flash parameter table (R180). The bits that state "no mode entry" and "not supported" are
notes/assumptions/21.md. -/
def bfpt (p : PortRec) : List Nat :=
  let e4 := p.eraseSizes.testBit 0
  let q114 := p.mode == 1 || p.mode == 2
  let q144 := p.mode == 2
  let q444 := p.mode == 3
  [ onesWith [(0, 2, if e4 then 1 else 3), (2, 1, 1), (3, 2, 0), (8, 8, if e4 then 0x20 else 0xFF), (16, 1, 0),
      (17, 2, if p.addrBytes == 3 then 0 else 1), (19, 1, 0), (20, 1, 0), (21, 1, flag q144), (22, 1, flag q114)],
    2 ^ (p.sizeLog2 + 3) - 1,
    fastReadField q144 p.dummyCycles 0xEB + 65536 * fastReadField q114 p.dummyCycles 0x6B,
    0,
    onesWith [(0, 1, 0), (4, 1, flag q444)],
    0x0000FFFF,
    0xFFFF + 65536 * fastReadField q444 p.dummyCycles 0xEB,
    eraseField e4 0x0C 0x20 + 65536 * eraseField (p.eraseSizes.testBit 1) 0x0F 0x52,
    eraseField (p.eraseSizes.testBit 2) 0x10 0xD8,
    0xFFFFFFFF,
    onesWith [(4, 4, 8)],
    0xFFFFFFFF,
    0xFFFFFFFF,
    0xFFFFFFFF,
    onesWith [(4, 5, 0), (20, 3, 0)],
    onesWith [(14, 10, 0), (24, 8, 0x20)] ]

/-- A dummy-cycle field of the xSPI profile table: all ones above ClockMHz (R179). -/
def xspiDummy (p : PortRec) (mhz : Nat) : Nat := if mhz ≤ p.clockMHz then p.dummyCycles else 0x1F

/-- The 6 DWORDs of the xSPI profile 1.0 table. -/
def xspiTable (p : PortRec) : List Nat :=
  [ onesWith [(8, 8, 0xEE)], 0xFFFFFFFF, 0xFFFFFFFF, onesWith [(7, 5, xspiDummy p 200)],
    onesWith [(27, 5, xspiDummy p 166), (17, 5, xspiDummy p 133), (7, 5, xspiDummy p 100)], 0xFFFFFFFF ]

/-- The SFDP space up to its last table (R179). -/
def sfdpSpace (p : PortRec) : List Byte :=
  let m4 := p.mode == 4
  let head := ascii "SFDP" ++ [0x06, 0x01, if m4 then 0x01 else 0x00, 0xFF]
  let ph0 := [0x00, 0x06, 0x01, 0x10, 0x20, 0x00, 0x00, 0xFF]
  let ph1 := if m4 then [0x05, 0x00, 0x01, 0x06, 0x60, 0x00, 0x00, 0xFF] else List.replicate 8 0xFF
  let fill := List.replicate 8 0xFF
  head ++ ph0 ++ ph1 ++ fill ++ (bfpt p).flatMap (leBytes 4) ++ (if m4 then (xspiTable p).flatMap (leBytes 4) else [])

/-- `n` bytes of SFDP from an address; 0xFF beyond the last table (R178). -/
def sfdpRead (p : PortRec) (addr n : Nat) : List Byte :=
  (List.range n).map fun i => (sfdpSpace p).getD (addr + i) 0xFF

end Sys2Proof.Machine
end

