-- ==== Sys2Proof/Machine/Ports.lean ====
section
/-! DEFINITION. The upstream boot ports: presented flash, its command set, eSPI, port reset
(spec/06_boot_ports_and_flash_buses.md, R168–R190, R204). -/

namespace Sys2Proof.Machine

open Sys2Proof

/-! ### Sources of presented bytes (R168, R169) -/

/-- The one source of a presented byte (R168): a served image, an image not being served, a presentation window with
Read, or none. -/
inductive Src where
  | none
  | image (i : ServeImage)
  | unserved (cached : Bool)
  | window (w : PresentRec)
  deriving DecidableEq, Repr

/-- A presented address lies in a range. -/
def covers (start len addr : Nat) : Bool := decide (start ≤ addr ∧ addr < start + len)

/-- The source of a presented byte under a leaf (R168). -/
def sourceAt (d : Device) (L : Leaf) (p addr : Nat) : Src :=
  let bd := portBd L p
  match (domain d bd).images.find? (fun i => covers i.imgRec.presentOffset i.imgRec.length addr) with
  | some i => .image i
  | none =>
    let slot := ((bdOf L bd).map (·.activeSlot)).getD 0
    match (if (domain d bd).images.isEmpty then
        L.images.find? (fun r => r.bd == bd && r.slot == slot && covers r.presentOffset r.length addr) else none) with
    | some r => .unserved (r.serveMode == 0)
    | none =>
      match L.presents.find? (fun w => w.port == p && covers w.presentOffset w.length addr) with
      | some w => if w.access.testBit 0 then .window w else .none
      | none => .none

/-- A byte that a read already has from flash. -/
def pieceByte (r : PortRead) (addr : Nat) : Option Byte :=
  r.pieces.findSome? (fun q => if covers q.1 q.2.length addr then q.2[addr - q.1]? else none)

/-- A byte of the image store as a port sees it: poisoned words read 0xFF (R236). -/
def storeByte (d : Device) (a : Nat) : Byte := if rangePoisoned d a 1 then 0xFF else memGet d.mem a

/-- A presented byte, or none while its source is not yet available (R169, R174, R244, R245). -/
def presentedByte (d : Device) (L : Leaf) (p : Nat) (r : PortRead) (addr : Nat) : Option Byte :=
  let b := domain d (portBd L p)
  match sourceAt d L p addr with
  | .none => some 0xFF
  | .unserved cached => if cached || b.state == .stopped then some 0xFF else none
  | .window _ => pieceByte r addr
  | .image i =>
    let off := addr - i.imgRec.presentOffset
    match i.imgRec.serveMode with
    | 0 => some (if i.verified then storeByte d (imgAddr i off) else 0xFF)
    | 1 => if b.runPoint && decide (off / 4096 < i.units) then some (storeByte d (imgAddr i off)) else none
    | _ => if i.closed then some 0xFF else if b.runPoint then pieceByte r addr else none

/-- A burst a presented read needs from flash: presented address, device, device address, length, and whether it is a
demand read of a Streamed image (R244). -/
structure Need where
  at_ : Nat
  dev : Nat
  addr : Nat
  len : Nat
  demand : Bool
  deriving DecidableEq, Repr

/-- The bursts of a presented range, 4 KiB by 4 KiB (R209, R244). -/
def needs (d : Device) (L : Leaf) (p stop : Nat) : Nat → Nat → List Need
  | 0, _ => []
  | fuel + 1, a =>
    if stop ≤ a then []
    else
      let next := (a / 4096 + 1) * 4096
      let here : List Need := match sourceAt d L p a with
        | .window w =>
          [{ at_ := a, dev := w.flash, addr := w.flashOffset + (a - w.presentOffset)
             len := min (min next stop) (w.presentOffset + w.length) - a, demand := false }]
        | .image i =>
          if i.imgRec.serveMode = 2 ∧ i.closed = false ∧ (domain d (portBd L p)).runPoint = true then
            let u := (a - i.imgRec.presentOffset) / 4096
            [{ at_ := i.imgRec.presentOffset + u * 4096, dev := i.imgRec.sourceFlash, addr := i.imgRec.sourceOffset + u * 4096
               len := 4096, demand := true }]
          else []
        | _ => []
      here ++ needs d L p stop fuel next

/-- What a presented read still needs from flash is asked for (R170, R244). -/
def askFlash (p : Nat) (d : Device) : Device :=
  match (portAt d p).read with
  | none => d
  | some r =>
    let L := leafBy d r.tag
    let ns := (needs d L p (r.addr + r.len) (r.len / 4096 + 2) r.addr).filter (fun n => !r.asked.any (fun q => q.1 == n.at_))
    ns.foldl (fun acc n =>
      enqueueCmd n.dev { op := 0, choice := .read, addr := n.addr, len := n.len, data := [], issuer := .portRead p n.at_
                         aid := if n.demand then 0x12 else 0x20 + p, tag := some r.tag, group := newGroup acc, member := 0 }
        (usedGroup (modPort p (fun u => { u with read := u.read.map (fun x => { x with asked := x.asked ++ [(n.at_, newGroup acc)] }) }) acc))) d

/-- The bytes of a read that are available from where it stands, and no further (R174). -/
def readyBytes (d : Device) (p : Nat) (r : PortRead) : List Byte :=
  let bs := (List.range (r.len - r.done)).map (fun i => presentedByte d (leafBy d r.tag) p r (r.addr + r.done + i))
  (bs.takeWhile (·.isSome)).filterMap id

/-- The bytes of an image, from its first, that a port's read takes from the image store (R169, R233, R245): all of a
verified Cached image, the resident units of a Fetch-ahead one from the run point on. -/
def storeServed (b : BootDomain) (i : ServeImage) : Nat :=
  match i.imgRec.serveMode with
  | 0 => if i.verified then i.imgRec.length else 0
  | 1 => if b.runPoint then min i.imgRec.length (4096 * i.units) else 0
  | _ => 0

/-- A word of a served image in a presented range, which the read takes from the store, is poisoned (R236). -/
def readPoisoned (d : Device) (L : Leaf) (p addr n : Nat) : Bool :=
  let b := domain d (portBd L p)
  b.images.any (fun i =>
    d.is_.poisoned.any (fun w => (List.range 8).any (fun k =>
      let a := storeBase + 8 * w + k
      covers (imgAddr i 0) (storeServed b i) a && covers addr n (i.imgRec.presentOffset + (a - imgAddr i 0)))))

/-- The words of served images in a presented range are read from the store: errors in them surface (R236, R572). -/
def surfaceStore (L : Leaf) (p addr n : Nat) (d : Device) : Device :=
  (domain d (portBd L p)).images.foldl (fun acc i =>
    let lo := max addr i.imgRec.presentOffset
    let hi := min (addr + n) (i.imgRec.presentOffset + storeServed (domain d (portBd L p)) i)
    if lo < hi then readErrors (imgAddr i (lo - i.imgRec.presentOffset)) (hi - lo) acc else acc) d

/-! ### Port state -/

/-- A port on which an operation of the earlier epoch may still finish, presented or not (R23): main power up, UPn_RESET#
high. -/
def portFinishes (d : Device) (p : Nat) : Bool := mainRuns d && d.tx.fabricLive && !vget d.pins.upReset p

/-- A port that answers: main power up, presented by the committed epoch, UPn_RESET# high (R55, R168). -/
def portAnswers (d : Device) (p : Nat) : Bool :=
  mainRuns d && d.tx.fabricLive && (portOf (curLeaf d) p).isSome && !vget d.pins.upReset p

/-- An undefined opcode (R172). -/
def undefinedOp (p op : Nat) (d : Device) : Device :=
  portError p 1 op 0 (reply [] (modPort p (fun u => { u with undefOp := true, resetEnable := false }) d))

/-- The clock of a command is measured (R189). -/
def clockCheck (p khz op addr : Nat) (r : PortRec) (d : Device) : Device :=
  if 105 * 1000 * r.clockMHz < 100 * khz then portError p 4 op addr (modPort p (fun u => { u with overClock := true }) d) else d

/-- A command of an answering port, its clock measured (R189), whose mode defines it (R171); elsewhere an undefined
opcode. -/
def portCommand (p op khz addr : Nat) (defined : Nat → PortRec → Bool) (f : PortRec → Device → Device) (d : Device) : Device :=
  if !portAnswers d p then d
  else match portOf (curLeaf d) p with
    | none => d
    | some r =>
      let d1 := clockCheck p khz op addr r d
      if defined r.mode r then f r (modPort p (fun u => { u with resetEnable := false }) d1) else undefinedOp p op d1

/-- Modes 0–4. -/
def spiMode (m : Nat) (_ : PortRec) : Bool := decide (m ≤ 4)

/-- A read on a port in modes 0–3 (R168, R173): every byte has its source at once; the first `late` bytes were not ready
and are driven 0xFF (R584). -/
def simpleRead (p addr n late : Nat) (d0 : Device) : Device :=
  let d := surfaceStore (curLeaf d0) p addr n d0
  let rd : PortRead := { addr := addr, len := n, done := 0, tag := curTag d, pieces := [], failed := false, asked := [] }
  let bs := (List.range n).map (fun i => (presentedByte d (curLeaf d) p rd (addr + i)).getD 0xFF)
  let d1 := modPort p (fun u => { u with last := addr }) d
  if d.pt.enable ∧ late ≠ 0 then
    let d2 := { d1 with pt := { d1.pt with lateReads := satAdd 16 d1.pt.lateReads 1, latePorts := setBit d1.pt.latePorts p } }
    event 0x0F11 3 [p, d2.pt.lateReads, field (BitVec.ofNat 32 (d.pt.zones[2].toNat)) 0 8, 0]
      (reply (List.replicate (min late n) 0xFF ++ bs.drop late) d2)
  else reply bs d1

/-! ### Reads in modes 4 and 5 -/

/-- A read in mode 4 (R174): what is available goes out; the rest waits under DQS. -/
def octalRead (p addr n : Nat) (d0 : Device) : Device :=
  let L := curLeaf d0
  let d := surfaceStore L p addr n d0
  let rd : PortRead := { addr := addr, len := n, done := 0, tag := curTag d, pieces := [], failed := false, asked := [] }
  let d1 := modPort p (fun u => { u with last := addr, read := none }) d
  if readPoisoned d L p addr n then reply (List.replicate n 0xFF) d1
  else
    let bs := readyBytes d p rd
    if bs.length = n then reply bs d1
    else reply bs (askFlash p (modPort p (fun u =>
      { u with read := some { rd with done := bs.length }, dqsWaits := satAdd 16 u.dqsWaits 1 }) d1))

/-- A waiting mode 4 read goes on with what has become available (R174); a wait that has ended gives 0xFF (R176), and
so does a poisoned word (R236) and a read that CS# ended cleanly. -/
def resumeRead (p : Nat) (ended : Bool) (d0 : Device) : Device :=
  match (portAt d0 p).read with
  | none => d0
  | some r0 =>
    if (portAt d0 p).deferred.isSome then d0
    else
      let L := leafBy d0 r0.tag
      let d := surfaceStore L p (r0.addr + r0.done) (r0.len - r0.done) d0
      let r := ((portAt d p).read).getD r0
      if ended || r.failed || readPoisoned d L p (r.addr + r.done) (r.len - r.done) then
        reply (List.replicate (r.len - r.done) 0xFF) (modPort p (fun u => { u with read := none }) d)
      else
        let bs := readyBytes d p r
        if r.done + bs.length = r.len then reply bs (modPort p (fun u => { u with read := none }) d)
        else reply bs (askFlash p (modPort p (fun u => { u with read := some { r with done := r.done + bs.length } }) d))

/-! ### Program and erase (R181–R183) -/

/-- The presented range a program or erase writes under a window's device (R181). -/
def writeRange (L : Leaf) (w : PresentRec) (addr len : Nat) (erase : Option Nat) : Nat × Nat :=
  match erase with
  | some n => (addr / n * n, n)
  | none =>
    match flashOf L w.flash with
    | some r => programRange r.pageSize addr len
    | none => (addr, len)

/-- The window through which a program or erase goes (R181). -/
def writeWindow (L : Leaf) (p addr len : Nat) (erase : Option Nat) : Option PresentRec :=
  L.presents.find? (fun w =>
    let g := writeRange L w addr len erase
    w.port == p && w.access.testBit 1 && decide (w.presentOffset ≤ g.1 ∧ g.1 + g.2 ≤ w.presentOffset + w.length))

/-- What a discarded program or erase leaves in the port (R177, R181). -/
def discardMarks (p : Nat) (isErase : Bool) (d : Device) : Device :=
  modPort p (fun u =>
    { u with
      protected_ := true, wel := false, writeDiscarded := true
      eraseError := u.eraseError || isErase, programError := u.programError || !isErase }) d

/-- A program or erase is discarded (R181), with event 0x0726. -/
def discardWrite (p op addr : Nat) (isErase : Bool) (d : Device) : Device := portError p 5 op addr (discardMarks p isErase d)

/-- A program or erase is forwarded (R181, R214): the group of write enable and the command; `op` is the port's opcode. -/
def forwardWrite (p : Nat) (w : PresentRec) (op addr : Nat) (data : List Byte) (erase : Option Nat) (d : Device) : Device :=
  let g := newGroup d
  let base : FlashCmd :=
    { op := 0x06, addr := 0, len := 0, data := [], issuer := .portWrite p, aid := 0x20 + p, tag := some (curTag d), group := g, member := 0 }
  let cmd := { base with choice := (match erase with
                           | some n => .erase n
                           | none => .program)
                         addr := w.flashOffset + (addr - w.presentOffset), len := data.length, data := data, member := 1 }
  enqueueCmd w.flash cmd (enqueueCmd w.flash base (usedGroup (modPort p (fun u =>
    { u with wip := true, wel := false, protected_ := false, wrote := (op, addr) }) d)))

/-- A program or erase in modes 0–4 (R181, R183). A page program without a data byte is discarded (DESIGN CHOICE,
notes/assumptions/117.md). -/
def portWrite (p op addr : Nat) (data : List Byte) (erase : Option Nat) (d : Device) : Device :=
  let u := portAt d p
  let d1 := reply [] (modPort p (fun x => { x with last := addr }) d)
  match writeWindow (curLeaf d) p addr data.length erase with
  | some w => if u.wel && !u.wip && (erase.isSome || !data.isEmpty) then forwardWrite p w op addr data erase d1
    else discardWrite p op addr erase.isSome d1
  | none => discardWrite p op addr erase.isSome d1

/-! ### Port reset (R187) -/

/-- A port reset; cause 1 pin, 2 command, 3 eSPI in-band (R187, R219, R230, R204). -/
def portReset (p cause : Nat) (d : Device) : Device :=
  let u := portAt d p
  let d1 := withdrawAll (fun c => issuerPort c == some p) 12
    (modPort p (fun x => { x with read := none, deferred := none, alert := false }) d)
  let busy := flag (portAt d1 p).wip
  let d2 := modPort p (fun x =>
    { x with
      wel := false, eraseError := false, programError := false, protected_ := false, resetEnable := false, errKinds := 0, laterErrors := 0
      quarantined := false, quarDenied := 0 }) d1
  let d3 := if u.quarantined then event 0x0703 2 [0x20 + p, u.quarDenied, 0, 0] d2 else d2
  event 0x0725 1 [p, cause, flag u.deferred.isSome, busy] d3

/-! ### eSPI (R184–R186) -/

/-- What an eSPI port reports of itself (R184): I/O modes (bit 0 single, 1 dual, 2 quad), maximum frequency, the channels it
has (bit 0 peripheral, 1 virtual wire, 2 OOB, 3 flash), the sizes of the flash access channel, and how many flash requests
it defers. -/
structure EspiCaps where
  ioModes : Nat := 7
  maxMHz : Nat := 66
  alertPin : Bool := true
  channels : Nat := 9
  flashTargetAttached : Bool := true
  maxRead : Nat := 64
  maxPayload : Nat := 64
  eraseBlock : Nat := 4096
  deferred : Nat := 1
  deriving DecidableEq, Repr

/-- The capabilities of every mode 5 port (R184); no command of the table reads them (notes/assumptions/100.md). -/
def espiCaps : EspiCaps := {}

/-- The eSPI command opcode of a flash request to a target that has the flash attached (notes/assumptions/100.md). -/
def espiFlashOp : Nat := 0x0A

/-- An eSPI completion with data, as the model's `reply` shows it. -/
def espiOk (bs : List Byte) : List Byte := 0x01 :: bs
/-- DEFER. -/
def espiDefer : List Byte := [0x02]
/-- An unsuccessful completion. -/
def espiFail : List Byte := [0x00]
/-- FATAL_ERROR. -/
def espiFatal : List Byte := [0x03]

/-- An eSPI request on an answering mode 5 port with no deferred request outstanding (R185); its clock is measured
(R189). -/
def espiRequest (p khz addr : Nat) (f : PortRec → Device → Device) (d : Device) : Device :=
  if !portAnswers d p then d
  else match portOf (curLeaf d) p with
    | none => d
    | some r =>
      let d1 := clockCheck p khz espiFlashOp addr r d
      if r.mode != 5 then undefinedOp p espiFlashOp d1 else if (portAt d1 p).deferred.isSome then reply [] d1 else f r d1

/-- A request completes unsuccessfully with ProtoErr (R185). -/
def espiRefuse (p kind addr : Nat) (d : Device) : Device :=
  portError p kind espiFlashOp addr (reply espiFail (modPort p (fun u => { u with protoErr := true }) d))

/-- An eSPI flash read (R185, R236). -/
def espiRead (p addr n : Nat) (r : PortRec) (d0 : Device) : Device :=
  if espiCaps.maxRead < n ∨ 2 ^ r.sizeLog2 < addr + n then espiRefuse p 3 addr d0
  else
    let d := surfaceStore (curLeaf d0) p addr n d0
    let rd : PortRead := { addr := addr, len := n, done := 0, tag := curTag d, pieces := [], failed := false, asked := [] }
    let d1 := modPort p (fun u => { u with last := addr }) d
    if readPoisoned d (curLeaf d) p addr n then reply espiFail d1
    else
      let bs := readyBytes d p rd
      if bs.length = n then reply (espiOk bs) d1
      else reply espiDefer (askFlash p (modPort p (fun u =>
        { u with read := some rd, defers := satAdd 16 u.defers 1
                 deferred := some { kind := 0, addr := addr, len := n, completion := none } }) d1))

/-- An eSPI flash write or erase (R185, R181); a write of no bytes is forwarded (DESIGN CHOICE, notes/assumptions/117.md). -/
def espiWrite (p addr : Nat) (data : List Byte) (erase : Option Nat) (r : PortRec) (d : Device) : Device :=
  let d1 := modPort p (fun u => { u with last := addr }) d
  if espiCaps.maxPayload < data.length ∨ 2 ^ r.sizeLog2 ≤ addr then espiRefuse p 3 addr d1
  else
    let bad := espiRefuse p 5 addr (modPort p (fun u => { u with writeDiscarded := true }) d1)
    match writeWindow (curLeaf d) p addr data.length erase with
    | some w =>
      if (portAt d p).wip then bad
      else reply espiDefer (forwardWrite p w espiFlashOp addr data erase (modPort p (fun u =>
        { u with defers := satAdd 16 u.defers 1
                 deferred := some { kind := if erase.isSome then 2 else 1, addr := addr, len := data.length, completion := none } }) d1))
    | none => bad

/-- The completion of a deferred request, with ALERT# (R186). -/
def completeDeferred (p : Nat) (q : Deferred) (ok : Bool) (bs : List Byte) (d : Device) : Device :=
  modPort p (fun x => { x with alert := true, deferred := some { q with completion := some (ok, bs) } }) d

/-- A deferred request's completion is ready (R186). -/
def deferredReady (p : Nat) (d0 : Device) : Device :=
  match (portAt d0 p).deferred, (portAt d0 p).read with
  | some q, r0 =>
    match q.completion, r0 with
    | some _, _ => modPort p (fun x => { x with alert := true }) d0
    | none, none => d0
    | none, some r =>
      if q.kind != 0 then d0
      else
        let L := leafBy d0 r.tag
        let bs := readyBytes d0 p r
        if r.failed then completeDeferred p q false [] d0
        else if bs.length = r.len then
          let d := surfaceStore L p r.addr r.len d0
          if readPoisoned d L p r.addr r.len then completeDeferred p q false [] d else completeDeferred p q true bs d
        else if readPoisoned d0 L p r.addr r.len then completeDeferred p q false [] d0
        else askFlash p d0
  | none, _ => d0

/-! ### The commands -/

/-- READ_ID (R171). -/
def readIdEffect (p : Port) (n : Nat) (khz : Nat) (d : Device) : Device :=
  portCommand p 0x9F khz 0 spiMode (fun r => reply (padTo n r.jedecId)) d
/-- READ_ID. -/
def execReadId (p : Port) (n : Nat) (khz : Nat) (s : State) : Host.Outcome State Fault Refusal := s.run (readIdEffect p n khz)

/-- READ_SFDP (R178–R180). -/
def readSfdpEffect (p : Port) (addr n : Nat) (khz : Nat) (d : Device) : Device :=
  portCommand p 0x5A khz addr spiMode (fun r => reply (sfdpRead r addr n)) d
/-- READ_SFDP. -/
def execReadSfdp (p : Port) (addr n : Nat) (khz : Nat) (s : State) : Host.Outcome State Fault Refusal := s.run (readSfdpEffect p addr n khz)

/-- READ_STATUS (R177). -/
def readStatusEffect (p : Port) (n : Nat) (khz : Nat) (d : Device) : Device :=
  portCommand p 0x05 khz 0 spiMode (fun _ d1 => reply (List.replicate n (statusByte (portAt d1 p))) d1) d
/-- READ_STATUS. -/
def execReadStatus (p : Port) (n : Nat) (khz : Nat) (s : State) : Host.Outcome State Fault Refusal := s.run (readStatusEffect p n khz)

/-- READ_FLAG_STATUS (R177). -/
def readFlagStatusEffect (p : Port) (n : Nat) (khz : Nat) (d : Device) : Device :=
  portCommand p 0x70 khz 0 spiMode (fun _ d1 => reply (List.replicate n (flagStatusByte (portAt d1 p))) d1) d
/-- READ_FLAG_STATUS. -/
def execReadFlagStatus (p : Port) (n : Nat) (khz : Nat) (s : State) : Host.Outcome State Fault Refusal :=
  s.run (readFlagStatusEffect p n khz)

/-- CLEAR_FLAG_STATUS clears bits 5, 4 and 1 (R171). -/
def clearFlagStatusEffect (p : Port) (khz : Nat) (d : Device) : Device :=
  portCommand p 0x50 khz 0 spiMode (fun _ => modPort p (fun u => { u with eraseError := false, programError := false, protected_ := false })) d
/-- CLEAR_FLAG_STATUS. -/
def execClearFlagStatus (p : Port) (khz : Nat) (s : State) : Host.Outcome State Fault Refusal := s.run (clearFlagStatusEffect p khz)

/-- WRITE_ENABLE sets WEL (R177). -/
def writeEnableEffect (p : Port) (khz : Nat) (d : Device) : Device :=
  portCommand p 0x06 khz 0 spiMode (fun _ => modPort p (fun u => { u with wel := true })) d
/-- WRITE_ENABLE. -/
def execWriteEnable (p : Port) (khz : Nat) (s : State) : Host.Outcome State Fault Refusal := s.run (writeEnableEffect p khz)

/-- WRITE_DISABLE clears WEL (R177). -/
def writeDisableEffect (p : Port) (khz : Nat) (d : Device) : Device :=
  portCommand p 0x04 khz 0 spiMode (fun _ => modPort p (fun u => { u with wel := false })) d
/-- WRITE_DISABLE. -/
def execWriteDisable (p : Port) (khz : Nat) (s : State) : Host.Outcome State Fault Refusal := s.run (writeDisableEffect p khz)

/-- READ (0x03, 0x13; R171, R173): modes 0–2 with ClockMHz at most 6. -/
def readEffect (p : Port) (four : Bool) (addr n khz late : Nat) (d : Device) : Device :=
  let op := if four then 0x13 else 0x03
  portCommand p op khz addr (fun m r => decide (m ≤ 2 ∧ r.clockMHz ≤ 6)) (fun _ => simpleRead p addr n late) d
/-- READ. -/
def execRead (p : Port) (four : Bool) (addr n khz late : Nat) (s : State) : Host.Outcome State Fault Refusal :=
  s.run (readEffect p four addr n khz late)

/-- FAST_READ (0x0B, 0x0C): modes 0–3. -/
def fastReadEffect (p : Port) (four : Bool) (addr n khz late : Nat) (d : Device) : Device :=
  let op := if four then 0x0C else 0x0B
  portCommand p op khz addr (fun m _ => decide (m ≤ 3)) (fun _ => simpleRead p addr n late) d
/-- FAST_READ. -/
def execFastRead (p : Port) (four : Bool) (addr n khz late : Nat) (s : State) : Host.Outcome State Fault Refusal :=
  s.run (fastReadEffect p four addr n khz late)

/-- FAST_READ_QUAD_OUTPUT (0x6B, 0x6C): modes 1 and 2. -/
def fastReadQuadOutputEffect (p : Port) (four : Bool) (addr n khz late : Nat) (d : Device) : Device :=
  let op := if four then 0x6C else 0x6B
  portCommand p op khz addr (fun m _ => m == 1 || m == 2) (fun _ => simpleRead p addr n late) d
/-- FAST_READ_QUAD_OUTPUT. -/
def execFastReadQuadOutput (p : Port) (four : Bool) (addr n khz late : Nat) (s : State) :
    Host.Outcome State Fault Refusal := s.run (fastReadQuadOutputEffect p four addr n khz late)

/-- FAST_READ_QUAD_IO (0xEB, 0xEC): modes 2 and 3. -/
def fastReadQuadIoEffect (p : Port) (four : Bool) (addr n khz late : Nat) (d : Device) : Device :=
  let op := if four then 0xEC else 0xEB
  portCommand p op khz addr (fun m _ => m == 2 || m == 3) (fun _ => simpleRead p addr n late) d
/-- FAST_READ_QUAD_IO. -/
def execFastReadQuadIo (p : Port) (four : Bool) (addr n khz late : Nat) (s : State) :
    Host.Outcome State Fault Refusal := s.run (fastReadQuadIoEffect p four addr n khz late)

/-- OCTAL_DDR_READ (0xEE): mode 4. -/
def octalDdrReadEffect (p : Port) (addr n khz : Nat) (d : Device) : Device :=
  portCommand p 0xEE khz addr (fun m _ => m == 4) (fun _ => octalRead p addr n) d
/-- OCTAL_DDR_READ. -/
def execOctalDdrRead (p : Port) (addr n khz : Nat) (s : State) : Host.Outcome State Fault Refusal :=
  s.run (octalDdrReadEffect p addr n khz)

/-- PRESENTED_READ_RESUME (R174, R176); `ended` says that the wait ends early. -/
def presentedReadResumeEffect (p : Port) (ended : Bool) (d : Device) : Device :=
  if portFinishes d p then resumeRead p ended d else d
/-- PRESENTED_READ_RESUME. -/
def execPresentedReadResume (p : Port) (ended : Bool) (s : State) : Host.Outcome State Fault Refusal :=
  s.run (presentedReadResumeEffect p ended)

/-- PAGE_PROGRAM (0x02; 0x12 in mode 4; R171, R181). -/
def pageProgramEffect (p : Port) (four : Bool) (addr : Nat) (data : List Byte) (khz : Nat) (d : Device) : Device :=
  let op := if four then 0x12 else 0x02
  portCommand p op khz addr (fun m _ => if four then m == 4 else decide (m ≤ 4)) (fun _ => portWrite p op addr data none) d
/-- PAGE_PROGRAM. -/
def execPageProgram (p : Port) (four : Bool) (addr : Nat) (data : List Byte) (khz : Nat) (s : State) :
    Host.Outcome State Fault Refusal := s.run (pageProgramEffect p four addr data khz)

/-- ERASE_4K (0x20, 0x21), where EraseSizes allows it (R171, R181). -/
def erase4kEffect (p : Port) (four : Bool) (addr : Nat) (khz : Nat) (d : Device) : Device :=
  let op := if four then 0x21 else 0x20
  portCommand p op khz addr (fun m r => decide (m ≤ 4) && r.eraseSizes.testBit 0) (fun _ => portWrite p op addr [] (some 4096)) d
/-- ERASE_4K. -/
def execErase4k (p : Port) (four : Bool) (addr : Nat) (khz : Nat) (s : State) : Host.Outcome State Fault Refusal :=
  s.run (erase4kEffect p four addr khz)

/-- ERASE_32K (0x52, 0x5C). -/
def erase32kEffect (p : Port) (four : Bool) (addr : Nat) (khz : Nat) (d : Device) : Device :=
  let op := if four then 0x5C else 0x52
  portCommand p op khz addr (fun m r => decide (m ≤ 4) && r.eraseSizes.testBit 1) (fun _ => portWrite p op addr [] (some 32768)) d
/-- ERASE_32K. -/
def execErase32k (p : Port) (four : Bool) (addr : Nat) (khz : Nat) (s : State) : Host.Outcome State Fault Refusal :=
  s.run (erase32kEffect p four addr khz)

/-- ERASE_64K (0xD8, 0xDC). -/
def erase64kEffect (p : Port) (four : Bool) (addr : Nat) (khz : Nat) (d : Device) : Device :=
  let op := if four then 0xDC else 0xD8
  portCommand p op khz addr (fun m r => decide (m ≤ 4) && r.eraseSizes.testBit 2) (fun _ => portWrite p op addr [] (some 65536)) d
/-- ERASE_64K. -/
def execErase64k (p : Port) (four : Bool) (addr : Nat) (khz : Nat) (s : State) : Host.Outcome State Fault Refusal :=
  s.run (erase64kEffect p four addr khz)

/-- RESET_ENABLE (0x66) enables the next command's reset (R171). -/
def resetEnableEffect (p : Port) (khz : Nat) (d : Device) : Device :=
  portCommand p 0x66 khz 0 spiMode (fun _ => modPort p (fun u => { u with resetEnable := true })) d
/-- RESET_ENABLE. -/
def execResetEnable (p : Port) (khz : Nat) (s : State) : Host.Outcome State Fault Refusal := s.run (resetEnableEffect p khz)

/-- RESET (0x99) acts only on a standing enable (R171, R187). -/
def resetEffect (p : Port) (khz : Nat) (d : Device) : Device :=
  let en := (portAt d p).resetEnable
  portCommand p 0x99 khz 0 spiMode (fun _ d1 => if en then portReset p 2 d1 else d1) d
/-- RESET. -/
def execReset (p : Port) (khz : Nat) (s : State) : Host.Outcome State Fault Refusal := s.run (resetEffect p khz)

/-- UNDEFINED_OPCODE (R172). -/
def undefinedOpcodeEffect (p : Port) (op : Nat) (khz : Nat) (d : Device) : Device :=
  portCommand p op khz 0 (fun _ _ => false) (fun _ => id) d
/-- UNDEFINED_OPCODE. -/
def execUndefinedOpcode (p : Port) (op : Nat) (khz : Nat) (s : State) : Host.Outcome State Fault Refusal :=
  s.run (undefinedOpcodeEffect p op khz)

/-- A program or erase opcode that a port defines (R171): whether it is an erase. -/
def writeOpcode (op m : Nat) (r : PortRec) : Option Bool :=
  if (op = 0x02 ∧ m ≤ 4) ∨ (op = 0x12 ∧ m = 4) then some false
  else if m ≤ 4 ∧ ((op ∈ [0x20, 0x21] ∧ r.eraseSizes.testBit 0 = true) ∨ (op ∈ [0x52, 0x5C] ∧ r.eraseSizes.testBit 1 = true) ∨
      (op ∈ [0xD8, 0xDC] ∧ r.eraseSizes.testBit 2 = true)) then some true
  else none

/-- CS_RAISED_EARLY (R188): before its last address byte a command has no effect; a read under way ends cleanly; past its
address (`addr`), a program or erase cut within a byte is discarded (R181), and no error is recorded. -/
def csRaisedEarlyEffect (p : Port) (op khz : Nat) (addr : Option Nat) (d : Device) : Device :=
  if !portAnswers d p then d
  else match portOf (curLeaf d) p with
    | none => d
    | some r =>
      let d1 := modPort p (fun u => { u with resetEnable := false, read := if u.deferred.isSome then u.read else none })
        (clockCheck p khz op (addr.getD 0) r d)
      match addr, writeOpcode op r.mode r with
      | some a, some isErase => discardMarks p isErase (modPort p (fun u => { u with last := a }) d1)
      | _, _ => d1
/-- CS_RAISED_EARLY. -/
def execCsRaisedEarly (p : Port) (op khz : Nat) (addr : Option Nat) (s : State) : Host.Outcome State Fault Refusal :=
  s.run (csRaisedEarlyEffect p op khz addr)

/-- UP_RESET_ASSERT (R187): UPn_RESET# goes low. -/
def upResetAssertEffect (p : Port) (d : Device) : Device :=
  let d1 := { d with pins := { d.pins with upReset := d.pins.upReset.set p true } }
  if mainRuns d then portReset p 1 d1 else d1
/-- UP_RESET_ASSERT. -/
def execUpResetAssert (p : Port) (s : State) : Host.Outcome State Fault Refusal := s.run (upResetAssertEffect p)

/-- UP_RESET_RELEASE (R168): UPn_RESET# rises. -/
def upResetReleaseEffect (p : Port) (d : Device) : Device :=
  { d with pins := { d.pins with upReset := d.pins.upReset.set p false } }
/-- UP_RESET_RELEASE. -/
def execUpResetRelease (p : Port) (s : State) : Host.Outcome State Fault Refusal := s.run (upResetReleaseEffect p)

/-- ESPI_FLASH_READ (R185). -/
def espiFlashReadEffect (p : Port) (addr n : Nat) (khz : Nat) (d : Device) : Device := espiRequest p khz addr (espiRead p addr n) d
/-- ESPI_FLASH_READ. -/
def execEspiFlashRead (p : Port) (addr n : Nat) (khz : Nat) (s : State) : Host.Outcome State Fault Refusal :=
  s.run (espiFlashReadEffect p addr n khz)

/-- ESPI_FLASH_WRITE (R185). -/
def espiFlashWriteEffect (p : Port) (addr : Nat) (data : List Byte) (khz : Nat) (d : Device) : Device :=
  espiRequest p khz addr (espiWrite p addr data none) d
/-- ESPI_FLASH_WRITE. -/
def execEspiFlashWrite (p : Port) (addr : Nat) (data : List Byte) (khz : Nat) (s : State) : Host.Outcome State Fault Refusal :=
  s.run (espiFlashWriteEffect p addr data khz)

/-- ESPI_FLASH_ERASE, 4 KiB (R185). -/
def espiFlashEraseEffect (p : Port) (addr : Nat) (khz : Nat) (d : Device) : Device := espiRequest p khz addr (espiWrite p addr [] (some 4096)) d
/-- ESPI_FLASH_ERASE. -/
def execEspiFlashErase (p : Port) (addr : Nat) (khz : Nat) (s : State) : Host.Outcome State Fault Refusal :=
  s.run (espiFlashEraseEffect p addr khz)

/-- ESPI_PERIPHERAL_REQUEST completes unsuccessfully (R184). -/
def espiPeripheralRequestEffect (p : Port) (khz : Nat) (d : Device) : Device :=
  portCommand p 0x00 khz 0 (fun m _ => m == 5) (fun _ => reply espiFail) d
/-- ESPI_PERIPHERAL_REQUEST. -/
def execEspiPeripheralRequest (p : Port) (khz : Nat) (s : State) : Host.Outcome State Fault Refusal :=
  s.run (espiPeripheralRequestEffect p khz)

/-- ESPI_UNDEFINED_COMMAND (R184). -/
def espiUndefinedCommandEffect (p : Port) (op : Nat) (khz : Nat) (d : Device) : Device :=
  portCommand p op khz 0 (fun _ _ => false) (fun _ => id) d
/-- ESPI_UNDEFINED_COMMAND. -/
def execEspiUndefinedCommand (p : Port) (op : Nat) (khz : Nat) (s : State) : Host.Outcome State Fault Refusal :=
  s.run (espiUndefinedCommandEffect p op khz)

/-- ESPI_CRC_ERROR (R185). -/
def espiCrcErrorEffect (p : Port) (op khz : Nat) (d : Device) : Device :=
  if portMode (curLeaf d) p = 5 then
    portCommand p op khz 0 (fun _ _ => true) (fun _ d1 =>
      portError p 2 op 0 (reply espiFatal (modPort p (fun u => { u with protoErr := true }) d1))) d
  else d
/-- ESPI_CRC_ERROR. -/
def execEspiCrcError (p : Port) (op khz : Nat) (s : State) : Host.Outcome State Fault Refusal := s.run (espiCrcErrorEffect p op khz)

/-- DEFERRED_COMPLETION_READY (R186). -/
def deferredCompletionReadyEffect (p : Port) (d : Device) : Device := if portFinishes d p then deferredReady p d else d
/-- DEFERRED_COMPLETION_READY. -/
def execDeferredCompletionReady (p : Port) (s : State) : Host.Outcome State Fault Refusal :=
  s.run (deferredCompletionReadyEffect p)

/-- The clock of a command on a port that the committed epoch presents is measured (R189). -/
def portClock (p khz op : Nat) (d : Device) : Device :=
  match portOf (curLeaf d) p with
  | some r => clockCheck p khz op 0 r d
  | none => d

/-- ESPI_COMPLETION_FETCH (R186), also where a couch has taken the port out of the epoch meanwhile (R23). -/
def espiCompletionFetchEffect (p : Port) (khz : Nat) (d : Device) : Device :=
  if !portFinishes d p then d
  else match (portAt d p).deferred with
    | some q =>
      match q.completion, (portAt d p).alert with
      | some (ok, bs), true =>
        reply (if ok then espiOk bs else espiFail)
          (modPort p (fun u => { u with deferred := none, alert := false, read := none }) (portClock p khz espiFlashOp d))
      | _, _ => portClock p khz espiFlashOp d
    | none => portClock p khz espiFlashOp d
/-- ESPI_COMPLETION_FETCH. -/
def execEspiCompletionFetch (p : Port) (khz : Nat) (s : State) : Host.Outcome State Fault Refusal :=
  s.run (espiCompletionFetchEffect p khz)

/-- ESPI_IN_BAND_RESET (R187). -/
def espiInBandResetEffect (p : Port) (khz : Nat) (d : Device) : Device :=
  if portAnswers d p && portMode (curLeaf d) p == 5 then portReset p 3 (portClock p khz 0xFF d) else d
/-- ESPI_IN_BAND_RESET. -/
def execEspiInBandReset (p : Port) (khz : Nat) (s : State) : Host.Outcome State Fault Refusal := s.run (espiInBandResetEffect p khz)

end Sys2Proof.Machine
end

