-- ==== Sys2Proof/Machine/Pins.lean ====
section
/-! DEFINITION. What the pins show (spec/02_signals_and_electrical.md, R52–R55, R71, R72; spec/08, R253, R254;
spec/04, R133): each pin's level follows from the state. What R52 leaves to a bus mode, a presented mode or the card
protocol is `active`; notes/assumptions/109.md. -/

namespace Sys2Proof.Machine

open Sys2Proof

/-- What the device does at a pin: no supply, driven low or high, high impedance, an input or output held by its weak pull-down
or pull-up, a lane at electrical idle, or driven as the protocol of its group says. -/
inductive PinDrive where
  | unpowered | low | high | highZ | pullDown | pullUp | electricalIdle | active
  deriving DecidableEq, Repr, Inhabited

/-- Driven high or low. -/
def driven (b : Bool) : PinDrive := if b then .high else .low

/-- The main rails supply the pins of VIO18 and VIO33. -/
def railsOn (d : Device) : Bool := d.pins.mainRails

/-- The initial couch has configured the pin groups, and main reset is over (R52). -/
def pinsConfigured (d : Device) : Bool := mainUp d && d.pins.mainPg && d.tx.fabricLive

/-- A pin of the main rails: what it shows in main reset, and once it is configured. -/
def mainPin (d : Device) (inReset configured : PinDrive) : PinDrive :=
  if !railsOn d then .unpowered else if pinsConfigured d then configured else inReset

/-! ### Gates and FAULT# (R71, R72) -/

/-- The gate is push-pull in the committed epoch. -/
def pushPull (d : Device) (g : Nat) : Bool := (curLeaf d).gates.any (fun r => r.gate == g && r.drive == 0)

/-- GATEn (R72): held low; released, it is driven high, or let go to the board's pull-up. Without VSTBY it has no supply. -/
def gatePin (d : Device) (g : Nat) : PinDrive :=
  if !d.pins.vstby then .unpowered
  else if !hasBit d.is_.gates g then .low
  else if pushPull d g then .high else .highZ

/-- What a gate pin shows in turn as VSTBY comes up (R60 steps 2 and 3, R72), which VSTBY_POWER_ON passes through in one
command: no supply, the internal pull-down, driven low. -/
def gatePowerOn : List PinDrive := [.unpowered, .pullDown, .low]

/-- FAULT# is driven low (R71): in the F2 safe state and until the next initial couch, in Scrap and Indeterminate. -/
def faultLow (d : Device) : Bool := d.power.state == .safe || d.power.faultHeld || d.lc.state == 7 || d.lc.state == 8

/-- FAULT#, an open drain of the standby bank. -/
def faultPin (d : Device) : PinDrive := if !d.pins.vstby then .unpowered else if faultLow d then .low else .highZ

/-! ### GPIO (R52, R133, R253, R254) -/

/-- The record of a GPIO. -/
def gpioRec (d : Device) (g : Nat) : Option PinRec := (curLeaf d).pins.find? (fun p => p.kind == 1 && p.index == g)

/-- A configured GPIO by its record: an input, a static level, high while its domain is Passed, or its domain's run-point
output, which the F2 safe state holds low. -/
def gpioDriven (d : Device) (r : PinRec) : PinDrive :=
  match r.function with
  | 2 => driven (r.param == 1)
  | 3 => driven ((domain d r.param).state == .passed)
  | 4 => driven (domain d r.param).runOut
  | _ => .pullDown

/-- GPIOg: an input with its pull-down in main reset and while MAIN_PG is low; in Deep Sleep the outputs of functions 3 and 4
are low (R254). -/
def gpioPin (d : Device) (g : Nat) : PinDrive :=
  let r := gpioRec d g
  if railsOn d && d.pins.mainPg && asleep d && r.any (fun x => 3 ≤ x.function) then .low
  else mainPin d .pullDown ((r.map (gpioDriven d)).getD .pullDown)

/-! ### Flash buses (R52–R54) -/

/-- A command of the device is on its bus. -/
def commandOn (d : Device) (f : Nat) : Bool := (tsAt d f).current.isSome

/-- FBm_SCK: low but for a command on the bus. -/
def sckPin (d : Device) (m : Nat) : PinDrive :=
  mainPin d .low (if (List.range 4).any (fun k => commandOn d (4 * m + k)) then .active else .low)

/-- The chip select of flash device `f`: low while a command of it is on the bus, high else. -/
def csPin (d : Device) (f : Nat) : PinDrive := mainPin d .high (driven (!commandOn d f))

/-- FBm_IO: high impedance with its pull-down but for a command on the bus. -/
def flashIoPin (d : Device) (m : Nat) : PinDrive :=
  mainPin d .pullDown (if (List.range 4).any (fun k => commandOn d (4 * m + k)) then .active else .pullDown)

/-- RSTk# of flash device `f` (R53, R54). -/
def rstPin (d : Device) (f : Nat) : PinDrive := mainPin d .low (driven (devAt d f).rstHigh)

/-! ### Upstream ports (R52, R55) -/

/-- UPn_IO: high impedance where R55 says so; a presented port drives it as its mode says. -/
def upIoPin (d : Device) (n : Nat) : PinDrive := mainPin d .pullDown (if portAnswers d n then .active else .pullDown)

/-- UPn_DQS: driven in mode 4 only. -/
def upDqsPin (d : Device) (n : Nat) : PinDrive :=
  mainPin d .pullDown (if portAnswers d n && portMode (curLeaf d) n == 4 then .active else .pullDown)

/-- UPn_ALERT#, an open drain, used in mode 5 only. -/
def alertPin (d : Device) (n : Nat) : PinDrive :=
  mainPin d .highZ (if portAnswers d n && portMode (curLeaf d) n == 5 && (portAt d n).alert then .low else .highZ)

/-! ### Card port, I3C, JTAG (R52) -/

/-- CD_CLK: low but for a command on the card bus. -/
def cardClockPin (d : Device) : PinDrive := if !railsOn d then .unpowered else if d.cd.phase == .none then .low else .active
/-- CD_CMD and CD_DAT. -/
def cardLinePin (d : Device) : PinDrive := if !railsOn d then .unpowered else if d.cd.phase == .none then .highZ else .active
/-- Kn_PWR (R500), which hart 0 also raises in ROM recovery. -/
def cardPowerPin (d : Device) (s : Nat) : PinDrive := if !railsOn d then .unpowered else driven (mainUp d && hasBit d.cdStat.powered s)
/-- M0 and M1: a port without a mode stays at high impedance. -/
def i3cPin (d : Device) (m : Nat) : PinDrive :=
  if !railsOn d then .unpowered else if mainUp d && d.pins.mainPg && i3cMode d m != 0 then .active else .highZ
/-- TDO (R52): driven with the bit shifted out in a Shift state, which a JTAG command passes through; high impedance in every
other state and while MAIN is in reset. -/
def tdoPin (d : Device) (shift : Option Bool) : PinDrive :=
  if !railsOn d then .unpowered else if mainUp d && d.pins.mainPg then (shift.map driven).getD .highZ else .highZ

/-! ### CXL lanes, tamper drivers, inputs (R52) -/

/-- CX_TXP/N: electrical idle in main reset and without a link. -/
def cxTxPin (d : Device) : PinDrive := mainPin d .electricalIdle (if d.cx.linkUp then .active else .electricalIdle)

/-- T0D–T7D and MESH0_D, MESH1_D (sensors 0 to 9): the battery domain drives the pattern of an enabled sensor. -/
def tamperPin (d : Device) (n : Nat) : PinDrive :=
  if !d.bat.vbd then .unpowered else if sensorEnabled d n then driven (driverBit d n) else .highZ

/-- The pins that are inputs only. -/
inductive InputPin where
  | cxPerst | upClk | upCs | upReset | flashDqs | cardDet | tck | tms | tdi | trst | strapGolden | recover | testEn | holdupOk
  | mainPg
  deriving DecidableEq, Repr, Inhabited

/-- The weak pull of an input in main reset. -/
def InputPin.pull : InputPin → PinDrive
  | .upClk | .flashDqs | .trst | .testEn | .holdupOk | .mainPg => .pullDown
  | _ => .pullUp

/-- The input lies in the standby bank. -/
def InputPin.standby : InputPin → Bool
  | .strapGolden | .recover | .testEn | .holdupOk | .mainPg => true
  | _ => false

/-- An input: its pull in main reset; afterwards a plain input. -/
def inputPin (d : Device) (p : InputPin) : PinDrive :=
  if p.standby then (if d.pins.vstby then (if pinsConfigured d then .highZ else p.pull) else .unpowered)
  else mainPin d p.pull .highZ

/-! ### The boundary (R539) -/

/-- The outputs in boundary order: gates, FAULT#, GPIO, flash buses, ports, card port, I3C. -/
def outputPins (d : Device) : List PinDrive :=
  (List.range 32).map (gatePin d) ++ [faultPin d] ++ (List.range 16).map (gpioPin d) ++
    (List.range 16).flatMap (fun m => sckPin d m :: flashIoPin d m :: (List.range 4).map (fun k => csPin d (4 * m + k)) ++
      (List.range 4).map (fun k => rstPin d (4 * m + k))) ++
    (List.range 8).flatMap (fun n => [upIoPin d n, upDqsPin d n, alertPin d n]) ++
    [cardClockPin d, cardLinePin d] ++ (List.range 4).map (cardPowerPin d) ++ (List.range 2).map (i3cPin d)

/-- The level that the device gives a pin, where it gives one. -/
def PinDrive.level : PinDrive → Option Bool
  | .low | .pullDown => some false
  | .high | .pullUp => some true
  | .highZ | .active | .electricalIdle | .unpowered => none

/-- A byte for an output in a boundary sample: 0 low, 1 high, 2 not given by the device. -/
def pinByte (p : PinDrive) : Byte :=
  match p.level with
  | some false => 0
  | some true => 1
  | none => 2

end Sys2Proof.Machine
end

