-- ==== Sys2Proof/Machine/RegWrites.lean ====
section
/-! DEFINITION. Writes of registers (R8–R11, R88, R92, R101, R102, R435): each block's registers by offset. A register
whose write is a command of its own performs that command's effect with the fields of the written word. -/

namespace Sys2Proof.Machine

open Sys2Proof

/-! ### Helpers -/

/-- The index of an offset in an array of `n` registers from `base`, `stride` apart. -/
def idx (off base stride n : Nat) : Option Nat :=
  if base ≤ off ∧ off < base + stride * n ∧ (off - base) % stride = 0 then some ((off - base) / stride) else none

/-- A register whose RWL bits are `mask` and whose lock is bit 31 (R9): a write after the lock is ignored, one that sets
the lock still writes the field. -/
def lockedWrite (mask old v : Word) : Word := if bit old 31 then old else v &&& (mask ||| 0x80000000)

/-- Effects by their conditions, in order. -/
def whenAll : List (Bool × (Device → Device)) → Device → Device
  | [], d => d
  | (c, f) :: tl, d => whenAll tl (if c then f d else d)

/-! ### SYS (spec/02, spec/12) -/

/-- SYS_BOOT_STAT: RWL under the deckle lock. -/
def setBootStat (v : Word) (s : Start) : Start :=
  if s.lock then s
  else { s with
    path := field v 0 4, slot := field v 4 2, tamperResp := bit v 6, recovery := bit v 7, activeFail := field v 8 4
    goldenFail := field v 12 4, secVer := field v 16 8, keySlot := field v 24 2, resetKind := field v 26 2 }

/-- SYS_BOOT_CTRL: every bit that is set, ReleaseHarts and MarkClean before Lock, Lock before Handover. -/
def bootCtrl (h : Hart) (v : Word) (d : Device) : Device :=
  whenAll [(bit v 0, releaseHartsEffect h), (bit v 3, markCleanEffect h), (bit v (8 + h.val), hartReadyEffect h),
    (bit v 31, deckleLockEffect h), (bit v 1, attachEffect h), (bit v 2, coreResetEffect h)] d

/-- SYS_FW_CTRL: the write rights are RWL; Open is ignored unless the slot named is writable. -/
def setFwCtrl (v : Word) (s : Start) : Start :=
  let s1 := if s.lock then s else { s with activeWrite := bit v 0, goldenWrite := bit v 1 }
  let may := if bit v 5 then s1.goldenWrite else s1.activeWrite
  { s1 with target := bit v 5, openSlot := if bit v 4 && !may then s1.openSlot else bit v 4 }

/-- A write of a SYS register. -/
def sysWrite (h : Hart) (off : Nat) (v : Word) (d : Device) : Device :=
  let st := fun (f : Start → Start) => { d with start := f d.start }
  if off = 0x104 then
    { d with junction := { d.junction with warn := d.junction.warn && !bit v 16, vcoreLow := d.junction.vcoreLow && !bit v 17 } }
  else if off = 0x300 then st (setBootStat v)
  else if off = 0x304 then bootCtrl h v d
  else if off = 0x330 then (if h = 0 then st (setFwCtrl v) else d)
  else if off = 0x334 then st (fun s => { s with fwPtr := (v &&& 0x3FFFFC).toNat })
  else if off = 0x338 then fwDataWriteEffect h v d
  else if off = 0x400 then (if bit v 8 then watermarkExtendEffect h (Fin.ofNat 32 (field v 0 5)) d else d)
  else if off = 0x404 then st (fun s => { s with wmkSel := s.wmkSel.set h (field v 0 5) })
  else match idx off 0x310 4 4, idx off 0x320 4 4, idx off 0x440 4 16 with
    | some k, _, _ => st (fun s => if s.lock then s else { s with blk := vmod s.blk k (fun _ => field v 0 19) })
    | _, some k, _ => st (fun s => if s.lock then s else { s with wmkMask := vmod s.wmkMask k (fun _ => v.toNat) })
    | _, _, some k => st (fun s => { s with wmkIn := vmod s.wmkIn h (fun b => setWordAt b k v) })
    | _, _, _ => d

/-! ### PW, LC, KV (spec/20, spec/19, spec/11) -/

/-- PW_WDOG: RWL under its own lock. A counter that the write enables while stage 1 is attached starts (R567). -/
def setWdog (v : Word) (d : Device) : Device :=
  if bit d.power.wdog 31 then d
  else modPw (fun p => { p with
    wdog := v &&& 0x8001FFFF, wdogRunning := bit v 16 && attached d, wdogCount := if p.wdogRunning then p.wdogCount else 0 }) d

/-- A write of a PW register: hart 0 only. -/
def pwWrite (h : Hart) (off : Nat) (v : Word) (d : Device) : Device :=
  if h ≠ 0 then d
  else if off = 0x04 then modPw (fun p => { p with wakeEn := (v &&& 0x3E) ||| 1 }) d
  else if off = 0x08 then modPw (fun p => { p with wakeGpio := v &&& 0xFFFF }) d
  else if off = 0x0C then modPw (fun p => { p with wakeTimer := v }) d
  else if off = 0x10 then sleepCtrl v d
  else if off = 0x20 then setWdog v d
  else if off = 0x24 then watchdogKickEffect h v d
  else d

/-- LC_CMD by its command code. -/
def lcCmd (h : Hart) (v : Word) (d : Device) : Device :=
  match field v 0 4 with
  | 1 => lcTransitionEffect h (field v 4 3) d
  | 2 => lcUnlockEffect h d
  | 3 => lcBurnWordEffect h d
  | 4 => lcReadWordEffect h d
  | c => lcUndefinedCommandEffect h c d

/-- A write of an LC register: hart 0 only. -/
def lcWrite (h : Hart) (off : Nat) (v : Word) (d : Device) : Device :=
  if h ≠ 0 then d
  else if off = 0x04 then lcCmd h v d
  else if off = 0x0C then modLc (fun l => { l with otpIdx := field v 0 9 }) d
  else if off = 0x10 then modLc (fun l => { l with otpLo := v }) d
  else if off = 0x14 then modLc (fun l => { l with otpHi := v }) d
  else if off = 0x80 then scanAllowEffect h v d
  else match idx off 0x40 4 16 with
    | some k => modLc (fun l => { l with token := setWordAt l.token k v }) d
    | none => d

/-- KV_CMD by its command code (R331). -/
def kvCmd (h : Hart) (v : Word) (d : Device) : Device :=
  let k : KvSlot := Fin.ofNat 256 (field v 8 8)
  match field v 0 4 with
  | 1 => kvReserveEffect h k d
  | 2 => kvClearEffect h k d
  | 3 => kvRandomEffect h k d
  | 4 => kvRootDeriveEffect h k d
  | 5 => kvLadderDeriveEffect h k d
  | 6 => kvTransferEffect h k d
  | 7 => kvRestrictEffect h k d
  | 8 => kvStageInstallEffect h k d
  | 9 => kvStageRetireEffect h k d
  | 10 => kvStageRootEffect h d
  | 11 => kvStageWriteEffect h d
  | 12 => kvStageDropEffect h d
  | 13 => kvCommitInitialEffect h d
  | c => kvUndefinedCommandEffect h c d

/-- A hart's bank of KV_ registers changed. -/
def modKvBank (h : Hart) (f : KvBank → KvBank) (d : Device) : Device := modKv (fun k => { k with banks := vmod k.banks h f }) d

/-- A write of a KV register. -/
def kvWrite (h : Hart) (off : Nat) (v : Word) (d : Device) : Device :=
  if off = 0x00 then kvCmd h v d
  else if off = 0x04 then modKvBank h (fun b => { b with arg := v }) d
  else if off = 0x10 then modKvBank h (fun b => { b with slotSel := v &&& 0xFF }) d
  else if off = 0x204 then (if bit v 0 then rootLockSetEffect h d else d)
  else d

/-! ### DG, SG (spec/09, spec/10) -/

/-- DG_CMD by its command code; CmpFree names its entry in DG_ARG0. -/
def dgCmd (h : Hart) (v : Word) (d : Device) : Device :=
  let c : Ctx := Fin.ofNat 4096 (field v 16 12)
  match field v 0 4 with
  | 1 => dgOpenEffect h d
  | 2 => dgPrefixEffect h c d
  | 3 => dgBeginEffect h c d
  | 4 => dgFeedEffect h c d
  | 5 => dgBindEffect h c d
  | 6 => dgCloseEffect h c d
  | 7 => dgFreeEffect h c d
  | 8 => dgCmpArmEffect h c d
  | 9 => dgCmpFreeEffect h (field (vget (dgBank d h).args 0) 0 8) d
  | k => dgUndefinedCommandEffect h k d

/-- A write of a DG register. -/
def dgWrite (h : Hart) (off : Nat) (v : Word) (d : Device) : Device :=
  if off = 0x00 then dgCmd h v d
  else if off = 0x40 then modDgBank h (fun b => { b with ctxSel := v &&& 0xFFF }) d
  else if off = 0x100 then modDgBank h (fun b => { b with cmpSel := v &&& 0xFF }) d
  else match idx off 0x04 4 5 with
    | some k => modDgBank h (fun b => { b with args := vmod b.args k (fun _ => v) }) d
    | none => d

/-! ### GF, IS, TX (spec/06–08, spec/13, spec/05) -/

/-- GF_UPn_STAT: RW1C flags. -/
def clearUpStat (v : Word) (u : UpPort) : UpPort :=
  { u with
    undefOp := u.undefOp && !bit v 8, protoErr := u.protoErr && !bit v 9, overClock := u.overClock && !bit v 10
    writeDiscarded := u.writeDiscarded && !bit v 11 }

/-- GF_FBm_STAT: RW1C flags. -/
def clearFbStat (v : Word) (b : FlashBus) : FlashBus :=
  { b with contention := b.contention && !bit v 16, dqsTimeout := b.dqsTimeout && !bit v 17, timeout := b.timeout && !bit v 18 }

/-- GF_FBm_CTRL. -/
def fbCtrl (h : Hart) (m : Bus) (v : Word) (d : Device) : Device :=
  whenAll [(bit v 0, requalifyEffect h m), (field v 4 4 != 0, devResetEffect h m (field v 4 4))] d

/-- GF_TSn_WEAR_LO and _HI (R225): RWL under GF_TS_CFG.Lock. -/
def wearLo (f : Nat) (v : Word) (d : Device) : Device := if bit d.gf.tsCfg 31 then d else (let r := setWear f d.tx.epoch v (tsAt d f)
    eventsRaw r.2 (modTs f (fun _ => r.1) d))

/-- GF_TSn_WEAR_HI: staged for the next write of _LO. -/
def wearHiStaged (f : Nat) (v : Word) (d : Device) : Device :=
  if bit d.gf.tsCfg 31 then d else modTs f (fun t => { t with wearHi := v }) d

/-- A write of a GF register. -/
def gfWrite (h : Hart) (off : Nat) (v : Word) (d : Device) : Device :=
  if off = 0x2000 then { d with gf := { d.gf with tsCfg := lockedWrite 0xFF d.gf.tsCfg v } }
  else match idx off 0x000 0x40 8, idx off 0x400 0x40 16, idx off 0x404 0x40 16, idx off 0x1010 0x40 64, idx off 0x1014 0x40 64 with
    | some n, _, _, _, _ => modPort n (clearUpStat v) d
    | _, some m, _, _, _ => modBus m (clearFbStat v) d
    | _, _, some m, _, _ => fbCtrl h (Fin.ofNat 16 m) v d
    | _, _, _, some f, _ => wearLo f v d
    | _, _, _, _, some f => wearHiStaged f v d
    | _, _, _, _, _ => d

/-- IS_DEVn_CTRL, in bit order. -/
def devCtrlWrite (h : Hart) (f : Dev) (v : Word) (d : Device) : Device :=
  whenAll [(bit v 0, deviceRetireEffect h f), (bit v 1, deviceProbeEffect h f), (bit v 2, deviceResyncEffect h f), (bit v 3, endProbeEffect h f)] d

/-- The bits of IS_FQ_DESCk that hold a field; the others are reserved (R8). -/
def descMask (k : Nat) : Word := if k = 0 then 0x1FFF7FFF else if k = 3 then 0xFFFF1FFF else 0xFFFFFFFF

/-- A write of an IS register. -/
def isWrite (h : Hart) (off : Nat) (v : Word) (d : Device) : Device :=
  if off = 0x104 then { d with is_ := { d.is_ with cfg := lockedWrite 0xFF d.is_.cfg v } }
  else if off = 0x810 then fqSubmitEffect h v d
  else match idx off 0x04 0x10 16, idx off 0x0C 0x10 16, idx off 0x404 8 64, idx off 0x800 4 4 with
    | some n, _, _, _ => if bit v 0 then bdRebootEffect h (Fin.ofNat 16 n) d else d
    | _, some n, _, _ => serveStartEffect h (Fin.ofNat 16 n) v d
    | _, _, some f, _ => devCtrlWrite h (Fin.ofNat 64 f) v d
    | _, _, _, some k => modFq h (fun q => { q with desc := vmod q.desc k (fun _ => v &&& descMask k) }) d
    | _, _, _, _ => d

/-- TX_CMD by its command code (R144). -/
def txCmd (h : Hart) (v : Word) (d : Device) : Device :=
  match field v 0 4 with
  | 1 => couchOpenEffect h (field v 8 8) d
  | 2 => couchAppendEffect h d
  | 3 => couchCheckEffect h d
  | 4 => couchCommitEffect h d
  | 5 => couchAbortEffect h d
  | 6 => couchReleaseEffect h d
  | 7 => restoreEffect h d
  | c => couchUndefinedCommandEffect h c d

/-- A write of a TX register. -/
def txWrite (h : Hart) (off : Nat) (v : Word) (d : Device) : Device :=
  if off = 0x00 then txCmd h v d
  else if off = 0x24 then modTx (fun t => { t with cfg := lockedWrite 0xFF t.cfg v }) d
  else if off = 0x60 then modTx (fun t => { t with sipPtr := v &&& 0xFFFFC }) d
  else if off = 0x64 then sipDataWriteEffect h v d
  else if off = 0x68 then modTx (fun t => { t with mouldIdx := v &&& 0xFF }) d
  else match idx off 0x40 4 8 with
    | some k => modTx (fun t => { t with act := vmod t.act k (fun _ => v) }) d
    | none => d

/-! ### EV, LG, MB, CX (spec/14–17) -/

/-- A write of an EV register. -/
def evWrite (h : Hart) (off : Nat) (v : Word) (d : Device) : Device :=
  if off = 0x00 then evPostEffect h v d
  else if off = 0x210 then modEv (fun r => { r with clearSeq := v }) d
  else if off = 0x214 then evClearEffect h v d
  else match idx off 0x04 4 10 with
    | some k => modEv (fun r => { r with posts := vmod r.posts h (fun b => vmod b k (fun _ => v)) }) d
    | none => d

/-- A write of an LG register. -/
def lgWrite (h : Hart) (off : Nat) (v : Word) (d : Device) : Device :=
  if off = 0x00 then lgSubmitEffect h v d
  else if off = 0x14 then lgAckEffect h v d
  else if off = 0x18 then modLg (fun g => { g with ackNum := v }) d
  else if off = 0x1C then modLg (fun g => { g with ackDig := setWordAt g.ackDig 0 v }) d
  else if off = 0x20 then modLg (fun g => { g with ackDig := setWordAt g.ackDig 1 v }) d
  else if off = 0x24 then ovrUptoWriteEffect h v d
  else d

/-- A write of a channel's status by an agent (R499): Drop and Lost are the sender's, RW1C. -/
def clearChan (aid c : Nat) (v : Word) (d : Device) : Device :=
  if sends (curLeaf d) aid c then modChan c (fun ch => { ch with drop := ch.drop && !bit v 4, lost := ch.lost && !bit v 5 }) d else d

/-- A write of an MB register. -/
def mbWrite (h : Hart) (off : Nat) (v : Word) (d : Device) : Device :=
  match idx off 0x000 4 128, idx off 0x410 4 4, idx off 0x200 4 128 with
  | some c, _, _ => hartChannelPostEffect h (Fin.ofNat 128 c) v false d
  | _, some k, _ => { d with mb := { d.mb with irqEn := vmod d.mb.irqEn h (fun b => vmod b k (fun _ => v)) } }
  | _, _, some c => clearChan (0x10 + h.val) c v d
  | _, _, _ => d

/-- A write of a CX register; the sweep registers are hart 1's. -/
def cxWrite (h : Hart) (off : Nat) (v : Word) (d : Device) : Device :=
  if off = 0x04 then modCx (fun c => if c.cfgLock then c else { c with w64Enable := bit v 0, cfgLock := bit v 31 }) d
  else if off = 0x104 then stagingReleaseEffect h v d
  else if off = 0x108 then stagingEndEffect h v d
  else if off = 0x208 then sweepStartEffect h v d
  else if off = 0x210 then sweepPostEffect h v d
  else match idx off 0x280 4 16 with
    | some k => if h = 1 then modCx (fun c => { c with swpDig := setWordAt c.swpDig k v }) d else d
    | none => d

/-! ### CD, EC, PT, DB, TM (spec/18, 21, 19, 11) -/

/-- CD_CTRL: slot power by slot, clock and line mode, card reset. -/
def cdCtrl (v : Word) (d : Device) : Device :=
  let d1 := (List.range 4).foldl (fun acc s => slotPower s (bit v s) acc) d
  let d2 := modCd (fun c => { c with clock := field v 4 2, wide := bit v 6, openDrain := bit v 7 }) d1
  if bit v 8 then cardResetEffect 1 d2 else d2

/-- CD_SLOTs_INFO: the protect bits are read only. -/
def setSlotInfo (v : Word) (s : CardSlot) : CardSlot :=
  { s with rca := field v 0 16, type := field v 16 2, speed := field v 18 2, highCap := bit v 22, state := field v 24 3 }

/-- The card agent's window: RWL under CD_CFG.Lock. -/
def cdWindow (f : CardWindow → CardWindow) (d : Device) : Device := if d.cdWin.lock then d else { d with cdWin := f d.cdWin }

/-- A write of a CD register: hart 3, or hart 0 in ROM recovery. -/
def cdWrite (h : Hart) (off : Nat) (v : Word) (d : Device) : Device :=
  if !(h == 3 || (h == 0 && d.start.phase == .recovery)) then d
  else if off = 0x00 then modCs (fun c => { c with changed := bitmap 4 (fun s => hasBit c.changed s && !bit v (8 + s)) }) d
  else if off = 0x04 then cdCtrl v d
  else if off = 0x20 then cdWindow (fun w => { w with base := v }) d
  else if off = 0x24 then cdWindow (fun w => { w with len := v }) d
  else if off = 0x28 then { d with cdWin := { d.cdWin with lock := d.cdWin.lock || bit v 31 } }
  else if off = 0x40 then cardCommandIssueEffect h v d
  else if off = 0x44 then modCd (fun c => { c with arg := v }) d
  else if off = 0x48 then modCd (fun c => { c with xfer := v &&& 0x03FFFFFF }) d
  else if off = 0x4C then modCd (fun c => { c with bufOff := v &&& 0xFFFFFFF8 }) d
  else if off = 0x50 then modCd (fun c => { c with done := c.done && !bit v 1 }) d
  else match idx off 0x10 4 4 with
    | some s => modSlot s (setSlotInfo v) d
    | none => d

/-- A write of an EC register: hart 0 only. -/
def ecWrite (h : Hart) (off : Nat) (v : Word) (d : Device) : Device :=
  if h ≠ 0 then d
  else if off = 0x00 then { d with ec := { d.ec with overflow := d.ec.overflow && !bit v 22 } }
  else if off = 0x10 then { d with ec := { d.ec with irqEn := v &&& 0x7 } }
  else if off = 0x20 then ecInjectArmEffect h v d
  else d

/-- A write of a PT register: hart 0 only. -/
def ptWrite (h : Hart) (off : Nat) (v : Word) (d : Device) : Device :=
  if h ≠ 0 then d
  else if off = 0x00 then ptCtrlWriteEffect h v d
  else if off = 0x04 then { d with pt := { d.pt with seed := v &&& 0xFFFF } }
  else match idx off 0x40 4 8, idx off 0x60 4 4 with
    | some z, _ => { d with pt := { d.pt with zones := vmod d.pt.zones z (fun _ => v &&& 0x7F7F) } }
    | _, some r => { d with pt := { d.pt with compl := vmod d.pt.compl r (fun _ => v &&& 0xFFFF) } }
    | _, _ => d

/-- DB_CTRL, in bit order; only BOOTH writes Request (R544). -/
def dbCtrl (src : BoothSrc) (v : Word) (d : Device) : Device :=
  whenAll [(bit v 0, dbChallengeEffect src), (bit v 1, dbSubmitEffect src), (bit v 2, dbCloseEffect src),
    (bit v 3 && src == .booth, dbRequestEffect (field v 4 2))] d

/-- A write of a DB register, by a hart or by BOOTH. -/
def dbWrite (src : BoothSrc) (off : Nat) (v : Word) (d : Device) : Device :=
  if off = 0x00 then dbCtrl src v d
  else if off = 0x10 then boothWrite 3 src 0x60110010 (modDb (fun b => { b with tktPtr := (v &&& 0x1FFC).toNat })) d
  else if off = 0x14 then tktDataWriteEffect src v d
  else d

/-- A write of a TM register. -/
def tmWrite (off : Nat) (v : Word) (d : Device) : Device := if off = 0x24 then modKv (fun k => { k with lgSel := v &&& 0xF }) d else d

/-! ### The map -/

/-- A write of block `n` (R92) at an offset. -/
def blockWrite (h : Hart) (n off : Nat) (v : Word) (d : Device) : Device :=
  match n with
  | 0 => sysWrite h off v d
  | 1 => pwWrite h off v d
  | 2 => lcWrite h off v d
  | 3 => kvWrite h off v d
  | 4 => dgWrite h off v d
  | 5 => if off = 0x00 then sgSubmitEffect h v d else d
  | 6 => gfWrite h off v d
  | 7 => isWrite h off v d
  | 8 => txWrite h off v d
  | 9 => evWrite h off v d
  | 10 => lgWrite h off v d
  | 11 => mbWrite h off v d
  | 12 => cxWrite h off v d
  | 14 => cdWrite h off v d
  | 15 => ecWrite h off v d
  | 16 => ptWrite h off v d
  | 17 => dbWrite (.hart h) off v d
  | 18 => tmWrite off v d
  | _ => d

/-- A hart's store of the low `n` bytes of `v`: a control register as an aligned word (R10, R11, R359), or its own TCMs and
shared working SRAM (R87). Anything else is a store access fault without effect (R88). -/
def hartStore (h : Hart) (n addr : Nat) (v : BitVec 64) (d : Device) : Device :=
  if inBlocks addr then
    hartWrite h (blockOf addr) addr (fun d1 =>
      if n = 4 ∧ addr % 4 = 0 then blockWrite h (blockOf addr) (addr % 0x10000) (v.setWidth 32) d1 else accessFault h addr d1) d
  else if !mainRuns d || hartStalled d h then d
  else match hartStoreKey d h addr n with
    | some a => store a (leBytes n v.toNat) d
    | none => accessFault h addr d

/-! ### Host pages and configuration space (R101, R102, R435) -/

/-- A write of a word of an LD's host page. Writes elsewhere are discarded (R102). -/
def pageWrite (ld : Ld) (off : Nat) (v : Word) (d : Device) : Device :=
  let ldw := fun (f : LogicalDev → LogicalDev) => modLd ld f d
  if off = 0x10004 then ldw (fun l => { l with viewWriteDrop := l.viewWriteDrop && !bit v 0, channelDrop := l.channelDrop && !bit v 1 })
  else if off = 0x10008 then viewResetEffect ld v d
  else if off = 0x10010 then stagingStartEffect ld v d
  else if off = 0x10014 then ldw (fun l => { l with stgLen := v })
  else if off = 0x10018 then stagingChunkDoneEffect ld v d
  else if off = 0x10108 then ldw (fun l => { l with expFind := v })
  else if off = 0x10110 then ldw (fun l => { l with expDig := setWordAt l.expDig 0 v })
  else if off = 0x10114 then ldw (fun l => { l with expDig := setWordAt l.expDig 1 v })
  else if off = 0x10118 then hostPageAckEffect ld v d
  else if off = 0x10148 then hostEventClearEffect ld v d
  else if off = 0x10200 then sweepCommand ld v d
  else if off = 0x10204 then ldw (fun l => { l with swpBase := l.swpBase / 2 ^ 32 * 2 ^ 32 + (v &&& 0xFFFFF000).toNat })
  else if off = 0x10208 then ldw (fun l => { l with swpBase := v.toNat * 2 ^ 32 + l.swpBase % 2 ^ 32 })
  else if off = 0x1020C then ldw (fun l => { l with swpUnits := field v 0 21 })
  else if off = 0x10210 then ldw (fun l => { l with swpPeriod := v.toNat })
  else if off = 0x10218 then ldw (fun l => { l with swpSel := field v 0 6 })
  else if off = 0x10220 then ldw (fun l => { l with swpAlert := l.swpAlert - (l.swpAlert &&& v.toNat) })
  else if off = 0x10224 then ldw (fun l => { l with swpAlert := l.swpAlert - (l.swpAlert &&& (v.toNat * 2 ^ 32)) })
  else if off = 0x10228 then ldw (fun l => { l with swpRemoved := l.swpRemoved && !bit v 19 })
  else match idx off 0x10240 4 16, idx off 0x11000 4 128, idx off 0x11200 4 128 with
    | some k, _, _ => ldw (fun l => { l with swpExp := setWordAt l.swpExp k v })
    | _, some c, _ => hostChannelPostEffect ld (Fin.ofNat 128 c) v false d
    | _, _, some c => clearChan ld c v d
    | _, _, _ => d

/-- A write of the CXL registers that hold what is written (R437): the mailbox's interrupt enable, Command register and
payload, and the RAS capability, whose status bits are cleared by ones. HDM_DECODER_COMMIT and the mailbox's commands stand
for the writes that commit a decoder or ring the doorbell (notes/assumptions/66.md). -/
def cxlStore (off : Nat) (v : Word) (l : LogicalDev) : LogicalDev :=
  let ras := fun (f : RasCap → RasCap) => { l with ras := f l.ras }
  if off = 0x3004 then { l with mboxInt := bit v 1 }
  else if off = 0x3008 then { l with mboxCmd := field v 0 16, mboxLength := l.mboxLength / 0x10000 * 0x10000 + field v 16 16 }
  else if off = 0x300C then { l with mboxLength := l.mboxLength % 0x10000 + 0x10000 * field v 0 5 }
  else if 0x3020 ≤ off ∧ off < 0x3820 then
    { l with mboxOut := padTo (max l.mboxOut.length (off - 0x301C)) l.mboxOut |> fun b => b.take (off - 0x3020) ++ leBytes 4 v.toNat ++ b.drop (off - 0x301C) }
  else if off = 0x1040 then ras (fun r => { r with unc := r.unc - (r.unc &&& v.toNat) })
  else if off = 0x1044 then ras (fun r => { r with uncMask := v.toNat &&& 0x1CFFF })
  else if off = 0x1048 then ras (fun r => { r with uncSeverity := v.toNat &&& 0x1CFFF })
  else if off = 0x104C then ras (fun r => { r with cor := r.cor - (r.cor &&& v.toNat) })
  else if off = 0x1050 then ras (fun r => { r with corMask := v.toNat &&& 0x7F })
  else if off = 0x1054 then ras (fun r => { r with ctrl := v.toNat &&& 0x2000 })
  else l

/-- A write of `n` bytes to BAR0 (R101, R102): an aligned word, or an Unsupported Request. The FM-owned LD has no host page. -/
def bar0Store (who : Option Ld) (n off : Nat) (v : Word) (d : Device) : Device :=
  if !cxlUp d then d
  else if n ≠ 4 ∨ off % 4 ≠ 0 then unsupportedRequest who true n off d
  else if off < 0x10000 then modWho who (cxlStore off v) d
  else match who with
    | some ld => pageWrite ld off v d
    | none => d

/-- MSI vectors unmasked while pending are sent (R435). -/
def unmaskMsi (ld : Nat) (mask : Nat) (d : Device) : Device :=
  let due := (List.range 4).filter (fun v => hasBit (ldOf d ld).msiPending v && !hasBit mask v)
  due.foldl (fun acc v => msi ld v acc)
    (modLd ld (fun l => { l with msiMask := mask, msiPending := due.foldl (fun m v => clrBit m v) l.msiPending }) d)

/-- Sweep reads that were barred are issued once they are allowed again (R480). -/
def resumeSweep (ld : Nat) (d : Device) : Device := issueReads ld d

/-- The bytes of a held value that a write enables, replaced. -/
def mergeWord (en : Nat) (old v : Nat) : Nat :=
  (List.range 4).foldl (fun n k => n + 256 ^ k * ((if hasBit en k then v else old) / 256 ^ k % 256)) 0

/-- A write of the configuration space fields that only hold what is written (R435): BAR0, Device Control and Status, Link
Control, the MSI enable and message, the AER masks, severity and correctable status. -/
def pciStore (off en : Nat) (v : Word) (l : LogicalDev) : LogicalDev :=
  let f := l.pci
  let m := fun (old : Nat) => mergeWord en old v.toNat
  let pci := fun (g : PciFunc) => { l with pci := g }
  let aer := fun (g : AerRegs) => { l with aer := g }
  if off = 0x10 then pci { f with barBase := f.barBase / 0x1000 * 0x1000 + m (f.barBase * 0x100000 % 2 ^ 32) / 0x100000 }
  else if off = 0x14 then pci { f with barBase := m (f.barBase / 0x1000) * 0x1000 + f.barBase % 0x1000 }
  else if off = 0x48 then
    pci { f with devCtl := m f.devCtl &&& 0x7FFF, devStatus := f.devStatus - (f.devStatus &&& field v 16 4) }
  else if off = 0x50 then pci { f with linkCtl := m f.linkCtl &&& 0xFC3 }
  else if off = 0x90 ∧ hasBit en 2 = true then pci { f with msiEnable := bit v 16, msiMultiple := min 2 (field v 20 3) }
  else if off = 0x94 then pci { f with msiAddr := f.msiAddr / 2 ^ 32 * 2 ^ 32 + m f.msiAddr / 4 * 4 }
  else if off = 0x98 then pci { f with msiAddr := m (f.msiAddr / 2 ^ 32) * 2 ^ 32 + f.msiAddr % 2 ^ 32 }
  else if off = 0x9C then pci { f with msiData := m f.msiData % 0x10000 }
  else if off = 0x108 then aer { l.aer with mask := m l.aer.mask }
  else if off = 0x10C then aer { l.aer with severity := m l.aer.severity }
  else if off = 0x110 then aer { l.aer with corr := l.aer.corr - (l.aer.corr &&& v.toNat) }
  else if off = 0x114 then aer { l.aer with corrMask := m l.aer.corrMask }
  else if off = 0x154 ∧ bit v 1 = true then pci { f with doeInt := false }
  else if off = 0x15C then
    { l with doeRsp := l.doeRsp.bind (fun o => if o.length ≤ 4 then none else some (o.drop 4)) }
  else l

/-- A sweep of the LD goes on, if it waited for what a write enables (R480). -/
def configResume (who : Option Ld) (d : Device) : Device :=
  match who with
  | some ld => resumeSweep ld d
  | none => d

/-- Writes of the DOE capability (R446, R447): DOE Abort, the interrupt enable, and the Read Data Mailbox, which gives the next
word of the response. -/
def configDoe (who : Option Ld) (off en : Nat) (v : Word) (d : Device) : Device :=
  if off = 0x150 then
    if bit v 0 then doeAbortEffect who d
    else if hasBit en 0 then modWho who (fun l => { l with pci := { l.pci with doeIntEnable := bit v 1 } }) d else d
  else match (whoOf d who).doeRsp with
    | some _ => if hart1Serves d then modWho who (pciStore off en v) d else d
    | none => d

/-- Writes whose effect is in the word's lowest byte: Memory Space Enable, Bus Master Enable and SERR# Enable, PowerState, the MSI
mask, Mem_Enable. -/
def configLow (who : Option Ld) (off en : Nat) (v : Word) (d : Device) : Device :=
  if off = 0x04 then
    configResume who (modWho who (fun l => { l with
      busMaster := bit v 2, pci := { l.pci with memSpace := bit v 1, serrEnable := if hasBit en 1 then bit v 8 else l.pci.serrEnable } }) d)
  else if off = 0x84 then
    if field v 0 2 = 0 then configResume who (modWho who (fun l => { l with d3hot := false }) d)
    else if field v 0 2 = 3 then modWho who (fun l => { l with d3hot := true }) d else d
  else if off = 0xA0 then
    match who with
    | some ld => unmaskMsi ld (field v 0 4) d
    | none => modWho who (fun l => { l with msiMask := field v 0 4 }) d
  else if off = 0x17C then modWho who (fun l => { l with memEnable := bit v 2 }) d
  else d

/-- A write of a configuration space word, with the bytes of `en` enabled and zero elsewhere (R435; the places in the
capabilities are PCIe's, notes/assumptions/66.md): what has an effect is Bus Master Enable, Initiate Function Level Reset,
10-Bit Tag Requester Enable, PowerState, the MSI mask, AER uncorrectable status, DOE Abort, the Read Data Mailbox (which gives
the next word of the response), Mem_Enable, the LD-ID Hot Reset Vector. -/
def configField (who : Option Ld) (off en : Nat) (v : Word) (d : Device) : Device :=
  if off = 0x104 then modWho who (fun l => { l with aerStatus := l.aerStatus - (l.aerStatus &&& v.toNat) }) d
  else if off = 0x48 ∧ bit v 15 = true then
    match who with
    | some ld => functionLevelResetEffect ld d
    | none => d
  else if off = 0x68 ∧ hasBit en 1 = true then modWho who (fun l => { l with tag10 := bit v 12 }) d
  else if off = 0x150 ∨ off = 0x15C then configDoe who off en v d
  else if [0x10, 0x14, 0x48, 0x50, 0x90, 0x94, 0x98, 0x9C, 0x108, 0x10C, 0x110, 0x114, 0x154].contains off then
    modWho who (pciStore off en v) d
  else if off = 0x1DC ∧ who.isNone = true then hotResetVectorEffect (field v 0 16) d
  else if hasBit en 0 = false then d
  else configLow who off en v d

/-- A write of `n` bytes of configuration space, within one word. -/
def configWrite (who : Option Ld) (n off : Nat) (v : Word) (d : Device) : Device :=
  let k := off % 4
  if !cxlUp d || decide (4 < k + n) then d
  else configField who (off - k) ((2 ^ n - 1) * 2 ^ k) (w32 (v.toNat % 2 ^ (8 * n) * 2 ^ (8 * k))) d

/-! ### The commands -/

/-- WEAR_WRITE (R225): a hart's write of GF_TSn_WEAR_LO. -/
def wearWriteEffect (h : Hart) (f : Dev) (v : Word) (d : Device) : Device := hartWrite h 6 (0x60061010 + 0x40 * f.val) (wearLo f v) d
/-- WEAR_WRITE. -/
def execWearWrite (h : Hart) (f : Dev) (v : Word) (s : State) : Host.Outcome State Fault Refusal := s.run (wearWriteEffect h f v)

/-- REGISTER_WRITE (R8–R11, R88, R102): a write of the low bytes of `v`. -/
def registerWriteEffect (sp : Space) (size : Size) (addr : Nat) (v : BitVec 64) (d : Device) : Device :=
  match sp with
  | .hart h => stageStart (hartStore h size.bytes addr v d)
  | .page who => bar0Store who size.bytes addr (v.setWidth 32) d
  | .config who => configWrite who size.bytes addr (v.setWidth 32) d
/-- REGISTER_WRITE. -/
def execRegisterWrite (sp : Space) (size : Size) (addr : Nat) (v : BitVec 64) (s : State) : Host.Outcome State Fault Refusal :=
  s.run (registerWriteEffect sp size addr v)

end Sys2Proof.Machine
end

