-- ==== Sys2Proof/Machine/Jtag.lean ====
section
/-! DEFINITION. The JTAG port: instructions, the debug transport, BOOTH (spec/19_life_cycle_and_debug.md, R536, R538,
R539, R548). -/

namespace Sys2Proof.Machine

open Sys2Proof

/-- A JTAG instruction selected; what EXTEST drove ends. -/
def selectIr (ir : Nat) (d : Device) : Device := { d with jtag := { d.jtag with ir := ir, extest := [] } }

/-- The code of BYPASS. -/
def irBypass : Nat := 0x1F

/-- IDCODE (R539). -/
def idcodeEffect (d : Device) : Device := replyWord 0x16440A6B (selectIr 0x01 d)
/-- IDCODE. -/
def execIdcode (s : State) : Host.Outcome State Fault Refusal := s.run idcodeEffect

/-- SAMPLE_PRELOAD (R539): the reply is the boundary as sampled, a byte for each cell: the inputs that the board drives,
`cells`, then the outputs (notes/assumptions/109.md). -/
def samplePreloadEffect (cells : List Bool) (d : Device) : Device :=
  reply (cells.map (fun c => BitVec.ofNat 8 (flag c)) ++ (outputPins d).map pinByte) (selectIr 0x02 d)
/-- SAMPLE_PRELOAD. -/
def execSamplePreload (cells : List Bool) (s : State) : Host.Outcome State Fault Refusal := s.run (samplePreloadEffect cells)

/-- EXTEST (R539): in Blank and the test states the cells drive the boundary; elsewhere it acts as BYPASS. -/
def extestEffect (cells : List Bool) (d : Device) : Device :=
  if d.lc.state ≤ 2 then { d with jtag := { d.jtag with ir := 0x00, extest := cells } } else selectIr irBypass d
/-- EXTEST. -/
def execExtest (cells : List Bool) (s : State) : Host.Outcome State Fault Refusal := s.run (extestEffect cells)

/-- BYPASS (R539). -/
def bypassEffect (d : Device) : Device := selectIr irBypass d
/-- BYPASS. -/
def execBypass (s : State) : Host.Outcome State Fault Refusal := s.run bypassEffect

/-- DTMCS (R539): the register's value is the RISC-V debug specification's, which the manual does not give: free. -/
def dtmcsEffect (d : Device) : Device := tookFree 4 (reply (freeBytes d 4) (selectIr 0x10 d))
/-- DTMCS. -/
def execDtmcs (s : State) : Host.Outcome State Fault Refusal := s.run dtmcsEffect

/-! ### The debug transport (R538, R548) -/

/-- A hart halted or let go. -/
def setHalted (h : Nat) (on : Bool) (d : Device) : Device :=
  modDb (fun b => { b with halted := if on then setBit b.halted h else clrBit b.halted h }) d

/-- The level reaches `n` and the harts have power. -/
def debugOpen (d : Device) (n : Nat) : Bool := mainRuns d && decide (n ≤ d.db.level)

/-- The level reaches `n` and the hart is halted. -/
def debugHart (d : Device) (h n : Nat) : Bool := debugOpen d n && hasBit d.db.halted h

/-- A word read through a halted hart (R538): as the hart's own load, with its effect. -/
def debugRead (h : Hart) (addr : Nat) (d : Device) : Device := setHalted h true (hartRead h 4 addr (setHalted h false d))

/-- A DMI operation on the open level (R538). Below its level a read returns zero and a write is ignored. A hart's own
registers, and what a program buffer computes, are outside the block. -/
def dmiOp (op : DmiOp) (d : Device) : Device :=
  match op with
  | .halt h => if debugOpen d 1 then setHalted h true d else d
  | .resume h => if debugOpen d 1 && !hasBit d.db.stepping h then setHalted h false d else d
  | .step h on =>
    if debugOpen d 1 then modDb (fun b => { b with stepping := if on then setBit b.stepping h else clrBit b.stepping h }) d else d
  | .readReg h _no value => if debugHart d h 1 then replyWord value d else replyWord 0 d
  | .writeReg _h _no _value => d
  | .readMem h addr => if debugHart d h 1 then debugRead h addr d else replyWord 0 d
  | .writeMem h addr value => if debugHart d h 2 then hartStore h 4 addr (value.setWidth 64) d else d
  | .program _h => d
  | .haltOnReset on => if debugOpen d 3 then modDb (fun b => { b with haltOnReset := on }) d else d

/-- DMI_ACCESS (R538, R539). -/
def dmiAccessEffect (op : DmiOp) (d : Device) : Device := dmiOp op (selectIr 0x11 d)
/-- DMI_ACCESS. -/
def execDmiAccess (op : DmiOp) (s : State) : Host.Outcome State Fault Refusal := s.run (dmiAccessEffect op)

/-! ### BOOTH and the private instructions (R536, R539) -/

/-- What the BOOTH data register holds on capture: the last word read, and bits 41:40, 0 as the operation is done. -/
def boothCapture (d : Device) : List Byte := leBytes 4 d.jtag.boothData.toNat ++ [0, 0]

/-- An operation of the BOOTH data register: 1 reads a DB word, 2 writes one. -/
def boothOp (op index : Nat) (v : Word) (d : Device) : Device :=
  if op = 1 then { d with jtag := { d.jtag with boothData := (dbReg d (4 * index)).getD 0 } }
  else if op = 2 then dbWrite .booth (4 * index) v d
  else d

/-- BOOTH_ACCESS (R539): while main power is up. -/
def boothAccessEffect (op index : Nat) (v : Word) (d : Device) : Device :=
  if !mainUp d then selectIr irBypass d
  else
    let d1 := boothOp op index v (selectIr 0x14 d)
    reply (boothCapture d1) d1
/-- BOOTH_ACCESS. -/
def execBoothAccess (op index : Nat) (v : Word) (s : State) : Host.Outcome State Fault Refusal := s.run (boothAccessEffect op index v)

/-- PRIVATE_TEST_INSTRUCTION (R536): scan runs where LC_TEST.ScanAllow opens it; elsewhere the instruction acts as
BYPASS. -/
def privateTestInstructionEffect (ir : Nat) (d : Device) : Device :=
  if within 0x18 0x1E ir && mainRuns d && testModes d && d.lc.scanAllow then
    modLc (fun l => { l with scanning := true }) (selectIr ir d)
  else selectIr irBypass d
/-- PRIVATE_TEST_INSTRUCTION. -/
def execPrivateTestInstruction (ir : Nat) (s : State) : Host.Outcome State Fault Refusal := s.run (privateTestInstructionEffect ir)

end Sys2Proof.Machine
end

