-- ==== Sys2Proof/Machine/Dispatch.lean ====
section
/-! DEFINITION. One arm per command: the dispatch of a command to its meaning. -/

namespace Sys2Proof.Machine

open Sys2Proof

/-- The effect of a command on everything but the queue. -/
def exec (i : Instr) (s : State) : Host.Outcome State Fault Refusal :=
  match i with
  | .vstbyPowerOn vbat strap => Sys2Proof.Machine.execVstbyPowerOn vbat strap s
  | .xtalStable => Sys2Proof.Machine.execXtalStable s
  | .mainPgAssert => Sys2Proof.Machine.execMainPgAssert s
  | .mainPgDeassert => Sys2Proof.Machine.execMainPgDeassert s
  | .mainRailLoss mv ticks => Sys2Proof.Machine.execMainRailLoss mv ticks s
  | .vcoreLowExcursion mv => Sys2Proof.Machine.execVcoreLowExcursion mv s
  | .vcoreBrownOut mv ticks => Sys2Proof.Machine.execVcoreBrownOut mv ticks s
  | .vstbyFall vbat => Sys2Proof.Machine.execVstbyFall vbat s
  | .vbatLevelChange ok => Sys2Proof.Machine.execVbatLevelChange ok s
  | .recoverFilterAssert => Sys2Proof.Machine.execRecoverFilterAssert s
  | .recoverFilterDeassert ticks => Sys2Proof.Machine.execRecoverFilterDeassert ticks s
  | .recoverSettled => Sys2Proof.Machine.execRecoverSettled s
  | .junctionWarning temp => Sys2Proof.Machine.execJunctionWarning temp s
  | .junctionTrip temp => Sys2Proof.Machine.execJunctionTrip temp s
  | .testEnFall => Sys2Proof.Machine.execTestEnFall s
  | .gpioInputChange g level => Sys2Proof.Machine.execGpioInputChange g level s
  | .operatingTimeTick => Sys2Proof.Machine.execOperatingTimeTick s
  | .coreReset h => Sys2Proof.Machine.execCoreReset h s
  | .watchdogExpiry => Sys2Proof.Machine.execWatchdogExpiry s
  | .watchdogKick h v => Sys2Proof.Machine.execWatchdogKick h v s
  | .releaseHarts h => Sys2Proof.Machine.execReleaseHarts h s
  | .hartReady h => Sys2Proof.Machine.execHartReady h s
  | .deckleLock h => Sys2Proof.Machine.execDeckleLock h s
  | .handover h => Sys2Proof.Machine.execHandover h s
  | .markClean h => Sys2Proof.Machine.execMarkClean h s
  | .fwDataWrite h v => Sys2Proof.Machine.execFwDataWrite h v s
  | .watermarkExtend h n => Sys2Proof.Machine.execWatermarkExtend h n s
  | .couchOpen h requester => Sys2Proof.Machine.execCouchOpen h requester s
  | .couchAppend h => Sys2Proof.Machine.execCouchAppend h s
  | .siContentCheckDone => Sys2Proof.Machine.execSiContentCheckDone s
  | .couchCheck h => Sys2Proof.Machine.execCouchCheck h s
  | .couchCheckDone => Sys2Proof.Machine.execCouchCheckDone s
  | .couchCommit h => Sys2Proof.Machine.execCouchCommit h s
  | .couchDrainDone => Sys2Proof.Machine.execCouchDrainDone s
  | .couchDrainLimitExpiry => Sys2Proof.Machine.execCouchDrainLimitExpiry s
  | .siCopyDone => Sys2Proof.Machine.execSiCopyDone s
  | .couchAbort h => Sys2Proof.Machine.execCouchAbort h s
  | .couchRelease h => Sys2Proof.Machine.execCouchRelease h s
  | .restore h => Sys2Proof.Machine.execRestore h s
  | .couchUndefinedCommand h code => Sys2Proof.Machine.execCouchUndefinedCommand h code s
  | .sipDataWrite h v => Sys2Proof.Machine.execSipDataWrite h v s
  | .readId p n khz => Sys2Proof.Machine.execReadId p n khz s
  | .readSfdp p addr n khz => Sys2Proof.Machine.execReadSfdp p addr n khz s
  | .readStatus p n khz => Sys2Proof.Machine.execReadStatus p n khz s
  | .readFlagStatus p n khz => Sys2Proof.Machine.execReadFlagStatus p n khz s
  | .clearFlagStatus p khz => Sys2Proof.Machine.execClearFlagStatus p khz s
  | .writeEnable p khz => Sys2Proof.Machine.execWriteEnable p khz s
  | .writeDisable p khz => Sys2Proof.Machine.execWriteDisable p khz s
  | .read p four addr n khz late => Sys2Proof.Machine.execRead p four addr n khz late s
  | .fastRead p four addr n khz late => Sys2Proof.Machine.execFastRead p four addr n khz late s
  | .fastReadQuadOutput p four addr n khz late => Sys2Proof.Machine.execFastReadQuadOutput p four addr n khz late s
  | .fastReadQuadIo p four addr n khz late => Sys2Proof.Machine.execFastReadQuadIo p four addr n khz late s
  | .octalDdrRead p addr n khz => Sys2Proof.Machine.execOctalDdrRead p addr n khz s
  | .presentedReadResume p ended => Sys2Proof.Machine.execPresentedReadResume p ended s
  | .pageProgram p four addr data khz => Sys2Proof.Machine.execPageProgram p four addr data khz s
  | .erase4k p four addr khz => Sys2Proof.Machine.execErase4k p four addr khz s
  | .erase32k p four addr khz => Sys2Proof.Machine.execErase32k p four addr khz s
  | .erase64k p four addr khz => Sys2Proof.Machine.execErase64k p four addr khz s
  | .resetEnable p khz => Sys2Proof.Machine.execResetEnable p khz s
  | .reset p khz => Sys2Proof.Machine.execReset p khz s
  | .undefinedOpcode p op khz => Sys2Proof.Machine.execUndefinedOpcode p op khz s
  | .csRaisedEarly p op khz addr => Sys2Proof.Machine.execCsRaisedEarly p op khz addr s
  | .upResetAssert p => Sys2Proof.Machine.execUpResetAssert p s
  | .espiFlashRead p addr n khz => Sys2Proof.Machine.execEspiFlashRead p addr n khz s
  | .espiFlashWrite p addr data khz => Sys2Proof.Machine.execEspiFlashWrite p addr data khz s
  | .espiFlashErase p addr khz => Sys2Proof.Machine.execEspiFlashErase p addr khz s
  | .espiPeripheralRequest p khz => Sys2Proof.Machine.execEspiPeripheralRequest p khz s
  | .espiUndefinedCommand p op khz => Sys2Proof.Machine.execEspiUndefinedCommand p op khz s
  | .espiCrcError p op khz => Sys2Proof.Machine.execEspiCrcError p op khz s
  | .deferredCompletionReady p => Sys2Proof.Machine.execDeferredCompletionReady p s
  | .espiCompletionFetch p khz => Sys2Proof.Machine.execEspiCompletionFetch p khz s
  | .espiInBandReset p khz => Sys2Proof.Machine.execEspiInBandReset p khz s
  | .turnstileDecide f => Sys2Proof.Machine.execTurnstileDecide f s
  | .holdLimitExpiry f held ticks => Sys2Proof.Machine.execHoldLimitExpiry f held ticks s
  | .turnstileRestartDone f ticks => Sys2Proof.Machine.execTurnstileRestartDone f ticks s
  | .flashCommandDone f result data => Sys2Proof.Machine.execFlashCommandDone f result data s
  | .flashStatusPoll f ready => Sys2Proof.Machine.execFlashStatusPoll f ready s
  | .flashBusyEnd f failed => Sys2Proof.Machine.execFlashBusyEnd f failed s
  | .flashPollTimeout f => Sys2Proof.Machine.execFlashPollTimeout f s
  | .deviceResetPulseEnd f => Sys2Proof.Machine.execDeviceResetPulseEnd f s
  | .discoveryResetRecoveryEnd f answer => Sys2Proof.Machine.execDiscoveryResetRecoveryEnd f answer s
  | .dqsTimeout f => Sys2Proof.Machine.execDqsTimeout f s
  | .busContentionDetected m lines => Sys2Proof.Machine.execBusContentionDetected m lines s
  | .requalify h m => Sys2Proof.Machine.execRequalify h m s
  | .requalifySampleEnd m clean lines => Sys2Proof.Machine.execRequalifySampleEnd m clean lines s
  | .devReset h m mask => Sys2Proof.Machine.execDevReset h m mask s
  | .busControllerRestartDone m ticks => Sys2Proof.Machine.execBusControllerRestartDone m ticks s
  | .serveStart h bd v => Sys2Proof.Machine.execServeStart h bd v s
  | .serveReject h bd v => Sys2Proof.Machine.execServeReject h bd v s
  | .waitingDomainStart bd => Sys2Proof.Machine.execWaitingDomainStart bd s
  | .servingReadComplete bd image result data => Sys2Proof.Machine.execServingReadComplete bd image result data s
  | .streamIdleExpiry bd image => Sys2Proof.Machine.execStreamIdleExpiry bd image s
  | .bdReboot h bd => Sys2Proof.Machine.execBdReboot h bd s
  | .gateDelayExpiry bd => Sys2Proof.Machine.execGateDelayExpiry bd s
  | .gateHoldDelayExpiry bd => Sys2Proof.Machine.execGateHoldDelayExpiry bd s
  | .patrolScrubStep region word syndrome => Sys2Proof.Machine.execPatrolScrubStep region word syndrome s
  | .fqSubmit h v => Sys2Proof.Machine.execFqSubmit h v s
  | .fqResultPop h => Sys2Proof.Machine.execFqResultPop h s
  | .deviceRetire h f => Sys2Proof.Machine.execDeviceRetire h f s
  | .deviceProbe h f => Sys2Proof.Machine.execDeviceProbe h f s
  | .deviceResync h f => Sys2Proof.Machine.execDeviceResync h f s
  | .resyncComplete f => Sys2Proof.Machine.execResyncComplete f s
  | .endProbe h f => Sys2Proof.Machine.execEndProbe h f s
  | .dgOpen h => Sys2Proof.Machine.execDgOpen h s
  | .dgPrefix h c => Sys2Proof.Machine.execDgPrefix h c s
  | .dgBegin h c => Sys2Proof.Machine.execDgBegin h c s
  | .dgFeed h c => Sys2Proof.Machine.execDgFeed h c s
  | .dgFeedComplete h => Sys2Proof.Machine.execDgFeedComplete h s
  | .dgBind h c => Sys2Proof.Machine.execDgBind h c s
  | .dgClose h c => Sys2Proof.Machine.execDgClose h c s
  | .dgFree h c => Sys2Proof.Machine.execDgFree h c s
  | .dgCmpArm h c => Sys2Proof.Machine.execDgCmpArm h c s
  | .dgCmpFree h e => Sys2Proof.Machine.execDgCmpFree h e s
  | .dgUndefinedCommand h code => Sys2Proof.Machine.execDgUndefinedCommand h code s
  | .tapBurst c offset data => Sys2Proof.Machine.execTapBurst c offset data s
  | .laneBlockAbsorbed l => Sys2Proof.Machine.execLaneBlockAbsorbed l s
  | .contextSqueezeDone c => Sys2Proof.Machine.execContextSqueezeDone c s
  | .laneFault l c ecc => Sys2Proof.Machine.execLaneFault l c ecc s
  | .laneSelfTestDone l passed => Sys2Proof.Machine.execLaneSelfTestDone l passed s
  | .digestEngineRestartDone => Sys2Proof.Machine.execDigestEngineRestartDone s
  | .sgSubmit h v => Sys2Proof.Machine.execSgSubmit h v s
  | .sgJobComplete u fault => Sys2Proof.Machine.execSgJobComplete u fault s
  | .sgResultPop h => Sys2Proof.Machine.execSgResultPop h s
  | .sgUnitFault u => Sys2Proof.Machine.execSgUnitFault u s
  | .sgUnitSelfTestDone u passed => Sys2Proof.Machine.execSgUnitSelfTestDone u passed s
  | .sgEngineRestartDone => Sys2Proof.Machine.execSgEngineRestartDone s
  | .kvReserve h k => Sys2Proof.Machine.execKvReserve h k s
  | .kvClear h k => Sys2Proof.Machine.execKvClear h k s
  | .kvRandom h k => Sys2Proof.Machine.execKvRandom h k s
  | .kvRootDerive h k => Sys2Proof.Machine.execKvRootDerive h k s
  | .kvLadderDerive h k => Sys2Proof.Machine.execKvLadderDerive h k s
  | .kvTransfer h k => Sys2Proof.Machine.execKvTransfer h k s
  | .kvRestrict h k => Sys2Proof.Machine.execKvRestrict h k s
  | .kvStageInstall h k => Sys2Proof.Machine.execKvStageInstall h k s
  | .kvStageRetire h k => Sys2Proof.Machine.execKvStageRetire h k s
  | .kvStageRoot h => Sys2Proof.Machine.execKvStageRoot h s
  | .kvStageWrite h => Sys2Proof.Machine.execKvStageWrite h s
  | .kvStageDrop h => Sys2Proof.Machine.execKvStageDrop h s
  | .kvCommitInitial h => Sys2Proof.Machine.execKvCommitInitial h s
  | .kvUndefinedCommand h code => Sys2Proof.Machine.execKvUndefinedCommand h code s
  | .kvCommandDone h => Sys2Proof.Machine.execKvCommandDone h s
  | .keyVaultLoadDone => Sys2Proof.Machine.execKeyVaultLoadDone s
  | .rootLockSet h => Sys2Proof.Machine.execRootLockSet h s
  | .tamperAlarm n on => Sys2Proof.Machine.execTamperAlarm n on s
  | .entropyHealthFailure test => Sys2Proof.Machine.execEntropyHealthFailure test s
  | .bdSequenceStart bd requester fault => Sys2Proof.Machine.execBdSequenceStart bd requester fault s
  | .recoveryBundleInstall sender bundle fault => Sys2Proof.Machine.execRecoveryBundleInstall sender bundle fault s
  | .lgSubmit h v => Sys2Proof.Machine.execLgSubmit h v s
  | .sheetStored ok => Sys2Proof.Machine.execSheetStored ok s
  | .lgAck h v => Sys2Proof.Machine.execLgAck h v s
  | .hostPageAck ld v => Sys2Proof.Machine.execHostPageAck ld v s
  | .ackServed => Sys2Proof.Machine.execAckServed s
  | .ovrUptoWrite h v => Sys2Proof.Machine.execOvrUptoWrite h v s
  | .reamRecovered readable => Sys2Proof.Machine.execReamRecovered readable s
  | .eventArrival code sev aid params => Sys2Proof.Machine.execEventArrival code sev aid params s
  | .evPost h v => Sys2Proof.Machine.execEvPost h v s
  | .recordWriteDone ok => Sys2Proof.Machine.execRecordWriteDone ok s
  | .hostEventClear ld v => Sys2Proof.Machine.execHostEventClear ld v s
  | .evClear h v => Sys2Proof.Machine.execEvClear h v s
  | .eventLogClearDone => Sys2Proof.Machine.execEventLogClearDone s
  | .recorderRecovered => Sys2Proof.Machine.execRecorderRecovered s
  | .cxPerstAssert => Sys2Proof.Machine.execCxPerstAssert s
  | .linkHotReset => Sys2Proof.Machine.execLinkHotReset s
  | .linkSurpriseDown => Sys2Proof.Machine.execLinkSurpriseDown s
  | .linkUp rate width cxl w64 => Sys2Proof.Machine.execLinkUp rate width cxl w64 s
  | .w64BlockReceived block => Sys2Proof.Machine.execW64BlockReceived block s
  | .w64Fallback discarded corrected => Sys2Proof.Machine.execW64Fallback discarded corrected s
  | .functionLevelReset ld => Sys2Proof.Machine.execFunctionLevelReset ld s
  | .viewReset ld v => Sys2Proof.Machine.execViewReset ld v s
  | .hotResetVector mask => Sys2Proof.Machine.execHotResetVector mask s
  | .getLdInfo => Sys2Proof.Machine.execGetLdInfo s
  | .getLdAllocations start limit => Sys2Proof.Machine.execGetLdAllocations start limit s
  | .setLdAllocations start pairs => Sys2Proof.Machine.execSetLdAllocations start pairs s
  | .hdmDecoderCommit ld base size iw ig skip lock => Sys2Proof.Machine.execHdmDecoderCommit ld base size iw ig skip lock s
  | .memRd ld offset => Sys2Proof.Machine.execMemRd ld offset s
  | .memWr ld offset data mask => Sys2Proof.Machine.execMemWr ld offset data mask s
  | .stagingStart ld v => Sys2Proof.Machine.execStagingStart ld v s
  | .stagingAbort ld => Sys2Proof.Machine.execStagingAbort ld s
  | .stagingChunkDone ld v => Sys2Proof.Machine.execStagingChunkDone ld v s
  | .stagingReadyPop h => Sys2Proof.Machine.execStagingReadyPop h s
  | .stagingRelease h v => Sys2Proof.Machine.execStagingRelease h v s
  | .stagingEnd h v => Sys2Proof.Machine.execStagingEnd h v s
  | .doeRequest who object => Sys2Proof.Machine.execDoeRequest who object s
  | .doeAbort who => Sys2Proof.Machine.execDoeAbort who s
  | .doeDiscovery who index => Sys2Proof.Machine.execDoeDiscovery who index s
  | .cdatRead who entry => Sys2Proof.Machine.execCdatRead who entry s
  | .wardenStatus who code => Sys2Proof.Machine.execWardenStatus who code s
  | .getEventRecords who => Sys2Proof.Machine.execGetEventRecords who s
  | .clearEventRecords who handles => Sys2Proof.Machine.execClearEventRecords who handles s
  | .getEventInterruptPolicy who => Sys2Proof.Machine.execGetEventInterruptPolicy who s
  | .setEventInterruptPolicy who policies => Sys2Proof.Machine.execSetEventInterruptPolicy who policies s
  | .getFwInfo who => Sys2Proof.Machine.execGetFwInfo who s
  | .getSupportedLogs who => Sys2Proof.Machine.execGetSupportedLogs who s
  | .getLog who uuid offset len => Sys2Proof.Machine.execGetLog who uuid offset len s
  | .identifyMemoryDevice who => Sys2Proof.Machine.execIdentifyMemoryDevice who s
  | .getPartitionInfo who => Sys2Proof.Machine.execGetPartitionInfo who s
  | .getHealthInfo who => Sys2Proof.Machine.execGetHealthInfo who s
  | .getPoisonList who base len => Sys2Proof.Machine.execGetPoisonList who base len s
  | .fjarlinWardenStatus who => Sys2Proof.Machine.execFjarlinWardenStatus who s
  | .fjarlinStageSiData who offset data => Sys2Proof.Machine.execFjarlinStageSiData who offset data s
  | .fjarlinStageSiCommit who total => Sys2Proof.Machine.execFjarlinStageSiCommit who total s
  | .mailboxUnsupportedOpcode who op => Sys2Proof.Machine.execMailboxUnsupportedOpcode who op s
  | .getVersion conn => Sys2Proof.Machine.execGetVersion conn s
  | .getCapabilities conn request => Sys2Proof.Machine.execGetCapabilities conn request s
  | .negotiateAlgorithms conn request sha3 mldsa => Sys2Proof.Machine.execNegotiateAlgorithms conn request sha3 mldsa s
  | .getDigests conn request => Sys2Proof.Machine.execGetDigests conn request s
  | .getCertificate conn slot offset len request => Sys2Proof.Machine.execGetCertificate conn slot offset len request s
  | .challenge conn request slot summary nonce ready => Sys2Proof.Machine.execChallenge conn request slot summary nonce ready s
  | .getMeasurements conn request index signed nonce ready => Sys2Proof.Machine.execGetMeasurements conn request index signed nonce ready s
  | .respondIfReady conn token => Sys2Proof.Machine.execRespondIfReady conn token s
  | .chunkSend conn handle seq last chunk => Sys2Proof.Machine.execChunkSend conn handle seq last chunk s
  | .chunkGet conn handle seq => Sys2Proof.Machine.execChunkGet conn handle seq s
  | .spdmUnsupportedRequest conn code => Sys2Proof.Machine.execSpdmUnsupportedRequest conn code s
  | .spdmResponseNotReady conn code response => Sys2Proof.Machine.execSpdmResponseNotReady conn code response s
  | .sweepRegister ld v => Sys2Proof.Machine.execSweepRegister ld v s
  | .sweepUnregister ld v => Sys2Proof.Machine.execSweepUnregister ld v s
  | .sweepRegionDue ld r => Sys2Proof.Machine.execSweepRegionDue ld r s
  | .sweepNextPop h => Sys2Proof.Machine.execSweepNextPop h s
  | .sweepStart h v => Sys2Proof.Machine.execSweepStart h v s
  | .sweepReadCompletion ld offset status data => Sys2Proof.Machine.execSweepReadCompletion ld offset status data s
  | .sweepReadTimeout ld => Sys2Proof.Machine.execSweepReadTimeout ld s
  | .sweepBucketRefill ld => Sys2Proof.Machine.execSweepBucketRefill ld s
  | .sweepEndPop h => Sys2Proof.Machine.execSweepEndPop h s
  | .sweepPost h v => Sys2Proof.Machine.execSweepPost h v s
  | .hartChannelPost h c v old => Sys2Proof.Machine.execHartChannelPost h c v old s
  | .hartChannelTake h c => Sys2Proof.Machine.execHartChannelTake h c s
  | .hostChannelPost ld c v old => Sys2Proof.Machine.execHostChannelPost ld c v old s
  | .hostChannelTake ld c => Sys2Proof.Machine.execHostChannelTake ld c s
  | .cccSelect m c => Sys2Proof.Machine.execCccSelect m c s
  | .cccPost m v old => Sys2Proof.Machine.execCccPost m v old s
  | .cccTake m => Sys2Proof.Machine.execCccTake m s
  | .i2cChannelPost m c v old => Sys2Proof.Machine.execI2cChannelPost m c v old s
  | .i2cChannelTake m c => Sys2Proof.Machine.execI2cChannelTake m c s
  | .ibiAccepted m acked => Sys2Proof.Machine.execIbiAccepted m acked s
  | .enec m bits => Sys2Proof.Machine.execEnec m bits s
  | .disec m bits => Sys2Proof.Machine.execDisec m bits s
  | .rstdaa m => Sys2Proof.Machine.execRstdaa m s
  | .entdaa m addr => Sys2Proof.Machine.execEntdaa m addr s
  | .setdasa m static addr => Sys2Proof.Machine.execSetdasa m static addr s
  | .setnewda m addr => Sys2Proof.Machine.execSetnewda m addr s
  | .getpid m => Sys2Proof.Machine.execGetpid m s
  | .getbcr m => Sys2Proof.Machine.execGetbcr m s
  | .getdcr m => Sys2Proof.Machine.execGetdcr m s
  | .getstatus m => Sys2Proof.Machine.execGetstatus m s
  | .setmwl m n => Sys2Proof.Machine.execSetmwl m n s
  | .getmwl m => Sys2Proof.Machine.execGetmwl m s
  | .setmrl m n => Sys2Proof.Machine.execSetmrl m n s
  | .getmrl m => Sys2Proof.Machine.execGetmrl m s
  | .rstact m action => Sys2Proof.Machine.execRstact m action s
  | .i3cTargetReset m => Sys2Proof.Machine.execI3cTargetReset m s
  | .mctpPacket m packet => Sys2Proof.Machine.execMctpPacket m packet s
  | .i2cMctpResponseRead m => Sys2Proof.Machine.execI2cMctpResponseRead m s
  | .setEndpointId m op eid => Sys2Proof.Machine.execSetEndpointId m op eid s
  | .getEndpointId m => Sys2Proof.Machine.execGetEndpointId m s
  | .getMctpVersionSupport m msgType => Sys2Proof.Machine.execGetMctpVersionSupport m msgType s
  | .getMessageTypeSupport m => Sys2Proof.Machine.execGetMessageTypeSupport m s
  | .getVendorDefinedMessageSupport m selector => Sys2Proof.Machine.execGetVendorDefinedMessageSupport m selector s
  | .fjStatus m tag => Sys2Proof.Machine.execFjStatus m tag s
  | .transferBegin m tag kind len => Sys2Proof.Machine.execTransferBegin m tag kind len s
  | .transferData m tag offset data => Sys2Proof.Machine.execTransferData m tag offset data s
  | .transferEnd m tag fault => Sys2Proof.Machine.execTransferEnd m tag fault s
  | .sheetRead m tag sheet offset len => Sys2Proof.Machine.execSheetRead m tag sheet offset len s
  | .sheetAcknowledge m tag sheet g => Sys2Proof.Machine.execSheetAcknowledge m tag sheet g s
  | .reamHead m tag => Sys2Proof.Machine.execReamHead m tag s
  | .eventRead m tag first count => Sys2Proof.Machine.execEventRead m tag first count s
  | .eventClear m tag seq => Sys2Proof.Machine.execEventClear m tag seq s
  | .cardPresent slot card => Sys2Proof.Machine.execCardPresent slot card s
  | .cardRemoved slot => Sys2Proof.Machine.execCardRemoved slot s
  | .slotPowerSettled slot => Sys2Proof.Machine.execSlotPowerSettled slot s
  | .cardCommandIssue h v => Sys2Proof.Machine.execCardCommandIssue h v s
  | .cardResponse bits crcOk => Sys2Proof.Machine.execCardResponse bits crcOk s
  | .cardResponseTimeout => Sys2Proof.Machine.execCardResponseTimeout s
  | .cardDataBlock data crcOk => Sys2Proof.Machine.execCardDataBlock data crcOk s
  | .cardDataTimeout => Sys2Proof.Machine.execCardDataTimeout s
  | .cardCrcStatusToken token => Sys2Proof.Machine.execCardCrcStatusToken token s
  | .cardBusyEnd => Sys2Proof.Machine.execCardBusyEnd s
  | .cardBusyTimeout => Sys2Proof.Machine.execCardBusyTimeout s
  | .cardWriteDetectHold => Sys2Proof.Machine.execCardWriteDetectHold s
  | .cardReset cause => Sys2Proof.Machine.execCardReset cause s
  | .cardPowerOffEnd slot => Sys2Proof.Machine.execCardPowerOffEnd slot s
  | .lcTransition h target => Sys2Proof.Machine.execLcTransition h target s
  | .lcUnlock h => Sys2Proof.Machine.execLcUnlock h s
  | .lcBurnWord h => Sys2Proof.Machine.execLcBurnWord h s
  | .lcReadWord h => Sys2Proof.Machine.execLcReadWord h s
  | .lcUndefinedCommand h code => Sys2Proof.Machine.execLcUndefinedCommand h code s
  | .otpBurnDone => Sys2Proof.Machine.execOtpBurnDone s
  | .scanAllow h v => Sys2Proof.Machine.execScanAllow h v s
  | .mbistGo h v => Sys2Proof.Machine.execMbistGo h v s
  | .mbistDone failed => Sys2Proof.Machine.execMbistDone failed s
  | .mramTest h v => Sys2Proof.Machine.execMramTest h v s
  | .scanExit => Sys2Proof.Machine.execScanExit s
  | .dbChallenge src => Sys2Proof.Machine.execDbChallenge src s
  | .dbSubmit src => Sys2Proof.Machine.execDbSubmit src s
  | .ticketVerifyDone => Sys2Proof.Machine.execTicketVerifyDone s
  | .dbClose src => Sys2Proof.Machine.execDbClose src s
  | .dbRequest level => Sys2Proof.Machine.execDbRequest level s
  | .tktDataWrite src v => Sys2Proof.Machine.execTktDataWrite src v s
  | .idcode => Sys2Proof.Machine.execIdcode s
  | .samplePreload cells => Sys2Proof.Machine.execSamplePreload cells s
  | .extest cells => Sys2Proof.Machine.execExtest cells s
  | .bypass => Sys2Proof.Machine.execBypass s
  | .dtmcs => Sys2Proof.Machine.execDtmcs s
  | .dmiAccess op => Sys2Proof.Machine.execDmiAccess op s
  | .boothAccess op index v => Sys2Proof.Machine.execBoothAccess op index v s
  | .privateTestInstruction ir => Sys2Proof.Machine.execPrivateTestInstruction ir s
  | .deepSleepEnter h v => Sys2Proof.Machine.execDeepSleepEnter h v s
  | .deepSleepEntryComplete => Sys2Proof.Machine.execDeepSleepEntryComplete s
  | .mainResetRequest h v => Sys2Proof.Machine.execMainResetRequest h v s
  | .wakeEvent source ticks => Sys2Proof.Machine.execWakeEvent source ticks s
  | .wakeTimerExpiry ticks => Sys2Proof.Machine.execWakeTimerExpiry ticks s
  | .correctedError block word => Sys2Proof.Machine.execCorrectedError block word s
  | .deferredError block inst kind word => Sys2Proof.Machine.execDeferredError block inst kind word s
  | .f1Error block inst kind => Sys2Proof.Machine.execF1Error block inst kind s
  | .f2Error block inst kind => Sys2Proof.Machine.execF2Error block inst kind s
  | .safeStateReset => Sys2Proof.Machine.execSafeStateReset s
  | .ecReportPop h => Sys2Proof.Machine.execEcReportPop h s
  | .ecInjectArm h v => Sys2Proof.Machine.execEcInjectArm h v s
  | .ptCtrlWrite h v => Sys2Proof.Machine.execPtCtrlWrite h v s
  | .latchedLoRead space size addr => Sys2Proof.Machine.execLatchedLoRead space size addr s
  | .wearWrite h f v => Sys2Proof.Machine.execWearWrite h f v s
  | .registerWrite space size addr v => Sys2Proof.Machine.execRegisterWrite space size addr v s
  | .upResetRelease p => Sys2Proof.Machine.execUpResetRelease p s
  | .cxPerstDeassert => Sys2Proof.Machine.execCxPerstDeassert s
  | .testEnRise => Sys2Proof.Machine.execTestEnRise s
  | .holdupOkChange ok => Sys2Proof.Machine.execHoldupOkChange ok s
  | .mainRailsUp => Sys2Proof.Machine.execMainRailsUp s
  | .vcoreExcursionEnd ticks => Sys2Proof.Machine.execVcoreExcursionEnd ticks s
  | .junctionExcursionEnd temp => Sys2Proof.Machine.execJunctionExcursionEnd temp s
  | .entropyHealthRecovery => Sys2Proof.Machine.execEntropyHealthRecovery s
  | .blockRestartDone block us => Sys2Proof.Machine.execBlockRestartDone block us s
  | .lifeCycleWipeDone => Sys2Proof.Machine.execLifeCycleWipeDone s

end Sys2Proof.Machine
end

