-- ==== Sys2Proof/Laws/Memory.lean ====
section
/-! SUPPORT. Memory: every operation keeps the canonical form; a byte read is the byte last written there; other bytes are
left alone. -/

namespace Sys2Proof.Machine

open Sys2Proof

/-- A canonical list stays canonical above a lower bound. -/
theorem cellsWf_mono {lo lo' : Nat} (hl : lo' ≤ lo) {m : List Host.Cell} (h : cellsWf lo m = true) : cellsWf lo' m = true := by
  cases m with
  | nil => rfl
  | cons c tl => simp only [cellsWf, Bool.and_eq_true, decide_eq_true_eq] at *; exact ⟨⟨by omega, h.1.2⟩, h.2⟩

/-- A cell below the bound of a canonical list is not listed. -/
theorem cellGet_below {lo a : Nat} (ha : a < lo) {m : List Host.Cell} (h : cellsWf lo m = true) : cellGet m a = none := by
  cases m with
  | nil => rfl
  | cons c tl =>
    simp only [cellsWf, Bool.and_eq_true, decide_eq_true_eq] at h
    simp [cellGet, show c.1 ≠ a by omega, show a < c.1 by omega]

theorem cellSet_wf {lo a : Nat} {v : Byte} (ha : lo ≤ a) {m : List Host.Cell} (h : cellsWf lo m = true) :
    cellsWf lo (cellSet m a v) = true := by
  induction m generalizing lo with
  | nil => unfold cellSet; split <;> simp_all [cellsWf]
  | cons c tl ih =>
    simp only [cellsWf, Bool.and_eq_true, decide_eq_true_eq] at h
    unfold cellSet
    split
    · split
      · simp [cellsWf, h]
      · simp [cellsWf, *] <;> omega
    · split
      · subst a
        split
        · exact cellsWf_mono (by omega) h.2
        · simp [cellsWf, *]
      · have := ih (lo := c.1 + 1) (by omega) h.2
        simp [cellsWf, h, this]

/-- A byte written keeps the canonical form. -/
@[simp] theorem memSet_wf {m : Memory} (a : Nat) (v : Byte) (h : Memory.wf m = true) : Memory.wf (memSet m a v) = true :=
  cellSet_wf (m := m.cells) (Nat.zero_le _) h

/-- Bytes written keep the canonical form. -/
@[simp] theorem memWrite_wf {m : Memory} (a : Nat) (bs : List Byte) (h : Memory.wf m = true) :
    Memory.wf (memWrite m a bs) = true := by
  induction bs generalizing m a with
  | nil => exact h
  | cons b bs ih => exact ih _ (memSet_wf _ _ h)

/-- A fill keeps the canonical form. -/
@[simp] theorem memFill_wf {m : Memory} (a n : Nat) (v : Byte) (h : Memory.wf m = true) : Memory.wf (memFill m a n v) = true := by
  induction n generalizing m a with
  | zero => exact h
  | succ n ih => exact ih _ (memSet_wf _ _ h)

/-- A copy keeps the canonical form. -/
@[simp] theorem memCopy_wf {m : Memory} (src dst n : Nat) (h : Memory.wf m = true) : Memory.wf (memCopy m src dst n) = true :=
  memWrite_wf _ _ h

theorem filter_cellsWf (p : Host.Cell → Bool) {lo : Nat} {m : List Host.Cell} (h : cellsWf lo m = true) :
    cellsWf lo (m.filter p) = true := by
  induction m generalizing lo with
  | nil => rfl
  | cons c tl ih =>
    simp only [cellsWf, Bool.and_eq_true, decide_eq_true_eq] at h
    rw [List.filter_cons]
    split
    · simp [cellsWf, h, ih h.2]
    · exact cellsWf_mono (by omega) (ih h.2)

/-- A loss of volatile memory keeps the canonical form. -/
@[simp] theorem memLose_wf (wake : Bool) {m : Memory} (h : Memory.wf m = true) : Memory.wf (memLose wake m) = true :=
  filter_cellsWf (m := m.cells) _ h

/-- Memory operations in sequence keep the canonical form where each does. -/
@[simp] theorem foldl_memWf {α : Type} (g : Memory → α → Memory)
    (hg : ∀ m a, Memory.wf m = true → Memory.wf (g m a) = true) (l : List α) {m : Memory} (h : Memory.wf m = true) :
    Memory.wf (l.foldl g m) = true := by
  induction l generalizing m with
  | nil => exact h
  | cons a l ih => exact ih (hg _ _ h)

/-! ### Reading -/

/-- What an elided value leaves to read is that value. -/
theorem elided_eq {m : Memory} {a : Nat} {v : Byte} (h : elided a v = true) : unlisted m a = v := by
  simp only [elided, Bool.and_eq_true, beq_iff_eq] at h
  simp [unlisted, h.1, h.2]

/-- The cell listed after one is set: a value at rest is listed nowhere. -/
theorem cellGet_cellSet {lo a b : Nat} {v : Byte} (hb : lo ≤ a) {m : List Host.Cell} (h : cellsWf lo m = true) :
    cellGet (cellSet m a v) b = if b = a then (if elided a v then none else some v) else cellGet m b := by
  induction m generalizing lo with
  | nil => unfold cellSet; split <;> simp_all [cellGet] <;> grind
  | cons c tl ih =>
    simp only [cellsWf, Bool.and_eq_true, decide_eq_true_eq] at h
    have ht := h.2
    unfold cellSet
    split
    · split
      · simp only [cellGet]; grind
      · simp only [cellGet]; grind
    · split
      · split
        · have := fun (hx : b < c.1 + 1) => cellGet_below hx ht
          simp only [cellGet]; grind
        · simp only [cellGet]; grind
      · have := ih (lo := c.1 + 1) (by omega) ht
        simp only [cellGet, this]; grind

/-- A read after a write: the byte written at its address, every other byte as before. -/
theorem memGet_memSet {m : Memory} (h : Memory.wf m = true) (a b : Nat) (v : Byte) :
    memGet (memSet m a v) b = if b = a then v else memGet m b := by
  have hc := cellGet_cellSet (b := b) (v := v) (Nat.zero_le a) (m := m.cells) h
  unfold memGet
  rw [show (memSet m a v).cells = cellSet m.cells a v from rfl, hc]
  by_cases hb : b = a
  · subst b
    by_cases he : elided a v = true
    · simpa [he] using elided_eq he
    · simp [he]
  · simp only [if_neg hb]; rfl

/-- A read after bytes are written. -/
theorem memGet_memWrite {m : Memory} (h : Memory.wf m = true) (a b : Nat) (bs : List Byte) :
    memGet (memWrite m a bs) b = if a ≤ b ∧ b < a + bs.length then bs.getD (b - a) 0 else memGet m b := by
  induction bs generalizing m a with
  | nil => simp [memWrite] <;> omega
  | cons x bs ih =>
    rw [memWrite, ih (memSet_wf _ _ h), memGet_memSet h]
    by_cases hb : b = a
    · subst b; simp <;> omega
    · by_cases h1 : a + 1 ≤ b ∧ b < a + 1 + bs.length
      · rw [if_pos h1, if_pos (by simp; omega)]
        obtain ⟨k, hk⟩ : ∃ k, b - a = k + 1 := ⟨b - a - 1, by omega⟩
        rw [hk, List.getD_cons_succ]; congr 1; omega
      · rw [if_neg h1, if_neg hb, if_neg (by simp; omega)]

/-- A read after a fill. -/
theorem memGet_memFill {m : Memory} (h : Memory.wf m = true) (a b n : Nat) (v : Byte) :
    memGet (memFill m a n v) b = if a ≤ b ∧ b < a + n then v else memGet m b := by
  induction n generalizing m a with
  | zero => rw [memFill, if_neg (by omega)]
  | succ n ih =>
    rw [memFill, ih (memSet_wf _ _ h), memGet_memSet h]
    grind

/-! ### The recorder's and the ledger's memory -/

@[simp] theorem putBody_wf (j : Nat) (b : List Byte) {m : Memory} (h : Memory.wf m = true) : Memory.wf (putBody j b m) = true :=
  memWrite_wf _ _ (memWrite_wf _ _ h)

@[simp] theorem putSeqWord_wf (j : Nat) (b : List Byte) {m : Memory} (h : Memory.wf m = true) :
    Memory.wf (putSeqWord j b m) = true := memWrite_wf _ _ h

@[simp] theorem putRecord_wf (env : EvEnv) (e : EventRec) {m : Memory} (r : Recorder) (h : Memory.wf m = true) :
    Memory.wf (putRecord env e m r).1 = true := putSeqWord_wf _ _ (putBody_wf _ _ h)

@[simp] theorem closeIfFull_wf (env : EvEnv) {m : Memory} (r : Recorder) (h : Memory.wf m = true) :
    Memory.wf (closeIfFull env m r).1 = true := by
  unfold closeIfFull; split
  · exact putRecord_wf _ _ _ h
  · exact h

@[simp] theorem writeFront_wf (env : EvEnv) {m : Memory} (r : Recorder) (h : Memory.wf m = true) :
    Memory.wf (writeFront env m r).1 = true := by
  unfold writeFront; split
  · exact h
  · split
    · exact h
    · exact closeIfFull_wf _ _ (putRecord_wf _ _ _ h)

@[simp] theorem writeAll_wf (env : EvEnv) (n : Nat) {m : Memory} (r : Recorder) (h : Memory.wf m = true) :
    Memory.wf (writeAll env n m r).1 = true := by
  induction n generalizing m r with
  | zero => exact h
  | succ n ih => exact ih _ (writeFront_wf _ _ h)

@[simp] theorem clearSeqs_wf (n top : Nat) {m : Memory} (h : Memory.wf m = true) : Memory.wf (clearSeqs n top m) = true := by
  induction n generalizing top m with
  | zero => cases top <;> exact h
  | succ n ih =>
    cases top with
    | zero => exact h
    | succ j => unfold clearSeqs; split <;> first | exact h | exact ih j (memWrite_wf _ _ h)

@[simp] theorem cutClear_wf (n : Nat) {m : Memory} (r : Recorder) (h : Memory.wf m = true) : Memory.wf (cutClear n m r) = true := by
  unfold cutClear; split <;> simp [h]

@[simp] theorem clearLog_wf (env : EvEnv) (q : Nat) {m : Memory} (r : Recorder) (h : Memory.wf m = true) :
    Memory.wf (clearLog env q m r).1 = true := putRecord_wf _ _ _ (clearSeqs_wf _ _ h)

@[simp] theorem finishClear_wf (env : EvEnv) {m : Memory} (r : Recorder) (h : Memory.wf m = true) :
    Memory.wf (finishClear env m r).1 = true := by
  unfold finishClear; split <;> simp [h]

@[simp] theorem tearFront_wf (env : EvEnv) {m : Memory} (r : Recorder) (h : Memory.wf m = true) :
    Memory.wf (tearFront env m r) = true := by
  unfold tearFront; split
  · exact h
  · split <;> simp [h]

@[simp] theorem storeSheet_wf {m : Memory} (p : Nat) (b : List Byte) (h : Memory.wf m = true) :
    Memory.wf (storeSheet m p b) = true := memWrite_wf _ _ h

@[simp] theorem writeAcks_wf (aid : Nat) (ps : List Nat) {m : Memory} (h : Memory.wf m = true) :
    Memory.wf (writeAcks aid ps m) = true := by
  induction ps generalizing m with
  | nil => exact h
  | cons p ps ih => exact ih (memWrite_wf _ _ h)

@[simp] theorem putDirect_wf (env : EvEnv) (e : EventRec) (s : Memory × Recorder) (h : Memory.wf s.1 = true) :
    Memory.wf (putDirect env e s).1 = true := by
  unfold putDirect; split
  · exact h
  · split
    · exact h
    · exact closeIfFull_wf _ _ (putRecord_wf _ _ _ h)

@[simp] theorem recoverLog_wf {m : Memory} (r : Recorder) (h : Memory.wf m = true) : Memory.wf (recoverLog m r).1 = true := by
  unfold recoverLog; dsimp only; split
  · exact memWrite_wf _ _ h
  · exact h

theorem carryRecords_wf (env : EvEnv) (l : List (Nat × List Byte)) (acc : (Memory × Recorder) × Nat × Nat)
    (h : Memory.wf acc.1.1 = true) : Memory.wf (carryRecords env l acc).1.1 = true := by
  induction l generalizing acc with
  | nil => exact h
  | cons x l ih => unfold carryRecords; split <;> first | exact h | exact ih _ (putDirect_wf _ _ _ h)

@[simp] theorem carryRing_wf (env : EvEnv) (bat : Battery) (s : Memory × Recorder) (h : Memory.wf s.1 = true) :
    Memory.wf (carryRing env bat s).1 = true :=
  putDirect_wf _ _ _ (carryRecords_wf _ _ _ h)

end Sys2Proof.Machine
end

