-- ==== Sys2Proof/Laws/KeptOps.lean ====
section
/-! SUPPORT. What the shared operations, the mailbox channels and the I3C ports do to memory and to OTP: `f_kept`, both unchanged, and the policy in force too;
`f_wf`, memory keeps its canonical form, OTP (and, where nothing commits, the policy in force) is unchanged. -/

namespace Sys2Proof.Machine

open Sys2Proof

/-- The policy in force is the same: the committed epoch, both leaves, and whether the fabric is live. -/
@[reducible, simp] def SamePolicy (e d : Device) : Prop :=
  e.tx.epoch = d.tx.epoch ∧ e.tx.leafEven = d.tx.leafEven ∧ e.tx.leafOdd = d.tx.leafOdd ∧ e.tx.fabricLive = d.tx.fabricLive

theorem SamePolicy.trans {a b c : Device} (h : SamePolicy a b) (g : SamePolicy b c) : SamePolicy a c :=
  ⟨h.1.trans g.1, h.2.1.trans g.2.1, h.2.2.1.trans g.2.2.1, h.2.2.2.trans g.2.2.2⟩

/-- What memory, OTP and the policy in force survive in one step and in the next, they survive in both. -/
theorem wf_trans {a b c : Device}
    (h : (Memory.wf b.mem = true → Memory.wf c.mem = true) ∧ c.lc.otp = b.lc.otp ∧ SamePolicy c b)
    (g : (Memory.wf a.mem = true → Memory.wf b.mem = true) ∧ b.lc.otp = a.lc.otp ∧ SamePolicy b a) :
    (Memory.wf a.mem = true → Memory.wf c.mem = true) ∧ c.lc.otp = a.lc.otp ∧ SamePolicy c a :=
  ⟨fun w => h.1 (g.1 w), h.2.1.trans g.2.1, h.2.2.trans g.2.2⟩

theorem wf_refl (a : Device) : (Memory.wf a.mem = true → Memory.wf a.mem = true) ∧ a.lc.otp = a.lc.otp ∧ SamePolicy a a :=
  ⟨id, rfl, rfl, rfl, rfl, rfl⟩

theorem wf_of_kept {a b : Device} (h : b.mem = a.mem ∧ b.lc.otp = a.lc.otp ∧ SamePolicy b a) :
    (Memory.wf a.mem = true → Memory.wf b.mem = true) ∧ b.lc.otp = a.lc.otp ∧ SamePolicy b a :=
  ⟨fun w => by rw [h.1]; exact w, h.2⟩

theorem wf_if {c : Prop} [Decidable c] {a b d : Device}
    (ha : (Memory.wf d.mem = true → Memory.wf a.mem = true) ∧ a.lc.otp = d.lc.otp ∧ SamePolicy a d)
    (hb : (Memory.wf d.mem = true → Memory.wf b.mem = true) ∧ b.lc.otp = d.lc.otp ∧ SamePolicy b d) :
    (Memory.wf d.mem = true → Memory.wf (if c then a else b).mem = true) ∧ (if c then a else b).lc.otp = d.lc.otp ∧
      SamePolicy (if c then a else b) d := by
  split <;> assumption

theorem kept_refl (a : Device) : a.mem = a.mem ∧ a.lc.otp = a.lc.otp ∧ SamePolicy a a := ⟨rfl, rfl, rfl, rfl, rfl, rfl⟩

/-- What stays in one step and in the next stays in both. -/
theorem kept_trans {a b c : Device} (h : c.mem = b.mem ∧ c.lc.otp = b.lc.otp ∧ SamePolicy c b)
    (g : b.mem = a.mem ∧ b.lc.otp = a.lc.otp ∧ SamePolicy b a) : c.mem = a.mem ∧ c.lc.otp = a.lc.otp ∧ SamePolicy c a :=
  ⟨h.1.trans g.1, h.2.1.trans g.2.1, h.2.2.trans g.2.2⟩

theorem foldl_same {α β : Type} (p : Device → β) (g : Device → α → Device) (h : ∀ d a, p (g d a) = p d) (l : List α) (d : Device) :
    p (l.foldl g d) = p d := by
  induction l generalizing d with
  | nil => rfl
  | cons a l ih => rw [List.foldl_cons, ih, h]

@[simp] theorem foldl_kept {α : Type} (g : Device → α → Device) 
    (h : ∀ d a, (g d a).mem = d.mem ∧ (g d a).lc.otp = d.lc.otp ∧ SamePolicy (g d a) d) (l : List α) (d : Device) :
    (l.foldl g d).mem = d.mem ∧ (l.foldl g d).lc.otp = d.lc.otp ∧ SamePolicy (l.foldl g d) d :=
  ⟨foldl_same (·.mem) g (fun d a => (h d a).1) l d, foldl_same (·.lc.otp) g (fun d a => (h d a).2.1) l d,
    foldl_same (·.tx.epoch) g (fun d a => (h d a).2.2.1) l d, foldl_same (·.tx.leafEven) g (fun d a => (h d a).2.2.2.1) l d,
    foldl_same (·.tx.leafOdd) g (fun d a => (h d a).2.2.2.2.1) l d, foldl_same (·.tx.fabricLive) g (fun d a => (h d a).2.2.2.2.2) l d⟩

@[simp] theorem ite_mem (c : Prop) [Decidable c] (a b : Device) : (if c then a else b).mem = if c then a.mem else b.mem := apply_ite ..
@[simp] theorem ite_otp (c : Prop) [Decidable c] (a b : Device) : (if c then a else b).lc.otp = if c then a.lc.otp else b.lc.otp := by
  split <;> rfl

@[simp] theorem ite_epoch (c : Prop) [Decidable c] (a b : Device) :
    (if c then a else b).tx.epoch = if c then a.tx.epoch else b.tx.epoch := by
  split <;> rfl

@[simp] theorem ite_leafEven (c : Prop) [Decidable c] (a b : Device) :
    (if c then a else b).tx.leafEven = if c then a.tx.leafEven else b.tx.leafEven := by
  split <;> rfl

@[simp] theorem ite_leafOdd (c : Prop) [Decidable c] (a b : Device) :
    (if c then a else b).tx.leafOdd = if c then a.tx.leafOdd else b.tx.leafOdd := by
  split <;> rfl

@[simp] theorem ite_fabricLive (c : Prop) [Decidable c] (a b : Device) :
    (if c then a else b).tx.fabricLive = if c then a.tx.fabricLive else b.tx.fabricLive := by
  split <;> rfl

theorem kept_ite {c : Prop} [Decidable c] {a b d : Device}
    (ha : a.mem = d.mem ∧ a.lc.otp = d.lc.otp ∧ SamePolicy a d)
    (hb : b.mem = d.mem ∧ b.lc.otp = d.lc.otp ∧ SamePolicy b d) :
    (if c then a else b).mem = d.mem ∧ (if c then a else b).lc.otp = d.lc.otp ∧ SamePolicy (if c then a else b) d := by
  split <;> assumption

@[simp] theorem foldr_kept {α : Type} (g : α → Device → Device) 
    (h : ∀ d a, (g a d).mem = d.mem ∧ (g a d).lc.otp = d.lc.otp ∧ SamePolicy (g a d) d) (l : List α) (d : Device) :
    (l.foldr g d).mem = d.mem ∧ (l.foldr g d).lc.otp = d.lc.otp ∧ SamePolicy (l.foldr g d) d := by
  rw [← List.foldl_reverse]; exact foldl_kept _ h _ _

@[simp] theorem foldl_wf {α : Type} (g : Device → α → Device) 
    (h : ∀ d a, (Memory.wf d.mem = true → Memory.wf (g d a).mem = true) ∧ (g d a).lc.otp = d.lc.otp ∧ SamePolicy (g d a) d)
    (l : List α) (d : Device) : (Memory.wf d.mem = true → Memory.wf (l.foldl g d).mem = true) ∧
      (l.foldl g d).lc.otp = d.lc.otp ∧ SamePolicy (l.foldl g d) d := by
  refine ⟨?_, foldl_same (·.lc.otp) g (fun d a => (h d a).2.1) l d, foldl_same (·.tx.epoch) g (fun d a => (h d a).2.2.1) l d, foldl_same (·.tx.leafEven) g (fun d a => (h d a).2.2.2.1) l d,
    foldl_same (·.tx.leafOdd) g (fun d a => (h d a).2.2.2.2.1) l d, foldl_same (·.tx.fabricLive) g (fun d a => (h d a).2.2.2.2.2) l d⟩
  induction l generalizing d with
  | nil => exact id
  | cons a l ih => exact fun hd => ih _ ((h d a).1 hd)
theorem wf_dev_ite {c : Prop} [Decidable c] {a b d : Device}
    (ha : (Memory.wf d.mem = true → Memory.wf a.mem = true) ∧ a.lc.otp = d.lc.otp ∧ SamePolicy a d)
    (hb : (Memory.wf d.mem = true → Memory.wf b.mem = true) ∧ b.lc.otp = d.lc.otp ∧ SamePolicy b d) :
    (Memory.wf d.mem = true → Memory.wf (if c then a else b).mem = true) ∧ (if c then a else b).lc.otp = d.lc.otp ∧
      SamePolicy (if c then a else b) d := by
  split <;> assumption
@[simp] theorem wf_ite (c : Prop) [Decidable c] (a b : Memory) : Memory.wf (if c then a else b) = if c then Memory.wf a else Memory.wf b := apply_ite ..

@[simp] theorem lastGaspBy_kept (code aid sev : Nat) (params : List Nat) (d : Device) :
    (lastGaspBy code aid sev params d).mem = d.mem ∧ (lastGaspBy code aid sev params d).lc.otp = d.lc.otp ∧ SamePolicy (lastGaspBy code aid sev params d) d := by
  simp [lastGaspBy]

@[simp] theorem lastGasp_kept (code sev : Nat) (params : List Nat) (d : Device) :
    (lastGasp code sev params d).mem = d.mem ∧ (lastGasp code sev params d).lc.otp = d.lc.otp ∧ SamePolicy (lastGasp code sev params d) d := by
  simp [lastGasp]

@[simp] theorem arriveEvent_kept (hart : Bool) (code aid sev : Nat) (params : List Nat) (d : Device) :
    (arriveEvent hart code aid sev params d).mem = d.mem ∧ (arriveEvent hart code aid sev params d).lc.otp = d.lc.otp ∧ SamePolicy (arriveEvent hart code aid sev params d) d := by
  simp [arriveEvent]

@[simp] theorem event_kept (code sev : Nat) (ps : List Nat) (d : Device) :
    (event code sev ps d).mem = d.mem ∧ (event code sev ps d).lc.otp = d.lc.otp ∧ SamePolicy (event code sev ps d) d := by simp [event]

@[simp] theorem agentEvent_kept (code aid sev : Nat) (ps : List Nat) (d : Device) :
    (agentEvent code aid sev ps d).mem = d.mem ∧ (agentEvent code aid sev ps d).lc.otp = d.lc.otp ∧ SamePolicy (agentEvent code aid sev ps d) d := by
  simp [agentEvent]

@[simp] theorem hartEvent_kept (h code sev : Nat) (ps : List Nat) (d : Device) :
    (hartEvent h code sev ps d).mem = d.mem ∧ (hartEvent h code sev ps d).lc.otp = d.lc.otp ∧ SamePolicy (hartEvent h code sev ps d) d := by
  simp [hartEvent]

@[simp] theorem events_kept (l : List (Nat × Nat × List Nat)) (d : Device) :
    (events l d).mem = d.mem ∧ (events l d).lc.otp = d.lc.otp ∧ SamePolicy (events l d) d := by simp [events]

@[simp] theorem eventsRaw_kept (l : List (Nat × Nat × List Nat)) (d : Device) :
    (eventsRaw l d).mem = d.mem ∧ (eventsRaw l d).lc.otp = d.lc.otp ∧ SamePolicy (eventsRaw l d) d := by simp [eventsRaw]

@[simp] theorem accessFault_kept (h : Hart) (addr : Nat) (d : Device) :
    (accessFault h addr d).mem = d.mem ∧ (accessFault h addr d).lc.otp = d.lc.otp ∧ SamePolicy (accessFault h addr d) d := by
  simp [accessFault]

@[simp] theorem romFaulted_kept (d : Device) :
    (romFaulted d).mem = d.mem ∧ (romFaulted d).lc.otp = d.lc.otp ∧ SamePolicy (romFaulted d) d := by simp [romFaulted]

@[simp] theorem tookFree_kept (n : Nat) (d : Device) :
    (tookFree n d).mem = d.mem ∧ (tookFree n d).lc.otp = d.lc.otp ∧ SamePolicy (tookFree n d) d := by simp [tookFree]

@[simp] theorem reply_kept (bs : List Byte) (d : Device) :
    (reply bs d).mem = d.mem ∧ (reply bs d).lc.otp = d.lc.otp ∧ SamePolicy (reply bs d) d := by simp [reply]

@[simp] theorem replyWord_kept (w : Word) (d : Device) :
    (replyWord w d).mem = d.mem ∧ (replyWord w d).lc.otp = d.lc.otp ∧ SamePolicy (replyWord w d) d := by simp [replyWord]

@[simp] theorem noteStore_kept (a n : Nat) (d : Device) :
    (noteStore a n d).mem = d.mem ∧ (noteStore a n d).lc.otp = d.lc.otp ∧ SamePolicy (noteStore a n d) d := by simp [noteStore]

@[simp] theorem store_wf (a : Nat) (bs : List Byte) (d : Device) :
    (Memory.wf d.mem = true → Memory.wf (store a bs d).mem = true) ∧ (store a bs d).lc.otp = d.lc.otp ∧ SamePolicy (store a bs d) d := by
  refine ⟨fun h => ?_, ?_⟩ <;> simp (maxDischargeDepth := 30) [store, *]

@[simp] theorem fill_wf (a n : Nat) (v : Byte) (d : Device) :
    (Memory.wf d.mem = true → Memory.wf (fill a n v d).mem = true) ∧ (fill a n v d).lc.otp = d.lc.otp ∧ SamePolicy (fill a n v d) d := by
  refine ⟨fun h => ?_, ?_⟩ <;> simp (maxDischargeDepth := 30) [fill, *]

@[simp] theorem mramUsed_kept (d : Device) :
    (mramUsed d).mem = d.mem ∧ (mramUsed d).lc.otp = d.lc.otp ∧ SamePolicy (mramUsed d) d := by simp [mramUsed]

@[simp] theorem mramStore_wf (a : Nat) (bs : List Byte) (d : Device) :
    (Memory.wf d.mem = true → Memory.wf (mramStore a bs d).mem = true) ∧ (mramStore a bs d).lc.otp = d.lc.otp ∧ SamePolicy (mramStore a bs d) d := by
  refine ⟨fun h => ?_, ?_⟩ <;> simp (maxDischargeDepth := 30) [mramStore, *]

@[simp] theorem scramble_wf (a n : Nat) (d : Device) :
    (Memory.wf d.mem = true → Memory.wf (scramble a n d).mem = true) ∧ (scramble a n d).lc.otp = d.lc.otp ∧ SamePolicy (scramble a n d) d := by
  refine ⟨fun h => ?_, ?_⟩ <;> simp (maxDischargeDepth := 30) [scramble, *]

@[simp] theorem modLd_kept (n : Nat) (f : LogicalDev → LogicalDev) (d : Device) :
    (modLd n f d).mem = d.mem ∧ (modLd n f d).lc.otp = d.lc.otp ∧ SamePolicy (modLd n f d) d := by simp [modLd]

@[simp] theorem modWho_kept (who : Option Ld) (f : LogicalDev → LogicalDev) (d : Device) :
    (modWho who f d).mem = d.mem ∧ (modWho who f d).lc.otp = d.lc.otp ∧ SamePolicy (modWho who f d) d := by
  unfold modWho; (repeat' split) <;> simp

@[simp] theorem modBd_kept (n : Nat) (f : BootDomain → BootDomain) (d : Device) :
    (modBd n f d).mem = d.mem ∧ (modBd n f d).lc.otp = d.lc.otp ∧ SamePolicy (modBd n f d) d := by simp [modBd]

@[simp] theorem modPort_kept (n : Nat) (f : UpPort → UpPort) (d : Device) :
    (modPort n f d).mem = d.mem ∧ (modPort n f d).lc.otp = d.lc.otp ∧ SamePolicy (modPort n f d) d := by simp [modPort]

@[simp] theorem modBus_kept (n : Nat) (f : FlashBus → FlashBus) (d : Device) :
    (modBus n f d).mem = d.mem ∧ (modBus n f d).lc.otp = d.lc.otp ∧ SamePolicy (modBus n f d) d := by simp [modBus]

@[simp] theorem modDev_kept (n : Nat) (f : FlashDev → FlashDev) (d : Device) :
    (modDev n f d).mem = d.mem ∧ (modDev n f d).lc.otp = d.lc.otp ∧ SamePolicy (modDev n f d) d := by simp [modDev]

@[simp] theorem modTs_kept (n : Nat) (f : Turnstile → Turnstile) (d : Device) :
    (modTs n f d).mem = d.mem ∧ (modTs n f d).lc.otp = d.lc.otp ∧ SamePolicy (modTs n f d) d := by simp [modTs]

@[simp] theorem modHealth_kept (n : Nat) (f : DevHealth → DevHealth) (d : Device) :
    (modHealth n f d).mem = d.mem ∧ (modHealth n f d).lc.otp = d.lc.otp ∧ SamePolicy (modHealth n f d) d := by simp [modHealth]

@[simp] theorem modChan_kept (n : Nat) (f : Channel → Channel) (d : Device) :
    (modChan n f d).mem = d.mem ∧ (modChan n f d).lc.otp = d.lc.otp ∧ SamePolicy (modChan n f d) d := by simp [modChan]

@[simp] theorem modI3c_kept (n : Nat) (f : I3cPort → I3cPort) (d : Device) :
    (modI3c n f d).mem = d.mem ∧ (modI3c n f d).lc.otp = d.lc.otp ∧ SamePolicy (modI3c n f d) d := by simp [modI3c]

@[simp] theorem modSlot_kept (n : Nat) (f : CardSlot → CardSlot) (d : Device) :
    (modSlot n f d).mem = d.mem ∧ (modSlot n f d).lc.otp = d.lc.otp ∧ SamePolicy (modSlot n f d) d := by simp [modSlot]

@[simp] theorem interrupt_kept (h : Nat) (d : Device) :
    (interrupt h d).mem = d.mem ∧ (interrupt h d).lc.otp = d.lc.otp ∧ SamePolicy (interrupt h d) d := by simp [interrupt]

@[simp] theorem msi_kept (ld vec : Nat) (d : Device) :
    (msi ld vec d).mem = d.mem ∧ (msi ld vec d).lc.otp = d.lc.otp ∧ SamePolicy (msi ld vec d) d := by simp [msi]

@[simp] theorem extendWmk_kept (n : Nat) (m : List Byte) (d : Device) :
    (extendWmk n m d).mem = d.mem ∧ (extendWmk n m d).lc.otp = d.lc.otp ∧ SamePolicy (extendWmk n m d) d := by simp [extendWmk]

@[simp] theorem clearWmk_kept (n : Nat) (d : Device) :
    (clearWmk n d).mem = d.mem ∧ (clearWmk n d).lc.otp = d.lc.otp ∧ SamePolicy (clearWmk n d) d := by simp [clearWmk]

@[simp] theorem intervalBegin_kept (buses cause bus : Nat) (d : Device) :
    (intervalBegin buses cause bus d).mem = d.mem ∧ (intervalBegin buses cause bus d).lc.otp = d.lc.otp ∧ SamePolicy (intervalBegin buses cause bus d) d := by
  unfold intervalBegin; (repeat' split) <;> simp

@[simp] theorem spanCounted_kept (ticks : Nat) (d : Device) :
    (spanCounted ticks d).mem = d.mem ∧ (spanCounted ticks d).lc.otp = d.lc.otp ∧ SamePolicy (spanCounted ticks d) d := by simp [spanCounted]

@[simp] theorem spanEvent_kept (ps : List Nat) (d : Device) :
    (spanEvent ps d).mem = d.mem ∧ (spanEvent ps d).lc.otp = d.lc.otp ∧ SamePolicy (spanEvent ps d) d := by simp [spanEvent]

@[simp] theorem spanEnd_kept (ticks : Nat) (d : Device) :
    (spanEnd ticks d).mem = d.mem ∧ (spanEnd ticks d).lc.otp = d.lc.otp ∧ SamePolicy (spanEnd ticks d) d := by
  unfold spanEnd; (repeat' split) <;> simp

@[simp] theorem spanEndFree_kept (d : Device) :
    (spanEndFree d).mem = d.mem ∧ (spanEndFree d).lc.otp = d.lc.otp ∧ SamePolicy (spanEndFree d) d := by
  unfold spanEndFree; (repeat' split) <;> simp

@[simp] theorem intervalEnd_kept (cause bus ticks : Nat) (d : Device) :
    (intervalEnd cause bus ticks d).mem = d.mem ∧ (intervalEnd cause bus ticks d).lc.otp = d.lc.otp ∧ SamePolicy (intervalEnd cause bus ticks d) d := by
  unfold intervalEnd; (repeat' split) <;> simp

@[simp] theorem closeWindow_kept (d : Device) :
    (closeWindow d).mem = d.mem ∧ (closeWindow d).lc.otp = d.lc.otp ∧ SamePolicy (closeWindow d) d := by simp [closeWindow]

@[simp] theorem windowDown_kept (d : Device) :
    (windowDown d).mem = d.mem ∧ (windowDown d).lc.otp = d.lc.otp ∧ SamePolicy (windowDown d) d := by
  unfold windowDown; (repeat' split) <;> simp

@[simp] theorem recordSpans_kept (d : Device) :
    (recordSpans d).mem = d.mem ∧ (recordSpans d).lc.otp = d.lc.otp ∧ SamePolicy (recordSpans d) d := by
  unfold recordSpans; dsimp only; exact foldl_kept _ (fun d a => spanEvent_kept a d) _ _

@[simp] theorem hartWrite_kept (h : Hart) (block addr : Nat) (f : Device → Device) (d : Device) (hf : ∀ e, (f e).mem = e.mem ∧ (f e).lc.otp = e.lc.otp ∧ SamePolicy (f e) e) :
    (hartWrite h block addr f d).mem = d.mem ∧ (hartWrite h block addr f d).lc.otp = d.lc.otp ∧ SamePolicy (hartWrite h block addr f d) d := by
  unfold hartWrite; (repeat' split) <;> simp [hf]

@[simp] theorem hartWrite_wf (h : Hart) (block addr : Nat) (f : Device → Device) (d : Device) (hf : ∀ e, (Memory.wf e.mem = true → Memory.wf (f e).mem = true) ∧ (f e).lc.otp = e.lc.otp ∧ SamePolicy (f e) e) :
    (Memory.wf d.mem = true → Memory.wf (hartWrite h block addr f d).mem = true) ∧ (hartWrite h block addr f d).lc.otp = d.lc.otp ∧ SamePolicy (hartWrite h block addr f d) d := by
  unfold hartWrite; refine ⟨fun h => ?_, ?_⟩ <;> (repeat' split) <;> simp (maxDischargeDepth := 30) [*]

@[simp] theorem hartWrite_wfOtp (h : Hart) (block addr : Nat) (f : Device → Device) (d : Device)
    (hf : ∀ e, (Memory.wf e.mem = true → Memory.wf (f e).mem = true) ∧ (f e).lc.otp = e.lc.otp) :
    (Memory.wf d.mem = true → Memory.wf (hartWrite h block addr f d).mem = true) ∧ (hartWrite h block addr f d).lc.otp = d.lc.otp := by
  unfold hartWrite; refine ⟨fun h => ?_, ?_⟩ <;> (repeat' split) <;> simp [*]

@[simp] theorem onlyHart_kept (owner : Nat) (h : Hart) (block addr : Nat) (f : Device → Device) (d : Device) (hf : ∀ e, (f e).mem = e.mem ∧ (f e).lc.otp = e.lc.otp ∧ SamePolicy (f e) e) :
    (onlyHart owner h block addr f d).mem = d.mem ∧ (onlyHart owner h block addr f d).lc.otp = d.lc.otp ∧ SamePolicy (onlyHart owner h block addr f d) d := by
  unfold onlyHart; apply hartWrite_kept; intro e; split <;> simp [hf]

@[simp] theorem raiseIbi_kept (m c : Nat) (d : Device) :
    (raiseIbi m c d).mem = d.mem ∧ (raiseIbi m c d).lc.otp = d.lc.otp ∧ SamePolicy (raiseIbi m c d) d := by simp [raiseIbi]

@[simp] theorem onlyHart_wf (owner : Nat) (h : Hart) (block addr : Nat) (f : Device → Device) (d : Device) (hf : ∀ e, (Memory.wf e.mem = true → Memory.wf (f e).mem = true) ∧ (f e).lc.otp = e.lc.otp ∧ SamePolicy (f e) e) :
    (Memory.wf d.mem = true → Memory.wf (onlyHart owner h block addr f d).mem = true) ∧ (onlyHart owner h block addr f d).lc.otp = d.lc.otp ∧ SamePolicy (onlyHart owner h block addr f d) d := by
  unfold onlyHart; apply hartWrite_wf; intro e; refine ⟨fun h => ?_, ?_⟩ <;> (repeat' split) <;> simp (maxDischargeDepth := 30) [*]

@[simp] theorem onlyHart_wfOtp (owner : Nat) (h : Hart) (block addr : Nat) (f : Device → Device) (d : Device)
    (hf : ∀ e, (Memory.wf e.mem = true → Memory.wf (f e).mem = true) ∧ (f e).lc.otp = e.lc.otp) :
    (Memory.wf d.mem = true → Memory.wf (onlyHart owner h block addr f d).mem = true) ∧
      (onlyHart owner h block addr f d).lc.otp = d.lc.otp := by
  unfold onlyHart; apply hartWrite_wfOtp; intro e; refine ⟨fun h => ?_, ?_⟩ <;> split <;> simp [*]

@[simp] theorem barker_kept (r : ChannelRec) (d : Device) :
    (barker r d).mem = d.mem ∧ (barker r d).lc.otp = d.lc.otp ∧ SamePolicy (barker r d) d := by simp [barker]

@[simp] theorem postTaken_kept (L : Leaf) (aid c : Nat) (w : Word) (d : Device) :
    (postTaken L aid c w d).mem = d.mem ∧ (postTaken L aid c w d).lc.otp = d.lc.otp ∧ SamePolicy (postTaken L aid c w d) d := by
  unfold postTaken; (repeat' split) <;> simp

@[simp] theorem postRefused_kept (aid c : Nat) (d : Device) :
    (postRefused aid c d).mem = d.mem ∧ (postRefused aid c d).lc.otp = d.lc.otp ∧ SamePolicy (postRefused aid c d) d := by simp [postRefused]

@[simp] theorem taken_kept (L : Leaf) (aid c : Nat) (d : Device) :
    (taken L aid c d).mem = d.mem ∧ (taken L aid c d).lc.otp = d.lc.otp ∧ SamePolicy (taken L aid c d) d := by simp [taken]

@[simp] theorem loseWord_kept (c sender receiver cause : Nat) (d : Device) :
    (loseWord c sender receiver cause d).mem = d.mem ∧ (loseWord c sender receiver cause d).lc.otp = d.lc.otp ∧ SamePolicy (loseWord c sender receiver cause d) d := by
  simp [loseWord]

@[simp] theorem receiverReset_kept (aid : Nat) (d : Device) :
    (receiverReset aid d).mem = d.mem ∧ (receiverReset aid d).lc.otp = d.lc.otp ∧ SamePolicy (receiverReset aid d) d := by
  unfold receiverReset; apply foldl_kept; intro acc x; (repeat' split) <;> simp

@[simp] theorem senderReset_kept (aid : Nat) (d : Device) :
    (senderReset aid d).mem = d.mem ∧ (senderReset aid d).lc.otp = d.lc.otp ∧ SamePolicy (senderReset aid d) d := by
  unfold senderReset; apply foldl_kept; intro acc x; (repeat' split) <;> simp

@[simp] theorem channelEndReset_kept (aid : Nat) (d : Device) :
    (channelEndReset aid d).mem = d.mem ∧ (channelEndReset aid d).lc.otp = d.lc.otp ∧ SamePolicy (channelEndReset aid d) d := by
  simp [channelEndReset]

@[simp] theorem channelInstant_kept (old new : Leaf) (c : Nat) (d : Device) :
    (channelInstant old new c d).mem = d.mem ∧ (channelInstant old new c d).lc.otp = d.lc.otp ∧ SamePolicy (channelInstant old new c d) d := by
  simp [channelInstant]

@[simp] theorem latePost_kept (aid c : Nat) (w : Word) (d : Device) :
    (latePost aid c w d).mem = d.mem ∧ (latePost aid c w d).lc.otp = d.lc.otp ∧ SamePolicy (latePost aid c w d) d := by
  unfold latePost; (repeat' split) <;> simp

@[simp] theorem postDone_kept (old : Bool) (aid c : Nat) (w : Word) (d : Device) :
    (postDone old aid c w d).mem = d.mem ∧ (postDone old aid c w d).lc.otp = d.lc.otp ∧ SamePolicy (postDone old aid c w d) d := by simp [postDone]

@[simp] theorem channelsInstant_kept (old new : Leaf) (d : Device) :
    (channelsInstant old new d).mem = d.mem ∧ (channelsInstant old new d).lc.otp = d.lc.otp ∧ SamePolicy (channelsInstant old new d) d := by
  simp [channelsInstant]

@[simp] theorem hartChannelPostEffect_kept (h : Hart) (c : Chan) (v : Word) (old : Bool) (d : Device) :
    (hartChannelPostEffect h c v old d).mem = d.mem ∧ (hartChannelPostEffect h c v old d).lc.otp = d.lc.otp ∧ SamePolicy (hartChannelPostEffect h c v old d) d := by
  unfold hartChannelPostEffect; apply hartWrite_kept; intros; (repeat' split) <;> simp

@[simp] theorem hartChannelTakeEffect_kept (h : Hart) (c : Chan) (d : Device) :
    (hartChannelTakeEffect h c d).mem = d.mem ∧ (hartChannelTakeEffect h c d).lc.otp = d.lc.otp ∧ SamePolicy (hartChannelTakeEffect h c d) d := by
  simp [hartChannelTakeEffect]

@[simp] theorem completerAbort_kept (ld : Ld) (addr : Nat) (d : Device) :
    (completerAbort ld addr d).mem = d.mem ∧ (completerAbort ld addr d).lc.otp = d.lc.otp ∧ SamePolicy (completerAbort ld addr d) d := by
  simp [completerAbort]

@[simp] theorem hostChannelPostEffect_kept (ld : Ld) (c : Chan) (v : Word) (old : Bool) (d : Device) :
    (hostChannelPostEffect ld c v old d).mem = d.mem ∧ (hostChannelPostEffect ld c v old d).lc.otp = d.lc.otp ∧ SamePolicy (hostChannelPostEffect ld c v old d) d := by
  unfold hostChannelPostEffect; (repeat' split) <;> simp

@[simp] theorem hostChannelTakeEffect_kept (ld : Ld) (c : Chan) (d : Device) :
    (hostChannelTakeEffect ld c d).mem = d.mem ∧ (hostChannelTakeEffect ld c d).lc.otp = d.lc.otp ∧ SamePolicy (hostChannelTakeEffect ld c d) d := by
  simp [hostChannelTakeEffect]

@[simp] theorem acked_kept (bs : List Byte) (d : Device) :
    (acked bs d).mem = d.mem ∧ (acked bs d).lc.otp = d.lc.otp ∧ SamePolicy (acked bs d) d := by simp [acked]

@[simp] theorem nacked_kept (d : Device) :
    (nacked d).mem = d.mem ∧ (nacked d).lc.otp = d.lc.otp ∧ SamePolicy (nacked d) d := by simp [nacked]

@[simp] theorem nackFull_kept (m : Mport) (d : Device) :
    (nackFull m d).mem = d.mem ∧ (nackFull m d).lc.otp = d.lc.otp ∧ SamePolicy (nackFull m d) d := by simp [nackFull]

@[simp] theorem ccc_kept (m : Mport) (f : Device → Device) (d : Device) (hf : ∀ e, (f e).mem = e.mem ∧ (f e).lc.otp = e.lc.otp ∧ SamePolicy (f e) e) :
    (ccc m f d).mem = d.mem ∧ (ccc m f d).lc.otp = d.lc.otp ∧ SamePolicy (ccc m f d) d := by
  unfold ccc; (repeat' split) <;> simp [hf]

@[simp] theorem ccc_wf (m : Mport) (f : Device → Device) (d : Device) (hf : ∀ e, (Memory.wf e.mem = true → Memory.wf (f e).mem = true) ∧ (f e).lc.otp = e.lc.otp ∧ SamePolicy (f e) e) :
    (Memory.wf d.mem = true → Memory.wf (ccc m f d).mem = true) ∧ (ccc m f d).lc.otp = d.lc.otp ∧ SamePolicy (ccc m f d) d := by
  unfold ccc; refine ⟨fun h => ?_, ?_⟩ <;> (repeat' split) <;> simp (maxDischargeDepth := 30) [*]

@[simp] theorem cccSet_kept (m : Mport) (f : I3cPort → I3cPort) (d : Device) :
    (cccSet m f d).mem = d.mem ∧ (cccSet m f d).lc.otp = d.lc.otp ∧ SamePolicy (cccSet m f d) d := by
  unfold cccSet; apply ccc_kept; intros; simp

@[simp] theorem assignAddress_kept (m : Mport) (addr method : Nat) (d : Device) :
    (assignAddress m addr method d).mem = d.mem ∧ (assignAddress m addr method d).lc.otp = d.lc.otp ∧ SamePolicy (assignAddress m addr method d) d := by
  simp [assignAddress]

@[simp] theorem respondTo_kept (m : Mport) (dst tag : Nat) (bs : List Byte) (d : Device) :
    (respondTo m dst tag bs d).mem = d.mem ∧ (respondTo m dst tag bs d).lc.otp = d.lc.otp ∧ SamePolicy (respondTo m dst tag bs d) d := by simp [respondTo]

@[simp] theorem respond_kept (m : Mport) (bs : List Byte) (d : Device) :
    (respond m bs d).mem = d.mem ∧ (respond m bs d).lc.otp = d.lc.otp ∧ SamePolicy (respond m bs d) d := by simp [respond]

@[simp] theorem forgetPort_kept (m : Nat) (d : Device) :
    (forgetPort m d).mem = d.mem ∧ (forgetPort m d).lc.otp = d.lc.otp ∧ SamePolicy (forgetPort m d) d := by simp [forgetPort]

@[simp] theorem endTransfer_kept (m : Mport) (outcome check : Nat) (d : Device) :
    (endTransfer m outcome check d).mem = d.mem ∧ (endTransfer m outcome check d).lc.otp = d.lc.otp ∧ SamePolicy (endTransfer m outcome check d) d := by
  unfold endTransfer; (repeat' split) <;> simp

@[simp] theorem transferAnswer_kept (m : Mport) (kind outcome check : Nat) (d : Device) :
    (transferAnswer m kind outcome check d).mem = d.mem ∧ (transferAnswer m kind outcome check d).lc.otp = d.lc.otp ∧ SamePolicy (transferAnswer m kind outcome check d) d := by
  unfold transferAnswer; (repeat' split) <;> simp

@[simp] theorem i3cPortReset_kept (m : Mport) (d : Device) :
    (i3cPortReset m d).mem = d.mem ∧ (i3cPortReset m d).lc.otp = d.lc.otp ∧ SamePolicy (i3cPortReset m d) d := by simp [i3cPortReset]

@[simp] theorem recordNote_kept (m : Mport) (d : Device) :
    (recordNote m d).mem = d.mem ∧ (recordNote m d).lc.otp = d.lc.otp ∧ SamePolicy (recordNote m d) d := by
  unfold recordNote; (repeat' split) <;> simp

@[simp] theorem discardMessage_kept (m : Mport) (src tag reason : Nat) (more : Bool) (d : Device) :
    (discardMessage m src tag reason more d).mem = d.mem ∧ (discardMessage m src tag reason more d).lc.otp = d.lc.otp ∧ SamePolicy (discardMessage m src tag reason more d) d := by
  simp [discardMessage]

@[simp] theorem extendMessage_kept (m : Mport) (pk : McPacket) (sofar : List Byte) (d : Device) :
    (extendMessage m pk sofar d).mem = d.mem ∧ (extendMessage m pk sofar d).lc.otp = d.lc.otp ∧ SamePolicy (extendMessage m pk sofar d) d := by
  simp [extendMessage]

@[simp] theorem reassemble_kept (m : Mport) (pk : McPacket) (d : Device) :
    (reassemble m pk d).mem = d.mem ∧ (reassemble m pk d).lc.otp = d.lc.otp ∧ SamePolicy (reassemble m pk d) d := by
  unfold reassemble; dsimp only; (repeat' split) <;> simp

@[simp] theorem drainPackets_kept (m : Mport) (d : Device) :
    (drainPackets m d).mem = d.mem ∧ (drainPackets m d).lc.otp = d.lc.otp ∧ SamePolicy (drainPackets m d) d := by simp [drainPackets]

@[simp] theorem cccSelectEffect_kept (m : Mport) (c : Nat) (d : Device) :
    (cccSelectEffect m c d).mem = d.mem ∧ (cccSelectEffect m c d).lc.otp = d.lc.otp ∧ SamePolicy (cccSelectEffect m c d) d := by
  simp [cccSelectEffect]

@[simp] theorem portPost_kept (m : Mport) (c : Nat) (v : Word) (old : Bool) (d : Device) :
    (portPost m c v old d).mem = d.mem ∧ (portPost m c v old d).lc.otp = d.lc.otp ∧ SamePolicy (portPost m c v old d) d := by
  unfold portPost; (repeat' split) <;> simp

@[simp] theorem cccPostEffect_kept (m : Mport) (v : Word) (old : Bool) (d : Device) :
    (cccPostEffect m v old d).mem = d.mem ∧ (cccPostEffect m v old d).lc.otp = d.lc.otp ∧ SamePolicy (cccPostEffect m v old d) d := by
  unfold cccPostEffect; (repeat' split) <;> simp

@[simp] theorem portTake_kept (m : Mport) (c : Nat) (d : Device) :
    (portTake m c d).mem = d.mem ∧ (portTake m c d).lc.otp = d.lc.otp ∧ SamePolicy (portTake m c d) d := by simp [portTake]

@[simp] theorem cccTakeEffect_kept (m : Mport) (d : Device) :
    (cccTakeEffect m d).mem = d.mem ∧ (cccTakeEffect m d).lc.otp = d.lc.otp ∧ SamePolicy (cccTakeEffect m d) d := by
  unfold cccTakeEffect; (repeat' split) <;> simp

@[simp] theorem i2cChannelPostEffect_kept (m : Mport) (c : Nat) (v : Word) (old : Bool) (d : Device) :
    (i2cChannelPostEffect m c v old d).mem = d.mem ∧ (i2cChannelPostEffect m c v old d).lc.otp = d.lc.otp ∧ SamePolicy (i2cChannelPostEffect m c v old d) d := by
  simp [i2cChannelPostEffect]

@[simp] theorem i2cChannelTakeEffect_kept (m : Mport) (c : Nat) (d : Device) :
    (i2cChannelTakeEffect m c d).mem = d.mem ∧ (i2cChannelTakeEffect m c d).lc.otp = d.lc.otp ∧ SamePolicy (i2cChannelTakeEffect m c d) d := by
  simp [i2cChannelTakeEffect]

@[simp] theorem ibiAcceptedEffect_kept (m : Mport) (ack : Bool) (d : Device) :
    (ibiAcceptedEffect m ack d).mem = d.mem ∧ (ibiAcceptedEffect m ack d).lc.otp = d.lc.otp ∧ SamePolicy (ibiAcceptedEffect m ack d) d := by
  unfold ibiAcceptedEffect; (repeat' split) <;> simp

@[simp] theorem enecEffect_kept (m : Mport) (bits : Nat) (d : Device) :
    (enecEffect m bits d).mem = d.mem ∧ (enecEffect m bits d).lc.otp = d.lc.otp ∧ SamePolicy (enecEffect m bits d) d := by
  unfold enecEffect; apply ccc_kept; intros; simp

@[simp] theorem disecEffect_kept (m : Mport) (bits : Nat) (d : Device) :
    (disecEffect m bits d).mem = d.mem ∧ (disecEffect m bits d).lc.otp = d.lc.otp ∧ SamePolicy (disecEffect m bits d) d := by
  simp [disecEffect]

@[simp] theorem rstdaaEffect_kept (m : Mport) (d : Device) :
    (rstdaaEffect m d).mem = d.mem ∧ (rstdaaEffect m d).lc.otp = d.lc.otp ∧ SamePolicy (rstdaaEffect m d) d := by simp [rstdaaEffect]

@[simp] theorem entdaaEffect_kept (m : Mport) (addr : Nat) (d : Device) :
    (entdaaEffect m addr d).mem = d.mem ∧ (entdaaEffect m addr d).lc.otp = d.lc.otp ∧ SamePolicy (entdaaEffect m addr d) d := by
  unfold entdaaEffect; apply ccc_kept; intros; simp

@[simp] theorem setdasaEffect_kept (m : Mport) (static addr : Nat) (d : Device) :
    (setdasaEffect m static addr d).mem = d.mem ∧ (setdasaEffect m static addr d).lc.otp = d.lc.otp ∧ SamePolicy (setdasaEffect m static addr d) d := by
  unfold setdasaEffect; apply ccc_kept; intros; simp

@[simp] theorem setnewdaEffect_kept (m : Mport) (addr : Nat) (d : Device) :
    (setnewdaEffect m addr d).mem = d.mem ∧ (setnewdaEffect m addr d).lc.otp = d.lc.otp ∧ SamePolicy (setnewdaEffect m addr d) d := by
  unfold setnewdaEffect; apply ccc_kept; intros; simp

@[simp] theorem getpidEffect_kept (m : Mport) (d : Device) :
    (getpidEffect m d).mem = d.mem ∧ (getpidEffect m d).lc.otp = d.lc.otp ∧ SamePolicy (getpidEffect m d) d := by
  unfold getpidEffect; apply ccc_kept; intros; simp

@[simp] theorem getbcrEffect_kept (m : Mport) (d : Device) :
    (getbcrEffect m d).mem = d.mem ∧ (getbcrEffect m d).lc.otp = d.lc.otp ∧ SamePolicy (getbcrEffect m d) d := by
  unfold getbcrEffect; apply ccc_kept; intros; simp

@[simp] theorem getdcrEffect_kept (m : Mport) (d : Device) :
    (getdcrEffect m d).mem = d.mem ∧ (getdcrEffect m d).lc.otp = d.lc.otp ∧ SamePolicy (getdcrEffect m d) d := by
  unfold getdcrEffect; apply ccc_kept; intros; simp

@[simp] theorem getstatusEffect_kept (m : Mport) (d : Device) :
    (getstatusEffect m d).mem = d.mem ∧ (getstatusEffect m d).lc.otp = d.lc.otp ∧ SamePolicy (getstatusEffect m d) d := by
  simp [getstatusEffect]

@[simp] theorem setmwlEffect_kept (m : Mport) (n : Nat) (d : Device) :
    (setmwlEffect m n d).mem = d.mem ∧ (setmwlEffect m n d).lc.otp = d.lc.otp ∧ SamePolicy (setmwlEffect m n d) d := by simp [setmwlEffect]

@[simp] theorem getmwlEffect_kept (m : Mport) (d : Device) :
    (getmwlEffect m d).mem = d.mem ∧ (getmwlEffect m d).lc.otp = d.lc.otp ∧ SamePolicy (getmwlEffect m d) d := by
  unfold getmwlEffect; apply ccc_kept; intros; simp

@[simp] theorem setmrlEffect_kept (m : Mport) (n : Nat) (d : Device) :
    (setmrlEffect m n d).mem = d.mem ∧ (setmrlEffect m n d).lc.otp = d.lc.otp ∧ SamePolicy (setmrlEffect m n d) d := by simp [setmrlEffect]

@[simp] theorem getmrlEffect_kept (m : Mport) (d : Device) :
    (getmrlEffect m d).mem = d.mem ∧ (getmrlEffect m d).lc.otp = d.lc.otp ∧ SamePolicy (getmrlEffect m d) d := by
  unfold getmrlEffect; apply ccc_kept; intros; simp

@[simp] theorem rstactEffect_kept (m : Mport) (action : Nat) (d : Device) :
    (rstactEffect m action d).mem = d.mem ∧ (rstactEffect m action d).lc.otp = d.lc.otp ∧ SamePolicy (rstactEffect m action d) d := by
  simp [rstactEffect]

@[simp] theorem i3cTargetResetEffect_kept (m : Mport) (d : Device) :
    (i3cTargetResetEffect m d).mem = d.mem ∧ (i3cTargetResetEffect m d).lc.otp = d.lc.otp ∧ SamePolicy (i3cTargetResetEffect m d) d := by
  simp [i3cTargetResetEffect]

@[simp] theorem mctpPacketEffect_kept (m : Mport) (pk : McPacket) (d : Device) :
    (mctpPacketEffect m pk d).mem = d.mem ∧ (mctpPacketEffect m pk d).lc.otp = d.lc.otp ∧ SamePolicy (mctpPacketEffect m pk d) d := by
  simp [mctpPacketEffect]

@[simp] theorem i2cMctpResponseReadEffect_kept (m : Mport) (d : Device) :
    (i2cMctpResponseReadEffect m d).mem = d.mem ∧ (i2cMctpResponseReadEffect m d).lc.otp = d.lc.otp ∧ SamePolicy (i2cMctpResponseReadEffect m d) d := by
  unfold i2cMctpResponseReadEffect; (repeat' split) <;> simp

@[simp] theorem control_kept (m : Mport) (code : Byte) (f : Device → List Byte × Device) (d : Device) (hf : ∀ e, (f e).2.mem = e.mem ∧ (f e).2.lc.otp = e.lc.otp ∧ SamePolicy (f e).2 e) :
    (control m code f d).mem = d.mem ∧ (control m code f d).lc.otp = d.lc.otp ∧ SamePolicy (control m code f d) d := by
  unfold control; (try dsimp only); (repeat' split) <;> simp [hf]

@[simp] theorem control_wf (m : Mport) (code : Byte) (f : Device → List Byte × Device) (d : Device) (hf : ∀ e, (Memory.wf e.mem = true → Memory.wf (f e).2.mem = true) ∧ (f e).2.lc.otp = e.lc.otp ∧ SamePolicy (f e).2 e) :
    (Memory.wf d.mem = true → Memory.wf (control m code f d).mem = true) ∧ (control m code f d).lc.otp = d.lc.otp ∧ SamePolicy (control m code f d) d := by
  unfold control; (try dsimp only); refine ⟨fun h => ?_, ?_⟩ <;> (repeat' split) <;> simp (maxDischargeDepth := 30) [*]

@[simp] theorem setEndpointIdEffect_kept (m : Mport) (op eid : Nat) (d : Device) :
    (setEndpointIdEffect m op eid d).mem = d.mem ∧ (setEndpointIdEffect m op eid d).lc.otp = d.lc.otp ∧ SamePolicy (setEndpointIdEffect m op eid d) d := by
  unfold setEndpointIdEffect; apply control_kept; intros; (repeat' split) <;> simp

@[simp] theorem getEndpointIdEffect_kept (m : Mport) (d : Device) :
    (getEndpointIdEffect m d).mem = d.mem ∧ (getEndpointIdEffect m d).lc.otp = d.lc.otp ∧ SamePolicy (getEndpointIdEffect m d) d := by
  unfold getEndpointIdEffect; apply control_kept; intros; simp

@[simp] theorem getMctpVersionSupportEffect_kept (m : Mport) (t : Nat) (d : Device) :
    (getMctpVersionSupportEffect m t d).mem = d.mem ∧ (getMctpVersionSupportEffect m t d).lc.otp = d.lc.otp ∧ SamePolicy (getMctpVersionSupportEffect m t d) d := by
  unfold getMctpVersionSupportEffect; apply control_kept; intros; (repeat' split) <;> simp

@[simp] theorem getMessageTypeSupportEffect_kept (m : Mport) (d : Device) :
    (getMessageTypeSupportEffect m d).mem = d.mem ∧ (getMessageTypeSupportEffect m d).lc.otp = d.lc.otp ∧ SamePolicy (getMessageTypeSupportEffect m d) d := by
  unfold getMessageTypeSupportEffect; apply control_kept; intros; simp

@[simp] theorem getVendorDefinedMessageSupportEffect_kept (m : Mport) (selector : Nat) (d : Device) :
    (getVendorDefinedMessageSupportEffect m selector d).mem = d.mem ∧ (getVendorDefinedMessageSupportEffect m selector d).lc.otp = d.lc.otp ∧ SamePolicy (getVendorDefinedMessageSupportEffect m selector d) d := by
  unfold getVendorDefinedMessageSupportEffect; apply control_kept; intros; simp

end Sys2Proof.Machine
end

