-- ==== Sys2Proof/Laws/KeptServing.lean ====
section
/-! SUPPORT. What serving, sweeps, the flash path, the error controller do to memory and to OTP: `f_kept`, both unchanged, and the policy in force too;
`f_wf`, memory keeps its canonical form, OTP (and, where nothing commits, the policy in force) is unchanged. -/

namespace Sys2Proof.Machine

open Sys2Proof

@[simp] theorem setCond_kept (f c : Nat) (d : Device) :
    (setCond f c d).mem = d.mem ∧ (setCond f c d).lc.otp = d.lc.otp ∧ SamePolicy (setCond f c d) d := by simp [setCond]

@[simp] theorem takeCond_kept (f : Nat) (r : FlashRec) (d : Device) :
    (takeCond f r d).mem = d.mem ∧ (takeCond f r d).lc.otp = d.lc.otp ∧ SamePolicy (takeCond f r d) d := by simp [takeCond]

@[simp] theorem retryHolds_kept (f : Nat) (d : Device) :
    (retryHolds f d).mem = d.mem ∧ (retryHolds f d).lc.otp = d.lc.otp ∧ SamePolicy (retryHolds f d) d := by simp [retryHolds]

@[simp] theorem enqueueCmd_kept (f : Nat) (c : FlashCmd) (d : Device) :
    (enqueueCmd f c d).mem = d.mem ∧ (enqueueCmd f c d).lc.otp = d.lc.otp ∧ SamePolicy (enqueueCmd f c d) d := by simp [enqueueCmd]

@[simp] theorem usedGroup_kept (d : Device) :
    (usedGroup d).mem = d.mem ∧ (usedGroup d).lc.otp = d.lc.otp ∧ SamePolicy (usedGroup d) d := by simp [usedGroup]

@[simp] theorem modImage_kept (bd i : Nat) (f : ServeImage → ServeImage) (d : Device) :
    (modImage bd i f d).mem = d.mem ∧ (modImage bd i f d).lc.otp = d.lc.otp ∧ SamePolicy (modImage bd i f d) d := by simp [modImage]

@[simp] theorem setGate_kept (g : Nat) (on : Bool) (d : Device) :
    (setGate g on d).mem = d.mem ∧ (setGate g on d).lc.otp = d.lc.otp ∧ SamePolicy (setGate g on d) d := by simp [setGate]

@[simp] theorem holdAllGates_kept (d : Device) :
    (holdAllGates d).mem = d.mem ∧ (holdAllGates d).lc.otp = d.lc.otp ∧ SamePolicy (holdAllGates d) d := by simp [holdAllGates]

@[simp] theorem clearLocks_kept (bd : Nat) (d : Device) :
    (clearLocks bd d).mem = d.mem ∧ (clearLocks bd d).lc.otp = d.lc.otp ∧ SamePolicy (clearLocks bd d) d := by simp [clearLocks]

@[simp] theorem freeTags_kept (bd : Nat) (d : Device) :
    (freeTags bd d).mem = d.mem ∧ (freeTags bd d).lc.otp = d.lc.otp ∧ SamePolicy (freeTags bd d) d := by simp [freeTags]

@[simp] theorem freeServing_kept (bd : Nat) (d : Device) :
    (freeServing bd d).mem = d.mem ∧ (freeServing bd d).lc.otp = d.lc.otp ∧ SamePolicy (freeServing bd d) d := by simp [freeServing]

@[simp] theorem releaseDone_kept (bd : Nat) (d : Device) :
    (releaseDone bd d).mem = d.mem ∧ (releaseDone bd d).lc.otp = d.lc.otp ∧ SamePolicy (releaseDone bd d) d := by simp [releaseDone]

@[simp] theorem rungTokenSet_kept (bd : Nat) (d : Device) :
    (rungTokenSet bd d).mem = d.mem ∧ (rungTokenSet bd d).lc.otp = d.lc.otp ∧ SamePolicy (rungTokenSet bd d) d := by
  unfold rungTokenSet; (repeat' split) <;> simp

@[simp] theorem takeRung_kept (bd : Nat) (d : Device) :
    (takeRung bd d).mem = d.mem ∧ (takeRung bd d).lc.otp = d.lc.otp ∧ SamePolicy (takeRung bd d) d := by
  unfold takeRung; (repeat' split) <;> simp

@[simp] theorem domainRung_kept (bd : Nat) (d : Device) :
    (domainRung bd d).mem = d.mem ∧ (domainRung bd d).lc.otp = d.lc.otp ∧ SamePolicy (domainRung bd d) d := by
  unfold domainRung; simp

@[simp] theorem clearRung_kept (bd : Nat) (d : Device) :
    (clearRung bd d).mem = d.mem ∧ (clearRung bd d).lc.otp = d.lc.otp ∧ SamePolicy (clearRung bd d) d := by simp [clearRung]

@[simp] theorem gateRelease_kept (bd : Nat) (d : Device) :
    (gateRelease bd d).mem = d.mem ∧ (gateRelease bd d).lc.otp = d.lc.otp ∧ SamePolicy (gateRelease bd d) d := by
  unfold gateRelease; dsimp only; (repeat' split) <;> simp

@[simp] theorem releasePending_kept (d : Device) :
    (releasePending d).mem = d.mem ∧ (releasePending d).lc.otp = d.lc.otp ∧ SamePolicy (releasePending d) d := by simp [releasePending]

@[simp] theorem gateDelay_kept (bd : Nat) (d : Device) :
    (gateDelay bd d).mem = d.mem ∧ (gateDelay bd d).lc.otp = d.lc.otp ∧ SamePolicy (gateDelay bd d) d := by
  unfold gateDelay; dsimp only; (repeat' split) <;> simp

@[simp] theorem holdGates_kept (bd : Nat) (d : Device) :
    (holdGates bd d).mem = d.mem ∧ (holdGates bd d).lc.otp = d.lc.otp ∧ SamePolicy (holdGates bd d) d := by
  unfold holdGates; (repeat' split) <;> simp

@[simp] theorem endPortWait_kept (p : Nat) (d : Device) :
    (endPortWait p d).mem = d.mem ∧ (endPortWait p d).lc.otp = d.lc.otp ∧ SamePolicy (endPortWait p d) d := by simp [endPortWait]

@[simp] theorem returnToReset_kept (bd : Nat) (d : Device) :
    (returnToReset bd d).mem = d.mem ∧ (returnToReset bd d).lc.otp = d.lc.otp ∧ SamePolicy (returnToReset bd d) d := by
  unfold returnToReset; (repeat' split) <;> simp

@[simp] theorem slotFailed_kept (bd img cause : Nat) (d : Device) :
    (slotFailed bd img cause d).mem = d.mem ∧ (slotFailed bd img cause d).lc.otp = d.lc.otp ∧ SamePolicy (slotFailed bd img cause d) d := by
  simp [slotFailed]

@[simp] theorem imageFailed_kept (bd i cause : Nat) (d : Device) :
    (imageFailed bd i cause d).mem = d.mem ∧ (imageFailed bd i cause d).lc.otp = d.lc.otp ∧ SamePolicy (imageFailed bd i cause d) d := by
  simp [imageFailed]

@[simp] theorem freshSequence_kept (bd reason : Nat) (d : Device) :
    (freshSequence bd reason d).mem = d.mem ∧ (freshSequence bd reason d).lc.otp = d.lc.otp ∧ SamePolicy (freshSequence bd reason d) d := by
  simp [freshSequence]

@[simp] theorem issueServing_kept (bus : Nat) (d : Device) :
    (issueServing bus d).mem = d.mem ∧ (issueServing bus d).lc.otp = d.lc.otp ∧ SamePolicy (issueServing bus d) d := by
  unfold issueServing; dsimp only; (repeat' split) <;> simp

@[simp] theorem issueAll_kept (d : Device) :
    (issueAll d).mem = d.mem ∧ (issueAll d).lc.otp = d.lc.otp ∧ SamePolicy (issueAll d) d := by simp [issueAll]

@[simp] theorem runPointCheck_kept (bd : Nat) (d : Device) :
    (runPointCheck bd d).mem = d.mem ∧ (runPointCheck bd d).lc.otp = d.lc.otp ∧ SamePolicy (runPointCheck bd d) d := by simp [runPointCheck]

@[simp] theorem verifiedCheck_kept (bd : Nat) (d : Device) :
    (verifiedCheck bd d).mem = d.mem ∧ (verifiedCheck bd d).lc.otp = d.lc.otp ∧ SamePolicy (verifiedCheck bd d) d := by simp [verifiedCheck]

@[simp] theorem serveVerdict_kept (bd i : Nat) (d : Device) :
    (serveVerdict bd i d).mem = d.mem ∧ (serveVerdict bd i d).lc.otp = d.lc.otp ∧ SamePolicy (serveVerdict bd i d) d := by
  unfold serveVerdict; (repeat' split) <;> simp

@[simp] theorem serveVerdicts_kept (d : Device) :
    (serveVerdicts d).mem = d.mem ∧ (serveVerdicts d).lc.otp = d.lc.otp ∧ SamePolicy (serveVerdicts d) d := by simp [serveVerdicts]

@[simp] theorem installOutput_kept (i : Option (Nat × List Byte × Nat × Option (Nat × Nat))) (d : Device) :
    (installOutput i d).mem = d.mem ∧ (installOutput i d).lc.otp = d.lc.otp ∧ SamePolicy (installOutput i d) d := by
  unfold installOutput; (repeat' split) <;> simp

@[simp] theorem dgLift_kept (r : DgOut) (d : Device) :
    (dgLift r d).mem = d.mem ∧ (dgLift r d).lc.otp = d.lc.otp ∧ SamePolicy (dgLift r d) d := by simp [dgLift]

@[simp] theorem burstToTap_kept (c off : Nat) (data : List Byte) (d : Device) :
    (burstToTap c off data d).mem = d.mem ∧ (burstToTap c off data d).lc.otp = d.lc.otp ∧ SamePolicy (burstToTap c off data d) d := by
  unfold burstToTap; (repeat' split) <;> simp

@[simp] theorem deviceTaps_kept (f addr : Nat) (data : List Byte) (d : Device) :
    (deviceTaps f addr data d).mem = d.mem ∧ (deviceTaps f addr data d).lc.otp = d.lc.otp ∧ SamePolicy (deviceTaps f addr data d) d := by
  unfold deviceTaps; apply foldl_kept; intro acc x; (try dsimp only); (repeat' split) <;> simp

@[simp] theorem checkTag_kept (bd i u : Nat) (bs : List Byte) (d : Device) :
    (checkTag bd i u bs d).mem = d.mem ∧ (checkTag bd i u bs d).lc.otp = d.lc.otp ∧ SamePolicy (checkTag bd i u bs d) d := by
  unfold checkTag; (repeat' split) <;> simp

@[simp] theorem unpoison_kept (a n : Nat) (d : Device) :
    (unpoison a n d).mem = d.mem ∧ (unpoison a n d).lc.otp = d.lc.otp ∧ SamePolicy (unpoison a n d) d := by simp [unpoison]

@[simp] theorem storeImage_wf (a : Nat) (bs : List Byte) (d : Device) :
    (Memory.wf d.mem = true → Memory.wf (storeImage a bs d).mem = true) ∧ (storeImage a bs d).lc.otp = d.lc.otp ∧ SamePolicy (storeImage a bs d) d := by
  refine ⟨fun h => ?_, ?_⟩ <;> simp (maxDischargeDepth := 30) [storeImage, *]

@[simp] theorem servingRead_wf (bd i group : Nat) (ok : Bool) (data : List Byte) (d : Device) :
    (Memory.wf d.mem = true → Memory.wf (servingRead bd i group ok data d).mem = true) ∧ (servingRead bd i group ok data d).lc.otp = d.lc.otp ∧ SamePolicy (servingRead bd i group ok data d) d := by
  refine ⟨fun h => ?_, ?_⟩ <;> (unfold servingRead; (try dsimp only); (repeat' split) <;> simp (maxDischargeDepth := 30) [*])

@[simp] theorem takeImage_kept (bd i : Nat) (d : Device) :
    (takeImage bd i d).mem = d.mem ∧ (takeImage bd i d).lc.otp = d.lc.otp ∧ SamePolicy (takeImage bd i d) d := by
  unfold takeImage; (repeat' split) <;> simp

@[simp] theorem clearTail_wf (im : ServeImage) (d : Device) :
    (Memory.wf d.mem = true → Memory.wf (clearTail im d).mem = true) ∧ (clearTail im d).lc.otp = d.lc.otp ∧ SamePolicy (clearTail im d) d := by
  refine ⟨fun h => ?_, ?_⟩ <;> (unfold clearTail; (try dsimp only); (repeat' split) <;> simp (maxDischargeDepth := 30) [*])

@[simp] theorem startLoading_wf (bd : Nat) (d : Device) :
    (Memory.wf d.mem = true → Memory.wf (startLoading bd d).mem = true) ∧ (startLoading bd d).lc.otp = d.lc.otp ∧ SamePolicy (startLoading bd d) d := by
  refine ⟨fun h => ?_, ?_⟩ <;> simp (maxDischargeDepth := 30) +contextual [startLoading, *]

@[simp] theorem tryServe_wf (bd : Nat) (d : Device) :
    (Memory.wf d.mem = true → Memory.wf (tryServe bd d).mem = true) ∧ (tryServe bd d).lc.otp = d.lc.otp ∧ SamePolicy (tryServe bd d) d := by
  refine ⟨fun h => ?_, ?_⟩ <;> (unfold tryServe; (try dsimp only); (repeat' split) <;> simp (maxDischargeDepth := 30) [*])

@[simp] theorem modRegion_kept (ld no : Nat) (f : SweepRegion → SweepRegion) (d : Device) :
    (modRegion ld no f d).mem = d.mem ∧ (modRegion ld no f d).lc.otp = d.lc.otp ∧ SamePolicy (modRegion ld no f d) d := by simp [modRegion]

@[simp] theorem setPass_kept (p : SweepPass) (d : Device) :
    (setPass p d).mem = d.mem ∧ (setPass p d).lc.otp = d.lc.otp ∧ SamePolicy (setPass p d) d := by simp [setPass]

@[simp] theorem setBucket_kept (ld n : Nat) (d : Device) :
    (setBucket ld n d).mem = d.mem ∧ (setBucket ld n d).lc.otp = d.lc.otp ∧ SamePolicy (setBucket ld n d) d := by simp [setBucket]

@[simp] theorem issueReads_kept (ld : Nat) (d : Device) :
    (issueReads ld d).mem = d.mem ∧ (issueReads ld d).lc.otp = d.lc.otp ∧ SamePolicy (issueReads ld d) d := by
  unfold issueReads; (repeat' split) <;> simp

@[simp] theorem endPass_kept (ld cause : Nat) (d : Device) :
    (endPass ld cause d).mem = d.mem ∧ (endPass ld cause d).lc.otp = d.lc.otp ∧ SamePolicy (endPass ld cause d) d := by
  unfold endPass; dsimp only; (repeat' split) <;> simp

@[simp] theorem unregister_kept (ld no cause : Nat) (d : Device) :
    (unregister ld no cause d).mem = d.mem ∧ (unregister ld no cause d).lc.otp = d.lc.otp ∧ SamePolicy (unregister ld no cause d) d := by
  unfold unregister; (repeat' split) <;> simp

@[simp] theorem sweepReset_kept (ld cause : Nat) (d : Device) :
    (sweepReset ld cause d).mem = d.mem ∧ (sweepReset ld cause d).lc.otp = d.lc.otp ∧ SamePolicy (sweepReset ld cause d) d := by
  simp [sweepReset]

@[simp] theorem sweepInstantLd_kept (new : Leaf) (d : Device) (ld : Nat) :
    (sweepInstantLd new d ld).mem = d.mem ∧ (sweepInstantLd new d ld).lc.otp = d.lc.otp ∧ SamePolicy (sweepInstantLd new d ld) d := by
  unfold sweepInstantLd; (try dsimp only); split <;> simp

@[simp] theorem sweepInstant_kept (new : Leaf) (d : Device) :
    (sweepInstant new d).mem = d.mem ∧ (sweepInstant new d).lc.otp = d.lc.otp ∧ SamePolicy (sweepInstant new d) d := by simp [sweepInstant]

@[simp] theorem sweepAge_kept (d : Device) :
    (sweepAge d).mem = d.mem ∧ (sweepAge d).lc.otp = d.lc.otp ∧ SamePolicy (sweepAge d) d := by simp [sweepAge]

@[simp] theorem sweepFaults_kept (d : Device) :
    (sweepFaults d).mem = d.mem ∧ (sweepFaults d).lc.otp = d.lc.otp ∧ SamePolicy (sweepFaults d) d := by simp [sweepFaults]

@[simp] theorem deliverReads_kept (n ld : Nat) (d : Device) :
    (deliverReads n ld d).mem = d.mem ∧ (deliverReads n ld d).lc.otp = d.lc.otp ∧ SamePolicy (deliverReads n ld d) d := by
  induction n generalizing d with
  | zero => exact ⟨rfl, rfl, rfl, rfl, rfl, rfl⟩
  | succ n ih => unfold deliverReads; (repeat' split) <;> simp [ih]

@[simp] theorem sweepResult_kept (ld outcome no : Nat) (d : Device) :
    (sweepResult ld outcome no d).mem = d.mem ∧ (sweepResult ld outcome no d).lc.otp = d.lc.otp ∧ SamePolicy (sweepResult ld outcome no d) d := by
  simp [sweepResult]

@[simp] theorem registerRegion_kept (ld : Nat) (compare attest : Bool) (d : Device) :
    (registerRegion ld compare attest d).mem = d.mem ∧ (registerRegion ld compare attest d).lc.otp = d.lc.otp ∧ SamePolicy (registerRegion ld compare attest d) d := by
  simp [registerRegion]

@[simp] theorem sweepCommand_kept (ld : Nat) (v : Word) (d : Device) :
    (sweepCommand ld v d).mem = d.mem ∧ (sweepCommand ld v d).lc.otp = d.lc.otp ∧ SamePolicy (sweepCommand ld v d) d := by
  simp [sweepCommand]

@[simp] theorem sweepRegisterEffect_kept (ld : Ld) (v : Word) (d : Device) :
    (sweepRegisterEffect ld v d).mem = d.mem ∧ (sweepRegisterEffect ld v d).lc.otp = d.lc.otp ∧ SamePolicy (sweepRegisterEffect ld v d) d := by
  simp [sweepRegisterEffect]

@[simp] theorem sweepUnregisterEffect_kept (ld : Ld) (v : Word) (d : Device) :
    (sweepUnregisterEffect ld v d).mem = d.mem ∧ (sweepUnregisterEffect ld v d).lc.otp = d.lc.otp ∧ SamePolicy (sweepUnregisterEffect ld v d) d := by
  simp [sweepUnregisterEffect]

@[simp] theorem sweepRegionDueEffect_kept (ld : Ld) (r : Nat) (d : Device) :
    (sweepRegionDueEffect ld r d).mem = d.mem ∧ (sweepRegionDueEffect ld r d).lc.otp = d.lc.otp ∧ SamePolicy (sweepRegionDueEffect ld r d) d := by
  simp [sweepRegionDueEffect]

@[simp] theorem sweepNextPopEffect_kept (h : Hart) (d : Device) :
    (sweepNextPopEffect h d).mem = d.mem ∧ (sweepNextPopEffect h d).lc.otp = d.lc.otp ∧ SamePolicy (sweepNextPopEffect h d) d := by
  unfold sweepNextPopEffect; (repeat' split) <;> simp

@[simp] theorem startPass_kept (n : Nat) (d : Device) :
    (startPass n d).mem = d.mem ∧ (startPass n d).lc.otp = d.lc.otp ∧ SamePolicy (startPass n d) d := by
  unfold startPass; (repeat' split) <;> simp

@[simp] theorem sweepStartEffect_kept (h : Hart) (v : Word) (d : Device) :
    (sweepStartEffect h v d).mem = d.mem ∧ (sweepStartEffect h v d).lc.otp = d.lc.otp ∧ SamePolicy (sweepStartEffect h v d) d := by
  unfold sweepStartEffect; apply onlyHart_kept; intros; simp

@[simp] theorem sweepReadCompletionEffect_kept (ld : Ld) (offset status : Nat) (data : List Byte) (d : Device) :
    (sweepReadCompletionEffect ld offset status data d).mem = d.mem ∧ (sweepReadCompletionEffect ld offset status data d).lc.otp = d.lc.otp ∧ SamePolicy (sweepReadCompletionEffect ld offset status data d) d := by
  unfold sweepReadCompletionEffect; dsimp only; (repeat' split) <;> simp

@[simp] theorem sweepReadTimeoutEffect_kept (ld : Ld) (d : Device) :
    (sweepReadTimeoutEffect ld d).mem = d.mem ∧ (sweepReadTimeoutEffect ld d).lc.otp = d.lc.otp ∧ SamePolicy (sweepReadTimeoutEffect ld d) d := by
  unfold sweepReadTimeoutEffect; (repeat' split) <;> simp

@[simp] theorem sweepBucketRefillEffect_kept (ld : Ld) (d : Device) :
    (sweepBucketRefillEffect ld d).mem = d.mem ∧ (sweepBucketRefillEffect ld d).lc.otp = d.lc.otp ∧ SamePolicy (sweepBucketRefillEffect ld d) d := by
  unfold sweepBucketRefillEffect; (repeat' split) <;> simp

@[simp] theorem sweepEndPopEffect_kept (h : Hart) (d : Device) :
    (sweepEndPopEffect h d).mem = d.mem ∧ (sweepEndPopEffect h d).lc.otp = d.lc.otp ∧ SamePolicy (sweepEndPopEffect h d) d := by
  unfold sweepEndPopEffect; (repeat' split) <;> simp

@[simp] theorem postResult_kept (ld no result cause : Nat) (d : Device) :
    (postResult ld no result cause d).mem = d.mem ∧ (postResult ld no result cause d).lc.otp = d.lc.otp ∧ SamePolicy (postResult ld no result cause d) d := by
  unfold postResult; (repeat' split) <;> simp

@[simp] theorem sweepPostEffect_kept (h : Hart) (v : Word) (d : Device) :
    (sweepPostEffect h v d).mem = d.mem ∧ (sweepPostEffect h v d).lc.otp = d.lc.otp ∧ SamePolicy (sweepPostEffect h v d) d := by
  unfold sweepPostEffect; apply onlyHart_kept; intros; simp

@[simp] theorem modFq_kept (h : Nat) (f : FlashQueue → FlashQueue) (d : Device) :
    (modFq h f d).mem = d.mem ∧ (modFq h f d).lc.otp = d.lc.otp ∧ SamePolicy (modFq h f d) d := by simp [modFq]

@[simp] theorem snoopEntry_kept (e : FqEntry) (d : Device) :
    (snoopEntry e d).mem = d.mem ∧ (snoopEntry e d).lc.otp = d.lc.otp ∧ SamePolicy (snoopEntry e d) d := by
  unfold snoopEntry; (repeat' split) <;> simp

@[simp] theorem drainHart_kept (h : Nat) (d : Device) :
    (drainHart h d).mem = d.mem ∧ (drainHart h d).lc.otp = d.lc.otp ∧ SamePolicy (drainHart h d) d := by
  unfold drainHart; dsimp only
  exact kept_trans (foldl_kept _ (fun d a => snoopEntry_kept a d) _ _) (modFq_kept h _ d)

@[simp] theorem hartPhase_wf (h entry : Nat) (c : FlashCmd) (sent : Bool) (bs : List Byte) (d : Device) :
    (Memory.wf d.mem = true → Memory.wf (hartPhase h entry c sent bs d).mem = true) ∧ (hartPhase h entry c sent bs d).lc.otp = d.lc.otp ∧ SamePolicy (hartPhase h entry c sent bs d) d := by
  unfold hartPhase
  split
  · exact wf_refl _
  · exact wf_trans (wf_of_kept (modFq_kept _ _ _)) (wf_if (store_wf _ _ _) (wf_refl _))

@[simp] theorem fqAnswer_kept (h entry : Nat) (c : Completion) (d : Device) :
    (fqAnswer h entry c d).mem = d.mem ∧ (fqAnswer h entry c d).lc.otp = d.lc.otp ∧ SamePolicy (fqAnswer h entry c d) d := kept_trans (drainHart_kept _ _) (modFq_kept _ _ _)

@[simp] theorem portPiece_kept (p at_ group len : Nat) (ok : Bool) (data : List Byte) (d : Device) :
    (portPiece p at_ group len ok data d).mem = d.mem ∧ (portPiece p at_ group len ok data d).lc.otp = d.lc.otp ∧ SamePolicy (portPiece p at_ group len ok data d) d := by simp [portPiece]

@[simp] theorem demandRead_kept (f p at_ : Nat) (c : Completion) (d : Device) :
    (demandRead f p at_ c d).mem = d.mem ∧ (demandRead f p at_ c d).lc.otp = d.lc.otp ∧ SamePolicy (demandRead f p at_ c d) d := by
  unfold demandRead; dsimp only; (repeat' split) <;> simp

@[simp] theorem portWriteEnd_kept (p : Nat) (isErase ok attempted : Bool) (d : Device) :
    (portWriteEnd p isErase ok attempted d).mem = d.mem ∧ (portWriteEnd p isErase ok attempted d).lc.otp = d.lc.otp ∧ SamePolicy (portWriteEnd p isErase ok attempted d) d := by
  simp [portWriteEnd]

@[simp] theorem portError_kept (p kind op addr : Nat) (d : Device) :
    (portError p kind op addr d).mem = d.mem ∧ (portError p kind op addr d).lc.otp = d.lc.otp ∧ SamePolicy (portError p kind op addr d) d := by
  simp [portError]

@[simp] theorem portWriteAnswer_kept (p : Nat) (c : Completion) (d : Device) :
    (portWriteAnswer p c d).mem = d.mem ∧ (portWriteAnswer p c d).lc.otp = d.lc.otp ∧ SamePolicy (portWriteAnswer p c d) d := by
  unfold portWriteAnswer; dsimp only; exact kept_ite (by simp) (by simp)

@[simp] theorem modResync_kept (f : Nat) (g : Resync → Resync) (d : Device) :
    (modResync f g d).mem = d.mem ∧ (modResync f g d).lc.otp = d.lc.otp ∧ SamePolicy (modResync f g d) d := by simp [modResync]

@[simp] theorem dropResync_kept (f : Nat) (d : Device) :
    (dropResync f d).mem = d.mem ∧ (dropResync f d).lc.otp = d.lc.otp ∧ SamePolicy (dropResync f d) d := by
  unfold dropResync; (repeat' split) <;> simp

@[simp] theorem mirrorFailed_kept (spare primary code addr : Nat) (d : Device) :
    (mirrorFailed spare primary code addr d).mem = d.mem ∧ (mirrorFailed spare primary code addr d).lc.otp = d.lc.otp ∧ SamePolicy (mirrorFailed spare primary code addr d) d := by
  unfold mirrorFailed; exact kept_ite (by simp) (kept_refl _)

@[simp] theorem resyncGroup_kept (f : Nat) (choice : OpChoice) (addr : Nat) (data : List Byte) (d : Device) :
    (resyncGroup f choice addr data d).mem = d.mem ∧ (resyncGroup f choice addr data d).lc.otp = d.lc.otp ∧ SamePolicy (resyncGroup f choice addr data d) d := by simp [resyncGroup]

@[simp] theorem resyncUnit_kept (f dev unit : Nat) (d : Device) :
    (resyncUnit f dev unit d).mem = d.mem ∧ (resyncUnit f dev unit d).lc.otp = d.lc.otp ∧ SamePolicy (resyncUnit f dev unit d) d := by simp [resyncUnit]

@[simp] theorem resyncClosing_kept (f : Nat) (r : Resync) (d : Device) :
    (resyncClosing f r d).mem = d.mem ∧ (resyncClosing f r d).lc.otp = d.lc.otp ∧ SamePolicy (resyncClosing f r d) d := by
  unfold resyncClosing; dsimp only; (repeat' split) <;> simp

@[simp] theorem resyncRead_kept (f : Nat) (d : Device) :
    (resyncRead f d).mem = d.mem ∧ (resyncRead f d).lc.otp = d.lc.otp ∧ SamePolicy (resyncRead f d) d := by
  unfold resyncRead; (repeat' split) <;> simp

@[simp] theorem resyncWrite_kept (f : Nat) (data : List Byte) (r : Resync) (d : Device) :
    (resyncWrite f data r d).mem = d.mem ∧ (resyncWrite f data r d).lc.otp = d.lc.otp ∧ SamePolicy (resyncWrite f data r d) d := by
  unfold resyncWrite; (repeat' split) <;> simp

@[simp] theorem resyncFailed_kept (f code addr : Nat) (d : Device) :
    (resyncFailed f code addr d).mem = d.mem ∧ (resyncFailed f code addr d).lc.otp = d.lc.otp ∧ SamePolicy (resyncFailed f code addr d) d := by
  unfold resyncFailed; (repeat' split) <;> simp

@[simp] theorem resyncAnswer_kept (f : Nat) (c : Completion) (d : Device) :
    (resyncAnswer f c d).mem = d.mem ∧ (resyncAnswer f c d).lc.otp = d.lc.otp ∧ SamePolicy (resyncAnswer f c d) d := by
  unfold resyncAnswer; (repeat' split) <;> simp

@[simp] theorem areaRead_kept (bd : Nat) (d : Device) :
    (areaRead bd d).mem = d.mem ∧ (areaRead bd d).lc.otp = d.lc.otp ∧ SamePolicy (areaRead bd d) d := by
  unfold areaRead; (repeat' split) <;> simp

@[simp] theorem areaAnswer_kept (bd : Nat) (c : Completion) (d : Device) :
    (areaAnswer bd c d).mem = d.mem ∧ (areaAnswer bd c d).lc.otp = d.lc.otp ∧ SamePolicy (areaAnswer bd c d) d := by
  unfold areaAnswer; (repeat' split) <;> simp

@[simp] theorem modInstall_kept (j : Nat) (g : Install → Install) (d : Device) :
    (modInstall j g d).mem = d.mem ∧ (modInstall j g d).lc.otp = d.lc.otp ∧ SamePolicy (modInstall j g d) d := by simp [modInstall]

@[simp] theorem freeInstallCtx_kept (j : Nat) (d : Device) :
    (freeInstallCtx j d).mem = d.mem ∧ (freeInstallCtx j d).lc.otp = d.lc.otp ∧ SamePolicy (freeInstallCtx j d) d := by
  unfold freeInstallCtx; (repeat' split) <;> simp

@[simp] theorem installEnds_kept (j code : Nat) (d : Device) :
    (installEnds j code d).mem = d.mem ∧ (installEnds j code d).lc.otp = d.lc.otp ∧ SamePolicy (installEnds j code d) d := by simp [installEnds]

@[simp] theorem installSnoop_kept (i : Install) (c : FlashCmd) (d : Device) :
    (installSnoop i c d).mem = d.mem ∧ (installSnoop i c d).lc.otp = d.lc.otp ∧ SamePolicy (installSnoop i c d) d := by
  unfold installSnoop; (repeat' split) <;> simp

@[simp] theorem installStep_kept (j : Nat) (x : InstallStep) (tl : List InstallStep) (d : Device) :
    (installStep j x tl d).1.mem = d.mem ∧ (installStep j x tl d).1.lc.otp = d.lc.otp ∧ SamePolicy (installStep j x tl d).1 d := by
  unfold installStep; dsimp only; (repeat' split) <;> simp

@[simp] theorem installRun_kept (j : Nat) (l : List InstallStep) (d : Device) :
    (installRun j l d).mem = d.mem ∧ (installRun j l d).lc.otp = d.lc.otp ∧ SamePolicy (installRun j l d) d := by
  induction l generalizing d with
  | nil => exact installEnds_kept _ _ _
  | cons x l ih =>
    unfold installRun; split
    · exact kept_trans (ih _) (installStep_kept _ _ _ _)
    · exact installStep_kept _ _ _ _

@[simp] theorem installAnswer_kept (j : Nat) (c : Completion) (d : Device) :
    (installAnswer j c d).mem = d.mem ∧ (installAnswer j c d).lc.otp = d.lc.otp ∧ SamePolicy (installAnswer j c d) d := by
  unfold installAnswer; split
  · exact kept_refl _
  · split
    · exact kept_refl _
    · split
      · exact installEnds_kept _ _ _
      · split
        · exact kept_refl _
        · exact kept_trans (installRun_kept _ _ _) (installSnoop_kept _ _ _)

@[simp] theorem issueAfter_kept (f bd i : Nat) (d : Device) :
    (issueAfter f bd i d).mem = d.mem ∧ (issueAfter f bd i d).lc.otp = d.lc.otp ∧ SamePolicy (issueAfter f bd i d) d := by
  unfold issueAfter; (repeat' split) <;> simp

@[simp] theorem deliver_wf (f : Nat) (c : Completion) (d : Device) :
    (Memory.wf d.mem = true → Memory.wf (deliver f c d).mem = true) ∧ (deliver f c d).lc.otp = d.lc.otp ∧ SamePolicy (deliver f c d) d := by
  refine ⟨fun h => ?_, ?_⟩ <;> (unfold deliver; (try dsimp only); (repeat' split) <;> simp (maxDischargeDepth := 30) [*])

@[simp] theorem deliverAll_wf (f : Nat) (cs : List Completion) (d : Device) :
    (Memory.wf d.mem = true → Memory.wf (deliverAll f cs d).mem = true) ∧ (deliverAll f cs d).lc.otp = d.lc.otp ∧ SamePolicy (deliverAll f cs d) d := by
  refine ⟨fun h => ?_, ?_⟩ <;> simp (maxDischargeDepth := 30) +contextual [deliverAll, *]

@[simp] theorem holdReset_kept (f : Nat) (d : Device) :
    (holdReset f d).mem = d.mem ∧ (holdReset f d).lc.otp = d.lc.otp ∧ SamePolicy (holdReset f d) d := by simp [holdReset]

@[simp] theorem takeOut_kept (f : Nat) (d : Device) :
    (takeOut f d).mem = d.mem ∧ (takeOut f d).lc.otp = d.lc.otp ∧ SamePolicy (takeOut f d) d := by
  unfold takeOut; repeat' (first | apply kept_ite | exact kept_refl _)

@[simp] theorem settleReset_kept (f : Nat) (d : Device) :
    (settleReset f d).mem = d.mem ∧ (settleReset f d).lc.otp = d.lc.otp ∧ SamePolicy (settleReset f d) d := by simp [settleReset]

@[simp] theorem withdrawAll_wf (p : FlashCmd → Bool) (reason : Nat) (d : Device) :
    (Memory.wf d.mem = true → Memory.wf (withdrawAll p reason d).mem = true) ∧ (withdrawAll p reason d).lc.otp = d.lc.otp ∧ SamePolicy (withdrawAll p reason d) d := by
  unfold withdrawAll
  refine foldl_wf _ (fun acc f => ?_) _ _
  exact wf_trans (wf_of_kept (settleReset_kept _ _)) (wf_trans (deliverAll_wf _ _ _) (wf_of_kept (modTs_kept _ _ _)))

@[simp] theorem dataPhase_kept (d : Device) (k : CmdKind) (c : FlashCmd) :
    (dataPhase d k c).2.mem = d.mem ∧ (dataPhase d k c).2.lc.otp = d.lc.otp ∧ SamePolicy (dataPhase d k c).2 d := by
  unfold dataPhase; (repeat' split) <;> simp

@[simp] theorem onBus_wf (f : Nat) (d : Device) :
    (Memory.wf d.mem = true → Memory.wf (onBus f d).mem = true) ∧ (onBus f d).lc.otp = d.lc.otp ∧ SamePolicy (onBus f d) d := by
  unfold onBus
  split
  · exact wf_refl _
  · refine wf_if ?_ (wf_if ?_ (wf_of_kept ?_))
    · exact wf_trans (deliver_wf _ _ _) (wf_of_kept (modTs_kept _ _ _))
    · exact wf_trans (deliver_wf _ _ _) (wf_of_kept (modTs_kept _ _ _))
    · exact kept_trans (reply_kept _ _) (kept_trans (modTs_kept _ _ _) (dataPhase_kept _ _ _))

@[simp] theorem countQuarantined_kept (c : Completion) (d : Device) :
    (countQuarantined c d).mem = d.mem ∧ (countQuarantined c d).lc.otp = d.lc.otp ∧ SamePolicy (countQuarantined c d) d := by
  unfold countQuarantined; (repeat' split) <;> simp

@[simp] theorem finishTs_wf (f : Nat) (r : TsOut) (d : Device) :
    (Memory.wf d.mem = true → Memory.wf (finishTs f r d).mem = true) ∧ (finishTs f r d).lc.otp = d.lc.otp ∧ SamePolicy (finishTs f r d) d := by
  have h : (Memory.wf d.mem = true → Memory.wf (deliverAll f r.done (r.done.foldl (fun acc c => countQuarantined c acc)
      (eventsRaw r.events (modTs f (fun _ => r.ts) d)))).mem = true) ∧ _ ∧ SamePolicy _ d :=
    wf_trans (deliverAll_wf f r.done _) (wf_of_kept (kept_trans (foldl_kept _ (fun d a => countQuarantined_kept a d) r.done _)
      (kept_trans (eventsRaw_kept r.events _) (modTs_kept f (fun _ => r.ts) d))))
  unfold finishTs
  split
  · exact wf_trans (wf_of_kept (settleReset_kept _ _)) h
  · exact wf_trans (wf_of_kept (settleReset_kept _ _)) (wf_trans (withdrawAll_wf _ _ _) (wf_trans (wf_of_kept (modPort_kept _ _ _)) h))

@[simp] theorem unfence_kept (f : Nat) (cs : List FlashCmd) (d : Device) :
    (unfence f cs d).mem = d.mem ∧ (unfence f cs d).lc.otp = d.lc.otp ∧ SamePolicy (unfence f cs d) d := by simp [unfence]

@[simp] theorem decideOne_wf (f : Nat) (d : Device) :
    (Memory.wf d.mem = true → Memory.wf (decideOne f d).mem = true) ∧ (decideOne f d).lc.otp = d.lc.otp ∧ SamePolicy (decideOne f d) d := by
  unfold decideOne
  split
  · exact wf_refl _
  · exact wf_trans (onBus_wf _ _) (finishTs_wf _ _ _)
  · exact wf_trans (onBus_wf _ _) (finishTs_wf _ _ _)

@[simp] theorem turnstileDecide_wf (f : Nat) (d : Device) :
    (Memory.wf d.mem = true → Memory.wf (turnstileDecide f d).mem = true) ∧ (turnstileDecide f d).lc.otp = d.lc.otp ∧ SamePolicy (turnstileDecide f d) d := by
  refine ⟨fun h => ?_, ?_⟩ <;> (unfold turnstileDecide; (repeat' split) <;> simp (maxDischargeDepth := 30) [*])

@[simp] theorem phaseEnd_wf (f : Nat) (c : FlashCmd) (result : Nat) (data : List Byte) (d : Device) :
    (Memory.wf d.mem = true → Memory.wf (phaseEnd f c result data d).mem = true) ∧ (phaseEnd f c result data d).lc.otp = d.lc.otp ∧ SamePolicy (phaseEnd f c result data d) d := by
  unfold phaseEnd; refine ⟨fun h => ?_, ?_⟩ <;> (repeat' split) <;> simp (maxDischargeDepth := 30) [*]

@[simp] theorem flashDone_wf (f result : Nat) (data : List Byte) (d : Device) :
    (Memory.wf d.mem = true → Memory.wf (flashDone f result data d).mem = true) ∧ (flashDone f result data d).lc.otp = d.lc.otp ∧ SamePolicy (flashDone f result data d) d := by
  unfold flashDone; refine ⟨fun h => ?_, ?_⟩ <;> (repeat' split) <;> simp (maxDischargeDepth := 30) [*]

@[simp] theorem mirrorWrite_kept (f : Nat) (b : BusyOp) (d : Device) :
    (mirrorWrite f b d).mem = d.mem ∧ (mirrorWrite f b d).lc.otp = d.lc.otp ∧ SamePolicy (mirrorWrite f b d) d := by
  unfold mirrorWrite
  split
  · dsimp only; exact kept_ite (by simp) (kept_refl _)
  · exact kept_refl _

@[simp] theorem countFail_kept (f : Nat) (k : CmdKind) (d : Device) :
    (countFail f k d).mem = d.mem ∧ (countFail f k d).lc.otp = d.lc.otp ∧ SamePolicy (countFail f k d) d := by simp [countFail]

@[simp] theorem busyEnd_wf (f : Nat) (failed : Bool) (d : Device) :
    (Memory.wf d.mem = true → Memory.wf (busyEnd f failed d).mem = true) ∧ (busyEnd f failed d).lc.otp = d.lc.otp ∧ SamePolicy (busyEnd f failed d) d := by
  unfold busyEnd
  split
  · exact wf_refl _
  · refine wf_if ?_ ?_
    · exact wf_trans (wf_of_kept (settleReset_kept _ _)) (wf_trans (deliver_wf _ _ _)
        (wf_of_kept (kept_trans (countFail_kept _ _ _) (modDev_kept _ _ _))))
    · exact wf_trans (wf_of_kept (settleReset_kept _ _)) (wf_trans (deliver_wf _ _ _)
        (wf_of_kept (kept_trans (mirrorWrite_kept _ _ _) (modDev_kept _ _ _))))

@[simp] theorem failCurrent_wf (f reason result : Nat) (d : Device) :
    (Memory.wf d.mem = true → Memory.wf (failCurrent f reason result d).mem = true) ∧ (failCurrent f reason result d).lc.otp = d.lc.otp ∧ SamePolicy (failCurrent f reason result d) d := wf_trans (wf_of_kept (settleReset_kept _ _)) (wf_trans (deliverAll_wf _ _ _)
    (wf_of_kept (kept_trans (modDev_kept _ _ _) (modTs_kept _ _ _))))

@[simp] theorem failInProgress_wf (f reason result : Nat) (d : Device) :
    (Memory.wf d.mem = true → Memory.wf (failInProgress f reason result d).mem = true) ∧ (failInProgress f reason result d).lc.otp = d.lc.otp ∧ SamePolicy (failInProgress f reason result d) d := by
  refine ⟨fun h => ?_, ?_⟩ <;> simp (maxDischargeDepth := 30) [failInProgress, *]

@[simp] theorem startDiscovery_kept (f : Nat) (d : Device) :
    (startDiscovery f d).mem = d.mem ∧ (startDiscovery f d).lc.otp = d.lc.otp ∧ SamePolicy (startDiscovery f d) d := by simp [startDiscovery]

@[simp] theorem startPulse_kept (f : Nat) (d : Device) :
    (startPulse f d).mem = d.mem ∧ (startPulse f d).lc.otp = d.lc.otp ∧ SamePolicy (startPulse f d) d := by simp [startPulse]

@[simp] theorem endPulse_kept (f : Nat) (d : Device) :
    (endPulse f d).mem = d.mem ∧ (endPulse f d).lc.otp = d.lc.otp ∧ SamePolicy (endPulse f d) d := by simp [endPulse]

@[simp] theorem requalReport_kept (m : Nat) (d : Device) :
    (requalReport m d).mem = d.mem ∧ (requalReport m d).lc.otp = d.lc.otp ∧ SamePolicy (requalReport m d) d := by simp [requalReport]

@[simp] theorem endDiscovery_kept (f : Nat) (a : Discovery) (d : Device) :
    (endDiscovery f a d).mem = d.mem ∧ (endDiscovery f a d).lc.otp = d.lc.otp ∧ SamePolicy (endDiscovery f a d) d := by
  unfold endDiscovery; (repeat' split) <;> simp

@[simp] theorem endProbation_wf (f : Nat) (d : Device) :
    (Memory.wf d.mem = true → Memory.wf (endProbation f d).mem = true) ∧ (endProbation f d).lc.otp = d.lc.otp ∧ SamePolicy (endProbation f d) d := by
  refine ⟨fun h => ?_, ?_⟩ <;> simp (maxDischargeDepth := 30) [endProbation, *]

@[simp] theorem quarantineBus_wf (m : Nat) (d : Device) :
    (Memory.wf d.mem = true → Memory.wf (quarantineBus m d).mem = true) ∧ (quarantineBus m d).lc.otp = d.lc.otp ∧ SamePolicy (quarantineBus m d) d := by
  unfold quarantineBus
  refine wf_trans (foldl_wf _ (fun acc k => ?_) _ _) (wf_of_kept (modBus_kept _ _ _))
  exact wf_trans (wf_of_kept (modDev_kept _ _ _)) (failInProgress_wf _ _ _ _)

@[simp] theorem contention_wf (m lines : Nat) (d : Device) :
    (Memory.wf d.mem = true → Memory.wf (contention m lines d).mem = true) ∧ (contention m lines d).lc.otp = d.lc.otp ∧ SamePolicy (contention m lines d) d := by
  refine ⟨fun h => ?_, ?_⟩ <;> simp (maxDischargeDepth := 30) +contextual [contention, *]

@[simp] theorem discoverBus_wf (m : Nat) (d : Device) :
    (Memory.wf d.mem = true → Memory.wf (discoverBus m d).mem = true) ∧ (discoverBus m d).lc.otp = d.lc.otp ∧ SamePolicy (discoverBus m d) d := by
  refine ⟨fun h => ?_, ?_⟩ <;> simp (maxDischargeDepth := 30) +contextual [discoverBus, *]

@[simp] theorem busRestartBegin_wf (m : Nat) (d : Device) :
    (Memory.wf d.mem = true → Memory.wf (busRestartBegin m d).mem = true) ∧ (busRestartBegin m d).lc.otp = d.lc.otp ∧ SamePolicy (busRestartBegin m d) d := by
  refine ⟨fun h => ?_, ?_⟩ <;> simp (maxDischargeDepth := 30) +contextual [busRestartBegin, *]

@[simp] theorem moveLocks_kept (a b : Nat) (d : Device) :
    (moveLocks a b d).mem = d.mem ∧ (moveLocks a b d).lc.otp = d.lc.otp ∧ SamePolicy (moveLocks a b d) d := by simp [moveLocks]

@[simp] theorem substitute_kept (f : Nat) (d : Device) :
    (substitute f d).mem = d.mem ∧ (substitute f d).lc.otp = d.lc.otp ∧ SamePolicy (substitute f d) d := by
  unfold substitute; (repeat' split) <;> simp

@[simp] theorem retireDevice_wf (f trigger : Nat) (d : Device) :
    (Memory.wf d.mem = true → Memory.wf (retireDevice f trigger d).mem = true) ∧ (retireDevice f trigger d).lc.otp = d.lc.otp ∧ SamePolicy (retireDevice f trigger d) d := by
  refine ⟨fun h => ?_, ?_⟩ <;> (unfold retireDevice; (try dsimp only); (repeat' split) <;> simp (maxDischargeDepth := 30) [*])

@[simp] theorem queueReport_kept (e : ErrRec) (d : Device) :
    (queueReport e d).mem = d.mem ∧ (queueReport e d).lc.otp = d.lc.otp ∧ SamePolicy (queueReport e d) d := by simp [queueReport]

@[simp] theorem handleC_kept (e : ErrRec) (d : Device) :
    (handleC e d).mem = d.mem ∧ (handleC e d).lc.otp = d.lc.otp ∧ SamePolicy (handleC e d) d := by simp [handleC]

@[simp] theorem handleD_kept (e : ErrRec) (d : Device) :
    (handleD e d).mem = d.mem ∧ (handleD e d).lc.otp = d.lc.otp ∧ SamePolicy (handleD e d) d := by simp [handleD]

@[simp] theorem takeError_kept (e : ErrRec) (d : Device) :
    (takeError e d).mem = d.mem ∧ (takeError e d).lc.otp = d.lc.otp ∧ SamePolicy (takeError e d) d := by
  unfold takeError; (repeat' split) <;> simp

@[simp] theorem drainErrors_kept (n : Nat) (d : Device) :
    (drainErrors n d).mem = d.mem ∧ (drainErrors n d).lc.otp = d.lc.otp ∧ SamePolicy (drainErrors n d) d := by
  induction n generalizing d with
  | zero => exact ⟨rfl, rfl, rfl, rfl, rfl, rfl⟩
  | succ n ih => unfold drainErrors; (repeat' split) <;> simp [ih]

@[simp] theorem vaultClear_kept (d : Device) :
    (vaultClear d).mem = d.mem ∧ (vaultClear d).lc.otp = d.lc.otp ∧ SamePolicy (vaultClear d) d := by simp [vaultClear]

@[simp] theorem safeTail_kept (hardware : Bool) (d : Device) :
    (safeTail hardware d).mem = d.mem ∧ (safeTail hardware d).lc.otp = d.lc.otp ∧ SamePolicy (safeTail hardware d) d := by simp [safeTail]

@[simp] theorem safeRecords_wf (d : Device) :
    (Memory.wf d.mem = true → Memory.wf (safeRecords d).mem = true) ∧ (safeRecords d).lc.otp = d.lc.otp ∧ SamePolicy (safeRecords d) d := by
  refine ⟨fun h => ?_, ?_⟩ <;> simp (maxDischargeDepth := 30) [safeRecords, *]

@[simp] theorem enterSafe_kept (block kind : Nat) (escalated : Bool) (d : Device) :
    (enterSafe block kind escalated d).mem = d.mem ∧ (enterSafe block kind escalated d).lc.otp = d.lc.otp ∧ SamePolicy (enterSafe block kind escalated d) d := by
  simp [enterSafe]

@[simp] theorem hardwareSafe_kept (d : Device) :
    (hardwareSafe d).mem = d.mem ∧ (hardwareSafe d).lc.otp = d.lc.otp ∧ SamePolicy (hardwareSafe d) d := by simp [hardwareSafe]

@[simp] theorem errorArrives_kept (e : ErrRec) (d : Device) :
    (errorArrives e d).mem = d.mem ∧ (errorArrives e d).lc.otp = d.lc.otp ∧ SamePolicy (errorArrives e d) d := by
  unfold errorArrives; (repeat' split) <;> simp

@[simp] theorem ringOnly_kept (d : Device) :
    (ringOnly d).mem = d.mem ∧ (ringOnly d).lc.otp = d.lc.otp ∧ SamePolicy (ringOnly d) d := by
  have h := foldl_kept (fun (acc : Device) e =>
    if 4 ≤ e.sev then { acc with bat := ringWrite { e with flags := e.flags ||| 8 } acc.bat }
    else { acc with ev := { acc.ev with drop := satAdd 32 acc.ev.drop 1 } }) (by intro acc x; (repeat' split) <;> simp)
    (d.ev.queue ++ d.ev.stalled) { d with ev := { d.ev with queue := [], stalled := [] } }
  exact h

@[simp] theorem degradeLog_kept (off : Nat) (d : Device) :
    (degradeLog off d).mem = d.mem ∧ (degradeLog off d).lc.otp = d.lc.otp ∧ SamePolicy (degradeLog off d) d := by simp [degradeLog]

@[simp] theorem degradeReam_kept (off : Nat) (d : Device) :
    (degradeReam off d).mem = d.mem ∧ (degradeReam off d).lc.otp = d.lc.otp ∧ SamePolicy (degradeReam off d) d := by simp [degradeReam]

@[simp] theorem restartDone_kept (e : ErrRec) (us : Nat) (d : Device) :
    (restartDone e us d).mem = d.mem ∧ (restartDone e us d).lc.otp = d.lc.otp ∧ SamePolicy (restartDone e us d) d := by simp [restartDone]

@[simp] theorem poisonWord_kept (w : Nat) (d : Device) :
    (poisonWord w d).mem = d.mem ∧ (poisonWord w d).lc.otp = d.lc.otp ∧ SamePolicy (poisonWord w d) d := by
  unfold poisonWord; dsimp only; (repeat' split) <;> simp

@[simp] theorem scrubBad_wf (r : ScrubRegion) (w : Nat) (d : Device) :
    (Memory.wf d.mem = true → Memory.wf (scrubBad r w d).mem = true) ∧ (scrubBad r w d).lc.otp = d.lc.otp ∧ SamePolicy (scrubBad r w d) d := by
  refine ⟨fun h => ?_, ?_⟩ <;> (unfold scrubBad; (try dsimp only); (repeat' split) <;> simp (maxDischargeDepth := 30) [*])

@[simp] theorem scrubCorrect_wf (r : ScrubRegion) (w : Nat) (d : Device) :
    (Memory.wf d.mem = true → Memory.wf (scrubCorrect r w d).mem = true) ∧ (scrubCorrect r w d).lc.otp = d.lc.otp ∧ SamePolicy (scrubCorrect r w d) d := by
  refine ⟨fun h => ?_, ?_⟩ <;> (unfold scrubCorrect; (try dsimp only); (repeat' split) <;> simp (maxDischargeDepth := 30) [*])

@[simp] theorem readErrors_wf (a n : Nat) (d : Device) :
    (Memory.wf d.mem = true → Memory.wf (readErrors a n d).mem = true) ∧ (readErrors a n d).lc.otp = d.lc.otp ∧ SamePolicy (readErrors a n d) d := by
  refine ⟨fun h => ?_, ?_⟩ <;> simp (maxDischargeDepth := 30) +contextual [readErrors, *]

@[simp] theorem modLg_kept (f : Ledger → Ledger) (d : Device) :
    (modLg f d).mem = d.mem ∧ (modLg f d).lc.otp = d.lc.otp ∧ SamePolicy (modLg f d) d := by simp [modLg]

@[simp] theorem reamFullEvent_kept (d : Device) :
    (reamFullEvent d).mem = d.mem ∧ (reamFullEvent d).lc.otp = d.lc.otp ∧ SamePolicy (reamFullEvent d) d := by simp [reamFullEvent]

@[simp] theorem lowWaterEvent_kept (d : Device) :
    (lowWaterEvent d).mem = d.mem ∧ (lowWaterEvent d).lc.otp = d.lc.otp ∧ SamePolicy (lowWaterEvent d) d := by
  unfold lowWaterEvent; simp

@[simp] theorem fullSettle_kept (d : Device) :
    (fullSettle d).mem = d.mem ∧ (fullSettle d).lc.otp = d.lc.otp ∧ SamePolicy (fullSettle d) d := by
  unfold fullSettle; (repeat' split) <;> simp

@[simp] theorem lgSettle_kept (d : Device) :
    (lgSettle d).mem = d.mem ∧ (lgSettle d).lc.otp = d.lc.otp ∧ SamePolicy (lgSettle d) d := by
  unfold lgSettle; split
  · exact kept_refl _
  · exact kept_trans (fullSettle_kept _) (kept_trans (modLg_kept _ _) (lowWaterEvent_kept d))

@[simp] theorem resumeTime_kept (d : Device) :
    (resumeTime d).mem = d.mem ∧ (resumeTime d).lc.otp = d.lc.otp ∧ SamePolicy (resumeTime d) d := by
  unfold resumeTime; (repeat' split) <;> simp

@[simp] theorem drawNonce_kept (d : Device) :
    (drawNonce d).mem = d.mem ∧ (drawNonce d).lc.otp = d.lc.otp ∧ SamePolicy (drawNonce d) d := by simp [drawNonce]

@[simp] theorem acceptRelease_kept (b : List Byte) (d : Device) :
    (acceptRelease b d).mem = d.mem ∧ (acceptRelease b d).lc.otp = d.lc.otp ∧ SamePolicy (acceptRelease b d) d := by
  unfold acceptRelease; (try dsimp only); (repeat' split) <;> simp [*]

end Sys2Proof.Machine
end

