-- ==== Sys2Proof/Laws/KeptFlash.lean ====
section
/-! SUPPORT. What the upstream ports and the flash fabric do to memory and to OTP: `f_kept`, both unchanged, and the policy in force too;
`f_wf`, memory keeps its canonical form, OTP (and, where nothing commits, the policy in force) is unchanged. -/

namespace Sys2Proof.Machine

open Sys2Proof

@[simp] theorem askFlash_kept (p : Nat) (d : Device) :
    (askFlash p d).mem = d.mem ∧ (askFlash p d).lc.otp = d.lc.otp ∧ SamePolicy (askFlash p d) d := by
  unfold askFlash; (repeat' split) <;> simp

@[simp] theorem surfaceStore_wf (L : Leaf) (p addr n : Nat) (d : Device) :
    (Memory.wf d.mem = true → Memory.wf (surfaceStore L p addr n d).mem = true) ∧ (surfaceStore L p addr n d).lc.otp = d.lc.otp ∧ SamePolicy (surfaceStore L p addr n d) d := by
  exact foldl_wf _ (fun e i => wf_if (readErrors_wf ..) (wf_refl e)) _ d

@[simp] theorem undefinedOp_kept (p op : Nat) (d : Device) :
    (undefinedOp p op d).mem = d.mem ∧ (undefinedOp p op d).lc.otp = d.lc.otp ∧ SamePolicy (undefinedOp p op d) d := by simp [undefinedOp]

@[simp] theorem clockCheck_kept (p khz op addr : Nat) (r : PortRec) (d : Device) :
    (clockCheck p khz op addr r d).mem = d.mem ∧ (clockCheck p khz op addr r d).lc.otp = d.lc.otp ∧ SamePolicy (clockCheck p khz op addr r d) d := by
  simp [clockCheck]

@[simp] theorem portCommand_kept (p op khz addr : Nat) (defined : Nat → PortRec → Bool) (f : PortRec → Device → Device) (d : Device) (hf : ∀ r e, (f r e).mem = e.mem ∧ (f r e).lc.otp = e.lc.otp ∧ SamePolicy (f r e) e) :
    (portCommand p op khz addr defined f d).mem = d.mem ∧ (portCommand p op khz addr defined f d).lc.otp = d.lc.otp ∧ SamePolicy (portCommand p op khz addr defined f d) d := by
  unfold portCommand; dsimp only
  refine kept_ite (kept_refl _) ?_
  split
  · exact kept_refl _
  · exact kept_ite (kept_trans (hf _ _) (kept_trans (modPort_kept _ _ _) (clockCheck_kept _ _ _ _ _ _)))
      (kept_trans (undefinedOp_kept _ _ _) (clockCheck_kept _ _ _ _ _ _))

@[simp] theorem portCommand_wf (p op khz addr : Nat) (defined : Nat → PortRec → Bool) (f : PortRec → Device → Device) (d : Device) (hf : ∀ r e, (Memory.wf e.mem = true → Memory.wf (f r e).mem = true) ∧ (f r e).lc.otp = e.lc.otp ∧ SamePolicy (f r e) e) :
    (Memory.wf d.mem = true → Memory.wf (portCommand p op khz addr defined f d).mem = true) ∧ (portCommand p op khz addr defined f d).lc.otp = d.lc.otp ∧ SamePolicy (portCommand p op khz addr defined f d) d := by
  unfold portCommand; dsimp only
  refine wf_if (wf_refl _) ?_
  split
  · exact wf_refl _
  · exact wf_if (wf_trans (hf _ _) (wf_of_kept (kept_trans (modPort_kept _ _ _) (clockCheck_kept _ _ _ _ _ _))))
      (wf_of_kept (kept_trans (undefinedOp_kept _ _ _) (clockCheck_kept _ _ _ _ _ _)))

@[simp] theorem simpleRead_wf (p addr n late : Nat) (d0 : Device) :
    (Memory.wf d0.mem = true → Memory.wf (simpleRead p addr n late d0).mem = true) ∧ (simpleRead p addr n late d0).lc.otp = d0.lc.otp ∧ SamePolicy (simpleRead p addr n late d0) d0 := by
  refine ⟨fun h => ?_, ?_⟩ <;> simp (maxDischargeDepth := 30) [simpleRead, *]

@[simp] theorem octalRead_wf (p addr n : Nat) (d0 : Device) :
    (Memory.wf d0.mem = true → Memory.wf (octalRead p addr n d0).mem = true) ∧ (octalRead p addr n d0).lc.otp = d0.lc.otp ∧ SamePolicy (octalRead p addr n d0) d0 := by
  refine ⟨fun h => ?_, ?_⟩ <;> simp (maxDischargeDepth := 30) [octalRead, *]

@[simp] theorem resumeRead_wf (p : Nat) (ended : Bool) (d0 : Device) :
    (Memory.wf d0.mem = true → Memory.wf (resumeRead p ended d0).mem = true) ∧ (resumeRead p ended d0).lc.otp = d0.lc.otp ∧ SamePolicy (resumeRead p ended d0) d0 := by
  unfold resumeRead; dsimp only
  split
  · exact wf_refl _
  · rename_i r _
    have hs := surfaceStore_wf (leafBy d0 r.tag) p (r.addr + r.done) (r.len - r.done) d0
    refine wf_if (wf_refl _) (wf_if ?_ (wf_if ?_ ?_)) <;> exact wf_trans (wf_of_kept (by simp)) hs

@[simp] theorem discardMarks_kept (p : Nat) (isErase : Bool) (d : Device) :
    (discardMarks p isErase d).mem = d.mem ∧ (discardMarks p isErase d).lc.otp = d.lc.otp ∧ SamePolicy (discardMarks p isErase d) d := by simp [discardMarks]

@[simp] theorem discardWrite_kept (p op addr : Nat) (isErase : Bool) (d : Device) :
    (discardWrite p op addr isErase d).mem = d.mem ∧ (discardWrite p op addr isErase d).lc.otp = d.lc.otp ∧ SamePolicy (discardWrite p op addr isErase d) d := by
  simp [discardWrite]

@[simp] theorem forwardWrite_kept (p : Nat) (w : PresentRec) (op addr : Nat) (data : List Byte) (erase : Option Nat) (d : Device) :
    (forwardWrite p w op addr data erase d).mem = d.mem ∧ (forwardWrite p w op addr data erase d).lc.otp = d.lc.otp ∧ SamePolicy (forwardWrite p w op addr data erase d) d := by
  simp [forwardWrite]

@[simp] theorem portWrite_kept (p op addr : Nat) (data : List Byte) (erase : Option Nat) (d : Device) :
    (portWrite p op addr data erase d).mem = d.mem ∧ (portWrite p op addr data erase d).lc.otp = d.lc.otp ∧ SamePolicy (portWrite p op addr data erase d) d := by
  unfold portWrite; (repeat' split) <;> simp

@[simp] theorem portReset_wf (p cause : Nat) (d : Device) :
    (Memory.wf d.mem = true → Memory.wf (portReset p cause d).mem = true) ∧ (portReset p cause d).lc.otp = d.lc.otp ∧ SamePolicy (portReset p cause d) d := by
  refine ⟨fun h => ?_, ?_⟩ <;> simp (maxDischargeDepth := 30) [portReset, *]

@[simp] theorem espiRequest_kept (p khz addr : Nat) (f : PortRec → Device → Device) (d : Device) (hf : ∀ r e, (f r e).mem = e.mem ∧ (f r e).lc.otp = e.lc.otp ∧ SamePolicy (f r e) e) :
    (espiRequest p khz addr f d).mem = d.mem ∧ (espiRequest p khz addr f d).lc.otp = d.lc.otp ∧ SamePolicy (espiRequest p khz addr f d) d := by
  unfold espiRequest; dsimp only
  refine kept_ite (kept_refl _) ?_
  split
  · exact kept_refl _
  · refine kept_ite ?_ (kept_ite ?_ ?_)
    · exact kept_trans (undefinedOp_kept _ _ _) (clockCheck_kept _ _ _ _ _ _)
    · exact kept_trans (reply_kept _ _) (clockCheck_kept _ _ _ _ _ _)
    · exact kept_trans (hf _ _) (clockCheck_kept _ _ _ _ _ _)

@[simp] theorem espiRequest_wf (p khz addr : Nat) (f : PortRec → Device → Device) (d : Device) (hf : ∀ r e, (Memory.wf e.mem = true → Memory.wf (f r e).mem = true) ∧ (f r e).lc.otp = e.lc.otp ∧ SamePolicy (f r e) e) :
    (Memory.wf d.mem = true → Memory.wf (espiRequest p khz addr f d).mem = true) ∧ (espiRequest p khz addr f d).lc.otp = d.lc.otp ∧ SamePolicy (espiRequest p khz addr f d) d := by
  unfold espiRequest; dsimp only
  refine wf_if (wf_refl _) ?_
  split
  · exact wf_refl _
  · refine wf_if (wf_of_kept ?_) (wf_if (wf_of_kept ?_) ?_)
    · exact kept_trans (undefinedOp_kept _ _ _) (clockCheck_kept _ _ _ _ _ _)
    · exact kept_trans (reply_kept _ _) (clockCheck_kept _ _ _ _ _ _)
    · exact wf_trans (hf _ _) (wf_of_kept (clockCheck_kept _ _ _ _ _ _))

@[simp] theorem espiRefuse_kept (p kind addr : Nat) (d : Device) :
    (espiRefuse p kind addr d).mem = d.mem ∧ (espiRefuse p kind addr d).lc.otp = d.lc.otp ∧ SamePolicy (espiRefuse p kind addr d) d := by
  simp [espiRefuse]

@[simp] theorem espiRead_wf (p addr n : Nat) (r : PortRec) (d0 : Device) :
    (Memory.wf d0.mem = true → Memory.wf (espiRead p addr n r d0).mem = true) ∧ (espiRead p addr n r d0).lc.otp = d0.lc.otp ∧ SamePolicy (espiRead p addr n r d0) d0 := by
  have hs := surfaceStore_wf (curLeaf d0) p addr n d0
  unfold espiRead; dsimp only
  refine wf_if (wf_of_kept (espiRefuse_kept _ _ _ _)) (wf_if ?_ (wf_if ?_ ?_)) <;> exact wf_trans (wf_of_kept (by simp)) hs

@[simp] theorem espiWrite_kept (p addr : Nat) (data : List Byte) (erase : Option Nat) (r : PortRec) (d : Device) :
    (espiWrite p addr data erase r d).mem = d.mem ∧ (espiWrite p addr data erase r d).lc.otp = d.lc.otp ∧ SamePolicy (espiWrite p addr data erase r d) d := by
  unfold espiWrite; (repeat' split) <;> simp

@[simp] theorem completeDeferred_kept (p : Nat) (q : Deferred) (ok : Bool) (bs : List Byte) (d : Device) :
    (completeDeferred p q ok bs d).mem = d.mem ∧ (completeDeferred p q ok bs d).lc.otp = d.lc.otp ∧ SamePolicy (completeDeferred p q ok bs d) d := by simp [completeDeferred]

@[simp] theorem deferredReady_wf (p : Nat) (d0 : Device) :
    (Memory.wf d0.mem = true → Memory.wf (deferredReady p d0).mem = true) ∧ (deferredReady p d0).lc.otp = d0.lc.otp ∧ SamePolicy (deferredReady p d0) d0 := by
  unfold deferredReady; dsimp only
  split
  · split
    · exact wf_of_kept (modPort_kept _ _ _)
    · exact wf_refl _
    · rename_i r _ _
      have hs := surfaceStore_wf (leafBy d0 r.tag) p r.addr r.len d0
      exact wf_if (wf_refl _) (wf_if (wf_of_kept (by simp)) (wf_if
        (wf_if (wf_trans (wf_of_kept (completeDeferred_kept _ _ _ _ _)) hs) (wf_trans (wf_of_kept (completeDeferred_kept _ _ _ _ _)) hs))
        (wf_if (wf_of_kept (by simp)) (wf_of_kept (by simp)))))
  · exact wf_refl _

@[simp] theorem readIdEffect_kept (p : Port) (n : Nat) (khz : Nat) (d : Device) :
    (readIdEffect p n khz d).mem = d.mem ∧ (readIdEffect p n khz d).lc.otp = d.lc.otp ∧ SamePolicy (readIdEffect p n khz d) d := by
  unfold readIdEffect; apply portCommand_kept; intros; simp

@[simp] theorem readSfdpEffect_kept (p : Port) (addr n : Nat) (khz : Nat) (d : Device) :
    (readSfdpEffect p addr n khz d).mem = d.mem ∧ (readSfdpEffect p addr n khz d).lc.otp = d.lc.otp ∧ SamePolicy (readSfdpEffect p addr n khz d) d := by
  unfold readSfdpEffect; apply portCommand_kept; intros; simp

@[simp] theorem readStatusEffect_kept (p : Port) (n : Nat) (khz : Nat) (d : Device) :
    (readStatusEffect p n khz d).mem = d.mem ∧ (readStatusEffect p n khz d).lc.otp = d.lc.otp ∧ SamePolicy (readStatusEffect p n khz d) d := by
  unfold readStatusEffect; apply portCommand_kept; intros; simp

@[simp] theorem readFlagStatusEffect_kept (p : Port) (n : Nat) (khz : Nat) (d : Device) :
    (readFlagStatusEffect p n khz d).mem = d.mem ∧ (readFlagStatusEffect p n khz d).lc.otp = d.lc.otp ∧ SamePolicy (readFlagStatusEffect p n khz d) d := by
  unfold readFlagStatusEffect; apply portCommand_kept; intros; simp

@[simp] theorem clearFlagStatusEffect_kept (p : Port) (khz : Nat) (d : Device) :
    (clearFlagStatusEffect p khz d).mem = d.mem ∧ (clearFlagStatusEffect p khz d).lc.otp = d.lc.otp ∧ SamePolicy (clearFlagStatusEffect p khz d) d := by
  unfold clearFlagStatusEffect; apply portCommand_kept; intros; simp

@[simp] theorem writeEnableEffect_kept (p : Port) (khz : Nat) (d : Device) :
    (writeEnableEffect p khz d).mem = d.mem ∧ (writeEnableEffect p khz d).lc.otp = d.lc.otp ∧ SamePolicy (writeEnableEffect p khz d) d := by
  unfold writeEnableEffect; apply portCommand_kept; intros; simp

@[simp] theorem writeDisableEffect_kept (p : Port) (khz : Nat) (d : Device) :
    (writeDisableEffect p khz d).mem = d.mem ∧ (writeDisableEffect p khz d).lc.otp = d.lc.otp ∧ SamePolicy (writeDisableEffect p khz d) d := by
  unfold writeDisableEffect; apply portCommand_kept; intros; simp

@[simp] theorem readEffect_wf (p : Port) (four : Bool) (addr n khz late : Nat) (d : Device) :
    (Memory.wf d.mem = true → Memory.wf (readEffect p four addr n khz late d).mem = true) ∧ (readEffect p four addr n khz late d).lc.otp = d.lc.otp ∧ SamePolicy (readEffect p four addr n khz late d) d := by
  unfold readEffect; apply portCommand_wf; intros; refine ⟨fun h => ?_, ?_⟩ <;> simp (maxDischargeDepth := 30) [*]

@[simp] theorem fastReadEffect_wf (p : Port) (four : Bool) (addr n khz late : Nat) (d : Device) :
    (Memory.wf d.mem = true → Memory.wf (fastReadEffect p four addr n khz late d).mem = true) ∧ (fastReadEffect p four addr n khz late d).lc.otp = d.lc.otp ∧ SamePolicy (fastReadEffect p four addr n khz late d) d := by
  unfold fastReadEffect; apply portCommand_wf; intros; refine ⟨fun h => ?_, ?_⟩ <;> simp (maxDischargeDepth := 30) [*]

@[simp] theorem fastReadQuadOutputEffect_wf (p : Port) (four : Bool) (addr n khz late : Nat) (d : Device) :
    (Memory.wf d.mem = true → Memory.wf (fastReadQuadOutputEffect p four addr n khz late d).mem = true) ∧ (fastReadQuadOutputEffect p four addr n khz late d).lc.otp = d.lc.otp ∧ SamePolicy (fastReadQuadOutputEffect p four addr n khz late d) d := by
  unfold fastReadQuadOutputEffect; apply portCommand_wf; intros; refine ⟨fun h => ?_, ?_⟩ <;> simp (maxDischargeDepth := 30) [*]

@[simp] theorem fastReadQuadIoEffect_wf (p : Port) (four : Bool) (addr n khz late : Nat) (d : Device) :
    (Memory.wf d.mem = true → Memory.wf (fastReadQuadIoEffect p four addr n khz late d).mem = true) ∧ (fastReadQuadIoEffect p four addr n khz late d).lc.otp = d.lc.otp ∧ SamePolicy (fastReadQuadIoEffect p four addr n khz late d) d := by
  unfold fastReadQuadIoEffect; apply portCommand_wf; intros; refine ⟨fun h => ?_, ?_⟩ <;> simp (maxDischargeDepth := 30) [*]

@[simp] theorem octalDdrReadEffect_wf (p : Port) (addr n khz : Nat) (d : Device) :
    (Memory.wf d.mem = true → Memory.wf (octalDdrReadEffect p addr n khz d).mem = true) ∧ (octalDdrReadEffect p addr n khz d).lc.otp = d.lc.otp ∧ SamePolicy (octalDdrReadEffect p addr n khz d) d := by
  unfold octalDdrReadEffect; apply portCommand_wf; intros; refine ⟨fun h => ?_, ?_⟩ <;> simp (maxDischargeDepth := 30) [*]

@[simp] theorem presentedReadResumeEffect_wf (p : Port) (ended : Bool) (d : Device) :
    (Memory.wf d.mem = true → Memory.wf (presentedReadResumeEffect p ended d).mem = true) ∧ (presentedReadResumeEffect p ended d).lc.otp = d.lc.otp ∧ SamePolicy (presentedReadResumeEffect p ended d) d := wf_if (resumeRead_wf _ _ _) (wf_refl _)

@[simp] theorem pageProgramEffect_kept (p : Port) (four : Bool) (addr : Nat) (data : List Byte) (khz : Nat) (d : Device) :
    (pageProgramEffect p four addr data khz d).mem = d.mem ∧ (pageProgramEffect p four addr data khz d).lc.otp = d.lc.otp ∧ SamePolicy (pageProgramEffect p four addr data khz d) d := by
  unfold pageProgramEffect; apply portCommand_kept; intros; simp

@[simp] theorem erase4kEffect_kept (p : Port) (four : Bool) (addr : Nat) (khz : Nat) (d : Device) :
    (erase4kEffect p four addr khz d).mem = d.mem ∧ (erase4kEffect p four addr khz d).lc.otp = d.lc.otp ∧ SamePolicy (erase4kEffect p four addr khz d) d := by
  unfold erase4kEffect; apply portCommand_kept; intros; simp

@[simp] theorem erase32kEffect_kept (p : Port) (four : Bool) (addr : Nat) (khz : Nat) (d : Device) :
    (erase32kEffect p four addr khz d).mem = d.mem ∧ (erase32kEffect p four addr khz d).lc.otp = d.lc.otp ∧ SamePolicy (erase32kEffect p four addr khz d) d := by
  unfold erase32kEffect; apply portCommand_kept; intros; simp

@[simp] theorem erase64kEffect_kept (p : Port) (four : Bool) (addr : Nat) (khz : Nat) (d : Device) :
    (erase64kEffect p four addr khz d).mem = d.mem ∧ (erase64kEffect p four addr khz d).lc.otp = d.lc.otp ∧ SamePolicy (erase64kEffect p four addr khz d) d := by
  unfold erase64kEffect; apply portCommand_kept; intros; simp

@[simp] theorem resetEnableEffect_kept (p : Port) (khz : Nat) (d : Device) :
    (resetEnableEffect p khz d).mem = d.mem ∧ (resetEnableEffect p khz d).lc.otp = d.lc.otp ∧ SamePolicy (resetEnableEffect p khz d) d := by
  unfold resetEnableEffect; apply portCommand_kept; intros; simp

@[simp] theorem resetEffect_wf (p : Port) (khz : Nat) (d : Device) :
    (Memory.wf d.mem = true → Memory.wf (resetEffect p khz d).mem = true) ∧ (resetEffect p khz d).lc.otp = d.lc.otp ∧ SamePolicy (resetEffect p khz d) d := by
  unfold resetEffect; apply portCommand_wf; intros; refine ⟨fun h => ?_, ?_⟩ <;> simp (maxDischargeDepth := 30) [*]

@[simp] theorem undefinedOpcodeEffect_kept (p : Port) (op : Nat) (khz : Nat) (d : Device) :
    (undefinedOpcodeEffect p op khz d).mem = d.mem ∧ (undefinedOpcodeEffect p op khz d).lc.otp = d.lc.otp ∧ SamePolicy (undefinedOpcodeEffect p op khz d) d := by
  simp [undefinedOpcodeEffect]

@[simp] theorem csRaisedEarlyEffect_kept (p : Port) (op khz : Nat) (addr : Option Nat) (d : Device) :
    (csRaisedEarlyEffect p op khz addr d).mem = d.mem ∧ (csRaisedEarlyEffect p op khz addr d).lc.otp = d.lc.otp ∧ SamePolicy (csRaisedEarlyEffect p op khz addr d) d := by
  unfold csRaisedEarlyEffect; dsimp only
  refine kept_ite (kept_refl _) ?_
  split
  · exact kept_refl _
  · split <;> simp

@[simp] theorem upResetAssertEffect_wf (p : Port) (d : Device) :
    (Memory.wf d.mem = true → Memory.wf (upResetAssertEffect p d).mem = true) ∧ (upResetAssertEffect p d).lc.otp = d.lc.otp ∧ SamePolicy (upResetAssertEffect p d) d := by
  refine ⟨fun h => ?_, ?_⟩ <;> simp (maxDischargeDepth := 30) [upResetAssertEffect, *]

@[simp] theorem upResetReleaseEffect_kept (p : Port) (d : Device) :
    (upResetReleaseEffect p d).mem = d.mem ∧ (upResetReleaseEffect p d).lc.otp = d.lc.otp ∧ SamePolicy (upResetReleaseEffect p d) d := by
  simp [upResetReleaseEffect]

@[simp] theorem espiFlashReadEffect_wf (p : Port) (addr n : Nat) (khz : Nat) (d : Device) :
    (Memory.wf d.mem = true → Memory.wf (espiFlashReadEffect p addr n khz d).mem = true) ∧ (espiFlashReadEffect p addr n khz d).lc.otp = d.lc.otp ∧ SamePolicy (espiFlashReadEffect p addr n khz d) d := by
  unfold espiFlashReadEffect; apply espiRequest_wf; intros; exact espiRead_wf _ _ _ _ _

@[simp] theorem espiFlashWriteEffect_kept (p : Port) (addr : Nat) (data : List Byte) (khz : Nat) (d : Device) :
    (espiFlashWriteEffect p addr data khz d).mem = d.mem ∧ (espiFlashWriteEffect p addr data khz d).lc.otp = d.lc.otp ∧ SamePolicy (espiFlashWriteEffect p addr data khz d) d := by
  unfold espiFlashWriteEffect; apply espiRequest_kept; intros; simp

@[simp] theorem espiFlashEraseEffect_kept (p : Port) (addr : Nat) (khz : Nat) (d : Device) :
    (espiFlashEraseEffect p addr khz d).mem = d.mem ∧ (espiFlashEraseEffect p addr khz d).lc.otp = d.lc.otp ∧ SamePolicy (espiFlashEraseEffect p addr khz d) d := by
  unfold espiFlashEraseEffect; apply espiRequest_kept; intros; simp

@[simp] theorem espiPeripheralRequestEffect_kept (p : Port) (khz : Nat) (d : Device) :
    (espiPeripheralRequestEffect p khz d).mem = d.mem ∧ (espiPeripheralRequestEffect p khz d).lc.otp = d.lc.otp ∧ SamePolicy (espiPeripheralRequestEffect p khz d) d := by
  simp [espiPeripheralRequestEffect]

@[simp] theorem espiUndefinedCommandEffect_kept (p : Port) (op : Nat) (khz : Nat) (d : Device) :
    (espiUndefinedCommandEffect p op khz d).mem = d.mem ∧ (espiUndefinedCommandEffect p op khz d).lc.otp = d.lc.otp ∧ SamePolicy (espiUndefinedCommandEffect p op khz d) d := by
  simp [espiUndefinedCommandEffect]

@[simp] theorem espiCrcErrorEffect_kept (p : Port) (op khz : Nat) (d : Device) :
    (espiCrcErrorEffect p op khz d).mem = d.mem ∧ (espiCrcErrorEffect p op khz d).lc.otp = d.lc.otp ∧ SamePolicy (espiCrcErrorEffect p op khz d) d := by
  simp [espiCrcErrorEffect]

@[simp] theorem deferredCompletionReadyEffect_wf (p : Port) (d : Device) :
    (Memory.wf d.mem = true → Memory.wf (deferredCompletionReadyEffect p d).mem = true) ∧ (deferredCompletionReadyEffect p d).lc.otp = d.lc.otp ∧ SamePolicy (deferredCompletionReadyEffect p d) d := wf_if (deferredReady_wf _ _) (wf_refl _)

@[simp] theorem portClock_kept (p khz op : Nat) (d : Device) :
    (portClock p khz op d).mem = d.mem ∧ (portClock p khz op d).lc.otp = d.lc.otp ∧ SamePolicy (portClock p khz op d) d := by
  unfold portClock; (repeat' split) <;> simp

@[simp] theorem espiCompletionFetchEffect_kept (p : Port) (khz : Nat) (d : Device) :
    (espiCompletionFetchEffect p khz d).mem = d.mem ∧ (espiCompletionFetchEffect p khz d).lc.otp = d.lc.otp ∧ SamePolicy (espiCompletionFetchEffect p khz d) d := by
  unfold espiCompletionFetchEffect; (repeat' split) <;> simp

@[simp] theorem espiInBandResetEffect_wf (p : Port) (khz : Nat) (d : Device) :
    (Memory.wf d.mem = true → Memory.wf (espiInBandResetEffect p khz d).mem = true) ∧ (espiInBandResetEffect p khz d).lc.otp = d.lc.otp ∧ SamePolicy (espiInBandResetEffect p khz d) d := by
  refine ⟨fun h => ?_, ?_⟩ <;> simp (maxDischargeDepth := 30) [espiInBandResetEffect, *]

@[simp] theorem turnstileDecideEffect_wf (f : Dev) (d : Device) :
    (Memory.wf d.mem = true → Memory.wf (turnstileDecideEffect f d).mem = true) ∧ (turnstileDecideEffect f d).lc.otp = d.lc.otp ∧ SamePolicy (turnstileDecideEffect f d) d := by
  refine ⟨fun h => ?_, ?_⟩ <;> simp (maxDischargeDepth := 30) [turnstileDecideEffect, *]

@[simp] theorem holdLimitExpiryEffect_wf (f : Dev) (i ticks : Nat) (d : Device) :
    (Memory.wf d.mem = true → Memory.wf (holdLimitExpiryEffect f i ticks d).mem = true) ∧ (holdLimitExpiryEffect f i ticks d).lc.otp = d.lc.otp ∧ SamePolicy (holdLimitExpiryEffect f i ticks d) d := by
  refine ⟨fun h => ?_, ?_⟩ <;> (unfold holdLimitExpiryEffect; (repeat' split) <;> simp (maxDischargeDepth := 30) [*])

@[simp] theorem flashCommandDoneEffect_wf (f : Dev) (result : Nat) (data : List Byte) (d : Device) :
    (Memory.wf d.mem = true → Memory.wf (flashCommandDoneEffect f result data d).mem = true) ∧ (flashCommandDoneEffect f result data d).lc.otp = d.lc.otp ∧ SamePolicy (flashCommandDoneEffect f result data d) d := by
  refine ⟨fun h => ?_, ?_⟩ <;> simp (maxDischargeDepth := 30) [flashCommandDoneEffect, *]

@[simp] theorem flashStatusPollEffect_kept (f : Dev) (ready : Bool) (d : Device) :
    (flashStatusPollEffect f ready d).mem = d.mem ∧ (flashStatusPollEffect f ready d).lc.otp = d.lc.otp ∧ SamePolicy (flashStatusPollEffect f ready d) d := by
  simp [flashStatusPollEffect]

@[simp] theorem flashBusyEndEffect_wf (f : Dev) (failed : Bool) (d : Device) :
    (Memory.wf d.mem = true → Memory.wf (flashBusyEndEffect f failed d).mem = true) ∧ (flashBusyEndEffect f failed d).lc.otp = d.lc.otp ∧ SamePolicy (flashBusyEndEffect f failed d) d := by
  refine ⟨fun h => ?_, ?_⟩ <;> simp (maxDischargeDepth := 30) [flashBusyEndEffect, *]

@[simp] theorem flashPollTimeoutEffect_wf (f : Dev) (d : Device) :
    (Memory.wf d.mem = true → Memory.wf (flashPollTimeoutEffect f d).mem = true) ∧ (flashPollTimeoutEffect f d).lc.otp = d.lc.otp ∧ SamePolicy (flashPollTimeoutEffect f d) d := by
  refine ⟨fun h => ?_, ?_⟩ <;> (unfold flashPollTimeoutEffect; (try dsimp only); (repeat' split) <;> simp (maxDischargeDepth := 30) [*])

@[simp] theorem deviceResetPulseEndEffect_kept (f : Dev) (d : Device) :
    (deviceResetPulseEndEffect f d).mem = d.mem ∧ (deviceResetPulseEndEffect f d).lc.otp = d.lc.otp ∧ SamePolicy (deviceResetPulseEndEffect f d) d := by
  simp [deviceResetPulseEndEffect]

@[simp] theorem discoveryResetRecoveryEndEffect_kept (f : Dev) (a : Discovery) (d : Device) :
    (discoveryResetRecoveryEndEffect f a d).mem = d.mem ∧ (discoveryResetRecoveryEndEffect f a d).lc.otp = d.lc.otp ∧ SamePolicy (discoveryResetRecoveryEndEffect f a d) d := by
  simp [discoveryResetRecoveryEndEffect]

@[simp] theorem dqsTimeoutEffect_wf (f : Dev) (d : Device) :
    (Memory.wf d.mem = true → Memory.wf (dqsTimeoutEffect f d).mem = true) ∧ (dqsTimeoutEffect f d).lc.otp = d.lc.otp ∧ SamePolicy (dqsTimeoutEffect f d) d := by
  refine ⟨fun h => ?_, ?_⟩ <;> (unfold dqsTimeoutEffect; (try dsimp only); (repeat' split) <;> simp (maxDischargeDepth := 30) [*])

@[simp] theorem busContentionDetectedEffect_wf (m : Bus) (lines : Nat) (d : Device) :
    (Memory.wf d.mem = true → Memory.wf (busContentionDetectedEffect m lines d).mem = true) ∧ (busContentionDetectedEffect m lines d).lc.otp = d.lc.otp ∧ SamePolicy (busContentionDetectedEffect m lines d) d := by
  refine ⟨fun h => ?_, ?_⟩ <;> simp (maxDischargeDepth := 30) [busContentionDetectedEffect, *]

@[simp] theorem requalifyEffect_kept (h : Hart) (m : Bus) (d : Device) :
    (requalifyEffect h m d).mem = d.mem ∧ (requalifyEffect h m d).lc.otp = d.lc.otp ∧ SamePolicy (requalifyEffect h m d) d := by
  unfold requalifyEffect; apply hartWrite_kept; intros; simp

@[simp] theorem requalifySampleEndEffect_wf (m : Bus) (clean : Bool) (lines : Nat) (d : Device) :
    (Memory.wf d.mem = true → Memory.wf (requalifySampleEndEffect m clean lines d).mem = true) ∧ (requalifySampleEndEffect m clean lines d).lc.otp = d.lc.otp ∧ SamePolicy (requalifySampleEndEffect m clean lines d) d := by
  refine ⟨fun h => ?_, ?_⟩ <;> simp (maxDischargeDepth := 30) [requalifySampleEndEffect, *]

@[simp] theorem devResetEffect_wf (h : Hart) (m : Bus) (mask : Nat) (d : Device) :
    (Memory.wf d.mem = true → Memory.wf (devResetEffect h m mask d).mem = true) ∧ (devResetEffect h m mask d).lc.otp = d.lc.otp ∧ SamePolicy (devResetEffect h m mask d) d := by
  exact hartWrite_wf _ _ _ _ _ fun e => wf_if (wf_refl e) (foldl_wf _ (fun b k =>
    wf_if (wf_trans (wf_of_kept (kept_trans (modDev_kept ..) (startPulse_kept ..))) (failInProgress_wf ..)) (wf_refl b)) _ e)

@[simp] theorem rejectSlot_kept (bd slot : Nat) (d : Device) :
    (rejectSlot bd slot d).mem = d.mem ∧ (rejectSlot bd slot d).lc.otp = d.lc.otp ∧ SamePolicy (rejectSlot bd slot d) d := by
  simp [rejectSlot]

@[simp] theorem recordDependency_kept (bd : Nat) (d : Device) :
    (recordDependency bd d).mem = d.mem ∧ (recordDependency bd d).lc.otp = d.lc.otp ∧ SamePolicy (recordDependency bd d) d := by
  unfold recordDependency; (repeat' split) <;> simp

@[simp] theorem startSlot_wf (bd slot : Nat) (heads : List (List Byte)) (d : Device) :
    (Memory.wf d.mem = true → Memory.wf (startSlot bd slot heads d).mem = true) ∧ (startSlot bd slot heads d).lc.otp = d.lc.otp ∧ SamePolicy (startSlot bd slot heads d) d := by
  refine ⟨fun h => ?_, ?_⟩ <;> simp (maxDischargeDepth := 30) [startSlot, *]

@[simp] theorem extendStart_kept (bd slot reason : Nat) (a : Area) (d : Device) :
    (extendStart bd slot reason a d).mem = d.mem ∧ (extendStart bd slot reason a d).lc.otp = d.lc.otp ∧ SamePolicy (extendStart bd slot reason a d) d := by
  simp [extendStart]

@[simp] theorem serveWrite_wf (bd : Nat) (v : Word) (d : Device) :
    (Memory.wf d.mem = true → Memory.wf (serveWrite bd v d).mem = true) ∧ (serveWrite bd v d).lc.otp = d.lc.otp ∧ SamePolicy (serveWrite bd v d) d := by
  refine ⟨fun h => ?_, ?_⟩ <;> simp (maxDischargeDepth := 30) [serveWrite, *]

@[simp] theorem serveStartEffect_wf (h : Hart) (bd : Bd) (v : Word) (d : Device) :
    (Memory.wf d.mem = true → Memory.wf (serveStartEffect h bd v d).mem = true) ∧ (serveStartEffect h bd v d).lc.otp = d.lc.otp ∧ SamePolicy (serveStartEffect h bd v d) d := by
  unfold serveStartEffect; apply onlyHart_wf; intros; refine ⟨fun h => ?_, ?_⟩ <;> simp (maxDischargeDepth := 30) [*]

@[simp] theorem serveRejectEffect_wf (h : Hart) (bd : Bd) (v : Word) (d : Device) :
    (Memory.wf d.mem = true → Memory.wf (serveRejectEffect h bd v d).mem = true) ∧ (serveRejectEffect h bd v d).lc.otp = d.lc.otp ∧ SamePolicy (serveRejectEffect h bd v d) d := by
  unfold serveRejectEffect; apply onlyHart_wf; intros; refine ⟨fun h => ?_, ?_⟩ <;> simp (maxDischargeDepth := 30) [*]

@[simp] theorem waitingDomainStartEffect_wf (bd : Bd) (d : Device) :
    (Memory.wf d.mem = true → Memory.wf (waitingDomainStartEffect bd d).mem = true) ∧ (waitingDomainStartEffect bd d).lc.otp = d.lc.otp ∧ SamePolicy (waitingDomainStartEffect bd d) d := by
  refine ⟨fun h => ?_, ?_⟩ <;> simp (maxDischargeDepth := 30) [waitingDomainStartEffect, *]

@[simp] theorem servingReadCompleteEffect_wf (bd : Bd) (image result : Nat) (data : List Byte) (d : Device) :
    (Memory.wf d.mem = true → Memory.wf (servingReadCompleteEffect bd image result data d).mem = true) ∧ (servingReadCompleteEffect bd image result data d).lc.otp = d.lc.otp ∧ SamePolicy (servingReadCompleteEffect bd image result data d) d := by
  refine ⟨fun h => ?_, ?_⟩ <;> (unfold servingReadCompleteEffect; (repeat' split) <;> simp (maxDischargeDepth := 30) [*])

@[simp] theorem streamIdleExpiryEffect_kept (bd : Bd) (image : Nat) (d : Device) :
    (streamIdleExpiryEffect bd image d).mem = d.mem ∧ (streamIdleExpiryEffect bd image d).lc.otp = d.lc.otp ∧ SamePolicy (streamIdleExpiryEffect bd image d) d := by
  unfold streamIdleExpiryEffect; dsimp only; (repeat' split) <;> simp

@[simp] theorem rebootDomain_kept (bd reason : Nat) (d : Device) :
    (rebootDomain bd reason d).mem = d.mem ∧ (rebootDomain bd reason d).lc.otp = d.lc.otp ∧ SamePolicy (rebootDomain bd reason d) d := by
  unfold rebootDomain; (repeat' split) <;> simp

@[simp] theorem bdRebootEffect_kept (h : Hart) (bd : Bd) (d : Device) :
    (bdRebootEffect h bd d).mem = d.mem ∧ (bdRebootEffect h bd d).lc.otp = d.lc.otp ∧ SamePolicy (bdRebootEffect h bd d) d := by
  unfold bdRebootEffect; apply onlyHart_kept; intros; simp

@[simp] theorem gateDelayExpiryEffect_kept (bd : Bd) (d : Device) :
    (gateDelayExpiryEffect bd d).mem = d.mem ∧ (gateDelayExpiryEffect bd d).lc.otp = d.lc.otp ∧ SamePolicy (gateDelayExpiryEffect bd d) d := by
  simp [gateDelayExpiryEffect]

@[simp] theorem gateHoldDelayExpiryEffect_kept (bd : Bd) (d : Device) :
    (gateHoldDelayExpiryEffect bd d).mem = d.mem ∧ (gateHoldDelayExpiryEffect bd d).lc.otp = d.lc.otp ∧ SamePolicy (gateHoldDelayExpiryEffect bd d) d := by
  simp [gateHoldDelayExpiryEffect]

@[simp] theorem patrolScrubStepEffect_wf (region word syndrome : Nat) (d : Device) :
    (Memory.wf d.mem = true → Memory.wf (patrolScrubStepEffect region word syndrome d).mem = true) ∧ (patrolScrubStepEffect region word syndrome d).lc.otp = d.lc.otp ∧ SamePolicy (patrolScrubStepEffect region word syndrome d) d := by
  refine ⟨fun h => ?_, ?_⟩ <;> (unfold patrolScrubStepEffect; (try dsimp only); (repeat' split) <;> simp (maxDischargeDepth := 30) [*])

@[simp] theorem bindSnoop_kept (x : FqDesc) (d : Device) :
    (bindSnoop x d).mem = d.mem ∧ (bindSnoop x d).lc.otp = d.lc.otp ∧ SamePolicy (bindSnoop x d) d := by
  unfold bindSnoop; (repeat' split) <;> simp

@[simp] theorem submitGroup_kept (h : Nat) (xs : List (FqDesc × Bool)) (d : Device) :
    (submitGroup h xs d).mem = d.mem ∧ (submitGroup h xs d).lc.otp = d.lc.otp ∧ SamePolicy (submitGroup h xs d) d := by simp [submitGroup]

@[simp] theorem fqSubmitEffect_kept (h : Hart) (v : Word) (d : Device) :
    (fqSubmitEffect h v d).mem = d.mem ∧ (fqSubmitEffect h v d).lc.otp = d.lc.otp ∧ SamePolicy (fqSubmitEffect h v d) d := by
  unfold fqSubmitEffect; apply hartWrite_kept; intros; simp

@[simp] theorem fqResultPopEffect_kept (h : Hart) (d : Device) :
    (fqResultPopEffect h d).mem = d.mem ∧ (fqResultPopEffect h d).lc.otp = d.lc.otp ∧ SamePolicy (fqResultPopEffect h d) d := by
  unfold fqResultPopEffect; (repeat' split) <;> simp

@[simp] theorem devCtrl_kept (h : Hart) (f : Dev) (g : Device → Device) (d : Device) (hf : ∀ e, (g e).mem = e.mem ∧ (g e).lc.otp = e.lc.otp ∧ SamePolicy (g e) e) :
    (devCtrl h f g d).mem = d.mem ∧ (devCtrl h f g d).lc.otp = d.lc.otp ∧ SamePolicy (devCtrl h f g d) d := by
  unfold devCtrl; exact onlyHart_kept _ _ _ _ _ _ hf

@[simp] theorem devCtrl_wf (h : Hart) (f : Dev) (g : Device → Device) (d : Device) (hf : ∀ e, (Memory.wf e.mem = true → Memory.wf (g e).mem = true) ∧ (g e).lc.otp = e.lc.otp ∧ SamePolicy (g e) e) :
    (Memory.wf d.mem = true → Memory.wf (devCtrl h f g d).mem = true) ∧ (devCtrl h f g d).lc.otp = d.lc.otp ∧ SamePolicy (devCtrl h f g d) d := by
  unfold devCtrl; exact onlyHart_wf _ _ _ _ _ _ hf

@[simp] theorem deviceRetireEffect_wf (h : Hart) (f : Dev) (d : Device) :
    (Memory.wf d.mem = true → Memory.wf (deviceRetireEffect h f d).mem = true) ∧ (deviceRetireEffect h f d).lc.otp = d.lc.otp ∧ SamePolicy (deviceRetireEffect h f d) d := by
  unfold deviceRetireEffect; apply devCtrl_wf; intros; refine ⟨fun h => ?_, ?_⟩ <;> simp (maxDischargeDepth := 30) [*]

@[simp] theorem deviceProbeEffect_kept (h : Hart) (f : Dev) (d : Device) :
    (deviceProbeEffect h f d).mem = d.mem ∧ (deviceProbeEffect h f d).lc.otp = d.lc.otp ∧ SamePolicy (deviceProbeEffect h f d) d := by
  unfold deviceProbeEffect; apply devCtrl_kept; intros; simp

@[simp] theorem deviceResyncEffect_kept (h : Hart) (f : Dev) (d : Device) :
    (deviceResyncEffect h f d).mem = d.mem ∧ (deviceResyncEffect h f d).lc.otp = d.lc.otp ∧ SamePolicy (deviceResyncEffect h f d) d := by
  unfold deviceResyncEffect; apply devCtrl_kept; intros; (try dsimp only); (repeat' split) <;> simp

@[simp] theorem resyncCompleteEffect_kept (f : Dev) (d : Device) :
    (resyncCompleteEffect f d).mem = d.mem ∧ (resyncCompleteEffect f d).lc.otp = d.lc.otp ∧ SamePolicy (resyncCompleteEffect f d) d := by
  unfold resyncCompleteEffect; (repeat' split) <;> simp

@[simp] theorem endProbeEffect_wf (h : Hart) (f : Dev) (d : Device) :
    (Memory.wf d.mem = true → Memory.wf (endProbeEffect h f d).mem = true) ∧ (endProbeEffect h f d).lc.otp = d.lc.otp ∧ SamePolicy (endProbeEffect h f d) d := by
  unfold endProbeEffect; apply devCtrl_wf; intros; refine ⟨fun h => ?_, ?_⟩ <;> simp (maxDischargeDepth := 30) [*]

@[simp] theorem startAttempt_kept (bd fault : Nat) (d : Device) :
    (startAttempt bd fault d).mem = d.mem ∧ (startAttempt bd fault d).lc.otp = d.lc.otp ∧ SamePolicy (startAttempt bd fault d) d := by
  unfold startAttempt; (repeat' split) <;> simp

@[simp] theorem bootAttempt_wf (bd : Nat) (r : AreaRead) (d : Device) :
    (Memory.wf d.mem = true → Memory.wf (bootAttempt bd r d).mem = true) ∧ (bootAttempt bd r d).lc.otp = d.lc.otp ∧ SamePolicy (bootAttempt bd r d) d := by
  refine ⟨fun h => ?_, ?_⟩ <;> (unfold bootAttempt; (try dsimp only); (repeat' split) <;> simp (maxDischargeDepth := 30) [*])

@[simp] theorem attemptTurn_wf (bd : Nat) (d : Device) :
    (Memory.wf d.mem = true → Memory.wf (attemptTurn bd d).mem = true) ∧ (attemptTurn bd d).lc.otp = d.lc.otp ∧ SamePolicy (attemptTurn bd d) d := by
  unfold attemptTurn; refine ⟨fun h => ?_, ?_⟩ <;> (repeat' split) <;> simp (maxDischargeDepth := 30) [*]

@[simp] theorem bdSequenceStartEffect_kept (bd : Bd) (requester fault : Nat) (d : Device) :
    (bdSequenceStartEffect bd requester fault d).mem = d.mem ∧ (bdSequenceStartEffect bd requester fault d).lc.otp = d.lc.otp ∧ SamePolicy (bdSequenceStartEffect bd requester fault d) d := by
  unfold bdSequenceStartEffect; dsimp only; (repeat' split) <;> simp

@[simp] theorem senderHears_kept (via : Sender) (kind outcome check len : Nat) (d : Device) :
    (senderHears via kind outcome check len d).mem = d.mem ∧ (senderHears via kind outcome check len d).lc.otp = d.lc.otp ∧ SamePolicy (senderHears via kind outcome check len d) d := by
  unfold senderHears; (repeat' split) <;> simp

@[simp] theorem bundleEnds_kept (i : Install) (code : Nat) (d : Device) :
    (bundleEnds i code d).mem = d.mem ∧ (bundleEnds i code d).lc.otp = d.lc.otp ∧ SamePolicy (bundleEnds i code d) d := by simp [bundleEnds]

@[simp] theorem takeBundle_kept (sender : Nat) (via : Sender) (update : Bool) (fault : Nat) (b : List Byte) (d : Device) :
    (takeBundle sender via update fault b d).mem = d.mem ∧ (takeBundle sender via update fault b d).lc.otp = d.lc.otp ∧ SamePolicy (takeBundle sender via update fault b d) d := by
  unfold takeBundle; dsimp only; (repeat' split) <;> simp

@[simp] theorem installTurn_kept (j : Nat) (d : Device) :
    (installTurn j d).mem = d.mem ∧ (installTurn j d).lc.otp = d.lc.otp ∧ SamePolicy (installTurn j d) d := by
  unfold installTurn; (repeat' split) <;> simp

@[simp] theorem recoveryBundleInstallEffect_kept (sender : Nat) (bundle : List Byte) (fault : Nat) (d : Device) :
    (recoveryBundleInstallEffect sender bundle fault d).mem = d.mem ∧ (recoveryBundleInstallEffect sender bundle fault d).lc.otp = d.lc.otp ∧ SamePolicy (recoveryBundleInstallEffect sender bundle fault d) d := by
  simp [recoveryBundleInstallEffect]

@[simp] theorem attemptsTurn_wf (d : Device) :
    (Memory.wf d.mem = true → Memory.wf (attemptsTurn d).mem = true) ∧ (attemptsTurn d).lc.otp = d.lc.otp ∧ SamePolicy (attemptsTurn d) d := by
  unfold attemptsTurn; exact foldl_wf (fun acc bd => attemptTurn bd acc) (fun d bd => attemptTurn_wf bd d) (List.range 16) d

@[simp] theorem installsTurn_kept (d : Device) :
    (installsTurn d).mem = d.mem ∧ (installsTurn d).lc.otp = d.lc.otp ∧ SamePolicy (installsTurn d) d := by
  unfold installsTurn; exact foldl_kept _ (fun d j => installTurn_kept j d) _ d

@[simp] theorem stewardTurn_wf (d : Device) :
    (Memory.wf d.mem = true → Memory.wf (stewardTurn d).mem = true) ∧ (stewardTurn d).lc.otp = d.lc.otp ∧ SamePolicy (stewardTurn d) d := by
  unfold stewardTurn; split
  · exact wf_refl _
  · exact wf_trans (wf_of_kept (installsTurn_kept _)) (attemptsTurn_wf _)

end Sys2Proof.Machine
end

