-- ==== Sys2Proof/Laws/KeptCouch.lean ====
section
/-! SUPPORT. What couches and the device start do to memory and to OTP: `f_kept`, both unchanged, and the policy in force too;
`f_wf`, memory keeps its canonical form, OTP (and, where nothing commits, the policy in force) is unchanged. -/

namespace Sys2Proof.Machine

open Sys2Proof

@[simp] theorem modTx_kept (f : Couch → Couch) (d : Device) : (modTx f d).mem = d.mem ∧ (modTx f d).lc.otp = d.lc.otp := ⟨rfl, rfl⟩

@[simp] theorem modTx_epoch (f : Couch → Couch) (d : Device) (hf : (f d.tx).epoch = d.tx.epoch) : (modTx f d).tx.epoch = d.tx.epoch := hf
@[simp] theorem modTx_leafEven (f : Couch → Couch) (d : Device) (hf : (f d.tx).leafEven = d.tx.leafEven) : (modTx f d).tx.leafEven = d.tx.leafEven := hf
@[simp] theorem modTx_leafOdd (f : Couch → Couch) (d : Device) (hf : (f d.tx).leafOdd = d.tx.leafOdd) : (modTx f d).tx.leafOdd = d.tx.leafOdd := hf
@[simp] theorem modTx_fabricLive (f : Couch → Couch) (d : Device) (hf : (f d.tx).fabricLive = d.tx.fabricLive) : (modTx f d).tx.fabricLive = d.tx.fabricLive := hf

@[simp] theorem couchEvent_kept (code sev : Nat) (ps : List Nat) (d : Device) :
    (couchEvent code sev ps d).mem = d.mem ∧ (couchEvent code sev ps d).lc.otp = d.lc.otp ∧ SamePolicy (couchEvent code sev ps d) d := by
  simp [couchEvent]

@[simp] theorem unfenceAll_kept (held : List (Nat × List FlashCmd)) (d : Device) :
    (unfenceAll held d).mem = d.mem ∧ (unfenceAll held d).lc.otp = d.lc.otp ∧ SamePolicy (unfenceAll held d) d := by simp [unfenceAll]

@[simp] theorem abortMould_kept (reason : Nat) (d : Device) :
    (abortMould reason d).mem = d.mem ∧ (abortMould reason d).lc.otp = d.lc.otp ∧ SamePolicy (abortMould reason d) d := by simp [abortMould]

@[simp] theorem checkEnded_kept (phase : Nat) (r : Option (Nat × Nat)) (d : Device) :
    (checkEnded phase r d).mem = d.mem ∧ (checkEnded phase r d).lc.otp = d.lc.otp ∧ SamePolicy (checkEnded phase r d) d := by
  unfold checkEnded; (repeat' split) <;> simp

@[simp] theorem noteJournal_kept (d : Device) :
    (noteJournal d).mem = d.mem ∧ (noteJournal d).lc.otp = d.lc.otp ∧ SamePolicy (noteJournal d) d := by
  unfold noteJournal; (repeat' split) <;> simp

@[simp] theorem compactIfShort_wf (d : Device) :
    (Memory.wf d.mem = true → Memory.wf (compactIfShort d).mem = true) ∧ (compactIfShort d).lc.otp = d.lc.otp ∧ SamePolicy (compactIfShort d) d := by
  refine ⟨fun h => ?_, ?_⟩ <;> (unfold compactIfShort; (try dsimp only); (repeat' split) <;> simp (maxDischargeDepth := 30) [*])

@[simp] theorem ensureBank_wf (d : Device) :
    (Memory.wf d.mem = true → Memory.wf (ensureBank d).mem = true) ∧ (ensureBank d).lc.otp = d.lc.otp ∧ SamePolicy (ensureBank d) d := by
  refine ⟨fun h => ?_, ?_⟩ <;> simp (maxDischargeDepth := 30) [ensureBank, *]

@[simp] theorem writeRecord_wf (c : Committed) (d : Device) :
    (Memory.wf d.mem = true → Memory.wf (writeRecord c d).mem = true) ∧ (writeRecord c d).lc.otp = d.lc.otp ∧ SamePolicy (writeRecord c d) d := by
  refine ⟨fun h => ?_, ?_⟩ <;> (unfold writeRecord; (try dsimp only); (repeat' split) <;> simp (maxDischargeDepth := 30) [*])

@[simp] theorem instantCond_kept (old : Leaf) (r : FlashRec) (d : Device) :
    (instantCond old r d).mem = d.mem ∧ (instantCond old r d).lc.otp = d.lc.otp ∧ SamePolicy (instantCond old r d) d := by
  unfold instantCond; (repeat' split) <;> simp

@[simp] theorem instantDevice_kept (old : Leaf) (oldRetired : List Nat) (d : Device) (f : Nat) :
    (instantDevice old oldRetired d f).mem = d.mem ∧ (instantDevice old oldRetired d f).lc.otp = d.lc.otp ∧ SamePolicy (instantDevice old oldRetired d f) d := by
  unfold instantDevice; dsimp only; (repeat' split) <;> simp

@[simp] theorem reinstate_kept (d : Device) (f : Nat) :
    (reinstate d f).mem = d.mem ∧ (reinstate d f).lc.otp = d.lc.otp ∧ SamePolicy (reinstate d f) d := by
  unfold reinstate; (repeat' split) <;> simp

@[simp] theorem instantDomain_kept (old : Leaf) (d : Device) (bd : Nat) :
    (instantDomain old d bd).mem = d.mem ∧ (instantDomain old d bd).lc.otp = d.lc.otp ∧ SamePolicy (instantDomain old d bd) d := by
  unfold instantDomain; dsimp only; (repeat' split) <;> simp

@[simp] theorem instantBuckets_kept (old : Leaf) (d : Device) :
    (instantBuckets old d).mem = d.mem ∧ (instantBuckets old d).lc.otp = d.lc.otp ∧ SamePolicy (instantBuckets old d) d := by
  simp [instantBuckets]

@[simp] theorem couchInstant_kept (old : Leaf) (oldRetired : List Nat) (held : List (Nat × List FlashCmd)) (acts : List (List Byte)) (d : Device) :
    (couchInstant old oldRetired held acts d).mem = d.mem ∧ (couchInstant old oldRetired held acts d).lc.otp = d.lc.otp ∧ SamePolicy (couchInstant old oldRetired held acts d) d := by
  simp [couchInstant]

@[simp] theorem endTamper_kept (gen : Nat) (d : Device) :
    (endTamper gen d).mem = d.mem ∧ (endTamper gen d).lc.otp = d.lc.otp ∧ SamePolicy (endTamper gen d) d := by simp [endTamper]

@[simp] theorem stageExtend_kept (n : Nat) (m : List Byte) (d : Device) :
    (stageExtend n m d).mem = d.mem ∧ (stageExtend n m d).lc.otp = d.lc.otp ∧ SamePolicy (stageExtend n m d) d := by simp [stageExtend]

@[simp] theorem commitExtend_kept (n : Nat) (m : List Byte) (d : Device) :
    (commitExtend n m d).mem = d.mem ∧ (commitExtend n m d).lc.otp = d.lc.otp ∧ SamePolicy (commitExtend n m d) d := by simp [commitExtend]

@[simp] theorem extendOwed_kept (d : Device) :
    (extendOwed d).mem = d.mem ∧ (extendOwed d).lc.otp = d.lc.otp ∧ SamePolicy (extendOwed d) d := by simp [extendOwed]

@[simp] theorem noteKeys_kept (gen : Nat) (d : Device) :
    (noteKeys gen d).mem = d.mem ∧ (noteKeys gen d).lc.otp = d.lc.otp ∧ SamePolicy (noteKeys gen d) d := by simp [noteKeys]

@[simp] theorem commitKeys_wf (d : Device) :
    (Memory.wf d.mem = true → Memory.wf (commitKeys d).mem = true) ∧ (commitKeys d).lc.otp = d.lc.otp ∧ SamePolicy (commitKeys d) d := by
  refine ⟨fun h => ?_, ?_⟩ <;> simp (maxDischargeDepth := 30) [commitKeys, *]

@[simp] theorem commitMould_wf (d : Device) :
    (Memory.wf d.mem = true → Memory.wf (commitMould d).mem = true) ∧ (commitMould d).lc.otp = d.lc.otp := by
  refine ⟨fun h => ?_, ?_⟩ <;> simp (maxDischargeDepth := 30) [commitMould, *]

@[simp] theorem reloadKeys_kept (d : Device) :
    (reloadKeys d).mem = d.mem ∧ (reloadKeys d).lc.otp = d.lc.otp ∧ SamePolicy (reloadKeys d) d := by simp [reloadKeys]

@[simp] theorem rollRoot_kept (b : Nat) (d : Device) :
    (rollRoot b d).2.mem = d.mem ∧ (rollRoot b d).2.lc.otp = d.lc.otp ∧ SamePolicy (rollRoot b d).2 d := by
  unfold rollRoot; dsimp only; split <;> simp

@[simp] theorem rollKeys_wf (r : Replay) (d : Device) :
    (Memory.wf d.mem = true → Memory.wf (rollKeys r d).2.mem = true) ∧ (rollKeys r d).2.lc.otp = d.lc.otp ∧ SamePolicy (rollKeys r d).2 d := by
  unfold rollKeys; refine ⟨fun h => ?_, ?_⟩ <;> (try dsimp only) <;> (repeat' split) <;> simp (maxDischargeDepth := 30) [*]

@[simp] theorem rollSi_wf (want : List Byte) (d : Device) :
    (Memory.wf d.mem = true → Memory.wf (rollSi want d).2.mem = true) ∧ (rollSi want d).2.lc.otp = d.lc.otp ∧ SamePolicy (rollSi want d).2 d := by
  unfold rollSi; refine ⟨fun h => ?_, ?_⟩ <;> (try dsimp only) <;> (repeat' split) <;> simp (maxDischargeDepth := 30) [*]

@[simp] theorem initialDevice_kept (d : Device) (f : Nat) :
    (initialDevice d f).mem = d.mem ∧ (initialDevice d f).lc.otp = d.lc.otp ∧ SamePolicy (initialDevice d f) d := by
  unfold initialDevice; dsimp only; (repeat' split) <;> simp

@[simp] theorem initialDomain_kept (d : Device) (bd : Nat) :
    (initialDomain d bd).mem = d.mem ∧ (initialDomain d bd).lc.otp = d.lc.otp ∧ SamePolicy (initialDomain d bd) d := by
  unfold initialDomain; (repeat' split) <;> simp

@[simp] theorem guardStart_kept (d : Device) :
    (guardStart d).mem = d.mem ∧ (guardStart d).lc.otp = d.lc.otp ∧ SamePolicy (guardStart d) d := by
  unfold guardStart; simp

@[simp] theorem restoreFails_kept (d : Device) :
    (restoreFails d).mem = d.mem ∧ (restoreFails d).lc.otp = d.lc.otp ∧ SamePolicy (restoreFails d) d := by simp [restoreFails]

@[simp] theorem restoreFabric_wf (d : Device) :
    (Memory.wf d.mem = true → Memory.wf (restoreFabric d).mem = true) ∧ (restoreFabric d).lc.otp = d.lc.otp := by
  refine ⟨fun h => ?_, ?_⟩ <;> (unfold restoreFabric; (try dsimp only); (repeat' split) <;> simp (maxDischargeDepth := 30) [*])

@[simp] theorem couchResult_kept (h : Hart) (cmd outcome : Nat) (d : Device) :
    (couchResult h cmd outcome d).mem = d.mem ∧ (couchResult h cmd outcome d).lc.otp = d.lc.otp ∧ SamePolicy (couchResult h cmd outcome d) d := by
  simp [couchResult]

@[simp] theorem couchCommand_kept (h : Hart) (cmd : Nat) (outcome : Device → Nat) (f : Device → Device) (d : Device) (hf : ∀ e, (f e).mem = e.mem ∧ (f e).lc.otp = e.lc.otp ∧ SamePolicy (f e) e) :
    (couchCommand h cmd outcome f d).mem = d.mem ∧ (couchCommand h cmd outcome f d).lc.otp = d.lc.otp ∧ SamePolicy (couchCommand h cmd outcome f d) d := by
  unfold couchCommand; apply hartWrite_kept; intro e; (try dsimp only); (repeat' split) <;> simp [hf]

@[simp] theorem couchCommand_wf (h : Hart) (cmd : Nat) (outcome : Device → Nat) (f : Device → Device) (d : Device) (hf : ∀ e, (Memory.wf e.mem = true → Memory.wf (f e).mem = true) ∧ (f e).lc.otp = e.lc.otp ∧ SamePolicy (f e) e) :
    (Memory.wf d.mem = true → Memory.wf (couchCommand h cmd outcome f d).mem = true) ∧ (couchCommand h cmd outcome f d).lc.otp = d.lc.otp ∧ SamePolicy (couchCommand h cmd outcome f d) d := by
  unfold couchCommand; apply hartWrite_wf; intro e; (try dsimp only); refine ⟨fun h => ?_, ?_⟩ <;> (repeat' split) <;> simp (maxDischargeDepth := 30) [*]

@[simp] theorem couchOpenEffect_kept (h : Hart) (requester : Nat) (d : Device) :
    (couchOpenEffect h requester d).mem = d.mem ∧ (couchOpenEffect h requester d).lc.otp = d.lc.otp ∧ SamePolicy (couchOpenEffect h requester d) d := by
  unfold couchOpenEffect; apply couchCommand_kept; intros; simp

@[simp] theorem couchAppendEffect_kept (h : Hart) (d : Device) :
    (couchAppendEffect h d).mem = d.mem ∧ (couchAppendEffect h d).lc.otp = d.lc.otp ∧ SamePolicy (couchAppendEffect h d) d := by
  unfold couchAppendEffect; apply couchCommand_kept; intro e; refine ⟨by simp, by simp, modTx_epoch _ _ ?_, modTx_leafEven _ _ ?_, modTx_leafOdd _ _ ?_, modTx_fabricLive _ _ ?_⟩ <;> split <;> rfl

@[simp] theorem siContentCheckDoneEffect_kept (d : Device) :
    (siContentCheckDoneEffect d).mem = d.mem ∧ (siContentCheckDoneEffect d).lc.otp = d.lc.otp ∧ SamePolicy (siContentCheckDoneEffect d) d := by
  unfold siContentCheckDoneEffect; (repeat' split) <;> simp

@[simp] theorem couchCheckEffect_kept (h : Hart) (d : Device) :
    (couchCheckEffect h d).mem = d.mem ∧ (couchCheckEffect h d).lc.otp = d.lc.otp ∧ SamePolicy (couchCheckEffect h d) d := by
  unfold couchCheckEffect; apply couchCommand_kept; intros; simp

@[simp] theorem couchCheckDoneEffect_wf (d : Device) :
    (Memory.wf d.mem = true → Memory.wf (couchCheckDoneEffect d).mem = true) ∧ (couchCheckDoneEffect d).lc.otp = d.lc.otp ∧ SamePolicy (couchCheckDoneEffect d) d := by
  refine ⟨fun h => ?_, ?_⟩ <;> (unfold couchCheckDoneEffect; (try dsimp only); (repeat' split) <;> simp (maxDischargeDepth := 30) [*])

@[simp] theorem sessionCommits_kept (d : Device) :
    (sessionCommits d).mem = d.mem ∧ (sessionCommits d).lc.otp = d.lc.otp ∧ SamePolicy (sessionCommits d) d := by simp [sessionCommits]

@[simp] theorem couchCommitEffect_kept (h : Hart) (d : Device) :
    (couchCommitEffect h d).mem = d.mem ∧ (couchCommitEffect h d).lc.otp = d.lc.otp ∧ SamePolicy (couchCommitEffect h d) d := by
  unfold couchCommitEffect; apply couchCommand_kept; intros; simp

@[simp] theorem siCopyDoneEffect_wf (d : Device) :
    (Memory.wf d.mem = true → Memory.wf (siCopyDoneEffect d).mem = true) ∧ (siCopyDoneEffect d).lc.otp = d.lc.otp ∧ SamePolicy (siCopyDoneEffect d) d := by
  refine ⟨fun h => ?_, ?_⟩ <;> simp (maxDischargeDepth := 30) [siCopyDoneEffect, *]

@[simp] theorem couchAbortEffect_kept (h : Hart) (d : Device) :
    (couchAbortEffect h d).mem = d.mem ∧ (couchAbortEffect h d).lc.otp = d.lc.otp ∧ SamePolicy (couchAbortEffect h d) d := by
  unfold couchAbortEffect; apply couchCommand_kept; intros; simp

@[simp] theorem couchReleaseEffect_kept (h : Hart) (d : Device) :
    (couchReleaseEffect h d).mem = d.mem ∧ (couchReleaseEffect h d).lc.otp = d.lc.otp ∧ SamePolicy (couchReleaseEffect h d) d := by
  unfold couchReleaseEffect; apply couchCommand_kept; intros; simp

@[simp] theorem restoreEffect_wf (h : Hart) (d : Device) :
    (Memory.wf d.mem = true → Memory.wf (restoreEffect h d).mem = true) ∧ (restoreEffect h d).lc.otp = d.lc.otp := by
  unfold restoreEffect couchCommand; apply hartWrite_wfOtp; intro e; dsimp only
  refine ⟨fun h => ?_, ?_⟩ <;> (repeat' split) <;> simp [*]

@[simp] theorem mailboxDone_kept (who : Option Ld) (code : Nat) (out : List Byte) (d : Device) :
    (mailboxDone who code out d).mem = d.mem ∧ (mailboxDone who code out d).lc.otp = d.lc.otp ∧ SamePolicy (mailboxDone who code out d) d := by
  simp [mailboxDone]

@[simp] theorem siLoadAnswer_wf (outcome code : Nat) (d : Device) :
    (Memory.wf d.mem = true → Memory.wf (siLoadAnswer outcome code d).mem = true) ∧ (siLoadAnswer outcome code d).lc.otp = d.lc.otp := by
  refine ⟨fun h => ?_, ?_⟩ <;> (unfold siLoadAnswer; (try dsimp only); (repeat' split) <;> simp (maxDischargeDepth := 30) [*])

@[simp] theorem siLoadEnd_wf (d : Device) :
    (Memory.wf d.mem = true → Memory.wf (siLoadEnd d).mem = true) ∧ (siLoadEnd d).lc.otp = d.lc.otp := by
  refine ⟨fun h => ?_, ?_⟩ <;> simp (maxDischargeDepth := 30) [siLoadEnd, *]

@[simp] theorem couchDrainDoneEffect_wf (d : Device) :
    (Memory.wf d.mem = true → Memory.wf (couchDrainDoneEffect d).mem = true) ∧ (couchDrainDoneEffect d).lc.otp = d.lc.otp := by
  refine ⟨fun h => ?_, ?_⟩ <;> simp (maxDischargeDepth := 30) [couchDrainDoneEffect, *]

@[simp] theorem couchDrainLimitExpiryEffect_wf (d : Device) :
    (Memory.wf d.mem = true → Memory.wf (couchDrainLimitExpiryEffect d).mem = true) ∧ (couchDrainLimitExpiryEffect d).lc.otp = d.lc.otp := by
  refine ⟨fun h => ?_, ?_⟩ <;> simp (maxDischargeDepth := 30) [couchDrainLimitExpiryEffect, *]

@[simp] theorem couchUndefinedCommandEffect_kept (h : Hart) (code : Nat) (d : Device) :
    (couchUndefinedCommandEffect h code d).mem = d.mem ∧ (couchUndefinedCommandEffect h code d).lc.otp = d.lc.otp ∧ SamePolicy (couchUndefinedCommandEffect h code d) d := by
  unfold couchUndefinedCommandEffect; apply couchCommand_kept; intros; simp

@[simp] theorem sipWrite_wf (v : Word) (d : Device) :
    (Memory.wf d.mem = true → Memory.wf (sipWrite v d).mem = true) ∧ (sipWrite v d).lc.otp = d.lc.otp ∧ SamePolicy (sipWrite v d) d := by
  refine ⟨fun h => ?_, ?_⟩ <;> simp (maxDischargeDepth := 30) [sipWrite, *]

@[simp] theorem sipDataWriteEffect_wf (h : Hart) (v : Word) (d : Device) :
    (Memory.wf d.mem = true → Memory.wf (sipDataWriteEffect h v d).mem = true) ∧ (sipDataWriteEffect h v d).lc.otp = d.lc.otp ∧ SamePolicy (sipDataWriteEffect h v d) d := by
  unfold sipDataWriteEffect; apply hartWrite_wf; intros; refine ⟨fun h => ?_, ?_⟩ <;> simp (maxDischargeDepth := 30) [*]

@[simp] theorem siLoadFails_wf (d : Device) :
    (Memory.wf d.mem = true → Memory.wf (siLoadFails d).mem = true) ∧ (siLoadFails d).lc.otp = d.lc.otp := by
  refine ⟨fun h => ?_, ?_⟩ <;> simp (maxDischargeDepth := 30) [siLoadFails, *]

@[simp] theorem siLoad_wf (requester total : Nat) (d0 : Device) :
    (Memory.wf d0.mem = true → Memory.wf (siLoad requester total d0).mem = true) ∧ (siLoad requester total d0).lc.otp = d0.lc.otp := by
  refine ⟨fun h => ?_, ?_⟩ <;> simp (maxDischargeDepth := 30) [siLoad, *]

@[simp] theorem takeSi_wf (aid : Nat) (obj : List Byte) (d : Device) :
    (Memory.wf d.mem = true → Memory.wf (takeSi aid obj d).mem = true) ∧ (takeSi aid obj d).lc.otp = d.lc.otp :=
  ⟨fun h => (siLoad_wf _ _ _).1 ((mramStore_wf siPendingBase obj d).1 h), (siLoad_wf _ _ _).2.trans (mramStore_wf siPendingBase obj d).2.1⟩

@[simp] theorem romExtends_kept (d : Device) :
    (romExtends d).mem = d.mem ∧ (romExtends d).lc.otp = d.lc.otp ∧ SamePolicy (romExtends d) d := by simp [romExtends]

@[simp] theorem romSlot_kept (n owner rights : Nat) (value : List Byte) (d : Device) :
    (romSlot n owner rights value d).mem = d.mem ∧ (romSlot n owner rights value d).lc.otp = d.lc.otp ∧ SamePolicy (romSlot n owner rights value d) d := by
  simp [romSlot]

@[simp] theorem romDerive_kept (d : Device) :
    (romDerive d).mem = d.mem ∧ (romDerive d).lc.otp = d.lc.otp ∧ SamePolicy (romDerive d) d := by simp [romDerive]

@[simp] theorem writeFastRecord_wf (d : Device) :
    (Memory.wf d.mem = true → Memory.wf (writeFastRecord d).mem = true) ∧ (writeFastRecord d).lc.otp = d.lc.otp ∧ SamePolicy (writeFastRecord d) d := by
  refine ⟨fun h => ?_, ?_⟩ <;> simp (maxDischargeDepth := 30) [writeFastRecord, *]

@[simp] theorem copySegment_wf (base h : Nat) (s : Nat × Nat × Nat × Nat) (d : Device) :
    (Memory.wf d.mem = true → Memory.wf (copySegment base h s d).mem = true) ∧ (copySegment base h s d).lc.otp = d.lc.otp ∧ SamePolicy (copySegment base h s d) d := by
  refine ⟨fun h => ?_, ?_⟩ <;> simp (maxDischargeDepth := 30) [copySegment, *]

@[simp] theorem copySegments_wf (h : Nat) (d : Device) :
    (Memory.wf d.mem = true → Memory.wf (copySegments h d).mem = true) ∧ (copySegments h d).lc.otp = d.lc.otp ∧ SamePolicy (copySegments h d) d := by
  refine ⟨fun h => ?_, ?_⟩ <;> (unfold copySegments; (try dsimp only); (repeat' split) <;> simp (maxDischargeDepth := 30) +contextual [*])

@[simp] theorem romLoad_wf (slot path : Nat) (full : Bool) (digest : List Byte) (d : Device) :
    (Memory.wf d.mem = true → Memory.wf (romLoad slot path full digest d).mem = true) ∧ (romLoad slot path full digest d).lc.otp = d.lc.otp ∧ SamePolicy (romLoad slot path full digest d) d := by
  refine ⟨fun h => ?_, ?_⟩ <;> simp (maxDischargeDepth := 30) [romLoad, *]

@[simp] theorem romTake_wf (slot path : Nat) (d : Device) :
    (Memory.wf d.mem = true → Memory.wf (romTake slot path d).mem = true) ∧ (romTake slot path d).lc.otp = d.lc.otp ∧ SamePolicy (romTake slot path d) d := by
  refine ⟨fun h => ?_, ?_⟩ <;> simp (maxDischargeDepth := 30) [romTake, *]

@[simp] theorem romFailed_kept (slot code : Nat) (d : Device) :
    (romFailed slot code d).mem = d.mem ∧ (romFailed slot code d).lc.otp = d.lc.otp ∧ SamePolicy (romFailed slot code d) d := by
  simp [romFailed]

@[simp] theorem romTry_wf (l : List (Nat × Nat)) (d : Device) :
    (Memory.wf d.mem = true → Memory.wf (romTry l d).mem = true) ∧ (romTry l d).lc.otp = d.lc.otp ∧ SamePolicy (romTry l d) d := by
  induction l generalizing d with
  | nil => exact ⟨id, rfl, rfl, rfl, rfl, rfl⟩
  | cons a l ih =>
    unfold romTry; split
    · exact ⟨fun h => by simp [h], by simp⟩
    · exact ⟨fun h => (ih _).1 (by simp [h]), (ih _).2.1.trans (by simp), SamePolicy.trans (ih _).2.2 (by simp)⟩

@[simp] theorem romRun_wf (d : Device) :
    (Memory.wf d.mem = true → Memory.wf (romRun d).mem = true) ∧ (romRun d).lc.otp = d.lc.otp ∧ SamePolicy (romRun d) d := by
  refine ⟨fun h => ?_, ?_⟩ <;> (unfold romRun; (try dsimp only); (repeat' split) <;> simp (maxDischargeDepth := 30) [*])

@[simp] theorem romGo_wf (d : Device) :
    (Memory.wf d.mem = true → Memory.wf (romGo d).mem = true) ∧ (romGo d).lc.otp = d.lc.otp ∧ SamePolicy (romGo d) d := by
  refine ⟨fun h => ?_, ?_⟩ <;> simp (maxDischargeDepth := 30) [romGo, *]

@[simp] theorem romInstall_wf (source : Nat) (image : List Byte) (d : Device) :
    (Memory.wf d.mem = true → Memory.wf (romInstall source image d).2.mem = true) ∧ (romInstall source image d).2.lc.otp = d.lc.otp ∧ SamePolicy (romInstall source image d).2 d := by
  unfold romInstall; refine ⟨fun h => ?_, ?_⟩ <;> (try dsimp only) <;> (repeat' split) <;> simp (maxDischargeDepth := 30) [*]

@[simp] theorem rootLost_kept (d : Device) :
    (rootLost d).mem = d.mem ∧ (rootLost d).lc.otp = d.lc.otp ∧ SamePolicy (rootLost d) d := by simp [rootLost]

@[simp] theorem noteTamper_kept (d : Device) :
    (noteTamper d).mem = d.mem ∧ (noteTamper d).lc.otp = d.lc.otp ∧ SamePolicy (noteTamper d) d := by simp [noteTamper]

@[simp] theorem keyVaultLoadDoneEffect_wf (d : Device) :
    (Memory.wf d.mem = true → Memory.wf (keyVaultLoadDoneEffect d).mem = true) ∧ (keyVaultLoadDoneEffect d).lc.otp = d.lc.otp ∧ SamePolicy (keyVaultLoadDoneEffect d) d := by
  refine ⟨fun h => ?_, ?_⟩ <;> simp (maxDischargeDepth := 30) [keyVaultLoadDoneEffect, *]

@[simp] theorem releaseHartsEffect_wf (h : Hart) (d : Device) :
    (Memory.wf d.mem = true → Memory.wf (releaseHartsEffect h d).mem = true) ∧ (releaseHartsEffect h d).lc.otp = d.lc.otp ∧ SamePolicy (releaseHartsEffect h d) d := by
  unfold releaseHartsEffect; apply onlyHart_wf; intros; refine ⟨fun h => ?_, ?_⟩ <;> simp (maxDischargeDepth := 30) [*]

@[simp] theorem hartReadyEffect_kept (h : Hart) (d : Device) :
    (hartReadyEffect h d).mem = d.mem ∧ (hartReadyEffect h d).lc.otp = d.lc.otp ∧ SamePolicy (hartReadyEffect h d) d := by
  unfold hartReadyEffect; apply hartWrite_kept; intros; simp

@[simp] theorem romDeckle_kept (d : Device) :
    (romDeckle d).mem = d.mem ∧ (romDeckle d).lc.otp = d.lc.otp ∧ SamePolicy (romDeckle d) d := by unfold romDeckle; (repeat' split) <;> simp

@[simp] theorem deckleLockEffect_kept (h : Hart) (d : Device) :
    (deckleLockEffect h d).mem = d.mem ∧ (deckleLockEffect h d).lc.otp = d.lc.otp ∧ SamePolicy (deckleLockEffect h d) d := by
  unfold deckleLockEffect; apply hartWrite_kept; intros; simp

@[simp] theorem rootLockSetEffect_kept (h : Hart) (d : Device) :
    (rootLockSetEffect h d).mem = d.mem ∧ (rootLockSetEffect h d).lc.otp = d.lc.otp ∧ SamePolicy (rootLockSetEffect h d) d := by
  unfold rootLockSetEffect; apply hartWrite_kept; intros; simp

@[simp] theorem startEvent_kept (code sev : Nat) (ps : List Nat) (d : Device) :
    (startEvent code sev ps d).mem = d.mem ∧ (startEvent code sev ps d).lc.otp = d.lc.otp ∧ SamePolicy (startEvent code sev ps d) d := by
  simp [startEvent]

@[simp] theorem powerEvents_kept (d : Device) :
    (powerEvents d).mem = d.mem ∧ (powerEvents d).lc.otp = d.lc.otp ∧ SamePolicy (powerEvents d) d := by simp [powerEvents]

@[simp] theorem stageStart_kept (d : Device) :
    (stageStart d).mem = d.mem ∧ (stageStart d).lc.otp = d.lc.otp ∧ SamePolicy (stageStart d) d := by simp [stageStart]

@[simp] theorem firmwareEvents_kept (d : Device) :
    (firmwareEvents d).mem = d.mem ∧ (firmwareEvents d).lc.otp = d.lc.otp ∧ SamePolicy (firmwareEvents d) d := by
  unfold firmwareEvents; dsimp only; (repeat' split) <;> simp

@[simp] theorem handoverEffect_kept (h : Hart) (d : Device) :
    (handoverEffect h d).mem = d.mem ∧ (handoverEffect h d).lc.otp = d.lc.otp ∧ SamePolicy (handoverEffect h d) d := by
  unfold handoverEffect; apply onlyHart_kept; intros; simp

@[simp] theorem markCleanEffect_kept (h : Hart) (d : Device) :
    (markCleanEffect h d).mem = d.mem ∧ (markCleanEffect h d).lc.otp = d.lc.otp ∧ SamePolicy (markCleanEffect h d) d := by
  unfold markCleanEffect; apply onlyHart_kept; intros; simp

@[simp] theorem fwWrite_wf (v : Word) (d : Device) :
    (Memory.wf d.mem = true → Memory.wf (fwWrite v d).mem = true) ∧ (fwWrite v d).lc.otp = d.lc.otp ∧ SamePolicy (fwWrite v d) d := by
  refine ⟨fun h => ?_, ?_⟩ <;> simp (maxDischargeDepth := 30) [fwWrite, *]

@[simp] theorem fwDataWriteEffect_wf (h : Hart) (v : Word) (d : Device) :
    (Memory.wf d.mem = true → Memory.wf (fwDataWriteEffect h v d).mem = true) ∧ (fwDataWriteEffect h v d).lc.otp = d.lc.otp ∧ SamePolicy (fwDataWriteEffect h v d) d := by
  unfold fwDataWriteEffect; apply hartWrite_wf; intros; refine ⟨fun h => ?_, ?_⟩ <;> simp (maxDischargeDepth := 30) [*]

@[simp] theorem watermarkExtendEffect_kept (h : Hart) (n : Wmk) (d : Device) :
    (watermarkExtendEffect h n d).mem = d.mem ∧ (watermarkExtendEffect h n d).lc.otp = d.lc.otp ∧ SamePolicy (watermarkExtendEffect h n d) d := by
  unfold watermarkExtendEffect; apply hartWrite_kept; intros; simp

end Sys2Proof.Machine
end

