-- ==== Sys2Proof/Laws/KeptEngines.lean ====
section
/-! SUPPORT. What the engines, the key vault, the ledger, the recorder do to memory and to OTP: `f_kept`, both unchanged, and the policy in force too;
`f_wf`, memory keeps its canonical form, OTP (and, where nothing commits, the policy in force) is unchanged. -/

namespace Sys2Proof.Machine

open Sys2Proof

@[simp] theorem modDg_kept (f : DigestEngine → DigestEngine) (d : Device) :
    (modDg f d).mem = d.mem ∧ (modDg f d).lc.otp = d.lc.otp ∧ SamePolicy (modDg f d) d := by simp [modDg]

@[simp] theorem modDgBank_kept (h : Hart) (f : DgBank → DgBank) (d : Device) :
    (modDgBank h f d).mem = d.mem ∧ (modDgBank h f d).lc.otp = d.lc.otp ∧ SamePolicy (modDgBank h f d) d := by simp [modDgBank]

@[simp] theorem dgResult_kept (h : Hart) (cmd outcome value : Nat) (d : Device) :
    (dgResult h cmd outcome value d).mem = d.mem ∧ (dgResult h cmd outcome value d).lc.otp = d.lc.otp ∧ SamePolicy (dgResult h cmd outcome value d) d := by
  simp [dgResult]

@[simp] theorem digestCommand_kept (h : Hart) (cmd : Nat) (f : Device → Nat × Nat × Device) (d : Device) (hf : ∀ e, (f e).2.2.mem = e.mem ∧ (f e).2.2.lc.otp = e.lc.otp ∧ SamePolicy (f e).2.2 e) :
    (digestCommand h cmd f d).mem = d.mem ∧ (digestCommand h cmd f d).lc.otp = d.lc.otp ∧ SamePolicy (digestCommand h cmd f d) d := by
  unfold digestCommand; apply hartWrite_kept; intro e; (try dsimp only); (repeat' split) <;> simp [hf]

@[simp] theorem digestCommand_wf (h : Hart) (cmd : Nat) (f : Device → Nat × Nat × Device) (d : Device) (hf : ∀ e, (Memory.wf e.mem = true → Memory.wf (f e).2.2.mem = true) ∧ (f e).2.2.lc.otp = e.lc.otp ∧ SamePolicy (f e).2.2 e) :
    (Memory.wf d.mem = true → Memory.wf (digestCommand h cmd f d).mem = true) ∧ (digestCommand h cmd f d).lc.otp = d.lc.otp ∧ SamePolicy (digestCommand h cmd f d) d := by
  unfold digestCommand; apply hartWrite_wf; intro e; (try dsimp only); refine ⟨fun h => ?_, ?_⟩ <;> (repeat' split) <;> simp (maxDischargeDepth := 30) [*]

@[simp] theorem dgRefuse_kept (outcome : Nat) (d : Device) :
    (dgRefuse outcome d).2.2.mem = d.mem ∧ (dgRefuse outcome d).2.2.lc.otp = d.lc.otp ∧ SamePolicy (dgRefuse outcome d).2.2 d := by
  exact ⟨rfl, rfl, rfl, rfl, rfl, rfl⟩

@[simp] theorem onContext_kept (h : Hart) (c : Ctx) (f : Context → Device → Nat × Nat × Device) (d : Device) (hf : ∀ x e, (f x e).2.2.mem = e.mem ∧ (f x e).2.2.lc.otp = e.lc.otp ∧ SamePolicy (f x e).2.2 e) :
    (onContext h c f d).2.2.mem = d.mem ∧ (onContext h c f d).2.2.lc.otp = d.lc.otp ∧ SamePolicy (onContext h c f d).2.2 d := by
  unfold onContext; (repeat' split) <;> simp [hf]

@[simp] theorem onContext_wf (h : Hart) (c : Ctx) (f : Context → Device → Nat × Nat × Device) (d : Device) (hf : ∀ x e, (Memory.wf e.mem = true → Memory.wf (f x e).2.2.mem = true) ∧ (f x e).2.2.lc.otp = e.lc.otp ∧ SamePolicy (f x e).2.2 e) :
    (Memory.wf d.mem = true → Memory.wf (onContext h c f d).2.2.mem = true) ∧ (onContext h c f d).2.2.lc.otp = d.lc.otp ∧ SamePolicy (onContext h c f d).2.2 d := by
  unfold onContext; refine ⟨fun h => ?_, ?_⟩ <;> (repeat' split) <;> simp (maxDischargeDepth := 30) [*]

@[simp] theorem openContext_kept (h : Hart) (d : Device) :
    (openContext h d).2.2.mem = d.mem ∧ (openContext h d).2.2.lc.otp = d.lc.otp ∧ SamePolicy (openContext h d).2.2 d := by
  unfold openContext; (try dsimp only); (repeat' split) <;> simp

@[simp] theorem dgOpenEffect_kept (h : Hart) (d : Device) :
    (dgOpenEffect h d).mem = d.mem ∧ (dgOpenEffect h d).lc.otp = d.lc.otp ∧ SamePolicy (dgOpenEffect h d) d := by
  unfold dgOpenEffect; apply digestCommand_kept; intros; simp

@[simp] theorem startFeed_wf (h : Hart) (x : Context) (isPrefix : Bool) (d : Device) :
    (Memory.wf d.mem = true → Memory.wf (startFeed h x isPrefix d).2.2.mem = true) ∧ (startFeed h x isPrefix d).2.2.lc.otp = d.lc.otp ∧ SamePolicy (startFeed h x isPrefix d).2.2 d := by
  unfold startFeed; refine ⟨fun hm => ?_, ?_⟩ <;> (try dsimp only) <;> (repeat' split) <;> simp (maxDischargeDepth := 30) [*]

@[simp] theorem dgPrefixEffect_wf (h : Hart) (c : Ctx) (d : Device) :
    (Memory.wf d.mem = true → Memory.wf (dgPrefixEffect h c d).mem = true) ∧ (dgPrefixEffect h c d).lc.otp = d.lc.otp ∧ SamePolicy (dgPrefixEffect h c d) d := by
  unfold dgPrefixEffect; apply digestCommand_wf; intro e; apply onContext_wf; intro x e1
  refine ⟨fun hm => ?_, ?_⟩ <;> split <;> simp [*]

@[simp] theorem truncated_kept (x : Context) (d : Device) :
    (truncated x d).mem = d.mem ∧ (truncated x d).lc.otp = d.lc.otp ∧ SamePolicy (truncated x d) d := by simp [truncated]

@[simp] theorem dgFeedEffect_wf (h : Hart) (c : Ctx) (d : Device) :
    (Memory.wf d.mem = true → Memory.wf (dgFeedEffect h c d).mem = true) ∧ (dgFeedEffect h c d).lc.otp = d.lc.otp ∧ SamePolicy (dgFeedEffect h c d) d := by
  unfold dgFeedEffect; apply digestCommand_wf; intro e; apply onContext_wf; intro x e1
  refine ⟨fun hm => ?_, ?_⟩ <;> (repeat' split) <;> simp [*]

@[simp] theorem feedEnds_kept (h : Hart) (j : DgJob) (d : Device) :
    (feedEnds h j d).mem = d.mem ∧ (feedEnds h j d).lc.otp = d.lc.otp ∧ SamePolicy (feedEnds h j d) d := by
  unfold feedEnds; (repeat' split) <;> simp

@[simp] theorem dgFeedCompleteEffect_kept (h : Hart) (d : Device) :
    (dgFeedCompleteEffect h d).mem = d.mem ∧ (dgFeedCompleteEffect h d).lc.otp = d.lc.otp ∧ SamePolicy (dgFeedCompleteEffect h d) d := by
  unfold dgFeedCompleteEffect; (repeat' split) <;> simp

@[simp] theorem beginContext_kept (x : Context) (d : Device) :
    (beginContext x d).mem = d.mem ∧ (beginContext x d).lc.otp = d.lc.otp ∧ SamePolicy (beginContext x d) d := by simp [beginContext]

@[simp] theorem dgBeginEffect_kept (h : Hart) (c : Ctx) (d : Device) :
    (dgBeginEffect h c d).mem = d.mem ∧ (dgBeginEffect h c d).lc.otp = d.lc.otp ∧ SamePolicy (dgBeginEffect h c d) d := by
  unfold dgBeginEffect; apply digestCommand_kept; intro e; apply onContext_kept; intro x e1; (repeat' split) <;> simp

@[simp] theorem bindTap_kept (x : Context) (f start : Nat) (d : Device) :
    (bindTap x f start d).mem = d.mem ∧ (bindTap x f start d).lc.otp = d.lc.otp ∧ SamePolicy (bindTap x f start d) d := by simp [bindTap]

@[simp] theorem dgBindEffect_kept (h : Hart) (c : Ctx) (d : Device) :
    (dgBindEffect h c d).mem = d.mem ∧ (dgBindEffect h c d).lc.otp = d.lc.otp ∧ SamePolicy (dgBindEffect h c d) d := by
  unfold dgBindEffect; apply digestCommand_kept; intro e
  split
  · simp
  · apply onContext_kept; intro x e1; dsimp only; (repeat' split) <;> simp

@[simp] theorem dgCloseEffect_kept (h : Hart) (c : Ctx) (d : Device) :
    (dgCloseEffect h c d).mem = d.mem ∧ (dgCloseEffect h c d).lc.otp = d.lc.otp ∧ SamePolicy (dgCloseEffect h c d) d := by
  unfold dgCloseEffect; apply digestCommand_kept; intro e; apply onContext_kept; intro x e1; (repeat' split) <;> simp

@[simp] theorem dgFreeEffect_kept (h : Hart) (c : Ctx) (d : Device) :
    (dgFreeEffect h c d).mem = d.mem ∧ (dgFreeEffect h c d).lc.otp = d.lc.otp ∧ SamePolicy (dgFreeEffect h c d) d := by
  unfold dgFreeEffect; apply digestCommand_kept; intros
  apply onContext_kept; intros
  split <;> simp [dgRefuse]

@[simp] theorem armFrom_wf (h : Hart) (x : Context) (d : Device) :
    (Memory.wf d.mem = true → Memory.wf (armFrom h x d).2.2.mem = true) ∧ (armFrom h x d).2.2.lc.otp = d.lc.otp ∧ SamePolicy (armFrom h x d).2.2 d := by
  unfold armFrom; refine ⟨fun hm => ?_, ?_⟩ <;> (try dsimp only) <;> (repeat' split) <;> simp (maxDischargeDepth := 30) [*]

@[simp] theorem dgCmpArmEffect_wf (h : Hart) (c : Ctx) (d : Device) :
    (Memory.wf d.mem = true → Memory.wf (dgCmpArmEffect h c d).mem = true) ∧ (dgCmpArmEffect h c d).lc.otp = d.lc.otp ∧ SamePolicy (dgCmpArmEffect h c d) d := by
  refine ⟨fun h => ?_, ?_⟩ <;> simp (maxDischargeDepth := 30) +contextual [dgCmpArmEffect, *]

@[simp] theorem dgCmpFreeEffect_kept (h : Hart) (e : Nat) (d : Device) :
    (dgCmpFreeEffect h e d).mem = d.mem ∧ (dgCmpFreeEffect h e d).lc.otp = d.lc.otp ∧ SamePolicy (dgCmpFreeEffect h e d) d := by
  unfold dgCmpFreeEffect; apply digestCommand_kept; intros; (repeat' split) <;> simp

@[simp] theorem dgUndefinedCommandEffect_kept (h : Hart) (code : Nat) (d : Device) :
    (dgUndefinedCommandEffect h code d).mem = d.mem ∧ (dgUndefinedCommandEffect h code d).lc.otp = d.lc.otp ∧ SamePolicy (dgUndefinedCommandEffect h code d) d := by
  unfold dgUndefinedCommandEffect; apply digestCommand_kept; intros; simp

@[simp] theorem tapBurstEffect_kept (c : Ctx) (offset : Nat) (data : List Byte) (d : Device) :
    (tapBurstEffect c offset data d).mem = d.mem ∧ (tapBurstEffect c offset data d).lc.otp = d.lc.otp ∧ SamePolicy (tapBurstEffect c offset data d) d := by
  unfold tapBurstEffect; (repeat' split) <;> simp

@[simp] theorem contextFault_kept (cause : Nat) (l : Lane) (c : Nat) (d : Device) :
    (contextFault cause l c d).mem = d.mem ∧ (contextFault cause l c d).lc.otp = d.lc.otp ∧ SamePolicy (contextFault cause l c d) d := by
  unfold contextFault; (repeat' split) <;> simp

@[simp] theorem injectContext_kept (l : Lane) (d : Device) :
    (injectContext l d).mem = d.mem ∧ (injectContext l d).lc.otp = d.lc.otp ∧ SamePolicy (injectContext l d) d := by
  unfold injectContext; dsimp only; (repeat' split) <;> simp

@[simp] theorem laneBlockAbsorbedEffect_kept (l : Lane) (d : Device) :
    (laneBlockAbsorbedEffect l d).mem = d.mem ∧ (laneBlockAbsorbedEffect l d).lc.otp = d.lc.otp ∧ SamePolicy (laneBlockAbsorbedEffect l d) d := by
  simp [laneBlockAbsorbedEffect]

@[simp] theorem contextSqueezeDoneEffect_kept (c : Ctx) (d : Device) :
    (contextSqueezeDoneEffect c d).mem = d.mem ∧ (contextSqueezeDoneEffect c d).lc.otp = d.lc.otp ∧ SamePolicy (contextSqueezeDoneEffect c d) d := by
  unfold contextSqueezeDoneEffect; (repeat' split) <;> simp

@[simp] theorem laneFaultEffect_kept (l : Lane) (c : Ctx) (ecc : Bool) (d : Device) :
    (laneFaultEffect l c ecc d).mem = d.mem ∧ (laneFaultEffect l c ecc d).lc.otp = d.lc.otp ∧ SamePolicy (laneFaultEffect l c ecc d) d := by
  simp [laneFaultEffect]

@[simp] theorem laneSelfTestDoneEffect_kept (l : Lane) (passed : Bool) (d : Device) :
    (laneSelfTestDoneEffect l passed d).mem = d.mem ∧ (laneSelfTestDoneEffect l passed d).lc.otp = d.lc.otp ∧ SamePolicy (laneSelfTestDoneEffect l passed d) d := by
  simp [laneSelfTestDoneEffect]

@[simp] theorem digestRestart_kept (d : Device) :
    (digestRestart d).mem = d.mem ∧ (digestRestart d).lc.otp = d.lc.otp ∧ SamePolicy (digestRestart d) d := by simp [digestRestart]

@[simp] theorem freeRestart_kept (e : ErrRec) (d : Device) :
    (freeRestart e d).mem = d.mem ∧ (freeRestart e d).lc.otp = d.lc.otp ∧ SamePolicy (freeRestart e d) d := by simp [freeRestart]

@[simp] theorem digestEngineRestartDoneEffect_kept (d : Device) :
    (digestEngineRestartDoneEffect d).mem = d.mem ∧ (digestEngineRestartDoneEffect d).lc.otp = d.lc.otp ∧ SamePolicy (digestEngineRestartDoneEffect d) d := by
  unfold digestEngineRestartDoneEffect; (repeat' split) <;> simp

@[simp] theorem modSg_kept (f : SigEngine → SigEngine) (d : Device) :
    (modSg f d).mem = d.mem ∧ (modSg f d).lc.otp = d.lc.otp ∧ SamePolicy (modSg f d) d := by simp [modSg]

@[simp] theorem sgLift_kept (r : SigEngine × List (Nat × Nat × List Nat)) (d : Device) :
    (sgLift r d).mem = d.mem ∧ (sgLift r d).lc.otp = d.lc.otp ∧ SamePolicy (sgLift r d) d := by simp [sgLift]

@[simp] theorem acceptJob_kept (j : SgJob) (d : Device) :
    (acceptJob j d).mem = d.mem ∧ (acceptJob j d).lc.otp = d.lc.otp ∧ SamePolicy (acceptJob j d) d := by simp [acceptJob]

@[simp] theorem noteSigning_kept (h : Hart) (j : SgJob) (d : Device) :
    (noteSigning h j d).mem = d.mem ∧ (noteSigning h j d).lc.otp = d.lc.otp ∧ SamePolicy (noteSigning h j d) d := by simp [noteSigning]

@[simp] theorem sgSubmitEffect_wf (h : Hart) (v : Word) (d : Device) :
    (Memory.wf d.mem = true → Memory.wf (sgSubmitEffect h v d).mem = true) ∧ (sgSubmitEffect h v d).lc.otp = d.lc.otp ∧ SamePolicy (sgSubmitEffect h v d) d := by
  unfold sgSubmitEffect; apply hartWrite_wf; intros; refine ⟨fun h => ?_, ?_⟩ <;> simp (maxDischargeDepth := 30) [*]

@[simp] theorem writeOutput_wf (j : SgJob) (out : List Byte) (d : Device) :
    (Memory.wf d.mem = true → Memory.wf (writeOutput j out d).mem = true) ∧ (writeOutput j out d).lc.otp = d.lc.otp ∧ SamePolicy (writeOutput j out d) d := by
  refine ⟨fun h => ?_, ?_⟩ <;> simp (maxDischargeDepth := 30) [writeOutput, *]

@[simp] theorem jobErrors_wf (j : SgJob) (d : Device) :
    (Memory.wf d.mem = true → Memory.wf (jobErrors j d).mem = true) ∧ (jobErrors j d).lc.otp = d.lc.otp ∧ SamePolicy (jobErrors j d) d := by
  refine ⟨fun h => ?_, ?_⟩ <;> simp (maxDischargeDepth := 30) [jobErrors, *]

@[simp] theorem endJob_wf (u : Unit3) (j : SgJob) (fault : Nat) (d : Device) :
    (Memory.wf d.mem = true → Memory.wf (endJob u j fault d).mem = true) ∧ (endJob u j fault d).lc.otp = d.lc.otp ∧ SamePolicy (endJob u j fault d) d := by
  refine ⟨fun h => ?_, ?_⟩ <;> simp (maxDischargeDepth := 30) [endJob, *]

@[simp] theorem sgJobCompleteEffect_wf (u : Unit3) (fault : Nat) (d : Device) :
    (Memory.wf d.mem = true → Memory.wf (sgJobCompleteEffect u fault d).mem = true) ∧ (sgJobCompleteEffect u fault d).lc.otp = d.lc.otp ∧ SamePolicy (sgJobCompleteEffect u fault d) d := by
  refine ⟨fun h => ?_, ?_⟩ <;> (unfold sgJobCompleteEffect; (repeat' split) <;> simp (maxDischargeDepth := 30) [*])

@[simp] theorem sheetSigned_kept (r : SgResult) (d : Device) :
    (sheetSigned r d).mem = d.mem ∧ (sheetSigned r d).lc.otp = d.lc.otp ∧ SamePolicy (sheetSigned r d) d := by
  unfold sheetSigned; (repeat' split) <;> simp

@[simp] theorem sgResultPopEffect_kept (h : Hart) (d : Device) :
    (sgResultPopEffect h d).mem = d.mem ∧ (sgResultPopEffect h d).lc.otp = d.lc.otp ∧ SamePolicy (sgResultPopEffect h d) d := by
  unfold sgResultPopEffect; (repeat' split) <;> simp

@[simp] theorem sgUnitFaultEffect_kept (u : Unit3) (d : Device) :
    (sgUnitFaultEffect u d).mem = d.mem ∧ (sgUnitFaultEffect u d).lc.otp = d.lc.otp ∧ SamePolicy (sgUnitFaultEffect u d) d := by
  simp [sgUnitFaultEffect]

@[simp] theorem sgUnitSelfTestDoneEffect_kept (u : Unit3) (passed : Bool) (d : Device) :
    (sgUnitSelfTestDoneEffect u passed d).mem = d.mem ∧ (sgUnitSelfTestDoneEffect u passed d).lc.otp = d.lc.otp ∧ SamePolicy (sgUnitSelfTestDoneEffect u passed d) d := by
  simp [sgUnitSelfTestDoneEffect]

@[simp] theorem signatureRestart_kept (d : Device) :
    (signatureRestart d).mem = d.mem ∧ (signatureRestart d).lc.otp = d.lc.otp ∧ SamePolicy (signatureRestart d) d := by
  simp [signatureRestart]

@[simp] theorem sgEngineRestartDoneEffect_kept (d : Device) :
    (sgEngineRestartDoneEffect d).mem = d.mem ∧ (sgEngineRestartDoneEffect d).lc.otp = d.lc.otp ∧ SamePolicy (sgEngineRestartDoneEffect d) d := by
  unfold sgEngineRestartDoneEffect; (repeat' split) <;> simp

@[simp] theorem modKv_kept (f : KeyVault → KeyVault) (d : Device) :
    (modKv f d).mem = d.mem ∧ (modKv f d).lc.otp = d.lc.otp ∧ SamePolicy (modKv f d) d := by simp [modKv]

@[simp] theorem kvResult_kept (h : Hart) (cmd outcome : Nat) (busy : Bool) (d : Device) :
    (kvResult h cmd outcome busy d).mem = d.mem ∧ (kvResult h cmd outcome busy d).lc.otp = d.lc.otp ∧ SamePolicy (kvResult h cmd outcome busy d) d := by
  simp [kvResult]

@[simp] theorem vaultCommand_kept (h : Hart) (cmd : Nat) (outcome : Device → Nat) (f : Device → Device) (d : Device) (hf : ∀ e, (f e).mem = e.mem ∧ (f e).lc.otp = e.lc.otp ∧ SamePolicy (f e) e) :
    (vaultCommand h cmd outcome f d).mem = d.mem ∧ (vaultCommand h cmd outcome f d).lc.otp = d.lc.otp ∧ SamePolicy (vaultCommand h cmd outcome f d) d := by
  unfold vaultCommand; apply hartWrite_kept; intro e; (try dsimp only); (repeat' split) <;> simp [hf]

@[simp] theorem vaultCommand_wf (h : Hart) (cmd : Nat) (outcome : Device → Nat) (f : Device → Device) (d : Device) (hf : ∀ e, (Memory.wf e.mem = true → Memory.wf (f e).mem = true) ∧ (f e).lc.otp = e.lc.otp ∧ SamePolicy (f e) e) :
    (Memory.wf d.mem = true → Memory.wf (vaultCommand h cmd outcome f d).mem = true) ∧ (vaultCommand h cmd outcome f d).lc.otp = d.lc.otp ∧ SamePolicy (vaultCommand h cmd outcome f d) d := by
  unfold vaultCommand; apply hartWrite_wf; intro e; (try dsimp only); refine ⟨fun h => ?_, ?_⟩ <;> (repeat' split) <;> simp (maxDischargeDepth := 30) [*]

@[simp] theorem modSlotKv_kept (k : KvSlot) (f : VaultSlot → VaultSlot) (d : Device) :
    (modSlotKv k f d).mem = d.mem ∧ (modSlotKv k f d).lc.otp = d.lc.otp ∧ SamePolicy (modSlotKv k f d) d := by
  unfold modSlotKv; (repeat' split) <;> simp

@[simp] theorem unwritten_kept (d : Device) :
    (unwritten d).mem = d.mem ∧ (unwritten d).lc.otp = d.lc.otp ∧ SamePolicy (unwritten d) d := by simp [unwritten]

@[simp] theorem kvReserveEffect_kept (h : Hart) (k : KvSlot) (d : Device) :
    (kvReserveEffect h k d).mem = d.mem ∧ (kvReserveEffect h k d).lc.otp = d.lc.otp ∧ SamePolicy (kvReserveEffect h k d) d := by
  unfold kvReserveEffect; apply vaultCommand_kept; intros; simp

@[simp] theorem kvClearEffect_kept (h : Hart) (k : KvSlot) (d : Device) :
    (kvClearEffect h k d).mem = d.mem ∧ (kvClearEffect h k d).lc.otp = d.lc.otp ∧ SamePolicy (kvClearEffect h k d) d := by
  unfold kvClearEffect; apply vaultCommand_kept; intros; simp

@[simp] theorem kvRandomEffect_kept (h : Hart) (k : KvSlot) (d : Device) :
    (kvRandomEffect h k d).mem = d.mem ∧ (kvRandomEffect h k d).lc.otp = d.lc.otp ∧ SamePolicy (kvRandomEffect h k d) d := by
  unfold kvRandomEffect; apply vaultCommand_kept; intros; simp

@[simp] theorem kvRootDeriveEffect_kept (h : Hart) (k : KvSlot) (d : Device) :
    (kvRootDeriveEffect h k d).mem = d.mem ∧ (kvRootDeriveEffect h k d).lc.otp = d.lc.otp ∧ SamePolicy (kvRootDeriveEffect h k d) d := by
  unfold kvRootDeriveEffect; apply vaultCommand_kept; intros; (try dsimp only); (repeat' split) <;> simp

@[simp] theorem kvLadderDeriveEffect_kept (h : Hart) (k : KvSlot) (d : Device) :
    (kvLadderDeriveEffect h k d).mem = d.mem ∧ (kvLadderDeriveEffect h k d).lc.otp = d.lc.otp ∧ SamePolicy (kvLadderDeriveEffect h k d) d := by
  unfold kvLadderDeriveEffect; apply vaultCommand_kept; intros; simp

@[simp] theorem kvTransferEffect_kept (h : Hart) (k : KvSlot) (d : Device) :
    (kvTransferEffect h k d).mem = d.mem ∧ (kvTransferEffect h k d).lc.otp = d.lc.otp ∧ SamePolicy (kvTransferEffect h k d) d := by
  unfold kvTransferEffect; apply vaultCommand_kept; intros; simp

@[simp] theorem kvRestrictEffect_kept (h : Hart) (k : KvSlot) (d : Device) :
    (kvRestrictEffect h k d).mem = d.mem ∧ (kvRestrictEffect h k d).lc.otp = d.lc.otp ∧ SamePolicy (kvRestrictEffect h k d) d := by
  unfold kvRestrictEffect; apply vaultCommand_kept; intros; simp

@[simp] theorem kvStageInstallEffect_kept (h : Hart) (k : KvSlot) (d : Device) :
    (kvStageInstallEffect h k d).mem = d.mem ∧ (kvStageInstallEffect h k d).lc.otp = d.lc.otp ∧ SamePolicy (kvStageInstallEffect h k d) d := by
  unfold kvStageInstallEffect; apply vaultCommand_kept; intros; simp

@[simp] theorem kvStageRetireEffect_kept (h : Hart) (k : KvSlot) (d : Device) :
    (kvStageRetireEffect h k d).mem = d.mem ∧ (kvStageRetireEffect h k d).lc.otp = d.lc.otp ∧ SamePolicy (kvStageRetireEffect h k d) d := by
  unfold kvStageRetireEffect; apply vaultCommand_kept; intros; simp

@[simp] theorem stageRoot_kept (d : Device) :
    (stageRoot d).mem = d.mem ∧ (stageRoot d).lc.otp = d.lc.otp ∧ SamePolicy (stageRoot d) d := by simp [stageRoot]

@[simp] theorem kvStageRootEffect_kept (h : Hart) (d : Device) :
    (kvStageRootEffect h d).mem = d.mem ∧ (kvStageRootEffect h d).lc.otp = d.lc.otp ∧ SamePolicy (kvStageRootEffect h d) d := by
  unfold kvStageRootEffect; apply vaultCommand_kept; intros; simp

@[simp] theorem stageWrite_wf (d : Device) :
    (Memory.wf d.mem = true → Memory.wf (stageWrite d).mem = true) ∧ (stageWrite d).lc.otp = d.lc.otp ∧ SamePolicy (stageWrite d) d := by
  refine ⟨fun h => ?_, ?_⟩ <;> simp (maxDischargeDepth := 30) [stageWrite, *]

@[simp] theorem kvStageWriteEffect_wf (h : Hart) (d : Device) :
    (Memory.wf d.mem = true → Memory.wf (kvStageWriteEffect h d).mem = true) ∧ (kvStageWriteEffect h d).lc.otp = d.lc.otp ∧ SamePolicy (kvStageWriteEffect h d) d := by
  unfold kvStageWriteEffect; apply vaultCommand_wf; intros; refine ⟨fun h => ?_, ?_⟩ <;> simp (maxDischargeDepth := 30) [*]

@[simp] theorem stageDrop_wf (d : Device) :
    (Memory.wf d.mem = true → Memory.wf (stageDrop d).mem = true) ∧ (stageDrop d).lc.otp = d.lc.otp ∧ SamePolicy (stageDrop d) d := by
  refine ⟨fun h => ?_, ?_⟩ <;> simp (maxDischargeDepth := 30) [stageDrop, *]

@[simp] theorem kvStageDropEffect_wf (h : Hart) (d : Device) :
    (Memory.wf d.mem = true → Memory.wf (kvStageDropEffect h d).mem = true) ∧ (kvStageDropEffect h d).lc.otp = d.lc.otp ∧ SamePolicy (kvStageDropEffect h d) d := by
  unfold kvStageDropEffect; apply vaultCommand_wf; intros; refine ⟨fun h => ?_, ?_⟩ <;> simp (maxDischargeDepth := 30) [*]

@[simp] theorem kvCommitInitialEffect_wf (h : Hart) (d : Device) :
    (Memory.wf d.mem = true → Memory.wf (kvCommitInitialEffect h d).mem = true) ∧ (kvCommitInitialEffect h d).lc.otp = d.lc.otp ∧ SamePolicy (kvCommitInitialEffect h d) d := by
  unfold kvCommitInitialEffect; apply vaultCommand_wf; intros; refine ⟨fun h => ?_, ?_⟩ <;> simp (maxDischargeDepth := 30) [*]

@[simp] theorem kvUndefinedCommandEffect_kept (h : Hart) (code : Nat) (d : Device) :
    (kvUndefinedCommandEffect h code d).mem = d.mem ∧ (kvUndefinedCommandEffect h code d).lc.otp = d.lc.otp ∧ SamePolicy (kvUndefinedCommandEffect h code d) d := by
  unfold kvUndefinedCommandEffect; apply vaultCommand_kept; intros; simp

@[simp] theorem kvCommandDoneEffect_kept (h : Hart) (d : Device) :
    (kvCommandDoneEffect h d).mem = d.mem ∧ (kvCommandDoneEffect h d).lc.otp = d.lc.otp ∧ SamePolicy (kvCommandDoneEffect h d) d := by
  simp [kvCommandDoneEffect]

@[simp] theorem tamperCouch_kept (d : Device) :
    (tamperCouch d).mem = d.mem ∧ (tamperCouch d).lc.otp = d.lc.otp ∧ SamePolicy (tamperCouch d) d := by simp [tamperCouch]

@[simp] theorem tamperAlarm_kept (n : Nat) (d : Device) :
    (tamperAlarm n d).mem = d.mem ∧ (tamperAlarm n d).lc.otp = d.lc.otp ∧ SamePolicy (tamperAlarm n d) d := by simp [tamperAlarm]

@[simp] theorem tamperAlarmEffect_kept (n : Sensor) (on : Bool) (d : Device) :
    (tamperAlarmEffect n on d).mem = d.mem ∧ (tamperAlarmEffect n on d).lc.otp = d.lc.otp ∧ SamePolicy (tamperAlarmEffect n on d) d := by
  simp [tamperAlarmEffect]

@[simp] theorem entropyHealthFailureEffect_kept (test : Nat) (d : Device) :
    (entropyHealthFailureEffect test d).mem = d.mem ∧ (entropyHealthFailureEffect test d).lc.otp = d.lc.otp ∧ SamePolicy (entropyHealthFailureEffect test d) d := by
  simp [entropyHealthFailureEffect]

@[simp] theorem entropyHealthRecoveryEffect_kept (d : Device) :
    (entropyHealthRecoveryEffect d).mem = d.mem ∧ (entropyHealthRecoveryEffect d).lc.otp = d.lc.otp ∧ SamePolicy (entropyHealthRecoveryEffect d) d := by
  simp [entropyHealthRecoveryEffect]

@[simp] theorem lgResult_kept (cmd outcome : Nat) (d : Device) :
    (lgResult cmd outcome d).mem = d.mem ∧ (lgResult cmd outcome d).lc.otp = d.lc.otp ∧ SamePolicy (lgResult cmd outcome d) d := by
  simp [lgResult]

@[simp] theorem sheetRefused_kept (b : List Byte) (outcome : Nat) (d : Device) :
    (sheetRefused b outcome d).mem = d.mem ∧ (sheetRefused b outcome d).lc.otp = d.lc.otp ∧ SamePolicy (sheetRefused b outcome d) d := by
  simp [sheetRefused]

@[simp] theorem acceptSheet_wf (b : List Byte) (p : Nat) (override : Bool) (d : Device) :
    (Memory.wf d.mem = true → Memory.wf (acceptSheet b p override d).mem = true) ∧ (acceptSheet b p override d).lc.otp = d.lc.otp ∧ SamePolicy (acceptSheet b p override d) d := by
  refine ⟨fun h => ?_, ?_⟩ <;> simp (maxDischargeDepth := 30) [acceptSheet, *]

@[simp] theorem submitSheet_wf (a : Nat) (d : Device) :
    (Memory.wf d.mem = true → Memory.wf (submitSheet a d).mem = true) ∧ (submitSheet a d).lc.otp = d.lc.otp ∧ SamePolicy (submitSheet a d) d := by
  refine ⟨fun h => ?_, ?_⟩ <;> (unfold submitSheet; (try dsimp only); (repeat' split) <;> simp (maxDischargeDepth := 30) [*])

@[simp] theorem lgCommand_kept (h : Hart) (addr cmd : Nat) (f : Device → Device) (d : Device) (hf : ∀ e, (f e).mem = e.mem ∧ (f e).lc.otp = e.lc.otp ∧ SamePolicy (f e) e) :
    (lgCommand h addr cmd f d).mem = d.mem ∧ (lgCommand h addr cmd f d).lc.otp = d.lc.otp ∧ SamePolicy (lgCommand h addr cmd f d) d := by
  unfold lgCommand; apply hartWrite_kept; intro e; (repeat' split) <;> simp [hf]

@[simp] theorem lgCommand_wf (h : Hart) (addr cmd : Nat) (f : Device → Device) (d : Device) (hf : ∀ e, (Memory.wf e.mem = true → Memory.wf (f e).mem = true) ∧ (f e).lc.otp = e.lc.otp ∧ SamePolicy (f e) e) :
    (Memory.wf d.mem = true → Memory.wf (lgCommand h addr cmd f d).mem = true) ∧ (lgCommand h addr cmd f d).lc.otp = d.lc.otp ∧ SamePolicy (lgCommand h addr cmd f d) d := by
  unfold lgCommand; apply hartWrite_wf; intro e; refine ⟨fun h => ?_, ?_⟩ <;> (repeat' split) <;> simp (maxDischargeDepth := 30) [*]

@[simp] theorem lgSubmitEffect_wf (h : Hart) (v : Word) (d : Device) :
    (Memory.wf d.mem = true → Memory.wf (lgSubmitEffect h v d).mem = true) ∧ (lgSubmitEffect h v d).lc.otp = d.lc.otp ∧ SamePolicy (lgSubmitEffect h v d) d := by
  unfold lgSubmitEffect; apply lgCommand_wf; intros; refine ⟨fun h => ?_, ?_⟩ <;> simp (maxDischargeDepth := 30) [*]

@[simp] theorem sheetDone_wf (p : Nat) (b : List Byte) (prior : Option (Nat × Nat)) (d : Device) :
    (Memory.wf d.mem = true → Memory.wf (sheetDone p b prior d).mem = true) ∧ (sheetDone p b prior d).lc.otp = d.lc.otp ∧ SamePolicy (sheetDone p b prior d) d := by
  refine ⟨fun h => ?_, ?_⟩ <;> (unfold sheetDone; (try dsimp only); (repeat' split) <;> simp (maxDischargeDepth := 30) [*])

@[simp] theorem sheetFailed_wf (p : Nat) (b : List Byte) (prior : Option (Nat × Nat)) (prevNext : Nat) (prevDig : List Byte)
    (prevLog prevTamper : Bool) (d : Device) :
    (Memory.wf d.mem = true → Memory.wf (sheetFailed p b prior prevNext prevDig prevLog prevTamper d).mem = true) ∧ (sheetFailed p b prior prevNext prevDig prevLog prevTamper d).lc.otp = d.lc.otp ∧ SamePolicy (sheetFailed p b prior prevNext prevDig prevLog prevTamper d) d := by
  unfold sheetFailed; refine ⟨fun hm => ?_, ?_⟩ <;> dsimp only <;> split <;> simp [*]

@[simp] theorem sheetStoredEffect_wf (ok : Bool) (d : Device) :
    (Memory.wf d.mem = true → Memory.wf (sheetStoredEffect ok d).mem = true) ∧ (sheetStoredEffect ok d).lc.otp = d.lc.otp ∧ SamePolicy (sheetStoredEffect ok d) d := by
  refine ⟨fun h => ?_, ?_⟩ <;> (unfold sheetStoredEffect; (repeat' split) <;> simp (maxDischargeDepth := 30) [*])

@[simp] theorem hartAck_kept (a n : Nat) (g : List Byte) (d : Device) :
    (hartAck a n g d).mem = d.mem ∧ (hartAck a n g d).lc.otp = d.lc.otp ∧ SamePolicy (hartAck a n g d) d := by simp [hartAck]

@[simp] theorem lgAckEffect_kept (h : Hart) (v : Word) (d : Device) :
    (lgAckEffect h v d).mem = d.mem ∧ (lgAckEffect h v d).lc.otp = d.lc.otp ∧ SamePolicy (lgAckEffect h v d) d := by
  unfold lgAckEffect; apply lgCommand_kept; intros; simp

@[simp] theorem hostPageAckEffect_kept (ld : Ld) (v : Word) (d : Device) :
    (hostPageAckEffect ld v d).mem = d.mem ∧ (hostPageAckEffect ld v d).lc.otp = d.lc.otp ∧ SamePolicy (hostPageAckEffect ld v d) d := by
  simp [hostPageAckEffect]

@[simp] theorem ackOutcome_kept (a outcome : Nat) (d : Device) :
    (ackOutcome a outcome d).mem = d.mem ∧ (ackOutcome a outcome d).lc.otp = d.lc.otp ∧ SamePolicy (ackOutcome a outcome d) d := by
  simp [ackOutcome]

@[simp] theorem serveAck_wf (a n : Nat) (g : List Byte) (d : Device) :
    (Memory.wf d.mem = true → Memory.wf (serveAck a n g d).mem = true) ∧ (serveAck a n g d).lc.otp = d.lc.otp ∧ SamePolicy (serveAck a n g d) d := by
  refine ⟨fun h => ?_, ?_⟩ <;> simp (maxDischargeDepth := 30) [serveAck, *]

@[simp] theorem ackServedEffect_wf (d : Device) :
    (Memory.wf d.mem = true → Memory.wf (ackServedEffect d).mem = true) ∧ (ackServedEffect d).lc.otp = d.lc.otp ∧ SamePolicy (ackServedEffect d) d := by
  refine ⟨fun h => ?_, ?_⟩ <;> (unfold ackServedEffect; (repeat' split) <;> simp (maxDischargeDepth := 30) [*])

@[simp] theorem ovrUptoWriteEffect_kept (h : Hart) (v : Word) (d : Device) :
    (ovrUptoWriteEffect h v d).mem = d.mem ∧ (ovrUptoWriteEffect h v d).lc.otp = d.lc.otp ∧ SamePolicy (ovrUptoWriteEffect h v d) d := by
  unfold ovrUptoWriteEffect; apply lgCommand_kept; intros; simp

@[simp] theorem reamRecoveredEffect_kept (readable : Bool) (d : Device) :
    (reamRecoveredEffect readable d).mem = d.mem ∧ (reamRecoveredEffect readable d).lc.otp = d.lc.otp ∧ SamePolicy (reamRecoveredEffect readable d) d := by
  unfold reamRecoveredEffect; dsimp only; (repeat' split) <;> simp

@[simp] theorem modEv_kept (f : Recorder → Recorder) (d : Device) :
    (modEv f d).mem = d.mem ∧ (modEv f d).lc.otp = d.lc.otp ∧ SamePolicy (modEv f d) d := by simp [modEv]

@[simp] theorem eventArrivalEffect_kept (code sev aid : Nat) (params : List Nat) (d : Device) :
    (eventArrivalEffect code sev aid params d).mem = d.mem ∧ (eventArrivalEffect code sev aid params d).lc.otp = d.lc.otp ∧ SamePolicy (eventArrivalEffect code sev aid params d) d := by
  simp [eventArrivalEffect]

@[simp] theorem evPostEffect_kept (h : Hart) (v : Word) (d : Device) :
    (evPostEffect h v d).mem = d.mem ∧ (evPostEffect h v d).lc.otp = d.lc.otp ∧ SamePolicy (evPostEffect h v d) d := by
  unfold evPostEffect; apply hartWrite_kept; intros; simp

@[simp] theorem logWritten_mem (p : Memory × Recorder) (d : Device) : (logWritten p d).mem = p.1 := rfl

@[simp] theorem logWritten_rest (p : Memory × Recorder) (d : Device) :
    (logWritten p d).lc.otp = d.lc.otp ∧ SamePolicy (logWritten p d) d := ⟨rfl, rfl, rfl, rfl, rfl⟩

@[simp] theorem afterWrite_kept (d : Device) :
    (afterWrite d).mem = d.mem ∧ (afterWrite d).lc.otp = d.lc.otp ∧ SamePolicy (afterWrite d) d := by simp [afterWrite]

@[simp] theorem recordWriteDoneEffect_wf (ok : Bool) (d : Device) :
    (Memory.wf d.mem = true → Memory.wf (recordWriteDoneEffect ok d).mem = true) ∧ (recordWriteDoneEffect ok d).lc.otp = d.lc.otp ∧ SamePolicy (recordWriteDoneEffect ok d) d := by
  refine ⟨fun h => ?_, ?_⟩ <;> simp (maxDischargeDepth := 30) [recordWriteDoneEffect, *]

@[simp] theorem startClear_kept (aid outcome : Nat) (d : Device) :
    (startClear aid outcome d).mem = d.mem ∧ (startClear aid outcome d).lc.otp = d.lc.otp ∧ SamePolicy (startClear aid outcome d) d := by
  simp [startClear]

@[simp] theorem hostEventClearEffect_kept (ld : Ld) (v : Word) (d : Device) :
    (hostEventClearEffect ld v d).mem = d.mem ∧ (hostEventClearEffect ld v d).lc.otp = d.lc.otp ∧ SamePolicy (hostEventClearEffect ld v d) d := by
  simp [hostEventClearEffect]

@[simp] theorem hartClear_kept (aid s : Nat) (d : Device) :
    (hartClear aid s d).mem = d.mem ∧ (hartClear aid s d).lc.otp = d.lc.otp ∧ SamePolicy (hartClear aid s d) d := by simp [hartClear]

@[simp] theorem evClearEffect_kept (h : Hart) (v : Word) (d : Device) :
    (evClearEffect h v d).mem = d.mem ∧ (evClearEffect h v d).lc.otp = d.lc.otp ∧ SamePolicy (evClearEffect h v d) d := by
  unfold evClearEffect; apply onlyHart_kept; intros; simp

@[simp] theorem eventLogClearDoneEffect_wf (d : Device) :
    (Memory.wf d.mem = true → Memory.wf (eventLogClearDoneEffect d).mem = true) ∧ (eventLogClearDoneEffect d).lc.otp = d.lc.otp ∧ SamePolicy (eventLogClearDoneEffect d) d := by
  refine ⟨fun h => ?_, ?_⟩ <;> (unfold eventLogClearDoneEffect; (repeat' split) <;> simp (maxDischargeDepth := 30) [*])

@[simp] theorem recorderRecoveredEffect_wf (d : Device) :
    (Memory.wf d.mem = true → Memory.wf (recorderRecoveredEffect d).mem = true) ∧ (recorderRecoveredEffect d).lc.otp = d.lc.otp ∧ SamePolicy (recorderRecoveredEffect d) d := by
  refine ⟨fun h => ?_, ?_⟩ <;> simp (maxDischargeDepth := 30) [recorderRecoveredEffect, *]

end Sys2Proof.Machine
end

