-- ==== Sys2Proof/Laws/KeptCxl.lean ====
section
/-! SUPPORT. What the CXL port, Fjarlin messages, attestation do to memory and to OTP: `f_kept`, both unchanged, and the policy in force too;
`f_wf`, memory keeps its canonical form, OTP (and, where nothing commits, the policy in force) is unchanged. -/

namespace Sys2Proof.Machine

open Sys2Proof

@[simp] theorem modCx_kept (f : CxlPort → CxlPort) (d : Device) :
    (modCx f d).mem = d.mem ∧ (modCx f d).lc.otp = d.lc.otp ∧ SamePolicy (modCx f d) d := by simp [modCx]

@[simp] theorem endStaging_kept (ld outcome check : Nat) (d : Device) :
    (endStaging ld outcome check d).mem = d.mem ∧ (endStaging ld outcome check d).lc.otp = d.lc.otp ∧ SamePolicy (endStaging ld outcome check d) d := by
  unfold endStaging; (repeat' split) <;> simp

@[simp] theorem stagingCoreReset_kept (d : Device) :
    (stagingCoreReset d).mem = d.mem ∧ (stagingCoreReset d).lc.otp = d.lc.otp ∧ SamePolicy (stagingCoreReset d) d := by
  unfold stagingCoreReset; apply foldl_kept; intro acc x; (repeat' split) <;> simp

@[simp] theorem resetConnections_kept (which : SpdmConn → Bool) (cause : Nat) (d : Device) :
    (resetConnections which cause d).mem = d.mem ∧ (resetConnections which cause d).lc.otp = d.lc.otp ∧ SamePolicy (resetConnections which cause d) d := by
  simp [resetConnections]

@[simp] theorem dropAcks_kept (ld : Nat) (d : Device) :
    (dropAcks ld d).mem = d.mem ∧ (dropAcks ld d).lc.otp = d.lc.otp ∧ SamePolicy (dropAcks ld d) d := by simp [dropAcks]

@[simp] theorem ldReset_kept (ld cause : Nat) (d : Device) :
    (ldReset ld cause d).mem = d.mem ∧ (ldReset ld cause d).lc.otp = d.lc.otp ∧ SamePolicy (ldReset ld cause d) d := by simp [ldReset]

@[simp] theorem conventionalReset_kept (cause : Nat) (retrain : Bool) (d : Device) :
    (conventionalReset cause retrain d).mem = d.mem ∧ (conventionalReset cause retrain d).lc.otp = d.lc.otp ∧ SamePolicy (conventionalReset cause retrain d) d := by
  simp [conventionalReset]

@[simp] theorem cxPerstAssertEffect_kept (d : Device) :
    (cxPerstAssertEffect d).mem = d.mem ∧ (cxPerstAssertEffect d).lc.otp = d.lc.otp ∧ SamePolicy (cxPerstAssertEffect d) d := by
  simp [cxPerstAssertEffect]

@[simp] theorem linkHotResetEffect_kept (d : Device) :
    (linkHotResetEffect d).mem = d.mem ∧ (linkHotResetEffect d).lc.otp = d.lc.otp ∧ SamePolicy (linkHotResetEffect d) d := by
  simp [linkHotResetEffect]

@[simp] theorem linkSurpriseDownEffect_kept (d : Device) :
    (linkSurpriseDownEffect d).mem = d.mem ∧ (linkSurpriseDownEffect d).lc.otp = d.lc.otp ∧ SamePolicy (linkSurpriseDownEffect d) d := by
  simp [linkSurpriseDownEffect]

@[simp] theorem linkUpEffect_kept (rate width : Nat) (cxl : Bool) (w64 : Option Nat) (d : Device) :
    (linkUpEffect rate width cxl w64 d).mem = d.mem ∧ (linkUpEffect rate width cxl w64 d).lc.otp = d.lc.otp ∧ SamePolicy (linkUpEffect rate width cxl w64 d) d := by
  simp [linkUpEffect]

@[simp] theorem w64BlockReceivedEffect_kept (block : List Byte) (d : Device) :
    (w64BlockReceivedEffect block d).mem = d.mem ∧ (w64BlockReceivedEffect block d).lc.otp = d.lc.otp ∧ SamePolicy (w64BlockReceivedEffect block d) d := by
  unfold w64BlockReceivedEffect; (repeat' split) <;> simp

@[simp] theorem w64FallbackEffect_kept (discarded corrected : Nat) (d : Device) :
    (w64FallbackEffect discarded corrected d).mem = d.mem ∧ (w64FallbackEffect discarded corrected d).lc.otp = d.lc.otp ∧ SamePolicy (w64FallbackEffect discarded corrected d) d := by
  simp [w64FallbackEffect]

@[simp] theorem functionLevelResetEffect_kept (ld : Ld) (d : Device) :
    (functionLevelResetEffect ld d).mem = d.mem ∧ (functionLevelResetEffect ld d).lc.otp = d.lc.otp ∧ SamePolicy (functionLevelResetEffect ld d) d := by
  simp [functionLevelResetEffect]

@[simp] theorem viewResetEffect_kept (ld : Ld) (v : Word) (d : Device) :
    (viewResetEffect ld v d).mem = d.mem ∧ (viewResetEffect ld v d).lc.otp = d.lc.otp ∧ SamePolicy (viewResetEffect ld v d) d := by
  simp [viewResetEffect]

@[simp] theorem hotResetVectorEffect_kept (mask : Nat) (d : Device) :
    (hotResetVectorEffect mask d).mem = d.mem ∧ (hotResetVectorEffect mask d).lc.otp = d.lc.otp ∧ SamePolicy (hotResetVectorEffect mask d) d := by
  unfold hotResetVectorEffect; split
  · apply foldl_kept; intro acc x; (repeat' split) <;> simp
  · simp

@[simp] theorem hdmDecoderCommitEffect_kept (ld : Ld) (base size iw ig skip : Nat) (lock : Bool) (d : Device) :
    (hdmDecoderCommitEffect ld base size iw ig skip lock d).mem = d.mem ∧ (hdmDecoderCommitEffect ld base size iw ig skip lock d).lc.otp = d.lc.otp ∧ SamePolicy (hdmDecoderCommitEffect ld base size iw ig skip lock d) d := by
  simp [hdmDecoderCommitEffect]

@[simp] theorem memRdEffect_wf (ld : Ld) (offset : Nat) (d : Device) :
    (Memory.wf d.mem = true → Memory.wf (memRdEffect ld offset d).mem = true) ∧ (memRdEffect ld offset d).lc.otp = d.lc.otp ∧ SamePolicy (memRdEffect ld offset d) d := by
  refine ⟨fun h => ?_, ?_⟩ <;> (unfold memRdEffect; (try dsimp only); (repeat' split) <;> simp (maxDischargeDepth := 30) [*])

@[simp] theorem memWrEffect_wf (ld : Ld) (offset : Nat) (data : List Byte) (mask : List Bool) (d : Device) :
    (Memory.wf d.mem = true → Memory.wf (memWrEffect ld offset data mask d).mem = true) ∧ (memWrEffect ld offset data mask d).lc.otp = d.lc.otp ∧ SamePolicy (memWrEffect ld offset data mask d) d := by
  refine ⟨fun h => ?_, ?_⟩ <;> (unfold memWrEffect; (try dsimp only); (repeat' split) <;> simp (maxDischargeDepth := 30) [*])

@[simp] theorem openStaging_kept (ld kind len : Nat) (d : Device) :
    (openStaging ld kind len d).mem = d.mem ∧ (openStaging ld kind len d).lc.otp = d.lc.otp ∧ SamePolicy (openStaging ld kind len d) d := by
  simp [openStaging]

@[simp] theorem stagingStartEffect_kept (ld : Ld) (v : Word) (d : Device) :
    (stagingStartEffect ld v d).mem = d.mem ∧ (stagingStartEffect ld v d).lc.otp = d.lc.otp ∧ SamePolicy (stagingStartEffect ld v d) d := by
  simp [stagingStartEffect]

@[simp] theorem stagingAbortEffect_kept (ld : Ld) (d : Device) :
    (stagingAbortEffect ld d).mem = d.mem ∧ (stagingAbortEffect ld d).lc.otp = d.lc.otp ∧ SamePolicy (stagingAbortEffect ld d) d := by
  simp [stagingAbortEffect]

@[simp] theorem stagingChunkDoneEffect_kept (ld : Ld) (v : Word) (d : Device) :
    (stagingChunkDoneEffect ld v d).mem = d.mem ∧ (stagingChunkDoneEffect ld v d).lc.otp = d.lc.otp ∧ SamePolicy (stagingChunkDoneEffect ld v d) d := by
  unfold stagingChunkDoneEffect; (repeat' split) <;> simp

@[simp] theorem stagingReadyPopEffect_kept (h : Hart) (d : Device) :
    (stagingReadyPopEffect h d).mem = d.mem ∧ (stagingReadyPopEffect h d).lc.otp = d.lc.otp ∧ SamePolicy (stagingReadyPopEffect h d) d := by
  unfold stagingReadyPopEffect; (repeat' split) <;> simp

@[simp] theorem stagingReleaseEffect_kept (h : Hart) (v : Word) (d : Device) :
    (stagingReleaseEffect h v d).mem = d.mem ∧ (stagingReleaseEffect h v d).lc.otp = d.lc.otp ∧ SamePolicy (stagingReleaseEffect h v d) d := by
  unfold stagingReleaseEffect; apply hartWrite_kept; intros; (try dsimp only); (repeat' split) <;> simp

@[simp] theorem stagingEndEffect_kept (h : Hart) (v : Word) (d : Device) :
    (stagingEndEffect h v d).mem = d.mem ∧ (stagingEndEffect h v d).lc.otp = d.lc.otp ∧ SamePolicy (stagingEndEffect h v d) d := by
  unfold stagingEndEffect; apply hartWrite_kept; intros; simp

@[simp] theorem answerDoe_kept (who : Option Ld) (d : Device) :
    (answerDoe who d).mem = d.mem ∧ (answerDoe who d).lc.otp = d.lc.otp ∧ SamePolicy (answerDoe who d) d := by
  unfold answerDoe; (repeat' split) <;> simp

@[simp] theorem answerHeld_kept (d : Device) :
    (answerHeld d).mem = d.mem ∧ (answerHeld d).lc.otp = d.lc.otp ∧ SamePolicy (answerHeld d) d := by simp [answerHeld]

@[simp] theorem doeWrite_kept (who : Option Ld) (o : List Byte) (d : Device) :
    (doeWrite who o d).mem = d.mem ∧ (doeWrite who o d).lc.otp = d.lc.otp ∧ SamePolicy (doeWrite who o d) d := by simp [doeWrite]

@[simp] theorem doeRequestEffect_kept (who : Option Ld) (object : List Byte) (d : Device) :
    (doeRequestEffect who object d).mem = d.mem ∧ (doeRequestEffect who object d).lc.otp = d.lc.otp ∧ SamePolicy (doeRequestEffect who object d) d := by
  simp [doeRequestEffect]

@[simp] theorem doeAbortEffect_kept (who : Option Ld) (d : Device) :
    (doeAbortEffect who d).mem = d.mem ∧ (doeAbortEffect who d).lc.otp = d.lc.otp ∧ SamePolicy (doeAbortEffect who d) d := by
  simp [doeAbortEffect]

@[simp] theorem doeDiscoveryEffect_kept (who : Option Ld) (index : Nat) (d : Device) :
    (doeDiscoveryEffect who index d).mem = d.mem ∧ (doeDiscoveryEffect who index d).lc.otp = d.lc.otp ∧ SamePolicy (doeDiscoveryEffect who index d) d := by
  simp [doeDiscoveryEffect]

@[simp] theorem cdatReadEffect_kept (who : Option Ld) (entry : Nat) (d : Device) :
    (cdatReadEffect who entry d).mem = d.mem ∧ (cdatReadEffect who entry d).lc.otp = d.lc.otp ∧ SamePolicy (cdatReadEffect who entry d) d := by
  simp [cdatReadEffect]

@[simp] theorem wardenStatusEffect_kept (who : Option Ld) (code : Nat) (d : Device) :
    (wardenStatusEffect who code d).mem = d.mem ∧ (wardenStatusEffect who code d).lc.otp = d.lc.otp ∧ SamePolicy (wardenStatusEffect who code d) d := by
  simp [wardenStatusEffect]

@[simp] theorem mailboxEnds_kept (who : Option Ld) (op code : Nat) (out : List Byte) (d : Device) :
    (mailboxEnds who op code out d).mem = d.mem ∧ (mailboxEnds who op code out d).lc.otp = d.lc.otp ∧ SamePolicy (mailboxEnds who op code out d) d := by simp [mailboxEnds]

@[simp] theorem mailbox_kept (who : Option Ld) (op : Nat) (has : Bool) (f : Device → Nat × List Byte × Device) (d : Device) (hf : ∀ e, (f e).2.2.mem = e.mem ∧ (f e).2.2.lc.otp = e.lc.otp ∧ SamePolicy (f e).2.2 e) :
    (mailbox who op has f d).mem = d.mem ∧ (mailbox who op has f d).lc.otp = d.lc.otp ∧ SamePolicy (mailbox who op has f d) d := by
  unfold mailbox; (try dsimp only); (repeat' split) <;> simp [hf]

@[simp] theorem mailbox_wf (who : Option Ld) (op : Nat) (has : Bool) (f : Device → Nat × List Byte × Device) (d : Device) (hf : ∀ e, (Memory.wf e.mem = true → Memory.wf (f e).2.2.mem = true) ∧ (f e).2.2.lc.otp = e.lc.otp ∧ SamePolicy (f e).2.2 e) :
    (Memory.wf d.mem = true → Memory.wf (mailbox who op has f d).mem = true) ∧ (mailbox who op has f d).lc.otp = d.lc.otp ∧ SamePolicy (mailbox who op has f d) d := by
  unfold mailbox; (try dsimp only); refine ⟨fun h => ?_, ?_⟩ <;> (repeat' split) <;> simp (maxDischargeDepth := 30) [*]

@[simp] theorem mailboxReads_kept (who : Option Ld) (op : Nat) (has : Bool) (f : Device → Nat × List Byte) (d : Device) :
    (mailboxReads who op has f d).mem = d.mem ∧ (mailboxReads who op has f d).lc.otp = d.lc.otp ∧ SamePolicy (mailboxReads who op has f d) d := by
  unfold mailboxReads; apply mailbox_kept; intros; simp

@[simp] theorem getLdInfoEffect_kept (d : Device) :
    (getLdInfoEffect d).mem = d.mem ∧ (getLdInfoEffect d).lc.otp = d.lc.otp ∧ SamePolicy (getLdInfoEffect d) d := by simp [getLdInfoEffect]

@[simp] theorem getLdAllocationsEffect_kept (start limit : Nat) (d : Device) :
    (getLdAllocationsEffect start limit d).mem = d.mem ∧ (getLdAllocationsEffect start limit d).lc.otp = d.lc.otp ∧ SamePolicy (getLdAllocationsEffect start limit d) d := by
  simp [getLdAllocationsEffect]

@[simp] theorem setLdAllocationsEffect_kept (start : Nat) (pairs : List (Nat × Nat)) (d : Device) :
    (setLdAllocationsEffect start pairs d).mem = d.mem ∧ (setLdAllocationsEffect start pairs d).lc.otp = d.lc.otp ∧ SamePolicy (setLdAllocationsEffect start pairs d) d := by
  unfold setLdAllocationsEffect; apply mailbox_kept; intros; (try dsimp only); (repeat' split) <;> simp

@[simp] theorem getEventRecordsEffect_kept (who : Option Ld) (d : Device) :
    (getEventRecordsEffect who d).mem = d.mem ∧ (getEventRecordsEffect who d).lc.otp = d.lc.otp ∧ SamePolicy (getEventRecordsEffect who d) d := by
  simp [getEventRecordsEffect]

@[simp] theorem clearEventRecordsEffect_kept (who : Option Ld) (handles : Nat) (d : Device) :
    (clearEventRecordsEffect who handles d).mem = d.mem ∧ (clearEventRecordsEffect who handles d).lc.otp = d.lc.otp ∧ SamePolicy (clearEventRecordsEffect who handles d) d := by
  simp [clearEventRecordsEffect]

@[simp] theorem getEventInterruptPolicyEffect_kept (who : Option Ld) (d : Device) :
    (getEventInterruptPolicyEffect who d).mem = d.mem ∧ (getEventInterruptPolicyEffect who d).lc.otp = d.lc.otp ∧ SamePolicy (getEventInterruptPolicyEffect who d) d := by
  simp [getEventInterruptPolicyEffect]

@[simp] theorem setEventInterruptPolicyEffect_kept (who : Option Ld) (policies : List Nat) (d : Device) :
    (setEventInterruptPolicyEffect who policies d).mem = d.mem ∧ (setEventInterruptPolicyEffect who policies d).lc.otp = d.lc.otp ∧ SamePolicy (setEventInterruptPolicyEffect who policies d) d := by
  simp [setEventInterruptPolicyEffect]

@[simp] theorem getFwInfoEffect_kept (who : Option Ld) (d : Device) :
    (getFwInfoEffect who d).mem = d.mem ∧ (getFwInfoEffect who d).lc.otp = d.lc.otp ∧ SamePolicy (getFwInfoEffect who d) d := by
  simp [getFwInfoEffect]

@[simp] theorem getSupportedLogsEffect_kept (who : Option Ld) (d : Device) :
    (getSupportedLogsEffect who d).mem = d.mem ∧ (getSupportedLogsEffect who d).lc.otp = d.lc.otp ∧ SamePolicy (getSupportedLogsEffect who d) d := by
  simp [getSupportedLogsEffect]

@[simp] theorem getLogEffect_kept (who : Option Ld) (uuid : List Byte) (offset len : Nat) (d : Device) :
    (getLogEffect who uuid offset len d).mem = d.mem ∧ (getLogEffect who uuid offset len d).lc.otp = d.lc.otp ∧ SamePolicy (getLogEffect who uuid offset len d) d := by
  simp [getLogEffect]

@[simp] theorem identifyMemoryDeviceEffect_kept (who : Option Ld) (d : Device) :
    (identifyMemoryDeviceEffect who d).mem = d.mem ∧ (identifyMemoryDeviceEffect who d).lc.otp = d.lc.otp ∧ SamePolicy (identifyMemoryDeviceEffect who d) d := by
  simp [identifyMemoryDeviceEffect]

@[simp] theorem getPartitionInfoEffect_kept (who : Option Ld) (d : Device) :
    (getPartitionInfoEffect who d).mem = d.mem ∧ (getPartitionInfoEffect who d).lc.otp = d.lc.otp ∧ SamePolicy (getPartitionInfoEffect who d) d := by
  simp [getPartitionInfoEffect]

@[simp] theorem getHealthInfoEffect_kept (who : Option Ld) (d : Device) :
    (getHealthInfoEffect who d).mem = d.mem ∧ (getHealthInfoEffect who d).lc.otp = d.lc.otp ∧ SamePolicy (getHealthInfoEffect who d) d := by
  simp [getHealthInfoEffect]

@[simp] theorem getPoisonListEffect_kept (who : Option Ld) (base len : Nat) (d : Device) :
    (getPoisonListEffect who base len d).mem = d.mem ∧ (getPoisonListEffect who base len d).lc.otp = d.lc.otp ∧ SamePolicy (getPoisonListEffect who base len d) d := by
  simp [getPoisonListEffect]

@[simp] theorem fjarlinWardenStatusEffect_kept (who : Option Ld) (d : Device) :
    (fjarlinWardenStatusEffect who d).mem = d.mem ∧ (fjarlinWardenStatusEffect who d).lc.otp = d.lc.otp ∧ SamePolicy (fjarlinWardenStatusEffect who d) d := by
  simp [fjarlinWardenStatusEffect]

@[simp] theorem fjarlinStageSiDataEffect_wf (who : Option Ld) (offset : Nat) (data : List Byte) (d : Device) :
    (Memory.wf d.mem = true → Memory.wf (fjarlinStageSiDataEffect who offset data d).mem = true) ∧ (fjarlinStageSiDataEffect who offset data d).lc.otp = d.lc.otp ∧ SamePolicy (fjarlinStageSiDataEffect who offset data d) d := by
  unfold fjarlinStageSiDataEffect; apply mailbox_wf; intros; refine ⟨fun h => ?_, ?_⟩ <;> (repeat' split) <;> simp (maxDischargeDepth := 30) [*]

@[simp] theorem fjarlinStageSiCommitEffect_wf (who : Option Ld) (total : Nat) (d : Device) :
    (Memory.wf d.mem = true → Memory.wf (fjarlinStageSiCommitEffect who total d).mem = true) ∧ (fjarlinStageSiCommitEffect who total d).lc.otp = d.lc.otp := by
  refine ⟨fun h => ?_, ?_⟩ <;> simp (maxDischargeDepth := 30) [fjarlinStageSiCommitEffect, *]

@[simp] theorem mailboxUnsupportedOpcodeEffect_kept (who : Option Ld) (op : Nat) (d : Device) :
    (mailboxUnsupportedOpcodeEffect who op d).mem = d.mem ∧ (mailboxUnsupportedOpcodeEffect who op d).lc.otp = d.lc.otp ∧ SamePolicy (mailboxUnsupportedOpcodeEffect who op d) d := by
  simp [mailboxUnsupportedOpcodeEffect]

@[simp] theorem takeFirmware_wf (via : Sender) (obj : List Byte) (d : Device) :
    (Memory.wf d.mem = true → Memory.wf (takeFirmware via obj d).mem = true) ∧ (takeFirmware via obj d).lc.otp = d.lc.otp ∧ SamePolicy (takeFirmware via obj d) d := by
  unfold takeFirmware; (try dsimp only); refine ⟨fun h => ?_, ?_⟩ <;> (repeat' split) <;> simp (maxDischargeDepth := 30) [*]

@[simp] theorem fjMessage_kept (m : Mport) (command tag : Nat) (f : Device → FjAnswer) (d : Device) (hf : ∀ e, (f e).dev.mem = e.mem ∧ (f e).dev.lc.otp = e.lc.otp ∧ SamePolicy (f e).dev e) :
    (fjMessage m command tag f d).mem = d.mem ∧ (fjMessage m command tag f d).lc.otp = d.lc.otp ∧ SamePolicy (fjMessage m command tag f d) d := by
  unfold fjMessage; (try dsimp only); (repeat' split) <;> simp [hf]

@[simp] theorem fjMessage_wf (m : Mport) (command tag : Nat) (f : Device → FjAnswer) (d : Device) (hf : ∀ e, (Memory.wf e.mem = true → Memory.wf (f e).dev.mem = true) ∧ (f e).dev.lc.otp = e.lc.otp ∧ SamePolicy (f e).dev e) :
    (Memory.wf d.mem = true → Memory.wf (fjMessage m command tag f d).mem = true) ∧ (fjMessage m command tag f d).lc.otp = d.lc.otp ∧ SamePolicy (fjMessage m command tag f d) d := by
  unfold fjMessage; (try dsimp only); refine ⟨fun h => ?_, ?_⟩ <;> (repeat' split) <;> simp (maxDischargeDepth := 30) [*]

@[simp] theorem fjRights_kept (m : Mport) (command tag : Nat) (f : Device → FjAnswer) (d : Device) (hf : ∀ e, (f e).dev.mem = e.mem ∧ (f e).dev.lc.otp = e.lc.otp ∧ SamePolicy (f e).dev e) :
    (fjRights m command tag f d).mem = d.mem ∧ (fjRights m command tag f d).lc.otp = d.lc.otp ∧ SamePolicy (fjRights m command tag f d) d := by
  unfold fjRights; apply fjMessage_kept; intro e; split <;> simp [hf]

@[simp] theorem fjRights_wf (m : Mport) (command tag : Nat) (f : Device → FjAnswer) (d : Device) (hf : ∀ e, (Memory.wf e.mem = true → Memory.wf (f e).dev.mem = true) ∧ (f e).dev.lc.otp = e.lc.otp ∧ SamePolicy (f e).dev e) :
    (Memory.wf d.mem = true → Memory.wf (fjRights m command tag f d).mem = true) ∧ (fjRights m command tag f d).lc.otp = d.lc.otp ∧ SamePolicy (fjRights m command tag f d) d := by
  unfold fjRights; apply fjMessage_wf; intro e; refine ⟨fun h => ?_, ?_⟩ <;> (repeat' split) <;> simp (maxDischargeDepth := 30) [*]

@[simp] theorem fjStatusEffect_kept (m : Mport) (tag : Nat) (d : Device) :
    (fjStatusEffect m tag d).mem = d.mem ∧ (fjStatusEffect m tag d).lc.otp = d.lc.otp ∧ SamePolicy (fjStatusEffect m tag d) d := by
  unfold fjStatusEffect; apply fjMessage_kept; intros; simp

@[simp] theorem transferBeginEffect_kept (m : Mport) (tag kind len : Nat) (d : Device) :
    (transferBeginEffect m tag kind len d).mem = d.mem ∧ (transferBeginEffect m tag kind len d).lc.otp = d.lc.otp ∧ SamePolicy (transferBeginEffect m tag kind len d) d := by
  unfold transferBeginEffect; apply fjMessage_kept; intros; simp

@[simp] theorem transferDataEffect_kept (m : Mport) (tag offset : Nat) (data : List Byte) (d : Device) :
    (transferDataEffect m tag offset data d).mem = d.mem ∧ (transferDataEffect m tag offset data d).lc.otp = d.lc.otp ∧ SamePolicy (transferDataEffect m tag offset data d) d := by
  unfold transferDataEffect; apply fjMessage_kept; intros; (repeat' split) <;> simp

@[simp] theorem consumeTransfer_wf (m : Mport) (t : Transfer) (fault : Nat) (d : Device) :
    (Memory.wf d.mem = true → Memory.wf (consumeTransfer m t fault d).mem = true) ∧ (consumeTransfer m t fault d).lc.otp = d.lc.otp := by
  refine ⟨fun h => ?_, ?_⟩ <;> (unfold consumeTransfer; dsimp only; (repeat' split) <;> simp (maxDischargeDepth := 30) [*])

@[simp] theorem transferEndEffect_wf (m : Mport) (tag fault : Nat) (d : Device) :
    (Memory.wf d.mem = true → Memory.wf (transferEndEffect m tag fault d).mem = true) ∧ (transferEndEffect m tag fault d).lc.otp = d.lc.otp := by
  refine ⟨fun h => ?_, ?_⟩ <;> (unfold transferEndEffect; dsimp only; (repeat' split) <;> simp (maxDischargeDepth := 30) [*])

@[simp] theorem sheetReadEffect_wf (m : Mport) (tag sheet offset len : Nat) (d : Device) :
    (Memory.wf d.mem = true → Memory.wf (sheetReadEffect m tag sheet offset len d).mem = true) ∧ (sheetReadEffect m tag sheet offset len d).lc.otp = d.lc.otp ∧ SamePolicy (sheetReadEffect m tag sheet offset len d) d := by
  unfold sheetReadEffect; apply fjRights_wf; intro e
  refine ⟨fun hm => ?_, ?_⟩ <;> dsimp only <;> (repeat' split) <;> simp [*]

@[simp] theorem sheetAcknowledgeEffect_wf (m : Mport) (tag : Nat) (sheet : Word) (g : List Byte) (d : Device) :
    (Memory.wf d.mem = true → Memory.wf (sheetAcknowledgeEffect m tag sheet g d).mem = true) ∧ (sheetAcknowledgeEffect m tag sheet g d).lc.otp = d.lc.otp ∧ SamePolicy (sheetAcknowledgeEffect m tag sheet g d) d := by
  refine ⟨fun h => ?_, ?_⟩ <;> simp (maxDischargeDepth := 30) +contextual [sheetAcknowledgeEffect, *]

@[simp] theorem reamHeadEffect_kept (m : Mport) (tag : Nat) (d : Device) :
    (reamHeadEffect m tag d).mem = d.mem ∧ (reamHeadEffect m tag d).lc.otp = d.lc.otp ∧ SamePolicy (reamHeadEffect m tag d) d := by
  simp [reamHeadEffect]

@[simp] theorem eventReadEffect_wf (m : Mport) (tag first count : Nat) (d : Device) :
    (Memory.wf d.mem = true → Memory.wf (eventReadEffect m tag first count d).mem = true) ∧ (eventReadEffect m tag first count d).lc.otp = d.lc.otp ∧ SamePolicy (eventReadEffect m tag first count d) d := by
  refine ⟨fun h => ?_, ?_⟩ <;> (unfold eventReadEffect; (repeat' split) <;> simp (maxDischargeDepth := 30) +contextual [*])

@[simp] theorem eventClearEffect_kept (m : Mport) (tag : Nat) (seq : Word) (d : Device) :
    (eventClearEffect m tag seq d).mem = d.mem ∧ (eventClearEffect m tag seq d).lc.otp = d.lc.otp ∧ SamePolicy (eventClearEffect m tag seq d) d := by
  simp [eventClearEffect]

@[simp] theorem setConn_kept (p : Peer) (c : SpdmConn) (d : Device) :
    (setConn p c d).mem = d.mem ∧ (setConn p c d).lc.otp = d.lc.otp ∧ SamePolicy (setConn p c d) d := by simp [setConn]

@[simp] theorem spdmSend_kept (p : Peer) (body : List Byte) (d0 : Device) :
    (spdmSend p body d0).mem = d0.mem ∧ (spdmSend p body d0).lc.otp = d0.lc.otp ∧ SamePolicy (spdmSend p body d0) d0 := by simp [spdmSend]

@[simp] theorem spdmDeliver_kept (p : Peer) (c : SpdmConn) (msg : List Byte) (d : Device) :
    (spdmDeliver p c msg d).mem = d.mem ∧ (spdmDeliver p c msg d).lc.otp = d.lc.otp ∧ SamePolicy (spdmDeliver p c msg d) d := by
  simp [spdmDeliver]

@[simp] theorem holdSpdm_kept (p : Peer) (raw : List Byte) (d : Device) :
    (holdSpdm p raw d).mem = d.mem ∧ (holdSpdm p raw d).lc.otp = d.lc.otp ∧ SamePolicy (holdSpdm p raw d) d := by
  unfold holdSpdm; (repeat' split) <;> simp

@[simp] theorem tamperRefuses_kept (p : Peer) (code : Nat) (d : Device) :
    (tamperRefuses p code d).mem = d.mem ∧ (tamperRefuses p code d).lc.otp = d.lc.otp ∧ SamePolicy (tamperRefuses p code d) d := by
  unfold tamperRefuses; (repeat' split) <;> simp

@[simp] theorem dropSpdm_kept (p : Peer) (d : Device) :
    (dropSpdm p d).mem = d.mem ∧ (dropSpdm p d).lc.otp = d.lc.otp ∧ SamePolicy (dropSpdm p d) d := by simp [dropSpdm]

@[simp] theorem spdmRequest_kept (p : Peer) (raw : List Byte) (code stage : Nat) (restricted : Bool) (f : SpdmConn → Device → Device) (d : Device) (hf : ∀ r e, (f r e).mem = e.mem ∧ (f r e).lc.otp = e.lc.otp ∧ SamePolicy (f r e) e) :
    (spdmRequest p raw code stage restricted f d).mem = d.mem ∧ (spdmRequest p raw code stage restricted f d).lc.otp = d.lc.otp ∧ SamePolicy (spdmRequest p raw code stage restricted f d) d := by
  unfold spdmRequest; (repeat' split) <;> simp [hf]

@[simp] theorem spdmRequest_wf (p : Peer) (raw : List Byte) (code stage : Nat) (restricted : Bool) (f : SpdmConn → Device → Device) (d : Device) (hf : ∀ r e, (Memory.wf e.mem = true → Memory.wf (f r e).mem = true) ∧ (f r e).lc.otp = e.lc.otp ∧ SamePolicy (f r e) e) :
    (Memory.wf d.mem = true → Memory.wf (spdmRequest p raw code stage restricted f d).mem = true) ∧ (spdmRequest p raw code stage restricted f d).lc.otp = d.lc.otp ∧ SamePolicy (spdmRequest p raw code stage restricted f d) d := by
  unfold spdmRequest; refine ⟨fun h => ?_, ?_⟩ <;> (repeat' split) <;> simp (maxDischargeDepth := 30) [*]

@[simp] theorem evictIfFull_kept (p : Peer) (d : Device) :
    (evictIfFull p d).mem = d.mem ∧ (evictIfFull p d).lc.otp = d.lc.otp ∧ SamePolicy (evictIfFull p d) d := by
  unfold evictIfFull; dsimp only; (repeat' split) <;> simp

@[simp] theorem getVersionEffect_kept (p : Peer) (d : Device) :
    (getVersionEffect p d).mem = d.mem ∧ (getVersionEffect p d).lc.otp = d.lc.otp ∧ SamePolicy (getVersionEffect p d) d := by
  simp [getVersionEffect]

@[simp] theorem getCapabilitiesEffect_kept (p : Peer) (request : List Byte) (d : Device) :
    (getCapabilitiesEffect p request d).mem = d.mem ∧ (getCapabilitiesEffect p request d).lc.otp = d.lc.otp ∧ SamePolicy (getCapabilitiesEffect p request d) d := by
  unfold getCapabilitiesEffect; apply spdmRequest_kept; intros; simp

@[simp] theorem negotiateAlgorithmsEffect_kept (p : Peer) (request : List Byte) (sha3 mldsa : Bool) (d : Device) :
    (negotiateAlgorithmsEffect p request sha3 mldsa d).mem = d.mem ∧ (negotiateAlgorithmsEffect p request sha3 mldsa d).lc.otp = d.lc.otp ∧ SamePolicy (negotiateAlgorithmsEffect p request sha3 mldsa d) d := by
  unfold negotiateAlgorithmsEffect; apply spdmRequest_kept; intros; simp

@[simp] theorem ensureChain_kept (d : Device) :
    (ensureChain d).mem = d.mem ∧ (ensureChain d).lc.otp = d.lc.otp ∧ SamePolicy (ensureChain d) d := by
  unfold ensureChain; dsimp only; (repeat' split) <;> simp

@[simp] theorem withChain_kept (p : Peer) (c : SpdmConn) (f : Device → Device) (d : Device) (hf : ∀ e, (f e).mem = e.mem ∧ (f e).lc.otp = e.lc.otp ∧ SamePolicy (f e) e) :
    (withChain p c f d).mem = d.mem ∧ (withChain p c f d).lc.otp = d.lc.otp ∧ SamePolicy (withChain p c f d) d := by
  unfold withChain; (try dsimp only); split <;> simp [hf]

@[simp] theorem getDigestsEffect_kept (p : Peer) (request : List Byte) (d : Device) :
    (getDigestsEffect p request d).mem = d.mem ∧ (getDigestsEffect p request d).lc.otp = d.lc.otp ∧ SamePolicy (getDigestsEffect p request d) d := by
  unfold getDigestsEffect; apply spdmRequest_kept; intros; simp

@[simp] theorem getCertificateEffect_kept (p : Peer) (slot offset len : Nat) (request : List Byte) (d : Device) :
    (getCertificateEffect p slot offset len request d).mem = d.mem ∧ (getCertificateEffect p slot offset len request d).lc.otp = d.lc.otp ∧ SamePolicy (getCertificateEffect p slot offset len request d) d := by
  unfold getCertificateEffect; apply spdmRequest_kept; intro c e; apply withChain_kept; intro e1; (try dsimp only); split <;> simp

@[simp] theorem spdmSigned_kept (p : Peer) (c : SpdmConn) (code : Nat) (ready : Bool) (msg : List Byte) (d : Device) :
    (spdmSigned p c code ready msg d).mem = d.mem ∧ (spdmSigned p c code ready msg d).lc.otp = d.lc.otp ∧ SamePolicy (spdmSigned p c code ready msg d) d := by
  simp [spdmSigned]

@[simp] theorem spdmSigning_kept (p : Peer) (c : SpdmConn) (code : Nat) (ready : Bool) (body : List Byte) (sig : Option (List Byte)) (d : Device) :
    (spdmSigning p c code ready body sig d).mem = d.mem ∧ (spdmSigning p c code ready body sig d).lc.otp = d.lc.otp ∧ SamePolicy (spdmSigning p c code ready body sig d) d := by
  unfold spdmSigning; (repeat' split) <;> simp

@[simp] theorem challengeEffect_kept (p : Peer) (request : List Byte) (slot summary : Nat) (ready : Bool) (d : Device) :
    (challengeEffect p request slot summary ready d).mem = d.mem ∧ (challengeEffect p request slot summary ready d).lc.otp = d.lc.otp ∧ SamePolicy (challengeEffect p request slot summary ready d) d := by
  unfold challengeEffect; apply spdmRequest_kept; intros; simp

@[simp] theorem getMeasurementsEffect_kept (p : Peer) (request : List Byte) (index : Nat) (signed ready : Bool) (d : Device) :
    (getMeasurementsEffect p request index signed ready d).mem = d.mem ∧ (getMeasurementsEffect p request index signed ready d).lc.otp = d.lc.otp ∧ SamePolicy (getMeasurementsEffect p request index signed ready d) d := by
  unfold getMeasurementsEffect; apply spdmRequest_kept; intros; simp

@[simp] theorem respondIfReadyEffect_kept (p : Peer) (token : Nat) (d : Device) :
    (respondIfReadyEffect p token d).mem = d.mem ∧ (respondIfReadyEffect p token d).lc.otp = d.lc.otp ∧ SamePolicy (respondIfReadyEffect p token d) d := by
  unfold respondIfReadyEffect; apply spdmRequest_kept; intros; (repeat' split) <;> simp

@[simp] theorem spdmResponseNotReadyEffect_kept (p : Peer) (code : Nat) (response : List Byte) (d : Device) :
    (spdmResponseNotReadyEffect p code response d).mem = d.mem ∧ (spdmResponseNotReadyEffect p code response d).lc.otp = d.lc.otp ∧ SamePolicy (spdmResponseNotReadyEffect p code response d) d := by
  unfold spdmResponseNotReadyEffect; refine kept_ite ?_ (kept_refl _); apply spdmRequest_kept; intros; simp

@[simp] theorem spdmUnsupportedRequestEffect_kept (p : Peer) (code : Nat) (d : Device) :
    (spdmUnsupportedRequestEffect p code d).mem = d.mem ∧ (spdmUnsupportedRequestEffect p code d).lc.otp = d.lc.otp ∧ SamePolicy (spdmUnsupportedRequestEffect p code d) d := by
  unfold spdmUnsupportedRequestEffect; apply spdmRequest_kept; intros; simp

@[simp] theorem spdmRaw_kept (p : Peer) (r : List Byte) (d : Device) :
    (spdmRaw p r d).mem = d.mem ∧ (spdmRaw p r d).lc.otp = d.lc.otp ∧ SamePolicy (spdmRaw p r d) d := by
  unfold spdmRaw; (repeat' split) <;> simp

@[simp] theorem spdmChunk_kept (p : Peer) (raw : List Byte) (f : SpdmConn → Device → Device) (d : Device) (hf : ∀ r e, (f r e).mem = e.mem ∧ (f r e).lc.otp = e.lc.otp ∧ SamePolicy (f r e) e) :
    (spdmChunk p raw f d).mem = d.mem ∧ (spdmChunk p raw f d).lc.otp = d.lc.otp ∧ SamePolicy (spdmChunk p raw f d) d := by
  unfold spdmChunk; (repeat' split) <;> simp [hf]

@[simp] theorem chunkSendEffect_kept (p : Peer) (handle seq : Nat) (last : Bool) (chunk : List Byte) (d : Device) :
    (chunkSendEffect p handle seq last chunk d).mem = d.mem ∧ (chunkSendEffect p handle seq last chunk d).lc.otp = d.lc.otp ∧ SamePolicy (chunkSendEffect p handle seq last chunk d) d := by
  unfold chunkSendEffect; apply spdmChunk_kept; intros; (try dsimp only); (repeat' split) <;> simp

@[simp] theorem chunkGetEffect_kept (p : Peer) (handle seq : Nat) (d : Device) :
    (chunkGetEffect p handle seq d).mem = d.mem ∧ (chunkGetEffect p handle seq d).lc.otp = d.lc.otp ∧ SamePolicy (chunkGetEffect p handle seq d) d := by
  unfold chunkGetEffect; apply spdmChunk_kept; intros; (try dsimp only); (repeat' split) <;> simp

@[simp] theorem attestStart_kept (d : Device) :
    (attestStart d).mem = d.mem ∧ (attestStart d).lc.otp = d.lc.otp ∧ SamePolicy (attestStart d) d := by simp [attestStart]

@[simp] theorem spdmHeld_kept (p : Peer) (r : List Byte) (d : Device) :
    (spdmHeld p r d).mem = d.mem ∧ (spdmHeld p r d).lc.otp = d.lc.otp ∧ SamePolicy (spdmHeld p r d) d := by
  unfold spdmHeld; (repeat' split) <;> simp

@[simp] theorem answerHeldSpdm_kept (d : Device) :
    (answerHeldSpdm d).mem = d.mem ∧ (answerHeldSpdm d).lc.otp = d.lc.otp ∧ SamePolicy (answerHeldSpdm d) d := by
  unfold answerHeldSpdm; apply foldl_kept; intro acc x; (repeat' split) <;> simp

@[simp] theorem deriveAlias_kept (d : Device) :
    (deriveAlias d).mem = d.mem ∧ (deriveAlias d).lc.otp = d.lc.otp ∧ SamePolicy (deriveAlias d) d := by
  unfold deriveAlias; (repeat' split) <;> simp

@[simp] theorem restoreRungs_kept (d : Device) :
    (restoreRungs d).mem = d.mem ∧ (restoreRungs d).lc.otp = d.lc.otp ∧ SamePolicy (restoreRungs d) d := by simp [restoreRungs]

@[simp] theorem adoptCouch_kept (d : Device) :
    (adoptCouch d).mem = d.mem ∧ (adoptCouch d).lc.otp = d.lc.otp ∧ SamePolicy (adoptCouch d) d := by
  unfold adoptCouch; split <;> simp

@[simp] theorem attachEffect_kept (h : Hart) (d : Device) :
    (attachEffect h d).mem = d.mem ∧ (attachEffect h d).lc.otp = d.lc.otp ∧ SamePolicy (attachEffect h d) d := by simp [attachEffect]

end Sys2Proof.Machine
end

