-- ==== Sys2Proof/Laws/KeptPower.lean ====
section
/-! SUPPORT. What resets, the life cycle, the booth, the card port, power, errors do to memory and to OTP: `f_kept`, both unchanged, and the policy in force too;
`f_wf`, memory keeps its canonical form, OTP (and, where nothing commits, the policy in force) is unchanged. -/

namespace Sys2Proof.Machine

open Sys2Proof

@[simp] theorem lifeDecode_kept (d : Device) :
    (lifeDecode d).mem = d.mem ∧ (lifeDecode d).lc.otp = d.lc.otp ∧ SamePolicy (lifeDecode d) d := by simp [lifeDecode]

@[simp] theorem cardPortReset_kept (d : Device) :
    (cardPortReset d).mem = d.mem ∧ (cardPortReset d).lc.otp = d.lc.otp ∧ SamePolicy (cardPortReset d) d := by simp [cardPortReset]

@[simp] theorem cardReset_kept (cause : Nat) (d : Device) :
    (cardReset cause d).mem = d.mem ∧ (cardReset cause d).lc.otp = d.lc.otp ∧ SamePolicy (cardReset cause d) d := by simp [cardReset]

@[simp] theorem coreResetDomain_kept (d : Device) (bd : Nat) :
    (coreResetDomain d bd).mem = d.mem ∧ (coreResetDomain d bd).lc.otp = d.lc.otp ∧ SamePolicy (coreResetDomain d bd) d := by
  unfold coreResetDomain; dsimp only; (repeat' split) <;> simp

@[simp] theorem abandonCard_kept (d : Device) :
    (abandonCard d).mem = d.mem ∧ (abandonCard d).lc.otp = d.lc.otp ∧ SamePolicy (abandonCard d) d := by simp [abandonCard]

@[simp] theorem busyMailbox_kept (d : Device) :
    (busyMailbox d).mem = d.mem ∧ (busyMailbox d).lc.otp = d.lc.otp ∧ SamePolicy (busyMailbox d) d := by simp [busyMailbox]

@[simp] theorem coreResetServices_kept (d : Device) :
    (coreResetServices d).mem = d.mem ∧ (coreResetServices d).lc.otp = d.lc.otp ∧ SamePolicy (coreResetServices d) d := by
  simp [coreResetServices]

@[simp] theorem coreRegisters_kept (d : Device) :
    (coreRegisters d).mem = d.mem ∧ (coreRegisters d).lc.otp = d.lc.otp ∧ SamePolicy (coreRegisters d) d := by simp [coreRegisters]

@[simp] theorem coreResetEngines_kept (d : Device) :
    (coreResetEngines d).mem = d.mem ∧ (coreResetEngines d).lc.otp = d.lc.otp ∧ SamePolicy (coreResetEngines d) d := by
  simp [coreResetEngines]

@[simp] theorem coreWatermarks_kept (d : Device) :
    (coreWatermarks d).mem = d.mem ∧ (coreWatermarks d).lc.otp = d.lc.otp ∧ SamePolicy (coreWatermarks d) d := by simp [coreWatermarks]

@[simp] theorem coreDebug_kept (d : Device) :
    (coreDebug d).mem = d.mem ∧ (coreDebug d).lc.otp = d.lc.otp ∧ SamePolicy (coreDebug d) d := by simp [coreDebug]

@[simp] theorem coreReset_wf (cause : Nat) (d : Device) :
    (Memory.wf d.mem = true → Memory.wf (coreReset cause d).mem = true) ∧ (coreReset cause d).lc.otp = d.lc.otp ∧ SamePolicy (coreReset cause d) d := by
  refine ⟨fun h => ?_, ?_⟩ <;> simp (maxDischargeDepth := 30) [coreReset, *]

@[simp] theorem mainCleared_wf (wake : Bool) (d : Device) :
    (Memory.wf d.mem = true → Memory.wf (mainCleared wake d).mem = true) ∧ (mainCleared wake d).lc.otp = d.lc.otp :=
  ⟨fun h => memLose_wf _ h, rfl⟩

@[simp] theorem cardNote_kept (d : Device) :
    (cardNote d).mem = d.mem ∧ (cardNote d).lc.otp = d.lc.otp ∧ SamePolicy (cardNote d) d := by
  simp [cardNote]

@[simp] theorem mainRelease_wf (d : Device) :
    (Memory.wf d.mem = true → Memory.wf (mainRelease d).mem = true) ∧ (mainRelease d).lc.otp = d.lc.otp ∧ SamePolicy (mainRelease d) d := by
  refine ⟨fun h => ?_, ?_⟩ <;> simp (maxDischargeDepth := 30) [mainRelease, *]

@[simp] theorem powerGood_wf (d : Device) :
    (Memory.wf d.mem = true → Memory.wf (powerGood d).mem = true) ∧ (powerGood d).lc.otp = d.lc.otp ∧ SamePolicy (powerGood d) d := by
  refine ⟨fun h => ?_, ?_⟩ <;> simp (maxDischargeDepth := 30) [powerGood, *]

@[simp] theorem mainDown_wf (cause : Nat) (state : PowerState) (d : Device) :
    (Memory.wf d.mem = true → Memory.wf (mainDown cause state d).mem = true) ∧ (mainDown cause state d).lc.otp = d.lc.otp := by
  refine ⟨fun h => ?_, ?_⟩ <;> simp (maxDischargeDepth := 30) [mainDown, *]

@[simp] theorem recordLands_wf (d : Device) :
    (Memory.wf d.mem = true → Memory.wf (recordLands d).mem = true) ∧ (recordLands d).lc.otp = d.lc.otp ∧ SamePolicy (recordLands d) d := by
  refine ⟨fun h => ?_, ?_⟩ <;> simp (maxDischargeDepth := 30) [recordLands, *]

@[simp] theorem recordTorn_wf (d : Device) :
    (Memory.wf d.mem = true → Memory.wf (recordTorn d).mem = true) ∧ (recordTorn d).lc.otp = d.lc.otp ∧ SamePolicy (recordTorn d) d := ⟨fun h => tearFront_wf _ _ h, rfl, rfl, rfl, rfl, rfl⟩

@[simp] theorem sheetLands_wf (d : Device) :
    (Memory.wf d.mem = true → Memory.wf (sheetLands d).mem = true) ∧ (sheetLands d).lc.otp = d.lc.otp ∧ SamePolicy (sheetLands d) d := by
  refine ⟨fun h => ?_, ?_⟩ <;> (unfold sheetLands; (try dsimp only); (repeat' split) <;> simp (maxDischargeDepth := 30) [*])

@[simp] theorem clearCut_wf (d : Device) :
    (Memory.wf d.mem = true → Memory.wf (clearCut d).mem = true) ∧ (clearCut d).lc.otp = d.lc.otp ∧ SamePolicy (clearCut d) d := by
  refine ⟨fun h => ?_, ?_⟩ <;> simp (maxDischargeDepth := 30) [clearCut, *]

@[simp] theorem writesComplete_wf (d : Device) :
    (Memory.wf d.mem = true → Memory.wf (writesComplete d).mem = true) ∧ (writesComplete d).lc.otp = d.lc.otp ∧ SamePolicy (writesComplete d) d := by
  refine ⟨fun h => ?_, ?_⟩ <;> simp (maxDischargeDepth := 30) [writesComplete, *]

@[simp] theorem writesMayComplete_wf (d : Device) :
    (Memory.wf d.mem = true → Memory.wf (writesMayComplete d).mem = true) ∧ (writesMayComplete d).lc.otp = d.lc.otp ∧ SamePolicy (writesMayComplete d) d := by
  refine ⟨fun h => ?_, ?_⟩ <;> simp (maxDischargeDepth := 30) [writesMayComplete, *]

@[simp] theorem mainReset_wf (cause : Nat) (d : Device) :
    (Memory.wf d.mem = true → Memory.wf (mainReset cause d).mem = true) ∧ (mainReset cause d).lc.otp = d.lc.otp := by
  unfold mainReset; refine ⟨fun h => ?_, ?_⟩ <;> (repeat' split) <;> simp (maxDischargeDepth := 30) [*]

@[simp] theorem modLc_kept (f : LifeCycle → LifeCycle) (d : Device) :
    (modLc f d).mem = d.mem ∧ SamePolicy (modLc f d) d := ⟨rfl, rfl, rfl, rfl, rfl⟩

@[simp] theorem modLc_otp (f : LifeCycle → LifeCycle) (d : Device) (hf : (f d.lc).otp = d.lc.otp) : (modLc f d).lc.otp = d.lc.otp := hf

@[simp] theorem lcResult_kept (cmd outcome detail : Nat) (d : Device) :
    (lcResult cmd outcome detail d).mem = d.mem ∧ (lcResult cmd outcome detail d).lc.otp = d.lc.otp ∧ SamePolicy (lcResult cmd outcome detail d) d := by
  simp [lcResult]

/-- A burn leaves memory alone. -/
@[simp] theorem burnBits_mem (w v : Nat) (d : Device) : (burnBits w v d).mem = d.mem := rfl

@[simp] theorem lcCommand_kept (h : Hart) (cmd : Nat) (f : Device → Device) (d : Device) (hf : ∀ e, (f e).mem = e.mem ∧ (f e).lc.otp = e.lc.otp ∧ SamePolicy (f e) e) :
    (lcCommand h cmd f d).mem = d.mem ∧ (lcCommand h cmd f d).lc.otp = d.lc.otp ∧ SamePolicy (lcCommand h cmd f d) d := by
  unfold lcCommand; apply onlyHart_kept; intro e; (repeat' split) <;> simp [hf]

@[simp] theorem lcCommand_wf (h : Hart) (cmd : Nat) (f : Device → Device) (d : Device) (hf : ∀ e, (Memory.wf e.mem = true → Memory.wf (f e).mem = true) ∧ (f e).lc.otp = e.lc.otp ∧ SamePolicy (f e) e) :
    (Memory.wf d.mem = true → Memory.wf (lcCommand h cmd f d).mem = true) ∧ (lcCommand h cmd f d).lc.otp = d.lc.otp ∧ SamePolicy (lcCommand h cmd f d) d := by
  unfold lcCommand; apply onlyHart_wf; intro e; refine ⟨fun h => ?_, ?_⟩ <;> (repeat' split) <;> simp (maxDischargeDepth := 30) [*]

@[simp] theorem ptChanged_kept (d : Device) :
    (ptChanged d).mem = d.mem ∧ (ptChanged d).lc.otp = d.lc.otp ∧ SamePolicy (ptChanged d) d := by simp [ptChanged]

@[simp] theorem ptSettle_kept (was : Bool) (d : Device) :
    (ptSettle was d).mem = d.mem ∧ (ptSettle was d).lc.otp = d.lc.otp ∧ SamePolicy (ptSettle was d) d := by simp [ptSettle]

@[simp] theorem ptCtrlWriteEffect_kept (h : Hart) (v : Word) (d : Device) :
    (ptCtrlWriteEffect h v d).mem = d.mem ∧ (ptCtrlWriteEffect h v d).lc.otp = d.lc.otp ∧ SamePolicy (ptCtrlWriteEffect h v d) d := by
  unfold ptCtrlWriteEffect; apply onlyHart_kept; intros; simp

@[simp] theorem lcRefuse_kept (target outcome detail : Nat) (d : Device) :
    (lcRefuse target outcome detail d).mem = d.mem ∧ (lcRefuse target outcome detail d).lc.otp = d.lc.otp ∧ SamePolicy (lcRefuse target outcome detail d) d := by
  simp [lcRefuse]

@[simp] theorem wipeBegins_wf (target : Nat) (d : Device) :
    (Memory.wf d.mem = true → Memory.wf (wipeBegins target d).mem = true) ∧ (wipeBegins target d).lc.otp = d.lc.otp ∧ SamePolicy (wipeBegins target d) d := by
  refine ⟨fun h => ?_, ?_⟩ <;> simp (maxDischargeDepth := 30) +contextual [wipeBegins, *]

@[simp] theorem transitionBegins_wf (target : Nat) (d : Device) :
    (Memory.wf d.mem = true → Memory.wf (transitionBegins target d).mem = true) ∧ (transitionBegins target d).lc.otp = d.lc.otp ∧ SamePolicy (transitionBegins target d) d := by
  refine ⟨fun h => ?_, ?_⟩ <;> simp (maxDischargeDepth := 30) [transitionBegins, *]

@[simp] theorem lcTransitionEffect_wf (h : Hart) (target : Nat) (d : Device) :
    (Memory.wf d.mem = true → Memory.wf (lcTransitionEffect h target d).mem = true) ∧ (lcTransitionEffect h target d).lc.otp = d.lc.otp ∧ SamePolicy (lcTransitionEffect h target d) d := by
  unfold lcTransitionEffect; apply onlyHart_wf; intro e
  refine wf_if (wf_of_kept (lcRefuse_kept ..)) ?_
  split
  · exact wf_of_kept (lcRefuse_kept ..)
  · split
    · exact wf_of_kept (lcRefuse_kept ..)
    · exact wf_if (transitionBegins_wf _ _) (wf_of_kept (lcRefuse_kept ..))

@[simp] theorem zeroRegions_wf (rs : List (Nat × Nat)) (d : Device) :
    (Memory.wf d.mem = true → Memory.wf (zeroRegions rs d).mem = true) ∧ (zeroRegions rs d).lc.otp = d.lc.otp ∧ SamePolicy (zeroRegions rs d) d := by
  refine ⟨fun h => ?_, ?_⟩ <;> simp (maxDischargeDepth := 30) +contextual [zeroRegions, *]

@[simp] theorem lifeCycleWipeDoneEffect_wf (d : Device) :
    (Memory.wf d.mem = true → Memory.wf (lifeCycleWipeDoneEffect d).mem = true) ∧ (lifeCycleWipeDoneEffect d).lc.otp = d.lc.otp ∧ SamePolicy (lifeCycleWipeDoneEffect d) d := by
  refine ⟨fun h => ?_, ?_⟩ <;> (unfold lifeCycleWipeDoneEffect; (try dsimp only); (repeat' split) <;> simp (maxDischargeDepth := 30) [*])

@[simp] theorem lcReadWordEffect_kept (h : Hart) (d : Device) :
    (lcReadWordEffect h d).mem = d.mem ∧ (lcReadWordEffect h d).lc.otp = d.lc.otp ∧ SamePolicy (lcReadWordEffect h d) d := by
  unfold lcReadWordEffect; apply lcCommand_kept; intros; simp

@[simp] theorem lcBurnWordEffect_kept (h : Hart) (d : Device) :
    (lcBurnWordEffect h d).mem = d.mem ∧ (lcBurnWordEffect h d).lc.otp = d.lc.otp ∧ SamePolicy (lcBurnWordEffect h d) d := by
  unfold lcBurnWordEffect; apply lcCommand_kept; intros; simp

@[simp] theorem unlock_kept (d : Device) :
    (unlock d).mem = d.mem ∧ (unlock d).lc.otp = d.lc.otp ∧ SamePolicy (unlock d) d := by unfold unlock; (repeat' split) <;> simp

@[simp] theorem lcUnlockEffect_kept (h : Hart) (d : Device) :
    (lcUnlockEffect h d).mem = d.mem ∧ (lcUnlockEffect h d).lc.otp = d.lc.otp ∧ SamePolicy (lcUnlockEffect h d) d := by
  unfold lcUnlockEffect; apply onlyHart_kept; intros; simp

@[simp] theorem lcUndefinedCommandEffect_kept (h : Hart) (code : Nat) (d : Device) :
    (lcUndefinedCommandEffect h code d).mem = d.mem ∧ (lcUndefinedCommandEffect h code d).lc.otp = d.lc.otp ∧ SamePolicy (lcUndefinedCommandEffect h code d) d := by
  unfold lcUndefinedCommandEffect; apply lcCommand_kept; intros; simp

@[simp] theorem burnEnds_kept (w v old : Nat) (d : Device) :
    (burnEnds w v old d).mem = d.mem ∧ (burnEnds w v old d).lc.otp = d.lc.otp ∧ SamePolicy (burnEnds w v old d) d := by
  unfold burnEnds; (repeat' split) <;> simp

@[simp] theorem otpBurnDoneEffect_wf (d : Device) : Memory.wf d.mem = true → Memory.wf (otpBurnDoneEffect d).mem = true := by
  intro hm; unfold otpBurnDoneEffect; split
  · exact hm
  · dsimp only; (repeat' split) <;> simp (maxDischargeDepth := 30) [*]

@[simp] theorem lcTestWrite_kept (h : Hart) (v : Word) (f : Device → Device) (d : Device) (hf : ∀ e, (f e).mem = e.mem ∧ (f e).lc.otp = e.lc.otp ∧ SamePolicy (f e) e) :
    (lcTestWrite h v f d).mem = d.mem ∧ (lcTestWrite h v f d).lc.otp = d.lc.otp ∧ SamePolicy (lcTestWrite h v f d) d := by
  unfold lcTestWrite; apply onlyHart_kept; intro e; (repeat' split) <;> simp [hf]

@[simp] theorem lcTestWrite_wf (h : Hart) (v : Word) (f : Device → Device) (d : Device) (hf : ∀ e, (Memory.wf e.mem = true → Memory.wf (f e).mem = true) ∧ (f e).lc.otp = e.lc.otp ∧ SamePolicy (f e) e) :
    (Memory.wf d.mem = true → Memory.wf (lcTestWrite h v f d).mem = true) ∧ (lcTestWrite h v f d).lc.otp = d.lc.otp ∧ SamePolicy (lcTestWrite h v f d) d := by
  unfold lcTestWrite; apply onlyHart_wf; intro e; refine ⟨fun h => ?_, ?_⟩ <;> (repeat' split) <;> simp (maxDischargeDepth := 30) [*]

@[simp] theorem mbistStart_kept (d : Device) :
    (mbistStart d).mem = d.mem ∧ (mbistStart d).lc.otp = d.lc.otp ∧ SamePolicy (mbistStart d) d := by simp [mbistStart]

@[simp] theorem mramTested_wf (d : Device) :
    (Memory.wf d.mem = true → Memory.wf (mramTested d).mem = true) ∧ (mramTested d).lc.otp = d.lc.otp ∧ SamePolicy (mramTested d) d := by
  refine ⟨fun h => ?_, ?_⟩ <;> simp (maxDischargeDepth := 30) [mramTested, *]

@[simp] theorem testActions_wf (v : Word) (rises : Bool) (d : Device) :
    (Memory.wf d.mem = true → Memory.wf (testActions v rises d).mem = true) ∧ (testActions v rises d).lc.otp = d.lc.otp ∧ SamePolicy (testActions v rises d) d := by
  refine ⟨fun h => ?_, ?_⟩ <;> simp (maxDischargeDepth := 30) [testActions, *]

@[simp] theorem scanAllowEffect_wf (h : Hart) (v : Word) (d : Device) :
    (Memory.wf d.mem = true → Memory.wf (scanAllowEffect h v d).mem = true) ∧ (scanAllowEffect h v d).lc.otp = d.lc.otp ∧ SamePolicy (scanAllowEffect h v d) d := by
  unfold scanAllowEffect; apply lcTestWrite_wf; intros; refine ⟨fun h => ?_, ?_⟩ <;> simp (maxDischargeDepth := 30) [*]

@[simp] theorem mbistGoEffect_wf (h : Hart) (v : Word) (d : Device) :
    (Memory.wf d.mem = true → Memory.wf (mbistGoEffect h v d).mem = true) ∧ (mbistGoEffect h v d).lc.otp = d.lc.otp ∧ SamePolicy (mbistGoEffect h v d) d := by
  unfold mbistGoEffect; apply lcTestWrite_wf; intros; refine ⟨fun h => ?_, ?_⟩ <;> simp (maxDischargeDepth := 30) [*]

@[simp] theorem mramTestEffect_wf (h : Hart) (v : Word) (d : Device) :
    (Memory.wf d.mem = true → Memory.wf (mramTestEffect h v d).mem = true) ∧ (mramTestEffect h v d).lc.otp = d.lc.otp ∧ SamePolicy (mramTestEffect h v d) d := by
  unfold mramTestEffect; apply lcTestWrite_wf; intros; refine ⟨fun h => ?_, ?_⟩ <;> simp (maxDischargeDepth := 30) [*]

@[simp] theorem scrambledBbram_kept (d : Device) :
    (scrambledBbram d).mem = d.mem ∧ (scrambledBbram d).lc.otp = d.lc.otp ∧ SamePolicy (scrambledBbram d) d := by simp [scrambledBbram]

@[simp] theorem mbistDestroys_wf (target : Nat) (d : Device) :
    (Memory.wf d.mem = true → Memory.wf (mbistDestroys target d).mem = true) ∧ (mbistDestroys target d).lc.otp = d.lc.otp ∧ SamePolicy (mbistDestroys target d) d := by
  refine ⟨fun h => ?_, ?_⟩ <;> (unfold mbistDestroys; (try dsimp only); (repeat' split) <;> simp (maxDischargeDepth := 30) [*])

@[simp] theorem mbistDoneEffect_wf (failed : Bool) (d : Device) :
    (Memory.wf d.mem = true → Memory.wf (mbistDoneEffect failed d).mem = true) ∧ (mbistDoneEffect failed d).lc.otp = d.lc.otp ∧ SamePolicy (mbistDoneEffect failed d) d := by
  refine ⟨fun h => ?_, ?_⟩ <;> simp (maxDischargeDepth := 30) [mbistDoneEffect, *]

@[simp] theorem scanExitEffect_wf (d : Device) :
    (Memory.wf d.mem = true → Memory.wf (scanExitEffect d).mem = true) ∧ (scanExitEffect d).lc.otp = d.lc.otp := by
  refine ⟨fun h => ?_, ?_⟩ <;> simp (maxDischargeDepth := 30) [scanExitEffect, *]

@[simp] theorem testEnFallEffect_wf (d : Device) :
    (Memory.wf d.mem = true → Memory.wf (testEnFallEffect d).mem = true) ∧ (testEnFallEffect d).lc.otp = d.lc.otp := by
  refine ⟨fun h => ?_, ?_⟩ <;> simp (maxDischargeDepth := 30) [testEnFallEffect, *]

@[simp] theorem testEnRiseEffect_kept (d : Device) :
    (testEnRiseEffect d).mem = d.mem ∧ (testEnRiseEffect d).lc.otp = d.lc.otp ∧ SamePolicy (testEnRiseEffect d) d := by
  simp [testEnRiseEffect]

@[simp] theorem modDb_kept (f : Booth → Booth) (d : Device) :
    (modDb f d).mem = d.mem ∧ (modDb f d).lc.otp = d.lc.otp ∧ SamePolicy (modDb f d) d := by simp [modDb]

@[simp] theorem boothWrite_kept (owner : Nat) (src : BoothSrc) (addr : Nat) (f : Device → Device) (d : Device) (hf : ∀ e, (f e).mem = e.mem ∧ (f e).lc.otp = e.lc.otp ∧ SamePolicy (f e) e) :
    (boothWrite owner src addr f d).mem = d.mem ∧ (boothWrite owner src addr f d).lc.otp = d.lc.otp ∧ SamePolicy (boothWrite owner src addr f d) d := by
  unfold boothWrite; (repeat' split) <;> simp [hf]

@[simp] theorem boothWrite_wf (owner : Nat) (src : BoothSrc) (addr : Nat) (f : Device → Device) (d : Device) (hf : ∀ e, (Memory.wf e.mem = true → Memory.wf (f e).mem = true) ∧ (f e).lc.otp = e.lc.otp ∧ SamePolicy (f e) e) :
    (Memory.wf d.mem = true → Memory.wf (boothWrite owner src addr f d).mem = true) ∧ (boothWrite owner src addr f d).lc.otp = d.lc.otp ∧ SamePolicy (boothWrite owner src addr f d) d := by
  unfold boothWrite; split
  · refine ⟨fun hm => ?_, ?_⟩ <;> split <;> simp [*]
  · exact onlyHart_wf _ _ _ _ _ _ hf

@[simp] theorem issueChallenge_kept (d : Device) :
    (issueChallenge d).mem = d.mem ∧ (issueChallenge d).lc.otp = d.lc.otp ∧ SamePolicy (issueChallenge d) d := by simp [issueChallenge]

@[simp] theorem dbChallengeEffect_kept (src : BoothSrc) (d : Device) :
    (dbChallengeEffect src d).mem = d.mem ∧ (dbChallengeEffect src d).lc.otp = d.lc.otp ∧ SamePolicy (dbChallengeEffect src d) d := by
  unfold dbChallengeEffect; apply boothWrite_kept; intros; simp

@[simp] theorem ticketFails_kept (source result : Nat) (t : List Byte) (d : Device) :
    (ticketFails source result t d).mem = d.mem ∧ (ticketFails source result t d).lc.otp = d.lc.otp ∧ SamePolicy (ticketFails source result t d) d := by
  simp [ticketFails]

@[simp] theorem submitTicket_kept (source : Nat) (t : List Byte) (d : Device) :
    (submitTicket source t d).mem = d.mem ∧ (submitTicket source t d).lc.otp = d.lc.otp ∧ SamePolicy (submitTicket source t d) d := by
  simp [submitTicket]

@[simp] theorem dbSubmitEffect_kept (src : BoothSrc) (d : Device) :
    (dbSubmitEffect src d).mem = d.mem ∧ (dbSubmitEffect src d).lc.otp = d.lc.otp ∧ SamePolicy (dbSubmitEffect src d) d := by
  unfold dbSubmitEffect; apply boothWrite_kept; intros; simp

@[simp] theorem vaultLock_kept (d : Device) :
    (vaultLock d).mem = d.mem ∧ (vaultLock d).lc.otp = d.lc.otp ∧ SamePolicy (vaultLock d) d := by simp [vaultLock]

@[simp] theorem openLevel_kept (value keyKind keySlot : Nat) (digest : List Byte) (d : Device) :
    (openLevel value keyKind keySlot digest d).mem = d.mem ∧ (openLevel value keyKind keySlot digest d).lc.otp = d.lc.otp ∧ SamePolicy (openLevel value keyKind keySlot digest d) d := by
  simp [openLevel]

@[simp] theorem ticketPasses_kept (t : List Byte) (d : Device) :
    (ticketPasses t d).mem = d.mem ∧ (ticketPasses t d).lc.otp = d.lc.otp ∧ SamePolicy (ticketPasses t d) d := by simp [ticketPasses]

@[simp] theorem ticketVerifyDoneEffect_kept (d : Device) :
    (ticketVerifyDoneEffect d).mem = d.mem ∧ (ticketVerifyDoneEffect d).lc.otp = d.lc.otp ∧ SamePolicy (ticketVerifyDoneEffect d) d := by
  unfold ticketVerifyDoneEffect; (repeat' split) <;> simp

@[simp] theorem closeDebug_kept (source : Nat) (d : Device) :
    (closeDebug source d).mem = d.mem ∧ (closeDebug source d).lc.otp = d.lc.otp ∧ SamePolicy (closeDebug source d) d := by simp [closeDebug]

@[simp] theorem dbCloseEffect_kept (src : BoothSrc) (d : Device) :
    (dbCloseEffect src d).mem = d.mem ∧ (dbCloseEffect src d).lc.otp = d.lc.otp ∧ SamePolicy (dbCloseEffect src d) d := by
  unfold dbCloseEffect; apply boothWrite_kept; intros; simp

@[simp] theorem dbRequestEffect_kept (level : Nat) (d : Device) :
    (dbRequestEffect level d).mem = d.mem ∧ (dbRequestEffect level d).lc.otp = d.lc.otp ∧ SamePolicy (dbRequestEffect level d) d := by
  simp [dbRequestEffect]

@[simp] theorem ticketWord_kept (v : Word) (d : Device) :
    (ticketWord v d).mem = d.mem ∧ (ticketWord v d).lc.otp = d.lc.otp ∧ SamePolicy (ticketWord v d) d := by simp [ticketWord]

@[simp] theorem tktDataWriteEffect_kept (src : BoothSrc) (v : Word) (d : Device) :
    (tktDataWriteEffect src v d).mem = d.mem ∧ (tktDataWriteEffect src v d).lc.otp = d.lc.otp ∧ SamePolicy (tktDataWriteEffect src v d) d := by
  unfold tktDataWriteEffect; apply boothWrite_kept; intros; simp

@[simp] theorem modCd_kept (f : CardPort → CardPort) (d : Device) :
    (modCd f d).mem = d.mem ∧ (modCd f d).lc.otp = d.lc.otp ∧ SamePolicy (modCd f d) d := by simp [modCd]

@[simp] theorem modCs_kept (f : CardStat → CardStat) (d : Device) :
    (modCs f d).mem = d.mem ∧ (modCs f d).lc.otp = d.lc.otp ∧ SamePolicy (modCs f d) d := by simp [modCs]

@[simp] theorem cardEnd_kept (outcome : Nat) (d : Device) :
    (cardEnd outcome d).mem = d.mem ∧ (cardEnd outcome d).lc.otp = d.lc.otp ∧ SamePolicy (cardEnd outcome d) d := by simp [cardEnd]

@[simp] theorem sendBlock_wf (d : Device) :
    (Memory.wf d.mem = true → Memory.wf (sendBlock d).mem = true) ∧ (sendBlock d).lc.otp = d.lc.otp ∧ SamePolicy (sendBlock d) d := by
  refine ⟨fun h => ?_, ?_⟩ <;> simp (maxDischargeDepth := 30) [sendBlock, *]

@[simp] theorem afterResponse_wf (d : Device) :
    (Memory.wf d.mem = true → Memory.wf (afterResponse d).mem = true) ∧ (afterResponse d).lc.otp = d.lc.otp ∧ SamePolicy (afterResponse d) d := by
  refine ⟨fun h => ?_, ?_⟩ <;> simp (maxDischargeDepth := 30) [afterResponse, *]

@[simp] theorem cardWrite_kept (h : Hart) (addr : Nat) (f : Device → Device) (d : Device) (hf : ∀ e, (f e).mem = e.mem ∧ (f e).lc.otp = e.lc.otp ∧ SamePolicy (f e) e) :
    (cardWrite h addr f d).mem = d.mem ∧ (cardWrite h addr f d).lc.otp = d.lc.otp ∧ SamePolicy (cardWrite h addr f d) d := by
  unfold cardWrite; apply hartWrite_kept; intro e; (repeat' split) <;> simp [hf]

@[simp] theorem beginCommand_wf (waits : Bool) (d : Device) :
    (Memory.wf d.mem = true → Memory.wf (beginCommand waits d).mem = true) ∧ (beginCommand waits d).lc.otp = d.lc.otp ∧ SamePolicy (beginCommand waits d) d := by
  refine ⟨fun h => ?_, ?_⟩ <;> simp (maxDischargeDepth := 30) [beginCommand, *]

@[simp] theorem cardWrite_wf (h : Hart) (addr : Nat) (f : Device → Device) (d : Device) (hf : ∀ e, (Memory.wf e.mem = true → Memory.wf (f e).mem = true) ∧ (f e).lc.otp = e.lc.otp ∧ SamePolicy (f e) e) :
    (Memory.wf d.mem = true → Memory.wf (cardWrite h addr f d).mem = true) ∧ (cardWrite h addr f d).lc.otp = d.lc.otp ∧ SamePolicy (cardWrite h addr f d) d := by
  unfold cardWrite; apply hartWrite_wf; intro e; refine ⟨fun h => ?_, ?_⟩ <;> (repeat' split) <;> simp (maxDischargeDepth := 30) [*]

@[simp] theorem cardCommandIssueEffect_wf (h : Hart) (v : Word) (d : Device) :
    (Memory.wf d.mem = true → Memory.wf (cardCommandIssueEffect h v d).mem = true) ∧ (cardCommandIssueEffect h v d).lc.otp = d.lc.otp ∧ SamePolicy (cardCommandIssueEffect h v d) d := by
  unfold cardCommandIssueEffect; apply cardWrite_wf; intros; refine ⟨fun h => ?_, ?_⟩ <;> simp (maxDischargeDepth := 30) [*]

@[simp] theorem latchCsd_kept (bits : List Byte) (d : Device) :
    (latchCsd bits d).mem = d.mem ∧ (latchCsd bits d).lc.otp = d.lc.otp ∧ SamePolicy (latchCsd bits d) d := by simp [latchCsd]

@[simp] theorem cardResponseEffect_wf (bits : List Byte) (crcOk : Bool) (d : Device) :
    (Memory.wf d.mem = true → Memory.wf (cardResponseEffect bits crcOk d).mem = true) ∧ (cardResponseEffect bits crcOk d).lc.otp = d.lc.otp ∧ SamePolicy (cardResponseEffect bits crcOk d) d := by
  refine ⟨fun h => ?_, ?_⟩ <;> simp (maxDischargeDepth := 30) [cardResponseEffect, *]

@[simp] theorem cardResponseTimeoutEffect_wf (d : Device) :
    (Memory.wf d.mem = true → Memory.wf (cardResponseTimeoutEffect d).mem = true) ∧ (cardResponseTimeoutEffect d).lc.otp = d.lc.otp ∧ SamePolicy (cardResponseTimeoutEffect d) d := by
  refine ⟨fun h => ?_, ?_⟩ <;> simp (maxDischargeDepth := 30) [cardResponseTimeoutEffect, *]

@[simp] theorem cardDataBlockEffect_wf (data : List Byte) (crcOk : Bool) (d : Device) :
    (Memory.wf d.mem = true → Memory.wf (cardDataBlockEffect data crcOk d).mem = true) ∧ (cardDataBlockEffect data crcOk d).lc.otp = d.lc.otp ∧ SamePolicy (cardDataBlockEffect data crcOk d) d := by
  refine ⟨fun h => ?_, ?_⟩ <;> simp (maxDischargeDepth := 30) [cardDataBlockEffect, *]

@[simp] theorem cardDataTimeoutEffect_kept (d : Device) :
    (cardDataTimeoutEffect d).mem = d.mem ∧ (cardDataTimeoutEffect d).lc.otp = d.lc.otp ∧ SamePolicy (cardDataTimeoutEffect d) d := by
  simp [cardDataTimeoutEffect]

@[simp] theorem cardCrcStatusTokenEffect_kept (token : Nat) (d : Device) :
    (cardCrcStatusTokenEffect token d).mem = d.mem ∧ (cardCrcStatusTokenEffect token d).lc.otp = d.lc.otp ∧ SamePolicy (cardCrcStatusTokenEffect token d) d := by
  simp [cardCrcStatusTokenEffect]

@[simp] theorem cardBusyEndEffect_wf (d : Device) :
    (Memory.wf d.mem = true → Memory.wf (cardBusyEndEffect d).mem = true) ∧ (cardBusyEndEffect d).lc.otp = d.lc.otp ∧ SamePolicy (cardBusyEndEffect d) d := by
  refine ⟨fun h => ?_, ?_⟩ <;> simp (maxDischargeDepth := 30) [cardBusyEndEffect, *]

@[simp] theorem cardBusyTimeoutEffect_kept (d : Device) :
    (cardBusyTimeoutEffect d).mem = d.mem ∧ (cardBusyTimeoutEffect d).lc.otp = d.lc.otp ∧ SamePolicy (cardBusyTimeoutEffect d) d := by
  simp [cardBusyTimeoutEffect]

@[simp] theorem cardWriteDetectHoldEffect_kept (d : Device) :
    (cardWriteDetectHoldEffect d).mem = d.mem ∧ (cardWriteDetectHoldEffect d).lc.otp = d.lc.otp ∧ SamePolicy (cardWriteDetectHoldEffect d) d := by
  simp [cardWriteDetectHoldEffect]

@[simp] theorem slotPower_kept (s : Nat) (on : Bool) (d : Device) :
    (slotPower s on d).mem = d.mem ∧ (slotPower s on d).lc.otp = d.lc.otp ∧ SamePolicy (slotPower s on d) d := by simp [slotPower]

@[simp] theorem slotPowerSettledEffect_wf (s : Slot) (d : Device) :
    (Memory.wf d.mem = true → Memory.wf (slotPowerSettledEffect s d).mem = true) ∧ (slotPowerSettledEffect s d).lc.otp = d.lc.otp ∧ SamePolicy (slotPowerSettledEffect s d) d := by
  refine ⟨fun h => ?_, ?_⟩ <;> (unfold slotPowerSettledEffect; (try dsimp only); (repeat' split) <;> simp (maxDischargeDepth := 30) [*])

@[simp] theorem cardPowerOffEndEffect_kept (s : Slot) (d : Device) :
    (cardPowerOffEndEffect s d).mem = d.mem ∧ (cardPowerOffEndEffect s d).lc.otp = d.lc.otp ∧ SamePolicy (cardPowerOffEndEffect s d) d := by
  simp [cardPowerOffEndEffect]

@[simp] theorem cardResetEffect_kept (cause : Nat) (d : Device) :
    (cardResetEffect cause d).mem = d.mem ∧ (cardResetEffect cause d).lc.otp = d.lc.otp ∧ SamePolicy (cardResetEffect cause d) d := by
  simp [cardResetEffect]

@[simp] theorem portEmptied_kept (d : Device) :
    (portEmptied d).mem = d.mem ∧ (portEmptied d).lc.otp = d.lc.otp ∧ SamePolicy (portEmptied d) d := by simp [portEmptied]

@[simp] theorem cardRemovedEffect_kept (s : Slot) (d : Device) :
    (cardRemovedEffect s d).mem = d.mem ∧ (cardRemovedEffect s d).lc.otp = d.lc.otp ∧ SamePolicy (cardRemovedEffect s d) d := by
  simp [cardRemovedEffect]

@[simp] theorem unsupported_kept (s reason : Nat) (d : Device) :
    (unsupported s reason d).mem = d.mem ∧ (unsupported s reason d).lc.otp = d.lc.otp ∧ SamePolicy (unsupported s reason d) d := by
  simp [unsupported]

@[simp] theorem identified_kept (s : Nat) (c : Card) (d : Device) :
    (identified s c d).mem = d.mem ∧ (identified s c d).lc.otp = d.lc.otp ∧ SamePolicy (identified s c d) d := by simp [identified]

@[simp] theorem keepAck_kept (a : Option (Nat × List Byte)) (d : Device) :
    (keepAck a d).mem = d.mem ∧ (keepAck a d).lc.otp = d.lc.otp ∧ SamePolicy (keepAck a d) d := by simp [keepAck]

@[simp] theorem cardAck_wf (s : Nat × List Byte) (d : Device) :
    (Memory.wf d.mem = true → Memory.wf (cardAck s d).mem = true) ∧ (cardAck s d).lc.otp = d.lc.otp ∧ SamePolicy (cardAck s d) d := by
  refine ⟨fun h => ?_, ?_⟩ <;> simp (maxDischargeDepth := 30) [cardAck, *]

@[simp] theorem cardAcknowledge_wf (slots : List (Nat × List Byte)) (r : Device × Option Nat) :
    (Memory.wf r.1.mem = true → Memory.wf (cardAcknowledge slots r).1.mem = true) ∧ (cardAcknowledge slots r).1.lc.otp = r.1.lc.otp ∧ SamePolicy (cardAcknowledge slots r).1 r.1 := by
  unfold cardAcknowledge; refine ⟨fun h => ?_, ?_⟩ <;> (try dsimp only) <;> (repeat' split) <;> simp (maxDischargeDepth := 30) [*]

@[simp] theorem exportSheets_wf (c : Card) (cardId : List Byte) (first total n : Nat) (x : Export) :
    (Memory.wf x.dev.mem = true → Memory.wf (exportSheets c cardId first total n x).2.dev.mem = true) ∧ (exportSheets c cardId first total n x).2.dev.lc.otp = x.dev.lc.otp ∧ SamePolicy (exportSheets c cardId first total n x).2.dev x.dev := by
  induction n generalizing x with
  | zero => exact ⟨id, rfl, rfl, rfl, rfl, rfl⟩
  | succ n ih =>
    have g := fun i sl ak => wf_trans (cardAcknowledge_wf sl (readErrors i 0x2000 x.dev, ak)) (readErrors_wf i 0x2000 x.dev)
    have r := wf_refl x.dev
    unfold exportSheets; dsimp only; split
    · split <;> exact r
    · split
      · exact r
      · split
        · exact r
        · split
          · exact r
          · split
            · exact readErrors_wf _ _ _
            · exact wf_trans (ih _) (g _ _ _)

@[simp] theorem cardError_kept (s : Nat) (d : Device) :
    (cardError s d).mem = d.mem ∧ (cardError s d).lc.otp = d.lc.otp ∧ SamePolicy (cardError s d) d := by simp [cardError]

@[simp] theorem modCard_kept (s : Nat) (f : Card → Card) (d : Device) :
    (modCard s f d).mem = d.mem ∧ (modCard s f d).lc.otp = d.lc.otp ∧ SamePolicy (modCard s f d) d := by simp [modCard]

@[simp] theorem cardWrote_kept (s : Nat) (out : List (Nat × List Byte)) (d : Device) :
    (cardWrote s out d).mem = d.mem ∧ (cardWrote s out d).lc.otp = d.lc.otp ∧ SamePolicy (cardWrote s out d) d := by simp [cardWrote]

@[simp] theorem exportEnds_kept (s outcome written : Nat) (acked : Option Nat) (d : Device) :
    (exportEnds s outcome written acked d).mem = d.mem ∧ (exportEnds s outcome written acked d).lc.otp = d.lc.otp ∧ SamePolicy (exportEnds s outcome written acked d) d := by
  simp [exportEnds]

@[simp] theorem cardExport_wf (s : Nat) (c : Card) (d : Device) :
    (Memory.wf d.mem = true → Memory.wf (cardExport s c d).mem = true) ∧ (cardExport s c d).lc.otp = d.lc.otp ∧ SamePolicy (cardExport s c d) d := by
  unfold cardExport; dsimp only; refine ⟨fun hm => ?_, ?_⟩ <;> (repeat' split) <;> simp (maxDischargeDepth := 30) [*]

@[simp] theorem objectEnds_kept (s kind len outcome : Nat) (d : Device) :
    (objectEnds s kind len outcome d).mem = d.mem ∧ (objectEnds s kind len outcome d).lc.otp = d.lc.otp ∧ SamePolicy (objectEnds s kind len outcome d) d := by simp [objectEnds]

@[simp] theorem consumeObject_wf (s : Nat) (c : Card) (kind : Nat) (obj : List Byte) (d : Device) :
    (Memory.wf d.mem = true → Memory.wf (consumeObject s c kind obj d).mem = true) ∧ (consumeObject s c kind obj d).lc.otp = d.lc.otp := by
  refine ⟨fun h => ?_, ?_⟩ <;> (unfold consumeObject; (try dsimp only); (repeat' split) <;> simp (maxDischargeDepth := 30) [*])

@[simp] theorem cardRecovery_wf (s : Nat) (c : Card) (first : Nat) (d : Device) :
    (Memory.wf d.mem = true → Memory.wf (cardRecovery s c first d).mem = true) ∧ (cardRecovery s c first d).lc.otp = d.lc.otp := by
  refine ⟨fun h => ?_, ?_⟩ <;> (unfold cardRecovery; (try dsimp only); (repeat' split) <;> simp (maxDischargeDepth := 30) [*])

@[simp] theorem cardTicket_kept (s : Nat) (c : Card) (first blocks : Nat) (d : Device) :
    (cardTicket s c first blocks d).mem = d.mem ∧ (cardTicket s c first blocks d).lc.otp = d.lc.otp ∧ SamePolicy (cardTicket s c first blocks d) d := by
  unfold cardTicket; (repeat' split) <;> simp

@[simp] theorem serveCard_wf (s : Nat) (c : Card) (d : Device) :
    (Memory.wf d.mem = true → Memory.wf (serveCard s c d).mem = true) ∧ (serveCard s c d).lc.otp = d.lc.otp := by
  refine ⟨fun h => ?_, ?_⟩ <;> simp (maxDischargeDepth := 30) [serveCard, *]

@[simp] theorem identifyCard_wf (s : Nat) (c : Card) (d : Device) :
    (Memory.wf d.mem = true → Memory.wf (identifyCard s c d).mem = true) ∧ (identifyCard s c d).lc.otp = d.lc.otp := by
  refine ⟨fun h => ?_, ?_⟩ <;> simp (maxDischargeDepth := 30) [identifyCard, *]

@[simp] theorem romCard_wf (c : Card) (d : Device) :
    (Memory.wf d.mem = true → Memory.wf (romCard c d).mem = true) ∧ (romCard c d).lc.otp = d.lc.otp ∧ SamePolicy (romCard c d) d := by
  refine ⟨fun h => ?_, ?_⟩ <;> (unfold romCard; (try dsimp only); (repeat' split) <;> simp (maxDischargeDepth := 30) [*])

@[simp] theorem slotBegins_kept (s : Nat) (d : Device) :
    (slotBegins s d).mem = d.mem ∧ (slotBegins s d).lc.otp = d.lc.otp ∧ SamePolicy (slotBegins s d) d := by simp [slotBegins]

theorem bringOn_wf (s : Nat) (serve : Card → Device → Device) (d : Device)
    (hs : ∀ c e, (Memory.wf e.mem = true → Memory.wf (serve c e).mem = true) ∧ (serve c e).lc.otp = e.lc.otp) :
    (Memory.wf d.mem = true → Memory.wf (bringOn s serve d).mem = true) ∧ (bringOn s serve d).lc.otp = d.lc.otp := by
  refine ⟨fun h => ?_, ?_⟩ <;> (unfold bringOn; (repeat' split) <;> simp (maxDischargeDepth := 30) [*])

@[simp] theorem cardTurn_wf (d : Device) :
    (Memory.wf d.mem = true → Memory.wf (cardTurn d).mem = true) ∧ (cardTurn d).lc.otp = d.lc.otp := by
  have hb := fun s e => bringOn_wf s (identifyCard s) e (fun c e => identifyCard_wf s c e)
  have hr := fun s e => bringOn_wf s romCard e (fun c e => ⟨(romCard_wf c e).1, (romCard_wf c e).2.1⟩)
  refine ⟨fun h => ?_, ?_⟩ <;> (unfold cardTurn; dsimp only; (repeat' split) <;> simp (maxDischargeDepth := 30) [*])

@[simp] theorem cardInserted_wf (s : Slot) (c : Card) (d : Device) :
    (Memory.wf d.mem = true → Memory.wf (cardInserted s c d).mem = true) ∧ (cardInserted s c d).lc.otp = d.lc.otp := by
  refine ⟨fun h => ?_, ?_⟩ <;> simp (maxDischargeDepth := 30) [cardInserted, *]

@[simp] theorem modPw_kept (f : Power → Power) (d : Device) :
    (modPw f d).mem = d.mem ∧ (modPw f d).lc.otp = d.lc.otp ∧ SamePolicy (modPw f d) d := by simp [modPw]

@[simp] theorem modPins_kept (f : Pins → Pins) (d : Device) :
    (modPins f d).mem = d.mem ∧ (modPins f d).lc.otp = d.lc.otp ∧ SamePolicy (modPins f d) d := by simp [modPins]

@[simp] theorem wipeCut_wf (d : Device) :
    (Memory.wf d.mem = true → Memory.wf (wipeCut d).mem = true) ∧ (wipeCut d).lc.otp = d.lc.otp ∧ SamePolicy (wipeCut d) d := by
  refine ⟨fun h => ?_, ?_⟩ <;> (unfold wipeCut; (try dsimp only); (repeat' split) <;> simp (maxDischargeDepth := 30) [*])

@[simp] theorem resumeMirror_kept (d : Device) :
    (resumeMirror d).mem = d.mem ∧ (resumeMirror d).lc.otp = d.lc.otp ∧ SamePolicy (resumeMirror d) d := by simp [resumeMirror]

@[simp] theorem stbyReset_wf (d : Device) :
    (Memory.wf d.mem = true → Memory.wf (stbyReset d).mem = true) ∧ (stbyReset d).lc.otp = d.lc.otp := by
  refine ⟨fun h => ?_, ?_⟩ <;> simp (maxDischargeDepth := 30) [stbyReset, *]

@[simp] theorem vstbyPowerOnEffect_wf (vbat strap : Bool) (d : Device) :
    (Memory.wf d.mem = true → Memory.wf (vstbyPowerOnEffect vbat strap d).mem = true) ∧ (vstbyPowerOnEffect vbat strap d).lc.otp = d.lc.otp := by
  refine ⟨fun h => ?_, ?_⟩ <;> simp (maxDischargeDepth := 30) [vstbyPowerOnEffect, *]

@[simp] theorem xtalStableEffect_wf (d : Device) :
    (Memory.wf d.mem = true → Memory.wf (xtalStableEffect d).mem = true) ∧ (xtalStableEffect d).lc.otp = d.lc.otp ∧ SamePolicy (xtalStableEffect d) d := by
  refine ⟨fun h => ?_, ?_⟩ <;> simp (maxDischargeDepth := 30) [xtalStableEffect, *]

@[simp] theorem mainPgAssertEffect_wf (d : Device) :
    (Memory.wf d.mem = true → Memory.wf (mainPgAssertEffect d).mem = true) ∧ (mainPgAssertEffect d).lc.otp = d.lc.otp ∧ SamePolicy (mainPgAssertEffect d) d := by
  refine ⟨fun h => ?_, ?_⟩ <;> simp (maxDischargeDepth := 30) [mainPgAssertEffect, *]

@[simp] theorem mainPgDeassertEffect_wf (d : Device) :
    (Memory.wf d.mem = true → Memory.wf (mainPgDeassertEffect d).mem = true) ∧ (mainPgDeassertEffect d).lc.otp = d.lc.otp := by
  refine ⟨fun h => ?_, ?_⟩ <;> simp (maxDischargeDepth := 30) [mainPgDeassertEffect, *]

@[simp] theorem railsLost_wf (mv ticks : Nat) (d : Device) :
    (Memory.wf d.mem = true → Memory.wf (railsLost mv ticks d).mem = true) ∧ (railsLost mv ticks d).lc.otp = d.lc.otp := by
  refine ⟨fun h => ?_, ?_⟩ <;> simp (maxDischargeDepth := 30) [railsLost, *]

@[simp] theorem mainRailLossEffect_wf (mv ticks : Nat) (d : Device) :
    (Memory.wf d.mem = true → Memory.wf (mainRailLossEffect mv ticks d).mem = true) ∧ (mainRailLossEffect mv ticks d).lc.otp = d.lc.otp := by
  refine ⟨fun h => ?_, ?_⟩ <;> simp (maxDischargeDepth := 30) [mainRailLossEffect, *]

@[simp] theorem mainRailsUpEffect_wf (d : Device) :
    (Memory.wf d.mem = true → Memory.wf (mainRailsUpEffect d).mem = true) ∧ (mainRailsUpEffect d).lc.otp = d.lc.otp ∧ SamePolicy (mainRailsUpEffect d) d := by
  refine ⟨fun h => ?_, ?_⟩ <;> simp (maxDischargeDepth := 30) [mainRailsUpEffect, *]

@[simp] theorem vcoreLowExcursionEffect_kept (mv : Nat) (d : Device) :
    (vcoreLowExcursionEffect mv d).mem = d.mem ∧ (vcoreLowExcursionEffect mv d).lc.otp = d.lc.otp ∧ SamePolicy (vcoreLowExcursionEffect mv d) d := by
  simp [vcoreLowExcursionEffect]

@[simp] theorem vcoreExcursionEndEffect_kept (ticks : Nat) (d : Device) :
    (vcoreExcursionEndEffect ticks d).mem = d.mem ∧ (vcoreExcursionEndEffect ticks d).lc.otp = d.lc.otp ∧ SamePolicy (vcoreExcursionEndEffect ticks d) d := by
  unfold vcoreExcursionEndEffect; (repeat' split) <;> simp

@[simp] theorem vcoreBrownOutEffect_wf (mv ticks : Nat) (d : Device) :
    (Memory.wf d.mem = true → Memory.wf (vcoreBrownOutEffect mv ticks d).mem = true) ∧ (vcoreBrownOutEffect mv ticks d).lc.otp = d.lc.otp := by
  refine ⟨fun h => ?_, ?_⟩ <;> simp (maxDischargeDepth := 30) [vcoreBrownOutEffect, *]

/-- A burn cut off leaves memory alone. -/
@[simp] theorem burnCut_mem (d : Device) : (burnCut d).mem = d.mem := by
  unfold burnCut; (repeat' split) <;> simp

@[simp] theorem vstbyFallEffect_wf (vbat : Bool) (d : Device) :
    Memory.wf d.mem = true → Memory.wf (vstbyFallEffect vbat d).mem = true := by
  intro hm; unfold vstbyFallEffect; dsimp only; (repeat' split) <;> simp (maxDischargeDepth := 30) [*]

@[simp] theorem vbatLevelChangeEffect_kept (ok : Bool) (d : Device) :
    (vbatLevelChangeEffect ok d).mem = d.mem ∧ (vbatLevelChangeEffect ok d).lc.otp = d.lc.otp ∧ SamePolicy (vbatLevelChangeEffect ok d) d := by
  simp [vbatLevelChangeEffect]

@[simp] theorem holdupOkChangeEffect_kept (ok : Bool) (d : Device) :
    (holdupOkChangeEffect ok d).mem = d.mem ∧ (holdupOkChangeEffect ok d).lc.otp = d.lc.otp ∧ SamePolicy (holdupOkChangeEffect ok d) d := by
  simp [holdupOkChangeEffect]

@[simp] theorem wake_wf (src ticks : Nat) (d : Device) :
    (Memory.wf d.mem = true → Memory.wf (wake src ticks d).mem = true) ∧ (wake src ticks d).lc.otp = d.lc.otp := by
  refine ⟨fun h => ?_, ?_⟩ <;> simp (maxDischargeDepth := 30) [wake, *]

@[simp] theorem wakeSource_wf (src ticks : Nat) (d : Device) :
    (Memory.wf d.mem = true → Memory.wf (wakeSource src ticks d).mem = true) ∧ (wakeSource src ticks d).lc.otp = d.lc.otp := by
  refine ⟨fun h => ?_, ?_⟩ <;> (unfold wakeSource; (repeat' split) <;> simp (maxDischargeDepth := 30) [*])

@[simp] theorem wakeEventEffect_wf (source ticks : Nat) (d : Device) :
    (Memory.wf d.mem = true → Memory.wf (wakeEventEffect source ticks d).mem = true) ∧ (wakeEventEffect source ticks d).lc.otp = d.lc.otp := by
  refine ⟨fun h => ?_, ?_⟩ <;> simp (maxDischargeDepth := 30) [wakeEventEffect, *]

@[simp] theorem wakeTimerExpiryEffect_wf (ticks : Nat) (d : Device) :
    (Memory.wf d.mem = true → Memory.wf (wakeTimerExpiryEffect ticks d).mem = true) ∧ (wakeTimerExpiryEffect ticks d).lc.otp = d.lc.otp := by
  refine ⟨fun h => ?_, ?_⟩ <;> simp (maxDischargeDepth := 30) [wakeTimerExpiryEffect, *]

@[simp] theorem recoverFilterAssertEffect_wf (d : Device) :
    (Memory.wf d.mem = true → Memory.wf (recoverFilterAssertEffect d).mem = true) ∧ (recoverFilterAssertEffect d).lc.otp = d.lc.otp := by
  refine ⟨fun h => ?_, ?_⟩ <;> simp (maxDischargeDepth := 30) [recoverFilterAssertEffect, *]

@[simp] theorem recoverFilterDeassertEffect_kept (ticks : Nat) (d : Device) :
    (recoverFilterDeassertEffect ticks d).mem = d.mem ∧ (recoverFilterDeassertEffect ticks d).lc.otp = d.lc.otp ∧ SamePolicy (recoverFilterDeassertEffect ticks d) d := by
  simp [recoverFilterDeassertEffect]

@[simp] theorem recoverSettledEffect_wf (d : Device) :
    (Memory.wf d.mem = true → Memory.wf (recoverSettledEffect d).mem = true) ∧ (recoverSettledEffect d).lc.otp = d.lc.otp ∧ SamePolicy (recoverSettledEffect d) d := by
  refine ⟨fun h => ?_, ?_⟩ <;> simp (maxDischargeDepth := 30) [recoverSettledEffect, *]

@[simp] theorem junctionReading_kept (temp : Nat) (d : Device) :
    (junctionReading temp d).mem = d.mem ∧ (junctionReading temp d).lc.otp = d.lc.otp ∧ SamePolicy (junctionReading temp d) d := by
  simp [junctionReading]

@[simp] theorem junctionHot_kept (temp : Nat) (d : Device) :
    (junctionHot temp d).mem = d.mem ∧ (junctionHot temp d).lc.otp = d.lc.otp ∧ SamePolicy (junctionHot temp d) d := by simp [junctionHot]

@[simp] theorem junctionWarningEffect_kept (temp : Nat) (d : Device) :
    (junctionWarningEffect temp d).mem = d.mem ∧ (junctionWarningEffect temp d).lc.otp = d.lc.otp ∧ SamePolicy (junctionWarningEffect temp d) d := by
  simp [junctionWarningEffect]

@[simp] theorem junctionTripEffect_kept (temp : Nat) (d : Device) :
    (junctionTripEffect temp d).mem = d.mem ∧ (junctionTripEffect temp d).lc.otp = d.lc.otp ∧ SamePolicy (junctionTripEffect temp d) d := by
  simp [junctionTripEffect]

@[simp] theorem junctionExcursionEndEffect_kept (temp : Nat) (d : Device) :
    (junctionExcursionEndEffect temp d).mem = d.mem ∧ (junctionExcursionEndEffect temp d).lc.otp = d.lc.otp ∧ SamePolicy (junctionExcursionEndEffect temp d) d := by
  simp [junctionExcursionEndEffect]

@[simp] theorem gpioEvent_kept (d : Device) :
    (gpioEvent d).mem = d.mem ∧ (gpioEvent d).lc.otp = d.lc.otp ∧ SamePolicy (gpioEvent d) d := by simp [gpioEvent]

@[simp] theorem gpioInputChangeEffect_wf (g : Gpio) (level : Bool) (d : Device) :
    (Memory.wf d.mem = true → Memory.wf (gpioInputChangeEffect g level d).mem = true) ∧ (gpioInputChangeEffect g level d).lc.otp = d.lc.otp := by
  refine ⟨fun h => ?_, ?_⟩ <;> simp (maxDischargeDepth := 30) [gpioInputChangeEffect, *]

@[simp] theorem cxPerstDeassertEffect_wf (d : Device) :
    (Memory.wf d.mem = true → Memory.wf (cxPerstDeassertEffect d).mem = true) ∧ (cxPerstDeassertEffect d).lc.otp = d.lc.otp := by
  refine ⟨fun h => ?_, ?_⟩ <;> simp (maxDischargeDepth := 30) [cxPerstDeassertEffect, *]

@[simp] theorem guardTick_kept (d : Device) :
    (guardTick d).mem = d.mem ∧ (guardTick d).lc.otp = d.lc.otp ∧ SamePolicy (guardTick d) d := by simp [guardTick]

@[simp] theorem mainTick_kept (d : Device) :
    (mainTick d).mem = d.mem ∧ (mainTick d).lc.otp = d.lc.otp ∧ SamePolicy (mainTick d) d := by simp [mainTick]

@[simp] theorem updateTurn_wf (d : Device) :
    (Memory.wf d.mem = true → Memory.wf (updateTurn d).mem = true) ∧ (updateTurn d).lc.otp = d.lc.otp ∧ SamePolicy (updateTurn d) d := by
  unfold updateTurn; refine ⟨fun h => ?_, ?_⟩ <;> (repeat' split) <;> simp (maxDischargeDepth := 30) [*]

@[simp] theorem firmwareTurn_wf (d : Device) :
    (Memory.wf d.mem = true → Memory.wf (firmwareTurn d).mem = true) ∧ (firmwareTurn d).lc.otp = d.lc.otp := by
  refine ⟨fun h => ?_, ?_⟩ <;> simp (maxDischargeDepth := 30) [firmwareTurn, *]

@[simp] theorem timeTick_kept (d : Device) :
    (timeTick d).mem = d.mem ∧ (timeTick d).lc.otp = d.lc.otp ∧ SamePolicy (timeTick d) d := by simp [timeTick]

@[simp] theorem operatingTimeTickEffect_wf (d : Device) :
    (Memory.wf d.mem = true → Memory.wf (operatingTimeTickEffect d).mem = true) ∧ (operatingTimeTickEffect d).lc.otp = d.lc.otp := by
  refine ⟨fun h => ?_, ?_⟩ <;> (unfold operatingTimeTickEffect; (repeat' split) <;> simp (maxDischargeDepth := 30) [*])

@[simp] theorem coreResetEffect_wf (h : Hart) (d : Device) :
    (Memory.wf d.mem = true → Memory.wf (coreResetEffect h d).mem = true) ∧ (coreResetEffect h d).lc.otp = d.lc.otp ∧ SamePolicy (coreResetEffect h d) d := by
  unfold coreResetEffect; apply onlyHart_wf; intros; refine ⟨fun h => ?_, ?_⟩ <;> simp (maxDischargeDepth := 30) [*]

@[simp] theorem watchdogExpiryEffect_wf (d : Device) :
    (Memory.wf d.mem = true → Memory.wf (watchdogExpiryEffect d).mem = true) ∧ (watchdogExpiryEffect d).lc.otp = d.lc.otp ∧ SamePolicy (watchdogExpiryEffect d) d := by
  refine ⟨fun h => ?_, ?_⟩ <;> simp (maxDischargeDepth := 30) [watchdogExpiryEffect, *]

@[simp] theorem watchdogKickEffect_kept (h : Hart) (v : Word) (d : Device) :
    (watchdogKickEffect h v d).mem = d.mem ∧ (watchdogKickEffect h v d).lc.otp = d.lc.otp ∧ SamePolicy (watchdogKickEffect h v d) d := by
  unfold watchdogKickEffect; apply onlyHart_kept; intros; simp

@[simp] theorem sleepBegins_kept (d : Device) :
    (sleepBegins d).mem = d.mem ∧ (sleepBegins d).lc.otp = d.lc.otp ∧ SamePolicy (sleepBegins d) d := by simp [sleepBegins]

@[simp] theorem sleepCtrl_wf (v : Word) (d : Device) :
    (Memory.wf d.mem = true → Memory.wf (sleepCtrl v d).mem = true) ∧ (sleepCtrl v d).lc.otp = d.lc.otp := by
  refine ⟨fun h => ?_, ?_⟩ <;> simp (maxDischargeDepth := 30) [sleepCtrl, *]

@[simp] theorem deepSleepEnterEffect_wf (h : Hart) (v : Word) (d : Device) :
    (Memory.wf d.mem = true → Memory.wf (deepSleepEnterEffect h v d).mem = true) ∧ (deepSleepEnterEffect h v d).lc.otp = d.lc.otp := by
  exact onlyHart_wfOtp _ _ _ _ _ _ (fun e => sleepCtrl_wf v e)

@[simp] theorem mainResetRequestEffect_wf (h : Hart) (v : Word) (d : Device) :
    (Memory.wf d.mem = true → Memory.wf (mainResetRequestEffect h v d).mem = true) ∧ (mainResetRequestEffect h v d).lc.otp = d.lc.otp := by
  exact onlyHart_wfOtp _ _ _ _ _ _ (fun e => sleepCtrl_wf v e)

@[simp] theorem conventionalResetFree_kept (d : Device) :
    (conventionalResetFree d).mem = d.mem ∧ (conventionalResetFree d).lc.otp = d.lc.otp ∧ SamePolicy (conventionalResetFree d) d := by
  simp [conventionalResetFree]

@[simp] theorem sleepFabric_kept (d : Device) :
    (sleepFabric d).mem = d.mem ∧ (sleepFabric d).lc.otp = d.lc.otp ∧ SamePolicy (sleepFabric d) d := by simp [sleepFabric]

@[simp] theorem sleepRecords_wf (d : Device) :
    (Memory.wf d.mem = true → Memory.wf (sleepRecords d).mem = true) ∧ (sleepRecords d).lc.otp = d.lc.otp ∧ SamePolicy (sleepRecords d) d := by
  have c := coreResetEngines_kept d
  have l := sheetLands_wf (coreResetEngines d)
  unfold sleepRecords; dsimp only
  refine ⟨fun h => ?_, ?_, ?_⟩
  · rw [logWritten_mem]; exact writeAll_wf _ _ _ (finishClear_wf _ _ (l.1 (by rw [c.1]; exact h)))
  · exact (logWritten_rest _ _).1.trans (l.2.1.trans c.2.1)
  · exact SamePolicy.trans (logWritten_rest _ _).2 (l.2.2.trans c.2.2)

@[simp] theorem deepSleepEntryCompleteEffect_wf (d : Device) :
    (Memory.wf d.mem = true → Memory.wf (deepSleepEntryCompleteEffect d).mem = true) ∧ (deepSleepEntryCompleteEffect d).lc.otp = d.lc.otp := by
  refine ⟨fun h => ?_, ?_⟩ <;> (unfold deepSleepEntryCompleteEffect; (try dsimp only); (repeat' split) <;> simp (maxDischargeDepth := 30) [*])

@[simp] theorem correctedInternal_kept (d : Device) :
    (correctedInternal d).mem = d.mem ∧ (correctedInternal d).lc.otp = d.lc.otp ∧ SamePolicy (correctedInternal d) d := by simp [correctedInternal]

@[simp] theorem correctedErrorEffect_kept (block word : Nat) (d : Device) :
    (correctedErrorEffect block word d).mem = d.mem ∧ (correctedErrorEffect block word d).lc.otp = d.lc.otp ∧ SamePolicy (correctedErrorEffect block word d) d := by
  simp [correctedErrorEffect]

@[simp] theorem compareFault_kept (no : Nat) (d : Device) :
    (compareFault no d).mem = d.mem ∧ (compareFault no d).lc.otp = d.lc.otp ∧ SamePolicy (compareFault no d) d := by
  unfold compareFault; (repeat' split) <;> simp

@[simp] theorem digestContained_kept (inst kind word : Nat) (d : Device) :
    (digestContained inst kind word d).mem = d.mem ∧ (digestContained inst kind word d).lc.otp = d.lc.otp ∧ SamePolicy (digestContained inst kind word d) d := by
  unfold digestContained; dsimp only; (repeat' split) <;> simp

@[simp] theorem deferredContained_kept (block inst kind word : Nat) (d : Device) :
    (deferredContained block inst kind word d).mem = d.mem ∧ (deferredContained block inst kind word d).lc.otp = d.lc.otp ∧ SamePolicy (deferredContained block inst kind word d) d := by
  unfold deferredContained; (repeat' split) <;> simp

@[simp] theorem deferredErrorEffect_kept (block inst kind word : Nat) (d : Device) :
    (deferredErrorEffect block inst kind word d).mem = d.mem ∧ (deferredErrorEffect block inst kind word d).lc.otp = d.lc.otp ∧ SamePolicy (deferredErrorEffect block inst kind word d) d := by
  simp [deferredErrorEffect]

@[simp] theorem busIdled_kept (m cause : Nat) (d : Device) :
    (busIdled m cause d).mem = d.mem ∧ (busIdled m cause d).lc.otp = d.lc.otp ∧ SamePolicy (busIdled m cause d) d := by simp [busIdled]

@[simp] theorem couchContained_wf (d : Device) :
    (Memory.wf d.mem = true → Memory.wf (couchContained d).mem = true) ∧ (couchContained d).lc.otp = d.lc.otp := by
  refine ⟨fun h => ?_, ?_⟩ <;> simp (maxDischargeDepth := 30) [couchContained, *]

@[simp] theorem cxContained_kept (d : Device) :
    (cxContained d).mem = d.mem ∧ (cxContained d).lc.otp = d.lc.otp ∧ SamePolicy (cxContained d) d := by simp [cxContained]

@[simp] theorem turnstileContained_wf (f : Nat) (d : Device) :
    (Memory.wf d.mem = true → Memory.wf (turnstileContained f d).mem = true) ∧ (turnstileContained f d).lc.otp = d.lc.otp ∧ SamePolicy (turnstileContained f d) d := by
  unfold turnstileContained
  exact wf_trans (foldl_wf _ (fun acc k => failCurrent_wf _ _ _ _) _ _) (wf_of_kept (modTs_kept _ _ _))

@[simp] theorem f1Contained_wf (block inst : Nat) (d : Device) :
    (Memory.wf d.mem = true → Memory.wf (f1Contained block inst d).mem = true) ∧ (f1Contained block inst d).lc.otp = d.lc.otp := by
  unfold f1Contained; split <;> refine ⟨fun hm => ?_, ?_⟩ <;> (try split) <;> simp [*]

@[simp] theorem f1ErrorEffect_wf (block inst kind : Nat) (d : Device) :
    (Memory.wf d.mem = true → Memory.wf (f1ErrorEffect block inst kind d).mem = true) ∧ (f1ErrorEffect block inst kind d).lc.otp = d.lc.otp := by
  refine ⟨fun h => ?_, ?_⟩ <;> simp (maxDischargeDepth := 30) [f1ErrorEffect, *]

@[simp] theorem turnstileRestartDoneEffect_wf (f : Dev) (ticks : Nat) (d : Device) :
    (Memory.wf d.mem = true → Memory.wf (turnstileRestartDoneEffect f ticks d).mem = true) ∧ (turnstileRestartDoneEffect f ticks d).lc.otp = d.lc.otp ∧ SamePolicy (turnstileRestartDoneEffect f ticks d) d := by
  refine ⟨fun h => ?_, ?_⟩ <;> (unfold turnstileRestartDoneEffect; (repeat' split) <;> simp (maxDischargeDepth := 30) [*])

@[simp] theorem busControllerRestartDoneEffect_kept (m : Bus) (ticks : Nat) (d : Device) :
    (busControllerRestartDoneEffect m ticks d).mem = d.mem ∧ (busControllerRestartDoneEffect m ticks d).lc.otp = d.lc.otp ∧ SamePolicy (busControllerRestartDoneEffect m ticks d) d := by
  unfold busControllerRestartDoneEffect; (repeat' split) <;> simp

@[simp] theorem blockRestartDoneEffect_kept (block us : Nat) (d : Device) :
    (blockRestartDoneEffect block us d).mem = d.mem ∧ (blockRestartDoneEffect block us d).lc.otp = d.lc.otp ∧ SamePolicy (blockRestartDoneEffect block us d) d := by
  unfold blockRestartDoneEffect; (repeat' split) <;> simp

@[simp] theorem commitWordLands_wf (block : Nat) (d : Device) :
    (Memory.wf d.mem = true → Memory.wf (commitWordLands block d).mem = true) ∧ (commitWordLands block d).lc.otp = d.lc.otp ∧ SamePolicy (commitWordLands block d) d := by
  unfold commitWordLands
  refine wf_if (wf_trans (writeRecord_wf _ _) ?_) (wf_refl _)
  exact wf_if (wf_refl _) (ensureBank_wf _)

@[simp] theorem f2ErrorEffect_wf (block _inst kind : Nat) (d : Device) :
    (Memory.wf d.mem = true → Memory.wf (f2ErrorEffect block _inst kind d).mem = true) ∧ (f2ErrorEffect block _inst kind d).lc.otp = d.lc.otp ∧ SamePolicy (f2ErrorEffect block _inst kind d) d := wf_if (wf_refl _) (wf_if (wf_of_kept (hardwareSafe_kept _))
    (wf_trans (wf_of_kept (enterSafe_kept _ _ _ _)) (commitWordLands_wf _ _)))

@[simp] theorem safeStateResetEffect_wf (d : Device) :
    (Memory.wf d.mem = true → Memory.wf (safeStateResetEffect d).mem = true) ∧ (safeStateResetEffect d).lc.otp = d.lc.otp := by
  unfold safeStateResetEffect; refine ⟨fun h => ?_, ?_⟩ <;> split <;> simp (maxDischargeDepth := 30) [*]

@[simp] theorem ecReportPopEffect_kept (h : Hart) (d : Device) :
    (ecReportPopEffect h d).mem = d.mem ∧ (ecReportPopEffect h d).lc.otp = d.lc.otp ∧ SamePolicy (ecReportPopEffect h d) d := by
  unfold ecReportPopEffect; (repeat' split) <;> simp

@[simp] theorem ecInjectArmEffect_kept (h : Hart) (v : Word) (d : Device) :
    (ecInjectArmEffect h v d).mem = d.mem ∧ (ecInjectArmEffect h v d).lc.otp = d.lc.otp ∧ SamePolicy (ecInjectArmEffect h v d) d := by
  unfold ecInjectArmEffect; apply onlyHart_kept; intros; simp

end Sys2Proof.Machine
end

