-- ==== Sys2Proof/Laws/KeptRegisters.lean ====
section
/-! SUPPORT. What register accesses and JTAG do to memory and to OTP: `f_kept`, both unchanged, and the policy in force too;
`f_wf`, memory keeps its canonical form, OTP (and, where nothing commits, the policy in force) is unchanged. -/

namespace Sys2Proof.Machine

open Sys2Proof

theorem popRead_kept (h : Hart) (addr : Nat) (f : Device → Device) (hp : popRead h addr = some f) (d : Device) :
    (f d).mem = d.mem ∧ (f d).lc.otp = d.lc.otp ∧ SamePolicy (f d) d := by
  unfold popRead at hp
  repeat (split at hp; · cases hp; simp)
  exact absurd hp (by simp)

@[simp] theorem latchHi_kept (h : Hart) (addr : Nat) (d : Device) :
    (latchHi h addr d).mem = d.mem ∧ (latchHi h addr d).lc.otp = d.lc.otp ∧ SamePolicy (latchHi h addr d) d := by
  unfold latchHi; (repeat' split) <;> simp

@[simp] theorem readRegister_kept (h : Hart) (addr : Nat) (d : Device) :
    (readRegister h addr d).mem = d.mem ∧ (readRegister h addr d).lc.otp = d.lc.otp ∧ SamePolicy (readRegister h addr d) d := by
  unfold readRegister; split
  · exact popRead_kept h addr _ (by assumption) d
  · exact kept_trans (latchHi_kept _ _ _) (replyWord_kept _ _)

@[simp] theorem hartRead_wf (h : Hart) (n addr : Nat) (d : Device) :
    (Memory.wf d.mem = true → Memory.wf (hartRead h n addr d).mem = true) ∧ (hartRead h n addr d).lc.otp = d.lc.otp ∧ SamePolicy (hartRead h n addr d) d := by
  unfold hartRead
  refine wf_if (wf_if (wf_of_kept (readRegister_kept _ _ _)) (wf_of_kept (accessFault_kept _ _ _))) ?_
  split
  · exact wf_trans (readErrors_wf _ _ _) (wf_of_kept (reply_kept _ _))
  · exact wf_trans (wf_of_kept (accessFault_kept _ _ _)) (readErrors_wf _ _ _)

@[simp] theorem hartLoad_wf (h : Hart) (n addr : Nat) (d : Device) :
    (Memory.wf d.mem = true → Memory.wf (hartLoad h n addr d).mem = true) ∧ (hartLoad h n addr d).lc.otp = d.lc.otp ∧ SamePolicy (hartLoad h n addr d) d := wf_if (wf_refl _) (hartRead_wf _ _ _ _)

@[simp] theorem unsupportedRequest_kept (who : Option Ld) (write : Bool) (n addr : Nat) (d : Device) :
    (unsupportedRequest who write n addr d).mem = d.mem ∧ (unsupportedRequest who write n addr d).lc.otp = d.lc.otp ∧ SamePolicy (unsupportedRequest who write n addr d) d := by simp [unsupportedRequest]

@[simp] theorem hostPageLoad_kept (ld : Ld) (off : Nat) (d : Device) :
    (hostPageLoad ld off d).mem = d.mem ∧ (hostPageLoad ld off d).lc.otp = d.lc.otp ∧ SamePolicy (hostPageLoad ld off d) d := by
  unfold hostPageLoad; (repeat' split) <;> simp

@[simp] theorem bar0Load_kept (who : Option Ld) (n off : Nat) (d : Device) :
    (bar0Load who n off d).mem = d.mem ∧ (bar0Load who n off d).lc.otp = d.lc.otp ∧ SamePolicy (bar0Load who n off d) d := by
  unfold bar0Load; (repeat' split) <;> simp

@[simp] theorem configLoad_kept (who : Option Ld) (n off : Nat) (d : Device) :
    (configLoad who n off d).mem = d.mem ∧ (configLoad who n off d).lc.otp = d.lc.otp ∧ SamePolicy (configLoad who n off d) d := by simp [configLoad]

@[simp] theorem latchedLoReadEffect_wf (sp : Space) (size : Size) (addr : Nat) (d : Device) :
    (Memory.wf d.mem = true → Memory.wf (latchedLoReadEffect sp size addr d).mem = true) ∧ (latchedLoReadEffect sp size addr d).lc.otp = d.lc.otp ∧ SamePolicy (latchedLoReadEffect sp size addr d) d := by
  unfold latchedLoReadEffect; split
  · exact hartLoad_wf _ _ _ _
  · exact wf_of_kept (bar0Load_kept _ _ _ _)
  · exact wf_of_kept (configLoad_kept _ _ _ _)

theorem whenAll_same {β : Type} (p : Device → β) (l : List (Bool × (Device → Device))) (d : Device) (h : ∀ x ∈ l, ∀ e, p (x.2 e) = p e) :
    p (whenAll l d) = p d := by
  induction l generalizing d with
  | nil => rfl
  | cons a l ih =>
    unfold whenAll; rw [ih _ (fun x hx => h x (List.mem_cons_of_mem _ hx))]
    split
    · exact h _ List.mem_cons_self d
    · rfl

theorem whenAll_wf (l : List (Bool × (Device → Device))) (d : Device)
    (h : ∀ x ∈ l, ∀ e, (Memory.wf e.mem = true → Memory.wf (x.2 e).mem = true) ∧ (x.2 e).lc.otp = e.lc.otp ∧ SamePolicy (x.2 e) e) :
    (Memory.wf d.mem = true → Memory.wf (whenAll l d).mem = true) ∧ (whenAll l d).lc.otp = d.lc.otp ∧ SamePolicy (whenAll l d) d := by
  induction l generalizing d with
  | nil => exact ⟨id, rfl, rfl, rfl, rfl, rfl⟩
  | cons a l ih =>
    have hl := ih (if a.1 then a.2 d else d) (fun x hx => h x (List.mem_cons_of_mem _ hx))
    have ha := h a List.mem_cons_self d
    unfold whenAll
    split at hl <;> simp_all

@[simp] theorem bootCtrl_wf (h : Hart) (v : Word) (d : Device) :
    (Memory.wf d.mem = true → Memory.wf (bootCtrl h v d).mem = true) ∧ (bootCtrl h v d).lc.otp = d.lc.otp ∧ SamePolicy (bootCtrl h v d) d := by
  unfold bootCtrl; apply whenAll_wf; intro x hx e; simp only [List.mem_cons, List.not_mem_nil, or_false] at hx
  rcases hx with rfl | rfl | rfl | rfl | rfl | rfl <;> exact ⟨fun h => by simp [h], by simp⟩

@[simp] theorem sysWrite_wf (h : Hart) (off : Nat) (v : Word) (d : Device) :
    (Memory.wf d.mem = true → Memory.wf (sysWrite h off v d).mem = true) ∧ (sysWrite h off v d).lc.otp = d.lc.otp ∧ SamePolicy (sysWrite h off v d) d := by
  unfold sysWrite; dsimp only
  repeat refine wf_dev_ite ⟨fun hm => by simp [hm], by simp⟩ ?_
  refine ⟨fun hm => ?_, ?_⟩ <;> split <;> simp [*]

@[simp] theorem setWdog_kept (v : Word) (d : Device) :
    (setWdog v d).mem = d.mem ∧ (setWdog v d).lc.otp = d.lc.otp ∧ SamePolicy (setWdog v d) d := by simp [setWdog]

@[simp] theorem pwWrite_wf (h : Hart) (off : Nat) (v : Word) (d : Device) :
    (Memory.wf d.mem = true → Memory.wf (pwWrite h off v d).mem = true) ∧ (pwWrite h off v d).lc.otp = d.lc.otp := by
  refine ⟨fun h => ?_, ?_⟩ <;> simp (maxDischargeDepth := 30) [pwWrite, *]

@[simp] theorem lcCmd_wf (h : Hart) (v : Word) (d : Device) :
    (Memory.wf d.mem = true → Memory.wf (lcCmd h v d).mem = true) ∧ (lcCmd h v d).lc.otp = d.lc.otp ∧ SamePolicy (lcCmd h v d) d := by
  refine ⟨fun h => ?_, ?_⟩ <;> (unfold lcCmd; (repeat' split) <;> simp (maxDischargeDepth := 30) [*])

@[simp] theorem lcWrite_wf (h : Hart) (off : Nat) (v : Word) (d : Device) :
    (Memory.wf d.mem = true → Memory.wf (lcWrite h off v d).mem = true) ∧ (lcWrite h off v d).lc.otp = d.lc.otp ∧ SamePolicy (lcWrite h off v d) d := by
  refine ⟨fun h => ?_, ?_⟩ <;> (unfold lcWrite; (repeat' split) <;> simp (maxDischargeDepth := 30) [*])

@[simp] theorem kvCmd_wf (h : Hart) (v : Word) (d : Device) :
    (Memory.wf d.mem = true → Memory.wf (kvCmd h v d).mem = true) ∧ (kvCmd h v d).lc.otp = d.lc.otp ∧ SamePolicy (kvCmd h v d) d := by
  refine ⟨fun h => ?_, ?_⟩ <;> (unfold kvCmd; (try dsimp only); (repeat' split) <;> simp (maxDischargeDepth := 30) [*])

@[simp] theorem modKvBank_kept (h : Hart) (f : KvBank → KvBank) (d : Device) :
    (modKvBank h f d).mem = d.mem ∧ (modKvBank h f d).lc.otp = d.lc.otp ∧ SamePolicy (modKvBank h f d) d := by simp [modKvBank]

@[simp] theorem kvWrite_wf (h : Hart) (off : Nat) (v : Word) (d : Device) :
    (Memory.wf d.mem = true → Memory.wf (kvWrite h off v d).mem = true) ∧ (kvWrite h off v d).lc.otp = d.lc.otp ∧ SamePolicy (kvWrite h off v d) d := by
  refine ⟨fun h => ?_, ?_⟩ <;> simp (maxDischargeDepth := 30) [kvWrite, *]

@[simp] theorem dgCmd_wf (h : Hart) (v : Word) (d : Device) :
    (Memory.wf d.mem = true → Memory.wf (dgCmd h v d).mem = true) ∧ (dgCmd h v d).lc.otp = d.lc.otp ∧ SamePolicy (dgCmd h v d) d := by
  refine ⟨fun h => ?_, ?_⟩ <;> (unfold dgCmd; (try dsimp only); (repeat' split) <;> simp (maxDischargeDepth := 30) [*])

@[simp] theorem dgWrite_wf (h : Hart) (off : Nat) (v : Word) (d : Device) :
    (Memory.wf d.mem = true → Memory.wf (dgWrite h off v d).mem = true) ∧ (dgWrite h off v d).lc.otp = d.lc.otp ∧ SamePolicy (dgWrite h off v d) d := by
  refine ⟨fun h => ?_, ?_⟩ <;> (unfold dgWrite; (repeat' split) <;> simp (maxDischargeDepth := 30) [*])

@[simp] theorem fbCtrl_wf (h : Hart) (m : Bus) (v : Word) (d : Device) :
    (Memory.wf d.mem = true → Memory.wf (fbCtrl h m v d).mem = true) ∧ (fbCtrl h m v d).lc.otp = d.lc.otp ∧ SamePolicy (fbCtrl h m v d) d := by
  unfold fbCtrl; apply whenAll_wf; intro x hx e; simp only [List.mem_cons, List.not_mem_nil, or_false] at hx
  rcases hx with rfl | rfl <;> exact ⟨fun h => by simp [h], by simp⟩

@[simp] theorem wearLo_kept (f : Nat) (v : Word) (d : Device) :
    (wearLo f v d).mem = d.mem ∧ (wearLo f v d).lc.otp = d.lc.otp ∧ SamePolicy (wearLo f v d) d := by simp [wearLo]

@[simp] theorem wearHiStaged_kept (f : Nat) (v : Word) (d : Device) :
    (wearHiStaged f v d).mem = d.mem ∧ (wearHiStaged f v d).lc.otp = d.lc.otp ∧ SamePolicy (wearHiStaged f v d) d := by simp [wearHiStaged]

@[simp] theorem gfWrite_wf (h : Hart) (off : Nat) (v : Word) (d : Device) :
    (Memory.wf d.mem = true → Memory.wf (gfWrite h off v d).mem = true) ∧ (gfWrite h off v d).lc.otp = d.lc.otp ∧ SamePolicy (gfWrite h off v d) d := by
  refine ⟨fun h => ?_, ?_⟩ <;> (unfold gfWrite; (try dsimp only); (repeat' split) <;> simp (maxDischargeDepth := 30) [*])

@[simp] theorem devCtrlWrite_wf (h : Hart) (f : Dev) (v : Word) (d : Device) :
    (Memory.wf d.mem = true → Memory.wf (devCtrlWrite h f v d).mem = true) ∧ (devCtrlWrite h f v d).lc.otp = d.lc.otp ∧ SamePolicy (devCtrlWrite h f v d) d := by
  unfold devCtrlWrite; apply whenAll_wf; intro x hx e; simp only [List.mem_cons, List.not_mem_nil, or_false] at hx
  rcases hx with rfl | rfl | rfl | rfl <;> exact ⟨fun h => by simp [h], by simp⟩

@[simp] theorem isWrite_wf (h : Hart) (off : Nat) (v : Word) (d : Device) :
    (Memory.wf d.mem = true → Memory.wf (isWrite h off v d).mem = true) ∧ (isWrite h off v d).lc.otp = d.lc.otp ∧ SamePolicy (isWrite h off v d) d := by
  refine ⟨fun h => ?_, ?_⟩ <;> (unfold isWrite; (try dsimp only); (repeat' split) <;> simp (maxDischargeDepth := 30) [*])

@[simp] theorem txCmd_wf (h : Hart) (v : Word) (d : Device) :
    (Memory.wf d.mem = true → Memory.wf (txCmd h v d).mem = true) ∧ (txCmd h v d).lc.otp = d.lc.otp := by
  refine ⟨fun h => ?_, ?_⟩ <;> (unfold txCmd; (repeat' split) <;> simp (maxDischargeDepth := 30) [*])

@[simp] theorem txWrite_wf (h : Hart) (off : Nat) (v : Word) (d : Device) :
    (Memory.wf d.mem = true → Memory.wf (txWrite h off v d).mem = true) ∧ (txWrite h off v d).lc.otp = d.lc.otp := by
  refine ⟨fun h => ?_, ?_⟩ <;> (unfold txWrite; (repeat' split) <;> simp (maxDischargeDepth := 30) [*])

@[simp] theorem evWrite_kept (h : Hart) (off : Nat) (v : Word) (d : Device) :
    (evWrite h off v d).mem = d.mem ∧ (evWrite h off v d).lc.otp = d.lc.otp ∧ SamePolicy (evWrite h off v d) d := by
  unfold evWrite; (repeat' split) <;> simp

@[simp] theorem lgWrite_wf (h : Hart) (off : Nat) (v : Word) (d : Device) :
    (Memory.wf d.mem = true → Memory.wf (lgWrite h off v d).mem = true) ∧ (lgWrite h off v d).lc.otp = d.lc.otp ∧ SamePolicy (lgWrite h off v d) d := by
  refine ⟨fun h => ?_, ?_⟩ <;> simp (maxDischargeDepth := 30) [lgWrite, *]

@[simp] theorem clearChan_kept (aid c : Nat) (v : Word) (d : Device) :
    (clearChan aid c v d).mem = d.mem ∧ (clearChan aid c v d).lc.otp = d.lc.otp ∧ SamePolicy (clearChan aid c v d) d := by simp [clearChan]

@[simp] theorem mbWrite_kept (h : Hart) (off : Nat) (v : Word) (d : Device) :
    (mbWrite h off v d).mem = d.mem ∧ (mbWrite h off v d).lc.otp = d.lc.otp ∧ SamePolicy (mbWrite h off v d) d := by
  unfold mbWrite; (repeat' split) <;> simp

@[simp] theorem cxWrite_kept (h : Hart) (off : Nat) (v : Word) (d : Device) :
    (cxWrite h off v d).mem = d.mem ∧ (cxWrite h off v d).lc.otp = d.lc.otp ∧ SamePolicy (cxWrite h off v d) d := by
  unfold cxWrite; (repeat' split) <;> simp

@[simp] theorem cdCtrl_kept (v : Word) (d : Device) :
    (cdCtrl v d).mem = d.mem ∧ (cdCtrl v d).lc.otp = d.lc.otp ∧ SamePolicy (cdCtrl v d) d := by simp [cdCtrl]

@[simp] theorem cdWindow_kept (f : CardWindow → CardWindow) (d : Device) :
    (cdWindow f d).mem = d.mem ∧ (cdWindow f d).lc.otp = d.lc.otp ∧ SamePolicy (cdWindow f d) d := by simp [cdWindow]

@[simp] theorem cdWrite_wf (h : Hart) (off : Nat) (v : Word) (d : Device) :
    (Memory.wf d.mem = true → Memory.wf (cdWrite h off v d).mem = true) ∧ (cdWrite h off v d).lc.otp = d.lc.otp ∧ SamePolicy (cdWrite h off v d) d := by
  unfold cdWrite
  repeat refine wf_dev_ite ⟨fun hm => by simp [hm], by simp⟩ ?_
  refine ⟨fun hm => ?_, ?_⟩ <;> split <;> simp [*]

@[simp] theorem ecWrite_kept (h : Hart) (off : Nat) (v : Word) (d : Device) :
    (ecWrite h off v d).mem = d.mem ∧ (ecWrite h off v d).lc.otp = d.lc.otp ∧ SamePolicy (ecWrite h off v d) d := by simp [ecWrite]

@[simp] theorem ptWrite_kept (h : Hart) (off : Nat) (v : Word) (d : Device) :
    (ptWrite h off v d).mem = d.mem ∧ (ptWrite h off v d).lc.otp = d.lc.otp ∧ SamePolicy (ptWrite h off v d) d := by
  unfold ptWrite; (repeat' split) <;> simp

@[simp] theorem dbCtrl_kept (src : BoothSrc) (v : Word) (d : Device) :
    (dbCtrl src v d).mem = d.mem ∧ (dbCtrl src v d).lc.otp = d.lc.otp ∧ SamePolicy (dbCtrl src v d) d := by
  unfold dbCtrl
  refine ⟨whenAll_same (·.mem) _ d ?_, whenAll_same (·.lc.otp) _ d ?_, whenAll_same (·.tx.epoch) _ d ?_, whenAll_same (·.tx.leafEven) _ d ?_,
    whenAll_same (·.tx.leafOdd) _ d ?_, whenAll_same (·.tx.fabricLive) _ d ?_⟩ <;> ( intro x hx e; simp at hx; obtain rfl | rfl | rfl | rfl := hx <;> simp)

@[simp] theorem dbWrite_kept (src : BoothSrc) (off : Nat) (v : Word) (d : Device) :
    (dbWrite src off v d).mem = d.mem ∧ (dbWrite src off v d).lc.otp = d.lc.otp ∧ SamePolicy (dbWrite src off v d) d := by simp [dbWrite]

@[simp] theorem tmWrite_kept (off : Nat) (v : Word) (d : Device) :
    (tmWrite off v d).mem = d.mem ∧ (tmWrite off v d).lc.otp = d.lc.otp ∧ SamePolicy (tmWrite off v d) d := by simp [tmWrite]

@[simp] theorem blockWrite_wf (h : Hart) (n off : Nat) (v : Word) (d : Device) :
    (Memory.wf d.mem = true → Memory.wf (blockWrite h n off v d).mem = true) ∧ (blockWrite h n off v d).lc.otp = d.lc.otp := by
  refine ⟨fun h => ?_, ?_⟩ <;> (unfold blockWrite; (repeat' split) <;> simp (maxDischargeDepth := 30) [*])

@[simp] theorem hartStore_wf (h : Hart) (n addr : Nat) (v : BitVec 64) (d : Device) :
    (Memory.wf d.mem = true → Memory.wf (hartStore h n addr v d).mem = true) ∧ (hartStore h n addr v d).lc.otp = d.lc.otp := by
  unfold hartStore; split
  · apply hartWrite_wfOtp; intro e; refine ⟨fun h => ?_, ?_⟩ <;> split <;> simp [*]
  · refine ⟨fun h => ?_, ?_⟩ <;> (repeat' split) <;> simp [*]

@[simp] theorem pageWrite_kept (ld : Ld) (off : Nat) (v : Word) (d : Device) :
    (pageWrite ld off v d).mem = d.mem ∧ (pageWrite ld off v d).lc.otp = d.lc.otp ∧ SamePolicy (pageWrite ld off v d) d := by
  unfold pageWrite; dsimp only
  repeat refine kept_ite (by simp) ?_
  split <;> simp

@[simp] theorem bar0Store_kept (who : Option Ld) (n off : Nat) (v : Word) (d : Device) :
    (bar0Store who n off v d).mem = d.mem ∧ (bar0Store who n off v d).lc.otp = d.lc.otp ∧ SamePolicy (bar0Store who n off v d) d := by
  unfold bar0Store; (repeat' split) <;> simp

@[simp] theorem unmaskMsi_kept (ld : Nat) (mask : Nat) (d : Device) :
    (unmaskMsi ld mask d).mem = d.mem ∧ (unmaskMsi ld mask d).lc.otp = d.lc.otp ∧ SamePolicy (unmaskMsi ld mask d) d := by simp [unmaskMsi]

@[simp] theorem resumeSweep_kept (ld : Nat) (d : Device) :
    (resumeSweep ld d).mem = d.mem ∧ (resumeSweep ld d).lc.otp = d.lc.otp ∧ SamePolicy (resumeSweep ld d) d := by simp [resumeSweep]

@[simp] theorem configResume_kept (who : Option Ld) (d : Device) :
    (configResume who d).mem = d.mem ∧ (configResume who d).lc.otp = d.lc.otp ∧ SamePolicy (configResume who d) d := by
  unfold configResume; (repeat' split) <;> simp

@[simp] theorem configDoe_kept (who : Option Ld) (off en : Nat) (v : Word) (d : Device) :
    (configDoe who off en v d).mem = d.mem ∧ (configDoe who off en v d).lc.otp = d.lc.otp ∧ SamePolicy (configDoe who off en v d) d := by
  unfold configDoe; (repeat' split) <;> simp

@[simp] theorem configLow_kept (who : Option Ld) (off en : Nat) (v : Word) (d : Device) :
    (configLow who off en v d).mem = d.mem ∧ (configLow who off en v d).lc.otp = d.lc.otp ∧ SamePolicy (configLow who off en v d) d := by
  unfold configLow; (repeat' split) <;> simp

@[simp] theorem configField_kept (who : Option Ld) (off en : Nat) (v : Word) (d : Device) :
    (configField who off en v d).mem = d.mem ∧ (configField who off en v d).lc.otp = d.lc.otp ∧ SamePolicy (configField who off en v d) d := by
  unfold configField; (repeat' split) <;> simp

@[simp] theorem configWrite_kept (who : Option Ld) (n off : Nat) (v : Word) (d : Device) :
    (configWrite who n off v d).mem = d.mem ∧ (configWrite who n off v d).lc.otp = d.lc.otp ∧ SamePolicy (configWrite who n off v d) d := by
  simp [configWrite]

@[simp] theorem wearWriteEffect_kept (h : Hart) (f : Dev) (v : Word) (d : Device) :
    (wearWriteEffect h f v d).mem = d.mem ∧ (wearWriteEffect h f v d).lc.otp = d.lc.otp ∧ SamePolicy (wearWriteEffect h f v d) d := by
  unfold wearWriteEffect; apply hartWrite_kept; intros; simp

@[simp] theorem registerWriteEffect_wf (sp : Space) (size : Size) (addr : Nat) (v : BitVec 64) (d : Device) :
    (Memory.wf d.mem = true → Memory.wf (registerWriteEffect sp size addr v d).mem = true) ∧
      (registerWriteEffect sp size addr v d).lc.otp = d.lc.otp := by
  refine ⟨fun h => ?_, ?_⟩ <;> (unfold registerWriteEffect; (repeat' split) <;> simp (maxDischargeDepth := 30) [*])

@[simp] theorem selectIr_kept (ir : Nat) (d : Device) :
    (selectIr ir d).mem = d.mem ∧ (selectIr ir d).lc.otp = d.lc.otp ∧ SamePolicy (selectIr ir d) d := by simp [selectIr]

@[simp] theorem idcodeEffect_kept (d : Device) :
    (idcodeEffect d).mem = d.mem ∧ (idcodeEffect d).lc.otp = d.lc.otp ∧ SamePolicy (idcodeEffect d) d := by simp [idcodeEffect]

@[simp] theorem samplePreloadEffect_kept (cells : List Bool) (d : Device) :
    (samplePreloadEffect cells d).mem = d.mem ∧ (samplePreloadEffect cells d).lc.otp = d.lc.otp ∧ SamePolicy (samplePreloadEffect cells d) d := by
  simp [samplePreloadEffect]

@[simp] theorem extestEffect_kept (cells : List Bool) (d : Device) :
    (extestEffect cells d).mem = d.mem ∧ (extestEffect cells d).lc.otp = d.lc.otp ∧ SamePolicy (extestEffect cells d) d := by
  simp [extestEffect]

@[simp] theorem bypassEffect_kept (d : Device) :
    (bypassEffect d).mem = d.mem ∧ (bypassEffect d).lc.otp = d.lc.otp ∧ SamePolicy (bypassEffect d) d := by simp [bypassEffect]

@[simp] theorem dtmcsEffect_kept (d : Device) :
    (dtmcsEffect d).mem = d.mem ∧ (dtmcsEffect d).lc.otp = d.lc.otp ∧ SamePolicy (dtmcsEffect d) d := by simp [dtmcsEffect]

@[simp] theorem setHalted_kept (h : Nat) (on : Bool) (d : Device) :
    (setHalted h on d).mem = d.mem ∧ (setHalted h on d).lc.otp = d.lc.otp ∧ SamePolicy (setHalted h on d) d := by simp [setHalted]

@[simp] theorem debugRead_wf (h : Hart) (addr : Nat) (d : Device) :
    (Memory.wf d.mem = true → Memory.wf (debugRead h addr d).mem = true) ∧ (debugRead h addr d).lc.otp = d.lc.otp ∧ SamePolicy (debugRead h addr d) d := wf_trans (wf_of_kept (setHalted_kept _ _ _)) (wf_trans (hartRead_wf _ _ _ _) (wf_of_kept (setHalted_kept _ _ _)))

@[simp] theorem dmiOp_wf (op : DmiOp) (d : Device) :
    (Memory.wf d.mem = true → Memory.wf (dmiOp op d).mem = true) ∧ (dmiOp op d).lc.otp = d.lc.otp := by
  refine ⟨fun h => ?_, ?_⟩ <;> (unfold dmiOp; (repeat' split) <;> simp (maxDischargeDepth := 30) [*])

@[simp] theorem dmiAccessEffect_wf (op : DmiOp) (d : Device) :
    (Memory.wf d.mem = true → Memory.wf (dmiAccessEffect op d).mem = true) ∧ (dmiAccessEffect op d).lc.otp = d.lc.otp := by
  refine ⟨fun h => ?_, ?_⟩ <;> simp (maxDischargeDepth := 30) [dmiAccessEffect, *]

@[simp] theorem boothOp_kept (op index : Nat) (v : Word) (d : Device) :
    (boothOp op index v d).mem = d.mem ∧ (boothOp op index v d).lc.otp = d.lc.otp ∧ SamePolicy (boothOp op index v d) d := by simp [boothOp]

@[simp] theorem boothAccessEffect_kept (op index : Nat) (v : Word) (d : Device) :
    (boothAccessEffect op index v d).mem = d.mem ∧ (boothAccessEffect op index v d).lc.otp = d.lc.otp ∧ SamePolicy (boothAccessEffect op index v d) d := by
  simp [boothAccessEffect]

@[simp] theorem privateTestInstructionEffect_kept (ir : Nat) (d : Device) :
    (privateTestInstructionEffect ir d).mem = d.mem ∧ (privateTestInstructionEffect ir d).lc.otp = d.lc.otp ∧ SamePolicy (privateTestInstructionEffect ir d) d := by
  simp [privateTestInstructionEffect]

end Sys2Proof.Machine
end

