-- ==== Sys2Proof/Safety.lean ====
section
/-! DEFINITION. The conditions and invariants that statements about the block are made in. -/

namespace Sys2Proof.Machine

open Sys2Proof

/-- A hart may write a control block (R359): main power up in Run, the hart neither stalled nor halted, its deckle set
for the block. -/
def MayWrite (d : Device) (h : Hart) (block : Nat) : Prop :=
  mainRuns d = true ∧ hartStalled d h = false ∧ deckleAllows d h block = true

/-- A hart reads control registers: main power up in Run, the hart neither stalled nor halted. -/
def MayRead (d : Device) (h : Hart) : Prop := mainRuns d = true ∧ hartStalled d h = false

/-- The invariant of memory: its list of cells is in canonical form. -/
def MemInv (s : State) : Prop := Memory.wf s.dev.mem = true

/-- Every OTP bit burned in the first device is burned in the second: one-time-programmable words only gain bits. -/
def OtpKept (d e : Device) : Prop := ∀ w b, (otpWord d w).testBit b = true → (otpWord e w).testBit b = true

/-- A port answers, and the committed leaf gives it this record (R55, R168). -/
def OnPort (d : Device) (p : Port) (r : PortRec) : Prop :=
  portAnswers d p = true ∧ portOf (curLeaf d) p = some r

/-- The device in which a port command has its own effect: its clock has been compared with MaxMHz (R189), and a standing
reset enable is used up (R171). -/
def portCalm (p : Port) (op khz addr : Nat) (r : PortRec) (d : Device) : Device :=
  modPort p (fun u => { u with resetEnable := false }) (clockCheck p khz op addr r d)

/-- A hart may give a digest engine command on a context that it owns, with no Prefix or Feed of its own running (R268,
R278). -/
def OwnContext (d : Device) (h : Hart) (c : Ctx) (x : Context) : Prop :=
  MayWrite d h 4 ∧ (dgBank d h).job = none ∧ ctxOf d.dg c = some x ∧ x.owner = 0x10 + h.val

/-- A hart may give a key vault command: none of its own runs (R331). -/
def VaultReady (d : Device) (h : Hart) : Prop := MayWrite d h 3 ∧ d.kv.banks[h].busy = false

/-- A requester's mailbox takes a command: the link is up, none of its commands runs, hart 1 serves it (R449). -/
def MailboxReady (d : Device) (who : Option Ld) : Prop :=
  cxlUp d = true ∧ (whoOf d who).mboxRunning = none ∧ hart1Serves d = true

/-- Hart 1 answers a requester's SPDM request now, on this connection: its transport is up, Tamper-Response does not refuse
the request (R463, R468, R469). -/
def OnConnection (d : Device) (p : Peer) (code : Nat) (c : SpdmConn) : Prop :=
  peerUp d p = true ∧ hart1Serves d = true ∧ (tamperResponse d = false ∨ tamperAnswers code = true) ∧ connOf d p = some c

/-- A hart serves an I3C port's messages: main power up in Run, the port in a mode, its server running (R493, R497). -/
def PortServed (d : Device) (m : Mport) : Prop := mainRuns d = true ∧ i3cMode d m ≠ 0 ∧ portServed d m = true

/-- Firmware has nothing to go on with at a tick (notes/assumptions/127.md): no boot attempt, install or firmware image waits,
and the card port is busy, without the firmware that serves it, or with no acknowledgement and no slot waiting. -/
def FirmwareQuiet (d : Device) : Prop :=
  (∀ bd : Bd, (domain d bd).attempt = none) ∧ d.is_.installs = [] ∧ d.start.update = none ∧
    (d.cd.busy = true ∨ (attached d = false ∧ d.start.phase ≠ .recovery) ∨
      (d.cdWin.taken = true ∧ d.cdWin.ack = none ∧ ∀ s : Slot, slotWaits d s = false))

/-- The answer of a step, where it is a next state. -/
def nextOf (o : Host.Outcome State Fault Refusal) : Option State :=
  match o with
  | .next s => some s
  | .fault _ => none
  | .refused _ => none

/-- The commands that may change a byte of memory: those that store, move or zero data, and those through which the main
core may lose its volatile memory. -/
def writesMemory : Instr → Bool
  | .vstbyPowerOn .. | .xtalStable .. | .mainPgAssert .. | .mainPgDeassert .. | .mainRailLoss .. | .vcoreBrownOut ..
  | .vstbyFall .. | .recoverFilterAssert .. | .recoverSettled .. | .testEnFall .. | .gpioInputChange .. | .coreReset ..
  | .watchdogExpiry .. | .releaseHarts .. | .fwDataWrite .. | .couchCheckDone .. | .couchDrainDone ..
  | .couchDrainLimitExpiry .. | .siCopyDone .. | .restore .. | .sipDataWrite .. | .read .. | .fastRead ..
  | .fastReadQuadOutput .. | .fastReadQuadIo .. | .octalDdrRead .. | .reset .. | .upResetAssert .. | .espiInBandReset ..
  | .turnstileDecide .. | .holdLimitExpiry .. | .turnstileRestartDone .. | .flashCommandDone .. | .flashBusyEnd ..
  | .flashPollTimeout .. | .dqsTimeout .. | .busContentionDetected .. | .requalifySampleEnd .. | .devReset ..
  | .serveStart .. | .serveReject .. | .waitingDomainStart .. | .servingReadComplete .. | .patrolScrubStep ..
  | .deviceRetire .. | .endProbe .. | .dgPrefix .. | .dgFeed .. | .dgCmpArm .. | .sgSubmit .. | .sgJobComplete ..
  | .kvStageWrite .. | .kvStageDrop .. | .kvCommitInitial .. | .keyVaultLoadDone .. | .operatingTimeTick .. | .lgSubmit ..
  | .sheetStored .. | .ackServed .. | .recordWriteDone .. | .eventLogClearDone .. | .recorderRecovered .. | .memRd ..
  | .memWr .. | .fjarlinStageSiData .. | .fjarlinStageSiCommit .. | .cccPost .. | .i2cChannelPost .. | .transferEnd ..
  | .cardPresent .. | .sheetRead .. | .sheetAcknowledge .. | .eventRead .. | .slotPowerSettled .. | .cardCommandIssue .. | .cardResponse ..
  | .cardResponseTimeout .. | .cardDataBlock .. | .cardBusyEnd .. | .lcTransition .. | .otpBurnDone .. | .scanAllow ..
  | .mbistGo .. | .mbistDone .. | .mramTest .. | .scanExit .. | .dmiAccess .. | .deepSleepEnter ..
  | .deepSleepEntryComplete .. | .mainResetRequest .. | .wakeEvent .. | .wakeTimerExpiry .. | .f1Error ..
  | .safeStateReset .. | .registerWrite .. | .cxPerstDeassert .. | .mainRailsUp .. | .lifeCycleWipeDone .. | .f2Error .. | .presentedReadResume ..
  | .espiFlashRead .. | .deferredCompletionReady .. | .latchedLoRead .. => true
  | _ => false

/-- The commands that may change the policy in force, which is the committed epoch, its leaves and whether the fabric is live (R22, R114, R144): the end of a commit's drain, a restore, and what
may take the main core's power or reset it. -/
def changesPolicy : Instr → Bool
  | .vstbyPowerOn .. | .mainPgDeassert .. | .mainRailLoss .. | .vcoreBrownOut .. | .vstbyFall .. | .recoverFilterAssert ..
  | .testEnFall .. | .gpioInputChange .. | .cardPresent .. | .couchDrainDone .. | .couchDrainLimitExpiry .. | .restore ..
  | .fjarlinStageSiCommit .. | .transferEnd .. | .cccPost .. | .i2cChannelPost .. | .operatingTimeTick .. | .otpBurnDone .. | .scanExit ..
  | .dmiAccess .. | .deepSleepEnter .. | .deepSleepEntryComplete .. | .mainResetRequest .. | .wakeEvent ..
  | .wakeTimerExpiry .. | .f1Error .. | .safeStateReset .. | .registerWrite .. | .cxPerstDeassert .. => true
  | _ => false

end Sys2Proof.Machine
end

