-- ==== Sys2Proof/Laws/State.lean ====
section
/-! SUPPORT. State: what each named update leaves alone, field by field, and what it puts into its own field, so that no
proof unfolds a record update. -/

namespace Sys2Proof.Machine

open Sys2Proof

/-- A command answers a next state: the device changed by its effect, the queue as it was. -/
@[simp] theorem State.run_eq (f : Device → Device) (s : State) : s.run f = .next { s with dev := f s.dev } := rfl

/-- `modLd` changes `cx` only. -/
@[simp] theorem modLd_frame (n : Nat) (f : LogicalDev → LogicalDev) (d : Device) :
    (modLd n f d).pins = d.pins ∧ (modLd n f d).junction = d.junction ∧ (modLd n f d).guard = d.guard ∧
    (modLd n f d).clock = d.clock ∧ (modLd n f d).power = d.power ∧ (modLd n f d).lastF2 = d.lastF2 ∧
    (modLd n f d).mem = d.mem ∧ (modLd n f d).flipped = d.flipped ∧ (modLd n f d).start = d.start ∧
    (modLd n f d).measures = d.measures ∧ (modLd n f d).ev = d.ev ∧ (modLd n f d).lg = d.lg ∧ (modLd n f d).ec = d.ec ∧
    (modLd n f d).pt = d.pt ∧ (modLd n f d).tx = d.tx ∧ (modLd n f d).gf = d.gf ∧ (modLd n f d).is_ = d.is_ ∧
    (modLd n f d).dg = d.dg ∧ (modLd n f d).sg = d.sg ∧ (modLd n f d).bat = d.bat ∧ (modLd n f d).sensorLive = d.sensorLive ∧
    (modLd n f d).kv = d.kv ∧ (modLd n f d).att = d.att ∧ (modLd n f d).mb = d.mb ∧ (modLd n f d).mg = d.mg ∧
    (modLd n f d).cd = d.cd ∧ (modLd n f d).cdWin = d.cdWin ∧ (modLd n f d).cdStat = d.cdStat ∧ (modLd n f d).lc = d.lc ∧
    (modLd n f d).db = d.db ∧ (modLd n f d).jtag = d.jtag ∧ (modLd n f d).reply = d.reply ∧ (modLd n f d).free = d.free := by
  repeat' constructor

/-- `modBd` changes `is_` only. -/
@[simp] theorem modBd_frame (n : Nat) (f : BootDomain → BootDomain) (d : Device) :
    (modBd n f d).pins = d.pins ∧ (modBd n f d).junction = d.junction ∧ (modBd n f d).guard = d.guard ∧
    (modBd n f d).clock = d.clock ∧ (modBd n f d).power = d.power ∧ (modBd n f d).lastF2 = d.lastF2 ∧
    (modBd n f d).mem = d.mem ∧ (modBd n f d).flipped = d.flipped ∧ (modBd n f d).start = d.start ∧
    (modBd n f d).measures = d.measures ∧ (modBd n f d).ev = d.ev ∧ (modBd n f d).lg = d.lg ∧ (modBd n f d).ec = d.ec ∧
    (modBd n f d).pt = d.pt ∧ (modBd n f d).tx = d.tx ∧ (modBd n f d).gf = d.gf ∧ (modBd n f d).dg = d.dg ∧
    (modBd n f d).sg = d.sg ∧ (modBd n f d).bat = d.bat ∧ (modBd n f d).sensorLive = d.sensorLive ∧ (modBd n f d).kv = d.kv ∧
    (modBd n f d).cx = d.cx ∧ (modBd n f d).att = d.att ∧ (modBd n f d).mb = d.mb ∧ (modBd n f d).mg = d.mg ∧
    (modBd n f d).cd = d.cd ∧ (modBd n f d).cdWin = d.cdWin ∧ (modBd n f d).cdStat = d.cdStat ∧ (modBd n f d).lc = d.lc ∧
    (modBd n f d).db = d.db ∧ (modBd n f d).jtag = d.jtag ∧ (modBd n f d).reply = d.reply ∧ (modBd n f d).free = d.free := by
  repeat' constructor

/-- `modHealth` changes `is_` only. -/
@[simp] theorem modHealth_frame (n : Nat) (f : DevHealth → DevHealth) (d : Device) :
    (modHealth n f d).pins = d.pins ∧ (modHealth n f d).junction = d.junction ∧ (modHealth n f d).guard = d.guard ∧
    (modHealth n f d).clock = d.clock ∧ (modHealth n f d).power = d.power ∧ (modHealth n f d).lastF2 = d.lastF2 ∧
    (modHealth n f d).mem = d.mem ∧ (modHealth n f d).flipped = d.flipped ∧ (modHealth n f d).start = d.start ∧
    (modHealth n f d).measures = d.measures ∧ (modHealth n f d).ev = d.ev ∧ (modHealth n f d).lg = d.lg ∧
    (modHealth n f d).ec = d.ec ∧ (modHealth n f d).pt = d.pt ∧ (modHealth n f d).tx = d.tx ∧ (modHealth n f d).gf = d.gf ∧
    (modHealth n f d).dg = d.dg ∧ (modHealth n f d).sg = d.sg ∧ (modHealth n f d).bat = d.bat ∧
    (modHealth n f d).sensorLive = d.sensorLive ∧ (modHealth n f d).kv = d.kv ∧ (modHealth n f d).cx = d.cx ∧
    (modHealth n f d).att = d.att ∧ (modHealth n f d).mb = d.mb ∧ (modHealth n f d).mg = d.mg ∧ (modHealth n f d).cd = d.cd ∧
    (modHealth n f d).cdWin = d.cdWin ∧ (modHealth n f d).cdStat = d.cdStat ∧ (modHealth n f d).lc = d.lc ∧
    (modHealth n f d).db = d.db ∧ (modHealth n f d).jtag = d.jtag ∧ (modHealth n f d).reply = d.reply ∧
    (modHealth n f d).free = d.free := by
  repeat' constructor

/-- `modPort` changes `gf` only. -/
@[simp] theorem modPort_frame (n : Nat) (f : UpPort → UpPort) (d : Device) :
    (modPort n f d).pins = d.pins ∧ (modPort n f d).junction = d.junction ∧ (modPort n f d).guard = d.guard ∧
    (modPort n f d).clock = d.clock ∧ (modPort n f d).power = d.power ∧ (modPort n f d).lastF2 = d.lastF2 ∧
    (modPort n f d).mem = d.mem ∧ (modPort n f d).flipped = d.flipped ∧ (modPort n f d).start = d.start ∧
    (modPort n f d).measures = d.measures ∧ (modPort n f d).ev = d.ev ∧ (modPort n f d).lg = d.lg ∧
    (modPort n f d).ec = d.ec ∧ (modPort n f d).pt = d.pt ∧ (modPort n f d).tx = d.tx ∧ (modPort n f d).is_ = d.is_ ∧
    (modPort n f d).dg = d.dg ∧ (modPort n f d).sg = d.sg ∧ (modPort n f d).bat = d.bat ∧
    (modPort n f d).sensorLive = d.sensorLive ∧ (modPort n f d).kv = d.kv ∧ (modPort n f d).cx = d.cx ∧
    (modPort n f d).att = d.att ∧ (modPort n f d).mb = d.mb ∧ (modPort n f d).mg = d.mg ∧ (modPort n f d).cd = d.cd ∧
    (modPort n f d).cdWin = d.cdWin ∧ (modPort n f d).cdStat = d.cdStat ∧ (modPort n f d).lc = d.lc ∧
    (modPort n f d).db = d.db ∧ (modPort n f d).jtag = d.jtag ∧ (modPort n f d).reply = d.reply ∧
    (modPort n f d).free = d.free := by
  repeat' constructor

/-- `modBus` changes `gf` only. -/
@[simp] theorem modBus_frame (n : Nat) (f : FlashBus → FlashBus) (d : Device) :
    (modBus n f d).pins = d.pins ∧ (modBus n f d).junction = d.junction ∧ (modBus n f d).guard = d.guard ∧
    (modBus n f d).clock = d.clock ∧ (modBus n f d).power = d.power ∧ (modBus n f d).lastF2 = d.lastF2 ∧
    (modBus n f d).mem = d.mem ∧ (modBus n f d).flipped = d.flipped ∧ (modBus n f d).start = d.start ∧
    (modBus n f d).measures = d.measures ∧ (modBus n f d).ev = d.ev ∧ (modBus n f d).lg = d.lg ∧ (modBus n f d).ec = d.ec ∧
    (modBus n f d).pt = d.pt ∧ (modBus n f d).tx = d.tx ∧ (modBus n f d).is_ = d.is_ ∧ (modBus n f d).dg = d.dg ∧
    (modBus n f d).sg = d.sg ∧ (modBus n f d).bat = d.bat ∧ (modBus n f d).sensorLive = d.sensorLive ∧
    (modBus n f d).kv = d.kv ∧ (modBus n f d).cx = d.cx ∧ (modBus n f d).att = d.att ∧ (modBus n f d).mb = d.mb ∧
    (modBus n f d).mg = d.mg ∧ (modBus n f d).cd = d.cd ∧ (modBus n f d).cdWin = d.cdWin ∧ (modBus n f d).cdStat = d.cdStat ∧
    (modBus n f d).lc = d.lc ∧ (modBus n f d).db = d.db ∧ (modBus n f d).jtag = d.jtag ∧ (modBus n f d).reply = d.reply ∧
    (modBus n f d).free = d.free := by
  repeat' constructor

/-- `modDev` changes `gf` only. -/
@[simp] theorem modDev_frame (n : Nat) (f : FlashDev → FlashDev) (d : Device) :
    (modDev n f d).pins = d.pins ∧ (modDev n f d).junction = d.junction ∧ (modDev n f d).guard = d.guard ∧
    (modDev n f d).clock = d.clock ∧ (modDev n f d).power = d.power ∧ (modDev n f d).lastF2 = d.lastF2 ∧
    (modDev n f d).mem = d.mem ∧ (modDev n f d).flipped = d.flipped ∧ (modDev n f d).start = d.start ∧
    (modDev n f d).measures = d.measures ∧ (modDev n f d).ev = d.ev ∧ (modDev n f d).lg = d.lg ∧ (modDev n f d).ec = d.ec ∧
    (modDev n f d).pt = d.pt ∧ (modDev n f d).tx = d.tx ∧ (modDev n f d).is_ = d.is_ ∧ (modDev n f d).dg = d.dg ∧
    (modDev n f d).sg = d.sg ∧ (modDev n f d).bat = d.bat ∧ (modDev n f d).sensorLive = d.sensorLive ∧
    (modDev n f d).kv = d.kv ∧ (modDev n f d).cx = d.cx ∧ (modDev n f d).att = d.att ∧ (modDev n f d).mb = d.mb ∧
    (modDev n f d).mg = d.mg ∧ (modDev n f d).cd = d.cd ∧ (modDev n f d).cdWin = d.cdWin ∧ (modDev n f d).cdStat = d.cdStat ∧
    (modDev n f d).lc = d.lc ∧ (modDev n f d).db = d.db ∧ (modDev n f d).jtag = d.jtag ∧ (modDev n f d).reply = d.reply ∧
    (modDev n f d).free = d.free := by
  repeat' constructor

/-- `modTs` changes `gf` only. -/
@[simp] theorem modTs_frame (n : Nat) (f : Turnstile → Turnstile) (d : Device) :
    (modTs n f d).pins = d.pins ∧ (modTs n f d).junction = d.junction ∧ (modTs n f d).guard = d.guard ∧
    (modTs n f d).clock = d.clock ∧ (modTs n f d).power = d.power ∧ (modTs n f d).lastF2 = d.lastF2 ∧
    (modTs n f d).mem = d.mem ∧ (modTs n f d).flipped = d.flipped ∧ (modTs n f d).start = d.start ∧
    (modTs n f d).measures = d.measures ∧ (modTs n f d).ev = d.ev ∧ (modTs n f d).lg = d.lg ∧ (modTs n f d).ec = d.ec ∧
    (modTs n f d).pt = d.pt ∧ (modTs n f d).tx = d.tx ∧ (modTs n f d).is_ = d.is_ ∧ (modTs n f d).dg = d.dg ∧
    (modTs n f d).sg = d.sg ∧ (modTs n f d).bat = d.bat ∧ (modTs n f d).sensorLive = d.sensorLive ∧ (modTs n f d).kv = d.kv ∧
    (modTs n f d).cx = d.cx ∧ (modTs n f d).att = d.att ∧ (modTs n f d).mb = d.mb ∧ (modTs n f d).mg = d.mg ∧
    (modTs n f d).cd = d.cd ∧ (modTs n f d).cdWin = d.cdWin ∧ (modTs n f d).cdStat = d.cdStat ∧ (modTs n f d).lc = d.lc ∧
    (modTs n f d).db = d.db ∧ (modTs n f d).jtag = d.jtag ∧ (modTs n f d).reply = d.reply ∧ (modTs n f d).free = d.free := by
  repeat' constructor

/-- `modChan` changes `mb` only. -/
@[simp] theorem modChan_frame (n : Nat) (f : Channel → Channel) (d : Device) :
    (modChan n f d).pins = d.pins ∧ (modChan n f d).junction = d.junction ∧ (modChan n f d).guard = d.guard ∧
    (modChan n f d).clock = d.clock ∧ (modChan n f d).power = d.power ∧ (modChan n f d).lastF2 = d.lastF2 ∧
    (modChan n f d).mem = d.mem ∧ (modChan n f d).flipped = d.flipped ∧ (modChan n f d).start = d.start ∧
    (modChan n f d).measures = d.measures ∧ (modChan n f d).ev = d.ev ∧ (modChan n f d).lg = d.lg ∧
    (modChan n f d).ec = d.ec ∧ (modChan n f d).pt = d.pt ∧ (modChan n f d).tx = d.tx ∧ (modChan n f d).gf = d.gf ∧
    (modChan n f d).is_ = d.is_ ∧ (modChan n f d).dg = d.dg ∧ (modChan n f d).sg = d.sg ∧ (modChan n f d).bat = d.bat ∧
    (modChan n f d).sensorLive = d.sensorLive ∧ (modChan n f d).kv = d.kv ∧ (modChan n f d).cx = d.cx ∧
    (modChan n f d).att = d.att ∧ (modChan n f d).mg = d.mg ∧ (modChan n f d).cd = d.cd ∧ (modChan n f d).cdWin = d.cdWin ∧
    (modChan n f d).cdStat = d.cdStat ∧ (modChan n f d).lc = d.lc ∧ (modChan n f d).db = d.db ∧
    (modChan n f d).jtag = d.jtag ∧ (modChan n f d).reply = d.reply ∧ (modChan n f d).free = d.free := by
  repeat' constructor

/-- `modI3c` changes `mg` only. -/
@[simp] theorem modI3c_frame (n : Nat) (f : I3cPort → I3cPort) (d : Device) :
    (modI3c n f d).pins = d.pins ∧ (modI3c n f d).junction = d.junction ∧ (modI3c n f d).guard = d.guard ∧
    (modI3c n f d).clock = d.clock ∧ (modI3c n f d).power = d.power ∧ (modI3c n f d).lastF2 = d.lastF2 ∧
    (modI3c n f d).mem = d.mem ∧ (modI3c n f d).flipped = d.flipped ∧ (modI3c n f d).start = d.start ∧
    (modI3c n f d).measures = d.measures ∧ (modI3c n f d).ev = d.ev ∧ (modI3c n f d).lg = d.lg ∧ (modI3c n f d).ec = d.ec ∧
    (modI3c n f d).pt = d.pt ∧ (modI3c n f d).tx = d.tx ∧ (modI3c n f d).gf = d.gf ∧ (modI3c n f d).is_ = d.is_ ∧
    (modI3c n f d).dg = d.dg ∧ (modI3c n f d).sg = d.sg ∧ (modI3c n f d).bat = d.bat ∧
    (modI3c n f d).sensorLive = d.sensorLive ∧ (modI3c n f d).kv = d.kv ∧ (modI3c n f d).cx = d.cx ∧
    (modI3c n f d).att = d.att ∧ (modI3c n f d).mb = d.mb ∧ (modI3c n f d).cd = d.cd ∧ (modI3c n f d).cdWin = d.cdWin ∧
    (modI3c n f d).cdStat = d.cdStat ∧ (modI3c n f d).lc = d.lc ∧ (modI3c n f d).db = d.db ∧ (modI3c n f d).jtag = d.jtag ∧
    (modI3c n f d).reply = d.reply ∧ (modI3c n f d).free = d.free := by
  repeat' constructor

/-- `modSlot` changes `cd` only. -/
@[simp] theorem modSlot_frame (n : Nat) (f : CardSlot → CardSlot) (d : Device) :
    (modSlot n f d).pins = d.pins ∧ (modSlot n f d).junction = d.junction ∧ (modSlot n f d).guard = d.guard ∧
    (modSlot n f d).clock = d.clock ∧ (modSlot n f d).power = d.power ∧ (modSlot n f d).lastF2 = d.lastF2 ∧
    (modSlot n f d).mem = d.mem ∧ (modSlot n f d).flipped = d.flipped ∧ (modSlot n f d).start = d.start ∧
    (modSlot n f d).measures = d.measures ∧ (modSlot n f d).ev = d.ev ∧ (modSlot n f d).lg = d.lg ∧
    (modSlot n f d).ec = d.ec ∧ (modSlot n f d).pt = d.pt ∧ (modSlot n f d).tx = d.tx ∧ (modSlot n f d).gf = d.gf ∧
    (modSlot n f d).is_ = d.is_ ∧ (modSlot n f d).dg = d.dg ∧ (modSlot n f d).sg = d.sg ∧ (modSlot n f d).bat = d.bat ∧
    (modSlot n f d).sensorLive = d.sensorLive ∧ (modSlot n f d).kv = d.kv ∧ (modSlot n f d).cx = d.cx ∧
    (modSlot n f d).att = d.att ∧ (modSlot n f d).mb = d.mb ∧ (modSlot n f d).mg = d.mg ∧ (modSlot n f d).cdWin = d.cdWin ∧
    (modSlot n f d).cdStat = d.cdStat ∧ (modSlot n f d).lc = d.lc ∧ (modSlot n f d).db = d.db ∧
    (modSlot n f d).jtag = d.jtag ∧ (modSlot n f d).reply = d.reply ∧ (modSlot n f d).free = d.free := by
  repeat' constructor

/-- `modTx` changes `tx` only. -/
@[simp] theorem modTx_frame (f : Couch → Couch) (d : Device) :
    (modTx f d).pins = d.pins ∧ (modTx f d).junction = d.junction ∧ (modTx f d).guard = d.guard ∧
    (modTx f d).clock = d.clock ∧ (modTx f d).power = d.power ∧ (modTx f d).lastF2 = d.lastF2 ∧ (modTx f d).mem = d.mem ∧
    (modTx f d).flipped = d.flipped ∧ (modTx f d).start = d.start ∧ (modTx f d).measures = d.measures ∧
    (modTx f d).ev = d.ev ∧ (modTx f d).lg = d.lg ∧ (modTx f d).ec = d.ec ∧ (modTx f d).pt = d.pt ∧ (modTx f d).gf = d.gf ∧
    (modTx f d).is_ = d.is_ ∧ (modTx f d).dg = d.dg ∧ (modTx f d).sg = d.sg ∧ (modTx f d).bat = d.bat ∧
    (modTx f d).sensorLive = d.sensorLive ∧ (modTx f d).kv = d.kv ∧ (modTx f d).cx = d.cx ∧ (modTx f d).att = d.att ∧
    (modTx f d).mb = d.mb ∧ (modTx f d).mg = d.mg ∧ (modTx f d).cd = d.cd ∧ (modTx f d).cdWin = d.cdWin ∧
    (modTx f d).cdStat = d.cdStat ∧ (modTx f d).lc = d.lc ∧ (modTx f d).db = d.db ∧ (modTx f d).jtag = d.jtag ∧
    (modTx f d).reply = d.reply ∧ (modTx f d).free = d.free := by
  repeat' constructor

/-- `modDg` changes `dg` only. -/
@[simp] theorem modDg_frame (f : DigestEngine → DigestEngine) (d : Device) :
    (modDg f d).pins = d.pins ∧ (modDg f d).junction = d.junction ∧ (modDg f d).guard = d.guard ∧
    (modDg f d).clock = d.clock ∧ (modDg f d).power = d.power ∧ (modDg f d).lastF2 = d.lastF2 ∧ (modDg f d).mem = d.mem ∧
    (modDg f d).flipped = d.flipped ∧ (modDg f d).start = d.start ∧ (modDg f d).measures = d.measures ∧
    (modDg f d).ev = d.ev ∧ (modDg f d).lg = d.lg ∧ (modDg f d).ec = d.ec ∧ (modDg f d).pt = d.pt ∧ (modDg f d).tx = d.tx ∧
    (modDg f d).gf = d.gf ∧ (modDg f d).is_ = d.is_ ∧ (modDg f d).sg = d.sg ∧ (modDg f d).bat = d.bat ∧
    (modDg f d).sensorLive = d.sensorLive ∧ (modDg f d).kv = d.kv ∧ (modDg f d).cx = d.cx ∧ (modDg f d).att = d.att ∧
    (modDg f d).mb = d.mb ∧ (modDg f d).mg = d.mg ∧ (modDg f d).cd = d.cd ∧ (modDg f d).cdWin = d.cdWin ∧
    (modDg f d).cdStat = d.cdStat ∧ (modDg f d).lc = d.lc ∧ (modDg f d).db = d.db ∧ (modDg f d).jtag = d.jtag ∧
    (modDg f d).reply = d.reply ∧ (modDg f d).free = d.free := by
  repeat' constructor

/-- `modSg` changes `sg` only. -/
@[simp] theorem modSg_frame (f : SigEngine → SigEngine) (d : Device) :
    (modSg f d).pins = d.pins ∧ (modSg f d).junction = d.junction ∧ (modSg f d).guard = d.guard ∧
    (modSg f d).clock = d.clock ∧ (modSg f d).power = d.power ∧ (modSg f d).lastF2 = d.lastF2 ∧ (modSg f d).mem = d.mem ∧
    (modSg f d).flipped = d.flipped ∧ (modSg f d).start = d.start ∧ (modSg f d).measures = d.measures ∧
    (modSg f d).ev = d.ev ∧ (modSg f d).lg = d.lg ∧ (modSg f d).ec = d.ec ∧ (modSg f d).pt = d.pt ∧ (modSg f d).tx = d.tx ∧
    (modSg f d).gf = d.gf ∧ (modSg f d).is_ = d.is_ ∧ (modSg f d).dg = d.dg ∧ (modSg f d).bat = d.bat ∧
    (modSg f d).sensorLive = d.sensorLive ∧ (modSg f d).kv = d.kv ∧ (modSg f d).cx = d.cx ∧ (modSg f d).att = d.att ∧
    (modSg f d).mb = d.mb ∧ (modSg f d).mg = d.mg ∧ (modSg f d).cd = d.cd ∧ (modSg f d).cdWin = d.cdWin ∧
    (modSg f d).cdStat = d.cdStat ∧ (modSg f d).lc = d.lc ∧ (modSg f d).db = d.db ∧ (modSg f d).jtag = d.jtag ∧
    (modSg f d).reply = d.reply ∧ (modSg f d).free = d.free := by
  repeat' constructor

/-- `modKv` changes `kv` only. -/
@[simp] theorem modKv_frame (f : KeyVault → KeyVault) (d : Device) :
    (modKv f d).pins = d.pins ∧ (modKv f d).junction = d.junction ∧ (modKv f d).guard = d.guard ∧
    (modKv f d).clock = d.clock ∧ (modKv f d).power = d.power ∧ (modKv f d).lastF2 = d.lastF2 ∧ (modKv f d).mem = d.mem ∧
    (modKv f d).flipped = d.flipped ∧ (modKv f d).start = d.start ∧ (modKv f d).measures = d.measures ∧
    (modKv f d).ev = d.ev ∧ (modKv f d).lg = d.lg ∧ (modKv f d).ec = d.ec ∧ (modKv f d).pt = d.pt ∧ (modKv f d).tx = d.tx ∧
    (modKv f d).gf = d.gf ∧ (modKv f d).is_ = d.is_ ∧ (modKv f d).dg = d.dg ∧ (modKv f d).sg = d.sg ∧
    (modKv f d).bat = d.bat ∧ (modKv f d).sensorLive = d.sensorLive ∧ (modKv f d).cx = d.cx ∧ (modKv f d).att = d.att ∧
    (modKv f d).mb = d.mb ∧ (modKv f d).mg = d.mg ∧ (modKv f d).cd = d.cd ∧ (modKv f d).cdWin = d.cdWin ∧
    (modKv f d).cdStat = d.cdStat ∧ (modKv f d).lc = d.lc ∧ (modKv f d).db = d.db ∧ (modKv f d).jtag = d.jtag ∧
    (modKv f d).reply = d.reply ∧ (modKv f d).free = d.free := by
  repeat' constructor

/-- `modLg` changes `lg` only. -/
@[simp] theorem modLg_frame (f : Ledger → Ledger) (d : Device) :
    (modLg f d).pins = d.pins ∧ (modLg f d).junction = d.junction ∧ (modLg f d).guard = d.guard ∧
    (modLg f d).clock = d.clock ∧ (modLg f d).power = d.power ∧ (modLg f d).lastF2 = d.lastF2 ∧ (modLg f d).mem = d.mem ∧
    (modLg f d).flipped = d.flipped ∧ (modLg f d).start = d.start ∧ (modLg f d).measures = d.measures ∧
    (modLg f d).ev = d.ev ∧ (modLg f d).ec = d.ec ∧ (modLg f d).pt = d.pt ∧ (modLg f d).tx = d.tx ∧ (modLg f d).gf = d.gf ∧
    (modLg f d).is_ = d.is_ ∧ (modLg f d).dg = d.dg ∧ (modLg f d).sg = d.sg ∧ (modLg f d).bat = d.bat ∧
    (modLg f d).sensorLive = d.sensorLive ∧ (modLg f d).kv = d.kv ∧ (modLg f d).cx = d.cx ∧ (modLg f d).att = d.att ∧
    (modLg f d).mb = d.mb ∧ (modLg f d).mg = d.mg ∧ (modLg f d).cd = d.cd ∧ (modLg f d).cdWin = d.cdWin ∧
    (modLg f d).cdStat = d.cdStat ∧ (modLg f d).lc = d.lc ∧ (modLg f d).db = d.db ∧ (modLg f d).jtag = d.jtag ∧
    (modLg f d).reply = d.reply ∧ (modLg f d).free = d.free := by
  repeat' constructor

/-- `modEv` changes `ev` only. -/
@[simp] theorem modEv_frame (f : Recorder → Recorder) (d : Device) :
    (modEv f d).pins = d.pins ∧ (modEv f d).junction = d.junction ∧ (modEv f d).guard = d.guard ∧
    (modEv f d).clock = d.clock ∧ (modEv f d).power = d.power ∧ (modEv f d).lastF2 = d.lastF2 ∧ (modEv f d).mem = d.mem ∧
    (modEv f d).flipped = d.flipped ∧ (modEv f d).start = d.start ∧ (modEv f d).measures = d.measures ∧
    (modEv f d).lg = d.lg ∧ (modEv f d).ec = d.ec ∧ (modEv f d).pt = d.pt ∧ (modEv f d).tx = d.tx ∧ (modEv f d).gf = d.gf ∧
    (modEv f d).is_ = d.is_ ∧ (modEv f d).dg = d.dg ∧ (modEv f d).sg = d.sg ∧ (modEv f d).bat = d.bat ∧
    (modEv f d).sensorLive = d.sensorLive ∧ (modEv f d).kv = d.kv ∧ (modEv f d).cx = d.cx ∧ (modEv f d).att = d.att ∧
    (modEv f d).mb = d.mb ∧ (modEv f d).mg = d.mg ∧ (modEv f d).cd = d.cd ∧ (modEv f d).cdWin = d.cdWin ∧
    (modEv f d).cdStat = d.cdStat ∧ (modEv f d).lc = d.lc ∧ (modEv f d).db = d.db ∧ (modEv f d).jtag = d.jtag ∧
    (modEv f d).reply = d.reply ∧ (modEv f d).free = d.free := by
  repeat' constructor

/-- `modCx` changes `cx` only. -/
@[simp] theorem modCx_frame (f : CxlPort → CxlPort) (d : Device) :
    (modCx f d).pins = d.pins ∧ (modCx f d).junction = d.junction ∧ (modCx f d).guard = d.guard ∧
    (modCx f d).clock = d.clock ∧ (modCx f d).power = d.power ∧ (modCx f d).lastF2 = d.lastF2 ∧ (modCx f d).mem = d.mem ∧
    (modCx f d).flipped = d.flipped ∧ (modCx f d).start = d.start ∧ (modCx f d).measures = d.measures ∧
    (modCx f d).ev = d.ev ∧ (modCx f d).lg = d.lg ∧ (modCx f d).ec = d.ec ∧ (modCx f d).pt = d.pt ∧ (modCx f d).tx = d.tx ∧
    (modCx f d).gf = d.gf ∧ (modCx f d).is_ = d.is_ ∧ (modCx f d).dg = d.dg ∧ (modCx f d).sg = d.sg ∧
    (modCx f d).bat = d.bat ∧ (modCx f d).sensorLive = d.sensorLive ∧ (modCx f d).kv = d.kv ∧ (modCx f d).att = d.att ∧
    (modCx f d).mb = d.mb ∧ (modCx f d).mg = d.mg ∧ (modCx f d).cd = d.cd ∧ (modCx f d).cdWin = d.cdWin ∧
    (modCx f d).cdStat = d.cdStat ∧ (modCx f d).lc = d.lc ∧ (modCx f d).db = d.db ∧ (modCx f d).jtag = d.jtag ∧
    (modCx f d).reply = d.reply ∧ (modCx f d).free = d.free := by
  repeat' constructor

/-- `modLc` changes `lc` only. -/
@[simp] theorem modLc_frame (f : LifeCycle → LifeCycle) (d : Device) :
    (modLc f d).pins = d.pins ∧ (modLc f d).junction = d.junction ∧ (modLc f d).guard = d.guard ∧
    (modLc f d).clock = d.clock ∧ (modLc f d).power = d.power ∧ (modLc f d).lastF2 = d.lastF2 ∧ (modLc f d).mem = d.mem ∧
    (modLc f d).flipped = d.flipped ∧ (modLc f d).start = d.start ∧ (modLc f d).measures = d.measures ∧
    (modLc f d).ev = d.ev ∧ (modLc f d).lg = d.lg ∧ (modLc f d).ec = d.ec ∧ (modLc f d).pt = d.pt ∧ (modLc f d).tx = d.tx ∧
    (modLc f d).gf = d.gf ∧ (modLc f d).is_ = d.is_ ∧ (modLc f d).dg = d.dg ∧ (modLc f d).sg = d.sg ∧
    (modLc f d).bat = d.bat ∧ (modLc f d).sensorLive = d.sensorLive ∧ (modLc f d).kv = d.kv ∧ (modLc f d).cx = d.cx ∧
    (modLc f d).att = d.att ∧ (modLc f d).mb = d.mb ∧ (modLc f d).mg = d.mg ∧ (modLc f d).cd = d.cd ∧
    (modLc f d).cdWin = d.cdWin ∧ (modLc f d).cdStat = d.cdStat ∧ (modLc f d).db = d.db ∧ (modLc f d).jtag = d.jtag ∧
    (modLc f d).reply = d.reply ∧ (modLc f d).free = d.free := by
  repeat' constructor

/-- `modDb` changes `db` only. -/
@[simp] theorem modDb_frame (f : Booth → Booth) (d : Device) :
    (modDb f d).pins = d.pins ∧ (modDb f d).junction = d.junction ∧ (modDb f d).guard = d.guard ∧
    (modDb f d).clock = d.clock ∧ (modDb f d).power = d.power ∧ (modDb f d).lastF2 = d.lastF2 ∧ (modDb f d).mem = d.mem ∧
    (modDb f d).flipped = d.flipped ∧ (modDb f d).start = d.start ∧ (modDb f d).measures = d.measures ∧
    (modDb f d).ev = d.ev ∧ (modDb f d).lg = d.lg ∧ (modDb f d).ec = d.ec ∧ (modDb f d).pt = d.pt ∧ (modDb f d).tx = d.tx ∧
    (modDb f d).gf = d.gf ∧ (modDb f d).is_ = d.is_ ∧ (modDb f d).dg = d.dg ∧ (modDb f d).sg = d.sg ∧
    (modDb f d).bat = d.bat ∧ (modDb f d).sensorLive = d.sensorLive ∧ (modDb f d).kv = d.kv ∧ (modDb f d).cx = d.cx ∧
    (modDb f d).att = d.att ∧ (modDb f d).mb = d.mb ∧ (modDb f d).mg = d.mg ∧ (modDb f d).cd = d.cd ∧
    (modDb f d).cdWin = d.cdWin ∧ (modDb f d).cdStat = d.cdStat ∧ (modDb f d).lc = d.lc ∧ (modDb f d).jtag = d.jtag ∧
    (modDb f d).reply = d.reply ∧ (modDb f d).free = d.free := by
  repeat' constructor

/-- `modCd` changes `cd` only. -/
@[simp] theorem modCd_frame (f : CardPort → CardPort) (d : Device) :
    (modCd f d).pins = d.pins ∧ (modCd f d).junction = d.junction ∧ (modCd f d).guard = d.guard ∧
    (modCd f d).clock = d.clock ∧ (modCd f d).power = d.power ∧ (modCd f d).lastF2 = d.lastF2 ∧ (modCd f d).mem = d.mem ∧
    (modCd f d).flipped = d.flipped ∧ (modCd f d).start = d.start ∧ (modCd f d).measures = d.measures ∧
    (modCd f d).ev = d.ev ∧ (modCd f d).lg = d.lg ∧ (modCd f d).ec = d.ec ∧ (modCd f d).pt = d.pt ∧ (modCd f d).tx = d.tx ∧
    (modCd f d).gf = d.gf ∧ (modCd f d).is_ = d.is_ ∧ (modCd f d).dg = d.dg ∧ (modCd f d).sg = d.sg ∧
    (modCd f d).bat = d.bat ∧ (modCd f d).sensorLive = d.sensorLive ∧ (modCd f d).kv = d.kv ∧ (modCd f d).cx = d.cx ∧
    (modCd f d).att = d.att ∧ (modCd f d).mb = d.mb ∧ (modCd f d).mg = d.mg ∧ (modCd f d).cdWin = d.cdWin ∧
    (modCd f d).cdStat = d.cdStat ∧ (modCd f d).lc = d.lc ∧ (modCd f d).db = d.db ∧ (modCd f d).jtag = d.jtag ∧
    (modCd f d).reply = d.reply ∧ (modCd f d).free = d.free := by
  repeat' constructor

/-- `modCs` changes `cdStat` only. -/
@[simp] theorem modCs_frame (f : CardStat → CardStat) (d : Device) :
    (modCs f d).pins = d.pins ∧ (modCs f d).junction = d.junction ∧ (modCs f d).guard = d.guard ∧
    (modCs f d).clock = d.clock ∧ (modCs f d).power = d.power ∧ (modCs f d).lastF2 = d.lastF2 ∧ (modCs f d).mem = d.mem ∧
    (modCs f d).flipped = d.flipped ∧ (modCs f d).start = d.start ∧ (modCs f d).measures = d.measures ∧
    (modCs f d).ev = d.ev ∧ (modCs f d).lg = d.lg ∧ (modCs f d).ec = d.ec ∧ (modCs f d).pt = d.pt ∧ (modCs f d).tx = d.tx ∧
    (modCs f d).gf = d.gf ∧ (modCs f d).is_ = d.is_ ∧ (modCs f d).dg = d.dg ∧ (modCs f d).sg = d.sg ∧
    (modCs f d).bat = d.bat ∧ (modCs f d).sensorLive = d.sensorLive ∧ (modCs f d).kv = d.kv ∧ (modCs f d).cx = d.cx ∧
    (modCs f d).att = d.att ∧ (modCs f d).mb = d.mb ∧ (modCs f d).mg = d.mg ∧ (modCs f d).cd = d.cd ∧
    (modCs f d).cdWin = d.cdWin ∧ (modCs f d).lc = d.lc ∧ (modCs f d).db = d.db ∧ (modCs f d).jtag = d.jtag ∧
    (modCs f d).reply = d.reply ∧ (modCs f d).free = d.free := by
  repeat' constructor

/-- `modPw` changes `power` only. -/
@[simp] theorem modPw_frame (f : Power → Power) (d : Device) :
    (modPw f d).pins = d.pins ∧ (modPw f d).junction = d.junction ∧ (modPw f d).guard = d.guard ∧
    (modPw f d).clock = d.clock ∧ (modPw f d).lastF2 = d.lastF2 ∧ (modPw f d).mem = d.mem ∧ (modPw f d).flipped = d.flipped ∧
    (modPw f d).start = d.start ∧ (modPw f d).measures = d.measures ∧ (modPw f d).ev = d.ev ∧ (modPw f d).lg = d.lg ∧
    (modPw f d).ec = d.ec ∧ (modPw f d).pt = d.pt ∧ (modPw f d).tx = d.tx ∧ (modPw f d).gf = d.gf ∧ (modPw f d).is_ = d.is_ ∧
    (modPw f d).dg = d.dg ∧ (modPw f d).sg = d.sg ∧ (modPw f d).bat = d.bat ∧ (modPw f d).sensorLive = d.sensorLive ∧
    (modPw f d).kv = d.kv ∧ (modPw f d).cx = d.cx ∧ (modPw f d).att = d.att ∧ (modPw f d).mb = d.mb ∧ (modPw f d).mg = d.mg ∧
    (modPw f d).cd = d.cd ∧ (modPw f d).cdWin = d.cdWin ∧ (modPw f d).cdStat = d.cdStat ∧ (modPw f d).lc = d.lc ∧
    (modPw f d).db = d.db ∧ (modPw f d).jtag = d.jtag ∧ (modPw f d).reply = d.reply ∧ (modPw f d).free = d.free := by
  repeat' constructor

/-- `modPins` changes `pins` only. -/
@[simp] theorem modPins_frame (f : Pins → Pins) (d : Device) :
    (modPins f d).junction = d.junction ∧ (modPins f d).guard = d.guard ∧ (modPins f d).clock = d.clock ∧
    (modPins f d).power = d.power ∧ (modPins f d).lastF2 = d.lastF2 ∧ (modPins f d).mem = d.mem ∧
    (modPins f d).flipped = d.flipped ∧ (modPins f d).start = d.start ∧ (modPins f d).measures = d.measures ∧
    (modPins f d).ev = d.ev ∧ (modPins f d).lg = d.lg ∧ (modPins f d).ec = d.ec ∧ (modPins f d).pt = d.pt ∧
    (modPins f d).tx = d.tx ∧ (modPins f d).gf = d.gf ∧ (modPins f d).is_ = d.is_ ∧ (modPins f d).dg = d.dg ∧
    (modPins f d).sg = d.sg ∧ (modPins f d).bat = d.bat ∧ (modPins f d).sensorLive = d.sensorLive ∧ (modPins f d).kv = d.kv ∧
    (modPins f d).cx = d.cx ∧ (modPins f d).att = d.att ∧ (modPins f d).mb = d.mb ∧ (modPins f d).mg = d.mg ∧
    (modPins f d).cd = d.cd ∧ (modPins f d).cdWin = d.cdWin ∧ (modPins f d).cdStat = d.cdStat ∧ (modPins f d).lc = d.lc ∧
    (modPins f d).db = d.db ∧ (modPins f d).jtag = d.jtag ∧ (modPins f d).reply = d.reply ∧ (modPins f d).free = d.free := by
  repeat' constructor

/-- `interrupt` changes `mb` only. -/
@[simp] theorem interrupt_frame (h : Nat) (d : Device) :
    (interrupt h d).pins = d.pins ∧ (interrupt h d).junction = d.junction ∧ (interrupt h d).guard = d.guard ∧
    (interrupt h d).clock = d.clock ∧ (interrupt h d).power = d.power ∧ (interrupt h d).lastF2 = d.lastF2 ∧
    (interrupt h d).mem = d.mem ∧ (interrupt h d).flipped = d.flipped ∧ (interrupt h d).start = d.start ∧
    (interrupt h d).measures = d.measures ∧ (interrupt h d).ev = d.ev ∧ (interrupt h d).lg = d.lg ∧
    (interrupt h d).ec = d.ec ∧ (interrupt h d).pt = d.pt ∧ (interrupt h d).tx = d.tx ∧ (interrupt h d).gf = d.gf ∧
    (interrupt h d).is_ = d.is_ ∧ (interrupt h d).dg = d.dg ∧ (interrupt h d).sg = d.sg ∧ (interrupt h d).bat = d.bat ∧
    (interrupt h d).sensorLive = d.sensorLive ∧ (interrupt h d).kv = d.kv ∧ (interrupt h d).cx = d.cx ∧
    (interrupt h d).att = d.att ∧ (interrupt h d).mg = d.mg ∧ (interrupt h d).cd = d.cd ∧ (interrupt h d).cdWin = d.cdWin ∧
    (interrupt h d).cdStat = d.cdStat ∧ (interrupt h d).lc = d.lc ∧ (interrupt h d).db = d.db ∧
    (interrupt h d).jtag = d.jtag ∧ (interrupt h d).reply = d.reply ∧ (interrupt h d).free = d.free := by
  repeat' constructor

/-- `msi` changes `cx` only. -/
@[simp] theorem msi_frame (ld vec : Nat) (d : Device) :
    (msi ld vec d).pins = d.pins ∧ (msi ld vec d).junction = d.junction ∧ (msi ld vec d).guard = d.guard ∧
    (msi ld vec d).clock = d.clock ∧ (msi ld vec d).power = d.power ∧ (msi ld vec d).lastF2 = d.lastF2 ∧
    (msi ld vec d).mem = d.mem ∧ (msi ld vec d).flipped = d.flipped ∧ (msi ld vec d).start = d.start ∧
    (msi ld vec d).measures = d.measures ∧ (msi ld vec d).ev = d.ev ∧ (msi ld vec d).lg = d.lg ∧ (msi ld vec d).ec = d.ec ∧
    (msi ld vec d).pt = d.pt ∧ (msi ld vec d).tx = d.tx ∧ (msi ld vec d).gf = d.gf ∧ (msi ld vec d).is_ = d.is_ ∧
    (msi ld vec d).dg = d.dg ∧ (msi ld vec d).sg = d.sg ∧ (msi ld vec d).bat = d.bat ∧
    (msi ld vec d).sensorLive = d.sensorLive ∧ (msi ld vec d).kv = d.kv ∧ (msi ld vec d).att = d.att ∧
    (msi ld vec d).mb = d.mb ∧ (msi ld vec d).mg = d.mg ∧ (msi ld vec d).cd = d.cd ∧ (msi ld vec d).cdWin = d.cdWin ∧
    (msi ld vec d).cdStat = d.cdStat ∧ (msi ld vec d).lc = d.lc ∧ (msi ld vec d).db = d.db ∧ (msi ld vec d).jtag = d.jtag ∧
    (msi ld vec d).reply = d.reply ∧ (msi ld vec d).free = d.free := by
  unfold msi; simp

/-- `extendWmk` changes `measures` only. -/
@[simp] theorem extendWmk_frame (n : Nat) (m : List Byte) (d : Device) :
    (extendWmk n m d).pins = d.pins ∧ (extendWmk n m d).junction = d.junction ∧ (extendWmk n m d).guard = d.guard ∧
    (extendWmk n m d).clock = d.clock ∧ (extendWmk n m d).power = d.power ∧ (extendWmk n m d).lastF2 = d.lastF2 ∧
    (extendWmk n m d).mem = d.mem ∧ (extendWmk n m d).flipped = d.flipped ∧ (extendWmk n m d).start = d.start ∧
    (extendWmk n m d).ev = d.ev ∧ (extendWmk n m d).lg = d.lg ∧ (extendWmk n m d).ec = d.ec ∧ (extendWmk n m d).pt = d.pt ∧
    (extendWmk n m d).tx = d.tx ∧ (extendWmk n m d).gf = d.gf ∧ (extendWmk n m d).is_ = d.is_ ∧ (extendWmk n m d).dg = d.dg ∧
    (extendWmk n m d).sg = d.sg ∧ (extendWmk n m d).bat = d.bat ∧ (extendWmk n m d).sensorLive = d.sensorLive ∧
    (extendWmk n m d).kv = d.kv ∧ (extendWmk n m d).cx = d.cx ∧ (extendWmk n m d).att = d.att ∧ (extendWmk n m d).mb = d.mb ∧
    (extendWmk n m d).mg = d.mg ∧ (extendWmk n m d).cd = d.cd ∧ (extendWmk n m d).cdWin = d.cdWin ∧
    (extendWmk n m d).cdStat = d.cdStat ∧ (extendWmk n m d).lc = d.lc ∧ (extendWmk n m d).db = d.db ∧
    (extendWmk n m d).jtag = d.jtag ∧ (extendWmk n m d).reply = d.reply ∧ (extendWmk n m d).free = d.free := by
  repeat' constructor

/-- `clearWmk` changes `measures` only. -/
@[simp] theorem clearWmk_frame (n : Nat) (d : Device) :
    (clearWmk n d).pins = d.pins ∧ (clearWmk n d).junction = d.junction ∧ (clearWmk n d).guard = d.guard ∧
    (clearWmk n d).clock = d.clock ∧ (clearWmk n d).power = d.power ∧ (clearWmk n d).lastF2 = d.lastF2 ∧
    (clearWmk n d).mem = d.mem ∧ (clearWmk n d).flipped = d.flipped ∧ (clearWmk n d).start = d.start ∧
    (clearWmk n d).ev = d.ev ∧ (clearWmk n d).lg = d.lg ∧ (clearWmk n d).ec = d.ec ∧ (clearWmk n d).pt = d.pt ∧
    (clearWmk n d).tx = d.tx ∧ (clearWmk n d).gf = d.gf ∧ (clearWmk n d).is_ = d.is_ ∧ (clearWmk n d).dg = d.dg ∧
    (clearWmk n d).sg = d.sg ∧ (clearWmk n d).bat = d.bat ∧ (clearWmk n d).sensorLive = d.sensorLive ∧
    (clearWmk n d).kv = d.kv ∧ (clearWmk n d).cx = d.cx ∧ (clearWmk n d).att = d.att ∧ (clearWmk n d).mb = d.mb ∧
    (clearWmk n d).mg = d.mg ∧ (clearWmk n d).cd = d.cd ∧ (clearWmk n d).cdWin = d.cdWin ∧ (clearWmk n d).cdStat = d.cdStat ∧
    (clearWmk n d).lc = d.lc ∧ (clearWmk n d).db = d.db ∧ (clearWmk n d).jtag = d.jtag ∧ (clearWmk n d).reply = d.reply ∧
    (clearWmk n d).free = d.free := by
  repeat' constructor

/-- `accessFault` changes `ec` only. -/
@[simp] theorem accessFault_frame (h : Hart) (addr : Nat) (d : Device) :
    (accessFault h addr d).pins = d.pins ∧ (accessFault h addr d).junction = d.junction ∧
    (accessFault h addr d).guard = d.guard ∧ (accessFault h addr d).clock = d.clock ∧
    (accessFault h addr d).power = d.power ∧ (accessFault h addr d).lastF2 = d.lastF2 ∧ (accessFault h addr d).mem = d.mem ∧
    (accessFault h addr d).flipped = d.flipped ∧ (accessFault h addr d).start = d.start ∧
    (accessFault h addr d).measures = d.measures ∧ (accessFault h addr d).ev = d.ev ∧ (accessFault h addr d).lg = d.lg ∧
    (accessFault h addr d).pt = d.pt ∧ (accessFault h addr d).tx = d.tx ∧ (accessFault h addr d).gf = d.gf ∧
    (accessFault h addr d).is_ = d.is_ ∧ (accessFault h addr d).dg = d.dg ∧ (accessFault h addr d).sg = d.sg ∧
    (accessFault h addr d).bat = d.bat ∧ (accessFault h addr d).sensorLive = d.sensorLive ∧
    (accessFault h addr d).kv = d.kv ∧ (accessFault h addr d).cx = d.cx ∧ (accessFault h addr d).att = d.att ∧
    (accessFault h addr d).mb = d.mb ∧ (accessFault h addr d).mg = d.mg ∧ (accessFault h addr d).cd = d.cd ∧
    (accessFault h addr d).cdWin = d.cdWin ∧ (accessFault h addr d).cdStat = d.cdStat ∧ (accessFault h addr d).lc = d.lc ∧
    (accessFault h addr d).db = d.db ∧ (accessFault h addr d).jtag = d.jtag ∧ (accessFault h addr d).reply = d.reply ∧
    (accessFault h addr d).free = d.free := by
  repeat' constructor

/-- `tookFree` changes `free` only. -/
@[simp] theorem tookFree_frame (n : Nat) (d : Device) :
    (tookFree n d).pins = d.pins ∧ (tookFree n d).junction = d.junction ∧ (tookFree n d).guard = d.guard ∧
    (tookFree n d).clock = d.clock ∧ (tookFree n d).power = d.power ∧ (tookFree n d).lastF2 = d.lastF2 ∧
    (tookFree n d).mem = d.mem ∧ (tookFree n d).flipped = d.flipped ∧ (tookFree n d).start = d.start ∧
    (tookFree n d).measures = d.measures ∧ (tookFree n d).ev = d.ev ∧ (tookFree n d).lg = d.lg ∧ (tookFree n d).ec = d.ec ∧
    (tookFree n d).pt = d.pt ∧ (tookFree n d).tx = d.tx ∧ (tookFree n d).gf = d.gf ∧ (tookFree n d).is_ = d.is_ ∧
    (tookFree n d).dg = d.dg ∧ (tookFree n d).sg = d.sg ∧ (tookFree n d).bat = d.bat ∧
    (tookFree n d).sensorLive = d.sensorLive ∧ (tookFree n d).kv = d.kv ∧ (tookFree n d).cx = d.cx ∧
    (tookFree n d).att = d.att ∧ (tookFree n d).mb = d.mb ∧ (tookFree n d).mg = d.mg ∧ (tookFree n d).cd = d.cd ∧
    (tookFree n d).cdWin = d.cdWin ∧ (tookFree n d).cdStat = d.cdStat ∧ (tookFree n d).lc = d.lc ∧ (tookFree n d).db = d.db ∧
    (tookFree n d).jtag = d.jtag ∧ (tookFree n d).reply = d.reply := by
  repeat' constructor

/-- `reply` changes `reply` only. -/
@[simp] theorem reply_frame (bs : List Byte) (d : Device) :
    (reply bs d).pins = d.pins ∧ (reply bs d).junction = d.junction ∧ (reply bs d).guard = d.guard ∧
    (reply bs d).clock = d.clock ∧ (reply bs d).power = d.power ∧ (reply bs d).lastF2 = d.lastF2 ∧ (reply bs d).mem = d.mem ∧
    (reply bs d).flipped = d.flipped ∧ (reply bs d).start = d.start ∧ (reply bs d).measures = d.measures ∧
    (reply bs d).ev = d.ev ∧ (reply bs d).lg = d.lg ∧ (reply bs d).ec = d.ec ∧ (reply bs d).pt = d.pt ∧
    (reply bs d).tx = d.tx ∧ (reply bs d).gf = d.gf ∧ (reply bs d).is_ = d.is_ ∧ (reply bs d).dg = d.dg ∧
    (reply bs d).sg = d.sg ∧ (reply bs d).bat = d.bat ∧ (reply bs d).sensorLive = d.sensorLive ∧ (reply bs d).kv = d.kv ∧
    (reply bs d).cx = d.cx ∧ (reply bs d).att = d.att ∧ (reply bs d).mb = d.mb ∧ (reply bs d).mg = d.mg ∧
    (reply bs d).cd = d.cd ∧ (reply bs d).cdWin = d.cdWin ∧ (reply bs d).cdStat = d.cdStat ∧ (reply bs d).lc = d.lc ∧
    (reply bs d).db = d.db ∧ (reply bs d).jtag = d.jtag ∧ (reply bs d).free = d.free := by
  repeat' constructor

/-- `replyWord` changes `reply` only. -/
@[simp] theorem replyWord_frame (w : Word) (d : Device) :
    (replyWord w d).pins = d.pins ∧ (replyWord w d).junction = d.junction ∧ (replyWord w d).guard = d.guard ∧
    (replyWord w d).clock = d.clock ∧ (replyWord w d).power = d.power ∧ (replyWord w d).lastF2 = d.lastF2 ∧
    (replyWord w d).mem = d.mem ∧ (replyWord w d).flipped = d.flipped ∧ (replyWord w d).start = d.start ∧
    (replyWord w d).measures = d.measures ∧ (replyWord w d).ev = d.ev ∧ (replyWord w d).lg = d.lg ∧
    (replyWord w d).ec = d.ec ∧ (replyWord w d).pt = d.pt ∧ (replyWord w d).tx = d.tx ∧ (replyWord w d).gf = d.gf ∧
    (replyWord w d).is_ = d.is_ ∧ (replyWord w d).dg = d.dg ∧ (replyWord w d).sg = d.sg ∧ (replyWord w d).bat = d.bat ∧
    (replyWord w d).sensorLive = d.sensorLive ∧ (replyWord w d).kv = d.kv ∧ (replyWord w d).cx = d.cx ∧
    (replyWord w d).att = d.att ∧ (replyWord w d).mb = d.mb ∧ (replyWord w d).mg = d.mg ∧ (replyWord w d).cd = d.cd ∧
    (replyWord w d).cdWin = d.cdWin ∧ (replyWord w d).cdStat = d.cdStat ∧ (replyWord w d).lc = d.lc ∧
    (replyWord w d).db = d.db ∧ (replyWord w d).jtag = d.jtag ∧ (replyWord w d).free = d.free := by
  repeat' constructor

/-- `holdAllGates` changes `is_` only. -/
@[simp] theorem holdAllGates_frame (d : Device) :
    (holdAllGates d).pins = d.pins ∧ (holdAllGates d).junction = d.junction ∧ (holdAllGates d).guard = d.guard ∧
    (holdAllGates d).clock = d.clock ∧ (holdAllGates d).power = d.power ∧ (holdAllGates d).lastF2 = d.lastF2 ∧
    (holdAllGates d).mem = d.mem ∧ (holdAllGates d).flipped = d.flipped ∧ (holdAllGates d).start = d.start ∧
    (holdAllGates d).measures = d.measures ∧ (holdAllGates d).ev = d.ev ∧ (holdAllGates d).lg = d.lg ∧
    (holdAllGates d).ec = d.ec ∧ (holdAllGates d).pt = d.pt ∧ (holdAllGates d).tx = d.tx ∧ (holdAllGates d).gf = d.gf ∧
    (holdAllGates d).dg = d.dg ∧ (holdAllGates d).sg = d.sg ∧ (holdAllGates d).bat = d.bat ∧
    (holdAllGates d).sensorLive = d.sensorLive ∧ (holdAllGates d).kv = d.kv ∧ (holdAllGates d).cx = d.cx ∧
    (holdAllGates d).att = d.att ∧ (holdAllGates d).mb = d.mb ∧ (holdAllGates d).mg = d.mg ∧ (holdAllGates d).cd = d.cd ∧
    (holdAllGates d).cdWin = d.cdWin ∧ (holdAllGates d).cdStat = d.cdStat ∧ (holdAllGates d).lc = d.lc ∧
    (holdAllGates d).db = d.db ∧ (holdAllGates d).jtag = d.jtag ∧ (holdAllGates d).reply = d.reply ∧
    (holdAllGates d).free = d.free := by
  repeat' constructor

/-- `fill` changes `mem`, `flipped`, `ec` only. -/
@[simp] theorem fill_frame (a n : Nat) (v : Byte) (d : Device) :
    (fill a n v d).pins = d.pins ∧ (fill a n v d).junction = d.junction ∧ (fill a n v d).guard = d.guard ∧
    (fill a n v d).clock = d.clock ∧ (fill a n v d).power = d.power ∧ (fill a n v d).lastF2 = d.lastF2 ∧
    (fill a n v d).start = d.start ∧ (fill a n v d).measures = d.measures ∧ (fill a n v d).ev = d.ev ∧
    (fill a n v d).lg = d.lg ∧ (fill a n v d).pt = d.pt ∧ (fill a n v d).tx = d.tx ∧ (fill a n v d).gf = d.gf ∧
    (fill a n v d).is_ = d.is_ ∧ (fill a n v d).dg = d.dg ∧ (fill a n v d).sg = d.sg ∧ (fill a n v d).bat = d.bat ∧
    (fill a n v d).sensorLive = d.sensorLive ∧ (fill a n v d).kv = d.kv ∧ (fill a n v d).cx = d.cx ∧
    (fill a n v d).att = d.att ∧ (fill a n v d).mb = d.mb ∧ (fill a n v d).mg = d.mg ∧ (fill a n v d).cd = d.cd ∧
    (fill a n v d).cdWin = d.cdWin ∧ (fill a n v d).cdStat = d.cdStat ∧ (fill a n v d).lc = d.lc ∧ (fill a n v d).db = d.db ∧
    (fill a n v d).jtag = d.jtag ∧ (fill a n v d).reply = d.reply ∧ (fill a n v d).free = d.free := by
  unfold fill noteStore; dsimp only; split <;> (repeat' constructor)

/-- `lastGaspBy` changes `bat` only. -/
@[simp] theorem lastGaspBy_frame (code aid sev : Nat) (params : List Nat) (d : Device) :
    (lastGaspBy code aid sev params d).pins = d.pins ∧ (lastGaspBy code aid sev params d).junction = d.junction ∧
    (lastGaspBy code aid sev params d).guard = d.guard ∧ (lastGaspBy code aid sev params d).clock = d.clock ∧
    (lastGaspBy code aid sev params d).power = d.power ∧ (lastGaspBy code aid sev params d).lastF2 = d.lastF2 ∧
    (lastGaspBy code aid sev params d).mem = d.mem ∧ (lastGaspBy code aid sev params d).flipped = d.flipped ∧
    (lastGaspBy code aid sev params d).start = d.start ∧ (lastGaspBy code aid sev params d).measures = d.measures ∧
    (lastGaspBy code aid sev params d).ev = d.ev ∧ (lastGaspBy code aid sev params d).lg = d.lg ∧
    (lastGaspBy code aid sev params d).ec = d.ec ∧ (lastGaspBy code aid sev params d).pt = d.pt ∧
    (lastGaspBy code aid sev params d).tx = d.tx ∧ (lastGaspBy code aid sev params d).gf = d.gf ∧
    (lastGaspBy code aid sev params d).is_ = d.is_ ∧ (lastGaspBy code aid sev params d).dg = d.dg ∧
    (lastGaspBy code aid sev params d).sg = d.sg ∧ (lastGaspBy code aid sev params d).sensorLive = d.sensorLive ∧
    (lastGaspBy code aid sev params d).kv = d.kv ∧ (lastGaspBy code aid sev params d).cx = d.cx ∧
    (lastGaspBy code aid sev params d).att = d.att ∧ (lastGaspBy code aid sev params d).mb = d.mb ∧
    (lastGaspBy code aid sev params d).mg = d.mg ∧ (lastGaspBy code aid sev params d).cd = d.cd ∧
    (lastGaspBy code aid sev params d).cdWin = d.cdWin ∧ (lastGaspBy code aid sev params d).cdStat = d.cdStat ∧
    (lastGaspBy code aid sev params d).lc = d.lc ∧ (lastGaspBy code aid sev params d).db = d.db ∧
    (lastGaspBy code aid sev params d).jtag = d.jtag ∧ (lastGaspBy code aid sev params d).reply = d.reply ∧
    (lastGaspBy code aid sev params d).free = d.free := by
  repeat' constructor

/-- `lastGasp` changes `bat` only. -/
@[simp] theorem lastGasp_frame (code sev : Nat) (params : List Nat) (d : Device) :
    (lastGasp code sev params d).pins = d.pins ∧ (lastGasp code sev params d).junction = d.junction ∧
    (lastGasp code sev params d).guard = d.guard ∧ (lastGasp code sev params d).clock = d.clock ∧
    (lastGasp code sev params d).power = d.power ∧ (lastGasp code sev params d).lastF2 = d.lastF2 ∧
    (lastGasp code sev params d).mem = d.mem ∧ (lastGasp code sev params d).flipped = d.flipped ∧
    (lastGasp code sev params d).start = d.start ∧ (lastGasp code sev params d).measures = d.measures ∧
    (lastGasp code sev params d).ev = d.ev ∧ (lastGasp code sev params d).lg = d.lg ∧
    (lastGasp code sev params d).ec = d.ec ∧ (lastGasp code sev params d).pt = d.pt ∧
    (lastGasp code sev params d).tx = d.tx ∧ (lastGasp code sev params d).gf = d.gf ∧
    (lastGasp code sev params d).is_ = d.is_ ∧ (lastGasp code sev params d).dg = d.dg ∧
    (lastGasp code sev params d).sg = d.sg ∧ (lastGasp code sev params d).sensorLive = d.sensorLive ∧
    (lastGasp code sev params d).kv = d.kv ∧ (lastGasp code sev params d).cx = d.cx ∧
    (lastGasp code sev params d).att = d.att ∧ (lastGasp code sev params d).mb = d.mb ∧
    (lastGasp code sev params d).mg = d.mg ∧ (lastGasp code sev params d).cd = d.cd ∧
    (lastGasp code sev params d).cdWin = d.cdWin ∧ (lastGasp code sev params d).cdStat = d.cdStat ∧
    (lastGasp code sev params d).lc = d.lc ∧ (lastGasp code sev params d).db = d.db ∧
    (lastGasp code sev params d).jtag = d.jtag ∧ (lastGasp code sev params d).reply = d.reply ∧
    (lastGasp code sev params d).free = d.free := by
  repeat' constructor

@[simp] theorem modLd_cx (n : Nat) (f : LogicalDev → LogicalDev) (d : Device) : (modLd n f d).cx = { d.cx with lds := vmod d.cx.lds n f } := rfl
@[simp] theorem modBd_is (n : Nat) (f : BootDomain → BootDomain) (d : Device) : (modBd n f d).is_ = { d.is_ with bds := vmod d.is_.bds n f } := rfl
@[simp] theorem modHealth_is (n : Nat) (f : DevHealth → DevHealth) (d : Device) : (modHealth n f d).is_ = { d.is_ with health := vmod d.is_.health n f } := rfl
@[simp] theorem modPort_gf (n : Nat) (f : UpPort → UpPort) (d : Device) : (modPort n f d).gf = { d.gf with ports := vmod d.gf.ports n f } := rfl
@[simp] theorem modBus_gf (n : Nat) (f : FlashBus → FlashBus) (d : Device) : (modBus n f d).gf = { d.gf with buses := vmod d.gf.buses n f } := rfl
@[simp] theorem modDev_gf (n : Nat) (f : FlashDev → FlashDev) (d : Device) : (modDev n f d).gf = { d.gf with devs := vmod d.gf.devs n f } := rfl
@[simp] theorem modTs_gf (n : Nat) (f : Turnstile → Turnstile) (d : Device) : (modTs n f d).gf = { d.gf with ts := vmod d.gf.ts n f } := rfl
@[simp] theorem modChan_mb (n : Nat) (f : Channel → Channel) (d : Device) : (modChan n f d).mb = { d.mb with chans := vmod d.mb.chans n f } := rfl
@[simp] theorem modI3c_mg (n : Nat) (f : I3cPort → I3cPort) (d : Device) : (modI3c n f d).mg = vmod d.mg n f := rfl
@[simp] theorem modSlot_cd (n : Nat) (f : CardSlot → CardSlot) (d : Device) : (modSlot n f d).cd = { d.cd with slots := vmod d.cd.slots n f } := rfl
@[simp] theorem modTx_tx (f : Couch → Couch) (d : Device) : (modTx f d).tx = f d.tx := rfl
@[simp] theorem modDg_dg (f : DigestEngine → DigestEngine) (d : Device) : (modDg f d).dg = f d.dg := rfl
@[simp] theorem modSg_sg (f : SigEngine → SigEngine) (d : Device) : (modSg f d).sg = f d.sg := rfl
@[simp] theorem modKv_kv (f : KeyVault → KeyVault) (d : Device) : (modKv f d).kv = f d.kv := rfl
@[simp] theorem modLg_lg (f : Ledger → Ledger) (d : Device) : (modLg f d).lg = f d.lg := rfl
@[simp] theorem modEv_ev (f : Recorder → Recorder) (d : Device) : (modEv f d).ev = f d.ev := rfl
@[simp] theorem modCx_cx (f : CxlPort → CxlPort) (d : Device) : (modCx f d).cx = f d.cx := rfl
@[simp] theorem modLc_lc (f : LifeCycle → LifeCycle) (d : Device) : (modLc f d).lc = f d.lc := rfl
@[simp] theorem modDb_db (f : Booth → Booth) (d : Device) : (modDb f d).db = f d.db := rfl
@[simp] theorem modCd_cd (f : CardPort → CardPort) (d : Device) : (modCd f d).cd = f d.cd := rfl
@[simp] theorem modCs_cdStat (f : CardStat → CardStat) (d : Device) : (modCs f d).cdStat = f d.cdStat := rfl
@[simp] theorem modPw_power (f : Power → Power) (d : Device) : (modPw f d).power = f d.power := rfl
@[simp] theorem modPins_pins (f : Pins → Pins) (d : Device) : (modPins f d).pins = f d.pins := rfl
@[simp] theorem reply_reply (bs : List Byte) (d : Device) : (reply bs d).reply = bs := rfl
@[simp] theorem tookFree_free (n : Nat) (d : Device) : (tookFree n d).free = d.free + n := rfl
@[simp] theorem fill_mem (a n : Nat) (v : Byte) (d : Device) : (fill a n v d).mem = memFill d.mem a n v := by
  unfold fill noteStore; dsimp only; split <;> rfl
@[simp] theorem store_mem (a : Nat) (bs : List Byte) (d : Device) : (store a bs d).mem = memWrite d.mem a bs := by
  unfold store noteStore; dsimp only; split <;> rfl

/-- `arriveEvent` changes `ev` and `bat` only. -/
@[simp] theorem arriveEvent_frame (hart : Bool) (code aid sev : Nat) (params : List Nat) (d : Device) :
    (arriveEvent hart code aid sev params d).pins = d.pins ∧ (arriveEvent hart code aid sev params d).junction = d.junction ∧
    (arriveEvent hart code aid sev params d).guard = d.guard ∧ (arriveEvent hart code aid sev params d).clock = d.clock ∧
    (arriveEvent hart code aid sev params d).power = d.power ∧ (arriveEvent hart code aid sev params d).lastF2 = d.lastF2 ∧
    (arriveEvent hart code aid sev params d).mem = d.mem ∧ (arriveEvent hart code aid sev params d).flipped = d.flipped ∧
    (arriveEvent hart code aid sev params d).start = d.start ∧
    (arriveEvent hart code aid sev params d).measures = d.measures ∧ (arriveEvent hart code aid sev params d).lg = d.lg ∧
    (arriveEvent hart code aid sev params d).ec = d.ec ∧ (arriveEvent hart code aid sev params d).pt = d.pt ∧
    (arriveEvent hart code aid sev params d).tx = d.tx ∧ (arriveEvent hart code aid sev params d).gf = d.gf ∧
    (arriveEvent hart code aid sev params d).is_ = d.is_ ∧ (arriveEvent hart code aid sev params d).dg = d.dg ∧
    (arriveEvent hart code aid sev params d).sg = d.sg ∧ (arriveEvent hart code aid sev params d).sensorLive = d.sensorLive ∧
    (arriveEvent hart code aid sev params d).kv = d.kv ∧ (arriveEvent hart code aid sev params d).cx = d.cx ∧
    (arriveEvent hart code aid sev params d).att = d.att ∧ (arriveEvent hart code aid sev params d).mb = d.mb ∧
    (arriveEvent hart code aid sev params d).mg = d.mg ∧ (arriveEvent hart code aid sev params d).cd = d.cd ∧
    (arriveEvent hart code aid sev params d).cdWin = d.cdWin ∧ (arriveEvent hart code aid sev params d).cdStat = d.cdStat ∧
    (arriveEvent hart code aid sev params d).lc = d.lc ∧ (arriveEvent hart code aid sev params d).db = d.db ∧
    (arriveEvent hart code aid sev params d).jtag = d.jtag ∧ (arriveEvent hart code aid sev params d).reply = d.reply ∧
    (arriveEvent hart code aid sev params d).free = d.free := by
  unfold arriveEvent; (repeat' split) <;> simp

/-- `event` changes `ev` and `bat` only. -/
@[simp] theorem event_frame (code sev : Nat) (ps : List Nat) (d : Device) :
    (event code sev ps d).pins = d.pins ∧ (event code sev ps d).junction = d.junction ∧
    (event code sev ps d).guard = d.guard ∧ (event code sev ps d).clock = d.clock ∧ (event code sev ps d).power = d.power ∧
    (event code sev ps d).lastF2 = d.lastF2 ∧ (event code sev ps d).mem = d.mem ∧ (event code sev ps d).flipped = d.flipped ∧
    (event code sev ps d).start = d.start ∧ (event code sev ps d).measures = d.measures ∧ (event code sev ps d).lg = d.lg ∧
    (event code sev ps d).ec = d.ec ∧ (event code sev ps d).pt = d.pt ∧ (event code sev ps d).tx = d.tx ∧
    (event code sev ps d).gf = d.gf ∧ (event code sev ps d).is_ = d.is_ ∧ (event code sev ps d).dg = d.dg ∧
    (event code sev ps d).sg = d.sg ∧ (event code sev ps d).sensorLive = d.sensorLive ∧ (event code sev ps d).kv = d.kv ∧
    (event code sev ps d).cx = d.cx ∧ (event code sev ps d).att = d.att ∧ (event code sev ps d).mb = d.mb ∧
    (event code sev ps d).mg = d.mg ∧ (event code sev ps d).cd = d.cd ∧ (event code sev ps d).cdWin = d.cdWin ∧
    (event code sev ps d).cdStat = d.cdStat ∧ (event code sev ps d).lc = d.lc ∧ (event code sev ps d).db = d.db ∧
    (event code sev ps d).jtag = d.jtag ∧ (event code sev ps d).reply = d.reply ∧ (event code sev ps d).free = d.free := by simp [event]

/-- `agentEvent` changes `ev` and `bat` only. -/
@[simp] theorem agentEvent_frame (code aid sev : Nat) (ps : List Nat) (d : Device) :
    (agentEvent code aid sev ps d).pins = d.pins ∧ (agentEvent code aid sev ps d).junction = d.junction ∧
    (agentEvent code aid sev ps d).guard = d.guard ∧ (agentEvent code aid sev ps d).clock = d.clock ∧
    (agentEvent code aid sev ps d).power = d.power ∧ (agentEvent code aid sev ps d).lastF2 = d.lastF2 ∧
    (agentEvent code aid sev ps d).mem = d.mem ∧ (agentEvent code aid sev ps d).flipped = d.flipped ∧
    (agentEvent code aid sev ps d).start = d.start ∧ (agentEvent code aid sev ps d).measures = d.measures ∧
    (agentEvent code aid sev ps d).lg = d.lg ∧ (agentEvent code aid sev ps d).ec = d.ec ∧
    (agentEvent code aid sev ps d).pt = d.pt ∧ (agentEvent code aid sev ps d).tx = d.tx ∧
    (agentEvent code aid sev ps d).gf = d.gf ∧ (agentEvent code aid sev ps d).is_ = d.is_ ∧
    (agentEvent code aid sev ps d).dg = d.dg ∧ (agentEvent code aid sev ps d).sg = d.sg ∧
    (agentEvent code aid sev ps d).sensorLive = d.sensorLive ∧ (agentEvent code aid sev ps d).kv = d.kv ∧
    (agentEvent code aid sev ps d).cx = d.cx ∧ (agentEvent code aid sev ps d).att = d.att ∧
    (agentEvent code aid sev ps d).mb = d.mb ∧ (agentEvent code aid sev ps d).mg = d.mg ∧
    (agentEvent code aid sev ps d).cd = d.cd ∧ (agentEvent code aid sev ps d).cdWin = d.cdWin ∧
    (agentEvent code aid sev ps d).cdStat = d.cdStat ∧ (agentEvent code aid sev ps d).lc = d.lc ∧
    (agentEvent code aid sev ps d).db = d.db ∧ (agentEvent code aid sev ps d).jtag = d.jtag ∧
    (agentEvent code aid sev ps d).reply = d.reply ∧ (agentEvent code aid sev ps d).free = d.free := by simp [agentEvent]

/-- `hartEvent` changes `ev` and `bat` only. -/
@[simp] theorem hartEvent_frame (h code sev : Nat) (ps : List Nat) (d : Device) :
    (hartEvent h code sev ps d).pins = d.pins ∧ (hartEvent h code sev ps d).junction = d.junction ∧
    (hartEvent h code sev ps d).guard = d.guard ∧ (hartEvent h code sev ps d).clock = d.clock ∧
    (hartEvent h code sev ps d).power = d.power ∧ (hartEvent h code sev ps d).lastF2 = d.lastF2 ∧
    (hartEvent h code sev ps d).mem = d.mem ∧ (hartEvent h code sev ps d).flipped = d.flipped ∧
    (hartEvent h code sev ps d).start = d.start ∧ (hartEvent h code sev ps d).measures = d.measures ∧
    (hartEvent h code sev ps d).lg = d.lg ∧ (hartEvent h code sev ps d).ec = d.ec ∧ (hartEvent h code sev ps d).pt = d.pt ∧
    (hartEvent h code sev ps d).tx = d.tx ∧ (hartEvent h code sev ps d).gf = d.gf ∧ (hartEvent h code sev ps d).is_ = d.is_ ∧
    (hartEvent h code sev ps d).dg = d.dg ∧ (hartEvent h code sev ps d).sg = d.sg ∧
    (hartEvent h code sev ps d).sensorLive = d.sensorLive ∧ (hartEvent h code sev ps d).kv = d.kv ∧
    (hartEvent h code sev ps d).cx = d.cx ∧ (hartEvent h code sev ps d).att = d.att ∧ (hartEvent h code sev ps d).mb = d.mb ∧
    (hartEvent h code sev ps d).mg = d.mg ∧ (hartEvent h code sev ps d).cd = d.cd ∧
    (hartEvent h code sev ps d).cdWin = d.cdWin ∧ (hartEvent h code sev ps d).cdStat = d.cdStat ∧
    (hartEvent h code sev ps d).lc = d.lc ∧ (hartEvent h code sev ps d).db = d.db ∧
    (hartEvent h code sev ps d).jtag = d.jtag ∧ (hartEvent h code sev ps d).reply = d.reply ∧
    (hartEvent h code sev ps d).free = d.free := by
  unfold hartEvent; split <;> simp

/-- `events` changes `ev` and `bat` only. -/
@[simp] theorem events_frame (l : List (Nat × Nat × List Nat)) (d : Device) :
    (events l d).pins = d.pins ∧ (events l d).junction = d.junction ∧ (events l d).guard = d.guard ∧
    (events l d).clock = d.clock ∧ (events l d).power = d.power ∧ (events l d).lastF2 = d.lastF2 ∧ (events l d).mem = d.mem ∧
    (events l d).flipped = d.flipped ∧ (events l d).start = d.start ∧ (events l d).measures = d.measures ∧
    (events l d).lg = d.lg ∧ (events l d).ec = d.ec ∧ (events l d).pt = d.pt ∧ (events l d).tx = d.tx ∧
    (events l d).gf = d.gf ∧ (events l d).is_ = d.is_ ∧ (events l d).dg = d.dg ∧ (events l d).sg = d.sg ∧
    (events l d).sensorLive = d.sensorLive ∧ (events l d).kv = d.kv ∧ (events l d).cx = d.cx ∧ (events l d).att = d.att ∧
    (events l d).mb = d.mb ∧ (events l d).mg = d.mg ∧ (events l d).cd = d.cd ∧ (events l d).cdWin = d.cdWin ∧
    (events l d).cdStat = d.cdStat ∧ (events l d).lc = d.lc ∧ (events l d).db = d.db ∧ (events l d).jtag = d.jtag ∧
    (events l d).reply = d.reply ∧ (events l d).free = d.free := by
  induction l generalizing d with
  | nil => simp [events]
  | cons a l ih => have h := ih (event a.1 a.2.1 a.2.2 d); simpa [events] using h

/-- `eventsRaw` changes `ev` and `bat` only. -/
@[simp] theorem eventsRaw_frame (l : List (Nat × Nat × List Nat)) (d : Device) :
    (eventsRaw l d).pins = d.pins ∧ (eventsRaw l d).junction = d.junction ∧ (eventsRaw l d).guard = d.guard ∧
    (eventsRaw l d).clock = d.clock ∧ (eventsRaw l d).power = d.power ∧ (eventsRaw l d).lastF2 = d.lastF2 ∧
    (eventsRaw l d).mem = d.mem ∧ (eventsRaw l d).flipped = d.flipped ∧ (eventsRaw l d).start = d.start ∧
    (eventsRaw l d).measures = d.measures ∧ (eventsRaw l d).lg = d.lg ∧ (eventsRaw l d).ec = d.ec ∧
    (eventsRaw l d).pt = d.pt ∧ (eventsRaw l d).tx = d.tx ∧ (eventsRaw l d).gf = d.gf ∧ (eventsRaw l d).is_ = d.is_ ∧
    (eventsRaw l d).dg = d.dg ∧ (eventsRaw l d).sg = d.sg ∧ (eventsRaw l d).sensorLive = d.sensorLive ∧
    (eventsRaw l d).kv = d.kv ∧ (eventsRaw l d).cx = d.cx ∧ (eventsRaw l d).att = d.att ∧ (eventsRaw l d).mb = d.mb ∧
    (eventsRaw l d).mg = d.mg ∧ (eventsRaw l d).cd = d.cd ∧ (eventsRaw l d).cdWin = d.cdWin ∧
    (eventsRaw l d).cdStat = d.cdStat ∧ (eventsRaw l d).lc = d.lc ∧ (eventsRaw l d).db = d.db ∧
    (eventsRaw l d).jtag = d.jtag ∧ (eventsRaw l d).reply = d.reply ∧ (eventsRaw l d).free = d.free := by
  induction l generalizing d with
  | nil => simp [eventsRaw]
  | cons a l ih => have h := ih (arriveEvent false a.1 0xFF a.2.1 a.2.2 d); simpa [eventsRaw] using h

/-- `startEvent` changes `ev` and `bat` only. -/
@[simp] theorem startEvent_frame (code sev : Nat) (ps : List Nat) (d : Device) :
    (startEvent code sev ps d).pins = d.pins ∧ (startEvent code sev ps d).junction = d.junction ∧
    (startEvent code sev ps d).guard = d.guard ∧ (startEvent code sev ps d).clock = d.clock ∧
    (startEvent code sev ps d).power = d.power ∧ (startEvent code sev ps d).lastF2 = d.lastF2 ∧
    (startEvent code sev ps d).mem = d.mem ∧ (startEvent code sev ps d).flipped = d.flipped ∧
    (startEvent code sev ps d).start = d.start ∧ (startEvent code sev ps d).measures = d.measures ∧
    (startEvent code sev ps d).lg = d.lg ∧ (startEvent code sev ps d).ec = d.ec ∧ (startEvent code sev ps d).pt = d.pt ∧
    (startEvent code sev ps d).tx = d.tx ∧ (startEvent code sev ps d).gf = d.gf ∧ (startEvent code sev ps d).is_ = d.is_ ∧
    (startEvent code sev ps d).dg = d.dg ∧ (startEvent code sev ps d).sg = d.sg ∧
    (startEvent code sev ps d).sensorLive = d.sensorLive ∧ (startEvent code sev ps d).kv = d.kv ∧
    (startEvent code sev ps d).cx = d.cx ∧ (startEvent code sev ps d).att = d.att ∧ (startEvent code sev ps d).mb = d.mb ∧
    (startEvent code sev ps d).mg = d.mg ∧ (startEvent code sev ps d).cd = d.cd ∧
    (startEvent code sev ps d).cdWin = d.cdWin ∧ (startEvent code sev ps d).cdStat = d.cdStat ∧
    (startEvent code sev ps d).lc = d.lc ∧ (startEvent code sev ps d).db = d.db ∧ (startEvent code sev ps d).jtag = d.jtag ∧
    (startEvent code sev ps d).reply = d.reply ∧ (startEvent code sev ps d).free = d.free := by simp [startEvent]

/-- `noteStore` changes `flipped` and `ec` only. -/
@[simp] theorem noteStore_frame (a n : Nat) (d : Device) :
    (noteStore a n d).pins = d.pins ∧ (noteStore a n d).junction = d.junction ∧ (noteStore a n d).guard = d.guard ∧
    (noteStore a n d).clock = d.clock ∧ (noteStore a n d).power = d.power ∧ (noteStore a n d).lastF2 = d.lastF2 ∧
    (noteStore a n d).mem = d.mem ∧ (noteStore a n d).start = d.start ∧ (noteStore a n d).measures = d.measures ∧
    (noteStore a n d).ev = d.ev ∧ (noteStore a n d).lg = d.lg ∧ (noteStore a n d).pt = d.pt ∧ (noteStore a n d).tx = d.tx ∧
    (noteStore a n d).gf = d.gf ∧ (noteStore a n d).is_ = d.is_ ∧ (noteStore a n d).dg = d.dg ∧ (noteStore a n d).sg = d.sg ∧
    (noteStore a n d).bat = d.bat ∧ (noteStore a n d).sensorLive = d.sensorLive ∧ (noteStore a n d).kv = d.kv ∧
    (noteStore a n d).cx = d.cx ∧ (noteStore a n d).att = d.att ∧ (noteStore a n d).mb = d.mb ∧ (noteStore a n d).mg = d.mg ∧
    (noteStore a n d).cd = d.cd ∧ (noteStore a n d).cdWin = d.cdWin ∧ (noteStore a n d).cdStat = d.cdStat ∧
    (noteStore a n d).lc = d.lc ∧ (noteStore a n d).db = d.db ∧ (noteStore a n d).jtag = d.jtag ∧
    (noteStore a n d).reply = d.reply ∧ (noteStore a n d).free = d.free := by
  unfold noteStore; dsimp only; split <;> simp

/-- `mramUsed` changes `bat` only. -/
@[simp] theorem mramUsed_frame (d : Device) :
    (mramUsed d).pins = d.pins ∧ (mramUsed d).junction = d.junction ∧ (mramUsed d).guard = d.guard ∧
    (mramUsed d).clock = d.clock ∧ (mramUsed d).power = d.power ∧ (mramUsed d).lastF2 = d.lastF2 ∧ (mramUsed d).mem = d.mem ∧
    (mramUsed d).flipped = d.flipped ∧ (mramUsed d).start = d.start ∧ (mramUsed d).measures = d.measures ∧
    (mramUsed d).ev = d.ev ∧ (mramUsed d).lg = d.lg ∧ (mramUsed d).ec = d.ec ∧ (mramUsed d).pt = d.pt ∧
    (mramUsed d).tx = d.tx ∧ (mramUsed d).gf = d.gf ∧ (mramUsed d).is_ = d.is_ ∧ (mramUsed d).dg = d.dg ∧
    (mramUsed d).sg = d.sg ∧ (mramUsed d).sensorLive = d.sensorLive ∧ (mramUsed d).kv = d.kv ∧ (mramUsed d).cx = d.cx ∧
    (mramUsed d).att = d.att ∧ (mramUsed d).mb = d.mb ∧ (mramUsed d).mg = d.mg ∧ (mramUsed d).cd = d.cd ∧
    (mramUsed d).cdWin = d.cdWin ∧ (mramUsed d).cdStat = d.cdStat ∧ (mramUsed d).lc = d.lc ∧ (mramUsed d).db = d.db ∧
    (mramUsed d).jtag = d.jtag ∧ (mramUsed d).reply = d.reply ∧ (mramUsed d).free = d.free := by
  repeat' constructor

/-- `store` changes `mem` and `flipped` and `ec` only. -/
@[simp] theorem store_frame (a : Nat) (bs : List Byte) (d : Device) :
    (store a bs d).pins = d.pins ∧ (store a bs d).junction = d.junction ∧ (store a bs d).guard = d.guard ∧
    (store a bs d).clock = d.clock ∧ (store a bs d).power = d.power ∧ (store a bs d).lastF2 = d.lastF2 ∧
    (store a bs d).start = d.start ∧ (store a bs d).measures = d.measures ∧ (store a bs d).ev = d.ev ∧
    (store a bs d).lg = d.lg ∧ (store a bs d).pt = d.pt ∧ (store a bs d).tx = d.tx ∧ (store a bs d).gf = d.gf ∧
    (store a bs d).is_ = d.is_ ∧ (store a bs d).dg = d.dg ∧ (store a bs d).sg = d.sg ∧ (store a bs d).bat = d.bat ∧
    (store a bs d).sensorLive = d.sensorLive ∧ (store a bs d).kv = d.kv ∧ (store a bs d).cx = d.cx ∧
    (store a bs d).att = d.att ∧ (store a bs d).mb = d.mb ∧ (store a bs d).mg = d.mg ∧ (store a bs d).cd = d.cd ∧
    (store a bs d).cdWin = d.cdWin ∧ (store a bs d).cdStat = d.cdStat ∧ (store a bs d).lc = d.lc ∧ (store a bs d).db = d.db ∧
    (store a bs d).jtag = d.jtag ∧ (store a bs d).reply = d.reply ∧ (store a bs d).free = d.free := by simp [store]

end Sys2Proof.Machine
end

