-- ==== Sys2Proof/Laws/Resets.lean ====
section
/-! SUPPORT. Resets: what each leaves in every field (R551, R564, R565). -/

namespace Sys2Proof.Machine

open Sys2Proof

/-! ### The main core without its state -/

@[simp] theorem mainCleared_pins (wake : Bool) (d : Device) : (mainCleared wake d).pins = { d.pins with pressUnderStage := false } := rfl
@[simp] theorem mainCleared_junction (wake : Bool) (d : Device) : (mainCleared wake d).junction = { hot := d.junction.hot } := rfl
@[simp] theorem mainCleared_guard (wake : Bool) (d : Device) : (mainCleared wake d).guard = d.guard := rfl
@[simp] theorem mainCleared_clock (wake : Bool) (d : Device) : (mainCleared wake d).clock = d.clock := rfl
@[simp] theorem mainCleared_power (wake : Bool) (d : Device) : (mainCleared wake d).power = { d.power with wdog := 0x3E8, wdogRunning := false, wdogFired := false, coreCause := 0, coreResets := 0 } := rfl
@[simp] theorem mainCleared_lastF2 (wake : Bool) (d : Device) : (mainCleared wake d).lastF2 = d.lastF2 := rfl
@[simp] theorem mainCleared_mem (wake : Bool) (d : Device) : (mainCleared wake d).mem = memLose wake d.mem := rfl
@[simp] theorem mainCleared_flipped (wake : Bool) (d : Device) : (mainCleared wake d).flipped = d.flipped.filter (fun w => !volatileKey wake w.1) := rfl
@[simp] theorem mainCleared_start (wake : Bool) (d : Device) : (mainCleared wake d).start = {} := rfl
@[simp] theorem mainCleared_measures (wake : Bool) (d : Device) : (mainCleared wake d).measures = {} := rfl
@[simp] theorem mainCleared_ev (wake : Bool) (d : Device) : (mainCleared wake d).ev = { dropAtReset := d.ev.drop } := rfl
@[simp] theorem mainCleared_lg (wake : Bool) (d : Device) : (mainCleared wake d).lg = { used := d.lg.used } := rfl
@[simp] theorem mainCleared_ec (wake : Bool) (d : Device) : (mainCleared wake d).ec = {} := rfl
@[simp] theorem mainCleared_pt (wake : Bool) (d : Device) : (mainCleared wake d).pt = {} := rfl
@[simp] theorem mainCleared_tx (wake : Bool) (d : Device) : (mainCleared wake d).tx = {} := rfl
@[simp] theorem mainCleared_gf (wake : Bool) (d : Device) : (mainCleared wake d).gf = {} := rfl
@[simp] theorem mainCleared_is (wake : Bool) (d : Device) : (mainCleared wake d).is_ = {} := rfl
@[simp] theorem mainCleared_dg (wake : Bool) (d : Device) : (mainCleared wake d).dg = {} := rfl
@[simp] theorem mainCleared_sg (wake : Bool) (d : Device) : (mainCleared wake d).sg = {} := rfl
@[simp] theorem mainCleared_bat (wake : Bool) (d : Device) : (mainCleared wake d).bat = d.bat := rfl
@[simp] theorem mainCleared_sensorLive (wake : Bool) (d : Device) : (mainCleared wake d).sensorLive = d.sensorLive := rfl
@[simp] theorem mainCleared_kv (wake : Bool) (d : Device) : (mainCleared wake d).kv = {} := rfl
@[simp] theorem mainCleared_cx (wake : Bool) (d : Device) : (mainCleared wake d).cx = {} := rfl
@[simp] theorem mainCleared_att (wake : Bool) (d : Device) : (mainCleared wake d).att = {} := rfl
@[simp] theorem mainCleared_mb (wake : Bool) (d : Device) : (mainCleared wake d).mb = (keptIsland wake d).1 := rfl
@[simp] theorem mainCleared_mg (wake : Bool) (d : Device) : (mainCleared wake d).mg = (keptIsland wake d).2 := rfl
@[simp] theorem mainCleared_cd (wake : Bool) (d : Device) : (mainCleared wake d).cd = { done := d.cd.busy, outcome := if d.cd.busy then 9 else 0 } := rfl
@[simp] theorem mainCleared_cdWin (wake : Bool) (d : Device) : (mainCleared wake d).cdWin = {} := rfl
@[simp] theorem mainCleared_cdStat (wake : Bool) (d : Device) : (mainCleared wake d).cdStat = { d.cdStat with powered := 0, poweringOff := d.cdStat.poweringOff ||| d.cdStat.powered } := rfl
@[simp] theorem mainCleared_lc (wake : Bool) (d : Device) : (mainCleared wake d).lc = { otp := d.lc.otp, burn := d.lc.burn, state := d.lc.state } := rfl
@[simp] theorem mainCleared_db (wake : Bool) (d : Device) : (mainCleared wake d).db = {} := rfl
@[simp] theorem mainCleared_jtag (wake : Bool) (d : Device) : (mainCleared wake d).jtag = d.jtag := rfl
@[simp] theorem mainCleared_reply (wake : Bool) (d : Device) : (mainCleared wake d).reply = d.reply := rfl
@[simp] theorem mainCleared_free (wake : Bool) (d : Device) : (mainCleared wake d).free = d.free := rfl

/-! ### Guarding ends -/

/-- `intervalBegin` changes `guard` only. -/
@[simp] theorem intervalBegin_frame (buses cause bus : Nat) (d : Device) :
    (intervalBegin buses cause bus d).pins = d.pins ∧ (intervalBegin buses cause bus d).junction = d.junction ∧
    (intervalBegin buses cause bus d).clock = d.clock ∧ (intervalBegin buses cause bus d).power = d.power ∧
    (intervalBegin buses cause bus d).lastF2 = d.lastF2 ∧ (intervalBegin buses cause bus d).mem = d.mem ∧
    (intervalBegin buses cause bus d).flipped = d.flipped ∧ (intervalBegin buses cause bus d).start = d.start ∧
    (intervalBegin buses cause bus d).measures = d.measures ∧ (intervalBegin buses cause bus d).ev = d.ev ∧
    (intervalBegin buses cause bus d).lg = d.lg ∧ (intervalBegin buses cause bus d).ec = d.ec ∧
    (intervalBegin buses cause bus d).pt = d.pt ∧ (intervalBegin buses cause bus d).tx = d.tx ∧
    (intervalBegin buses cause bus d).gf = d.gf ∧ (intervalBegin buses cause bus d).is_ = d.is_ ∧
    (intervalBegin buses cause bus d).dg = d.dg ∧ (intervalBegin buses cause bus d).sg = d.sg ∧
    (intervalBegin buses cause bus d).bat = d.bat ∧ (intervalBegin buses cause bus d).sensorLive = d.sensorLive ∧
    (intervalBegin buses cause bus d).kv = d.kv ∧ (intervalBegin buses cause bus d).cx = d.cx ∧
    (intervalBegin buses cause bus d).att = d.att ∧ (intervalBegin buses cause bus d).mb = d.mb ∧
    (intervalBegin buses cause bus d).mg = d.mg ∧ (intervalBegin buses cause bus d).cd = d.cd ∧
    (intervalBegin buses cause bus d).cdWin = d.cdWin ∧ (intervalBegin buses cause bus d).cdStat = d.cdStat ∧
    (intervalBegin buses cause bus d).lc = d.lc ∧ (intervalBegin buses cause bus d).db = d.db ∧
    (intervalBegin buses cause bus d).jtag = d.jtag ∧ (intervalBegin buses cause bus d).reply = d.reply ∧
    (intervalBegin buses cause bus d).free = d.free := by
  unfold intervalBegin; (repeat' split) <;> simp

/-- `spanCounted` changes `guard` only. -/
@[simp] theorem spanCounted_frame (ticks : Nat) (d : Device) :
    (spanCounted ticks d).pins = d.pins ∧ (spanCounted ticks d).junction = d.junction ∧
    (spanCounted ticks d).clock = d.clock ∧ (spanCounted ticks d).power = d.power ∧ (spanCounted ticks d).lastF2 = d.lastF2 ∧
    (spanCounted ticks d).mem = d.mem ∧ (spanCounted ticks d).flipped = d.flipped ∧ (spanCounted ticks d).start = d.start ∧
    (spanCounted ticks d).measures = d.measures ∧ (spanCounted ticks d).ev = d.ev ∧ (spanCounted ticks d).lg = d.lg ∧
    (spanCounted ticks d).ec = d.ec ∧ (spanCounted ticks d).pt = d.pt ∧ (spanCounted ticks d).tx = d.tx ∧
    (spanCounted ticks d).gf = d.gf ∧ (spanCounted ticks d).is_ = d.is_ ∧ (spanCounted ticks d).dg = d.dg ∧
    (spanCounted ticks d).sg = d.sg ∧ (spanCounted ticks d).bat = d.bat ∧ (spanCounted ticks d).sensorLive = d.sensorLive ∧
    (spanCounted ticks d).kv = d.kv ∧ (spanCounted ticks d).cx = d.cx ∧ (spanCounted ticks d).att = d.att ∧
    (spanCounted ticks d).mb = d.mb ∧ (spanCounted ticks d).mg = d.mg ∧ (spanCounted ticks d).cd = d.cd ∧
    (spanCounted ticks d).cdWin = d.cdWin ∧ (spanCounted ticks d).cdStat = d.cdStat ∧ (spanCounted ticks d).lc = d.lc ∧
    (spanCounted ticks d).db = d.db ∧ (spanCounted ticks d).jtag = d.jtag ∧ (spanCounted ticks d).reply = d.reply ∧
    (spanCounted ticks d).free = d.free := by
  repeat' constructor

/-- `spanEvent` changes `ev`, `bat` only. -/
@[simp] theorem spanEvent_frame (ps : List Nat) (d : Device) :
    (spanEvent ps d).pins = d.pins ∧ (spanEvent ps d).junction = d.junction ∧ (spanEvent ps d).guard = d.guard ∧
    (spanEvent ps d).clock = d.clock ∧ (spanEvent ps d).power = d.power ∧ (spanEvent ps d).lastF2 = d.lastF2 ∧
    (spanEvent ps d).mem = d.mem ∧ (spanEvent ps d).flipped = d.flipped ∧ (spanEvent ps d).start = d.start ∧
    (spanEvent ps d).measures = d.measures ∧ (spanEvent ps d).lg = d.lg ∧ (spanEvent ps d).ec = d.ec ∧
    (spanEvent ps d).pt = d.pt ∧ (spanEvent ps d).tx = d.tx ∧ (spanEvent ps d).gf = d.gf ∧ (spanEvent ps d).is_ = d.is_ ∧
    (spanEvent ps d).dg = d.dg ∧ (spanEvent ps d).sg = d.sg ∧ (spanEvent ps d).sensorLive = d.sensorLive ∧
    (spanEvent ps d).kv = d.kv ∧ (spanEvent ps d).cx = d.cx ∧ (spanEvent ps d).att = d.att ∧ (spanEvent ps d).mb = d.mb ∧
    (spanEvent ps d).mg = d.mg ∧ (spanEvent ps d).cd = d.cd ∧ (spanEvent ps d).cdWin = d.cdWin ∧
    (spanEvent ps d).cdStat = d.cdStat ∧ (spanEvent ps d).lc = d.lc ∧ (spanEvent ps d).db = d.db ∧
    (spanEvent ps d).jtag = d.jtag ∧ (spanEvent ps d).reply = d.reply ∧ (spanEvent ps d).free = d.free := by simp [spanEvent]

/-- `spanEnd` changes `guard`, `ev`, `bat` only. -/
@[simp] theorem spanEnd_frame (ticks : Nat) (d : Device) :
    (spanEnd ticks d).pins = d.pins ∧ (spanEnd ticks d).junction = d.junction ∧ (spanEnd ticks d).clock = d.clock ∧
    (spanEnd ticks d).power = d.power ∧ (spanEnd ticks d).lastF2 = d.lastF2 ∧ (spanEnd ticks d).mem = d.mem ∧
    (spanEnd ticks d).flipped = d.flipped ∧ (spanEnd ticks d).start = d.start ∧ (spanEnd ticks d).measures = d.measures ∧
    (spanEnd ticks d).lg = d.lg ∧ (spanEnd ticks d).ec = d.ec ∧ (spanEnd ticks d).pt = d.pt ∧ (spanEnd ticks d).tx = d.tx ∧
    (spanEnd ticks d).gf = d.gf ∧ (spanEnd ticks d).is_ = d.is_ ∧ (spanEnd ticks d).dg = d.dg ∧ (spanEnd ticks d).sg = d.sg ∧
    (spanEnd ticks d).sensorLive = d.sensorLive ∧ (spanEnd ticks d).kv = d.kv ∧ (spanEnd ticks d).cx = d.cx ∧
    (spanEnd ticks d).att = d.att ∧ (spanEnd ticks d).mb = d.mb ∧ (spanEnd ticks d).mg = d.mg ∧ (spanEnd ticks d).cd = d.cd ∧
    (spanEnd ticks d).cdWin = d.cdWin ∧ (spanEnd ticks d).cdStat = d.cdStat ∧ (spanEnd ticks d).lc = d.lc ∧
    (spanEnd ticks d).db = d.db ∧ (spanEnd ticks d).jtag = d.jtag ∧ (spanEnd ticks d).reply = d.reply ∧
    (spanEnd ticks d).free = d.free := by
  unfold spanEnd; split <;> simp

/-- `spanEndFree` changes `guard`, `ev`, `bat`, `free` only. -/
@[simp] theorem spanEndFree_frame (d : Device) :
    (spanEndFree d).pins = d.pins ∧ (spanEndFree d).junction = d.junction ∧ (spanEndFree d).clock = d.clock ∧
    (spanEndFree d).power = d.power ∧ (spanEndFree d).lastF2 = d.lastF2 ∧ (spanEndFree d).mem = d.mem ∧
    (spanEndFree d).flipped = d.flipped ∧ (spanEndFree d).start = d.start ∧ (spanEndFree d).measures = d.measures ∧
    (spanEndFree d).lg = d.lg ∧ (spanEndFree d).ec = d.ec ∧ (spanEndFree d).pt = d.pt ∧ (spanEndFree d).tx = d.tx ∧
    (spanEndFree d).gf = d.gf ∧ (spanEndFree d).is_ = d.is_ ∧ (spanEndFree d).dg = d.dg ∧ (spanEndFree d).sg = d.sg ∧
    (spanEndFree d).sensorLive = d.sensorLive ∧ (spanEndFree d).kv = d.kv ∧ (spanEndFree d).cx = d.cx ∧
    (spanEndFree d).att = d.att ∧ (spanEndFree d).mb = d.mb ∧ (spanEndFree d).mg = d.mg ∧ (spanEndFree d).cd = d.cd ∧
    (spanEndFree d).cdWin = d.cdWin ∧ (spanEndFree d).cdStat = d.cdStat ∧ (spanEndFree d).lc = d.lc ∧
    (spanEndFree d).db = d.db ∧ (spanEndFree d).jtag = d.jtag ∧ (spanEndFree d).reply = d.reply := by
  unfold spanEndFree; split <;> simp

/-- `intervalEnd` changes `guard`, `ev`, `bat` only. -/
@[simp] theorem intervalEnd_frame (cause bus ticks : Nat) (d : Device) :
    (intervalEnd cause bus ticks d).pins = d.pins ∧ (intervalEnd cause bus ticks d).junction = d.junction ∧
    (intervalEnd cause bus ticks d).clock = d.clock ∧ (intervalEnd cause bus ticks d).power = d.power ∧
    (intervalEnd cause bus ticks d).lastF2 = d.lastF2 ∧ (intervalEnd cause bus ticks d).mem = d.mem ∧
    (intervalEnd cause bus ticks d).flipped = d.flipped ∧ (intervalEnd cause bus ticks d).start = d.start ∧
    (intervalEnd cause bus ticks d).measures = d.measures ∧ (intervalEnd cause bus ticks d).lg = d.lg ∧
    (intervalEnd cause bus ticks d).ec = d.ec ∧ (intervalEnd cause bus ticks d).pt = d.pt ∧
    (intervalEnd cause bus ticks d).tx = d.tx ∧ (intervalEnd cause bus ticks d).gf = d.gf ∧
    (intervalEnd cause bus ticks d).is_ = d.is_ ∧ (intervalEnd cause bus ticks d).dg = d.dg ∧
    (intervalEnd cause bus ticks d).sg = d.sg ∧ (intervalEnd cause bus ticks d).sensorLive = d.sensorLive ∧
    (intervalEnd cause bus ticks d).kv = d.kv ∧ (intervalEnd cause bus ticks d).cx = d.cx ∧
    (intervalEnd cause bus ticks d).att = d.att ∧ (intervalEnd cause bus ticks d).mb = d.mb ∧
    (intervalEnd cause bus ticks d).mg = d.mg ∧ (intervalEnd cause bus ticks d).cd = d.cd ∧
    (intervalEnd cause bus ticks d).cdWin = d.cdWin ∧ (intervalEnd cause bus ticks d).cdStat = d.cdStat ∧
    (intervalEnd cause bus ticks d).lc = d.lc ∧ (intervalEnd cause bus ticks d).db = d.db ∧
    (intervalEnd cause bus ticks d).jtag = d.jtag ∧ (intervalEnd cause bus ticks d).reply = d.reply ∧
    (intervalEnd cause bus ticks d).free = d.free := by
  unfold intervalEnd; dsimp only; (repeat' split) <;> simp

/-- `closeWindow` changes `guard`, `ev`, `bat`, `free` only. -/
@[simp] theorem closeWindow_frame (d : Device) :
    (closeWindow d).pins = d.pins ∧ (closeWindow d).junction = d.junction ∧ (closeWindow d).clock = d.clock ∧
    (closeWindow d).power = d.power ∧ (closeWindow d).lastF2 = d.lastF2 ∧ (closeWindow d).mem = d.mem ∧
    (closeWindow d).flipped = d.flipped ∧ (closeWindow d).start = d.start ∧ (closeWindow d).measures = d.measures ∧
    (closeWindow d).lg = d.lg ∧ (closeWindow d).ec = d.ec ∧ (closeWindow d).pt = d.pt ∧ (closeWindow d).tx = d.tx ∧
    (closeWindow d).gf = d.gf ∧ (closeWindow d).is_ = d.is_ ∧ (closeWindow d).dg = d.dg ∧ (closeWindow d).sg = d.sg ∧
    (closeWindow d).sensorLive = d.sensorLive ∧ (closeWindow d).kv = d.kv ∧ (closeWindow d).cx = d.cx ∧
    (closeWindow d).att = d.att ∧ (closeWindow d).mb = d.mb ∧ (closeWindow d).mg = d.mg ∧ (closeWindow d).cd = d.cd ∧
    (closeWindow d).cdWin = d.cdWin ∧ (closeWindow d).cdStat = d.cdStat ∧ (closeWindow d).lc = d.lc ∧
    (closeWindow d).db = d.db ∧ (closeWindow d).jtag = d.jtag ∧ (closeWindow d).reply = d.reply := by
  simp [closeWindow]

/-- `windowDown` changes `guard`, `free` only. -/
@[simp] theorem windowDown_frame (d : Device) :
    (windowDown d).pins = d.pins ∧ (windowDown d).junction = d.junction ∧ (windowDown d).clock = d.clock ∧
    (windowDown d).power = d.power ∧ (windowDown d).lastF2 = d.lastF2 ∧ (windowDown d).mem = d.mem ∧
    (windowDown d).flipped = d.flipped ∧ (windowDown d).start = d.start ∧ (windowDown d).measures = d.measures ∧
    (windowDown d).ev = d.ev ∧ (windowDown d).lg = d.lg ∧ (windowDown d).ec = d.ec ∧ (windowDown d).pt = d.pt ∧
    (windowDown d).tx = d.tx ∧ (windowDown d).gf = d.gf ∧ (windowDown d).is_ = d.is_ ∧ (windowDown d).dg = d.dg ∧
    (windowDown d).sg = d.sg ∧ (windowDown d).bat = d.bat ∧ (windowDown d).sensorLive = d.sensorLive ∧
    (windowDown d).kv = d.kv ∧ (windowDown d).cx = d.cx ∧ (windowDown d).att = d.att ∧ (windowDown d).mb = d.mb ∧
    (windowDown d).mg = d.mg ∧ (windowDown d).cd = d.cd ∧ (windowDown d).cdWin = d.cdWin ∧ (windowDown d).cdStat = d.cdStat ∧
    (windowDown d).lc = d.lc ∧ (windowDown d).db = d.db ∧ (windowDown d).jtag = d.jtag ∧ (windowDown d).reply = d.reply := by
  unfold windowDown; dsimp only; split <;> simp

/-! ### MRAM writes in progress when power goes -/

/-- `recordLands` changes `mem`, `ev`, `bat` only. -/
@[simp] theorem recordLands_frame (d : Device) :
    (recordLands d).pins = d.pins ∧ (recordLands d).junction = d.junction ∧ (recordLands d).guard = d.guard ∧
    (recordLands d).clock = d.clock ∧ (recordLands d).power = d.power ∧ (recordLands d).lastF2 = d.lastF2 ∧
    (recordLands d).flipped = d.flipped ∧ (recordLands d).start = d.start ∧ (recordLands d).measures = d.measures ∧
    (recordLands d).lg = d.lg ∧ (recordLands d).ec = d.ec ∧ (recordLands d).pt = d.pt ∧ (recordLands d).tx = d.tx ∧
    (recordLands d).gf = d.gf ∧ (recordLands d).is_ = d.is_ ∧ (recordLands d).dg = d.dg ∧ (recordLands d).sg = d.sg ∧
    (recordLands d).sensorLive = d.sensorLive ∧ (recordLands d).kv = d.kv ∧ (recordLands d).cx = d.cx ∧
    (recordLands d).att = d.att ∧ (recordLands d).mb = d.mb ∧ (recordLands d).mg = d.mg ∧ (recordLands d).cd = d.cd ∧
    (recordLands d).cdWin = d.cdWin ∧ (recordLands d).cdStat = d.cdStat ∧ (recordLands d).lc = d.lc ∧
    (recordLands d).db = d.db ∧ (recordLands d).jtag = d.jtag ∧ (recordLands d).reply = d.reply ∧
    (recordLands d).free = d.free := by
  repeat' constructor

/-- `sheetLands` changes `mem`, `lg`, `bat` only. -/
@[simp] theorem sheetLands_frame (d : Device) :
    (sheetLands d).pins = d.pins ∧ (sheetLands d).junction = d.junction ∧ (sheetLands d).guard = d.guard ∧
    (sheetLands d).clock = d.clock ∧ (sheetLands d).power = d.power ∧ (sheetLands d).lastF2 = d.lastF2 ∧
    (sheetLands d).flipped = d.flipped ∧ (sheetLands d).start = d.start ∧ (sheetLands d).measures = d.measures ∧
    (sheetLands d).ev = d.ev ∧ (sheetLands d).ec = d.ec ∧ (sheetLands d).pt = d.pt ∧ (sheetLands d).tx = d.tx ∧
    (sheetLands d).gf = d.gf ∧ (sheetLands d).is_ = d.is_ ∧ (sheetLands d).dg = d.dg ∧ (sheetLands d).sg = d.sg ∧
    (sheetLands d).sensorLive = d.sensorLive ∧ (sheetLands d).kv = d.kv ∧ (sheetLands d).cx = d.cx ∧
    (sheetLands d).att = d.att ∧ (sheetLands d).mb = d.mb ∧ (sheetLands d).mg = d.mg ∧ (sheetLands d).cd = d.cd ∧
    (sheetLands d).cdWin = d.cdWin ∧ (sheetLands d).cdStat = d.cdStat ∧ (sheetLands d).lc = d.lc ∧ (sheetLands d).db = d.db ∧
    (sheetLands d).jtag = d.jtag ∧ (sheetLands d).reply = d.reply ∧ (sheetLands d).free = d.free := by
  unfold sheetLands; split <;> simp

/-- `recordTorn` changes `mem`, `bat` only. -/
@[simp] theorem recordTorn_frame (d : Device) :
    (recordTorn d).pins = d.pins ∧ (recordTorn d).junction = d.junction ∧ (recordTorn d).guard = d.guard ∧
    (recordTorn d).clock = d.clock ∧ (recordTorn d).power = d.power ∧ (recordTorn d).lastF2 = d.lastF2 ∧
    (recordTorn d).flipped = d.flipped ∧ (recordTorn d).start = d.start ∧ (recordTorn d).measures = d.measures ∧
    (recordTorn d).ev = d.ev ∧ (recordTorn d).lg = d.lg ∧ (recordTorn d).ec = d.ec ∧ (recordTorn d).pt = d.pt ∧
    (recordTorn d).tx = d.tx ∧ (recordTorn d).gf = d.gf ∧ (recordTorn d).is_ = d.is_ ∧ (recordTorn d).dg = d.dg ∧
    (recordTorn d).sg = d.sg ∧ (recordTorn d).sensorLive = d.sensorLive ∧ (recordTorn d).kv = d.kv ∧
    (recordTorn d).cx = d.cx ∧ (recordTorn d).att = d.att ∧ (recordTorn d).mb = d.mb ∧ (recordTorn d).mg = d.mg ∧
    (recordTorn d).cd = d.cd ∧ (recordTorn d).cdWin = d.cdWin ∧ (recordTorn d).cdStat = d.cdStat ∧ (recordTorn d).lc = d.lc ∧
    (recordTorn d).db = d.db ∧ (recordTorn d).jtag = d.jtag ∧ (recordTorn d).reply = d.reply ∧
    (recordTorn d).free = d.free := by
  repeat' constructor

/-- `clearCut` changes `mem`, `bat`, `free` only. -/
@[simp] theorem clearCut_frame (d : Device) :
    (clearCut d).pins = d.pins ∧ (clearCut d).junction = d.junction ∧ (clearCut d).guard = d.guard ∧
    (clearCut d).clock = d.clock ∧ (clearCut d).power = d.power ∧ (clearCut d).lastF2 = d.lastF2 ∧
    (clearCut d).flipped = d.flipped ∧ (clearCut d).start = d.start ∧ (clearCut d).measures = d.measures ∧
    (clearCut d).ev = d.ev ∧ (clearCut d).lg = d.lg ∧ (clearCut d).ec = d.ec ∧ (clearCut d).pt = d.pt ∧
    (clearCut d).tx = d.tx ∧ (clearCut d).gf = d.gf ∧ (clearCut d).is_ = d.is_ ∧ (clearCut d).dg = d.dg ∧
    (clearCut d).sg = d.sg ∧ (clearCut d).sensorLive = d.sensorLive ∧ (clearCut d).kv = d.kv ∧ (clearCut d).cx = d.cx ∧
    (clearCut d).att = d.att ∧ (clearCut d).mb = d.mb ∧ (clearCut d).mg = d.mg ∧ (clearCut d).cd = d.cd ∧
    (clearCut d).cdWin = d.cdWin ∧ (clearCut d).cdStat = d.cdStat ∧ (clearCut d).lc = d.lc ∧ (clearCut d).db = d.db ∧
    (clearCut d).jtag = d.jtag ∧ (clearCut d).reply = d.reply := by
  unfold clearCut; split <;> simp

/-- `writesComplete` changes `mem`, `ev`, `lg`, `bat`, `free` only. -/
@[simp] theorem writesComplete_frame (d : Device) :
    (writesComplete d).pins = d.pins ∧ (writesComplete d).junction = d.junction ∧ (writesComplete d).guard = d.guard ∧
    (writesComplete d).clock = d.clock ∧ (writesComplete d).power = d.power ∧ (writesComplete d).lastF2 = d.lastF2 ∧
    (writesComplete d).flipped = d.flipped ∧ (writesComplete d).start = d.start ∧ (writesComplete d).measures = d.measures ∧
    (writesComplete d).ec = d.ec ∧ (writesComplete d).pt = d.pt ∧ (writesComplete d).tx = d.tx ∧
    (writesComplete d).gf = d.gf ∧ (writesComplete d).is_ = d.is_ ∧ (writesComplete d).dg = d.dg ∧
    (writesComplete d).sg = d.sg ∧ (writesComplete d).sensorLive = d.sensorLive ∧ (writesComplete d).kv = d.kv ∧
    (writesComplete d).cx = d.cx ∧ (writesComplete d).att = d.att ∧ (writesComplete d).mb = d.mb ∧
    (writesComplete d).mg = d.mg ∧ (writesComplete d).cd = d.cd ∧ (writesComplete d).cdWin = d.cdWin ∧
    (writesComplete d).cdStat = d.cdStat ∧ (writesComplete d).lc = d.lc ∧ (writesComplete d).db = d.db ∧
    (writesComplete d).jtag = d.jtag ∧ (writesComplete d).reply = d.reply := by
  simp [writesComplete]

/-- `writesMayComplete` changes `mem`, `ev`, `lg`, `bat`, `free` only. -/
@[simp] theorem writesMayComplete_frame (d : Device) :
    (writesMayComplete d).pins = d.pins ∧ (writesMayComplete d).junction = d.junction ∧
    (writesMayComplete d).guard = d.guard ∧ (writesMayComplete d).clock = d.clock ∧ (writesMayComplete d).power = d.power ∧
    (writesMayComplete d).lastF2 = d.lastF2 ∧ (writesMayComplete d).flipped = d.flipped ∧
    (writesMayComplete d).start = d.start ∧ (writesMayComplete d).measures = d.measures ∧ (writesMayComplete d).ec = d.ec ∧
    (writesMayComplete d).pt = d.pt ∧ (writesMayComplete d).tx = d.tx ∧ (writesMayComplete d).gf = d.gf ∧
    (writesMayComplete d).is_ = d.is_ ∧ (writesMayComplete d).dg = d.dg ∧ (writesMayComplete d).sg = d.sg ∧
    (writesMayComplete d).sensorLive = d.sensorLive ∧ (writesMayComplete d).kv = d.kv ∧ (writesMayComplete d).cx = d.cx ∧
    (writesMayComplete d).att = d.att ∧ (writesMayComplete d).mb = d.mb ∧ (writesMayComplete d).mg = d.mg ∧
    (writesMayComplete d).cd = d.cd ∧ (writesMayComplete d).cdWin = d.cdWin ∧ (writesMayComplete d).cdStat = d.cdStat ∧
    (writesMayComplete d).lc = d.lc ∧ (writesMayComplete d).db = d.db ∧ (writesMayComplete d).jtag = d.jtag ∧
    (writesMayComplete d).reply = d.reply := by
  unfold writesMayComplete; dsimp only; (repeat' split) <;> simp

/-- `zeroRegions` changes `mem`, `flipped`, `lg`, `bat` only. -/
@[simp] theorem zeroRegions_frame (rs : List (Nat × Nat)) (d : Device) :
    (zeroRegions rs d).pins = d.pins ∧ (zeroRegions rs d).junction = d.junction ∧ (zeroRegions rs d).guard = d.guard ∧
    (zeroRegions rs d).clock = d.clock ∧ (zeroRegions rs d).power = d.power ∧ (zeroRegions rs d).lastF2 = d.lastF2 ∧
    (zeroRegions rs d).start = d.start ∧ (zeroRegions rs d).measures = d.measures ∧ (zeroRegions rs d).ev = d.ev ∧
    (zeroRegions rs d).ec = d.ec ∧ (zeroRegions rs d).pt = d.pt ∧ (zeroRegions rs d).tx = d.tx ∧
    (zeroRegions rs d).gf = d.gf ∧ (zeroRegions rs d).is_ = d.is_ ∧ (zeroRegions rs d).dg = d.dg ∧
    (zeroRegions rs d).sg = d.sg ∧ (zeroRegions rs d).sensorLive = d.sensorLive ∧ (zeroRegions rs d).kv = d.kv ∧
    (zeroRegions rs d).cx = d.cx ∧ (zeroRegions rs d).att = d.att ∧ (zeroRegions rs d).mb = d.mb ∧
    (zeroRegions rs d).mg = d.mg ∧ (zeroRegions rs d).cd = d.cd ∧ (zeroRegions rs d).cdWin = d.cdWin ∧
    (zeroRegions rs d).cdStat = d.cdStat ∧ (zeroRegions rs d).lc = d.lc ∧ (zeroRegions rs d).db = d.db ∧
    (zeroRegions rs d).jtag = d.jtag ∧ (zeroRegions rs d).reply = d.reply ∧ (zeroRegions rs d).free = d.free := by
  repeat' constructor

/-- `wipeCut` changes `mem`, `flipped`, `lg`, `bat`, `free` only. -/
@[simp] theorem wipeCut_frame (d : Device) :
    (wipeCut d).pins = d.pins ∧ (wipeCut d).junction = d.junction ∧ (wipeCut d).guard = d.guard ∧
    (wipeCut d).clock = d.clock ∧ (wipeCut d).power = d.power ∧ (wipeCut d).lastF2 = d.lastF2 ∧ (wipeCut d).start = d.start ∧
    (wipeCut d).measures = d.measures ∧ (wipeCut d).ev = d.ev ∧ (wipeCut d).ec = d.ec ∧ (wipeCut d).pt = d.pt ∧
    (wipeCut d).tx = d.tx ∧ (wipeCut d).gf = d.gf ∧ (wipeCut d).is_ = d.is_ ∧ (wipeCut d).dg = d.dg ∧ (wipeCut d).sg = d.sg ∧
    (wipeCut d).sensorLive = d.sensorLive ∧ (wipeCut d).kv = d.kv ∧ (wipeCut d).cx = d.cx ∧ (wipeCut d).att = d.att ∧
    (wipeCut d).mb = d.mb ∧ (wipeCut d).mg = d.mg ∧ (wipeCut d).cd = d.cd ∧ (wipeCut d).cdWin = d.cdWin ∧
    (wipeCut d).cdStat = d.cdStat ∧ (wipeCut d).lc = d.lc ∧ (wipeCut d).db = d.db ∧ (wipeCut d).jtag = d.jtag ∧
    (wipeCut d).reply = d.reply := by
  unfold wipeCut; dsimp only; (repeat' split) <;> simp

/-! ### MAIN is released -/

/-- `lifeDecode` changes `lc`, `bat` only. -/
@[simp] theorem lifeDecode_frame (d : Device) :
    (lifeDecode d).pins = d.pins ∧ (lifeDecode d).junction = d.junction ∧ (lifeDecode d).guard = d.guard ∧
    (lifeDecode d).clock = d.clock ∧ (lifeDecode d).power = d.power ∧ (lifeDecode d).lastF2 = d.lastF2 ∧
    (lifeDecode d).mem = d.mem ∧ (lifeDecode d).flipped = d.flipped ∧ (lifeDecode d).start = d.start ∧
    (lifeDecode d).measures = d.measures ∧ (lifeDecode d).ev = d.ev ∧ (lifeDecode d).lg = d.lg ∧
    (lifeDecode d).ec = d.ec ∧ (lifeDecode d).pt = d.pt ∧ (lifeDecode d).tx = d.tx ∧ (lifeDecode d).gf = d.gf ∧
    (lifeDecode d).is_ = d.is_ ∧ (lifeDecode d).dg = d.dg ∧ (lifeDecode d).sg = d.sg ∧
    (lifeDecode d).sensorLive = d.sensorLive ∧ (lifeDecode d).kv = d.kv ∧ (lifeDecode d).cx = d.cx ∧
    (lifeDecode d).att = d.att ∧ (lifeDecode d).mb = d.mb ∧ (lifeDecode d).mg = d.mg ∧ (lifeDecode d).cd = d.cd ∧
    (lifeDecode d).cdWin = d.cdWin ∧ (lifeDecode d).cdStat = d.cdStat ∧ (lifeDecode d).db = d.db ∧
    (lifeDecode d).jtag = d.jtag ∧ (lifeDecode d).reply = d.reply ∧ (lifeDecode d).free = d.free := by
  repeat' constructor

/-- `drawNonce` changes `lg`, `free` only. -/
@[simp] theorem drawNonce_frame (d : Device) :
    (drawNonce d).pins = d.pins ∧ (drawNonce d).junction = d.junction ∧ (drawNonce d).guard = d.guard ∧
    (drawNonce d).clock = d.clock ∧ (drawNonce d).power = d.power ∧ (drawNonce d).lastF2 = d.lastF2 ∧
    (drawNonce d).mem = d.mem ∧ (drawNonce d).flipped = d.flipped ∧ (drawNonce d).start = d.start ∧
    (drawNonce d).measures = d.measures ∧ (drawNonce d).ev = d.ev ∧ (drawNonce d).ec = d.ec ∧ (drawNonce d).pt = d.pt ∧
    (drawNonce d).tx = d.tx ∧ (drawNonce d).gf = d.gf ∧ (drawNonce d).is_ = d.is_ ∧ (drawNonce d).dg = d.dg ∧
    (drawNonce d).sg = d.sg ∧ (drawNonce d).bat = d.bat ∧ (drawNonce d).sensorLive = d.sensorLive ∧
    (drawNonce d).kv = d.kv ∧ (drawNonce d).cx = d.cx ∧ (drawNonce d).att = d.att ∧ (drawNonce d).mb = d.mb ∧
    (drawNonce d).mg = d.mg ∧ (drawNonce d).cd = d.cd ∧ (drawNonce d).cdWin = d.cdWin ∧ (drawNonce d).cdStat = d.cdStat ∧
    (drawNonce d).lc = d.lc ∧ (drawNonce d).db = d.db ∧ (drawNonce d).jtag = d.jtag ∧ (drawNonce d).reply = d.reply := by
  simp [drawNonce]

/-- `recordNote` changes `ev`, `bat`, `mg` only. -/
@[simp] theorem recordNote_frame (m : Mport) (d : Device) :
    (recordNote m d).pins = d.pins ∧ (recordNote m d).junction = d.junction ∧ (recordNote m d).guard = d.guard ∧
    (recordNote m d).clock = d.clock ∧ (recordNote m d).power = d.power ∧ (recordNote m d).lastF2 = d.lastF2 ∧
    (recordNote m d).mem = d.mem ∧ (recordNote m d).flipped = d.flipped ∧ (recordNote m d).start = d.start ∧
    (recordNote m d).measures = d.measures ∧ (recordNote m d).lg = d.lg ∧ (recordNote m d).ec = d.ec ∧
    (recordNote m d).pt = d.pt ∧ (recordNote m d).tx = d.tx ∧ (recordNote m d).gf = d.gf ∧ (recordNote m d).is_ = d.is_ ∧
    (recordNote m d).dg = d.dg ∧ (recordNote m d).sg = d.sg ∧ (recordNote m d).sensorLive = d.sensorLive ∧
    (recordNote m d).kv = d.kv ∧ (recordNote m d).cx = d.cx ∧ (recordNote m d).att = d.att ∧ (recordNote m d).mb = d.mb ∧
    (recordNote m d).cd = d.cd ∧ (recordNote m d).cdWin = d.cdWin ∧ (recordNote m d).cdStat = d.cdStat ∧
    (recordNote m d).lc = d.lc ∧ (recordNote m d).db = d.db ∧ (recordNote m d).jtag = d.jtag ∧
    (recordNote m d).reply = d.reply ∧ (recordNote m d).free = d.free := by
  unfold recordNote; split
  · simp
  · dsimp only; split <;> simp

/-- `cardNote` changes `ev`, `bat`, `free` only. -/
@[simp] theorem cardNote_frame (d : Device) :
    (cardNote d).pins = d.pins ∧ (cardNote d).junction = d.junction ∧ (cardNote d).guard = d.guard ∧
    (cardNote d).clock = d.clock ∧ (cardNote d).power = d.power ∧ (cardNote d).lastF2 = d.lastF2 ∧
    (cardNote d).mem = d.mem ∧ (cardNote d).flipped = d.flipped ∧ (cardNote d).start = d.start ∧
    (cardNote d).measures = d.measures ∧ (cardNote d).lg = d.lg ∧ (cardNote d).ec = d.ec ∧
    (cardNote d).pt = d.pt ∧ (cardNote d).tx = d.tx ∧ (cardNote d).gf = d.gf ∧ (cardNote d).is_ = d.is_ ∧
    (cardNote d).dg = d.dg ∧ (cardNote d).sg = d.sg ∧ (cardNote d).sensorLive = d.sensorLive ∧
    (cardNote d).kv = d.kv ∧ (cardNote d).cx = d.cx ∧ (cardNote d).att = d.att ∧ (cardNote d).mb = d.mb ∧
    (cardNote d).cd = d.cd ∧ (cardNote d).cdWin = d.cdWin ∧ (cardNote d).cdStat = d.cdStat ∧
    (cardNote d).lc = d.lc ∧ (cardNote d).db = d.db ∧ (cardNote d).jtag = d.jtag ∧
    (cardNote d).reply = d.reply ∧ (cardNote d).mg = d.mg := by
  simp [cardNote]

/-- `mainRelease` changes `clock`, `power`, `start`, `cx`, `lc`, `bat`, `lg`, `ev`, `mg`, `free` only. -/
@[simp] theorem mainRelease_frame (d : Device) :
    (mainRelease d).pins = d.pins ∧ (mainRelease d).junction = d.junction ∧ (mainRelease d).guard = d.guard ∧
    (mainRelease d).lastF2 = d.lastF2 ∧ (mainRelease d).mem = d.mem ∧ (mainRelease d).flipped = d.flipped ∧
    (mainRelease d).measures = d.measures ∧ (mainRelease d).ec = d.ec ∧ (mainRelease d).pt = d.pt ∧
    (mainRelease d).tx = d.tx ∧ (mainRelease d).gf = d.gf ∧ (mainRelease d).is_ = d.is_ ∧ (mainRelease d).dg = d.dg ∧
    (mainRelease d).sg = d.sg ∧ (mainRelease d).sensorLive = d.sensorLive ∧ (mainRelease d).kv = d.kv ∧
    (mainRelease d).att = d.att ∧ (mainRelease d).mb = d.mb ∧ (mainRelease d).cd = d.cd ∧ (mainRelease d).cdWin = d.cdWin ∧
    (mainRelease d).cdStat = d.cdStat ∧ (mainRelease d).db = d.db ∧ (mainRelease d).jtag = d.jtag ∧
    (mainRelease d).reply = d.reply := by
  unfold mainRelease; simp only [cardNote_frame, recordNote_frame, drawNonce_frame, lifeDecode_frame, and_self]

@[simp] theorem mainRelease_clock (d : Device) :
    (mainRelease d).clock = if d.power.resetKind = 3 then d.clock else { d.clock with powerCycles := satAdd 20 d.clock.powerCycles 1 } := by
  unfold mainRelease; simp only [cardNote_frame, recordNote_frame, drawNonce_frame, lifeDecode_frame]
@[simp] theorem mainRelease_power (d : Device) :
    (mainRelease d).power = { d.power with state := .run } := by
  unfold mainRelease; simp only [cardNote_frame, recordNote_frame, drawNonce_frame, lifeDecode_frame]
@[simp] theorem mainRelease_start (d : Device) :
    (mainRelease d).start = { phase := .rom, resetKind := d.power.resetKind } := by
  unfold mainRelease; simp only [cardNote_frame, recordNote_frame, drawNonce_frame, lifeDecode_frame]
@[simp] theorem mainRelease_cx (d : Device) :
    (mainRelease d).cx = { training := !d.pins.cxPerst } := by
  unfold mainRelease; simp only [cardNote_frame, recordNote_frame, drawNonce_frame, lifeDecode_frame]
@[simp] theorem mainRelease_otp (d : Device) : (mainRelease d).lc.otp = d.lc.otp := (mainRelease_wf d).2.1

/-- Power is good with the crystal stable: MAIN is released. -/
theorem powerGood_xtal {d : Device} (h : d.pins.xtalOk = true) : powerGood d = mainRelease d := if_pos h

/-- Power is good before the crystal is stable: the release waits. -/
theorem powerGood_wait {d : Device} (h : d.pins.xtalOk = false) : powerGood d = { d with power := { d.power with state := .starting } } := by
  simp [powerGood, h]

/-! ### The main core is down -/

@[simp] theorem mainDown_power (cause : Nat) (state : PowerState) (d : Device) : (mainDown cause state d).power =
    { (mainCleared false (windowDown (holdAllGates d))).power with state := state, mainCause := cause, resetKind := 1 } := rfl
@[simp] theorem mainDown_start (cause : Nat) (state : PowerState) (d : Device) : (mainDown cause state d).start = {} := rfl
@[simp] theorem mainDown_measures (cause : Nat) (state : PowerState) (d : Device) : (mainDown cause state d).measures = {} := rfl
@[simp] theorem mainDown_lg (cause : Nat) (state : PowerState) (d : Device) : (mainDown cause state d).lg = { used := d.lg.used } := by
  simp [mainDown]
@[simp] theorem mainDown_ec (cause : Nat) (state : PowerState) (d : Device) : (mainDown cause state d).ec = {} := rfl
@[simp] theorem mainDown_pt (cause : Nat) (state : PowerState) (d : Device) : (mainDown cause state d).pt = {} := rfl
@[simp] theorem mainDown_tx (cause : Nat) (state : PowerState) (d : Device) : (mainDown cause state d).tx = {} := rfl
@[simp] theorem mainDown_gf (cause : Nat) (state : PowerState) (d : Device) : (mainDown cause state d).gf = {} := rfl
@[simp] theorem mainDown_is (cause : Nat) (state : PowerState) (d : Device) : (mainDown cause state d).is_ = {} := rfl
@[simp] theorem mainDown_dg (cause : Nat) (state : PowerState) (d : Device) : (mainDown cause state d).dg = {} := rfl
@[simp] theorem mainDown_sg (cause : Nat) (state : PowerState) (d : Device) : (mainDown cause state d).sg = {} := rfl
@[simp] theorem mainDown_kv (cause : Nat) (state : PowerState) (d : Device) : (mainDown cause state d).kv = {} := rfl
@[simp] theorem mainDown_cx (cause : Nat) (state : PowerState) (d : Device) : (mainDown cause state d).cx = {} := rfl
@[simp] theorem mainDown_att (cause : Nat) (state : PowerState) (d : Device) : (mainDown cause state d).att = {} := rfl
@[simp] theorem mainDown_cd (cause : Nat) (state : PowerState) (d : Device) : (mainDown cause state d).cd = { done := d.cd.busy, outcome := if d.cd.busy then 9 else 0 } := by
  simp [mainDown]
@[simp] theorem mainDown_cdWin (cause : Nat) (state : PowerState) (d : Device) : (mainDown cause state d).cdWin = {} := rfl
@[simp] theorem mainDown_db (cause : Nat) (state : PowerState) (d : Device) : (mainDown cause state d).db = {} := rfl
@[simp] theorem mainDown_pins (cause : Nat) (state : PowerState) (d : Device) :
    (mainDown cause state d).pins = { d.pins with pressUnderStage := false } := by
  simp [mainDown]
@[simp] theorem mainDown_clock (cause : Nat) (state : PowerState) (d : Device) : (mainDown cause state d).clock = d.clock := by
  simp [mainDown]

/-- The tick of the main core changes the turnstiles, the recorder and the watchdog only. -/
theorem mainTick_frame {β : Type} (p : Device → β) (d : Device)
    (h : ∀ (e : Device) g v w, p { e with gf := g, ev := v, power := w } = p e) : p (mainTick d) = p d := by
  unfold mainTick
  exact (h _ _ _ _).trans (foldl_same p _ (fun e a => h e _ e.ev e.power) (List.range 64) d)

end Sys2Proof.Machine
end

