-- ==== Sys2Proof/Laws/Ops.lean ====
section
/-! SUPPORT. Shared operations: the writes of control registers by harts, with their conditions met and not met; tables. -/

namespace Sys2Proof.Machine

open Sys2Proof

/-- A hart that may write a block does (R359). -/
theorem hartWrite_may {d : Device} {h : Hart} {b : Nat} (m : MayWrite d h b) (addr : Nat) (f : Device → Device) :
    hartWrite h b addr f d = f d := by
  obtain ⟨h1, h2, h3⟩ := m
  simp [hartWrite, h1, h2, h3]

/-- A hart whose deckle excludes the block takes an access fault (R359). -/
theorem hartWrite_excluded {d : Device} {h : Hart} {b : Nat} (h1 : mainRuns d = true) (h2 : hartStalled d h = false)
    (h3 : deckleAllows d h b = false) (addr : Nat) (f : Device → Device) : hartWrite h b addr f d = accessFault h addr d := by
  simp [hartWrite, h1, h2, h3]

/-- A write that reaches a register which one hart writes. -/
theorem onlyHart_may {d : Device} {h : Hart} {b : Nat} (m : MayWrite d h b) (o addr : Nat) (f : Device → Device) :
    onlyHart o h b addr f d = if h.val = o then f d else d := by
  rw [onlyHart, hartWrite_may m]

/-- A command that the mode of an answering port defines has its effect (R171). -/
theorem portCommand_defined {d : Device} {p : Port} {r : PortRec} {defined : Nat → PortRec → Bool} (h : OnPort d p r)
    (m : defined r.mode r = true) (op khz addr : Nat) (f : PortRec → Device → Device) :
    portCommand p op khz addr defined f d = f r (portCalm p op khz addr r d) := by
  simp [portCommand, h.1, h.2, m, portCalm]

/-- A command that the mode of an answering port does not define is an undefined opcode (R172). -/
theorem portCommand_undefined {d : Device} {p : Port} {r : PortRec} {defined : Nat → PortRec → Bool} (h : OnPort d p r)
    (m : defined r.mode r = false) (op khz addr : Nat) (f : PortRec → Device → Device) :
    portCommand p op khz addr defined f d = undefinedOp p op (clockCheck p khz op addr r d) := by
  simp [portCommand, h.1, h.2, m]

/-- A digest engine command on a context of its hart (R268, R278). -/
theorem digestCommand_own {d : Device} {h : Hart} {c : Ctx} {x : Context} (o : OwnContext d h c x) (cmd : Nat)
    (f : Context → Device → Nat × Nat × Device) :
    digestCommand h cmd (onContext h c f) d = dgResult h cmd (f x d).1 (f x d).2.1 (f x d).2.2 := by
  obtain ⟨m, j, e, w⟩ := o
  simp [digestCommand, hartWrite_may m, j, onContext, e, w]

/-- A digest engine command with no Prefix or Feed of its hart running (R278). -/
theorem digestCommand_may {d : Device} {h : Hart} (m : MayWrite d h 4) (j : (dgBank d h).job = none) (cmd : Nat)
    (f : Device → Nat × Nat × Device) : digestCommand h cmd f d = dgResult h cmd (f d).1 (f d).2.1 (f d).2.2 := by
  simp [digestCommand, hartWrite_may m, j]

/-- A key vault command of a hart that may give it (R331): accepted with outcome 0, else refused. -/
theorem vaultCommand_ready {d : Device} {h : Hart} (r : VaultReady d h) (cmd : Nat) (out : Device → Nat) (f : Device → Device)
    (c : ¬ (8 ≤ cmd ∧ cmd ≤ 13 ∧ h ≠ 0)) :
    vaultCommand h cmd out f d = if out d = 0 then kvResult h cmd 0 true (f d) else kvResult h cmd (out d) false d := by
  have hb : d.kv.banks[h.val].busy = false := r.2
  simp only [vaultCommand, hartWrite_may r.1, Fin.getElem_fin, hb, if_neg c, Bool.false_eq_true, if_false]

/-- Commands 8–13 are hart 0's (R331). -/
theorem vaultCommand_refused {d : Device} {h : Hart} (r : VaultReady d h) (cmd : Nat) (out : Device → Nat) (f : Device → Device)
    (c : 8 ≤ cmd ∧ cmd ≤ 13 ∧ h ≠ 0) : vaultCommand h cmd out f d = kvResult h cmd 3 false d := by
  have hb : d.kv.banks[h.val].busy = false := r.2
  simp only [vaultCommand, hartWrite_may r.1, Fin.getElem_fin, hb, if_pos c, Bool.false_eq_true, if_false]
  rfl

/-- A control message is answered by the hart that serves the port (R493). -/
theorem control_served {d : Device} {m : Mport} (h : PortServed d m) (code : Byte) (f : Device → List Byte × Device) :
    control m code f d = respond m ([0x00, 0x00, code] ++ (f d).1) (f d).2 := by
  simp [control, h.1, h.2.1, h.2.2]

/-- A Fjarlin message is answered by the hart that serves the port (R497). -/
theorem fjMessage_served {d : Device} {m : Mport} (h : PortServed d m) (command tag : Nat) (f : Device → FjAnswer) :
    fjMessage m command tag f d = respond m (fjBytes command tag (f d).status (f d).detail (f d).body) (f d).dev := by
  simp [fjMessage, fjServes, h.1, h.2.1, h.2.2]

/-- A request on a connection at the stage it needs is answered (R466, R468). -/
theorem spdmRequest_open {d : Device} {p : Peer} {code stage : Nat} {r : Bool} {c : SpdmConn} (o : OnConnection d p code c)
    (h1 : stage ≤ c.stage) (h2 : r = false ∨ c.noAlgs = false) (raw : List Byte) (f : SpdmConn → Device → Device) :
    spdmRequest p raw code stage r f d = f (unchunked c) d := by
  obtain ⟨a, b, t, k⟩ := o
  have h1' : ¬ c.stage < stage := by omega
  have ht : (tamperResponse d && !tamperAnswers code) = false := by rcases t with t | t <;> simp [t]
  have hr : (r && c.noAlgs) = false := by rcases h2 with h | h <;> simp [h]
  simp [spdmRequest, a, b, k, ht, hr, h1', unchunked]

/-- A request before its stage, or after a selection of no algorithms, is an unexpected request (R465, R468). -/
theorem spdmRequest_early {d : Device} {p : Peer} {code stage : Nat} {r : Bool} {c : SpdmConn} (o : OnConnection d p code c)
    (h : c.stage < stage ∨ (r = true ∧ c.noAlgs = true)) (raw : List Byte) (f : SpdmConn → Device → Device) :
    spdmRequest p raw code stage r f d = spdmSend p (spdmError (connVersion (some c)) 0x04 0 []) (setConn p (unchunked c) d) := by
  obtain ⟨a, b, t, k⟩ := o
  have ht : (tamperResponse d && !tamperAnswers code) = false := by rcases t with t | t <;> simp [t]
  have hr : (decide (c.stage < stage) || (r && c.noAlgs)) = true := by rcases h with h | h <;> simp [h]
  simp only [spdmRequest, a, b, k, ht, unchunked]
  simp at hr
  simp [hr]

/-- A mailbox command that is taken (R449, R450). -/
theorem mailbox_ready {d : Device} {who : Option Ld} (r : MailboxReady d who) (op : Nat) (f : Device → Nat × List Byte × Device) :
    mailbox who op true f d = mailboxEnds who op (f d).1 (f d).2.1 (f d).2.2 := by
  simp [mailbox, r.1, r.2.1, r.2.2]

/-- A mailbox command that its requester does not have is Unsupported (R450). -/
theorem mailbox_unsupported {d : Device} {who : Option Ld} (r : MailboxReady d who) (op : Nat) (f : Device → Nat × List Byte × Device) :
    mailbox who op false f d = mailboxEnds who op 3 [] d := by
  simp [mailbox, r.1, r.2.1, r.2.2]

/-- A table entry after a change of one entry. -/
theorem vget_vmod {α : Type} [Inhabited α] {n : Nat} (v : Vector α n) (i j : Nat) (f : α → α) :
    vget (vmod v i f) j = if i = j ∧ j < n then f (vget v j) else vget v j := by
  unfold vget vmod
  by_cases hj : j < n
  · by_cases hi : i < n
    · by_cases e : i = j
      · subst e; simp [hi]
      · simp [hi, hj, e]
    · have : i ≠ j := fun e => hi (e ▸ hj)
      simp [hi, hj, this]
  · simp [hj]

/-- Two changes of one table entry are one. -/
theorem vmod_vmod {α : Type} {n : Nat} (v : Vector α n) (i : Nat) (f g : α → α) : vmod (vmod v i g) i f = vmod v i (fun x => f (g x)) := by
  unfold vmod; split <;> simp

@[simp] theorem domain_modBd (i : Fin 16) (f : BootDomain → BootDomain) (d : Device) : domain (modBd i f d) i = f (domain d i) := by
  simp [domain, modBd, vget_vmod]

theorem domain_modBd_ne (i j : Nat) (f : BootDomain → BootDomain) (d : Device) (h : i ≠ j) : domain (modBd i f d) j = domain d j := by
  simp [domain, modBd, vget_vmod, h]

theorem modBd_modBd (i : Nat) (f g : BootDomain → BootDomain) (d : Device) : modBd i f (modBd i g d) = modBd i (fun x => f (g x)) d := by
  simp [modBd, vmod_vmod]

@[simp] theorem portAt_modPort (i : Fin 8) (f : UpPort → UpPort) (d : Device) : portAt (modPort i f d) i = f (portAt d i) := by
  simp [portAt, modPort, vget_vmod]

theorem portAt_modPort_ne (i j : Nat) (f : UpPort → UpPort) (d : Device) (h : i ≠ j) : portAt (modPort i f d) j = portAt d j := by
  simp [portAt, modPort, vget_vmod, h]

theorem modPort_modPort (i : Nat) (f g : UpPort → UpPort) (d : Device) : modPort i f (modPort i g d) = modPort i (fun x => f (g x)) d := by
  simp [modPort, vmod_vmod]

@[simp] theorem busAt_modBus (i : Fin 16) (f : FlashBus → FlashBus) (d : Device) : busAt (modBus i f d) i = f (busAt d i) := by
  simp [busAt, modBus, vget_vmod]

theorem busAt_modBus_ne (i j : Nat) (f : FlashBus → FlashBus) (d : Device) (h : i ≠ j) : busAt (modBus i f d) j = busAt d j := by
  simp [busAt, modBus, vget_vmod, h]

theorem modBus_modBus (i : Nat) (f g : FlashBus → FlashBus) (d : Device) : modBus i f (modBus i g d) = modBus i (fun x => f (g x)) d := by
  simp [modBus, vmod_vmod]

@[simp] theorem devAt_modDev (i : Fin 64) (f : FlashDev → FlashDev) (d : Device) : devAt (modDev i f d) i = f (devAt d i) := by
  simp [devAt, modDev, vget_vmod]

theorem devAt_modDev_ne (i j : Nat) (f : FlashDev → FlashDev) (d : Device) (h : i ≠ j) : devAt (modDev i f d) j = devAt d j := by
  simp [devAt, modDev, vget_vmod, h]

theorem modDev_modDev (i : Nat) (f g : FlashDev → FlashDev) (d : Device) : modDev i f (modDev i g d) = modDev i (fun x => f (g x)) d := by
  simp [modDev, vmod_vmod]

@[simp] theorem tsAt_modTs (i : Fin 64) (f : Turnstile → Turnstile) (d : Device) : tsAt (modTs i f d) i = f (tsAt d i) := by
  simp [tsAt, modTs, vget_vmod]

theorem tsAt_modTs_ne (i j : Nat) (f : Turnstile → Turnstile) (d : Device) (h : i ≠ j) : tsAt (modTs i f d) j = tsAt d j := by
  simp [tsAt, modTs, vget_vmod, h]

theorem modTs_modTs (i : Nat) (f g : Turnstile → Turnstile) (d : Device) : modTs i f (modTs i g d) = modTs i (fun x => f (g x)) d := by
  simp [modTs, vmod_vmod]

@[simp] theorem healthAt_modHealth (i : Fin 64) (f : DevHealth → DevHealth) (d : Device) : healthAt (modHealth i f d) i = f (healthAt d i) := by
  simp [healthAt, modHealth, vget_vmod]

theorem healthAt_modHealth_ne (i j : Nat) (f : DevHealth → DevHealth) (d : Device) (h : i ≠ j) : healthAt (modHealth i f d) j = healthAt d j := by
  simp [healthAt, modHealth, vget_vmod, h]

theorem modHealth_modHealth (i : Nat) (f g : DevHealth → DevHealth) (d : Device) : modHealth i f (modHealth i g d) = modHealth i (fun x => f (g x)) d := by
  simp [modHealth, vmod_vmod]

@[simp] theorem chanAt_modChan (i : Fin 128) (f : Channel → Channel) (d : Device) : chanAt (modChan i f d) i = f (chanAt d i) := by
  simp [chanAt, modChan, vget_vmod]

theorem chanAt_modChan_ne (i j : Nat) (f : Channel → Channel) (d : Device) (h : i ≠ j) : chanAt (modChan i f d) j = chanAt d j := by
  simp [chanAt, modChan, vget_vmod, h]

theorem modChan_modChan (i : Nat) (f g : Channel → Channel) (d : Device) : modChan i f (modChan i g d) = modChan i (fun x => f (g x)) d := by
  simp [modChan, vmod_vmod]

@[simp] theorem i3cAt_modI3c (i : Fin 2) (f : I3cPort → I3cPort) (d : Device) : i3cAt (modI3c i f d) i = f (i3cAt d i) := by
  have := i.isLt
  simp only [i3cAt, modI3c, vget_vmod]
  simp_all

theorem i3cAt_modI3c_ne (i j : Nat) (f : I3cPort → I3cPort) (d : Device) (h : i ≠ j) : i3cAt (modI3c i f d) j = i3cAt d j := by
  simp [i3cAt, modI3c, vget_vmod, h]

theorem modI3c_modI3c (i : Nat) (f g : I3cPort → I3cPort) (d : Device) : modI3c i f (modI3c i g d) = modI3c i (fun x => f (g x)) d := by
  simp [modI3c, vmod_vmod]

@[simp] theorem slotAt_modSlot (i : Fin 4) (f : CardSlot → CardSlot) (d : Device) : slotAt (modSlot i f d) i = f (slotAt d i) := by
  simp [slotAt, modSlot, vget_vmod]

theorem slotAt_modSlot_ne (i j : Nat) (f : CardSlot → CardSlot) (d : Device) (h : i ≠ j) : slotAt (modSlot i f d) j = slotAt d j := by
  simp [slotAt, modSlot, vget_vmod, h]

theorem modSlot_modSlot (i : Nat) (f g : CardSlot → CardSlot) (d : Device) : modSlot i f (modSlot i g d) = modSlot i (fun x => f (g x)) d := by
  simp [modSlot, vmod_vmod]

@[simp] theorem ldOf_modLd (i : Fin 16) (f : LogicalDev → LogicalDev) (d : Device) : ldOf (modLd i f d) i = f (ldOf d i) := by
  simp [ldOf, modLd, vget_vmod]

theorem ldOf_modLd_ne (i j : Nat) (f : LogicalDev → LogicalDev) (d : Device) (h : i ≠ j) : ldOf (modLd i f d) j = ldOf d j := by
  simp [ldOf, modLd, vget_vmod, h]

theorem modLd_modLd (i : Nat) (f g : LogicalDev → LogicalDev) (d : Device) : modLd i f (modLd i g d) = modLd i (fun x => f (g x)) d := by
  simp [modLd, vmod_vmod]

/-! ### Records change nothing of the battery domain but the last-gasp ring -/

@[simp] theorem lastGaspBy_bat (code aid sev : Nat) (params : List Nat) (d : Device) :
    (lastGaspBy code aid sev params d).bat.roots = d.bat.roots ∧ (lastGaspBy code aid sev params d).bat.latch = d.bat.latch ∧
    (lastGaspBy code aid sev params d).bat.alarms = d.bat.alarms ∧ (lastGaspBy code aid sev params d).bat.mirror = d.bat.mirror ∧ (lastGaspBy code aid sev params d).bat.vbd = d.bat.vbd := by simp [lastGaspBy, ringWrite]

@[simp] theorem lastGasp_bat (code sev : Nat) (params : List Nat) (d : Device) :
    (lastGasp code sev params d).bat.roots = d.bat.roots ∧ (lastGasp code sev params d).bat.latch = d.bat.latch ∧
    (lastGasp code sev params d).bat.alarms = d.bat.alarms ∧ (lastGasp code sev params d).bat.mirror = d.bat.mirror ∧ (lastGasp code sev params d).bat.vbd = d.bat.vbd := by simp [lastGasp]

@[simp] theorem arriveEvent_bat (hart : Bool) (code aid sev : Nat) (params : List Nat) (d : Device) :
    (arriveEvent hart code aid sev params d).bat.roots = d.bat.roots ∧ (arriveEvent hart code aid sev params d).bat.latch = d.bat.latch ∧
    (arriveEvent hart code aid sev params d).bat.alarms = d.bat.alarms ∧ (arriveEvent hart code aid sev params d).bat.mirror = d.bat.mirror ∧ (arriveEvent hart code aid sev params d).bat.vbd = d.bat.vbd := by
  unfold arriveEvent; (repeat' split) <;> simp

@[simp] theorem event_bat (code sev : Nat) (ps : List Nat) (d : Device) :
    (event code sev ps d).bat.roots = d.bat.roots ∧ (event code sev ps d).bat.latch = d.bat.latch ∧
    (event code sev ps d).bat.alarms = d.bat.alarms ∧ (event code sev ps d).bat.mirror = d.bat.mirror ∧ (event code sev ps d).bat.vbd = d.bat.vbd := by simp [event]

@[simp] theorem eventsRaw_bat (l : List (Nat × Nat × List Nat)) (d : Device) :
    (eventsRaw l d).bat.roots = d.bat.roots ∧ (eventsRaw l d).bat.latch = d.bat.latch ∧
    (eventsRaw l d).bat.alarms = d.bat.alarms ∧ (eventsRaw l d).bat.mirror = d.bat.mirror ∧ (eventsRaw l d).bat.vbd = d.bat.vbd := by
  induction l generalizing d with
  | nil => simp [eventsRaw]
  | cons a l ih =>
    have h := ih (arriveEvent false a.1 0xFF a.2.1 a.2.2 d)
    simp only [arriveEvent_bat] at h
    exact h

end Sys2Proof.Machine
end

