-- ==== Sys2Proof/Certificates/Slice0/Obligations.lean ====
section
/-! DEFINITION. The statements about the block, for the provers: each clause gives the state a command answers, or what it
leaves as it was. Hypotheses of power, rights and wiring are the predicates of Sys2Proof/Safety.lean. -/

open Sys2Proof Sys2Proof.Machine

/-- A step takes the command at the front of the queue and is that command's effect on the state with the rest of the
queue; on an empty queue the block idles (the model's choice, notes/assumptions/1.md). -/
def Obligations.StepRunsTheFrontCommand : Prop :=
  (∀ (s : State) (c : Instr) (rest : List Instr),
    step { s with pending := c :: rest } = exec c { s with pending := rest }) ∧
  (∀ s : State, s.pending = [] → step s = .next s)

/-- The machine right after reset: no power, nothing in memory, no command waiting, PW_WDOG.TimeoutMs 0x3E8 (the reset
value of PW_WDOG), gates held, epoch and leaves empty, debug level 0, every channel empty. Where the spec leaves room,
its clauses follow the model's choices and readings (notes/assumptions/4.md, notes/assumptions/9.md). -/
def Obligations.ResetState : Prop :=
  State.reset.pending = [] ∧ State.reset.dev.mem = {} ∧ State.reset.dev.power.state = .standbyOff ∧
  State.reset.dev.power.wdog = 0x3E8 ∧ State.reset.dev.tx.fabricLive = false ∧ State.reset.dev.tx.state = .idle ∧
  State.reset.dev.is_.gates = 0 ∧ State.reset.dev.db.level = 0 ∧ State.reset.dev.bat.latch = 0 ∧
  (∀ c, (chanAt State.reset.dev c).full = false) ∧ State.reset.dev.kv.slots = []

/-- Memory is canonical at reset. -/
def Obligations.MemoryCanonicalAtReset : Prop :=
  MemInv State.reset

/-- Every step keeps memory canonical, from any state. -/
def Obligations.StepKeepsMemoryCanonical : Prop :=
  ∀ s t : State, MemInv s → step s = .next t → MemInv t

/-- OTP is one-time programmable: no step clears a burned bit, from any state. OTP words change only when a burn
completes, and by what a burn has done when VSTBY falls (R525): every other command keeps all of OTP. Where the spec
leaves room, its clauses follow the model's choices and readings (notes/assumptions/25.md). -/
def Obligations.OtpIsOneTimeProgrammable : Prop :=
  (∀ s t : State, step s = .next t → OtpKept s.dev t.dev) ∧
  (∀ (c : Instr) (s t : State), c ≠ .otpBurnDone → (∀ vbat, c ≠ .vstbyFall vbat) → exec c s = .next t → t.dev.lc.otp = s.dev.lc.otp)

/-- Every command is taken: it answers a next state whose queue is the queue it was given (no fault and no refusal),
and it is taken from the queue by one step. Where the spec leaves room, its clauses follow the model's choices and
readings (notes/assumptions/3.md, notes/assumptions/7.md, notes/assumptions/18.md). -/
def Obligations.EveryCommandIsTaken : Prop :=
  (∀ (s : State) (c : Instr), ∃ t, exec c s = .next t ∧ t.pending = s.pending) ∧
  (∀ (s : State) (c : Instr) (rest : List Instr), s.pending = c :: rest → ∃ t, step s = .next t ∧ t.pending = rest)

/-- Only the commands that `writesMemory` lists change memory: after any other command every byte reads as before. -/
def Obligations.OnlyListedCommandsChangeMemory : Prop :=
  ∀ (c : Instr) (s t : State), writesMemory c = false → exec c s = .next t →
    t.dev.mem = s.dev.mem ∧ ∀ a n, memRead t.dev.mem a n = memRead s.dev.mem a n

/-- Only the commands that `changesPolicy` lists change the policy in force (R22, R114): the committed epoch, its
leaves and whether the fabric is live are set by the end of a commit's drain or a restore, or go with the main core's
reset, and by nothing else. A core reset changes none of them (R27). Where the spec leaves room, its clauses follow
the model's choices and readings (notes/assumptions/80.md). -/
def Obligations.OnlyCouchesChangeThePolicy : Prop :=
  (∀ (c : Instr) (s t : State), changesPolicy c = false → exec c s = .next t →
    t.dev.tx.epoch = s.dev.tx.epoch ∧ t.dev.tx.leafEven = s.dev.tx.leafEven ∧ t.dev.tx.leafOdd = s.dev.tx.leafOdd ∧
    t.dev.tx.fabricLive = s.dev.tx.fabricLive) ∧
  (∀ h : Hart, changesPolicy (.coreReset h) = false) ∧ changesPolicy .watchdogExpiry = false

/-- Supplies (R57–R65). VSTBY_POWER_ON puts the device into Standby with the pins as given, OTP and non-volatile
memory kept and volatile memory gone; VSTBY_FALL takes it down, and the battery domain with it where VBAT is absent;
MAIN_RAIL_LOSS and MAIN_PG_DEASSERT bring the main core down with their cause. MAIN is released when power-good and a
stable crystal meet (R60, R61, R553): the ROM phase, one power cycle more. A brown-out below 680 mV restarts the main
core at once with cause 3 or 7 (R59, R560). Supply and board inputs that only a status bit shows, with everything else
unchanged: VbatOk (R65), HOLDUP_OK (R66), VcoreLow with the lowest VCORE of the excursion (R59), whose end records
event 0x0242. Where the spec leaves room, its clauses follow the model's choices and readings (notes/assumptions/3.md,
notes/assumptions/5.md, notes/assumptions/31.md, notes/assumptions/91.md, notes/assumptions/123.md,
notes/assumptions/126.md, notes/assumptions/127.md). -/
def Obligations.SuppliesAndMainRelease : Prop :=
  (∀ (s : State) (vbat strap : Bool), s.dev.pins.vstby = false → s.dev.pins.mainPg = false →
    ∃ t, exec (.vstbyPowerOn vbat strap) s = .next t ∧ t.pending = s.pending ∧
      t.dev.pins.vstby = true ∧ t.dev.pins.vbatOk = vbat ∧ t.dev.pins.strapGolden = strap ∧
      t.dev.power.state = .standby ∧ t.dev.guard = {} ∧ t.dev.lastF2 = {} ∧ t.dev.mb = {} ∧
      t.dev.lc.otp = s.dev.lc.otp ∧
      t.dev.mem = memLose false s.dev.mem) ∧
  (∀ (s : State) (vbat : Bool), s.dev.pins.vstby = true →
    ∃ t, exec (.vstbyFall vbat) s = .next t ∧ t.dev.power.state = .standbyOff ∧ t.dev.power.mainCause = 1 ∧
      t.dev.tx = {} ∧ t.dev.gf = {} ∧ t.dev.db = {} ∧ t.dev.cx = {} ∧ (vbat = false → t.dev.bat = {})) ∧
  (∀ s : State, railsUsed s.dev = true →
    ∃ t, exec .mainPgDeassert s = .next t ∧ t.dev.power.state = .standby ∧ t.dev.power.mainCause = 2 ∧
      t.dev.power.resetKind = 1 ∧ t.dev.tx = {} ∧ t.dev.is_ = {} ∧ t.dev.gf = {} ∧ t.dev.kv = {}) ∧
  (∀ (s : State) (mv ticks : Nat), railsUsed s.dev = true →
    ∃ t, exec (.mainRailLoss mv ticks) s = .next t ∧ t.dev.power.state = .standby ∧
      t.dev.power.mainCause = (if asleep s.dev || s.dev.power.state == .entering then 7 else 3) ∧
      t.dev.tx = {} ∧ t.dev.is_ = {} ∧ t.dev.gf = {} ∧ t.dev.kv = {}) ∧
  (∀ s : State, s.dev.power.state = .standby → s.dev.pins.mainPg = false → s.dev.pins.xtalOk = true → s.dev.power.resetKind ≠ 3 →
    ∃ t, exec .mainPgAssert s = .next t ∧ t.dev.pins.mainPg = true ∧ t.dev.power.state = .run ∧ t.dev.start.phase = .rom ∧
      t.dev.clock.powerCycles = satAdd 20 s.dev.clock.powerCycles 1 ∧ t.dev.mem = s.dev.mem) ∧
  (∀ s : State, s.dev.power.state = .standby → s.dev.pins.mainPg = false → s.dev.pins.xtalOk = false →
    ∃ t, exec .mainPgAssert s = .next t ∧ t.dev.power.state = .starting ∧ t.dev.start = s.dev.start) ∧
  (∀ s : State, s.dev.power.state = .standby → s.dev.pins.mainPg = true → s.dev.pins.xtalOk = true →
    ∃ t, exec .mainRailsUp s = .next t ∧ t.dev.pins.mainRails = true ∧ t.dev.power.state = .run ∧ t.dev.start.phase = .rom) ∧
  (∀ s : State, s.dev.pins.vstby = true → s.dev.power.state = .starting → s.dev.power.resetKind ≠ 3 →
    ∃ t, exec .xtalStable s = .next t ∧ t.dev.pins.xtalOk = true ∧ t.dev.power.state = .run ∧ t.dev.start.phase = .rom ∧
      t.dev.clock.powerCycles = satAdd 20 s.dev.clock.powerCycles 1) ∧
  (∀ s : State, s.dev.pins.vstby = true → s.dev.power.state ≠ .starting →
    exec .xtalStable s = .next { s with dev.pins.xtalOk := true, dev.bat.xtalSeen := true }) ∧
  (∀ (s : State) (mv ticks : Nat), railsUsed s.dev = true → mv < 680 → s.dev.pins.xtalOk = true →
    ∃ t, exec (.vcoreBrownOut mv ticks) s = .next t ∧ t.dev.power.state = .run ∧ t.dev.start.phase = .rom ∧
      t.dev.power.mainCause = (if asleep s.dev || s.dev.power.state == .entering then 7 else 3)) ∧
  (∀ (s : State) (ok : Bool), exec (.vbatLevelChange ok) s = .next { s with dev.pins.vbatOk := ok }) ∧
  (∀ (s : State) (ok : Bool), exec (.holdupOkChange ok) s = .next { s with dev.pins.holdupOk := ok }) ∧
  (∀ (s : State) (mv : Nat), mainUp s.dev = true → 680 ≤ mv → mv ≤ 719 →
    exec (.vcoreLowExcursion mv) s = .next { s with
      dev.junction.vcoreLow := true, dev.junction.lowMv := some (min mv (s.dev.junction.lowMv.getD mv)) }) ∧
  (∀ (s : State) (mv ticks : Nat), s.dev.junction.lowMv = some mv →
    exec (.vcoreExcursionEnd ticks) s =
      .next { s with dev := event 0x0242 3 [mv, ticks, 0, 0] { s.dev with junction.lowMv := none } })

/-- The RECOVER# filter (R68, R69): a press is noted as one that began under stage firmware while stage 1 is attached
in Run; its end records event 0x0120 with the press length; RecoverSettled is set. -/
def Obligations.RecoverInput : Prop :=
  (∀ s : State, s.dev.pins.vstby = true → s.dev.pins.recoverFilt = false → s.dev.power.state = .run → s.dev.power.resetKind ≠ 3 →
    exec .recoverFilterAssert s =
      .next { s with dev.pins.recoverFilt := true, dev.pins.pressUnderStage := attached s.dev }) ∧
  (∀ (s : State) (ticks : Nat), s.dev.pins.recoverFilt = true → s.dev.pins.pressUnderStage = true →
    exec (.recoverFilterDeassert ticks) s = .next { s with
      dev := event 0x0120 2 [ticks, 0, 0, 0] { s.dev with pins.recoverFilt := false, pins.pressUnderStage := false } }) ∧
  (∀ (s : State) (ticks : Nat), s.dev.pins.recoverFilt = true → s.dev.pins.pressUnderStage = false →
    exec (.recoverFilterDeassert ticks) s = .next { s with dev.pins.recoverFilt := false, dev.pins.pressUnderStage := false }) ∧
  (∀ s : State, s.dev.pins.vstby = true → s.dev.start.phase ≠ .rom →
    exec .recoverSettled s = .next { s with dev.pins.recoverSettled := true })

/-- The junction (R85): at 100 °C Warn is set and event 0x0240 is recorded once per excursion; a trip held at 112 °C
enters the F2 safe state with kind 4 of block 0; below 100 °C the excursion is over. GPIO inputs and CX_PERST# (R133,
R431, R432): the level is followed; a GPIO without function 1 does nothing more; one with it records a change while
the main core is up, and is a wake source where PW_WAKE_GPIO selects it; with the main core running, the end of
CX_PERST# starts link training. The tick of 1/1,024 s (R414) advances the operating time and the BBRAM mirror while
MAIN_PG is asserted, and stands still otherwise; with the main core up its blocks and its firmware go on, and where
firmware has nothing to go on with, nothing else changes. Where the spec leaves room, its clauses follow the model's
choices and readings (notes/assumptions/3.md, notes/assumptions/27.md, notes/assumptions/28.md,
notes/assumptions/127.md). -/
def Obligations.JunctionPinsAndTime : Prop :=
  (∀ (s : State) (temp : Nat), mainUp s.dev = true → 100 ≤ temp → s.dev.junction.hot = true →
    exec (.junctionWarning temp) s = .next { s with dev.junction := { s.dev.junction with
      tempNow := min temp 255, tempPeak := max s.dev.junction.tempPeak (min temp 255), hot := true, warn := true } }) ∧
  (∀ (s : State) (temp : Nat), mainUp s.dev = true → 100 ≤ temp → s.dev.junction.hot = false →
    exec (.junctionWarning temp) s = .next { s with dev := (event 0x0240 3 [temp, 0, 0, 0] { s.dev with junction := { s.dev.junction with
      tempNow := min temp 255, tempPeak := max s.dev.junction.tempPeak (min temp 255), hot := true, warn := true } }) }) ∧
  (∀ (s : State) (temp : Nat), mainUp s.dev = true → s.dev.power.state ≠ .safe → 112 ≤ temp →
    ∃ t, exec (.junctionTrip temp) s = .next t ∧ t.dev.power.state = .safe ∧ t.dev.lastF2.kind = 4 ∧
      t.dev.lastF2.block = 0 ∧ t.dev.lastF2.hardware = false ∧ t.dev.cx.linkUp = false ∧ t.dev.mem = s.dev.mem) ∧
  (∀ (s : State) (temp : Nat), mainUp s.dev = true → temp < 100 →
    exec (.junctionExcursionEnd temp) s = .next { s with dev.junction := { s.dev.junction with
      tempNow := min temp 255, tempPeak := max s.dev.junction.tempPeak (min temp 255), hot := false } }) ∧
  (∀ (s : State) (g : Gpio) (level : Bool), s.dev.pins.gpioIn[g] = level → exec (.gpioInputChange g level) s = .next s) ∧
  (∀ (s : State) (g : Gpio) (level : Bool), s.dev.pins.gpioIn[g] ≠ level → islandUp s.dev = false ∨ gpioFunction s.dev g ≠ 1 →
    exec (.gpioInputChange g level) s = .next { s with dev.pins.gpioIn := s.dev.pins.gpioIn.set g level }) ∧
  (∀ (s : State) (g : Gpio) (level : Bool), s.dev.pins.gpioIn[g] ≠ level → mainUp s.dev = true → gpioFunction s.dev g = 1 →
    bit s.dev.power.wakeGpio g = false → exec (.gpioInputChange g level) s =
      .next { s with dev := gpioEvent { s.dev with pins := { s.dev.pins with gpioIn := s.dev.pins.gpioIn.set g level } } }) ∧
  (∀ (s : State) (g : Gpio) (level : Bool), s.dev.pins.gpioIn[g] ≠ level → mainUp s.dev = true → gpioFunction s.dev g = 1 →
    bit s.dev.power.wakeGpio g = true → exec (.gpioInputChange g level) s = .next { s with dev := (wakeSource 2 (sleptTicks s.dev)
      (gpioEvent { s.dev with pins := { s.dev.pins with gpioIn := s.dev.pins.gpioIn.set g level } })) }) ∧
  (∀ (s : State) (g : Gpio) (level : Bool), s.dev.pins.gpioIn[g] ≠ level → islandUp s.dev = true → mainUp s.dev = false →
    gpioFunction s.dev g = 1 → exec (.gpioInputChange g level) s = .next { s with dev :=
      (if bit s.dev.power.wakeGpio g then wakeSource 2 (sleptTicks s.dev) { s.dev with pins := { s.dev.pins with gpioIn := s.dev.pins.gpioIn.set g level } }
      else { s.dev with pins := { s.dev.pins with gpioIn := s.dev.pins.gpioIn.set g level } }) }) ∧
  (∀ s : State, s.dev.pins.cxPerst = true → s.dev.power.state = .run → s.dev.power.resetKind ≠ 3 → s.dev.cx.restarting = false →
    exec .cxPerstDeassert s = .next { s with dev.pins.cxPerst := false, dev.cx.training := true }) ∧
  (∀ d : Device, (timeTick d).clock.opTime = (d.clock.opTime + 1) % 2 ^ 44 ∧ (timeTick d).clock.powerCycles = d.clock.powerCycles ∧
    (timeTick d).bat.mirror = d.clock.powerCycles * 2 ^ 44 + (d.clock.opTime + 1) % 2 ^ 44 ∧ (timeTick d).mem = d.mem ∧
    (timeTick d).tx = d.tx ∧ (timeTick d).is_ = d.is_ ∧ (timeTick d).kv = d.kv ∧ (timeTick d).pins = d.pins) ∧
  (∀ s : State, s.dev.pins.vstby = true → s.dev.pins.mainPg = true → mainUp s.dev = false →
    exec .operatingTimeTick s = .next { s with dev := timeTick s.dev }) ∧
  (∀ s : State, s.dev.pins.vstby = true → s.dev.pins.mainPg = true → mainUp s.dev = true →
    exec .operatingTimeTick s = .next { s with dev := firmwareTurn (mainTick (timeTick s.dev)) }) ∧
  (∀ s : State, s.dev.pins.vstby = true → s.dev.pins.mainPg = true → FirmwareQuiet s.dev →
    ∃ t, exec .operatingTimeTick s = .next t ∧ t.dev.clock.opTime = (s.dev.clock.opTime + 1) % 2 ^ 44 ∧
      t.dev.clock.powerCycles = s.dev.clock.powerCycles ∧
      t.dev.bat.mirror = s.dev.clock.powerCycles * 2 ^ 44 + (s.dev.clock.opTime + 1) % 2 ^ 44 ∧ t.dev.mem = s.dev.mem ∧
      t.dev.tx = s.dev.tx ∧ t.dev.is_ = s.dev.is_ ∧ t.dev.kv = s.dev.kv ∧ t.dev.pins = s.dev.pins) ∧
  (∀ s : State, s.dev.pins.mainPg = false → exec .operatingTimeTick s = .next s)

/-- Resets of the harts and of MAIN (R564–R567): CoreReset by hart 0 and a watchdog expiry run the core reset with
causes 1 and 2; a kick of 0x5A restarts the counter; a write of PW_SLEEP_CTRL without its key does nothing, with
MainReset it is a MAIN reset of cause 8. Where the spec leaves room, its clauses follow the model's choices and
readings (notes/assumptions/11.md, notes/assumptions/12.md, notes/assumptions/91.md, notes/assumptions/126.md,
notes/assumptions/127.md, notes/assumptions/128.md). -/
def Obligations.CoreAndMainResets : Prop :=
  (∀ s : State, MayWrite s.dev 0 0 → exec (.coreReset 0) s = .next { s with dev := coreReset 1 s.dev }) ∧
  (∀ s : State, mainRuns s.dev = true → wdogExpired s.dev = true →
    exec .watchdogExpiry s = .next { s with dev := coreReset 2 s.dev }) ∧
  (∀ (d : Device) (cause : Nat), (coreReset cause d).lc.otp = d.lc.otp ∧ (coreReset cause d).tx.epoch = d.tx.epoch ∧
    (coreReset cause d).tx.leafEven = d.tx.leafEven ∧ (coreReset cause d).tx.leafOdd = d.tx.leafOdd ∧ (coreReset cause d).tx.fabricLive = d.tx.fabricLive ∧
    (MemInv { dev := d, pending := [] } → MemInv { dev := coreReset cause d, pending := [] })) ∧
  (∀ d : Device, (coreRegisters d).start = { phase := .rom, resetKind := 2 } ∧ (coreRegisters d).cdWin = {} ∧
    (coreRegisters d).lg.ackNum = 0 ∧ (coreRegisters d).mb.chans = d.mb.chans ∧ (coreRegisters d).gf = d.gf ∧
    (coreRegisters d).tx.leafEven = d.tx.leafEven ∧ (coreRegisters d).tx.leafOdd = d.tx.leafOdd) ∧
  (∀ (s : State) (v : Word), MayWrite s.dev 0 1 → field v 0 8 = 0x5A →
    exec (.watchdogKick 0 v) s = .next { s with dev.power.wdogCount := 0 }) ∧
  (∀ (s : State) (v : Word), MayWrite s.dev 0 1 → field v 0 8 ≠ 0x5A → exec (.watchdogKick 0 v) s = .next s) ∧
  (∀ (s : State) (h : Hart) (v : Word), MayWrite s.dev h 1 → h ≠ 0 → exec (.watchdogKick h v) s = .next s) ∧
  (∀ (s : State) (v : Word), MayWrite s.dev 0 1 → field v 8 8 ≠ 0xD5 → exec (.mainResetRequest 0 v) s = .next s) ∧
  (∀ (s : State) (v : Word), MayWrite s.dev 0 1 → field v 8 8 = 0xD5 → bit v 1 = true →
    exec (.mainResetRequest 0 v) s = .next { s with dev := mainReset 8 s.dev }) ∧
  (∀ d : Device, d.pins.xtalOk = true →
    (mainReset 8 d).power.mainCause = 8 ∧ (mainReset 8 d).power.state = .run ∧
    (mainReset 8 d).start.phase = .rom ∧ (mainReset 8 d).tx = {} ∧ (mainReset 8 d).gf = {} ∧
    (mainReset 8 d).dg = {} ∧ (mainReset 8 d).lc.otp = d.lc.otp)

/-- Deep Sleep (R554–R559): an entry that a condition of R554 stops leaves its number in PW_SLEEP_STAT and records
event 0x0203; with none, entry begins; its completion sleeps and notes the operating time; the timer or an enabled
source wakes the device with cause 9. Where the spec leaves room, its clauses follow the model's choices and readings
(notes/assumptions/24.md, notes/assumptions/32.md, notes/assumptions/34.md). -/
def Obligations.DeepSleep : Prop :=
  (∀ (s : State) (v : Word), MayWrite s.dev 0 1 → field v 8 8 = 0xD5 → bit v 1 = false → bit v 0 = true → sleepRefusal s.dev ≠ 0 →
    exec (.deepSleepEnter 0 v) s = .next { s with
      dev := hartEvent 0 0x0203 2 [sleepRefusal s.dev, 0, 0, 0] { s.dev with power.refused := sleepRefusal s.dev } }) ∧
  (∀ (s : State) (v : Word), MayWrite s.dev 0 1 → field v 8 8 = 0xD5 → bit v 1 = false → bit v 0 = true → sleepRefusal s.dev = 0 →
    ∃ t, exec (.deepSleepEnter 0 v) s = .next t ∧ t.dev.power.state = .entering ∧ t.dev.power.refused = 0 ∧
      t.dev.power.wdogRunning = false ∧ t.dev.power.latched = none ∧ t.dev.mem = s.dev.mem) ∧
  (∀ s : State, s.dev.power.state = .entering → s.dev.power.latched = none →
    ∃ t, exec .deepSleepEntryComplete s = .next t ∧ t.dev.power.state = .deepSleep ∧
      t.dev.power.sleepStart = s.dev.clock.opTime ∧ t.dev.start = {} ∧ t.dev.lc.otp = s.dev.lc.otp) ∧
  (∀ (s : State) (source ticks : Nat), asleep s.dev = true → 1 ≤ source → source ≤ 5 → wakeEnabled s.dev source = true →
    ∃ t, exec (.wakeEvent source ticks) s = .next t ∧ t.dev.power.state = .run ∧ t.dev.power.mainCause = 9 ∧
      t.dev.power.resetKind = 3 ∧ t.dev.power.lastWake = source ∧ t.dev.power.sleepLen = ticks ∧ t.dev.start.phase = .rom ∧
      t.dev.clock = s.dev.clock ∧ t.dev.mem = memLose true s.dev.mem) ∧
  (∀ (s : State) (ticks : Nat), asleep s.dev = true → wakeEnabled s.dev 6 = true →
    ∃ t, exec (.wakeTimerExpiry ticks) s = .next t ∧ t.dev.power.state = .run ∧ t.dev.power.mainCause = 9 ∧
      t.dev.power.lastWake = 6 ∧ t.dev.power.sleepLen = ticks)

/-- The start (R323, R342, R352, R359, R365): with main power up and no LoadDone, KEY_VAULT_LOAD_DONE sets LoadDone
and EntropyOk, and before RecoverSettled leaves the start as it is; the harts are released, made ready and handed over
by SYS_BOOT_CTRL; Lock is set once; the clean mark and RootLock are set by their writes; a mould left in Done or
Aborted is released as stage firmware attaches (R585). Where the spec leaves room, its clauses follow the model's
choices and readings (notes/assumptions/50.md, notes/assumptions/61.md, notes/assumptions/62.md,
notes/assumptions/101.md, notes/assumptions/111.md, notes/assumptions/112.md, notes/assumptions/113.md,
notes/assumptions/122.md, notes/assumptions/128.md). -/
def Obligations.StartAndHandover : Prop :=
  (∀ s : State, s.dev.power.state = .run → s.dev.kv.loadDone = false → s.dev.pins.recoverSettled = false →
    ∃ t, exec .keyVaultLoadDone s = .next t ∧ t.dev.kv.loadDone = true ∧ t.dev.kv.entropyOk = true ∧ t.dev.mem = s.dev.mem ∧
      t.dev.start = s.dev.start ∧ t.dev.lc = s.dev.lc ∧ t.dev.tx = s.dev.tx) ∧
  (∀ s : State, MayWrite s.dev 0 0 → s.dev.start.phase = .loaded → s.dev.start.released = false →
    ∃ t, exec (.releaseHarts 0) s = .next t ∧ t.dev.start.released = true ∧ t.dev.tx.epoch = s.dev.tx.epoch) ∧
  (∀ (s : State) (h : Hart), MayWrite s.dev h 0 →
    exec (.hartReady h) s = .next { s with dev.start.hartReady := setBit s.dev.start.hartReady h }) ∧
  (∀ (s : State) (h : Hart), MayWrite s.dev h 0 → s.dev.start.lock = false →
    ∃ t, exec (.deckleLock h) s = .next t ∧ t.dev.start.lock = true ∧ t.dev.mem = s.dev.mem) ∧
  (∀ (s : State) (h : Hart), MayWrite s.dev h 0 → s.dev.start.lock = true → exec (.deckleLock h) s = .next s) ∧
  (∀ s : State, MayWrite s.dev 0 0 → s.dev.start.phase = .loaded → s.dev.start.hartReady = 0xF → s.dev.start.lock = true →
    ∃ t, exec (.handover 0) s = .next t ∧ t.dev.mem = s.dev.mem ∧ t.dev.lc.otp = s.dev.lc.otp ∧
      t.dev = drainPackets 1 (drainPackets 0 (extendOwed (answerHeldSpdm (answerHeld (restoreRungs (ensureChain (attestStart (deriveAlias
        (adoptCouch (firmwareEvents (powerEvents { s.dev with
          start := { s.dev.start with phase := .stage1 }
          power := { s.dev.power with wdogRunning := bit s.dev.power.wdog 16, wdogCount := 0, wdogFired := false } })))))))))))) ∧
  (∀ s : State, MayWrite s.dev 0 0 → s.dev.start.hartReady ≠ 0xF → exec (.handover 0) s = .next s) ∧
  (∀ s : State, MayWrite s.dev 0 0 → s.dev.start.lock = false → exec (.markClean 0) s = .next { s with dev.measures.slotClean := true }) ∧
  (∀ (s : State) (h : Hart), MayWrite s.dev h 3 → exec (.rootLockSet h) s = .next { s with dev.kv.rootLock := true }) ∧
  (∀ d : Device, MayWrite d 0 8 → d.tx.state = .done ∨ d.tx.state = .aborted →
    (adoptCouch d).tx.state = .idle ∧ (adoptCouch d).tx.owner = 0xFF ∧ (adoptCouch d).tx.actions = [] ∧
      (adoptCouch d).tx.epoch = d.tx.epoch ∧ (adoptCouch d).mem = d.mem) ∧
  (∀ d : Device, d.tx.state ≠ .done → d.tx.state ≠ .aborted → adoptCouch d = d)

/-- Firmware slots and watermarks (R361, R365, R372): SYS_FW_DATA takes a word into the open, writable slot, 64 bits
at a time, at the byte address of SYS_FW_PTR, and clears SlotClean; without such a slot the store faults. An extend is
SHAKE256 of the watermark and the hart's 64 bytes, for a hart whose mask has it, and a fault otherwise. Where the spec
leaves room, its clauses follow the model's choices and readings (notes/assumptions/61.md). -/
def Obligations.FirmwareWriteAndWatermarks : Prop :=
  (∀ (s : State) (h : Hart) (v : Word), MayWrite s.dev h 0 → slotWritable s.dev.start = true → s.dev.start.fwPtr % 8 = 0 →
    exec (.fwDataWrite h v) s = .next { s with
      dev.start.fwLow := v, dev.start.fwPtr := (s.dev.start.fwPtr + 4) % 0x400000, dev.measures.slotClean := false }) ∧
  (∀ (s : State) (h : Hart) (v : Word), MayWrite s.dev h 0 → slotWritable s.dev.start = true → s.dev.start.fwPtr % 8 = 4 →
    ∃ t, exec (.fwDataWrite h v) s = .next t ∧
      t.dev.mem = memWrite s.dev.mem (fwBase (flag s.dev.start.target) + s.dev.start.fwPtr - 4)
        (leBytes 4 s.dev.start.fwLow.toNat ++ leBytes 4 v.toNat) ∧
      t.dev.measures.slotClean = false ∧ t.dev.start.fwPtr = (s.dev.start.fwPtr + 4) % 0x400000 ∧ t.dev.tx = s.dev.tx ∧ t.dev.gf = s.dev.gf) ∧
  (∀ (s : State) (h : Hart) (v : Word), MayWrite s.dev h 0 → slotWritable s.dev.start = false →
    exec (.fwDataWrite h v) s = .next { s with dev := accessFault h 0x60000338 s.dev }) ∧
  (∀ (s : State) (h : Hart) (n : Wmk), MayWrite s.dev h 0 → hasBit s.dev.start.wmkMask[h] n = true →
    exec (.watermarkExtend h n) s = .next { s with 
      dev.measures.wmk := (vmod s.dev.measures.wmk n (fun w => shake256 (w ++ padTo 64 s.dev.start.wmkIn[h]) 64)) }) ∧
  (∀ (s : State) (h : Hart) (n : Wmk), MayWrite s.dev h 0 → hasBit s.dev.start.wmkMask[h] n = false →
    exec (.watermarkExtend h n) s = .next { s with dev := accessFault h 0x60000400 s.dev })

/-- The deckle (R359): a write of a control block that the hart's deckle excludes has no effect but the hart's access
fault; without main power it has none; one that the hart may make has the register's effect. Where the spec leaves
room, its clauses follow the model's choices and readings (notes/assumptions/7.md, notes/assumptions/18.md). -/
def Obligations.DeckleGuardsEveryBlock : Prop :=
  (∀ (d : Device) (h : Hart) (block addr : Nat) (f : Device → Device),
    mainRuns d = true → hartStalled d h = false → deckleAllows d h block = false → hartWrite h block addr f d = accessFault h addr d) ∧
  (∀ (d : Device) (h : Hart) (block addr : Nat) (f : Device → Device), mainRuns d = false → hartWrite h block addr f d = d) ∧
  (∀ (d : Device) (h : Hart) (block addr : Nat) (f : Device → Device), MayWrite d h block → hartWrite h block addr f d = f d) ∧
  (∀ (d : Device) (h : Hart) (addr : Nat), (accessFault h addr d).ec.faults[h] = d.ec.faults[h] + 1 ∧
    (accessFault h addr d).ec.lastFault[h] = BitVec.ofNat 32 addr ∧ (accessFault h addr d).mem = d.mem ∧
    (accessFault h addr d).tx = d.tx ∧ (accessFault h addr d).gf = d.gf ∧ (accessFault h addr d).is_ = d.is_ ∧
    (accessFault h addr d).kv = d.kv ∧ (accessFault h addr d).start = d.start)

/-- Opening and filling a mould (R144, R145, R153): Open takes the idle mould for the hart with the requester and
records event 0x0901; Append copies TX_ACT0–7 into it, or starts the content checks of an SI_LOAD, whose pass appends
the action and locks SI Pending and whose failure leaves the mould as it was; Check starts the checking. Where the
spec leaves room, its clauses follow the model's choices and readings (notes/assumptions/3.md,
notes/assumptions/82.md). -/
def Obligations.MouldOpenAppendCheck : Prop :=
  (∀ (s : State) (h : Hart) (requester : Nat), MayWrite s.dev h 8 → s.dev.tx.state = .idle → mayOpen s.dev (requester % 256) = true →
    exec (.couchOpen h requester) s = .next { s with dev := couchResult h 1 0 (couchEvent 0x0901 1 [0x10 + h.val, 0, 0, 0] { s.dev with tx := { s.dev.tx with state := .opened, owner := 0x10 + h.val, requester := requester % 256, actions := [], abortReason := 0, stateAtAbort := 0 } }) }) ∧
  (∀ (s : State) (h : Hart), MayWrite s.dev h 8 → appendOutcome h s.dev = 0 → actType (actDesc s.dev.tx) ≠ 1 →
    exec (.couchAppend h) s = .next { s with dev := couchResult h 2 0 { s.dev with tx := { s.dev.tx with actions := s.dev.tx.actions ++ [actDesc s.dev.tx], state := .staging } } }) ∧
  (∀ (s : State) (h : Hart), MayWrite s.dev h 8 → appendOutcome h s.dev = 0 → actType (actDesc s.dev.tx) = 1 →
    exec (.couchAppend h) s = .next { s with dev := couchResult h 2 0 { s.dev with tx := { s.dev.tx with siChecking := some (actDesc s.dev.tx) } } }) ∧
  (∀ (s : State) (a : List Byte), mainRuns s.dev = true → s.dev.tx.siChecking = some a →
    s.dev.tx.state = .opened ∨ s.dev.tx.state = .staging ∨ s.dev.tx.state = .ready →
    ∃ t, exec .siContentCheckDone s = .next t ∧ t.dev.mem = s.dev.mem ∧ t.dev.gf = s.dev.gf ∧ t.dev.tx =
      (match pendingCheck s.dev (bufLe a 4 4) with
      | none => { s.dev.tx with
          siChecking := none, checkCode := 0, checkWhere := 0, checkPhase := 1, actions := s.dev.tx.actions ++ [a], state := .staging,
          sipLocked := true, pendDigest := regionDigest s.dev siPendingBase }
      | some (c, w) => { s.dev.tx with siChecking := none, checkCode := c, checkWhere := w, checkPhase := 1 })) ∧
  (∀ (s : State) (h : Hart), MayWrite s.dev h 8 → couchOwner h s.dev = true → s.dev.tx.state = .staging → s.dev.tx.siChecking = none →
    exec (.couchCheck h) s = .next { s with dev := couchResult h 3 0 { s.dev with tx := { s.dev.tx with state := .checking } } })

/-- The end of a check, commit and drain (R154–R157): Ready, or Aborted with reason 2, or, once the check's result is
recorded, the Abort that was taken while checking ran; Commit by hart 0 arms the fences and checks again; a drain
limit that expires aborts with reason 4; the copy of SI Pending to SI Active ends with SI Pending locked only while
the mould holds an SI_LOAD. Where the spec leaves room, its clauses follow the model's choices and readings
(notes/assumptions/3.md, notes/assumptions/82.md, notes/assumptions/96.md). -/
def Obligations.MouldCheckCommitDrain : Prop :=
  (∀ (s : State) (r : Nat), mainRuns s.dev = true → s.dev.tx.state = .checking → s.dev.tx.pendingAbort = some r →
    exec .couchCheckDone s = .next { s with dev := abortMould r (checkEnded 2 (couchCheck s.dev) s.dev) }) ∧
  (∀ s : State, mainRuns s.dev = true → s.dev.tx.state = .checking → s.dev.tx.pendingAbort = none → couchCheck s.dev = none →
    ∃ t, exec .couchCheckDone s = .next t ∧ t.dev.tx.state = .ready ∧ t.dev.tx.epoch = s.dev.tx.epoch ∧ t.dev.lc.otp = s.dev.lc.otp) ∧
  (∀ (s : State) (c w : Nat), mainRuns s.dev = true → s.dev.tx.state = .checking → s.dev.tx.pendingAbort = none →
    couchCheck s.dev = some (c, w) → s.dev.tx.fenceArmed = false →
    ∃ t, exec .couchCheckDone s = .next t ∧ t.dev.tx.state = .aborted ∧ t.dev.tx.abortReason = 2 ∧ t.dev.tx.checkCode = c ∧
      t.dev.tx.checkWhere = w ∧ t.dev.tx.checkPhase = 2 ∧ t.dev.tx.epoch = s.dev.tx.epoch ∧ t.dev.mem = s.dev.mem) ∧
  (∀ s : State, MayWrite s.dev 0 8 → s.dev.tx.state = .ready → s.dev.tx.siChecking = none →
    couchCheck { s.dev with tx := { s.dev.tx with state := .committing, fenceArmed := s.dev.tx.fabricLive } } = none →
    exec (.couchCommit 0) s = .next { s with dev := (couchResult 0 4 0 (sessionCommits { s.dev with tx := { s.dev.tx with
      state := .committing, fenceArmed := s.dev.tx.fabricLive, checkCode := 0, checkWhere := 0, checkPhase := 3 } })) }) ∧
  (∀ (s : State) (h : Hart), MayWrite s.dev h 8 → h ≠ 0 → exec (.couchCommit h) s = .next { s with dev := couchResult h 4 4 s.dev }) ∧
  (∀ s : State, mainRuns s.dev = true → s.dev.tx.state = .committing → s.dev.tx.fabricLive = true → oldTagOps s.dev = 0 →
    siLoading s.dev = false → exec .couchDrainDone s = .next { s with dev := siLoadEnd (commitMould s.dev) }) ∧
  (∀ s : State, mainRuns s.dev = true → s.dev.tx.state = .committing → s.dev.tx.fabricLive = true → oldTagOps s.dev ≠ 0 →
    exec .couchDrainDone s = .next s) ∧
  (∀ s : State, mainRuns s.dev = true → s.dev.tx.state = .committing →
    exec .couchDrainLimitExpiry s = .next { s with dev := siLoadEnd (abortMould 4 s.dev) }) ∧
  (∀ s : State, mainRuns s.dev = true → s.dev.tx.siCopyBusy = true →
    exec .siCopyDone s = .next { s with dev := ({ s.dev with
      mem := memCopy s.dev.mem siPendingBase siActiveBase (siLen s.dev siPendingBase), bat := { s.dev.bat with untouched := 0 },
      tx := { s.dev.tx with siCopyBusy := false, sipLocked := s.dev.tx.sipLocked && hasSiLoad s.dev.tx } }) })

/-- Abort, Release, Restore, undefined codes and SI Pending (R144, R153, R158, R164): an Abort waits for a running
check; a Release empties a Done or Aborted mould and keeps SI Pending locked while it is copied; Restore by hart 0 on
an idle mould runs the initial couch; TX_SIP_DATA writes SI Pending 64 bits at a time at TX_SIP_PTR, and faults while
it is locked. Where the spec leaves room, its clauses follow the model's choices and readings
(notes/assumptions/82.md, notes/assumptions/93.md, notes/assumptions/105.md). -/
def Obligations.MouldAbortReleaseRestore : Prop :=
  (∀ (s : State) (h : Hart), MayWrite s.dev h 8 → ownerOrHart0 h s.dev = true → s.dev.tx.state = .checking →
    exec (.couchAbort h) s = .next { s with dev := couchResult h 5 0 { s.dev with tx := { s.dev.tx with pendingAbort := some 1 } } }) ∧
  (∀ (s : State) (h : Hart), MayWrite s.dev h 8 → ownerOrHart0 h s.dev = true → s.dev.tx.state = .staging →
    exec (.couchAbort h) s = .next { s with dev := couchResult h 5 0 (abortMould 1 s.dev) }) ∧
  (∀ (d : Device) (reason : Nat), d.tx.fenceArmed = false →
    (abortMould reason d).tx = { d.tx with
      state := .aborted, abortReason := reason, stateAtAbort := d.tx.state.ctorIdx, pendingAbort := none, siChecking := none, fenceArmed := false }) ∧
  (∀ (s : State) (h : Hart), MayWrite s.dev h 8 → ownerOrHart0 h s.dev = true → s.dev.tx.state = .done ∨ s.dev.tx.state = .aborted →
    exec (.couchRelease h) s = .next { s with dev := (couchResult h 6 0 { s.dev with tx := { s.dev.tx with
      state := .idle, owner := 0xFF, requester := 0xFF, actions := [], sipLocked := s.dev.tx.siCopyBusy } }) }) ∧
  (∀ s : State, MayWrite s.dev 0 8 → s.dev.tx.state = .idle → s.dev.tx.fabricLive = false →
    exec (.restore 0) s = .next { s with dev := couchResult 0 7 0 (restoreFabric s.dev) }) ∧
  (∀ d : Device, validBank d.mem = none → restoreFabric d = restoreFails d) ∧
  (∀ (s : State) (h : Hart), MayWrite s.dev h 8 → h ≠ 0 → exec (.restore h) s = .next { s with dev := couchResult h 7 4 s.dev }) ∧
  (∀ (s : State) (h : Hart) (code : Nat), MayWrite s.dev h 8 →
    exec (.couchUndefinedCommand h code) s = .next { s with dev := couchResult h (code % 16) 6 s.dev }) ∧
  (∀ (s : State) (h : Hart) (v : Word), MayWrite s.dev h 8 → s.dev.tx.sipLocked = true →
    exec (.sipDataWrite h v) s = .next { s with dev := accessFault h 0x60080064 s.dev }) ∧
  (∀ (s : State) (h : Hart) (v : Word), MayWrite s.dev h 8 → s.dev.tx.sipLocked = false → s.dev.tx.siCopyBusy = false →
    field s.dev.tx.sipPtr 2 18 % 2 = 1 →
    ∃ t, exec (.sipDataWrite h v) s = .next t ∧
      t.dev.mem = memWrite s.dev.mem (siPendingBase + 4 * field s.dev.tx.sipPtr 2 18 - 4)
        (leBytes 4 s.dev.tx.sipLow.toNat ++ leBytes 4 v.toNat) ∧
      t.dev.tx = { s.dev.tx with sipPtr := BitVec.ofNat 32 ((4 * field s.dev.tx.sipPtr 2 18 + 4) % 0x100000) } ∧ t.dev.gf = s.dev.gf ∧ t.dev.is_ = s.dev.is_) ∧
  (∀ (s : State) (h : Hart) (v : Word), MayWrite s.dev h 8 → s.dev.tx.sipLocked = false → s.dev.tx.siCopyBusy = false →
    field s.dev.tx.sipPtr 2 18 % 2 = 0 →
    exec (.sipDataWrite h v) s = .next { s with dev := ({ s.dev with tx := { s.dev.tx with
      sipLow := v, sipPtr := BitVec.ofNat 32 ((4 * field s.dev.tx.sipPtr 2 18 + 4) % 0x100000) } }) })

/-- The couch instant (R156, R22): a commit moves the epoch to the next and to none but the next; the leaf that the
new epoch's tag selects is the result of the mould (R22), and the other leaf, which operations of the old epoch still
use, is unchanged. Where the spec leaves room, its clauses follow the model's choices and readings
(notes/assumptions/80.md, notes/assumptions/101.md). -/
def Obligations.CommitAdvancesTheEpoch : Prop :=
  ∀ d : Device, d.tx.fabricLive = true →
    (commitMould d).tx.epoch = d.tx.epoch + 1 ∧ curLeaf (commitMould d) = resultLeaf d ∧
    (d.tx.epoch % 2 = 0 → (commitMould d).tx.leafEven = d.tx.leafEven) ∧
    (d.tx.epoch % 2 = 1 → (commitMould d).tx.leafOdd = d.tx.leafOdd)

/-- Presented identity, SFDP and status (R171, R177–R180, R189), on an answering port in modes 0–4: the bytes each
command returns, the write enable latch and the flags each sets or clears, the clock measured and a standing reset
enable used up, nothing else: a clock more than 5 % above MaxMHz sets OverClock (R189). Bit 0 of the status byte is
WIP, bit 1 WEL. Presented reads in modes 0–3 (R171, R173, R189): each opcode reads in the modes that define it and is
an undefined opcode in the others; the read, none of whose bytes is late, returns the presented bytes. Octal DDR reads
(R174, R176): OCTAL_DDR_READ is mode 4's; a waiting read whose rest is ready returns it, and one that ends returns
0xFF for the rest; it waits no longer. Where the spec leaves room, its clauses follow the model's choices and readings
(notes/assumptions/79.md, notes/assumptions/94.md, notes/assumptions/117.md). -/
def Obligations.PresentedReads : Prop :=
  (∀ (s : State) (p : Port) (n khz : Nat) (r : PortRec), OnPort s.dev p r → r.mode ≤ 4 →
    exec (.readId p n khz) s = .next { s with dev := reply (padTo n r.jedecId) (portCalm p 0x9F khz 0 r s.dev) }) ∧
  (∀ (s : State) (p : Port) (addr n khz : Nat) (r : PortRec), OnPort s.dev p r → r.mode ≤ 4 →
    exec (.readSfdp p addr n khz) s = .next { s with dev := reply (sfdpRead r addr n) (portCalm p 0x5A khz addr r s.dev) }) ∧
  (∀ (s : State) (p : Port) (n khz : Nat) (r : PortRec), OnPort s.dev p r → r.mode ≤ 4 →
    exec (.readStatus p n khz) s = .next { s with dev := reply (List.replicate n (statusByte (portAt s.dev p))) (portCalm p 0x05 khz 0 r s.dev) }) ∧
  (∀ (s : State) (p : Port) (n khz : Nat) (r : PortRec), OnPort s.dev p r → r.mode ≤ 4 →
    exec (.readFlagStatus p n khz) s = .next { s with dev := reply (List.replicate n (flagStatusByte (portAt s.dev p))) (portCalm p 0x70 khz 0 r s.dev) }) ∧
  (∀ (s : State) (p : Port) (khz : Nat) (r : PortRec), OnPort s.dev p r → r.mode ≤ 4 →
    exec (.clearFlagStatus p khz) s = .next { s with dev := (modPort p (fun u => { u with eraseError := false, programError := false, protected_ := false }) (portCalm p 0x50 khz 0 r s.dev)) }) ∧
  (∀ (s : State) (p : Port) (khz : Nat) (r : PortRec), OnPort s.dev p r → r.mode ≤ 4 →
    exec (.writeEnable p khz) s = .next { s with dev := modPort p (fun u => { u with wel := true }) (portCalm p 0x06 khz 0 r s.dev) }) ∧
  (∀ (s : State) (p : Port) (khz : Nat) (r : PortRec), OnPort s.dev p r → r.mode ≤ 4 →
    exec (.writeDisable p khz) s = .next { s with dev := modPort p (fun u => { u with wel := false }) (portCalm p 0x04 khz 0 r s.dev) }) ∧
  (∀ u : UpPort, (statusByte u).getLsbD 0 = u.wip ∧ (statusByte u).getLsbD 1 = u.wel ∧ (flagStatusByte u).getLsbD 7 = !u.wip ∧
    (flagStatusByte u).getLsbD 5 = u.eraseError ∧ (flagStatusByte u).getLsbD 4 = u.programError ∧ (flagStatusByte u).getLsbD 1 = u.protected_) ∧
  (∀ (p : Port) (op khz addr : Nat) (r : PortRec) (d : Device), 100 * khz ≤ 105 * 1000 * r.clockMHz →
    portCalm p op khz addr r d = modPort p (fun u => { u with resetEnable := false }) d) ∧
  (∀ (p : Port) (op khz addr : Nat) (r : PortRec) (d : Device), 105 * 1000 * r.clockMHz < 100 * khz →
    (portAt (portCalm p op khz addr r d) p).overClock = true ∧ (portAt (portCalm p op khz addr r d) p).resetEnable = false) ∧
  (∀ (s : State) (p : Port) (four : Bool) (addr n khz late : Nat) (r : PortRec), OnPort s.dev p r → r.mode ≤ 2 → r.clockMHz ≤ 6 →
    exec (.read p four addr n khz late) s = .next { s with dev := (simpleRead p addr n late (portCalm p (if four then 0x13 else 0x03) khz addr r s.dev)) }) ∧
  (∀ (s : State) (p : Port) (four : Bool) (addr n khz late : Nat) (r : PortRec), OnPort s.dev p r → 2 < r.mode ∨ 6 < r.clockMHz →
    exec (.read p four addr n khz late) s = .next { s with dev := undefinedOp p (if four then 0x13 else 0x03) (clockCheck p khz (if four then 0x13 else 0x03) addr r s.dev) }) ∧
  (∀ (s : State) (p : Port) (four : Bool) (addr n khz late : Nat) (r : PortRec), OnPort s.dev p r →
    exec (.fastRead p four addr n khz late) s = .next { s with dev := (if r.mode ≤ 3 then
      simpleRead p addr n late (portCalm p (if four then 0x0C else 0x0B) khz addr r s.dev)
      else undefinedOp p (if four then 0x0C else 0x0B) (clockCheck p khz (if four then 0x0C else 0x0B) addr r s.dev)) }) ∧
  (∀ (s : State) (p : Port) (four : Bool) (addr n khz late : Nat) (r : PortRec), OnPort s.dev p r →
    exec (.fastReadQuadOutput p four addr n khz late) s = .next { s with dev := (if r.mode = 1 ∨ r.mode = 2 then
      simpleRead p addr n late (portCalm p (if four then 0x6C else 0x6B) khz addr r s.dev)
      else undefinedOp p (if four then 0x6C else 0x6B) (clockCheck p khz (if four then 0x6C else 0x6B) addr r s.dev)) }) ∧
  (∀ (s : State) (p : Port) (four : Bool) (addr n khz late : Nat) (r : PortRec), OnPort s.dev p r →
    exec (.fastReadQuadIo p four addr n khz late) s = .next { s with dev := (if r.mode = 2 ∨ r.mode = 3 then
      simpleRead p addr n late (portCalm p (if four then 0xEC else 0xEB) khz addr r s.dev)
      else undefinedOp p (if four then 0xEC else 0xEB) (clockCheck p khz (if four then 0xEC else 0xEB) addr r s.dev)) }) ∧
  (∀ (p : Port) (addr n : Nat) (d e : Device), surfaceStore (curLeaf d) p addr n d = e →
    (simpleRead p addr n 0 d).reply = (List.range n).map (fun i => (presentedByte e (curLeaf e) p
      { addr := addr, len := n, done := 0, tag := curTag e, pieces := [], failed := false, asked := [] } (addr + i)).getD 0xFF)) ∧
  (∀ (d : Device) (L : Leaf) (p addr : Nat) (r : PortRead), sourceAt d L p addr = .none → presentedByte d L p r addr = some 0xFF) ∧
  (∀ (d : Device) (L : Leaf) (p addr : Nat) (r : PortRead) (i : ServeImage),
    sourceAt d L p addr = .image i → i.imgRec.serveMode = 0 → i.verified = false → presentedByte d L p r addr = some 0xFF) ∧
  (∀ (s : State) (p : Port) (addr n khz : Nat) (r : PortRec), OnPort s.dev p r → r.mode = 4 →
    exec (.octalDdrRead p addr n khz) s = .next { s with dev := octalRead p addr n (portCalm p 0xEE khz addr r s.dev) }) ∧
  (∀ (s : State) (p : Port) (addr n khz : Nat) (r : PortRec), OnPort s.dev p r → r.mode ≠ 4 →
    exec (.octalDdrRead p addr n khz) s = .next { s with dev := undefinedOp p 0xEE (clockCheck p khz 0xEE addr r s.dev) }) ∧
  (∀ (s : State) (p : Port) (r : PortRead) (e : Device), portFinishes s.dev p = true → (portAt s.dev p).read = some r →
    (portAt s.dev p).deferred = none → surfaceStore (leafBy s.dev r.tag) p (r.addr + r.done) (r.len - r.done) s.dev = e →
    (portAt e p).read = some r → exec (.presentedReadResume p true) s =
      .next { s with dev := reply (List.replicate (r.len - r.done) 0xFF) (modPort p (fun u => { u with read := none }) e) }) ∧
  (∀ (s : State) (p : Port) (r : PortRead) (e : Device), portFinishes s.dev p = true → (portAt s.dev p).read = some r →
    (portAt s.dev p).deferred = none → surfaceStore (leafBy s.dev r.tag) p (r.addr + r.done) (r.len - r.done) s.dev = e →
    (portAt e p).read = some r → r.failed = false → readPoisoned e (leafBy s.dev r.tag) p (r.addr + r.done) (r.len - r.done) = false →
    r.done + (readyBytes e p r).length = r.len →
    exec (.presentedReadResume p false) s =
      .next { s with dev := reply (readyBytes e p r) (modPort p (fun u => { u with read := none }) e) }) ∧
  (∀ (s : State) (p : Port), (portAt s.dev p).read = none → exec (.presentedReadResume p false) s = .next s)

/-- Presented programs and erases (R181–R183): through a window with Program, with write enable and no operation in
progress they are forwarded; without a window they are discarded with Protected and the error flag of their kind. An
erase size that the port's record does not offer is an undefined opcode (R171). Port reset and protocol (R168, R171,
R172, R187, R188): RESET acts only after RESET_ENABLE; an undefined opcode is noted and answers nothing, a CS# raised
early ends a read that is not deferred, and a program or erase that CS# cuts within a byte is discarded (R181);
UPn_RESET# and the eSPI in-band reset are port resets of causes 1 and 3. Where the spec leaves room, its clauses
follow the model's choices and readings (notes/assumptions/79.md, notes/assumptions/94.md, notes/assumptions/117.md).
-/
def Obligations.PresentedWritesAndPortResets : Prop :=
  (∀ (s : State) (p : Port) (addr khz : Nat) (data : List Byte) (r : PortRec), OnPort s.dev p r → r.mode ≤ 4 →
    exec (.pageProgram p false addr data khz) s = .next { s with dev := portWrite p 0x02 addr data none (portCalm p 0x02 khz addr r s.dev) }) ∧
  (∀ (s : State) (p : Port) (addr khz : Nat) (data : List Byte) (r : PortRec), OnPort s.dev p r →
    exec (.pageProgram p true addr data khz) s = .next { s with dev := (if r.mode = 4 then
      portWrite p 0x12 addr data none (portCalm p 0x12 khz addr r s.dev)
      else undefinedOp p 0x12 (clockCheck p khz 0x12 addr r s.dev)) }) ∧
  (∀ (s : State) (p : Port) (four : Bool) (addr khz : Nat) (r : PortRec), OnPort s.dev p r → r.mode ≤ 4 →
    exec (.erase4k p four addr khz) s = .next { s with dev := (if r.eraseSizes.testBit 0 then
      portWrite p (if four then 0x21 else 0x20) addr [] (some 4096) (portCalm p (if four then 0x21 else 0x20) khz addr r s.dev)
      else undefinedOp p (if four then 0x21 else 0x20) (clockCheck p khz (if four then 0x21 else 0x20) addr r s.dev)) }) ∧
  (∀ (s : State) (p : Port) (four : Bool) (addr khz : Nat) (r : PortRec), OnPort s.dev p r → r.mode ≤ 4 →
    exec (.erase32k p four addr khz) s = .next { s with dev := (if r.eraseSizes.testBit 1 then
      portWrite p (if four then 0x5C else 0x52) addr [] (some 32768) (portCalm p (if four then 0x5C else 0x52) khz addr r s.dev)
      else undefinedOp p (if four then 0x5C else 0x52) (clockCheck p khz (if four then 0x5C else 0x52) addr r s.dev)) }) ∧
  (∀ (s : State) (p : Port) (four : Bool) (addr khz : Nat) (r : PortRec), OnPort s.dev p r → r.mode ≤ 4 →
    exec (.erase64k p four addr khz) s = .next { s with dev := (if r.eraseSizes.testBit 2 then
      portWrite p (if four then 0xDC else 0xD8) addr [] (some 65536) (portCalm p (if four then 0xDC else 0xD8) khz addr r s.dev)
      else undefinedOp p (if four then 0xDC else 0xD8) (clockCheck p khz (if four then 0xDC else 0xD8) addr r s.dev)) }) ∧
  (∀ (p : Port) (op addr : Nat) (data : List Byte) (erase : Option Nat) (d : Device),
    writeWindow (curLeaf d) p addr data.length erase = none →
    ∃ e, portWrite p op addr data erase d = e ∧ (portAt e p).protected_ = true ∧ (portAt e p).wel = false ∧
      (portAt e p).last = addr ∧ (portAt e p).wip = (portAt d p).wip ∧ e.mem = d.mem ∧
      (erase.isSome = true → (portAt e p).eraseError = true) ∧ (erase = none → (portAt e p).programError = true)) ∧
  (∀ (p : Port) (op addr : Nat) (data : List Byte) (erase : Option Nat) (w : PresentRec) (d : Device),
    writeWindow (curLeaf d) p addr data.length erase = some w → (portAt d p).wel = true → (portAt d p).wip = false →
    erase.isSome = true ∨ data ≠ [] →
    portWrite p op addr data erase d = forwardWrite p w op addr data erase (reply [] (modPort p (fun x => { x with last := addr }) d))) ∧
  (∀ (s : State) (p : Port) (khz : Nat) (r : PortRec), OnPort s.dev p r → r.mode ≤ 4 →
    exec (.resetEnable p khz) s = .next { s with dev := modPort p (fun u => { u with resetEnable := true }) (portCalm p 0x66 khz 0 r s.dev) }) ∧
  (∀ (s : State) (p : Port) (khz : Nat) (r : PortRec), OnPort s.dev p r → r.mode ≤ 4 →
    exec (.reset p khz) s = .next { s with dev := (if (portAt s.dev p).resetEnable then portReset p 2 (portCalm p 0x99 khz 0 r s.dev)
      else portCalm p 0x99 khz 0 r s.dev) }) ∧
  (∀ (s : State) (p : Port) (op khz : Nat) (r : PortRec), OnPort s.dev p r →
    exec (.undefinedOpcode p op khz) s = .next { s with dev := undefinedOp p op (clockCheck p khz op 0 r s.dev) }) ∧
  (∀ (p : Port) (op : Nat) (d : Device), (undefinedOp p op d).reply = [] ∧ (undefinedOp p op d).mem = d.mem ∧
    (portAt (undefinedOp p op d) p).undefOp = true ∧ (portAt (undefinedOp p op d) p).resetEnable = false ∧
    (portAt (undefinedOp p op d) p).wel = (portAt d p).wel ∧ (portAt (undefinedOp p op d) p).wip = (portAt d p).wip) ∧
  (∀ (s : State) (p : Port) (op khz : Nat) (r : PortRec), OnPort s.dev p r →
    exec (.csRaisedEarly p op khz none) s = .next { s with dev := (modPort p (fun u =>
      { u with resetEnable := false, read := if u.deferred.isSome then u.read else none }) (clockCheck p khz op 0 r s.dev)) }) ∧
  (∀ (s : State) (p : Port) (op khz a : Nat) (r : PortRec) (isErase : Bool), OnPort s.dev p r → writeOpcode op r.mode r = some isErase →
    ∃ t, exec (.csRaisedEarly p op khz (some a)) s = .next t ∧ (portAt t.dev p).protected_ = true ∧ (portAt t.dev p).wel = false ∧
      (portAt t.dev p).writeDiscarded = true ∧ (portAt t.dev p).last = a ∧ (portAt t.dev p).wip = (portAt s.dev p).wip ∧
      (isErase = true → (portAt t.dev p).eraseError = true) ∧ (isErase = false → (portAt t.dev p).programError = true) ∧
      t.dev.mem = s.dev.mem) ∧
  (∀ (s : State) (p : Port), mainRuns s.dev = true →
    exec (.upResetAssert p) s =
      .next { s with dev := portReset p 1 { s.dev with pins := { s.dev.pins with upReset := s.dev.pins.upReset.set p true } } }) ∧
  (∀ (s : State) (p : Port), exec (.upResetRelease p) s = .next { s with dev.pins.upReset := s.dev.pins.upReset.set p false }) ∧
  (∀ (s : State) (p : Port) (khz : Nat) (r : PortRec), OnPort s.dev p r → r.mode = 5 →
    exec (.espiInBandReset p khz) s = .next { s with dev := portReset p 3 (clockCheck p khz 0xFF 0 r s.dev) })

/-- eSPI flash access channel (R184–R186): requests on a mode 5 port with no deferred request outstanding, and none
accepted while one is; an oversized read completes unsuccessfully with ProtoErr, one of a poisoned byte
unsuccessfully; a peripheral request completes unsuccessfully; a CRC error is a fatal error; a ready completion is
fetched once; the capabilities are those of R184's table. The encoding of the replies is the model's
(notes/assumptions/2.md). Where the spec leaves room, its clauses follow the model's choices and readings
(notes/assumptions/100.md, notes/assumptions/117.md). -/
def Obligations.EspiRequests : Prop :=
  (∀ (s : State) (p : Port) (addr n khz : Nat) (r : PortRec), OnPort s.dev p r → r.mode = 5 → (portAt s.dev p).deferred = none →
    exec (.espiFlashRead p addr n khz) s = .next { s with dev := espiRead p addr n r (clockCheck p khz espiFlashOp addr r s.dev) }) ∧
  (∀ (s : State) (p : Port) (addr khz : Nat) (data : List Byte) (r : PortRec), OnPort s.dev p r → r.mode = 5 → (portAt s.dev p).deferred = none →
    exec (.espiFlashWrite p addr data khz) s = .next { s with dev := espiWrite p addr data none r (clockCheck p khz espiFlashOp addr r s.dev) }) ∧
  (∀ (s : State) (p : Port) (addr khz : Nat) (r : PortRec), OnPort s.dev p r → r.mode = 5 → (portAt s.dev p).deferred = none →
    exec (.espiFlashErase p addr khz) s = .next { s with dev := espiWrite p addr [] (some 4096) r (clockCheck p khz espiFlashOp addr r s.dev) }) ∧
  (∀ (s : State) (p : Port) (addr n khz : Nat) (r : PortRec), OnPort s.dev p r → r.mode = 5 → (portAt s.dev p).deferred.isSome = true →
    exec (.espiFlashRead p addr n khz) s = .next { s with dev := reply [] (clockCheck p khz espiFlashOp addr r s.dev) }) ∧
  (∀ (p : Port) (addr n : Nat) (r : PortRec) (d : Device), 64 < n ∨ 2 ^ r.sizeLog2 < addr + n →
    (espiRead p addr n r d).reply = espiFail ∧ (portAt (espiRead p addr n r d) p).protoErr = true ∧ (espiRead p addr n r d).mem = d.mem) ∧
  (∀ (p : Port) (addr n : Nat) (r : PortRec) (d e : Device), n ≤ 64 → addr + n ≤ 2 ^ r.sizeLog2 →
    surfaceStore (curLeaf d) p addr n d = e → readPoisoned e (curLeaf e) p addr n = true →
    espiRead p addr n r d = reply espiFail (modPort p (fun u => { u with last := addr }) e)) ∧
  (∀ (s : State) (p : Port) (khz : Nat) (r : PortRec), OnPort s.dev p r → r.mode = 5 →
    exec (.espiPeripheralRequest p khz) s = .next { s with dev := reply espiFail (portCalm p 0x00 khz 0 r s.dev) }) ∧
  (∀ (s : State) (p : Port) (op khz : Nat) (r : PortRec), OnPort s.dev p r →
    exec (.espiUndefinedCommand p op khz) s = .next { s with dev := undefinedOp p op (clockCheck p khz op 0 r s.dev) }) ∧
  (∀ (s : State) (p : Port) (op khz : Nat) (r : PortRec), OnPort s.dev p r → r.mode = 5 →
    exec (.espiCrcError p op khz) s = .next { s with dev := (portError p 2 op 0 (reply espiFatal (modPort p (fun u =>
      { u with protoErr := true }) (portCalm p op khz 0 r s.dev)))) }) ∧
  (∀ (s : State) (p : Port) (q : Deferred), portFinishes s.dev p = true → (portAt s.dev p).deferred = some q → q.completion.isSome = true →
    exec (.deferredCompletionReady p) s = .next { s with dev := modPort p (fun x => { x with alert := true }) s.dev }) ∧
  (∀ (s : State) (p : Port) (khz : Nat) (r : PortRec) (q : Deferred) (ok : Bool) (bs : List Byte), OnPort s.dev p r →
    (portAt s.dev p).deferred = some q → q.completion = some (ok, bs) → (portAt s.dev p).alert = true →
    exec (.espiCompletionFetch p khz) s = .next { s with dev := (reply (if ok then espiOk bs else espiFail)
      (modPort p (fun u => { u with deferred := none, alert := false, read := none }) (clockCheck p khz espiFlashOp 0 r s.dev))) }) ∧
  (∀ (s : State) (p : Port) (khz : Nat) (q : Deferred) (ok : Bool) (bs : List Byte), portFinishes s.dev p = true →
    portOf (curLeaf s.dev) p = none → (portAt s.dev p).deferred = some q → q.completion = some (ok, bs) → (portAt s.dev p).alert = true →
    exec (.espiCompletionFetch p khz) s = .next { s with dev := (reply (if ok then espiOk bs else espiFail)
      (modPort p (fun u => { u with deferred := none, alert := false, read := none }) s.dev)) }) ∧
  espiCaps.maxRead = 64 ∧ espiCaps.maxPayload = 64 ∧ espiCaps.eraseBlock = 4096 ∧ espiCaps.deferred = 1 ∧ espiCaps.maxMHz = 66

/-- Turnstiles decide (R210, R217): the decision on a command, in the order of R210: a device outside the epoch,
retired or Fenced; a quarantined port; a reserved opcode; a serve lock; an opcode of no class; the entry's action of
Deny, Deny-and-log, Hold or Quarantine. Where the spec leaves room, its clauses follow the model's choices and
readings (notes/assumptions/90.md, notes/assumptions/119.md). -/
def Obligations.TurnstileDecisions : Prop :=
  (∀ (env : TsEnv) (t : Turnstile) (c : FlashCmd), flashOf env.leaf env.f = none → decideCmd env t c = .deny 9 false 0x3F) ∧
  (∀ (env : TsEnv) (t : Turnstile) (c : FlashCmd) (r : FlashRec), flashOf env.leaf env.f = some r → env.retired = true ∨ r.role = 3 →
    decideCmd env t c = .deny 9 false 0x3F) ∧
  (∀ (env : TsEnv) (t : Turnstile) (c : FlashCmd) (r : FlashRec), flashOf env.leaf env.f = some r → env.retired = false → r.role ≠ 3 →
    env.quarantined = true → decideCmd env t c = .deny 8 false 0x3F) ∧
  (∀ (env : TsEnv) (t : Turnstile) (c : FlashCmd) (r : FlashRec), flashOf env.leaf env.f = some r → env.retired = false → r.role ≠ 3 →
    env.quarantined = false → kindOf (protoOf env.leaf r) c.op = .reserved → decideCmd env t c = .deny 6 true 0x3F) ∧
  (∀ (env : TsEnv) (t : Turnstile) (c : FlashCmd) (r : FlashRec), flashOf env.leaf env.f = some r → env.retired = false → r.role ≠ 3 →
    env.quarantined = false → kindOf (protoOf env.leaf r) c.op ≠ .reserved →
    serveLocked t.locks (kindOf (protoOf env.leaf r) c.op) c.op (rangeOf (kindOf (protoOf env.leaf r) c.op) r c.addr c.len) = true →
    decideCmd env t c = .deny 10 true 0x3F) ∧
  (∀ (env : TsEnv) (t : Turnstile) (c : FlashCmd) (r : FlashRec) (ct : ClassTableRec) (st : StateTableRec),
    flashOf env.leaf env.f = some r → env.retired = false → r.role ≠ 3 → env.quarantined = false →
    kindOf (protoOf env.leaf r) c.op ≠ .reserved →
    serveLocked t.locks (kindOf (protoOf env.leaf r) c.op) c.op (rangeOf (kindOf (protoOf env.leaf r) c.op) r c.addr c.len) = false →
    classTableOf env.leaf r.classTable = some ct → stateTableOf env.leaf r.stateTable = some st →
    (ct.classes.getD c.op 0xFF = 0xFF → decideCmd env t c = .deny 5 true 0x3F) ∧
    (ct.classes.getD c.op 0xFF ≠ 0xFF →
      (entryAt st t.state (ct.classes.getD c.op 0xFF) % 8 = 1 → decideCmd env t c = .deny 1 false (ct.classes.getD c.op 0xFF)) ∧
      (entryAt st t.state (ct.classes.getD c.op 0xFF) % 8 = 2 → decideCmd env t c = .deny 2 true (ct.classes.getD c.op 0xFF)) ∧
      (entryAt st t.state (ct.classes.getD c.op 0xFF) % 8 = 3 → decideCmd env t c = .hold (ct.classes.getD c.op 0xFF)) ∧
      (entryAt st t.state (ct.classes.getD c.op 0xFF) % 8 = 4 → decideCmd env t c = .quarantine (ct.classes.getD c.op 0xFF))))

/-- TURNSTILE_DECIDE and HOLD_LIMIT_EXPIRY (R214, R218): where nothing blocks the device, the first waiting command is
decided and, if issued, goes on the bus with the tag it is decided under, after what a fence held is released (R155,
R227); a blocked device, or one with no command, is left alone; a held command whose limit has passed is denied with
reason 7, and before that stays. Where the spec leaves room, its clauses follow the model's choices and readings
(notes/assumptions/72.md, notes/assumptions/119.md). -/
def Obligations.TurnstileSteps : Prop :=
  (∀ (s : State) (f : Dev) (c : FlashCmd) (e : Device), mainRuns s.dev = true → decideBlocked s.dev f = false →
    (if s.dev.tx.fenceArmed then s.dev else unfence f (fenceHeld s.dev f) s.dev) = e → nextCmd (tsAt e f) = .waiting c →
    exec (.turnstileDecide f) s = .next { s with dev := onBus f (finishTs f (decideNext (tsEnv e f c) (tsAt e f)) e) }) ∧
  (∀ (s : State) (f : Dev) (h : HeldCmd) (e : Device), mainRuns s.dev = true → decideBlocked s.dev f = false →
    (if s.dev.tx.fenceArmed then s.dev else unfence f (fenceHeld s.dev f) s.dev) = e → nextCmd (tsAt e f) = .held h →
    exec (.turnstileDecide f) s = .next { s with dev := onBus f (finishTs f (decideNext (tsEnv e f h.cmd) (tsAt e f)) e) }) ∧
  (∀ (s : State) (f : Dev), mainRuns s.dev = true → decideBlocked s.dev f = true ∨ (nextCmd (tsAt s.dev f) = .none ∧ s.dev.tx.fenceArmed = true) →
    exec (.turnstileDecide f) s = .next s) ∧
  (∀ (env : TsEnv) (t : Turnstile) (c : FlashCmd) (next cost : Nat) (x : List (Nat × Nat × List Nat)), nextCmd t = .waiting c →
    bindCurve env t = (t, x) → decideCmd env t c = .issue next cost →
    (decideNext env t).ts.current = some (taggedNow env c) ∧ (decideNext env t).ts.state = next) ∧
  (∀ (env : TsEnv) (t : Turnstile) (c : FlashCmd) (next cost : Nat),
    (issueCmd env t c next cost).ts.current = some c ∧ (issueCmd env t c next cost).ts.state = next ∧
    (issueCmd env t c next cost).done = [] ∧ (issueCmd env t c next cost).quarantine = none ∧
    (issueCmd env t c next cost).ts.waiting = t.waiting ∧ (issueCmd env t c next cost).ts.locks = t.locks ∧
    (issueCmd env t c next cost).ts.denyCount = t.denyCount) ∧
  (∀ (env : TsEnv) (t : Turnstile) (c : FlashCmd) (reason cls : Nat) (logged : Bool),
    (denyCmd env t c reason logged cls).ts.denyCount = satAdd 16 t.denyCount 1 ∧
    (denyCmd env t c reason logged cls).ts.lastReason = reason ∧ (denyCmd env t c reason logged cls).ts.lastAid = c.aid ∧
    (denyCmd env t c reason logged cls).ts.lastOp = c.op ∧ (denyCmd env t c reason logged cls).ts.current = t.current ∧
    (denyCmd env t c reason logged cls).ts.state = t.state ∧ (denyCmd env t c reason logged cls).ts.credit = t.credit ∧
    (denyCmd env t c reason logged cls).ts.wear = t.wear ∧
    (denyCmd env t c reason logged cls).done.head? = some ⟨c, reason, 0, []⟩) ∧
  (∀ (s : State) (f : Dev) (i ticks : Nat) (h : HeldCmd), mainRuns s.dev = true → (tsAt s.dev f).held[i]? = some h →
    holdExpired s.dev h = true → holdLimit s.dev ≤ ticks → ticks ≤ holdLimit s.dev + 1 →
    exec (.holdLimitExpiry f i ticks) s =
      .next { s with dev := finishTs f (expireHold (tsEnv s.dev f h.cmd) (tsAt s.dev f) i ticks) s.dev }) ∧
  (∀ (s : State) (f : Dev) (i ticks : Nat) (h : HeldCmd), (tsAt s.dev f).held[i]? = some h → holdExpired s.dev h = false →
    exec (.holdLimitExpiry f i ticks) s = .next s) ∧
  (∀ (env : TsEnv) (t : Turnstile) (i ticks : Nat) (h : HeldCmd), t.held[i]? = some h →
    (expireHold env t i ticks).ts.held = t.held.erase h ∧ (expireHold env t i ticks).done = (h.cmd :: h.rest).map (fun c => ⟨c, 7, 0, []⟩) ∧
    (expireHold env t i ticks).events = [(0x0704, 3, [env.f, h.cmd.aid, h.cmd.op, ticks, env.epoch])] ∧
    (expireHold env t i ticks).ts.lastReason = 7)

/-- Ends of commands on the buses (R194, R195, R198, R221, R256): a command that makes its device busy leaves it so at
its data phase until its end is seen; any other is answered there, and a failed one with its result; a poll that
reports ready ends a stuck device's wait; a timeout fails the command with result 3; a read's first DQS timeout is
retried, its second fails it with result 5. Discovery, contention, requalification and device resets (R191,
R199–R201): contention is noted on a bus of the leaf; a requalification needs a quarantined bus, and a clean sample
returns it to service through discovery; a reset pulse ends in a discovery, whose result follows from the device's
answer; DevReset pulses a device that may be reset, on a bus that is not quarantined. Where the spec leaves room, its
clauses follow the model's choices and readings (notes/assumptions/3.md, notes/assumptions/73.md,
notes/assumptions/74.md, notes/assumptions/118.md). -/
def Obligations.FlashBusesAndCommands : Prop :=
  (∀ (s : State) (f : Dev) (c : FlashCmd) (data : List Byte), mainRuns s.dev = true → (tsAt s.dev f).current = some c →
    makesBusy (cmdKind s.dev f c) c = true →
    exec (.flashCommandDone f 0 data) s = .next { s with dev := (modDev f (fun v => { v with busy := some (busyOp s.dev f c) })
      (phaseEnd f c 0 data s.dev)) }) ∧
  (∀ (s : State) (f : Dev) (c : FlashCmd) (result : Nat) (data : List Byte), mainRuns s.dev = true → (tsAt s.dev f).current = some c →
    result ≠ 0 →
    exec (.flashCommandDone f result data) s = .next { s with dev := (settleReset f (deliver f ⟨c, 0, result, []⟩
      (phaseEnd f c result data s.dev))) }) ∧
  (∀ (d : Device) (f : Nat) (c : FlashCmd) (result : Nat) (data : List Byte), (∀ h e, c.issuer ≠ .hart h e) →
    phaseEnd f c result data d = modDev f (fun v => { v with dqsRetried := false }) (modTs f (fun t => { t with current := none }) d)) ∧
  (∀ (d : Device) (f : Dev) (c : FlashCmd) (result : Nat) (data : List Byte), (tsAt (phaseEnd f c result data d) f).current = none ∧
    (devAt (phaseEnd f c result data d) f).dqsRetried = false) ∧
  (∀ (s : State) (f : Dev) (result : Nat) (data : List Byte), (tsAt s.dev f).current = none →
    exec (.flashCommandDone f result data) s = .next s) ∧
  (∀ (s : State) (f : Dev), mainRuns s.dev = true → (devAt s.dev f).stuck = true → (busAt s.dev (f / 4)).quarantined = false →
    busIdle s.dev (f / 4) = false →
    exec (.flashStatusPoll f true) s = .next { s with dev := modDev f (fun v => { v with stuck := false }) s.dev }) ∧
  (∀ (s : State) (f : Dev), exec (.flashStatusPoll f false) s = .next s) ∧
  (∀ (s : State) (f : Dev) (failed : Bool), busIdle s.dev (f / 4) = true →
    exec (.flashStatusPoll f true) s = .next s ∧ exec (.flashBusyEnd f failed) s = .next s) ∧
  (∀ (s : State) (f : Dev) (b : BusyOp), mainRuns s.dev = true → (devAt s.dev f).busy = some b → busIdle s.dev (f / 4) = false →
    exec (.flashBusyEnd f false) s = .next { s with dev := (settleReset f (deliver f ⟨b.cmd, 0, 0, []⟩
      (mirrorWrite f b (modDev f (fun v => { v with busy := none }) s.dev)))) }) ∧
  (∀ (s : State) (f : Dev) (b : BusyOp), mainRuns s.dev = true → (devAt s.dev f).busy = some b → (devAt s.dev f).flagStatus = true →
    busIdle s.dev (f / 4) = false →
    exec (.flashBusyEnd f true) s = .next { s with dev := (settleReset f (deliver f ⟨b.cmd, 0, if b.kind = .program ∨
      b.kind = .other then 1 else 2, []⟩ (countFail f b.kind (modDev f (fun v => { v with busy := none }) s.dev)))) }) ∧
  (∀ (s : State) (f : Dev) (b : BusyOp), mainRuns s.dev = true → (devAt s.dev f).busy = some b → b.rst = false ∨ mayRun s.dev f = false →
    exec (.flashPollTimeout f) s = .next { s with dev := (settleReset f (deliver f ⟨b.cmd, 0, 3, []⟩ (modDev f (fun v => { v with stuck := true })
      (eventsRaw [(0x0721, 3, [f, b.cmd.op, b.cmd.addr, b.limit, 0])]
        (modBus (f / 4) (fun x => { x with timeout := true, timeoutCount := satAdd 16 x.timeoutCount 1 })
          (modDev f (fun v => { v with busy := none }) s.dev)))))) }) ∧
  (∀ (s : State) (f : Dev) (b : BusyOp), mainRuns s.dev = true → (devAt s.dev f).busy = some b → b.rst = true → mayRun s.dev f = true →
    exec (.flashPollTimeout f) s = .next { s with dev := (settleReset f (deliver f ⟨b.cmd, 0, 3, []⟩
      (startPulse f (modHealth f (fun h => { h with timeoutResets := satAdd 8 h.timeoutResets 1 })
        (eventsRaw [(0x0721, 3, [f, b.cmd.op, b.cmd.addr, b.limit, 1])]
          (modBus (f / 4) (fun x => { x with timeout := true, timeoutCount := satAdd 16 x.timeoutCount 1 })
            (modDev f (fun v => { v with busy := none }) s.dev))))))) }) ∧
  (∀ (s : State) (f : Dev) (c : FlashCmd), mainRuns s.dev = true → (tsAt s.dev f).current = some c → cmdKind s.dev f c = .read →
    (busOf (cmdLeaf s.dev c) (f / 4)).map (·.mode) = some 4 → (devAt s.dev f).dqsRetried = false →
    exec (.dqsTimeout f) s = .next { s with dev := modDev f (fun v => { v with dqsRetried := true }) s.dev }) ∧
  (∀ (s : State) (f : Dev) (c : FlashCmd), mainRuns s.dev = true → (tsAt s.dev f).current = some c → cmdKind s.dev f c = .read →
    (busOf (cmdLeaf s.dev c) (f / 4)).map (·.mode) = some 4 → (devAt s.dev f).dqsRetried = true →
    exec (.dqsTimeout f) s = .next { s with dev := (flashDone f 5 [] (eventsRaw [(0x0724, 3, [f, c.addr, c.aid, 0, 0])]
      (modBus (f / 4) (fun x => { x with dqsTimeout := true, dqsCount := satAdd 8 x.dqsCount 1 }) s.dev))) }) ∧
  (∀ (s : State) (f : Dev) (c : FlashCmd) (data : List Byte), mainRuns s.dev = true → (tsAt s.dev f).current = some c →
    makesBusy (cmdKind s.dev f c) c = false → c.aid ≠ 0x12 →
    exec (.flashCommandDone f 0 data) s = .next { s with dev := (settleReset f (deliver f
      ⟨c, 0, 0, if cmdKind s.dev f c = .read then data.take c.len else data⟩ (phaseEnd f c 0 data s.dev))) }) ∧
  (∀ (s : State) (f : Dev), mainRuns s.dev = true → (devAt s.dev f).pulsing = true →
    exec (.deviceResetPulseEnd f) s = .next { s with dev := if mayRun s.dev f = true then startDiscovery f s.dev else requalReport (f / 4) (holdReset f s.dev) }) ∧
  (∀ (d : Device) (f : Dev), (devAt (startDiscovery f d) f).discovering = true ∧ (devAt (startDiscovery f d) f).rstHigh = true ∧
    (devAt (startDiscovery f d) f).ready = false ∧ (startDiscovery f d).mem = d.mem) ∧
  (∀ (s : State) (f : Dev) (a : Discovery), mainRuns s.dev = true →
    exec (.discoveryResetRecoveryEnd f a) s = .next { s with dev := endDiscovery f a s.dev }) ∧
  (∀ (L : Leaf) (r : FlashRec) (a : Discovery), (a.wipClear = false → discResultOf L r a = 8) ∧
    (a.wipClear = true → a.id = [] → discResultOf L r a = 2) ∧
    (a.wipClear = true → a.id ≠ [] → a.id ≠ r.jedecId → discResultOf L r a = 3)) ∧
  (∀ (s : State) (m : Bus) (lines : Nat) (b : BusRec), mainRuns s.dev = true → s.dev.tx.fabricLive = true → busOf (curLeaf s.dev) m = some b →
    exec (.busContentionDetected m lines) s = .next { s with dev := contention m lines s.dev }) ∧
  (∀ (s : State) (h : Hart) (m : Bus), MayWrite s.dev h 6 → (busAt s.dev m).quarantined = true →
    exec (.requalify h m) s = .next { s with dev := modBus m (fun b => { b with requalifying := true }) s.dev }) ∧
  (∀ (s : State) (h : Hart) (m : Bus), MayWrite s.dev h 6 → (busAt s.dev m).quarantined = false → exec (.requalify h m) s = .next s) ∧
  (∀ (s : State) (m : Bus) (lines : Nat), mainRuns s.dev = true → (busAt s.dev m).requalifying = true →
    exec (.requalifySampleEnd m true lines) s = .next { s with dev := (requalReport m (modBus m (fun b => { b with requalPending := true })
      (discoverBus m (modBus m (fun b => { b with requalifying := false, quarantined := false }) s.dev)))) }) ∧
  (∀ (s : State) (m : Bus) (lines : Nat), mainRuns s.dev = true → (busAt s.dev m).requalifying = true →
    exec (.requalifySampleEnd m false lines) s =
      .next { s with dev := contention m lines (modBus m (fun b => { b with requalifying := false }) s.dev) }) ∧
  (∀ (s : State) (h : Hart) (m : Bus) (mask : Nat), MayWrite s.dev h 6 → (busAt s.dev m).quarantined = true →
    exec (.devReset h m mask) s = .next s) ∧
  (∀ (s : State) (h : Hart) (m : Bus), MayWrite s.dev h 6 → exec (.devReset h m 0) s = .next s) ∧
  (∀ (s : State) (h : Hart) (m : Bus), MayWrite s.dev h 6 → (busAt s.dev m).quarantined = false →
    rstAllowed (curLeaf s.dev) s.dev.tx.retired (4 * m.val) = true → hwRetired s.dev (4 * m.val) = false →
    exec (.devReset h m 1) s = .next { s with dev := (modDev (4 * m.val) (fun v => { v with byDevReset := true })
      (startPulse (4 * m.val) (failInProgress (4 * m.val) 0 6 s.dev))) })

/-- Serving (R237–R246, R389–R393): hart 2's Start of a servable slot starts it with the headers at the SRAM address,
its Reject fails the slot, and a write that sets both or neither bit, or names a slot that is not servable, has no
effect; a waiting domain starts once no lower one can; a burst's end goes to its device; a stream idle long enough
closes. Where the spec leaves room, its clauses follow the model's choices and readings (notes/assumptions/3.md,
notes/assumptions/44.md, notes/assumptions/78.md, notes/assumptions/87.md, notes/assumptions/120.md). -/
def Obligations.ServingCommands : Prop :=
  (∀ (s : State) (bd : Bd) (v : Word), MayWrite s.dev 2 7 → bit v 0 = true → bit v 3 = false → slotServable s.dev bd (field v 1 2) = true →
    exec (.serveStart 2 bd v) s = .next { s with dev := (startSlot bd (field v 1 2)
      (sramHeaders s.dev (v.toNat / 16 * 16) (slotImages (curLeaf s.dev) bd (field v 1 2)).length) s.dev) }) ∧
  (∀ (s : State) (bd : Bd) (v : Word), MayWrite s.dev 2 7 → bit v 0 = false → bit v 3 = true → slotServable s.dev bd (field v 1 2) = true →
    exec (.serveReject 2 bd v) s = .next { s with dev := rejectSlot bd (field v 1 2) s.dev }) ∧
  (∀ (s : State) (bd : Bd) (v : Word), MayWrite s.dev 2 7 → bit v 0 = bit v 3 ∨ slotServable s.dev bd (field v 1 2) = false →
    exec (.serveStart 2 bd v) s = .next s ∧ exec (.serveReject 2 bd v) s = .next s) ∧
  (∀ (s : State) (h : Hart) (bd : Bd) (v : Word), MayWrite s.dev h 7 → h ≠ 2 →
    exec (.serveStart h bd v) s = .next s ∧ exec (.serveReject h bd v) s = .next s ∧ exec (.bdReboot h bd) s = .next s) ∧
  (∀ (s : State) (bd : Bd), mainRuns s.dev = true → (domain s.dev bd).state = .waiting →
    (∀ b, b < 16 → startsBefore s.dev b bd = true → waitsResources s.dev b = false) →
    exec (.waitingDomainStart bd) s = .next { s with dev := tryServe bd s.dev }) ∧
  (∀ (s : State) (bd b : Bd), waitsResources s.dev b = true → startsBefore s.dev b bd = true →
    exec (.waitingDomainStart bd) s = .next s) ∧
  (∀ (s : State) (bd : Bd) (image result : Nat) (data : List Byte) (f : Nat), mainRuns s.dev = true → burstDevice s.dev bd image = some f →
    exec (.servingReadComplete bd image result data) s = .next { s with dev := flashDone f result data s.dev }) ∧
  (∀ (s : State) (bd : Bd) (image : Nat) (im : ServeImage), mainRuns s.dev = true → bdServing (domain s.dev bd) = true →
    (domain s.dev bd).images[image]? = some im → im.imgRec.serveMode = 2 → im.closed = false → unitsOf im.imgRec.length ≤ im.units →
    im.lastRead * 1000 + streamIdleMs s.dev * 1024 ≤ s.dev.clock.opTime * 1000 →
    exec (.streamIdleExpiry bd image) s = .next { s with dev := (serveVerdict bd image
      (match ctxOf s.dev.dg im.ctx with
      | some c => dgLift (closeStream c s.dev.dg) (modImage bd image (fun x => { x with closed := true }) s.dev)
      | none => modImage bd image (fun x => { x with closed := true }) s.dev)) }) ∧
  (∀ (s : State) (bd : Bd) (image : Nat) (im : ServeImage), (domain s.dev bd).images[image]? = some im →
    im.imgRec.serveMode ≠ 2 ∨ im.closed = true ∨ im.units < unitsOf im.imgRec.length ∨
      s.dev.clock.opTime * 1000 < im.lastRead * 1000 + streamIdleMs s.dev * 1024 →
    exec (.streamIdleExpiry bd image) s = .next s) ∧
  (∀ (s : State) (bd : Bd) (image : Nat), mainRuns s.dev = false ∨ (domain s.dev bd).images[image]? = none ∨ bdServing (domain s.dev bd) = false →
    exec (.streamIdleExpiry bd image) s = .next s) ∧
  (∀ (s : State) (bd : Bd), MayWrite s.dev 2 7 → exec (.bdReboot 2 bd) s = .next { s with dev := (if (domain s.dev bd).state = .none ∨ (domain s.dev bd).state = .held then s.dev
    else freshSequence bd (if (domain s.dev bd).structChanged then 6 else 4) s.dev) }) ∧
  (∀ (bd : Bd) (reason : Nat) (d : Device), (domain (freshSequence bd reason d) bd).state = .held ∧
    (domain (freshSequence bd reason d) bd).images = [] ∧ (domain (freshSequence bd reason d) bd).reason = reason ∧
    (domain (freshSequence bd reason d) bd).failedSlots = 0 ∧ (domain (freshSequence bd reason d) bd).runPoint = false ∧
    (freshSequence bd reason d).mem = d.mem)

/-- Gates (R248–R251): after its delay the waiting gate opens, unless a fence or a tamper hold stops it; after a hold
delay holding goes on, and it ends where no gate of the domain is released. Where the spec leaves room, its clauses
follow the model's choices and readings (notes/assumptions/3.md). -/
def Obligations.GateDelays : Prop :=
  (∀ (s : State) (bd : Bd), mainRuns s.dev = true → exec (.gateDelayExpiry bd) s = .next { s with dev := gateDelay bd s.dev }) ∧
  (∀ (d : Device) (bd : Bd), (domain d bd).releasing = none ∨ d.tx.fenceArmed = true ∨ tamperHolds d bd = true → gateDelay bd d = d) ∧
  (∀ (d : Device) (bd : Bd) (k g : Nat), (domain d bd).releasing = some k → d.tx.fenceArmed = false → tamperHolds d bd = false →
    (domain d bd).gateOrder[k]? = some g → g ∈ orderedGates d bd → hasBit (gateDelay bd d).is_.gates g = true) ∧
  (∀ (s : State) (bd : Bd) (k : Nat), mainRuns s.dev = true → (domain s.dev bd).holding = some k →
    exec (.gateHoldDelayExpiry bd) s = .next { s with dev := holdGates bd s.dev }) ∧
  (∀ (s : State) (bd : Bd), (domain s.dev bd).holding = none → exec (.gateHoldDelayExpiry bd) s = .next s) ∧
  (∀ (d : Device) (bd : Bd), (∀ g ∈ orderedGates d bd, hasBit d.is_.gates g = false) → (domain (holdGates bd d) bd).holding = none ∧
    (holdGates bd d).is_.gates = d.is_.gates)

/-- Patrol scrub and the flash command queue (R255, R256, R573): a clean word leaves all as it was and the last word
of the image store ends a pass; a submit that must fault does; a member of an open group waits; a result is popped by
its read and an empty queue reads 0. Where the spec leaves room, its clauses follow the model's choices and readings
(notes/assumptions/43.md, notes/assumptions/45.md, notes/assumptions/119.md). -/
def Obligations.ScrubAndFlashQueue : Prop :=
  (∀ (s : State) (region word syndrome : Nat) (r : ScrubRegion), mainRuns s.dev = true → scrubRegion region = some r →
    scrubFinds s.dev r (word % (scrubPlace r).2.2) syndrome = 0 → ¬ (r = .store ∧ word % (scrubPlace r).2.2 = 0xBFFFFF) →
    exec (.patrolScrubStep region word syndrome) s = .next s) ∧
  (∀ (s : State) (word syndrome : Nat), mainRuns s.dev = true → word % 0xC00000 = 0xBFFFFF → scrubFinds s.dev .store 0xBFFFFF syndrome = 0 →
    exec (.patrolScrubStep 0 word syndrome) s = .next { s with dev.is_.scrubPasses := ((s.dev.is_.scrubPasses + 1) % 65536) }) ∧
  (∀ (s : State) (h : Hart) (v : Word), MayWrite s.dev h 7 → bit v 0 = false → exec (.fqSubmit h v) s = .next s) ∧
  (∀ (s : State) (h : Hart) (v : Word), MayWrite s.dev h 7 → bit v 0 = true → submitFaults s.dev h (fqDesc (fqOf s.dev h)) = true →
    exec (.fqSubmit h v) s = .next { s with dev := accessFault h 0x60070810 s.dev }) ∧
  (∀ (s : State) (h : Hart) (v : Word), MayWrite s.dev h 7 → bit v 0 = true → submitFaults s.dev h (fqDesc (fqOf s.dev h)) = false →
    (fqDesc (fqOf s.dev h)).snoop = false → (fqDesc (fqOf s.dev h)).groupNext = true →
    exec (.fqSubmit h v) s =
      .next { s with dev := modFq h (fun r => { r with openGroup := r.openGroup ++ [(fqDesc (fqOf s.dev h), curTag s.dev)] }) s.dev }) ∧
  (∀ (s : State) (h : Hart) (v : Word), MayWrite s.dev h 7 → bit v 0 = true → submitFaults s.dev h (fqDesc (fqOf s.dev h)) = false →
    (fqDesc (fqOf s.dev h)).snoop = false → (fqDesc (fqOf s.dev h)).groupNext = false →
    exec (.fqSubmit h v) s = .next { s with dev := (submitGroup h ((fqOf s.dev h).openGroup ++ [(fqDesc (fqOf s.dev h), curTag s.dev)])
      (modFq h (fun r => { r with openGroup := [] }) s.dev)) }) ∧
  (∀ (s : State) (h : Hart), MayRead s.dev h → (fqOf s.dev h).results = [] →
    exec (.fqResultPop h) s = .next { s with dev := replyWord 0 s.dev }) ∧
  (∀ (s : State) (h : Hart) (w : Word) (tl : List Word), MayRead s.dev h → (fqOf s.dev h).results = w :: tl →
    exec (.fqResultPop h) s = .next { s with dev := replyWord w (drainHart h (modFq h (fun q => { q with results := tl }) s.dev)) })

/-- Spares and retirement (R257–R264), commands of hart 2: a device in service is retired; a retired one on a live bus
is probed by discovery; a resync starts from its source with nothing copied; at its end both devices have been read
into two digest contexts, and equal digests make a Spare InSync, others Diverged; a device that is not in Probation
ends no probe. Where the spec leaves room, its clauses follow the model's choices and readings
(notes/assumptions/3.md, notes/assumptions/75.md, notes/assumptions/77.md, notes/assumptions/118.md). -/
def Obligations.DeviceControl : Prop :=
  (∀ (s : State) (f : Dev) (r : FlashRec), MayWrite s.dev 2 7 → flashOf (curLeaf s.dev) f = some r →
    (healthAt s.dev f).cond ≠ 0 → (healthAt s.dev f).cond ≠ 7 → (healthAt s.dev f).cond ≠ 9 →
    exec (.deviceRetire 2 f) s = .next { s with dev := retireDevice f (if 2 ≤ (healthAt s.dev f).failedResets then 2 else 1) s.dev }) ∧
  (∀ (s : State) (f : Dev), MayWrite s.dev 2 7 → (healthAt s.dev f).cond = 7 → exec (.deviceRetire 2 f) s = .next s) ∧
  (∀ (s : State) (f : Dev) (r : FlashRec), MayWrite s.dev 2 7 → flashOf (curLeaf s.dev) f = some r → r.role ≠ 3 →
    (healthAt s.dev f).cond = 7 → (busAt s.dev (f / 4)).quarantined = false →
    exec (.deviceProbe 2 f) s = .next { s with dev := startDiscovery f s.dev }) ∧
  (∀ (s : State) (f : Dev), MayWrite s.dev 2 7 → (healthAt s.dev f).cond ≠ 7 → exec (.deviceProbe 2 f) s = .next s) ∧
  (∀ (s : State) (f : Dev) (src : Nat) (prob : Bool), MayWrite s.dev 2 7 → resyncSource s.dev f = some (src, prob) →
    ∃ d, d = setCond f 3 (dropResync f s.dev) ∧ exec (.deviceResync 2 f) s = .next { s with dev := (resyncRead f { d with is_ := { d.is_ with
      resyncs := d.is_.resyncs ++ [{ target := f, source := src, copied := 0, probation := prob, left := none }] } }) }) ∧
  (∀ (s : State) (f : Dev), MayWrite s.dev 2 7 → resyncSource s.dev f = none → exec (.deviceResync 2 f) s = .next s) ∧
  (∀ (s : State) (f : Dev) (r : Resync) (a b k : Nat) (x y : Option (List Byte)), mainRuns s.dev = true → resyncOf s.dev f = some r →
    unitCount (curLeaf s.dev) f ≤ r.copied → r.closing = some (a, b, k) → 2 * unitCount (curLeaf s.dev) f ≤ k →
    closingDigest s.dev a = some x → closingDigest s.dev b = some y →
    exec (.resyncComplete f) s =
      .next { s with dev := setCond f (if r.probation then 8 else if x.isSome && x == y then 4 else 5) (dropResync f s.dev) }) ∧
  (∀ (s : State) (f : Dev) (r : Resync), resyncOf s.dev f = some r → r.copied < unitCount (curLeaf s.dev) f →
    exec (.resyncComplete f) s = .next s) ∧
  (∀ (s : State) (f : Dev), resyncOf s.dev f = none → exec (.resyncComplete f) s = .next s) ∧
  (∀ (s : State) (f : Dev), MayWrite s.dev 2 7 → exec (.endProbe 2 f) s = .next { s with dev := endProbation f s.dev }) ∧
  (∀ (d : Device) (f : Dev), inProbation d f = false → endProbation f d = d) ∧
  (∀ (s : State) (h : Hart) (f : Dev), MayWrite s.dev h 7 → h ≠ 2 → exec (.deviceRetire h f) s = .next s ∧
    exec (.deviceProbe h f) s = .next s ∧ exec (.deviceResync h f) s = .next s ∧ exec (.endProbe h f) s = .next s)

/-- Platform boot (R384–R395): BD_SEQUENCE_START on a Held domain records event 0x0842 unless its sequence runs, and
begins an attempt; one whose requester's AID is reserved, or on a domain that is not Held, has no effect. An attempt
whose area fails a check records event 0x0841 with the check and rejects the slot, and one that passes in its epoch
extends, records 0x0840 and starts the slot. A recovery bundle for a Stopped domain is rejected with event 0x0843
where a check fails, and is installed step by step otherwise; the end of an install that nothing waits for records
0x0843, and reboots the domain on success. Where the spec leaves room, its clauses follow the model's choices and
readings (notes/assumptions/84.md, notes/assumptions/85.md, notes/assumptions/86.md, notes/assumptions/127.md). -/
def Obligations.PlatformBoot : Prop :=
  (∀ (s : State) (bd : Bd) (requester fault : Nat) (r : BdRec), mainRuns s.dev = true → attached s.dev = true → aidListed requester = true →
    bdOf (curLeaf s.dev) bd = some r → (domain s.dev bd).state = .held → (domain s.dev bd).attempt = none →
    exec (.bdSequenceStart bd requester fault) s = .next { s with dev := (startAttempt bd fault
      (if (domain s.dev bd).seqRunning then s.dev
      else hartEvent 2 0x0842 1 [bd, (domain s.dev bd).reason, r.activeSlot, requester]
        (modBd bd (fun x => { x with seqRunning := true }) s.dev))) }) ∧
  (∀ (s : State) (bd : Bd) (requester fault : Nat), (domain s.dev bd).state ≠ .held ∨ aidListed requester = false →
    exec (.bdSequenceStart bd requester fault) s = .next s) ∧
  (∀ (d : Device) (bd : Nat) (r : AreaRead) (code detail : Nat), attemptCheck d bd r = some (code, detail) →
    bootAttempt bd r d = rejectSlot bd r.slot (hartEvent 2 0x0841 4 [bd, r.slot, code, detail] d)) ∧
  (∀ (d : Device) (bd : Nat) (r : AreaRead), r.epoch ≠ d.tx.epoch → bootAttempt bd r d = (match attemptCheck d bd r with
    | some (code, detail) => rejectSlot bd r.slot (hartEvent 2 0x0841 4 [bd, r.slot, code, detail] d)
    | none => startAttempt bd r.fault d)) ∧
  (∀ (d : Device) (bd : Nat) (r : AreaRead), r.epoch = d.tx.epoch → bootAttempt bd r d = (match attemptCheck d bd r with
    | some (code, detail) => rejectSlot bd r.slot (hartEvent 2 0x0841 4 [bd, r.slot, code, detail] d)
    | none =>
      let a := areaOf r.man r.keys
      let e := startSlot bd r.slot a.heads (hartEvent 2 0x0840 1 [bd, r.slot, a.version, sigKind a.sig + 256 * sigSlot a.sig]
        (extendStart bd r.slot (domain d bd).reason a d))
      if (domain e bd).images.isEmpty then e else modBd bd (fun b => { b with manifest := some (manifestOf a) }) e)) ∧
  (∀ (d : Device) (bd : Nat) (r : AreaRead), r.size < r.offset + bufLe r.man 8 4 → attemptCheck d bd r = some (0x02, 0)) ∧
  (∀ (d : Device) (bd : Nat) (r : AreaRead), r.offset + bufLe r.man 8 4 ≤ r.size → r.manRead = false → attemptCheck d bd r = some (0x01, 0)) ∧
  (∀ (s : State) (sender : Nat) (bundle : List Byte) (fault : Nat), mainRuns s.dev = true → attached s.dev = true →
    (domain s.dev (bufLe bundle 6 1)).state = .stopped → bundleAllowed s.dev sender (bufLe bundle 6 1) = true →
    installing s.dev (bufLe bundle 6 1) = false →
    exec (.recoveryBundleInstall sender bundle fault) s = .next { s with dev := takeBundle sender .none false fault bundle s.dev }) ∧
  (∀ (d : Device) (sender fault code : Nat) (bundle : List Byte), bundlePlan d (bufLe bundle 6 1) (bufLe bundle 7 1) false fault bundle = .error code →
    code ≠ 0 → takeBundle sender .none false fault bundle d = hartEvent 2 0x0843 3 [bufLe bundle 6 1, sender, code, 0] d) ∧
  (∀ (d e : Device) (j code : Nat) (i : Install), installOf d j = some i → i.code = some code → i.via = .none → i.update = false →
    { d with is_ := { d.is_ with installs := d.is_.installs.filter (fun x => x.job != j) } } = e →
    installTurn j d = (if code = 0 then rebootDomain i.bd 5 (hartEvent 2 0x0843 3 [i.bd, i.sender, 0, i.written] e)
      else hartEvent 2 0x0843 3 [i.bd, i.sender, code, i.written] e)) ∧
  (∀ (s : State) (sender : Nat) (bundle : List Byte) (fault : Nat), bundleAllowed s.dev sender (bufLe bundle 6 1) = false →
    exec (.recoveryBundleInstall sender bundle fault) s = .next s)

/-- Digest contexts (R268–R273, R277, R278, R285): Open takes the lowest free context with the settings of DG_ARG0–4,
or refuses settings out of range, and is Busy while the hart has a Prefix or Feed running; Prefix and Feed start on
the bytes at DG_ARG0, and a Feed of a Closed context is truncated; the end of a Prefix extends the head, that of a
Feed absorbs; Begin opens absorption on a head of whole blocks; a command on a context that is not open is refused.
Where the spec leaves room, its clauses follow the model's choices and readings (notes/assumptions/63.md). -/
def Obligations.DigestContexts : Prop :=
  (∀ (s : State) (h : Hart) (n : Nat), MayWrite s.dev h 4 → (dgBank s.dev h).job = none →
    openRanges (dgBank s.dev h) (openSettings (dgBank s.dev h) h 0) = true → keysAdmit s.dev.kv (openSettings (dgBank s.dev h) h 0) = true →
    freeCtx s.dev.dg = some n →
    exec (.dgOpen h) s = .next { s with dev := (dgResult h 1 0 n
      (modDg (fun g => { g with ctxs := g.ctxs ++ [openSettings (dgBank s.dev h) h n] }) s.dev)) }) ∧
  (∀ (s : State) (h : Hart), MayWrite s.dev h 4 → (dgBank s.dev h).job = none →
    openRanges (dgBank s.dev h) (openSettings (dgBank s.dev h) h 0) = false → exec (.dgOpen h) s = .next { s with dev := dgResult h 1 5 0 s.dev }) ∧
  (∀ (s : State) (h : Hart), MayWrite s.dev h 4 → (dgBank s.dev h).job ≠ none → exec (.dgOpen h) s = .next { s with dev := dgResult h 1 6 0 s.dev }) ∧
  (∀ (s : State) (h : Hart) (c : Ctx) (x : Context) (bs : List Byte), OwnContext s.dev h c x → x.state = .prefix_ →
    engineReadFor h s.dev (dgBank s.dev h).args[0].toNat (dgBank s.dev h).args[1].toNat = some bs → s.dev.flipped = [] →
    exec (.dgPrefix h c) s = .next { s with dev := (dgResult h 2 0 0
      (modDgBank h (fun b => { b with job := some { ctx := x.no, bytes := bs, isPrefix := true } }) s.dev)) }) ∧
  (∀ (s : State) (h : Hart) (c : Ctx) (x : Context) (bs : List Byte), OwnContext s.dev h c x → x.source = 0 → x.state = .absorbing →
    engineReadFor h s.dev (dgBank s.dev h).args[0].toNat (dgBank s.dev h).args[1].toNat = some bs → s.dev.flipped = [] →
    exec (.dgFeed h c) s = .next { s with dev := (dgResult h 4 0 0
      (modDgBank h (fun b => { b with job := some { ctx := x.no, bytes := bs, isPrefix := false } }) s.dev)) }) ∧
  (∀ (s : State) (h : Hart) (c : Ctx) (x : Context), OwnContext s.dev h c x → x.source = 0 → x.state = .closed →
    exec (.dgFeed h c) s = .next { s with dev := dgResult h 4 1 0 (truncated x s.dev) }) ∧
  (∀ (s : State) (h : Hart) (c : Ctx), MayWrite s.dev h 4 → (dgBank s.dev h).job = none → ctxOf s.dev.dg c = none →
    exec (.dgPrefix h c) s = .next { s with dev := dgResult h 2 1 0 s.dev } ∧ exec (.dgFeed h c) s = .next { s with dev := dgResult h 4 1 0 s.dev } ∧
    exec (.dgBegin h c) s = .next { s with dev := dgResult h 3 1 0 s.dev } ∧ exec (.dgClose h c) s = .next { s with dev := dgResult h 6 1 0 s.dev } ∧
    exec (.dgFree h c) s = .next { s with dev := dgResult h 7 1 0 s.dev } ∧ exec (.dgCmpArm h c) s = .next { s with dev := dgResult h 8 1 0 s.dev }) ∧
  (∀ (s : State) (h : Hart) (j : DgJob), mainRuns s.dev = true → (dgBank s.dev h).job = some j →
    exec (.dgFeedComplete h) s = .next { s with dev := feedEnds h j (modDgBank h (fun b => { b with job := none }) s.dev) }) ∧
  (∀ (d : Device) (h : Hart) (j : DgJob) (x : Context), ctxOf d.dg j.ctx = some x → j.isPrefix = true → x.state = .prefix_ →
    feedEnds h j d = dgResult h 2 0 0 (modDg (fun g => juggle (putCtx g { x with head := x.head ++ j.bytes })) d)) ∧
  (∀ (d : Device) (h : Hart) (j : DgJob) (x : Context), ctxOf d.dg j.ctx = some x → j.isPrefix = false → x.state = .absorbing →
    feedEnds h j d = dgResult h 4 0 0 (dgLift (feedCtx d.tx.epoch j.bytes x d.dg) d)) ∧
  (∀ (s : State) (h : Hart) (c : Ctx) (x : Context), OwnContext s.dev h c x → x.state = .prefix_ → x.head.length % 136 = 0 → x.keyed = false →
    x.source ≠ 2 → x.keyMode = false → 0 < x.declLen →
    exec (.dgBegin h c) s = .next { s with dev := (dgResult h 3 0 0 { s.dev with dg := juggle (putCtx s.dev.dg { x with state := .absorbing, rung := none }) }) }) ∧
  (∀ (s : State) (h : Hart) (c : Ctx) (x : Context), OwnContext s.dev h c x → x.state = .prefix_ → x.head.length % 136 ≠ 0 →
    exec (.dgBegin h c) s = .next { s with dev := dgResult h 3 5 0 s.dev })

/-- What a context absorbs (R285): bytes within the declared length; more sets TRUNC; the declared length reached
finalises and unbinds the tap. The output is SHAKE-256 of head, message and suffix with the context's domain (R274);
an entry passes only for a 64-byte output equal to the expected value, with no TRUNC, SHORT or gap (R294). A burst
behind the tap changes nothing, and one past it leaves a gap with event 0x0506. Where the spec leaves room, its
clauses follow the model's choices and readings (notes/assumptions/63.md). -/
def Obligations.DigestAbsorption : Prop :=
  (∀ (epoch : Nat) (bs : List Byte) (c : Context), c.msg.length ≤ c.declLen →
    (feedBytes epoch bs c).msg = c.msg ++ bs.take (c.declLen - c.msg.length) ∧
    ((feedBytes epoch bs c).trunc = (c.trunc || decide (c.declLen < c.msg.length + bs.length))) ∧
    (c.declLen ≤ c.msg.length + bs.length → (feedBytes epoch bs c).state = .final_ ∧ (feedBytes epoch bs c).tap = none ∧
      (feedBytes epoch bs c).epoch = epoch) ∧
    (c.msg.length + bs.length < c.declLen → (feedBytes epoch bs c).state = c.state ∧ (feedBytes epoch bs c).tap = c.tap) ∧
    (feedBytes epoch bs c).msg.length ≤ c.declLen) ∧
  (∀ c : Context, ctxOutput c = sponge c.domain (c.head ++ c.msg ++ c.suffix) c.outLen) ∧
  (∀ (c : Context) (e : List Byte), c.state ≠ .faulted →
    (cmpVerdict c e = .pass ↔ c.output = e ∧ c.output.length = 64 ∧ c.trunc = false ∧ c.short = false ∧ c.gap = false)) ∧
  (∀ (c : Context) (e : List Byte), c.state = .faulted → cmpVerdict c e = .fault) ∧
  (∀ (epoch off : Nat) (data : List Byte) (c : Context) (dg : DigestEngine) (t : Tap), c.tap = some t → c.gap = false → c.state = .absorbing →
    (off + data.length ≤ t.next → tapBurst epoch off data c dg = { dg := dg }) ∧
    (t.next < off → off + data.length > t.next → tapBurst epoch off data c dg =
      { dg := setCtx dg { c with gap := true }, events := [(0x0506, 3, [c.no, c.owner, t.next, off])] }))

/-- Taps, ends and compare entries (R270, R280, R281, R286, R293): Bind is hart 2's and gives a streaming class 0
context a tap on a device; Close ends a stream; Free removes the context with its entry; Arm takes the lowest free
entry; an entry is freed by its owner; a burst reaches the tap at its offset; undefined codes are BadArgument. Lanes
(R289, R292, R298, R299): a lane's block is counted; a Final context is squeezed and Closed; a dual-rail fault takes
the lane out of service and faults the context (and during stage 0 is the ROM's to see, R353), a self test that passed
brings it back; with nothing in a restart DIGEST_ENGINE_RESTART_DONE has no effect. Where the spec leaves room, its
clauses follow the model's choices and readings (notes/assumptions/3.md, notes/assumptions/13.md,
notes/assumptions/64.md, notes/assumptions/76.md). -/
def Obligations.DigestTapsAndLanes : Prop :=
  (∀ (s : State) (c : Ctx) (x : Context), OwnContext s.dev 2 c x → x.state = .absorbing → x.tap = none → x.source = 1 → x.cls = 0 →
    (dgBank s.dev 2).args[1].toNat % 4096 = 0 →
    exec (.dgBind 2 c) s = .next { s with dev := (dgResult 2 5 0 0 (bindTap x (field (dgBank s.dev 2).args[0] 0 6) (dgBank s.dev 2).args[1].toNat s.dev)) }) ∧
  (∀ (s : State) (h : Hart) (c : Ctx), MayWrite s.dev h 4 → (dgBank s.dev h).job = none → h ≠ 2 →
    exec (.dgBind h c) s = .next { s with dev := dgResult h 5 2 0 s.dev }) ∧
  (∀ (s : State) (h : Hart) (c : Ctx) (x : Context), OwnContext s.dev h c x → x.state = .absorbing →
    exec (.dgClose h c) s = .next { s with dev := dgResult h 6 0 0 (dgLift (closeStream x s.dev.dg) s.dev) }) ∧
  (∀ (s : State) (h : Hart) (c : Ctx) (x : Context), OwnContext s.dev h c x → x.state ≠ .absorbing →
    exec (.dgClose h c) s = .next { s with dev := dgResult h 6 1 0 s.dev }) ∧
  (∀ (s : State) (h : Hart) (c : Ctx) (x : Context), OwnContext s.dev h c x →
    exec (.dgFree h c) s = .next { s with dev := (if x.state = .final_ then dgResult h 7 1 0 s.dev
      else dgResult h 7 0 0 (modDg (freeContext x.no) s.dev)) }) ∧
  (∀ (s : State) (h : Hart) (c : Ctx) (x : Context) (bs : List Byte) (n : Nat), OwnContext s.dev h c x → x.outLen = 64 → x.outDest ≠ 1 →
    s.dev.dg.cmps.any (fun e => e.ctx == x.no) = false → (dgBank s.dev h).args[0].toNat % 8 = 0 →
    engineReadFor h s.dev (dgBank s.dev h).args[0].toNat 64 = some bs → s.dev.flipped = [] → freeCmp s.dev.dg = some n →
    exec (.dgCmpArm h c) s = .next { s with dev := dgResult h 8 0 n (dgLift (armEntry n x bs s.dev.dg) s.dev) }) ∧
  (∀ (s : State) (h : Hart) (e : Nat) (x : CmpEntry), MayWrite s.dev h 4 → (dgBank s.dev h).job = none →
    s.dev.dg.cmps.find? (fun y => y.no == e % 256) = some x → x.owner = 0x10 + h.val →
    exec (.dgCmpFree h e) s =
      .next { s with dev := dgResult h 9 0 0 (modDg (fun g => { g with cmps := g.cmps.filter (fun y => y.no != x.no) }) s.dev) }) ∧
  (∀ (s : State) (h : Hart) (e : Nat) (x : CmpEntry), MayWrite s.dev h 4 → (dgBank s.dev h).job = none →
    s.dev.dg.cmps.find? (fun y => y.no == e % 256) = some x → x.owner ≠ 0x10 + h.val →
    exec (.dgCmpFree h e) s = .next { s with dev := dgResult h 9 2 0 s.dev }) ∧
  (∀ (s : State) (h : Hart) (code : Nat), MayWrite s.dev h 4 → (dgBank s.dev h).job = none →
    exec (.dgUndefinedCommand h code) s = .next { s with dev := dgResult h (code % 16) 5 0 s.dev }) ∧
  (∀ (s : State) (c : Ctx) (x : Context) (t : Tap) (off : Nat) (data : List Byte), mainRuns s.dev = true → ctxOf s.dev.dg c = some x → x.tap = some t →
    exec (.tapBurst c off data) s =
      .next { s with dev := dgLift (tapBurst s.dev.tx.epoch (if t.kind = 3 then t.next else off) data x s.dev.dg) s.dev }) ∧
  (∀ (s : State) (l : Lane) (c : Nat), mainRuns s.dev = true → s.dev.dg.lanes[l].ctx = some c → bit s.dev.ec.inject 31 = false →
    exec (.laneBlockAbsorbed l) s = .next { s with dev := modDg (fun g => laneBlock g l) s.dev }) ∧
  (∀ (s : State) (l : Lane), s.dev.dg.lanes[l].ctx = none → exec (.laneBlockAbsorbed l) s = .next s) ∧
  (∀ (s : State) (c : Ctx) (x : Context), mainRuns s.dev = true → ctxOf s.dev.dg c = some x → x.state = .final_ →
    exec (.contextSqueezeDone c) s = .next { s with dev := dgLift (squeezeCtx x s.dev.dg) s.dev }) ∧
  (∀ (s : State) (c : Ctx), ctxOf s.dev.dg c = none → exec (.contextSqueezeDone c) s = .next s) ∧
  (∀ (s : State) (l : Lane) (c : Ctx), mainRuns s.dev = true →
    exec (.laneFault l c false) s = .next { s with dev := romFaulted (contextFault 1 l c (modDg (fun g =>
      { g with laneFaults := satAdd 8 g.laneFaults 1, lanes := g.lanes.set l { g.lanes[l] with ctx := none, run := 0, offline := true } }) s.dev)) } ∧
    exec (.laneFault l c true) s =
      .next { s with dev := romFaulted (contextFault 2 l c (modDg (fun g => { g with eccFaults := satAdd 8 g.eccFaults 1 }) s.dev)) }) ∧
  (∀ (s : State) (l : Lane), mainRuns s.dev = true → s.dev.dg.lanes[l].offline = true →
    exec (.laneSelfTestDone l true) s = .next { s with dev := (modDg (fun g =>
      juggle { g with lanes := g.lanes.set l { g.lanes[l] with offline := false } }) s.dev) }) ∧
  (∀ (s : State) (l : Lane), exec (.laneSelfTestDone l false) s = .next s) ∧
  (∀ s : State, handlingOf s.dev 4 0 = none → exec .digestEngineRestartDone s = .next s) ∧
  (∀ (s : State) (e : ErrRec), handlingOf s.dev 4 0 = some e →
    exec .digestEngineRestartDone s = .next { s with dev := restartDone e (Config.freeByte s.dev.free).toNat (tookFree 1 s.dev) })

/-- The signature engine (R308–R318): a submit with room takes the job of the descriptor at the address, a fifth job
faults; a unit's job ends where its hart has room for the result; a result is popped with its verdict; a unit fault is
an error of class D; the self test's end is told to the unit. What a signature job comes to (R306, R309, R310, R316):
8 for a bad descriptor, 12 for a Verify job's engine fault, for a Verify job the code of its key check before that of
its signature; a signature that is written verifies under the public key of its seed (R306); a key of source 1 must be
fused with the public key's digest and not revoked. Where the spec leaves room, its clauses follow the model's choices
and readings (notes/assumptions/3.md, notes/assumptions/6.md, notes/assumptions/65.md). -/
def Obligations.SignatureEngine : Prop :=
  (∀ (s : State) (h : Hart) (v : Word), MayWrite s.dev h 5 → 4 ≤ jobsInFlight s.dev.sg h →
    exec (.sgSubmit h v) s = .next { s with dev := accessFault h 0x60050000 s.dev }) ∧
  (∀ (s : State) (h : Hart) (v : Word) (a : Nat) (d : Device), MayWrite s.dev h 5 → jobsInFlight s.dev.sg h < 4 →
    v.toNat - v.toNat % 64 = a → readErrors a 64 s.dev = d →
    exec (.sgSubmit h v) s = .next { s with dev := acceptJob (readJob h a s.dev) (noteSigning h (readJob h a s.dev) d) }) ∧
  (∀ (h : Hart) (j : SgJob) (d : Device), h ≠ 3 ∨ j.op ≠ 2 ∨ j.source ≠ 4 → noteSigning h j d = d) ∧
  (∀ (j : SgJob) (d : Device), j.op = 1 ∨ d.sg.units[2].offline = false → acceptJob j d = modSg (queueJob j) d) ∧
  (∀ (s : State) (u : Unit3) (fault : Nat) (j : SgJob) (h : Nat), mainRuns s.dev = true → s.dev.sg.units[u].job = some j → j.hart = some h →
    (vget s.dev.sg.results h).length < 4 → exec (.sgJobComplete u fault) s = .next { s with dev := endJob u j fault s.dev }) ∧
  (∀ (s : State) (u : Unit3) (fault : Nat), s.dev.sg.units[u].job = none → exec (.sgJobComplete u fault) s = .next s) ∧
  (∀ (s : State) (h : Hart), MayRead s.dev h → s.dev.sg.results[h] = [] →
    exec (.sgResultPop h) s = .next { s with dev := replyWord 0 s.dev }) ∧
  (∀ (s : State) (h : Hart) (r : SgResult) (tl : List SgResult), MayRead s.dev h → s.dev.sg.results[h] = r :: tl →
    exec (.sgResultPop h) s = .next { s with dev := (replyWord (resultWord r) ((if h.val = 3 then sheetSigned r else id)
      (modSg (fun g => { popResult h tl g with
        verdict := if r.op = 1 then g.verdict.set h (verdictPair r.code) else g.verdict }) s.dev))) }) ∧
  (∀ (r : SgResult) (d : Device), d.lg.signing = none ∨ r.op ≠ 2 → sheetSigned r d = d) ∧
  (∀ (h : Hart) (tl : List SgResult) (g : SigEngine), g.late[h] = [] → (popResult h tl g).results[h] = tl) ∧
  (∀ (s : State) (u : Unit3), mainRuns s.dev = true → exec (.sgUnitFault u) s = .next { s with dev := (errorArrives { cls := 2, block := 5, inst := u, kind := 2, word := 0 }
    (romFaulted (sgLift (unitFault u s.dev.sg) s.dev))) }) ∧
  (∀ (s : State) (u : Unit3) (ok : Bool), mainRuns s.dev = true → s.dev.sg.units[u].testing = true →
    exec (.sgUnitSelfTestDone u ok) s = .next { s with dev := modSg (unitTested u ok) s.dev }) ∧
  (∀ (s : State) (e : ErrRec), handlingOf s.dev 5 0 = some e → exec .sgEngineRestartDone s = .next { s with dev := (freeRestart e (modSg (fun g => startJobs { g with restarting := false }) s.dev)) }) ∧
  (∀ s : State, handlingOf s.dev 5 0 = none → exec .sgEngineRestartDone s = .next s) ∧
  (∀ (d : Device) (j : SgJob) (fault : Nat), badJob j = true → jobOutcome d j fault = (8, [])) ∧
  (∀ (d : Device) (j : SgJob), badJob j = false → j.op = 1 → jobOutcome d j 12 = (12, [])) ∧
  (∀ (d : Device) (j : SgJob) (fault : Nat), badJob j = false → j.op = 2 → d.kv.entropyOk = false → jobOutcome d j fault = (12, [])) ∧
  (∀ (d : Device) (j : SgJob) (fault : Nat), badJob j = false → j.op = 2 → d.kv.entropyOk = true →
    jobOutcome d j fault = signJob d j (fault == 12)) ∧
  (∀ (d : Device) (j : SgJob) (faulty : Bool), (signJob d j faulty).1 ≠ 0 ∨ ∃ seed msg ctx, jobSeed d j = some seed ∧
    verifyCode (mldsaPublic seed) ctx msg (signJob d j faulty).2 = 0 ∧ faulty = false) ∧
  (∀ (d : Device) (j : SgJob) (seed msg ctx : List Byte), jobSeed d j = some seed → jobInput d (jobHart j) j.msgAddr j.msgLen = some msg →
    jobInput d (jobHart j) j.ctxAddr j.ctxLen = some ctx → jobWrites d (jobHart j) j.sigAddr 3309 = true →
    signJob d j false = match mldsaSign seed ctx msg (if j.det then zeros 32 else freeBytes d 32) with
      | none => (9, [])
      | some sig => if verifyCode (mldsaPublic seed) ctx msg sig != 0 then (12, []) else (0, sig)) ∧
  (∀ (d : Device) (j : SgJob) (fault : Nat), badJob j = false → j.op = 1 → fault ≠ 12 → jobOutcome d j fault = (verifyJob d j, [])) ∧
  (∀ (d : Device) (j : SgJob) (msg ctx pk sig dg : List Byte), jobInput d (jobHart j) j.msgAddr j.msgLen = some msg →
    jobInput d (jobHart j) j.ctxAddr j.ctxLen = some ctx →
    jobInput d (jobHart j) j.keyAddr 1952 = some pk → jobInput d (jobHart j) j.sigAddr 3309 = some sig →
    (if j.source = 3 then jobInput d (jobHart j) j.pkDigAddr 64 else some []) = some dg →
    verifyJob d j = if keyCheck d j pk dg ≠ 0 then keyCheck d j pk dg else verifyCode pk ctx msg sig) ∧
  (∀ (d : Device) (j : SgJob) (pk dg : List Byte), j.source = 1 → j.key < 8 → keyFused d 1 j.key = true →
    shake256 pk 64 = fusedHash d 1 j.key → keyCheck d j pk dg = if keyRevoked d 1 j.key then 4 else 0) ∧
  (∀ (d : Device) (j : SgJob) (pk dg : List Byte), j.source = 1 → keyFused d 1 j.key = false ∨ shake256 pk 64 ≠ fusedHash d 1 j.key →
    keyCheck d j pk dg = 3)

/-- Key vault slots (R324–R331, R342): Reserve gives an Empty slot to the hart with the rights of KV_ARG; Clear
empties an own slot; Random fills a Reserved one with 64 bytes of the entropy source, RootDerive and LadderDerive with
the derived secret and rights; Transfer gives it to another hart; Restrict only removes rights; a Reserve of a hart
with a running command is Busy; a slot of another hart is NotOwner, but for a derivation without a root, which is
NoRoot first (R342). Key generations (R322, R331, R334, R343): the staging commands are hart 0's; StageInstall and
StageRetire mark a slot pending; StageRoot puts a fresh root, without its CommitWord, into the inactive buffer;
StageWrite writes the journal image of the next generation; StageDrop discards all of it; CommitInitial commits
generation 1 of a Manufactured device. The command's end clears Busy; undefined codes are BadArgument. Where the spec
leaves room, its clauses follow the model's choices and readings (notes/assumptions/5.md, notes/assumptions/67.md,
notes/assumptions/68.md). -/
def Obligations.KeyVault : Prop :=
  (∀ (s : State) (h : Hart) (k : KvSlot), VaultReady s.dev h → k ≠ 0 → rootOutcome s.dev = 0 → slotOf s.dev.kv k = none →
    exec (.kvReserve h k) s = .next { s with dev := (kvResult h 1 0 true (modKv (fun v =>
      setSlot v { no := k, valid := false, owner := 0x10 + h.val, rights := field (kvArg s.dev h) 0 4 }) s.dev)) }) ∧
  (∀ (s : State) (h : Hart) (k : KvSlot) (x : VaultSlot), VaultReady s.dev h → k ≠ 0 → rootOutcome s.dev = 0 → slotOf s.dev.kv k = some x →
    exec (.kvReserve h k) s = .next { s with dev := kvResult h 1 1 false s.dev }) ∧
  (∀ (s : State) (h : Hart) (k : KvSlot), MayWrite s.dev h 3 → s.dev.kv.banks[h].busy = true →
    exec (.kvReserve h k) s = .next { s with dev := kvResult h 1 6 true s.dev }) ∧
  (∀ (s : State) (h : Hart) (k : KvSlot) (x : VaultSlot), VaultReady s.dev h → k ≠ 0 → slotOf s.dev.kv k = some x → x.owner = 0x10 + h.val →
    x.persistent = false → x.pending = false →
    exec (.kvClear h k) s = .next { s with dev := kvResult h 2 0 true (unwritten (modKv (fun v => dropSlot v k) s.dev)) }) ∧
  (∀ (s : State) (h : Hart) (k : KvSlot) (x : VaultSlot), VaultReady s.dev h → k ≠ 0 → slotOf s.dev.kv k = some x → x.owner ≠ 0x10 + h.val →
    exec (.kvClear h k) s = .next { s with dev := kvResult h 2 2 false s.dev } ∧
    exec (.kvRandom h k) s = .next { s with dev := kvResult h 3 2 false s.dev } ∧
    exec (.kvRootDerive h k) s = .next { s with dev := kvResult h 4 (if rootOutcome s.dev = 0 then 2 else rootOutcome s.dev) false s.dev } ∧
    exec (.kvLadderDerive h k) s = .next { s with dev := kvResult h 5 (if rootOutcome s.dev = 0 then 2 else rootOutcome s.dev) false s.dev } ∧
    exec (.kvTransfer h k) s = .next { s with dev := kvResult h 6 2 false s.dev } ∧
    exec (.kvRestrict h k) s = .next { s with dev := kvResult h 7 2 false s.dev }) ∧
  (∀ (s : State) (h : Hart) (k : KvSlot) (x : VaultSlot), VaultReady s.dev h → k ≠ 0 → slotOf s.dev.kv k = some x → x.owner = 0x10 + h.val →
    x.valid = false → s.dev.kv.entropyOk = true →
    exec (.kvRandom h k) s = .next { s with dev := (kvResult h 3 0 true (tookFree 64
      (modKv (fun v => setSlot v { x with valid := true, value := freeBytes s.dev 64 }) s.dev))) }) ∧
  (∀ (s : State) (h : Hart) (k : KvSlot) (x : VaultSlot), VaultReady s.dev h → k ≠ 0 → slotOf s.dev.kv k = some x → x.owner = 0x10 + h.val →
    x.valid = false → s.dev.kv.entropyOk = false → exec (.kvRandom h k) s = .next { s with dev := kvResult h 3 5 false s.dev }) ∧
  (∀ (s : State) (h : Hart) (k : KvSlot) (x : VaultSlot), VaultReady s.dev h → k ≠ 0 → slotOf s.dev.kv k = some x → x.owner = 0x10 + h.val →
    x.valid = false → rootOutcome s.dev = 0 → s.dev.kv.rootLock = false → field (kvArg s.dev h) 0 4 = 2 →
    exec (.kvRootDerive h k) s = .next { s with dev := (kvResult h 4 0 true (modKv (fun v => setSlot v
      { x with valid := true, rights := 12, value := derive (activeRoot s.dev.kv s.dev.bat) "identity" 0 }) s.dev)) }) ∧
  (∀ (s : State) (h : Hart) (k : KvSlot) (x : VaultSlot), VaultReady s.dev h → k ≠ 0 → slotOf s.dev.kv k = some x → x.owner = 0x10 + h.val →
    x.valid = false → rootOutcome s.dev = 0 → s.dev.kv.rootLock = true → rootLabel (field (kvArg s.dev h) 0 4) ≠ none →
    exec (.kvRootDerive h k) s = .next { s with dev := kvResult h 4 3 false s.dev }) ∧
  (∀ (s : State) (h : Hart) (k : KvSlot) (x : VaultSlot), VaultReady s.dev h → k ≠ 0 → slotOf s.dev.kv k = some x → x.owner = 0x10 + h.val →
    x.valid = false → rootOutcome s.dev = 0 → field (kvArg s.dev h) 0 16 ≠ 1 ∨ s.dev.kv.rootLock = false →
    exec (.kvLadderDerive h k) s = .next { s with dev := (kvResult h 5 0 true (modKv (fun v => setSlot v { x with
      valid := true, rights := 3, ladder := true, cls := field (kvArg s.dev h) 0 16, version := field (kvArg s.dev h) 16 8,
      value := ladderRung (activeRoot s.dev.kv s.dev.bat) (field (kvArg s.dev h) 0 16) (field (kvArg s.dev h) 16 8) }) s.dev)) }) ∧
  (∀ (s : State) (h : Hart) (k : KvSlot) (x : VaultSlot), VaultReady s.dev h → k ≠ 0 → slotOf s.dev.kv k = some x → x.owner = 0x10 + h.val →
    x.valid = true → within 0x10 0x13 (field (kvArg s.dev h) 0 8) = true →
    exec (.kvTransfer h k) s = .next { s with dev := (kvResult h 6 0 true (unwritten
      (modKv (fun v => setSlot v { x with owner := field (kvArg s.dev h) 0 8 }) s.dev))) }) ∧
  (∀ (s : State) (h : Hart) (k : KvSlot) (x : VaultSlot), VaultReady s.dev h → k ≠ 0 → slotOf s.dev.kv k = some x → x.owner = 0x10 + h.val →
    x.valid = true → x.persistent = false →
    exec (.kvRestrict h k) s = .next { s with dev := (kvResult h 7 0 true
      (modKv (fun v => setSlot v { x with rights := x.rights &&& field (kvArg s.dev h) 0 4 }) s.dev)) }) ∧
  (∀ (s : State) (h : Hart) (k : KvSlot), VaultReady s.dev h → h ≠ 0 →
    exec (.kvStageInstall h k) s = .next { s with dev := kvResult h 8 3 false s.dev } ∧
    exec (.kvStageRetire h k) s = .next { s with dev := kvResult h 9 3 false s.dev } ∧
    exec (.kvStageRoot h) s = .next { s with dev := kvResult h 10 3 false s.dev } ∧
    exec (.kvStageWrite h) s = .next { s with dev := kvResult h 11 3 false s.dev } ∧
    exec (.kvStageDrop h) s = .next { s with dev := kvResult h 12 3 false s.dev } ∧
    exec (.kvCommitInitial h) s = .next { s with dev := kvResult h 13 3 false s.dev }) ∧
  (∀ (s : State) (k : KvSlot) (x : VaultSlot), VaultReady s.dev 0 → k ≠ 0 → slotOf s.dev.kv k = some x → x.valid = true → x.persistent = false →
    exec (.kvStageInstall 0 k) s = .next { s with dev := (kvResult 0 8 0 true (unwritten
      (modKv (fun v => setSlot v { x with pending := true }) s.dev))) }) ∧
  (∀ (s : State) (k : KvSlot) (x : VaultSlot), VaultReady s.dev 0 → k ≠ 0 → slotOf s.dev.kv k = some x → x.persistent = true →
    exec (.kvStageRetire 0 k) s = .next { s with dev := (kvResult 0 9 0 true (unwritten
      (modKv (fun v => setSlot v { x with pending := true }) s.dev))) }) ∧
  (∀ s : State, VaultReady s.dev 0 → s.dev.kv.stagedRoot = false → s.dev.kv.entropyOk = true →
    exec (.kvStageRoot 0) s = .next { s with dev := kvResult 0 10 0 true (stageRoot s.dev) }) ∧
  (∀ d : Device, (stageRoot d).kv.stagedRoot = true ∧ (stageRoot d).kv.written = false ∧ (stageRoot d).mem = d.mem ∧
    (stageRoot d).bat.latch = d.bat.latch ∧
    (stageRoot d).bat.roots = vmod d.bat.roots (stagedRootBuf d.kv) (fun _ => {
      generation := d.kv.jrnlGen + 1, secret := freeBytes d 64, check := rootCheck (d.kv.jrnlGen + 1) (freeBytes d 64), commit := 0 })) ∧
  (∀ s : State, VaultReady s.dev 0 → s.dev.kv.stagedRoot = true → exec (.kvStageWrite 0) s =
    .next { s with dev := kvResult 0 11 0 true (stageWrite s.dev) }) ∧
  (∀ s : State, VaultReady s.dev 0 → s.dev.kv.stagedRoot = false → s.dev.kv.slots.any (·.pending) = false →
    exec (.kvStageWrite 0) s = .next { s with dev := kvResult 0 11 1 false s.dev }) ∧
  (∀ s : State, VaultReady s.dev 0 → exec (.kvStageDrop 0) s = .next { s with dev := kvResult 0 12 0 true (stageDrop s.dev) }) ∧
  (∀ s : State, VaultReady s.dev 0 → s.dev.lc.state = lcManufactured → s.dev.kv.jrnlGen = 0 → s.dev.kv.written = true →
    s.dev.kv.stagedRoot = true → exec (.kvCommitInitial 0) s = .next { s with dev := kvResult 0 13 0 true (commitKeys s.dev) }) ∧
  (∀ s : State, VaultReady s.dev 0 → s.dev.lc.state ≠ lcManufactured →
    exec (.kvCommitInitial 0) s = .next { s with dev := kvResult 0 13 3 false s.dev }) ∧
  (∀ (s : State) (h : Hart) (code : Nat), VaultReady s.dev h → ¬ (8 ≤ code % 16 ∧ code % 16 ≤ 13 ∧ h ≠ 0) →
    exec (.kvUndefinedCommand h code) s = .next { s with dev := kvResult h (code % 16) 7 false s.dev }) ∧
  (∀ (s : State) (h : Hart), mainRuns s.dev = true → exec (.kvCommandDone h) s = .next { s with dev := (modKv (fun k => { k with banks := k.banks.set h { k.banks[h] with busy := false } }) s.dev) })

/-- Tamper and entropy (R324, R339–R341): an alarm of an enabled sensor clears both roots and latches the sensor,
without main power too; a disabled sensor only shows live, and live falls as the condition ends; a sensor that does
not run shows nothing, and none runs without the battery domain; an entropy health failure records event 0x0408 and
stops the source until it recovers. Where the spec leaves room, its clauses follow the model's choices and readings
(notes/assumptions/50.md, notes/assumptions/69.md, notes/assumptions/121.md). -/
def Obligations.TamperAndEntropy : Prop :=
  (∀ (s : State) (n : Sensor), sensorRuns s.dev n = true → sensorEnabled s.dev n = true →
    exec (.tamperAlarm n true) s = .next { s with dev := tamperAlarm n { s.dev with sensorLive := setBit s.dev.sensorLive n } }) ∧
  (∀ (s : State) (n : Sensor), sensorRuns s.dev n = true → mainUp s.dev = false → sensorEnabled s.dev n = true →
    ∃ t, exec (.tamperAlarm n true) s = .next t ∧ t.dev.bat.roots = Vector.replicate 2 {} ∧ t.dev.bat.latch = setBit s.dev.bat.latch n ∧
      t.dev.bat.alarms = satAdd 16 s.dev.bat.alarms 1 ∧ t.dev.lg.tamperSeen = true ∧ t.dev.kv = s.dev.kv ∧ t.dev.mem = s.dev.mem) ∧
  (∀ (n code ts : Nat) (b : Battery), hasBit (tamperClear n code ts b).latch n = true ∧ (tamperClear n code ts b).reseed = zeros 128 ∧
    (tamperClear n code ts b).alarms = satAdd 16 b.alarms 1 ∧ (∀ i < 2, vget (tamperClear n code ts b).roots i = {})) ∧
  (∀ (s : State) (n : Sensor), sensorRuns s.dev n = true → sensorEnabled s.dev n = false →
    exec (.tamperAlarm n true) s = .next { s with dev.sensorLive := setBit s.dev.sensorLive n }) ∧
  (∀ (s : State) (n : Sensor), sensorRuns s.dev n = true →
    exec (.tamperAlarm n false) s = .next { s with dev.sensorLive := clrBit s.dev.sensorLive n }) ∧
  (∀ (s : State) (n : Sensor) (on : Bool), sensorRuns s.dev n = false → exec (.tamperAlarm n on) s = .next s) ∧
  (∀ d : Device, d.bat.vbd = false → ∀ n : Sensor, sensorRuns d n = false) ∧
  (∀ (s : State) (test : Nat), mainUp s.dev = true → exec (.entropyHealthFailure test) s = .next { s with dev := (eventsRaw [(0x0408, 4, [test, 0, 0, 0, 0])] (modKv (fun k => { k with entropyOk := false }) s.dev)) }) ∧
  (∀ s : State, mainUp s.dev = true → exec .entropyHealthRecovery s = .next { s with dev.kv.entropyOk := true })

/-- The boot ledger (R402–R412): a submission by hart 3 that passes the checks of R402 is accepted at the offered
position, one that fails is refused with its outcome; other harts are refused with outcome 20, a busy ledger with 19;
a sheet at the front ends as stored or as failed; acknowledgements by hart 3 and by hosts wait to be served, and are
checked for number, domain and digest; an LG_ACK without Go has no effect. Where the spec leaves room, its clauses
follow the model's choices and readings (notes/assumptions/3.md, notes/assumptions/35.md, notes/assumptions/36.md,
notes/assumptions/40.md, notes/assumptions/46.md, notes/assumptions/123.md). -/
def Obligations.BootLedger : Prop :=
  (∀ (s : State) (v : Word), MayWrite s.dev 3 10 → s.dev.lg.jobs = [] → s.dev.lg.recovered = true →
    exec (.lgSubmit 3 v) s = .next { s with dev := (match submitOutcome s.dev (v.toNat / 0x2000 * 0x2000), offeredPosition s.dev with
      | 0, some (p, o) => acceptSheet (memRead s.dev.mem (v.toNat / 0x2000 * 0x2000) 0x2000) p o (lgResult 1 0 s.dev)
      | 7, _ => reamFullEvent (lgResult 1 7 (sheetRefused (memRead s.dev.mem (v.toNat / 0x2000 * 0x2000) 0x2000) 7 s.dev))
      | n, _ => lgResult 1 n (sheetRefused (memRead s.dev.mem (v.toNat / 0x2000 * 0x2000) 0x2000) n s.dev)) }) ∧
  (∀ (s : State) (v : Word), MayWrite s.dev 3 10 → s.dev.lg.jobs ≠ [] → exec (.lgSubmit 3 v) s = .next { s with dev := lgResult 1 19 s.dev }) ∧
  (∀ (s : State) (h : Hart) (v : Word), MayWrite s.dev h 10 → h ≠ 3 →
    exec (.lgSubmit h v) s = .next { s with dev := lgResult 1 20 s.dev } ∧
    exec (.lgAck h v) s = .next { s with dev := lgResult 2 20 s.dev } ∧
    exec (.ovrUptoWrite h v) s = .next { s with dev := lgResult s.dev.lg.lastCmd 20 s.dev }) ∧
  (∀ (b : List Byte) (p : Nat) (o : Bool) (d : Device), (acceptSheet b p o d).lg.next = d.lg.next + 1 ∧
    (acceptSheet b p o d).lg.headDig = shake256 (b.take 7405) 64 ∧ (acceptSheet b p o d).lg.tamperSeen = false ∧
    (acceptSheet b p o d).lg.logDegraded = false ∧ (acceptSheet b p o d).mem = memWrite d.mem (sheetAddr p) (zeros 8)) ∧
  (∀ (s : State) (p : Nat) (b : List Byte) (prior : Option (Nat × Nat)) (pn : Nat) (pd : List Byte) (pl pt : Bool) (tl : List LgJob),
    mainRuns s.dev = true → s.dev.lg.jobs = .sheet p b prior pn pd pl pt :: tl →
    exec (.sheetStored true) s = .next { s with dev := sheetDone p b prior s.dev } ∧
    exec (.sheetStored false) s = .next { s with dev := sheetFailed p b prior pn pd pl pt s.dev }) ∧
  (∀ (s : State) (v : Word), MayWrite s.dev 3 10 → bit v 8 = true → field v 0 8 = 0x18 → s.dev.lg.jobs = [] → s.dev.lg.recovered = true →
    exec (.lgAck 3 v) s = .next { s with dev := (modLg (fun l => { l with jobs := [.ack 0x18 s.dev.lg.ackNum.toNat s.dev.lg.ackDig] })
      (lgResult 2 0 s.dev)) }) ∧
  (∀ (s : State) (v : Word), MayWrite s.dev 3 10 → bit v 8 = false → exec (.lgAck 3 v) s = .next s) ∧
  (∀ (s : State) (v : Word), MayWrite s.dev 3 10 → exec (.ovrUptoWrite 3 v) s =
    .next { s with dev := lgSettle (modLg (fun g => { g with ovrUpTo := v }) s.dev) }) ∧
  (∀ (s : State) (ld : Ld) (v : Word), cxlUp s.dev = true → s.dev.lg.recovered = true → (ldOf s.dev ld).ackBusy = false →
    exec (.hostPageAck ld v) s = .next { s with dev := (modLg (fun g => { g with jobs := g.jobs ++ [.ack ld v.toNat (ldOf s.dev ld).expDig] })
      (modLd ld (fun l => { l with ackBusy := true }) s.dev)) }) ∧
  (∀ (s : State) (ld : Ld) (v : Word), cxlUp s.dev = true → (ldOf s.dev ld).ackBusy = true →
    exec (.hostPageAck ld v) s = .next { s with dev := modLd ld (fun l => { l with ackOutcome := 19 }) s.dev }) ∧
  (∀ (s : State) (a n : Nat) (g : List Byte) (tl : List LgJob), mainRuns s.dev = true → s.dev.lg.jobs = .ack a n g :: tl →
    exec .ackServed s = .next { s with dev := serveAck a n g s.dev }) ∧
  (∀ (m : Memory) (bad : List Nat) (mask n : Nat) (g : List Byte) (p : Nat), (positionOf m bad n = none → checkAck m bad mask n g = 17) ∧
    (positionOf m bad n = some p → mask.testBit (sheetBd m p) = false → checkAck m bad mask n g = 16) ∧
    (positionOf m bad n = some p → mask.testBit (sheetBd m p) = true → (sheetDigest m p).take 8 ≠ g → checkAck m bad mask n g = 18) ∧
    (positionOf m bad n = some p → mask.testBit (sheetBd m p) = true → (sheetDigest m p).take 8 = g → checkAck m bad mask n g = 0)) ∧
  (∀ s : State, mainRuns s.dev = true → s.dev.kv.loadDone = true → s.dev.lg.recovered = false → heldPositions s.dev.mem = [] →
    exec (.reamRecovered true) s = .next { s with dev := lgSettle (modLg (recoverReam s.dev.mem true) s.dev) })

/-- Events reach the recorder (R416, R420–R423): through their bucket into the queue; without a token they are
suppressed and counted; at a full queue a hart's post stalls and any other is lost and counted; while the log is full
(but not during its clear, R424) or no segment is left they are dropped and counted. No event has an AID that R12 does
not list (R13), and a hart posts none while its firmware is not attached (R33). The event log (R418, R423–R427): the
front of the queue is written at the pointer with the next sequence number, skipping 0xFFFFFFFF, the word that holds
it last; a read-back that fails degrades the log; a clear during another one is Busy, and one without a rights record
is refused; recovery finds the pointer, resumes the time and carries the last-gasp ring. Where the spec leaves room,
its clauses follow the model's choices and readings (notes/assumptions/41.md, notes/assumptions/47.md,
notes/assumptions/115.md, notes/assumptions/123.md). -/
def Obligations.Events : Prop :=
  (∀ (s : State) (code sev aid : Nat) (params : List Nat), aidListed (aid % 256) = true → mainUp s.dev = true → s.dev.ev.noSurvivor = false →
    exec (.eventArrival code sev aid params) s = .next { s with dev.ev := (
      arrive (evEnv s.dev) false (code % 65536) (aid % 256) (sev % 16) params s.dev.ev) }) ∧
  (∀ (s : State) (code sev aid : Nat) (params : List Nat), mainUp s.dev = false ∨ aidListed (aid % 256) = false →
    exec (.eventArrival code sev aid params) s = .next s) ∧
  (∀ (s : State) (h : Hart) (v : Word), MayWrite s.dev h 9 → attached s.dev = true → 0x0100 ≤ field v 0 16 → field v 0 16 ≤ 0x0FFF →
    exec (.evPost h v) s = .next { s with dev := (arriveEvent true (field v 0 16) (0x10 + h)
      (if 6 < field v 16 4 then 4 else field v 16 4) (postParams s.dev h) s.dev) }) ∧
  (∀ (s : State) (h : Hart) (v : Word), MayWrite s.dev h 9 → attached s.dev = false ∨ field v 0 16 < 0x0100 ∨ 0x0FFF < field v 0 16 →
    exec (.evPost h v) s = .next s) ∧
  (∀ (env : EvEnv) (hart : Bool) (code aid sev : Nat) (ps : List Nat) (r : Recorder), (r.full = true ∧ r.clearing = none) ∨ r.noSurvivor = true →
    arrive env hart code aid sev ps r = { r with drop := satAdd 32 r.drop 1 }) ∧
  (∀ (env : EvEnv) (hart : Bool) (code aid sev : Nat) (ps : List Nat) (r : Recorder), logShut r = false → r.suppress = [] →
    hasToken env.rates r code = false → arrive env hart code aid sev ps r = summariseShared env (suppressEvent env.now code r)) ∧
  (∀ r : Recorder, r.noSurvivor = false → r.full = false ∨ r.clearing.isSome = true → logShut r = false) ∧
  (∀ (env : EvEnv) (hart : Bool) (code aid sev : Nat) (ps : List Nat) (r : Recorder), logShut r = false → r.suppress = [] →
    hasToken env.rates r code = true → r.queue.length < 32 →
    (arrive env hart code aid sev ps r).queue =
      r.queue ++ [{ ts := env.now, code := code, aid := aid, sev := sev, flags := 0, params := ps }]) ∧
  (∀ (env : EvEnv) (code aid sev : Nat) (ps : List Nat) (r : Recorder), logShut r = false → r.suppress = [] →
    hasToken env.rates r code = true → 32 ≤ r.queue.length →
    (arrive env true code aid sev ps r).stalled =
      r.stalled ++ [{ ts := env.now, code := code, aid := aid, sev := sev, flags := 0, params := ps }] ∧
    (arrive env true code aid sev ps r).queue = r.queue ∧
    (arrive env false code aid sev ps r).queueLost = satAdd 16 r.queueLost 1 ∧ (arrive env false code aid sev ps r).queue = r.queue) ∧
  (∀ s : State, recording s.dev = true → s.dev.ev.queue ≠ [] → rangeBroken (noteStore (recordAddr s.dev.ev.nextIndex) 64 s.dev) (recordAddr s.dev.ev.nextIndex) 64 = false →
    exec (.recordWriteDone false) s = .next { s with dev := (degradeLog (64 * s.dev.ev.nextIndex)
      (noteStore (recordAddr s.dev.ev.nextIndex) 64 s.dev)) }) ∧
  (∀ s : State, recording s.dev = true → s.dev.ev.queue ≠ [] → rangeBroken (noteStore (recordAddr s.dev.ev.nextIndex) 64 s.dev) (recordAddr s.dev.ev.nextIndex) 64 = false →
    exec (.recordWriteDone true) s = .next { s with dev := (readErrors (recordAddr s.dev.ev.nextIndex) 64 (afterWrite (logWritten
      (writeFront (evEnv (noteStore (recordAddr s.dev.ev.nextIndex) 64 s.dev)) s.dev.mem s.dev.ev)
      (noteStore (recordAddr s.dev.ev.nextIndex) 64 s.dev)))) }) ∧
  (∀ s : State, recording s.dev = false ∨ s.dev.ev.queue = [] → exec (.recordWriteDone true) s = .next s) ∧
  (∀ (env : EvEnv) (e : EventRec) (m : Memory) (r : Recorder), (putRecord env e m r).2.lastSeq = nextSeq r.lastSeq ∧
    (putRecord env e m r).1 = putSeqWord r.nextIndex (recordBytes env r e (nextSeq r.lastSeq))
      (putBody r.nextIndex (recordBytes env r e (nextSeq r.lastSeq)) m)) ∧
  (∀ (j : Nat) (b : List Byte) (m : Memory),
    putBody j b m = memWrite (memWrite m (recordAddr j) (b.take 8)) (recordAddr j + 16) (b.drop 16) ∧
    putSeqWord j b m = memWrite m (recordAddr j + 8) ((b.drop 8).take 8)) ∧
  (∀ n : Nat, n < 0xFFFFFFFE → nextSeq n = n + 1) ∧ nextSeq 0xFFFFFFFE = 0 ∧
  (∀ (d : Device) (aid n : Nat), d.ev.clearing.isSome = true ∨ d.ev.recovering = true → clearRequest d aid n = 3) ∧
  (∀ (d : Device) (aid n : Nat), d.ev.clearing = none → d.ev.recovering = false → rightsNow d aid = none → clearRequest d aid n = 1) ∧
  (∀ (s : State) (ld : Ld) (v : Word), cxlUp s.dev = true → exec (.hostEventClear ld v) s = .next { s with dev := (startClear ld (clearRequest s.dev ld v.toNat) (modLd ld (fun l => { l with clearOutcome := clearRequest s.dev ld v.toNat }) s.dev)) }) ∧
  (∀ (s : State) (v : Word), MayWrite s.dev 3 9 → bit v 8 = true →
    exec (.evClear 3 v) s = .next { s with dev := hartClear (field v 0 8) s.dev.ev.clearSeq.toNat s.dev }) ∧
  (∀ (s : State) (v : Word), MayWrite s.dev 3 9 → bit v 8 = false → exec (.evClear 3 v) s = .next s) ∧
  (∀ (s : State) (aid : Nat), mainRuns s.dev = true → s.dev.ev.clearing = some aid →
    exec .eventLogClearDone s = .next { s with dev := (afterWrite (logWritten
      (clearLog (evEnv s.dev) aid s.dev.mem s.dev.ev) s.dev)) }) ∧
  (∀ s : State, s.dev.ev.clearing = none → exec .eventLogClearDone s = .next s) ∧
  (∀ s : State, mainRuns s.dev = true → s.dev.kv.loadDone = true → s.dev.ev.recovering = true → s.dev.flipped = [] →
    exec .recorderRecovered s = .next { s with dev := (recordSpans <| afterWrite (logWritten
      (carryRing (evEnv (resumeTime (logWritten (recoverLog s.dev.mem s.dev.ev) s.dev)))
        (resumeTime (logWritten (recoverLog s.dev.mem s.dev.ev) s.dev)).bat
        ((resumeTime (logWritten (recoverLog s.dev.mem s.dev.ev) s.dev)).mem,
         (resumeTime (logWritten (recoverLog s.dev.mem s.dev.ev) s.dev)).ev))
      (resumeTime (logWritten (recoverLog s.dev.mem s.dev.ev) s.dev)))) })

/-- The CXL link (R431, R432, R453–R457): training ends in a link at the code and width, as W64 at 64 GT/s and x8
where the port accepts the partner's proposal, and stays in Detect with event 0x0C02 where it accepts neither CXL nor
W64; a proposal of a version other than 1, without W64, CXL.io or CXL.mem, or with CXL.cache, is not accepted; PERST#,
hot reset and surprise down are conventional resets of causes 1 to 3; blocks are counted as corrected or discarded,
and more than 64 discards in 1 ms fall back to 32 GT/s. LD resets and HDM decoders (R435, R438, R453): a function
level reset, a view reset and a hot reset vector are LD resets of causes 1 to 3; a decoder commits for an allocated LD
with a base on 256 MiB, size 256 MiB, no interleave and no skip, and otherwise records event 0x0C08 with its error; a
locked commit stands. Where the spec leaves room, its clauses follow the model's choices and readings
(notes/assumptions/2.md, notes/assumptions/3.md, notes/assumptions/48.md, notes/assumptions/58.md,
notes/assumptions/66.md, notes/assumptions/124.md). -/
def Obligations.CxlLinkAndLogicalDevices : Prop :=
  (∀ (s : State) (rate width : Nat) (cxl : Bool) (w64 : Option Nat), mainRuns s.dev = true → s.dev.pins.cxPerst = false → s.dev.cx.training = true →
    s.dev.cx.restarting = false → within 1 5 rate = true → width = 1 ∨ width = 2 ∨ width = 4 ∨ width = 8 →
    cxl = true ∨ w64.any (acceptsW64 s.dev) = true →
    ∃ t, exec (.linkUp rate width cxl w64) s = .next t ∧ t.dev.cx.linkUp = true ∧ t.dev.cx.training = false ∧ t.dev.cx.width = width ∧
      t.dev.cx.w64Active = (w64.any (acceptsW64 s.dev) && rate == 5 && width == 8) ∧
      t.dev.cx.rate = (if (w64.any (acceptsW64 s.dev) && rate == 5 && width == 8) = true then 5 else min rate 4) ∧
      t.dev.cx.lds = s.dev.cx.lds ∧ t.dev.mem = s.dev.mem ∧ t.dev.tx = s.dev.tx) ∧
  (∀ (s : State) (rate width : Nat) (w64 : Option Nat), mainRuns s.dev = true → s.dev.pins.cxPerst = false → s.dev.cx.training = true →
    s.dev.cx.restarting = false → within 1 5 rate = true → width = 1 ∨ width = 2 ∨ width = 4 ∨ width = 8 →
    w64.any (acceptsW64 s.dev) = false →
    exec (.linkUp rate width false w64) s = .next { s with dev := (event 0x0C02 2 [4, committedLds s.dev, 0, 0]
      (modCx (fun c => { c with w64Offered := w64.any (fun x => hasBit x 0) }) s.dev)) }) ∧
  (∀ (d : Device) (x : Nat), d.cx.w64Enable = false ∨ d.cx.w64FellBack = true ∨ x / 16 % 16 ≠ 1 ∨ hasBit x 0 = false ∨ hasBit x 1 = false ∨
    hasBit x 2 = false ∨ hasBit x 3 = true → acceptsW64 d x = false) ∧
  (∀ s : State, mainRuns s.dev = true → s.dev.pins.cxPerst = false →
    exec .cxPerstAssert s = .next { s with dev := conventionalReset 1 false { s.dev with pins := { s.dev.pins with cxPerst := true } } }) ∧
  (∀ s : State, mainRuns s.dev = true → s.dev.cx.linkUp = true →
    exec .linkHotReset s = .next { s with dev := conventionalReset 2 true s.dev } ∧
    exec .linkSurpriseDown s = .next { s with dev := conventionalReset 3 true s.dev }) ∧
  (∀ s : State, s.dev.cx.linkUp = false → exec .linkHotReset s = .next s ∧ exec .linkSurpriseDown s = .next s) ∧
  (∀ (d : Device) (cause : Nat) (retrain : Bool), (conventionalReset cause retrain d).cx.linkUp = false ∧
    (conventionalReset cause retrain d).cx.training = retrain ∧ (conventionalReset cause retrain d).cx.w64Active = false ∧
    (conventionalReset cause retrain d).cx.w64FellBack = false ∧ (conventionalReset cause retrain d).mem = d.mem) ∧
  (∀ (s : State) (block : List Byte) (bs : List Nat) (n : Nat), cxlUp s.dev = true → s.dev.cx.w64Active = true → decodeBlock block = some (bs, n) →
    exec (.w64BlockReceived block) s = .next { s with dev := reply (blockSymbols (sentBlock s.dev.cx.w64TxSeq)) (modCx (fun c => { c with
      corrected := satAdd 16 c.corrected n, w64RxSeq := blockSeq bs, w64Flits := if blockType bs = 1 then blockFlits bs else c.w64Flits,
      w64TxSeq := (c.w64TxSeq + 1) % 0x4000 }) s.dev) }) ∧
  (∀ (s : State) (block : List Byte), cxlUp s.dev = true → s.dev.cx.w64Active = true → decodeBlock block = none →
    exec (.w64BlockReceived block) s = .next { s with dev := reply (blockSymbols (sentBlock s.dev.cx.w64TxSeq)) (modCx (fun c => { c with
      discarded := satAdd 16 c.discarded 1, recentDiscards := c.recentDiscards + 1, w64TxSeq := (c.w64TxSeq + 1) % 0x4000 }) s.dev) }) ∧
  (∀ (s : State) (n c : Nat), cxlUp s.dev = true → s.dev.cx.w64Active = true → 64 < n →
    exec (.w64Fallback n c) s = .next { s with dev := (event 0x0C03 3 [n, c, 0, 0]
      (modCx (fun x => { x with rate := 4, w64Active := false, w64FellBack := true, recentDiscards := 0 }) s.dev)) }) ∧
  (∀ (s : State) (n c : Nat), n ≤ 64 → exec (.w64Fallback n c) s = .next s) ∧
  (∀ (s : State) (ld : Ld), cxlUp s.dev = true → exec (.functionLevelReset ld) s = .next { s with dev := ldReset ld 1 s.dev }) ∧
  (∀ (s : State) (ld : Ld) (v : Word), cxlUp s.dev = true → bit v 0 = true → exec (.viewReset ld v) s = .next { s with dev := ldReset ld 2 s.dev }) ∧
  (∀ (s : State) (ld : Ld) (v : Word), bit v 0 = false → exec (.viewReset ld v) s = .next s) ∧
  (∀ (s : State) (mask : Nat), cxlUp s.dev = true → exec (.hotResetVector mask) s = .next { s with dev := ((List.range 16).foldl (fun acc n => if hasBit mask n then ldReset n 3 acc else acc) s.dev) }) ∧
  (∀ (ld : Ld) (cause : Nat) (d : Device), (ldOf (ldReset ld cause d) ld).mboxRunning = none ∧ (ldOf (ldReset ld cause d) ld).doeReq = none ∧
    (ldOf (ldReset ld cause d) ld).busMaster = false ∧ (ldOf (ldReset ld cause d) ld).doeError = false ∧
    (cause = 4 → (ldOf (ldReset ld cause d) ld).decCommitted = false) ∧ (ldReset ld cause d).mem = d.mem ∧ (ldReset ld cause d).lc.otp = d.lc.otp) ∧
  (∀ (s : State) (ld : Ld) (base ig : Nat) (lock : Bool), cxlUp s.dev = true → (ldOf s.dev ld).decCommitted = false →
    (ldOf s.dev ld).allocated = true → base % 0x10000000 = 0 →
    exec (.hdmDecoderCommit ld base 0x10000000 0 ig 0 lock) s = .next { s with dev := (modLd ld (fun x => { x with
      decCommitted := true, decLocked := lock, decError := false, decBase := base, decIg := ig % 16 }) s.dev) }) ∧
  (∀ (s : State) (ld : Ld) (base size iw ig skip : Nat) (lock : Bool), cxlUp s.dev = true → (ldOf s.dev ld).decCommitted = false →
    (ldOf s.dev ld).allocated = false ∨ base % 0x10000000 ≠ 0 ∨ size ≠ 0x10000000 ∨ iw ≠ 0 ∨ skip ≠ 0 →
    exec (.hdmDecoderCommit ld base size iw ig skip lock) s = .next { s with dev := (event 0x0C08 3 [ld, base, size, iw]
      (modLd ld (fun x => { x with decCommitted := false, decError := true }) s.dev)) }) ∧
  (∀ (s : State) (ld : Ld) (base size iw ig skip : Nat) (lock : Bool), (ldOf s.dev ld).decCommitted = true → (ldOf s.dev ld).decLocked = true →
    exec (.hdmDecoderCommit ld base size iw ig skip lock) s = .next s)

/-- Host memory (R103, R104, R439, R442): a read through a committed decoder returns the line where the LD's rights
cover it, and zeros where they do not; a write of a line goes into the frame that takes its stream position, byte by
enabled byte, and any other is dropped with ViewWriteDrop; a read answers MemData and a write Cmp, with MetaField No-
Op, DevLoad Light Load and no poison (the order in which the reply lists them is the model's,
notes/assumptions/124.md); a request to an LD with no committed decoder has no effect. Staging sessions (R441–R445): a
Start that passes opens a session with its frames, one that does not leaves its outcome; an Abort ends the session; a
chunk declared in the window is delivered in order; a hart pops the chunks of the Kinds it consumes, releases their
frames, and ends the session with an outcome. Where the spec leaves room, its clauses follow the model's choices and
readings (notes/assumptions/8.md, notes/assumptions/42.md, notes/assumptions/59.md, notes/assumptions/124.md). -/
def Obligations.HostMemoryAndStaging : Prop :=
  (∀ (s : State) (ld : Ld) (off : Nat), cxlUp s.dev = true → (ldOf s.dev ld).decCommitted = true → viewAddr s.dev ld off = none →
    exec (.memRd ld off) s = .next { s with dev := reply ([1, 3, 0, 0] ++ zeros 64) s.dev }) ∧
  (∀ (s : State) (ld : Ld) (off a : Nat), cxlUp s.dev = true → (ldOf s.dev ld).decCommitted = true → viewAddr s.dev ld off = some a →
    s.dev.is_.poisoned = [] → s.dev.flipped = [] →
    exec (.memRd ld off) s = .next { s with dev := reply ([1, 3, 0, 0] ++ (List.range 8).flatMap (fun k => memRead s.dev.mem (a + 8 * k) 8)) s.dev }) ∧
  (∀ (s : State) (ld : Ld) (off : Nat) (data : List Byte) (mask : List Bool), (ldOf s.dev ld).decCommitted = false →
    exec (.memRd ld off) s = .next s ∧ exec (.memWr ld off data mask) s = .next s) ∧
  (∀ (s : State) (ld : Ld) (off f : Nat) (data : List Byte) (mask : List Bool), cxlUp s.dev = true → (ldOf s.dev ld).decCommitted = true →
    stagingGranted s.dev ld = true → stagingOffset ≤ off → off < 0xE000000 → writeFrame (ldOf s.dev ld) (off - stagingOffset) = some f →
    exec (.memWr ld off data mask) s = .next { s with dev := (reply [0, 3, 0, 0] (store (frameBase + 0x10000 * f + (off - stagingOffset) % 0x10000)
      (mergeLine (memRead s.dev.mem (frameBase + 0x10000 * f + (off - stagingOffset) % 0x10000) 64) data mask) s.dev)) }) ∧
  (∀ (s : State) (ld : Ld) (off : Nat) (data : List Byte) (mask : List Bool), cxlUp s.dev = true → (ldOf s.dev ld).decCommitted = true →
    stagingGranted s.dev ld = false ∨ off < stagingOffset ∨ 0xE000000 ≤ off ∨ writeFrame (ldOf s.dev ld) (off - stagingOffset) = none →
    exec (.memWr ld off data mask) s = .next { s with dev := reply [0, 3, 0, 0] (modLd ld (fun l => { l with viewWriteDrop := true }) s.dev) }) ∧
  (∀ (os ns : List Byte) (es : List Bool) (i : Nat), i < os.length → i < ns.length → i < es.length →
    (mergeLine os ns es)[i]? = if es[i]? = some true then ns[i]? else os[i]?) ∧
  (∀ (s : State) (ld : Ld) (v : Word), cxlUp s.dev = true → bit v 30 = false → bit v 31 = true →
    startOutcome s.dev ld (field v 0 3) (ldOf s.dev ld).stgLen.toNat = 0 →
    exec (.stagingStart ld v) s = .next { s with dev := openStaging ld (field v 0 3) (ldOf s.dev ld).stgLen.toNat s.dev }) ∧
  (∀ (s : State) (ld : Ld) (v : Word), cxlUp s.dev = true → bit v 30 = false → bit v 31 = true →
    startOutcome s.dev ld (field v 0 3) (ldOf s.dev ld).stgLen.toNat ≠ 0 → (ldOf s.dev ld).session = none →
    ∃ t, exec (.stagingStart ld v) s = .next t ∧ (ldOf t.dev ld).stgOutcome = startOutcome s.dev ld (field v 0 3) (ldOf s.dev ld).stgLen.toNat ∧
      (ldOf t.dev ld).session = none ∧ t.dev.mem = s.dev.mem ∧ t.dev.cx.freeFrames = s.dev.cx.freeFrames) ∧
  (∀ (s : State) (ld : Ld) (v : Word), cxlUp s.dev = true → bit v 30 = false → bit v 31 = false → exec (.stagingStart ld v) s = .next s) ∧
  (∀ (s : State) (ld : Ld), cxlUp s.dev = true → exec (.stagingAbort ld) s = .next { s with dev := endStaging ld 5 0 s.dev }) ∧
  (∀ (d : Device) (ld : Ld) (x : StgSession) (outcome check : Nat), (ldOf d ld).session = some x →
    (ldOf (endStaging ld outcome check d) ld).session = none ∧ (ldOf (endStaging ld outcome check d) ld).stgOutcome = outcome ∧
    (ldOf (endStaging ld outcome check d) ld).stgState = (if outcome = 1 then 3 else 4) ∧ (endStaging ld outcome check d).mem = d.mem) ∧
  (∀ (d : Device) (ld outcome check : Nat), (ldOf d ld).session = none → endStaging ld outcome check d = d) ∧
  (∀ (s : State) (ld : Ld) (v : Word) (x : StgSession), cxlUp s.dev = true → (ldOf s.dev ld).session = some x →
    x.base ≤ field v 0 11 → field v 0 11 < x.base + x.slots.length → x.declared.contains (field v 0 11) = false → field v 0 11 < stagingChunks x →
    exec (.stagingChunkDone ld v) s = .next { s with dev := (modCx (fun c => { c with ready := c.ready ++ (deliverChunks 1536 ld { x with declared := x.declared ++ [field v 0 11] }).2 })
        (modLd ld (fun l => { l with
          session := some (deliverChunks 1536 ld { x with declared := x.declared ++ [field v 0 11] }).1,
          stgState := if (deliverChunks 1536 ld { x with declared := x.declared ++ [field v 0 11] }).1.declared.length = stagingChunks x
            then 2 else l.stgState }) s.dev)) }) ∧
  (∀ (s : State) (ld : Ld) (v : Word), (ldOf s.dev ld).session = none → exec (.stagingChunkDone ld v) s = .next s) ∧
  (∀ (s : State) (h : Hart) (r : Nat × Nat), MayRead s.dev h →
    s.dev.cx.ready.find? (fun r => stagingConsumer (sessionKind s.dev r.1) == h.val) = some r →
    exec (.stagingReadyPop h) s = .next { s with dev := (replyWord (readyWord s.dev r.1 r.2)
      (modCx (fun c => { c with ready := c.ready.erase r }) s.dev)) }) ∧
  (∀ (s : State) (h : Hart), MayRead s.dev h → s.dev.cx.ready = [] → exec (.stagingReadyPop h) s = .next { s with dev := replyWord 0 s.dev }) ∧
  (∀ (s : State) (h : Hart) (v : Word) (n : Nat) (x : StgSession), MayWrite s.dev h 12 → bit v 8 = true →
    (List.range 16).find? (fun n => (ldOf s.dev n).session.any (fun x =>
      stagingConsumer x.kind == h.val && x.slots.any (fun y => y.2 == field v 0 4 && decide (y.1 < x.delivered)))) = some n →
    (ldOf s.dev n).session = some x → (releaseFrame x (field v 0 4)).2 = false →
    exec (.stagingRelease h v) s = .next { s with dev := (modLd n (fun l => { l with
      session := some (releaseFrame x (field v 0 4)).1, stgBase := (releaseFrame x (field v 0 4)).1.base }) s.dev) }) ∧
  (∀ (s : State) (h : Hart) (v : Word), MayWrite s.dev h 12 → bit v 8 = false → exec (.stagingRelease h v) s = .next s) ∧
  (∀ (s : State) (h : Hart) (v : Word) (x : StgSession), MayWrite s.dev h 12 → bit v 16 = true → (ldOf s.dev (field v 0 4)).session = some x →
    stagingConsumer x.kind = h.val →
    exec (.stagingEnd h v) s = .next { s with dev := endStaging (field v 0 4) (field v 4 4) (field v 8 8) s.dev }) ∧
  (∀ (s : State) (h : Hart) (v : Word), MayWrite s.dev h 12 → bit v 16 = false → exec (.stagingEnd h v) s = .next s)

/-- Data object exchange (R446–R448): an object written while hart 1 serves is answered at once by its protocol,
Discovery, CDAT or the warden object; a second one while one waits or a response has not been read, or one of more
than 1,024 DW, sets DOE Error; an abort clears the mailbox. Where the spec leaves room, its clauses follow the model's
choices and readings (notes/assumptions/2.md, notes/assumptions/51.md, notes/assumptions/116.md,
notes/assumptions/124.md). -/
def Obligations.DataObjects : Prop :=
  (∀ (s : State) (who : Option Ld) (o r : List Byte), cxlUp s.dev = true → hart1Serves s.dev = true → (whoOf s.dev who).doeError = false →
    (whoOf s.dev who).doeReq = none → (whoOf s.dev who).doeRsp = none → o.length ≤ 4096 → doeIsSpdm o = false → doeAnswer s.dev (whoAid who) o = some r →
    exec (.doeRequest who o) s = .next { s with dev := reply r (modWho who (fun l => doeReady r { l with doeReq := none }) s.dev) }) ∧
  (∀ (s : State) (who : Option Ld) (o : List Byte), cxlUp s.dev = true → (whoOf s.dev who).doeError = false →
    (whoOf s.dev who).doeReq ≠ none ∨ (whoOf s.dev who).doeRsp ≠ none ∨ 4096 < o.length →
    exec (.doeRequest who o) s = .next { s with dev := modWho who (fun x => { x with doeError := true }) s.dev }) ∧
  (∀ (s : State) (who : Option Ld) (o : List Byte), (whoOf s.dev who).doeError = true → exec (.doeRequest who o) s = .next s) ∧
  (∀ (s : State) (who : Option Ld), cxlUp s.dev = true → exec (.doeAbort who) s = .next { s with dev := (modWho who (fun x => { x with doeReq := none, doeRsp := none, doeError := false }) s.dev) }) ∧
  (∀ (s : State) (who : Option Ld) (i : Nat), cxlUp s.dev = true → hart1Serves s.dev = true → (whoOf s.dev who).doeError = false →
    (whoOf s.dev who).doeReq = none → (whoOf s.dev who).doeRsp = none → i < 256 →
    exec (.doeDiscovery who i) s = .next { s with dev := (reply (doeObject 0x0001 0x00 (discoveryObject i))
      (modWho who (fun l => doeReady (doeObject 0x0001 0x00 (discoveryObject i)) { l with doeReq := none }) s.dev)) }) ∧
  (∀ (s : State) (who : Option Ld) (e : Nat), cxlUp s.dev = true → hart1Serves s.dev = true → (whoOf s.dev who).doeError = false →
    (whoOf s.dev who).doeReq = none → (whoOf s.dev who).doeRsp = none → e < 65536 →
    exec (.cdatRead who e) s = .next { s with dev := (reply (doeObject 0x1E98 0x02 (cdatObject s.dev e))
      (modWho who (fun l => doeReady (doeObject 0x1E98 0x02 (cdatObject s.dev e)) { l with doeReq := none }) s.dev)) }) ∧
  (∀ (s : State) (who : Option Ld) (code : Nat), cxlUp s.dev = true → hart1Serves s.dev = true → (whoOf s.dev who).doeError = false →
    (whoOf s.dev who).doeReq = none → (whoOf s.dev who).doeRsp = none → code < 2 ^ 32 →
    exec (.wardenStatus who code) s = .next { s with dev := (reply (doeObject 0x1FA7 0x01 (wardenObject s.dev (whoAid who) code))
      (modWho who (fun l => doeReady (doeObject 0x1FA7 0x01 (wardenObject s.dev (whoAid who) code)) { l with doeReq := none }) s.dev)) }) ∧
  (∀ (r : List Byte) (l : LogicalDev), (doeReady r l).doeRsp = some r ∧ (doeReady r l).doeReq = l.doeReq) ∧
  (∀ (d : Device) (aid code : Nat), code ≠ 1 → wardenObject d aid code = List.replicate 4 0xFF) ∧
  (∀ (d : Device) (aid : Nat), wardenObject d aid 1 = statusObject (ledgerMask d aid) d)

/-- The FM-owned LD's commands (R434, R452): LD information, the allocations from one LD on, setting them, which a
pair of more than one unit or a Range 2 unit refuses; staging of SI Pending, Busy while SI Pending is locked. Memory
device commands (R437, R449, R450): each answers with its return code and output and changes nothing else; what a
requester does not have is Unsupported; without hart 1, or while a command runs, the mailbox is Busy. The payloads'
layouts are the model's reading of CXL 2.0 (notes/assumptions/51.md). Where the spec leaves room, its clauses follow
the model's choices and readings (notes/assumptions/49.md, notes/assumptions/124.md). -/
def Obligations.CxlMailboxes : Prop :=
  (∀ s : State, MailboxReady s.dev none → exec .getLdInfo s =
    .next { s with dev := mailboxEnds none 0x5400 0 (leBytes 8 0x100000000 ++ leBytes 2 16 ++ zeros 1) s.dev }) ∧
  (∀ (s : State) (start limit : Nat), MailboxReady s.dev none → start < 16 →
    exec (.getLdAllocations start limit) s = .next { s with dev := (mailboxEnds none 0x5401 0
      ([16, 0, BitVec.ofNat 8 start, BitVec.ofNat 8 (min limit (16 - start))] ++
        (List.range (min limit (16 - start))).flatMap (fun i => allocationPair s.dev (start + i))) s.dev) }) ∧
  (∀ (s : State) (start limit : Nat), MailboxReady s.dev none → 16 ≤ start →
    exec (.getLdAllocations start limit) s = .next { s with dev := mailboxEnds none 0x5401 2 [] s.dev }) ∧
  (∀ (s : State) (start : Nat) (pairs : List (Nat × Nat)), MailboxReady s.dev none → allocationBad s.dev start pairs = true →
    exec (.setLdAllocations start pairs) s = .next { s with dev := mailboxEnds none 0x5402 2 [] s.dev }) ∧
  (∀ (s : State) (ld : Ld) (x : Nat), MailboxReady s.dev none → (ldOf s.dev ld).decCommitted = false → x ≤ 1 →
    ∃ t, exec (.setLdAllocations ld [(x, 0)]) s = .next t ∧ (ldOf t.dev ld).allocated = (x == 1) ∧ t.dev.mem = s.dev.mem ∧ t.dev.tx = s.dev.tx ∧
      (∀ n, n ≠ ld.val → ldOf t.dev n = ldOf s.dev n)) ∧
  (∀ (d : Device) (start : Nat) (pairs : List (Nat × Nat)), (∃ p ∈ pairs, 1 < p.1 ∨ p.2 ≠ 0) → allocationBad d start pairs = true) ∧
  (∀ (s : State) (off : Nat) (data : List Byte), MailboxReady s.dev none → s.dev.tx.sipLocked = false → s.dev.tx.siCopyBusy = false →
    siSessionOpen s.dev = false → data.length ≤ 2040 → off + data.length ≤ 0x100000 →
    exec (.fjarlinStageSiData none off data) s = .next { s with dev := mailboxEnds none 0xC010 0 [] (mramStore (siPendingBase + off) data s.dev) }) ∧
  (∀ (s : State) (off : Nat) (data : List Byte), MailboxReady s.dev none → s.dev.tx.sipLocked = true →
    exec (.fjarlinStageSiData none off data) s = .next { s with dev := mailboxEnds none 0xC010 6 [] s.dev }) ∧
  (∀ (s : State) (total : Nat), MailboxReady s.dev none → s.dev.tx.fabricLive = false → s.dev.tx.state = .idle →
    s.dev.tx.siCopyBusy = false → hartStalled s.dev 0 = false →
    exec (.fjarlinStageSiCommit none total) s = .next { s with dev := (siLoad 0x10 total { s.dev with cx := { s.dev.cx with fm :=
      { s.dev.cx.fm with mboxRunning := some 0xC011, mboxCmd := 0xC011 } } }) }) ∧
  (∀ (s : State) (total : Nat), MailboxReady s.dev none → s.dev.tx.fabricLive = false →
    s.dev.tx.state ≠ .idle ∨ s.dev.tx.siCopyBusy = true ∨ hartStalled s.dev 0 = true →
    exec (.fjarlinStageSiCommit none total) s = .next { s with dev := mailboxEnds none 0xC011 6 [] s.dev }) ∧
  (∀ (s : State) (ld : Ld) (off total : Nat) (data : List Byte), MailboxReady s.dev (some ld) →
    exec (.fjarlinStageSiData (some ld) off data) s = .next { s with dev := mailboxEnds (some ld) 0xC010 3 [] s.dev } ∧
    exec (.fjarlinStageSiCommit (some ld) total) s = .next { s with dev := mailboxEnds (some ld) 0xC011 3 [] s.dev }) ∧
  (∀ (d : Device) (who : Option Ld) (op code : Nat) (out : List Byte), (whoOf d who).mboxInt = false →
    mailboxEnds who op code out d = reply (leBytes 2 code ++ out) (modWho who (fun l => { l with
      mboxRunning := none, mboxReturn := code, mboxOut := out, mboxLength := out.length, mboxCmd := op }) d)) ∧
  (∀ (s : State) (who : Option Ld), MailboxReady s.dev who →
    exec (.getEventRecords who) s = .next { s with dev := mailboxEnds who 0x0100 0 (zeros 32) s.dev } ∧
    exec (.getEventInterruptPolicy who) s = .next { s with dev := mailboxEnds who 0x0102 0 (zeros 4) s.dev } ∧
    exec (.getSupportedLogs who) s = .next { s with dev := (mailboxEnds who 0x0400 0 (leBytes 2 1 ++ zeros 6 ++ effectsUuid ++ leBytes 4 (effectsBytes who).length) s.dev) } ∧
    exec (.fjarlinWardenStatus who) s = .next { s with dev := mailboxEnds who 0xC000 0 (statusObject (ledgerMask s.dev (whoAid who)) s.dev) s.dev } ∧
    exec (.getFwInfo who) s = .next { s with dev := (mailboxEnds who 0x0200 0 ([2, BitVec.ofNat 8 (s.dev.start.slot + 1)] ++ zeros 14 ++
      slotRevision (slotVersion s.dev 0) ++ slotRevision (slotVersion s.dev 1) ++ zeros 32) s.dev) }) ∧
  (∀ (s : State) (who : Option Ld) (n : Nat), MailboxReady s.dev who →
    exec (.clearEventRecords who n) s = .next { s with dev := mailboxEnds who 0x0101 (if n = 0 then 0 else 2) [] s.dev }) ∧
  (∀ (s : State) (who : Option Ld) (ps : List Nat), MailboxReady s.dev who →
    exec (.setEventInterruptPolicy who ps) s = .next { s with dev := mailboxEnds who 0x0103 (if ps.all (· % 4 == 0) then 0 else 2) [] s.dev }) ∧
  (∀ (s : State) (who : Option Ld) (uuid : List Byte) (off len : Nat), MailboxReady s.dev who →
    exec (.getLog who uuid off len) s = .next { s with dev := (if uuid = effectsUuid ∧ off + len ≤ (effectsBytes who).length
      then mailboxEnds who 0x0401 0 (bufBytes (effectsBytes who) off len) s.dev else mailboxEnds who 0x0401 2 [] s.dev) }) ∧
  (∀ (s : State) (ld : Ld), MailboxReady s.dev (some ld) →
    exec (.getPartitionInfo (some ld)) s = .next { s with dev := mailboxEnds (some ld) 0x4100 0 (leBytes 8 (capacity s.dev (some ld)) ++ zeros 24) s.dev } ∧
    exec (.getHealthInfo (some ld)) s = .next { s with dev := (mailboxEnds (some ld) 0x4200 0
      ([BitVec.ofNat 8 (2 * flag (enginesDegraded s.dev)), 0, 0, 0] ++ leBytes 2 s.dev.junction.tempNow ++ zeros 12) s.dev) } ∧
    exec (.identifyMemoryDevice (some ld)) s = .next { s with dev := (mailboxEnds (some ld) 0x4000 0 (slotRevision s.dev.start.secVer ++
      leBytes 8 (capacity s.dev (some ld)) ++ leBytes 8 (capacity s.dev (some ld)) ++ zeros 8 ++ zeros 8 ++ zeros 8 ++ zeros 4 ++
      leBytes 3 64 ++ zeros 2 ++ zeros 2) s.dev) }) ∧
  (∀ (s : State) (ld : Ld) (base len : Nat), MailboxReady s.dev (some ld) → s.dev.is_.poisoned = [] →
    exec (.getPoisonList (some ld) base len) s = .next { s with dev := (mailboxEnds (some ld) 0x4300 0
      ([0, 0] ++ zeros 8 ++ leBytes 2 0 ++ zeros 20) s.dev) }) ∧
  (∀ s : State, MailboxReady s.dev none →
    exec (.getPartitionInfo none) s = .next { s with dev := mailboxEnds none 0x4100 3 [] s.dev } ∧
    exec (.getHealthInfo none) s = .next { s with dev := mailboxEnds none 0x4200 3 [] s.dev } ∧
    exec (.identifyMemoryDevice none) s = .next { s with dev := mailboxEnds none 0x4000 3 [] s.dev } ∧
    (∀ base len, exec (.getPoisonList none base len) s = .next { s with dev := mailboxEnds none 0x4300 3 [] s.dev })) ∧
  (∀ (s : State) (who : Option Ld) (op : Nat), MailboxReady s.dev who →
    exec (.mailboxUnsupportedOpcode who op) s = .next { s with dev := mailboxEnds who op 3 [] s.dev }) ∧
  (∀ (s : State) (who : Option Ld), cxlUp s.dev = true → (whoOf s.dev who).mboxRunning = none → hart1Serves s.dev = false →
    exec (.getFwInfo who) s = .next { s with dev := mailboxEnds who 0x0200 6 [] s.dev }) ∧
  (∀ (s : State) (who : Option Ld) (op : Nat), cxlUp s.dev = true → (whoOf s.dev who).mboxRunning = some op →
    exec (.getFwInfo who) s = .next { s with dev := reply (leBytes 2 6) s.dev })

/-- Errors (R574–R579, R454). An error is contained at once; a corrected one of the CXL port's block 12 is a Corrected
Internal Error too. With none being handled, one of class C is counted, one of class D is counted and reported, and
one of class F1 is reported while its block restarts; a second F1 error of the block that is handled escalates to the
F2 safe state; any other error waits its turn in the queue of 16. Restarts and the controller's registers (R202, R229,
R575, R579): the end of a restart ends its handling and counts it; of a block that the controller does not handle it
does nothing. Reports are popped oldest first; EC_INJECT takes effect only where PT_CTRL.Allowed is set. Where the
spec leaves room, its clauses follow the model's choices and readings (notes/assumptions/3.md,
notes/assumptions/29.md, notes/assumptions/64.md, notes/assumptions/88.md, notes/assumptions/99.md,
notes/assumptions/122.md, notes/assumptions/124.md). -/
def Obligations.ErrorsAndRestarts : Prop :=
  (∀ (s : State) (block word : Nat), mainUp s.dev = true →
    exec (.correctedError block word) s =
      .next { s with dev := (errorArrives { cls := 1, block := block, inst := 0, kind := 1, word := word }
        (if block = 12 then correctedInternal s.dev else s.dev)) }) ∧
  (∀ (s : State) (block inst kind word : Nat), mainUp s.dev = true → s.dev.power.state ≠ .safe →
    exec (.deferredError block inst kind word) s = .next { s with
      dev := (errorArrives { cls := 2, block := block, inst := inst, kind := kind, word := word } (deferredContained block inst kind word s.dev)) }) ∧
  (∀ (s : State) (block inst kind : Nat), mainUp s.dev = true → s.dev.power.state ≠ .safe → f1Source block inst = true →
    exec (.f1Error block inst kind) s = .next { s with dev := (errorArrives
      { cls := 3, block := block, inst := if block = 6 then inst else 0, kind := kind, word := 0 }
      (f1Contained block (if block = 6 then inst else 0) s.dev)) }) ∧
  (∀ (s : State) (block inst kind : Nat), f1Source block inst = false → exec (.f1Error block inst kind) s = .next s) ∧
  (∀ (d : Device) (f : Dev) (m : Bus), f1Contained 6 f d = turnstileContained f (busIdled (f / 4) 1 d) ∧
    f1Contained 6 (64 + m) d = busRestartBegin m (busIdled m 2 d)) ∧
  (∀ (d : Device) (f : Dev), turnstileContained f d = (List.range 4).foldl (fun acc k => failCurrent (4 * (f / 4) + k) 0 8 acc)
    (modTs f (fun t => { t with restarting := true }) d)) ∧
  (∀ (d : Device) (f : Dev), (∀ k, k < 4 → (tsAt d (4 * (f / 4) + k)).current = none) →
    (tsAt (f1Contained 6 f d) f).restarting = true ∧ (∀ g : Dev, g ≠ f → tsAt (f1Contained 6 f d) g = tsAt d g) ∧
    (f1Contained 6 f d).mem = d.mem ∧ (f1Contained 6 f d).tx = d.tx) ∧
  (∀ (e : ErrRec) (d : Device), d.power.state ≠ .safe → d.ec.handling = [] → errorArrives e d = takeError e d) ∧
  (∀ (e : ErrRec) (d : Device), e.cls = 1 → (takeError e d).ec.corrected = satAdd 16 d.ec.corrected 1 ∧ (takeError e d).ec.reports = d.ec.reports ∧
    (takeError e d).mem = d.mem) ∧
  (∀ (e : ErrRec) (d : Device), e.cls = 2 → (takeError e d).ec.deferred = satAdd 8 d.ec.deferred 1 ∧
    (d.ec.reports.length < 32 → (takeError e d).ec.reports = d.ec.reports ++ [e]) ∧
    (32 ≤ d.ec.reports.length → (takeError e d).ec.reports = d.ec.reports ∧ (takeError e d).ec.overflow = true)) ∧
  (∀ (e : ErrRec) (d : Device), e.cls = 3 → (takeError e d).ec.handling = e :: d.ec.handling ∧
    (d.ec.reports.length < 32 → (takeError e d).ec.reports = d.ec.reports ++ [e])) ∧
  (∀ (e cur : ErrRec) (tl : List ErrRec) (d : Device), d.power.state ≠ .safe → d.ec.handling = cur :: tl → e.cls = 3 → e.block = cur.block → e.inst = cur.inst →
    errorArrives e d = enterSafe e.block e.kind true (event 0x0F04 5 [e.block, shownInst e, cur.kind, e.kind] d)) ∧
  (∀ (e cur : ErrRec) (tl : List ErrRec) (d : Device), d.power.state ≠ .safe → d.ec.handling = cur :: tl →
    ¬ (e.cls = 3 ∧ e.block = cur.block ∧ e.inst = cur.inst) → d.ec.queue.length < 16 →
    errorArrives e d = { d with ec := { d.ec with queue := d.ec.queue ++ [e] } }) ∧
  (∀ (s : State) (us : Nat) (e : ErrRec), handlingOf s.dev 12 0 = some e →
    exec (.blockRestartDone 12 us) s = .next { s with dev := (restartDone e us (modCx (fun c => { c with
      restarting := false, training := !s.dev.pins.cxPerst }) s.dev)) }) ∧
  (∀ (s : State) (us : Nat) (e : ErrRec), handlingOf s.dev 8 0 = some e → exec (.blockRestartDone 8 us) s = .next { s with dev := restartDone e us s.dev }) ∧
  (∀ (s : State) (block us : Nat), ((block ≠ 8 ∧ block ≠ 12) ∨ handlingOf s.dev block 0 = none) → exec (.blockRestartDone block us) s = .next s) ∧
  (∀ (e : ErrRec) (us : Nat) (d : Device), d.ec.queue = [] → (restartDone e us d).ec.handling = d.ec.handling.drop 1 ∧
    (restartDone e us d).ec.restarts = satAdd 8 d.ec.restarts 1 ∧ (restartDone e us d).mem = d.mem) ∧
  (∀ (s : State) (m : Bus) (ticks : Nat) (e : ErrRec), handlingOf s.dev 6 (64 + m) = some e → s.dev.ec.queue = [] →
    ∃ t, exec (.busControllerRestartDone m ticks) s = .next t ∧ (busAt t.dev m).restarting = false ∧ t.dev.ec.handling = s.dev.ec.handling.drop 1 ∧
      (∀ n : Bus, n ≠ m → busAt t.dev n = busAt s.dev n)) ∧
  (∀ (s : State) (m : Bus) (ticks : Nat), handlingOf s.dev 6 (64 + m) = none → exec (.busControllerRestartDone m ticks) s = .next s) ∧
  (∀ (s : State) (f : Dev) (ticks : Nat) (e : ErrRec), handlingOf s.dev 6 f = some e →
    exec (.turnstileRestartDone f ticks) s = .next { s with dev := (freeRestart e (intervalEnd 1 (f / 4) ticks
      (finishTs f (restartTurnstile (restartEnv s.dev f) (tsAt s.dev f)) s.dev))) }) ∧
  (∀ (env : TsEnv) (t : Turnstile), (restartTurnstile env t).ts.restarting = false ∧ (restartTurnstile env t).ts.credit = 0 ∧
    (restartTurnstile env t).ts.state = initialState env.leaf env.f ∧ (restartTurnstile env t).ts.waiting = [] ∧
    (restartTurnstile env t).ts.held = [] ∧ (restartTurnstile env t).ts.curve = boundCurve env.leaf env.f ∧
    (∀ c ∈ t.waiting, ⟨c, 11, 0, []⟩ ∈ (restartTurnstile env t).done)) ∧
  (∀ (s : State) (f : Dev) (ticks : Nat), handlingOf s.dev 6 f = none → exec (.turnstileRestartDone f ticks) s = .next s) ∧
  (∀ (s : State) (h : Hart) (e : ErrRec) (tl : List ErrRec), MayRead s.dev h → s.dev.ec.reports = e :: tl →
    exec (.ecReportPop h) s = .next { s with dev := (replyWord (reportWord e) { s.dev with ec := { s.dev.ec with
      reports := tl, report1 := if e.kind = 1 then BitVec.ofNat 32 e.word else 0 } }) }) ∧
  (∀ (s : State) (h : Hart), MayRead s.dev h → s.dev.ec.reports = [] → exec (.ecReportPop h) s = .next { s with dev := replyWord 0 s.dev }) ∧
  (∀ (s : State) (v : Word), MayWrite s.dev 0 15 → ptAllowed s.dev = true →
    exec (.ecInjectArm 0 v) s = .next { s with dev := { s.dev with ec := { s.dev.ec with inject := v &&& 0x80000037 } } }) ∧
  (∀ (s : State) (v : Word), MayWrite s.dev 0 15 → ptAllowed s.dev = false → exec (.ecInjectArm 0 v) s = .next s) ∧
  (∀ (s : State) (h : Hart) (v : Word), MayWrite s.dev h 15 → h ≠ 0 → exec (.ecInjectArm h v) s = .next s)

/-- The F2 safe state (R577, R578): an F2 error, or an F1 error in it, holds every gate and takes the CXL link down;
any further error writes the records at once; its reset leads to a MAIN reset of cause 4. Without a safe state the
reset does nothing. Where the spec leaves room, its clauses follow the model's choices and readings
(notes/assumptions/88.md, notes/assumptions/91.md, notes/assumptions/126.md, notes/assumptions/128.md). -/
def Obligations.SafeState : Prop :=
  (∀ (s : State) (block inst kind : Nat), mainUp s.dev = true → s.dev.power.state ≠ .safe → block ≠ 8 ∨ s.dev.tx.state ≠ .committing →
    ∃ t, exec (.f2Error block inst kind) s = .next t ∧ t.dev.power.state = .safe ∧ t.dev.cx.linkUp = false ∧ t.dev.lastF2.block = block ∧
      t.dev.lastF2.kind = kind ∧ t.dev.is_.gates = 0 ∧ t.dev.lastF2.escalated = false ∧ t.dev.lastF2.hardware = false ∧ t.dev.mem = s.dev.mem ∧ t.dev.tx = s.dev.tx ∧
      t.dev.ec.handling = [{ cls := 4, block := block, inst := 0, kind := kind, word := 0 }]) ∧
  (∀ (s : State) (block inst kind word : Nat), s.dev.power.state = .safe →
    exec (.f2Error block inst kind) s = .next { s with dev := hardwareSafe s.dev } ∧
    exec (.deferredError block inst kind word) s = .next { s with dev := hardwareSafe s.dev } ∧
    exec (.correctedError block word) s = .next { s with dev := hardwareSafe (if block = 12 then correctedInternal s.dev else s.dev) }) ∧
  (∀ d : Device, d.lastF2.hardware = false →
    hardwareSafe d = safeTail true { d with lastF2 := { d.lastF2 with hardware := true } }) ∧
  (∀ d : Device, d.lastF2.hardware = true → hardwareSafe d = d) ∧
  (∀ s : State, s.dev.power.state = .safe →
    exec .safeStateReset s = .next { s with dev := mainReset 4 (clearCut (sheetLands (if s.dev.lastF2.hardware then recordLands s.dev else safeRecords s.dev))) }) ∧
  (∀ s : State, s.dev.power.state ≠ .safe → exec .safeStateReset s = .next s) ∧
  (∀ d : Device, (mainReset 4 d).power.mainCause = 4 ∧ (mainReset 4 d).power.resetKind = 1 ∧
    (mainReset 4 d).power.faultHeld = d.power.faultHeld ∧ (mainReset 4 d).lastF2 = d.lastF2 ∧ (mainReset 4 d).lc.otp = d.lc.otp)

/-- Registers as harts read them (R8, R11, R45): a read of a _LO half answers the register and latches its _HI half;
an offset without a register reads zero; outside the control blocks, or off a word boundary, the hart takes an access
fault. Register writes (R8–R11, R88, R225, R359, R435): a hart's write of a register it may write has the register's
effect and no other; a misaligned or excluded one is an access fault; a word stored to its memory lands there. The
wear counter and every RWL register keep their value once locked. An LD's writes reach its host page and configuration
space while the link is up, and an offset without a register discards them. Where the spec leaves room, its clauses
follow the model's choices and readings (notes/assumptions/7.md, notes/assumptions/10.md, notes/assumptions/26.md,
notes/assumptions/66.md, notes/assumptions/124.md). -/
def Obligations.ControlRegisters : Prop :=
  (∀ (s : State) (h : Hart) (addr : Nat), MayRead s.dev h → inBlocks addr = true → addr % 4 = 0 → popRead h addr = none →
    exec (.latchedLoRead (.hart h) .word addr) s = .next { s with dev := latchHi h addr (replyWord (regRead s.dev h addr) s.dev) }) ∧
  (∀ (s : State) (h : Hart) (addr : Nat) (f : Device → Device), MayRead s.dev h → inBlocks addr = true → addr % 4 = 0 →
    popRead h addr = some f → exec (.latchedLoRead (.hart h) .word addr) s = .next { s with dev := f s.dev }) ∧
  (∀ (s : State) (h : Hart) (size : Size) (addr : Nat), MayRead s.dev h → inBlocks addr = true → size ≠ .word ∨ addr % 4 ≠ 0 →
    exec (.latchedLoRead (.hart h) size addr) s = .next { s with dev := accessFault h addr s.dev }) ∧
  (∀ (s : State) (h : Hart) (size : Size) (addr key : Nat), MayRead s.dev h → inBlocks addr = false →
    hartLoadKey s.dev h addr size.bytes = some key →
    exec (.latchedLoRead (.hart h) size addr) s =
      .next { s with dev := readErrors key size.bytes (reply (memRead s.dev.mem key size.bytes) s.dev) }) ∧
  (∀ (s : State) (h : Hart) (size : Size) (addr : Nat), MayRead s.dev h → inBlocks addr = false → hartLoadKey s.dev h addr size.bytes = none →
    exec (.latchedLoRead (.hart h) size addr) s = .next { s with dev := accessFault h addr (readErrors addr size.bytes s.dev) }) ∧
  (∀ (s : State) (ld : Ld) (off : Nat), cxlUp s.dev = true → off % 4 = 0 → 0x10000 ≤ off → off < 0x11000 ∨ 0x11200 ≤ off →
    exec (.latchedLoRead (.page (some ld)) .word off) s = .next { s with dev := replyWord (pageRead s.dev ld off) s.dev }) ∧
  (∀ (s : State) (who : Option Ld) (off : Nat), cxlUp s.dev = true → off % 4 = 0 → off < 0x10000 →
    exec (.latchedLoRead (.page who) .word off) s = .next { s with dev := replyWord (cxlWord (whoOf s.dev who) off) s.dev }) ∧
  (∀ (s : State) (who : Option Ld) (size : Size) (off : Nat), cxlUp s.dev = true → size ≠ .word ∨ off % 4 ≠ 0 →
    exec (.latchedLoRead (.page who) size off) s = .next { s with dev := unsupportedRequest who false size.bytes off s.dev }) ∧
  (∀ (s : State) (who : Option Ld) (off : Nat), cxlUp s.dev = true → off % 4 = 0 →
    exec (.latchedLoRead (.config who) .word off) s = .next { s with dev := reply (leBytes 4 (configWord s.dev who off).toNat) s.dev }) ∧
  (∀ (s : State) (h : Hart), MayRead s.dev h → exec (.latchedLoRead (.hart h) .word 0x60000200) s = .next { s with
    dev := replyWord (loWord s.dev.guard.win) { s.dev with guard := { s.dev.guard with winHi := hiWord s.dev.guard.win } } }) ∧
  (∀ (s : State) (h : Hart), MayRead s.dev h → exec (.latchedLoRead (.hart h) .word 0x60120008) s = .next { s with
    dev := replyWord (loWord s.dev.bat.firstTs) { s.dev with bat := { s.dev.bat with firstTsHi := hiWord s.dev.bat.firstTs } } }) ∧
  (∀ (s : State) (h : Hart) (f : Dev), MayRead s.dev h →
    exec (.latchedLoRead (.hart h) .word (0x60061010 + 0x40 * f)) s = .next { s with
      dev := (modTs f (fun t => { t with wearHiLatch := hiWord t.wear }) (replyWord (loWord (tsAt s.dev f).wear) s.dev)) }) ∧
  (∀ (d : Device) (h : Hart) (addr : Nat), blockReg d h (blockOf addr) (addr % 0x10000) = none → regRead d h addr = 0) ∧
  (∀ (d : Device) (h : Hart), regRead d h 0x60080010 = w32 d.tx.epoch ∧ regRead d h 0x60080008 = txStatus d.tx ∧
    regRead d h 0x60070100 = w32 d.is_.gates ∧ regRead d h 0x60120000 = w32 d.bat.latch ∧ regRead d h 0x600F0000 = ecStat d.ec) ∧
  (∀ (s : State) (h : Hart) (addr : Nat) (v : BitVec 64), inBlocks addr = true → MayWrite s.dev h (blockOf addr) → addr % 4 = 0 →
    exec (.registerWrite (.hart h) .word addr v) s =
      .next { s with dev := stageStart (blockWrite h (blockOf addr) (addr % 0x10000) (v.setWidth 32) s.dev) }) ∧
  (∀ d : Device, attached d = false ∨ d.start.measured = true ∨ stageLocked d = false → stageStart d = d) ∧
  (∀ (s : State) (h : Hart) (size : Size) (addr : Nat) (v : BitVec 64), inBlocks addr = true → MayWrite s.dev h (blockOf addr) →
    size ≠ .word ∨ addr % 4 ≠ 0 →
    exec (.registerWrite (.hart h) size addr v) s = .next { s with dev := stageStart (accessFault h addr s.dev) }) ∧
  (∀ (s : State) (h : Hart) (size : Size) (addr : Nat) (v : BitVec 64), inBlocks addr = true → MayRead s.dev h →
    deckleAllows s.dev h (blockOf addr) = false →
    exec (.registerWrite (.hart h) size addr v) s = .next { s with dev := stageStart (accessFault h addr s.dev) }) ∧
  (∀ (s : State) (h : Hart) (size : Size) (addr key : Nat) (v : BitVec 64), inBlocks addr = false → MayRead s.dev h →
    hartStoreKey s.dev h addr size.bytes = some key →
    exec (.registerWrite (.hart h) size addr v) s = .next { s with dev := stageStart (store key (leBytes size.bytes v.toNat) s.dev) }) ∧
  (∀ (s : State) (h : Hart) (size : Size) (addr : Nat) (v : BitVec 64), inBlocks addr = false → MayRead s.dev h →
    hartStoreKey s.dev h addr size.bytes = none →
    exec (.registerWrite (.hart h) size addr v) s = .next { s with dev := stageStart (accessFault h addr s.dev) }) ∧
  (∀ (mask old v : Word), (bit old 31 = true → lockedWrite mask old v = old) ∧ (bit old 31 = false → lockedWrite mask old v = v &&& (mask ||| 0x80000000))) ∧
  (∀ (s : State) (h : Hart) (v : Word), MayWrite s.dev h 8 →
    exec (.registerWrite (.hart h) .word 0x60080024 (v.setWidth 64)) s =
      .next { s with dev := stageStart (modTx (fun t => { t with cfg := lockedWrite 0xFF t.cfg v }) s.dev) }) ∧
  (∀ (s : State) (v : Word), MayWrite s.dev 0 16 → field v 8 8 = 0xF7 → ptAllowed s.dev = true →
    exec (.registerWrite (.hart 0) .word 0x60100000 (v.setWidth 64)) s =
      .next { s with dev := stageStart (ptChanged { s.dev with pt := { s.dev.pt with enable := bit v 0 } }) } ∧
    exec (.ptCtrlWrite 0 v) s = .next { s with dev := ptChanged { s.dev with pt := { s.dev.pt with enable := bit v 0 } } }) ∧
  (∀ (s : State) (v : Word), MayWrite s.dev 0 16 → field v 8 8 ≠ 0xF7 ∨ ptAllowed s.dev = false → exec (.ptCtrlWrite 0 v) s = .next s) ∧
  (∀ (s : State) (h : Hart) (f : Dev) (v : Word), MayWrite s.dev h 6 → bit s.dev.gf.tsCfg 31 = true → exec (.wearWrite h f v) s = .next s) ∧
  (∀ (s : State) (h : Hart) (f : Dev) (v : Word), MayWrite s.dev h 6 → bit s.dev.gf.tsCfg 31 = false →
    exec (.wearWrite h f v) s = .next { s with dev := (eventsRaw (setWear f s.dev.tx.epoch v (tsAt s.dev f)).2
      (modTs f (fun _ => (setWear f s.dev.tx.epoch v (tsAt s.dev f)).1) s.dev)) }) ∧
  (∀ (f epoch : Nat) (v : Word) (t : Turnstile), (setWear f epoch v t).1.wear = t.wearHi.toNat * 2 ^ 32 + v.toNat ∧
    (t.curve = none → (setWear f epoch v t).2 = [])) ∧
  (∀ (s : State) (ld : Ld) (v : Word), cxlUp s.dev = true →
    exec (.registerWrite (.page (some ld)) .word 0x10014 (v.setWidth 64)) s = .next { s with dev := modLd ld (fun l => { l with stgLen := v }) s.dev } ∧
    exec (.registerWrite (.page (some ld)) .word 0x10108 (v.setWidth 64)) s = .next { s with dev := modLd ld (fun l => { l with expFind := v }) s.dev } ∧
    exec (.registerWrite (.page (some ld)) .word 0x10000 (v.setWidth 64)) s = .next s ∧
    exec (.registerWrite (.config (some ld)) .word 0x68 (v.setWidth 64)) s = .next { s with dev := modLd ld (fun l => { l with tag10 := bit v 12 }) s.dev } ∧
    exec (.registerWrite (.config (some ld)) .word 0x00 (v.setWidth 64)) s = .next s) ∧
  (∀ (s : State) (who : Option Ld) (size : Size) (off : Nat) (v : BitVec 64), cxlUp s.dev = true → size ≠ .word ∨ off % 4 ≠ 0 →
    exec (.registerWrite (.page who) size off v) s = .next { s with dev := unsupportedRequest who true size.bytes off s.dev }) ∧
  (∀ (s : State) (who : Option Ld) (size : Size) (off : Nat) (v : BitVec 64), cxlUp s.dev = false →
    exec (.registerWrite (.page who) size off v) s = .next s ∧ exec (.registerWrite (.config who) size off v) s = .next s)

/-- Mailbox channels (R482–R487): a post by the sender to an empty channel is stored and raises the barker; at a full
one it sets Drop, with the hart's access fault or the host's Completer Abort; another hart's post is an access fault
and another host's has no effect. A post with the tag of the epoch before (`old`) is decided under that epoch's leaf;
where the instant has changed the channel's ends, it is accepted and lost with cause 2, and the channel keeps its
word. A take of a full channel returns its word and clears Full; a take of an empty one, or by another agent, returns
zero. A receiver's reset leaves none of its channels full. Where the spec leaves room, its clauses follow the model's
choices and readings (notes/assumptions/2.md, notes/assumptions/95.md, notes/assumptions/126.md). -/
def Obligations.MailboxChannels : Prop :=
  (∀ (s : State) (h : Hart) (c : Chan) (v : Word) (old : Bool) (r : ChannelRec), MayWrite s.dev h 11 → channelOf (postLeaf s.dev old) c = some r →
    old = false ∨ endsMoved s.dev c = false → r.sender = 0x10 + h.val → (chanAt s.dev c).full = false →
    exec (.hartChannelPost h c v old) s = .next { s with dev := (barker r (if r.logPost
      then event 0x0B03 0 [c, 0x10 + h.val, v.toNat] (modChan c (fun x => { x with word := v, full := true, senderEpoch := false }) s.dev)
      else modChan c (fun x => { x with word := v, full := true, senderEpoch := false }) s.dev)) }) ∧
  (∀ (s : State) (h : Hart) (c : Chan) (v : Word) (old : Bool) (r : ChannelRec), MayWrite s.dev h 11 → channelOf (postLeaf s.dev old) c = some r →
    old = false ∨ endsMoved s.dev c = false → r.sender = 0x10 + h.val → (chanAt s.dev c).full = true →
    ∃ t, exec (.hartChannelPost h c v old) s = .next t ∧ (chanAt t.dev c).drop = true ∧ (chanAt t.dev c).word = (chanAt s.dev c).word ∧
      (chanAt t.dev c).full = true ∧ t.dev.ec.faults[h] = s.dev.ec.faults[h] + 1) ∧
  (∀ (s : State) (h : Hart) (c : Chan) (v : Word) (old : Bool), MayWrite s.dev h 11 → sends (postLeaf s.dev old) (0x10 + h.val) c = false →
    exec (.hartChannelPost h c v old) s = .next { s with dev := accessFault h (0x600B0000 + 4 * c.val) s.dev }) ∧
  (∀ (s : State) (h : Hart) (c : Chan) (v : Word) (r : ChannelRec), MayWrite s.dev h 11 → endsMoved s.dev c = true →
    channelOf (postLeaf s.dev true) c = some r → r.sender = 0x10 + h.val →
    ∃ t, exec (.hartChannelPost h c v true) s = .next t ∧ t.dev = latePost (0x10 + h.val) c v s.dev ∧
      (chanAt t.dev c).word = (chanAt s.dev c).word ∧ (chanAt t.dev c).full = (chanAt s.dev c).full) ∧
  (∀ (s : State) (ld : Ld) (c : Chan) (v : Word) (old : Bool) (r : ChannelRec), cxlUp s.dev = true → channelOf (postLeaf s.dev old) c = some r →
    old = false ∨ endsMoved s.dev c = false → r.sender = ld.val → (chanAt s.dev c).full = false →
    exec (.hostChannelPost ld c v old) s = .next { s with dev := postTaken (postLeaf s.dev old) ld c v s.dev }) ∧
  (∀ (s : State) (ld : Ld) (c : Chan) (v : Word) (old : Bool) (r : ChannelRec), cxlUp s.dev = true → channelOf (postLeaf s.dev old) c = some r →
    old = false ∨ endsMoved s.dev c = false → r.sender = ld.val → (chanAt s.dev c).full = true →
    exec (.hostChannelPost ld c v old) s = .next { s with dev := (completerAbort ld (0x11000 + 4 * c.val)
      (postRefused ld c (modLd ld (fun l => { l with channelDrop := true }) s.dev))) }) ∧
  (∀ (s : State) (ld : Ld) (c : Chan) (v : Word) (old : Bool), cxlUp s.dev = true → sends (postLeaf s.dev old) ld c = false →
    exec (.hostChannelPost ld c v old) s = .next s) ∧
  (∀ (s : State) (ld : Ld) (c : Chan) (v : Word) (r : ChannelRec), cxlUp s.dev = true → endsMoved s.dev c = true →
    channelOf (postLeaf s.dev true) c = some r → r.sender = ld.val →
    exec (.hostChannelPost ld c v true) s = .next { s with dev := latePost ld c v s.dev }) ∧
  (∀ (s : State) (h : Hart) (c : Chan), MayRead s.dev h → receives (curLeaf s.dev) (0x10 + h.val) c = true →
    exec (.hartChannelTake h c) s = .next { s with dev := (modChan c (fun x => { x with full := false })
      (replyWord (if (chanAt s.dev c).full then (chanAt s.dev c).word else 0) s.dev)) }) ∧
  (∀ (s : State) (h : Hart) (c : Chan), MayRead s.dev h → receives (curLeaf s.dev) (0x10 + h.val) c = false →
    exec (.hartChannelTake h c) s = .next { s with dev := replyWord 0 s.dev }) ∧
  (∀ (s : State) (ld : Ld) (c : Chan), cxlUp s.dev = true → receives (curLeaf s.dev) ld c = true →
    exec (.hostChannelTake ld c) s = .next { s with dev := (modChan c (fun x => { x with full := false })
      (replyWord (if (chanAt s.dev c).full then (chanAt s.dev c).word else 0) s.dev)) }) ∧
  (∀ (s : State) (ld : Ld) (c : Chan), cxlUp s.dev = true → receives (curLeaf s.dev) ld c = false →
    exec (.hostChannelTake ld c) s = .next { s with dev := replyWord 0 s.dev }) ∧
  (∀ (aid : Nat) (d : Device) (r : ChannelRec), r ∈ chanRecs d → r.receiver = aid → (chanAt (receiverReset aid d) r.channel).full = false)

/-- SPDM requests (R463–R474). On a connection at the stage a request needs, hart 1 answers it: versions,
capabilities, algorithms, digests and portions of the certificate chain, a signed challenge, measurements, held
responses by their token, chunks. The layouts of the messages are the model's reading of SPDM
(notes/assumptions/54.md). SPDM chunks and refusals (R38, R463, R466, R468, R469): chunks of one handle are taken in
sequence and a large response is given out in chunks; no connection answers RequestResynch, a stage too early
UnexpectedRequest; Tamper-Response refuses a request for digests with event 0x0C32; without hart 1 a request on DOE is
held for it and one over MCTP is dropped. Where the spec leaves room, its clauses follow the model's choices and
readings (notes/assumptions/107.md). -/
def Obligations.SpdmSessions : Prop :=
  (∀ (s : State) (p : Peer), peerUp s.dev p = true → hart1Serves s.dev = true → connOf s.dev p = none → p.transport < 16 →
    exec (.getVersion p) s = .next { s with dev := (spdmSend p versionResponse (setConn p
      { transport := p.transport, eid := 0xFF, stage := 1, vca := [0x10, 0x84, 0, 0] ++ versionResponse } s.dev)) }) ∧
  (∀ (s : State) (p : Peer) (c : SpdmConn), peerUp s.dev p = true → hart1Serves s.dev = true → connOf s.dev p = some c →
    exec (.getVersion p) s = .next { s with dev := (spdmSend p versionResponse (setConn p
      { transport := p.transport, eid := peerEid p, stage := 1, vca := [0x10, 0x84, 0, 0] ++ versionResponse }
      (resetConnections (fun x => x.transport == p.transport && x.eid == peerEid p) 1 s.dev))) }) ∧
  (∀ (s : State) (p : Peer) (c : SpdmConn) (req : List Byte), OnConnection s.dev p 0xE1 c → 1 ≤ c.stage →
    bufLe req 0 1 = 0x12 ∨ bufLe req 0 1 = 0x13 →
    exec (.getCapabilities p req) s = .next { s with dev := (spdmSend p ([BitVec.ofNat 8 (bufLe req 0 1), 0x61, 0, 0, 0, 11, 0, 0] ++
        leBytes 4 (capabilityFlags s.dev) ++ leBytes 4 (dataTransferSize p) ++ leBytes 4 16384)
      (setConn p { unchunked c with version := bufLe req 0 1, stage := 2, vca := c.vca ++ req ++ ([BitVec.ofNat 8 (bufLe req 0 1), 0x61, 0, 0, 0, 11, 0, 0] ++
        leBytes 4 (capabilityFlags s.dev) ++ leBytes 4 (dataTransferSize p) ++ leBytes 4 16384) } s.dev)) }) ∧
  (∀ (s : State) (p : Peer) (c : SpdmConn) (req : List Byte) (sha mldsa : Bool), OnConnection s.dev p 0xE3 c → 2 ≤ c.stage →
    exec (.negotiateAlgorithms p req sha mldsa) s = .next { s with dev := (spdmSend p (algorithmsResponse (connVersion (some c)) sha mldsa)
      (setConn p { unchunked c with stage := 3, noAlgs := !(sha && mldsa), vca := c.vca ++ req ++ algorithmsResponse (connVersion (some c)) sha mldsa } s.dev)) }) ∧
  (∀ (s : State) (p : Peer) (c : SpdmConn) (req : List Byte), OnConnection s.dev p 0x81 c → 3 ≤ c.stage → c.noAlgs = false →
    s.dev.att.chain.isEmpty = false →
    exec (.getDigests p req) s = .next { s with dev := (spdmSend p ([connVersion (some c), 0x01, BitVec.ofNat 8 (flag (c.version == 0x13)), 0x01] ++ sha3_256 s.dev.att.chain)
      (setConn p { unchunked c with transB := c.transB ++ req ++ ([connVersion (some c), 0x01, BitVec.ofNat 8 (flag (c.version == 0x13)), 0x01] ++
        sha3_256 s.dev.att.chain) } s.dev)) }) ∧
  (∀ (s : State) (p : Peer) (c : SpdmConn) (off len : Nat) (req : List Byte), OnConnection s.dev p 0x82 c → 3 ≤ c.stage → c.noAlgs = false →
    s.dev.att.chain.isEmpty = false → off < s.dev.att.chain.length →
    exec (.getCertificate p 0 off len req) s = .next { s with dev := (spdmDeliver p { unchunked c with transB := c.transB ++ req ++
        ([connVersion (some c), 0x02, 0, 0] ++ leBytes 2 (min len (s.dev.att.chain.length - off)) ++
          leBytes 2 (s.dev.att.chain.length - off - min len (s.dev.att.chain.length - off)) ++
          bufBytes s.dev.att.chain off (min len (s.dev.att.chain.length - off))) }
      ([connVersion (some c), 0x02, 0, 0] ++ leBytes 2 (min len (s.dev.att.chain.length - off)) ++
        leBytes 2 (s.dev.att.chain.length - off - min len (s.dev.att.chain.length - off)) ++
        bufBytes s.dev.att.chain off (min len (s.dev.att.chain.length - off))) s.dev) }) ∧
  (∀ (s : State) (p : Peer) (c : SpdmConn) (slot off len : Nat) (req : List Byte), OnConnection s.dev p 0x82 c → 3 ≤ c.stage → c.noAlgs = false →
    s.dev.att.chain.isEmpty = false → slot ≠ 0 ∨ s.dev.att.chain.length ≤ off →
    exec (.getCertificate p slot off len req) s = .next { s with dev := (spdmSend p (spdmError (connVersion (some c)) 0x01 0 []) (setConn p (unchunked c) s.dev)) }) ∧
  (∀ (s : State) (p : Peer) (c : SpdmConn) (req nonce : List Byte) (sum : Nat) (ready : Bool), OnConnection s.dev p 0x83 c → 3 ≤ c.stage → c.noAlgs = false →
    s.dev.att.chain.isEmpty = false → (sum = 0 ∨ sum = 1 ∨ sum = 0xFF) →
    ∃ (body : List Byte) (sig : Option (List Byte)) (d : Device), exec (.challenge p req 0 sum nonce ready) s = .next { s with
        dev := spdmSigning p { unchunked c with transB := [] } 0x83 ready body sig d } ∧
      body = [connVersion (some c), 0x03, 0x00, 0x01] ++ sha3_256 s.dev.att.chain ++ freeBytes s.dev 32 ++ summaryHash s.dev p.transport sum ++
        leBytes 2 0 ++ requesterContext (unchunked c) req ∧
      sig = aliasSign (tookFree 32 s.dev) (signingMessage c.version "responder-challenge_auth signing" (c.vca ++ c.transB ++ req ++ body)) ∧
      d = tookFree 64 s.dev) ∧
  (∀ (s : State) (p : Peer) (c : SpdmConn) (req nonce : List Byte) (slot sum : Nat) (ready : Bool), OnConnection s.dev p 0x83 c → 3 ≤ c.stage → c.noAlgs = false →
    s.dev.att.chain.isEmpty = false → (slot ≠ 0 ∨ (sum ≠ 0 ∧ sum ≠ 1 ∧ sum ≠ 0xFF)) →
    exec (.challenge p req slot sum nonce ready) s = .next { s with dev := (spdmSend p (spdmError (connVersion (some c)) 0x01 0 []) (setConn p (unchunked c) s.dev)) }) ∧
  (∀ (s : State) (p : Peer) (c : SpdmConn) (req nonce : List Byte) (ready : Bool), OnConnection s.dev p 0xE0 c → 3 ≤ c.stage →
    s.dev.att.chain.isEmpty = false →
    ∃ (body : List Byte), exec (.getMeasurements p req 0 false nonce ready) s = .next { s with dev := (spdmDeliver p { unchunked c with transL := c.transL ++ req ++ body } body
        (tookFree 32 s.dev)) } ∧
      body = [connVersion (some c), 0x60, BitVec.ofNat 8 (visibleBlocks s.dev p.transport).length, 0, 0] ++ leBytes 3 0 ++
        freeBytes s.dev 32 ++ leBytes 2 0 ++ requesterContext (unchunked c) req) ∧
  (∀ (s : State) (p : Peer) (c : SpdmConn) (req nonce : List Byte) (ready : Bool), OnConnection s.dev p 0xE0 c → 3 ≤ c.stage → c.noAlgs = false →
    s.dev.att.chain.isEmpty = false →
    ∃ (body : List Byte) (sig : Option (List Byte)), exec (.getMeasurements p req 0xFF true nonce ready) s = .next { s with
        dev := (spdmSigning p { unchunked c with transL := [] } 0xE0 ready body sig (tookFree 64 s.dev)) } ∧
      body = [connVersion (some c), 0x60, 0, 0, BitVec.ofNat 8 (visibleBlocks s.dev p.transport).length] ++
        leBytes 3 ((visibleBlocks s.dev p.transport).flatMap (·.2)).length ++ (visibleBlocks s.dev p.transport).flatMap (·.2) ++
        freeBytes s.dev 32 ++ leBytes 2 0 ++ requesterContext (unchunked c) req ∧
      sig = aliasSign (tookFree 32 s.dev) (signingMessage c.version "responder-measurements signing" (c.vca ++ (c.transL ++ req ++ body)))) ∧
  (∀ (p : Peer) (c : SpdmConn) (code : Nat) (ready : Bool) (body sig : List Byte) (d : Device),
    spdmSigning p c code ready body (some sig) d = spdmSigned p c code ready (body ++ sig) d ∧
    spdmSigning p c code ready body none d = spdmSend p (spdmError (connVersion (some c)) 0x05 0 []) (setConn p c d)) ∧
  (∀ (s : State) (p : Peer) (c : SpdmConn) (code tok : Nat) (msg : List Byte), OnConnection s.dev p 0xFF c → 3 ≤ c.stage → c.held = some (code, tok, msg) →
    exec (.respondIfReady p tok) s = .next { s with dev := spdmDeliver p { unchunked c with held := none } msg s.dev }) ∧
  (∀ (s : State) (p : Peer) (c : SpdmConn) (tok : Nat), OnConnection s.dev p 0xFF c → 3 ≤ c.stage → (∀ code msg, c.held ≠ some (code, tok, msg)) →
    exec (.respondIfReady p tok) s = .next { s with dev := (spdmSend p (spdmError (connVersion (some c)) 0x01 0 []) (setConn p (unchunked c) s.dev)) }) ∧
  (∀ (s : State) (p : Peer) (c : SpdmConn) (code : Nat) (r : List Byte), OnConnection s.dev p code c → 3 ≤ c.stage → c.noAlgs = false →
    exec (.spdmResponseNotReady p code r) s = .next { s with dev := (spdmSend p
      (spdmError (connVersion (some c)) 0x42 0 [13, BitVec.ofNat 8 code, BitVec.ofNat 8 ((c.token + 1) % 256), 8])
      (setConn p { unchunked c with token := (c.token + 1) % 256, held := some (code, (c.token + 1) % 256, r) } s.dev)) }) ∧
  (∀ (s : State) (p : Peer) (c : SpdmConn) (code : Nat), OnConnection s.dev p code c →
    exec (.spdmUnsupportedRequest p code) s = .next { s with dev := (spdmSend p (spdmError (connVersion (some c)) 0x07 code []) (setConn p (unchunked c) s.dev)) }) ∧
  (∀ (s : State) (p : Peer) (c : SpdmConn) (h : Nat) (b : List Byte), peerUp s.dev p = true → hart1Serves s.dev = true → connOf s.dev p = some c → 2 ≤ c.stage →
    c.chunkIn = none → b.length ≤ 16384 →
    exec (.chunkSend p h 0 false b) s = .next { s with dev := (spdmSend p ([connVersion (some c), 0x05, 0x00, BitVec.ofNat 8 h] ++ leBytes 2 0)
      (setConn p { c with chunkIn := some (h, 1, b) } s.dev)) }) ∧
  (∀ (s : State) (p : Peer) (c : SpdmConn) (h n : Nat) (a b : List Byte), peerUp s.dev p = true → hart1Serves s.dev = true → connOf s.dev p = some c → 2 ≤ c.stage →
    c.chunkIn = some (h, n, a) → (a ++ b).length ≤ 16384 →
    exec (.chunkSend p h n true b) s = .next { s with dev := spdmRaw p (a ++ b) (let d := setConn p { c with chunkIn := none } s.dev
      { d with att := { d.att with ack := [connVersion (some c), 0x05, 0x00, BitVec.ofNat 8 h] ++ leBytes 2 n } }) }) ∧
  (∀ (p : Peer) (body : List Byte) (d : Device), p.transport = 0x18 →
    spdmSend p body d = respond 0 ([0x05] ++ (d.att.ack ++ body)) { d with att := { d.att with ack := [] } }) ∧
  (∀ (s : State) (p : Peer) (c : SpdmConn) (h n k m : Nat) (last : Bool) (a b : List Byte), peerUp s.dev p = true → hart1Serves s.dev = true →
    connOf s.dev p = some c → 2 ≤ c.stage → c.chunkIn = some (h, n, a) → k ≠ h ∨ m ≠ n →
    exec (.chunkSend p k m last b) s = .next { s with dev := (spdmSend p (spdmError (connVersion (some c)) 0x01 0 []) (setConn p { c with chunkIn := none } s.dev)) }) ∧
  (∀ (s : State) (p : Peer) (c : SpdmConn) (h n : Nat) (b : List Byte), peerUp s.dev p = true → hart1Serves s.dev = true → connOf s.dev p = some c → 2 ≤ c.stage →
    c.chunkOut = some (h, n + 1, b) → b.length ≤ dataTransferSize p - 12 →
    exec (.chunkGet p h (n + 1)) s = .next { s with dev := (spdmSend p ([connVersion (some c), 0x06, 1, BitVec.ofNat 8 h] ++ leBytes 2 (n + 1) ++ zeros 2 ++
      leBytes 4 b.length ++ b) (setConn p { c with chunkOut := none } s.dev)) }) ∧
  (∀ (s : State) (p : Peer) (c : SpdmConn) (h n : Nat), peerUp s.dev p = true → hart1Serves s.dev = true → connOf s.dev p = some c → 2 ≤ c.stage →
    c.chunkOut = none → exec (.chunkGet p h n) s = .next { s with dev := (spdmSend p (spdmError (connVersion (some c)) 0x04 0 []) (setConn p c s.dev)) }) ∧
  (∀ (s : State) (p : Peer) (req : List Byte) (code h n : Nat), peerUp s.dev p = true → hart1Serves s.dev = true → tamperResponse s.dev = false → connOf s.dev p = none →
    exec (.getDigests p req) s = .next { s with dev := spdmSend p (spdmError 0x12 0x43 0 []) s.dev } ∧
    exec (.getCapabilities p req) s = .next { s with dev := spdmSend p (spdmError 0x12 0x43 0 []) s.dev } ∧
    exec (.spdmUnsupportedRequest p code) s = .next { s with dev := spdmSend p (spdmError 0x12 0x43 0 []) s.dev } ∧
    exec (.chunkGet p h n) s = .next { s with dev := spdmSend p (spdmError 0x12 0x43 0 []) s.dev }) ∧
  (∀ (s : State) (p : Peer) (c : SpdmConn) (req : List Byte), OnConnection s.dev p 0x81 c → c.stage < 3 ∨ c.noAlgs = true →
    exec (.getDigests p req) s = .next { s with dev := (spdmSend p (spdmError (connVersion (some c)) 0x04 0 []) (setConn p (unchunked c) s.dev)) }) ∧
  (∀ (s : State) (p : Peer) (req : List Byte), peerUp s.dev p = true → hart1Serves s.dev = true → tamperResponse s.dev = true →
    exec (.getDigests p req) s = .next { s with dev := (spdmSend p (spdmError (connVersion (connOf s.dev p)) 0x07 0x81 [])
      (hartEvent 1 0x0C32 3 [p.transport, 0x81, 0, 0] (match connOf s.dev p with
        | some c => setConn p (unchunked c) s.dev
        | none => s.dev))) }) ∧
  (∀ (s : State) (p : Peer) (req : List Byte) (h n : Nat), peerUp s.dev p = true → hart1Serves s.dev = false →
    exec (.getVersion p) s = .next { s with dev := holdSpdm p [0x10, 0x84, 0, 0] s.dev } ∧
    exec (.getDigests p req) s = .next { s with dev := holdSpdm p req s.dev } ∧
    exec (.chunkGet p h n) s = .next { s with dev := (holdSpdm p ([0x12, 0x86, 0, BitVec.ofNat 8 h] ++ leBytes 2 n) s.dev) }) ∧
  (∀ (p : Peer) (raw : List Byte) (d : Device), 16 ≤ p.transport → holdSpdm p raw d = d) ∧
  (∀ (s : State) (p : Peer) (req : List Byte) (h n : Nat), peerUp s.dev p = false → (cxlUp s.dev = true → p.transport < 16 → (ldOf s.dev p.transport).doeRsp = none) →
    exec (.getVersion p) s = .next s ∧ exec (.getDigests p req) s = .next s ∧ exec (.chunkGet p h n) s = .next s) ∧
  (∀ (s : State) (p : Peer) (req o : List Byte) (h n : Nat), cxlUp s.dev = true → p.transport < 16 → (ldOf s.dev p.transport).doeRsp = some o →
    exec (.getVersion p) s = .next { s with dev := modLd p.transport (fun l => { l with doeError := true }) s.dev } ∧
    exec (.getDigests p req) s = .next { s with dev := modLd p.transport (fun l => { l with doeError := true }) s.dev } ∧
    exec (.chunkGet p h n) s = .next { s with dev := modLd p.transport (fun l => { l with doeError := true }) s.dev })

/-- The runtime sweep (R475–R480): a host's registration gives its outcome, and on success takes the lowest free
number and joins the due queue; an unregistration removes the region. Hart 1 pops the next pass, starts it on a
context of its own, and posts its result; completions, errors and the 50 ms limit deliver or end the pass. Where the
spec leaves room, its clauses follow the model's choices and readings (notes/assumptions/3.md,
notes/assumptions/87.md, notes/assumptions/110.md, notes/assumptions/116.md, notes/assumptions/125.md). -/
def Obligations.RuntimeSweep : Prop :=
  (∀ (s : State) (ld : Ld) (v : Word), cxlUp s.dev = true → field v 0 2 = 1 → registerOutcome s.dev ld (bit v 4) (bit v 5) ≠ 0 →
    exec (.sweepRegister ld v) s = .next { s with dev := sweepResult ld (registerOutcome s.dev ld (bit v 4) (bit v 5)) 0 s.dev }) ∧
  (∀ (s : State) (ld : Ld) (v : Word), cxlUp s.dev = true → field v 0 2 = 1 → registerOutcome s.dev ld (bit v 4) (bit v 5) = 0 →
    ∃ t, exec (.sweepRegister ld v) s = .next t ∧ (ldOf t.dev ld).swpOutcome = 0 ∧ (ldOf t.dev ld).swpDone = true ∧
      (ldOf t.dev ld).swpRegion = freeRegion s.dev ld ∧ t.dev.cx.due = s.dev.cx.due ++ [(ld.val, freeRegion s.dev ld)] ∧
      t.dev.cx.regions = s.dev.cx.regions ++ [
        { ld := ld, no := freeRegion s.dev ld, base := (ldOf s.dev ld).swpBase, units := (ldOf s.dev ld).swpUnits,
          period := (ldOf s.dev ld).swpPeriod, compare := bit v 4, attest := bit v 5,
          expected := if bit v 4 then (ldOf s.dev ld).swpExp else zeros 64 }] ∧ t.dev.mem = s.dev.mem ∧ t.dev.tx = s.dev.tx) ∧
  (∀ (d : Device) (ld : Nat) (cmp att : Bool), sweepRec (curLeaf d) ld = none → registerOutcome d ld cmp att = 1) ∧
  (∀ (d : Device) (ld : Nat) (cmp att : Bool) (r : SweepRec), sweepRec (curLeaf d) ld = some r →
    inWindow (curLeaf d) ld (ldOf d ld).swpBase (ldOf d ld).swpUnits = false → registerOutcome d ld cmp att = 2) ∧
  (∀ (s : State) (ld : Ld) (v : Word), cxlUp s.dev = true → field v 0 2 = 2 → regionOf s.dev ld (field v 8 6) = none →
    exec (.sweepUnregister ld v) s = .next { s with dev := sweepResult ld 6 (field v 8 6) s.dev }) ∧
  (∀ (s : State) (ld : Ld) (v : Word), cxlUp s.dev = true → field v 0 2 = 2 → regionOf s.dev ld (field v 8 6) ≠ none →
    exec (.sweepUnregister ld v) s = .next { s with dev := sweepResult ld 0 (field v 8 6) (unregister ld (field v 8 6) 6 s.dev) }) ∧
  (∀ (s : State) (ld : Ld) (r : Nat) (g : SweepRegion) (q : SweepRec), mainRuns s.dev = true → regionOf s.dev ld r = some g → (ld.val, r) ∉ s.dev.cx.due →
    sweepRec (curLeaf s.dev) ld = some q → (∀ t, g.started = some t → t + max g.period q.minPeriodMs ≤ vget s.dev.cx.millis ld) →
    exec (.sweepRegionDue ld r) s = .next { s with dev := { s.dev with cx := { s.dev.cx with due := s.dev.cx.due ++ [(ld.val, r)] } } }) ∧
  (∀ (s : State) (ld : Ld) (r t : Nat) (g : SweepRegion), regionOf s.dev ld r = some g → g.started = some t →
    vget s.dev.cx.millis ld < t + g.period → exec (.sweepRegionDue ld r) s = .next s) ∧
  (∀ (s : State) (r : SweepRegion), MayRead s.dev 1 → nextPass s.dev = some r →
    exec (.sweepNextPop 1) s = .next { s with dev := (replyWord (pack [(0, 6, r.no), (8, 4, r.ld), (12, 1, flag r.compare), (13, 1, flag r.attest), (31, 1, 1)])
      { s.dev with cx := { s.dev.cx with popped := some (r.ld, r.no) } }) }) ∧
  (∀ (s : State) (h : Hart), MayRead s.dev h → h ≠ 1 →
    exec (.sweepNextPop h) s = .next { s with dev := replyWord 0 s.dev } ∧ exec (.sweepEndPop h) s = .next { s with dev := replyWord 0 s.dev }) ∧
  (∀ (s : State) (v : Word) (c : Context) (ld no : Nat), MayWrite s.dev 1 12 → bit v 31 = true → s.dev.cx.popped = some (ld, no) → regionOf s.dev ld no ≠ none →
    passOf s.dev ld = none → (ld, no) ∈ s.dev.cx.due → sweepCtxOk s.dev (field v 0 12) = true → ctxOf s.dev.dg (field v 0 12) = some c →
    exec (.sweepStart 1 v) s = .next { s with dev := (issueReads ld (modRegion ld no (fun r => { r with state := 2, started := some (vget s.dev.cx.millis ld) }) { s.dev with
      dg := (setCtx s.dev.dg { c with tap := some { kind := 4, dev := ld, start := 0, next := 0 }, bound := some (4, ld, 0, s.dev.tx.epoch) }),
      cx := { s.dev.cx with due := s.dev.cx.due.filter (· != (ld, no)), passes := s.dev.cx.passes ++
        [{ ld := ld, no := no, ctx := field v 0 12, issued := 0, delivered := 0, arrived := [], oldUpTo := 0 }] } })) }) ∧
  (∀ (s : State) (h : Hart) (v : Word), MayWrite s.dev h 12 → h ≠ 1 → exec (.sweepStart h v) s = .next s ∧ exec (.sweepPost h v) s = .next s) ∧
  (∀ (s : State) (ld : Ld) (off st : Nat) (b : List Byte) (p : SweepPass), passOf s.dev ld = some p → mainRuns s.dev = true → off % 256 = 0 → p.delivered ≤ off →
    off < p.issued → (∀ a ∈ p.arrived, a.1 ≠ off) → st ≠ 0 →
    exec (.sweepReadCompletion ld off st b) s = .next { s with dev := endPass ld (if st = 3 then 3 else 1) s.dev }) ∧
  (∀ (s : State) (ld : Ld) (off st : Nat) (b : List Byte) (p : SweepPass), passOf s.dev ld = some p → (off < p.delivered ∨ p.issued ≤ off) →
    exec (.sweepReadCompletion ld off st b) s = .next s) ∧
  (∀ (s : State) (ld : Ld) (b : List Byte) (p q : SweepPass) (g : SweepRegion), passOf s.dev ld = some p → mainRuns s.dev = true → p.delivered % 256 = 0 →
    p.delivered < p.issued → p.arrived = [] → passOf (sweepFaults (deliverReads 1025 ld (setPass { p with arrived := [(p.delivered, padTo 256 b)] } s.dev))) ld = some q →
    regionOf (sweepFaults (deliverReads 1025 ld (setPass { p with arrived := [(p.delivered, padTo 256 b)] } s.dev))) ld p.no = some g →
    exec (.sweepReadCompletion ld p.delivered 0 b) s = .next { s with dev := (if 4096 * g.units ≤ q.delivered
      then endPass ld 0 (sweepFaults (deliverReads 1025 ld (setPass { p with arrived := [(p.delivered, padTo 256 b)] } s.dev)))
      else issueReads ld (sweepFaults (deliverReads 1025 ld (setPass { p with arrived := [(p.delivered, padTo 256 b)] } s.dev)))) }) ∧
  (∀ (s : State) (ld : Ld) (p : SweepPass), passOf s.dev ld = some p → mainRuns s.dev = true → p.delivered + arrivedBytes p < p.issued →
    exec (.sweepReadTimeout ld) s = .next { s with dev := endPass ld 2 s.dev }) ∧
  (∀ (s : State) (ld : Ld) (r : SweepRec), sweepRec (curLeaf s.dev) ld = some r → mainRuns s.dev = true →
    exec (.sweepBucketRefill ld) s = .next { s with dev := (issueReads ld (setBucket ld (min 65536 (vget s.dev.cx.buckets ld + 1000 * r.rateCapMBps))
      { s.dev with cx := { s.dev.cx with millis := vmod s.dev.cx.millis ld (· + 1) } })) }) ∧
  (∀ (s : State) (e : SweepEnd) (tl : List SweepEnd), MayRead s.dev 1 → s.dev.cx.ends = e :: tl →
    exec (.sweepEndPop 1) s = .next { s with dev := (replyWord (pack [(0, 6, e.no), (8, 4, e.ld), (12, 12, e.ctx), (24, 4, e.cause), (31, 1, 1)])
      { s.dev with cx := { s.dev.cx with ends := tl } }) }) ∧
  (∀ (s : State) (v : Word), MayWrite s.dev 1 12 → bit v 31 = true →
    exec (.sweepPost 1 v) s = .next { s with dev := postResult (field v 8 4) (field v 0 6) (field v 12 3) (field v 16 4) s.dev }) ∧
  (∀ (d : Device) (ld no result cause : Nat) (r : SweepRegion), regionOf d ld no = some r →
    regionOf (postResult ld no result cause d) ld no = some
      { r with lastResult := result, lastCause := cause, passes := if within 1 4 result then satAdd 16 r.passes 1 else r.passes, digest := if within 1 3 result then d.cx.swpDig else r.digest })

/-- I3C channel access (R489, R492, R495, R556): selection, post and take by common command code or in I2C mode; a
post to a full channel, or by another than the sender, is not acknowledged; a taken post with a hart's barker is a
wake source. A post that carries the tag of the epoch before (`old`) is decided under that epoch's leaf and lost where
the channel's ends have changed since (R487). An interrupt that the controller accepts carries its channel; one it
refuses stays pending. A port out of its mode or without power acknowledges nothing. I3C common command codes (R489,
R492, R496): with the port in I3C mode and main power up each is acknowledged, with the bytes or the port's new field;
an address assignment needs a target without one, and SETDASA the port's static address; SETNEWDA needs one with it;
the target reset pattern resets the port unless RSTACT said none. Where the spec leaves room, its clauses follow the
model's choices and readings (notes/assumptions/2.md, notes/assumptions/30.md, notes/assumptions/92.md,
notes/assumptions/126.md). -/
def Obligations.I3cPorts : Prop :=
  (∀ (s : State) (m : Mport) (c : Nat), cccAlive s.dev m = true →
    exec (.cccSelect m c) s = .next { s with dev := acked [] (modI3c m (fun p => { p with select := some c }) s.dev) }) ∧
  (∀ (s : State) (m : Mport) (c : Nat) (v : Word) (old : Bool), cccAlive s.dev m = true → (i3cAt s.dev m).select = some c →
    exec (.cccPost m v old) s = .next { s with dev := (if postWakes s.dev m old c then wakeSource 1 (sleptTicks s.dev) (portPost m c v old s.dev)
      else portPost m c v old s.dev) }) ∧
  (∀ (s : State) (m : Mport) (c : Nat) (v : Word) (old : Bool), islandUp s.dev = true → i3cMode s.dev m = 2 →
    exec (.i2cChannelPost m c v old) s = .next { s with dev := (if postWakes s.dev m old c then wakeSource 1 (sleptTicks s.dev) (portPost m c v old s.dev)
      else portPost m c v old s.dev) }) ∧
  (∀ (d : Device) (m : Mport) (c : Nat) (v : Word) (r : ChannelRec), channelOf (curLeaf d) c = some r → r.sender = portAid m →
    (chanAt d c).full = false → portPost m c v false d = acked [] (postTaken (curLeaf d) (portAid m) c v d)) ∧
  (∀ (d : Device) (m : Mport) (c : Nat) (v : Word) (r : ChannelRec), channelOf (curLeaf d) c = some r → r.sender = portAid m →
    (chanAt d c).full = true → portPost m c v false d = nackFull m (postRefused (portAid m) c d)) ∧
  (∀ (d : Device) (m : Mport) (c : Nat) (v : Word), sends (curLeaf d) (portAid m) c = false → portPost m c v false d = nacked d) ∧
  (∀ (d : Device) (m : Mport) (c : Nat) (v : Word), endsMoved d c = true → sends (postLeaf d true) (portAid m) c = true →
    portPost m c v true d = acked [] (latePost (portAid m) c v d)) ∧
  (∀ (d : Device) (m : Mport) (c : Nat) (v : Word), sends (postLeaf d true) (portAid m) c = false → portPost m c v true d = nacked d) ∧
  (∀ (s : State) (m : Mport) (c : Nat), cccAlive s.dev m = true → (i3cAt s.dev m).select = some c →
    exec (.cccTake m) s = .next { s with dev := portTake m c s.dev }) ∧
  (∀ (s : State) (m : Mport), cccAlive s.dev m = true → (i3cAt s.dev m).select = none →
    exec (.cccTake m) s = .next { s with dev := acked (zeros 6) s.dev }) ∧
  (∀ (s : State) (m : Mport) (c : Nat), islandUp s.dev = true → i3cMode s.dev m = 2 → receives (curLeaf s.dev) (portAid m) c = true →
    exec (.i2cChannelTake m c) s = .next { s with dev := portTake m c s.dev }) ∧
  (∀ (s : State) (m : Mport) (c : Nat), receives (curLeaf s.dev) (portAid m) c = false →
    exec (.i2cChannelTake m c) s = .next { s with dev := nacked s.dev }) ∧
  (∀ (s : State) (m : Mport) (i : Nat) (rest : List Nat), cccAlive s.dev m = true → (i3cAt s.dev m).ibis = i :: rest → i ≠ pendingRead →
    exec (.ibiAccepted m true) s = .next { s with dev := acked [0xE5, BitVec.ofNat 8 i] (modI3c m (fun p => { p with ibis := rest }) s.dev) }) ∧
  (∀ (s : State) (m : Mport) (i : Nat) (rest : List Nat), cccAlive s.dev m = true → (i3cAt s.dev m).ibis = i :: rest →
    exec (.ibiAccepted m false) s = .next { s with dev := nacked s.dev }) ∧
  (∀ (s : State) (m : Mport) (a : Bool), (i3cAt s.dev m).ibis = [] → exec (.ibiAccepted m a) s = .next s) ∧
  (∀ (s : State) (m : Mport) (c : Nat), cccAlive s.dev m = false → exec (.cccSelect m c) s = .next { s with dev := nacked s.dev } ∧
    exec (.cccTake m) s = .next { s with dev := nacked s.dev }) ∧
  (∀ (s : State) (m : Mport), cccAwake s.dev m = true →
    exec (.enec m 1) s = .next { s with dev := (acked [] (modI3c m (fun p => { p with ibiEnabled := true, ibiWait := [], ibis := (p.ibis ++
      (waitingIbis s.dev m).filter (fun c => !p.ibis.contains c) ++
      (if p.tx.isEmpty || p.ibis.contains pendingRead then [] else [pendingRead])) }) s.dev)) } ∧
    exec (.enec m 0) s = .next { s with dev := acked [] s.dev } ∧
    exec (.disec m 1) s = .next { s with dev := (acked [] (modI3c m (fun p => { p with
      ibiEnabled := false, ibis := [], ibiWait := p.ibiWait.filter (fun c => !p.ibis.contains c) ++ p.ibis.filter (· != pendingRead) }) s.dev)) } ∧
    exec (.rstdaa m) s = .next { s with dev := acked [] (modI3c m (fun p => { p with daValid := false, dynAddr := 0 }) s.dev) } ∧
    exec (.getpid m) s = .next { s with dev := acked (provisionalId s.dev m) s.dev } ∧
    exec (.getbcr m) s = .next { s with dev := acked [0x06] s.dev } ∧
    exec (.getdcr m) s = .next { s with dev := acked [Config.mctpDcr] s.dev } ∧
    exec (.getmwl m) s = .next { s with dev := acked (leBytes 2 (i3cAt s.dev m).mwl).reverse s.dev } ∧
    exec (.getmrl m) s = .next { s with dev := acked (leBytes 2 (i3cAt s.dev m).mrl).reverse s.dev }) ∧
  (∀ (s : State) (m : Mport) (n : Nat), cccAwake s.dev m = true →
    exec (.setmwl m n) s = .next { s with dev := acked [] (modI3c m (fun p => { p with mwl := min n 69 }) s.dev) } ∧
    exec (.setmrl m n) s = .next { s with dev := acked [] (modI3c m (fun p => { p with mrl := min n 69 }) s.dev) } ∧
    exec (.rstact m n) s = .next { s with dev := acked [] (modI3c m (fun p => { p with rstAction := n }) s.dev) }) ∧
  (∀ (s : State) (m : Mport) (a : Nat), cccAwake s.dev m = true → (i3cAt s.dev m).daValid = false →
    exec (.entdaa m a) s = .next { s with dev := assignAddress m a 2 s.dev } ∧
    exec (.setdasa m (i3cStatic s.dev m) a) s = .next { s with dev := assignAddress m a 1 s.dev } ∧
    exec (.setnewda m a) s = .next { s with dev := nacked s.dev }) ∧
  (∀ (s : State) (m : Mport) (k a : Nat), cccAwake s.dev m = true → k ≠ i3cStatic s.dev m →
    exec (.setdasa m k a) s = .next { s with dev := nacked s.dev }) ∧
  (∀ (s : State) (m : Mport) (k a : Nat), cccAwake s.dev m = true → (i3cAt s.dev m).daValid = true →
    exec (.entdaa m a) s = .next { s with dev := nacked s.dev } ∧
    exec (.setdasa m k a) s = .next { s with dev := nacked s.dev } ∧
    exec (.setnewda m a) s = .next { s with dev := assignAddress m a 3 s.dev }) ∧
  (∀ (d : Device) (m : Mport) (a k : Nat), (i3cAt (assignAddress m a k d) m).daValid = true ∧ (i3cAt (assignAddress m a k d) m).dynAddr = a) ∧
  (∀ (s : State) (m : Mport), cccAlive s.dev m = true →
    exec (.getstatus m) s = .next { s with dev := acked [0x00, if (i3cAt s.dev m).ibis.isEmpty then 0x00 else 0x01] s.dev }) ∧
  (∀ (s : State) (m : Mport), cccAwake s.dev m = true → (i3cAt s.dev m).rstAction = 1 ∨ (i3cAt s.dev m).rstAction = 2 →
    exec (.i3cTargetReset m) s = .next { s with dev := i3cPortReset m (modI3c m (fun p => { p with rstAction := 1 }) s.dev) }) ∧
  (∀ (s : State) (m : Mport), cccAwake s.dev m = true → (i3cAt s.dev m).rstAction = 0 →
    exec (.i3cTargetReset m) s = .next { s with dev := modI3c m (fun p => { p with rstAction := 1 }) s.dev }) ∧
  (∀ (s : State) (m : Mport), cccAwake s.dev m = false →
    exec (.getpid m) s = .next { s with dev := nacked s.dev } ∧ exec (.rstdaa m) s = .next { s with dev := nacked s.dev })

/-- MCTP on the I3C ports (R493, R494): a packet is acknowledged while fewer than 32 wait, and counted as a NACK
otherwise; the serving hart takes a message in one packet, and discards and counts, once, a message with a bad check
byte or without its start; control messages are answered in packets of 64 bytes, each behind its MCTP header, with a
pending-read interrupt; each packet read ends in its check byte. The control message bodies are the model's reading of
DSP0236. Where the spec leaves room, its clauses follow the model's choices and readings (notes/assumptions/30.md,
notes/assumptions/92.md, notes/assumptions/126.md). -/
def Obligations.MctpTransport : Prop :=
  (∀ (s : State) (m : Mport) (pk : McPacket) (d : Device), mainUp s.dev = true → i3cMode s.dev m ≠ 0 → drainPackets m s.dev = d →
    (i3cAt d m).rx.length < 32 →
    exec (.mctpPacket m pk) s = .next { s with dev := (drainPackets m (acked [] (modI3c m (fun p => { p with rx := p.rx ++ [pk] }) d))) }) ∧
  (∀ (s : State) (m : Mport) (pk : McPacket) (d : Device), mainUp s.dev = true → i3cMode s.dev m ≠ 0 → drainPackets m s.dev = d →
    32 ≤ (i3cAt d m).rx.length →
    exec (.mctpPacket m pk) s = .next { s with dev := (nacked (modI3c m (fun p => { p with nacks := satAdd 16 p.nacks 1 }) d)) }) ∧
  (∀ (m : Mport) (d : Device), portServed d m = false ∨ (i3cAt d m).rx = [] → (drainPackets m d).mem = d.mem ∧
    (i3cAt (drainPackets m d) m).rx = (i3cAt d m).rx ∧ (i3cAt (drainPackets m d) m).msgs = (i3cAt d m).msgs) ∧
  (∀ (s : State) (m : Mport) (pk : McPacket), mainUp s.dev = false → exec (.mctpPacket m pk) s = .next { s with dev := nacked s.dev }) ∧
  (∀ (d : Device) (m : Mport) (pk : McPacket), pk.pecOk = false → dropped (i3cAt d m) pk = false →
    reassemble m pk d = discardMessage m pk.src pk.tag 3 (!pk.eom) d) ∧
  (∀ (d : Device) (m : Mport) (pk : McPacket), pk.pecOk = true → pk.som = false → dropped (i3cAt d m) pk = false →
    (i3cAt d m).asm.find? (fun a => a.src == pk.src && a.tag == pk.tag) = none →
    reassemble m pk d = discardMessage m pk.src pk.tag 2 (!pk.eom) d) ∧
  (∀ (d : Device) (m : Mport) (pk : McPacket), dropped (i3cAt d m) pk = true → (reassemble m pk d).ev = d.ev ∧
    (i3cAt (reassemble m pk d) m).discarded = (i3cAt d m).discarded) ∧
  (∀ (d : Device) (m : Mport) (pk : McPacket), pk.pecOk = true → pk.som = true → pk.eom = true →
    (i3cAt d m).asm.find? (fun a => a.src == pk.src && a.tag == pk.tag) = none → pk.payload.length ≤ 1280 → mctpAccepted pk.payload = true →
    (i3cAt (reassemble m pk d) m).msgs = (i3cAt d m).msgs ++ [(pk.src, pk.tag, pk.payload)]) ∧
  (∀ (d : Device) (m : Mport) (src tag reason : Nat) (more : Bool),
    (i3cAt (discardMessage m src tag reason more d) m).discarded = satAdd 8 (i3cAt d m).discarded 1) ∧
  (∀ (d : Device) (m : Mport) (bs : List Byte), bs.length ≤ 64 → bs ≠ [] → (i3cAt (respond m bs d) m).tx = (i3cAt d m).tx ++
      [[0x01, BitVec.ofNat 8 (requester (i3cAt d m)).1, BitVec.ofNat 8 (i3cAt d m).eid,
        BitVec.ofNat 8 (0xC0 + (requester (i3cAt d m)).2 % 8)] ++ bs] ∧
    (i3cAt (respond m bs d) m).msgs = (i3cAt d m).msgs.drop 1 ∧ (respond m bs d).reply = bs) ∧
  (∀ (s : State) (m : Mport) (op eid : Nat), PortServed s.dev m → 0 < eid → eid < 255 → op < 2 →
    exec (.setEndpointId m op eid) s = .next { s with dev := (respond m ([0x00, 0x00, 0x01] ++ [0x00, 0x00, BitVec.ofNat 8 eid, 0x00])
      (modI3c m (fun p => { p with eid := eid }) s.dev)) }) ∧
  (∀ (s : State) (m : Mport) (op eid : Nat), PortServed s.dev m → (eid = 0 ∨ 255 ≤ eid ∨ 2 ≤ op) →
    exec (.setEndpointId m op eid) s = .next { s with dev := respond m ([0x00, 0x00, 0x01] ++ [0x02]) s.dev }) ∧
  (∀ (s : State) (m : Mport), PortServed s.dev m →
    exec (.getEndpointId m) s = .next { s with dev := respond m ([0x00, 0x00, 0x02] ++ [0x00, BitVec.ofNat 8 (i3cAt s.dev m).eid, 0x00, 0x00]) s.dev } ∧
    exec (.getMessageTypeSupport m) s = .next { s with dev := respond m ([0x00, 0x00, 0x05] ++ [0x00, 0x03, 0x00, 0x05, 0x7E]) s.dev } ∧
    exec (.getVendorDefinedMessageSupport m 0) s = .next { s with dev := respond m ([0x00, 0x00, 0x06] ++ [0x00, 0xFF, 0x00, 0x1F, 0xA7, 0x00, 0x00]) s.dev }) ∧
  (∀ (s : State) (m : Mport) (t : Nat), PortServed s.dev m → (t = 0xFF ∨ t = 0x00 ∨ t = 0x05 ∨ t = 0x7E) →
    exec (.getMctpVersionSupport m t) s = .next { s with dev := (respond m ([0x00, 0x00, 0x04] ++
      (0x00 :: BitVec.ofNat 8 ((Config.mctpVersions t).length / 4) :: Config.mctpVersions t)) s.dev) }) ∧
  (∀ (s : State) (m : Mport), mainUp s.dev = true → i3cMode s.dev m = 2 → (i3cAt s.dev m).tx = [] →
    exec (.i2cMctpResponseRead m) s = .next { s with dev := acked [0x00] s.dev }) ∧
  (∀ (s : State) (m : Mport) (pk : List Byte) (rest : List (List Byte)), mainUp s.dev = true → i3cMode s.dev m = 2 → (i3cAt s.dev m).tx = pk :: rest →
    exec (.i2cMctpResponseRead m) s = .next { s with dev := acked (smbusFrame (i3cStatic s.dev m) pk) (modI3c m (fun q => { q with tx := rest }) s.dev) }) ∧
  (∀ (s : State) (m : Mport) (pk : List Byte), cccAlive s.dev m = true → (i3cAt s.dev m).ibis = [pendingRead] → (i3cAt s.dev m).tx = [pk] →
    exec (.ibiAccepted m true) s = .next { s with dev := (acked (0xAE :: i3cFrame (i3cAt s.dev m) pk)
      (modI3c m (fun q => { q with tx := [], ibis := [] }) s.dev)) }) ∧
  (∀ (s : State) (m : Mport), portServed s.dev m = false → exec (.getEndpointId m) s = .next s)

/-- Fjarlin messages (R407, R411, R419, R424, R444, R448, R496–R498): within the port's rights each is answered with
its status, detail and body: the device status, a transfer begun and continued in order; at its end the content is
taken by what consumes it, and the answer follows as that ends; sheets and records read within the port's masks,
acknowledgements and clears. Without an epoch the rights-bound ones are Unavailable. The statuses that R497 does not
name are the model's (notes/assumptions/52.md). Where the spec leaves room, its clauses follow the model's choices and
readings (notes/assumptions/52.md, notes/assumptions/59.md, notes/assumptions/127.md). -/
def Obligations.FjarlinMessages : Prop :=
  (∀ (s : State) (m : Mport) (tag : Nat), PortServed s.dev m →
    exec (.fjStatus m tag) s = .next { s with dev := (respond m ([0x7E, 0x1F, 0xA7] ++ [0x81, BitVec.ofNat 8 tag, 0, 0] ++
      statusObject (ledgerMask s.dev (portAid m)) s.dev) s.dev) }) ∧
  (∀ (s : State) (m : Mport) (tag kind len : Nat), PortServed s.dev m → (i3cAt s.dev m).session = none → beginOutcome s.dev m kind len = 0 →
    exec (.transferBegin m tag kind len) s = .next { s with dev := (respond m ([0x7E, 0x1F, 0xA7] ++ [0x90, BitVec.ofNat 8 tag, 0, 0] ++ [])
      (modI3c m (fun p => { p with session := some { kind := kind, len := len, data := [] } }) s.dev)) }) ∧
  (∀ (s : State) (m : Mport) (tag kind len : Nat), PortServed s.dev m → (i3cAt s.dev m).session = none → beginOutcome s.dev m kind len = 2 →
    exec (.transferBegin m tag kind len) s = .next { s with dev := (respond m ([0x7E, 0x1F, 0xA7] ++ [0x90, BitVec.ofNat 8 tag, 1, 2] ++ []) s.dev) }) ∧
  (∀ (s : State) (m : Mport) (tag off : Nat) (b : List Byte) (t : Transfer), PortServed s.dev m → (i3cAt s.dev m).session = some t →
    off = t.data.length → b.length ≤ 1024 → off + b.length ≤ t.len →
    exec (.transferData m tag off b) s = .next { s with dev := (respond m ([0x7E, 0x1F, 0xA7] ++ [0x91, BitVec.ofNat 8 tag, 0, 0] ++ [])
      (modI3c m (fun p => { p with session := some { t with data := t.data ++ b } }) s.dev)) }) ∧
  (∀ (s : State) (m : Mport) (tag off : Nat) (b : List Byte), PortServed s.dev m → (i3cAt s.dev m).session = none ∨
      (∃ t, (i3cAt s.dev m).session = some t ∧ (off ≠ t.data.length ∨ 1024 < b.length ∨ t.len < off + b.length)) →
    exec (.transferData m tag off b) s = .next { s with dev := (respond m ([0x7E, 0x1F, 0xA7] ++ [0x91, BitVec.ofNat 8 tag, 3, 0] ++ []) s.dev) }) ∧
  (∀ (s : State) (m : Mport) (tag fault : Nat) (t : Transfer), PortServed s.dev m → (i3cAt s.dev m).session = some t →
    (i3cAt s.dev m).ending = none → t.data.length = t.len → consumerBusy s.dev t = false →
    exec (.transferEnd m tag fault) s = .next { s with dev := (consumeTransfer m t fault (modI3c m (fun p => { p with
      msgs := p.msgs.drop 1, ending := some (tag, (requester (i3cAt s.dev m)).1, (requester (i3cAt s.dev m)).2) }) s.dev)) }) ∧
  (∀ (s : State) (m : Mport) (tag fault : Nat), PortServed s.dev m → (i3cAt s.dev m).session = none ∨
      (∃ t, (i3cAt s.dev m).session = some t ∧ t.data.length < t.len) →
    exec (.transferEnd m tag fault) s = .next { s with dev := (respond m ([0x7E, 0x1F, 0xA7] ++ [0x92, BitVec.ofNat 8 tag, 3, 0] ++ []) s.dev) }) ∧
  (∀ (s : State) (m : Mport) (tag fault : Nat) (t : Transfer), PortServed s.dev m → (i3cAt s.dev m).session = some t → t.len ≤ t.data.length →
    (i3cAt s.dev m).ending ≠ none ∨ consumerBusy s.dev t = true →
    exec (.transferEnd m tag fault) s = .next { s with dev := (respond m ([0x7E, 0x1F, 0xA7] ++ [0x92, BitVec.ofNat 8 tag, 2, 0] ++ []) s.dev) }) ∧
  (∀ (d : Device) (m : Mport) (t : Transfer) (fault : Nat), d.start.phase ≠ .recovery →
    (t.kind = 1 → consumeTransfer m t fault d = takeSi (portAid m) t.data (modI3c m (fun p => { p with loading := true }) d)) ∧
    (t.kind = 2 → consumeTransfer m t fault d = takeFirmware (.port m) t.data d) ∧
    (t.kind = 4 → bundlePermitted d (portAid m) true t.data = true →
      consumeTransfer m t fault d = takeBundle (portAid m) (.port m) true fault t.data d) ∧
    (t.kind = 5 → releaseBad d t.data = none → consumeTransfer m t fault d = transferAnswer m 5 1 0 (acceptRelease t.data d))) ∧
  (∀ (d : Device) (m : Mport) (t : Transfer) (e : Nat × Nat × Nat) (out check : Nat), (i3cAt d m).ending = some e → (i3cAt d m).session = some t →
    transferAnswer m t.kind out check d = respondTo m e.2.1 e.2.2 ([0x7E, 0x1F, 0xA7] ++ [0x92, BitVec.ofNat 8 e.1, 0, BitVec.ofNat 8 out] ++
      leBytes 1 check) (endTransfer m out check d)) ∧
  (∀ (s : State) (m : Mport) (tag sheet off len p : Nat), PortServed s.dev m → fjFull s.dev = true → len ≤ 1024 → off + len ≤ 0x2000 →
    positionOf s.dev.mem s.dev.lg.bad sheet = some p → coversSheet s.dev (portAid m) p = true → rangeBroken s.dev (sheetAddr p + off) len = false →
    exec (.sheetRead m tag sheet off len) s = .next { s with dev := (respond m ([0x7E, 0x1F, 0xA7] ++ [0xA0, BitVec.ofNat 8 tag, 0, 0] ++
      memRead s.dev.mem (sheetAddr p + off) len) (readErrors (sheetAddr p + off) len s.dev)) }) ∧
  (∀ (s : State) (m : Mport) (tag sheet off len p : Nat), PortServed s.dev m → fjFull s.dev = true → len ≤ 1024 → off + len ≤ 0x2000 →
    positionOf s.dev.mem s.dev.lg.bad sheet = some p → coversSheet s.dev (portAid m) p = false →
    exec (.sheetRead m tag sheet off len) s = .next { s with dev := (respond m ([0x7E, 0x1F, 0xA7] ++ [0xA0, BitVec.ofNat 8 tag, 1, 0] ++ []) s.dev) }) ∧
  (∀ (s : State) (m : Mport) (tag : Nat) (n : Word) (g : List Byte), PortServed s.dev m → fjFull s.dev = true →
    ∃ d, exec (.sheetAcknowledge m tag n g) s = .next { s with dev := (respond m ([0x7E, 0x1F, 0xA7] ++ [0xA1, BitVec.ofNat 8 tag,
        BitVec.ofNat 8 (lgStatus d.lg.outcome), BitVec.ofNat 8 d.lg.outcome] ++ []) d) } ∧
      d = (if (hartAck (portAid m) n.toNat (padTo 8 g) (modLg (fun l => { l with ackNum := n, ackDig := padTo 8 g }) s.dev)).lg.outcome = 0
        then serveAck (portAid m) n.toNat (padTo 8 g) (hartAck (portAid m) n.toNat (padTo 8 g) (modLg (fun l => { l with ackNum := n, ackDig := padTo 8 g }) s.dev))
        else hartAck (portAid m) n.toNat (padTo 8 g) (modLg (fun l => { l with ackNum := n, ackDig := padTo 8 g }) s.dev))) ∧
  (∀ (s : State) (m : Mport) (tag : Nat), PortServed s.dev m → fjFull s.dev = true →
    exec (.reamHead m tag) s = .next { s with dev := (respond m ([0x7E, 0x1F, 0xA7] ++ [0xA2, BitVec.ofNat 8 tag, 0, 0] ++
      (leBytes 4 (s.dev.lg.next + 0xFFFFFFFF) ++ leBytes 4 (lgStat s.dev).toNat ++ leBytes 8 s.dev.lg.nonce)) s.dev) }) ∧
  (∀ (s : State) (m : Mport) (tag first n : Nat), PortServed s.dev m → fjFull s.dev = true → n ≤ 16 → first + n ≤ 65536 →
    exec (.eventRead m tag first n) s = .next { s with dev := (respond m ([0x7E, 0x1F, 0xA7] ++ [0xB0, BitVec.ofNat 8 tag, 0, 0] ++
      (List.range n).flatMap (fun i => shownRecord s.dev (portAid m) (first + i))) (readErrors (recordAddr first) (64 * n) s.dev)) }) ∧
  (∀ (d : Device) (aid j : Nat), coversSource d aid (bufLe (memRead d.mem (recordAddr j) 64) 14 1) = false → shownRecord d aid j = zeros 64) ∧
  (∀ (s : State) (m : Mport) (tag : Nat) (n : Word), PortServed s.dev m → fjFull s.dev = true →
    ∃ d o, exec (.eventClear m tag n) s = .next { s with dev := (respond m ([0x7E, 0x1F, 0xA7] ++ [0xB1, BitVec.ofNat 8 tag,
        BitVec.ofNat 8 (if o = 2 then 3 else if o = 3 then 2 else o), BitVec.ofNat 8 o] ++ []) d) } ∧ o = d.ev.clearOutcome ∧
      d = hartClear (portAid m) n.toNat (modEv (fun r => { r with clearSeq := n }) s.dev)) ∧
  (∀ (s : State) (m : Mport) (tag first n : Nat), PortServed s.dev m → fjFull s.dev = false →
    exec (.reamHead m tag) s = .next { s with dev := (respond m ([0x7E, 0x1F, 0xA7] ++ [0xA2, BitVec.ofNat 8 tag, 5, 0] ++ []) s.dev) } ∧
    exec (.eventRead m tag first n) s = .next { s with dev := (respond m ([0x7E, 0x1F, 0xA7] ++ [0xB0, BitVec.ofNat 8 tag, 5, 0] ++ []) s.dev) })

/-- The card port's command engine (R100, R505–R507): a command starts, is refused by the slot's protect bits or the
window, and ends with the outcome that its response, its CRC, its blocks, its busy or a limit gives. Card slots
(R500–R504, R508–R511): an inserted card makes its slot Present and Changed, and hart 3 identifies it, slot by slot in
ascending order and after the slot's power has settled, or marks it Unsupported; a removed one ends the command on its
slot with outcome 8; the ends of power settling and of power off are noted. That the steps of hart 3 are taken at
ticks is the model's choice (notes/assumptions/127.md). Where the spec leaves room, its clauses follow the model's
choices and readings (notes/assumptions/3.md, notes/assumptions/57.md, notes/assumptions/102.md,
notes/assumptions/127.md). -/
def Obligations.CardPort : Prop :=
  (∀ (s : State) (v : Word), MayWrite s.dev 3 14 → s.dev.cd.busy = true → exec (.cardCommandIssue 3 v) s = .next s) ∧
  (∀ (s : State) (v : Word), MayWrite s.dev 3 14 → s.dev.cd.busy = false → bit v 31 = false →
    exec (.cardCommandIssue 3 v) s = .next { s with dev := modCd (fun c => { c with cmd := v &&& 0x000037FF }) s.dev }) ∧
  (∀ (s : State) (v : Word), MayWrite s.dev 3 14 → s.dev.cd.busy = false → bit v 31 = true → field v 8 3 ≠ 0 →
    writeProtected (slotAt s.dev (field (v &&& 0x000037FF) 6 2)) (field (v &&& 0x000037FF) 0 6) = false →
    windowOk (modCd (fun c => { c with cmd := v &&& 0x000037FF }) s.dev) = true → unsettled s.dev (field (v &&& 0x000037FF) 6 2) = false →
    exec (.cardCommandIssue 3 v) s = .next { s with dev := (modCd (fun c => { c with
      cmd := v &&& 0x000037FF, busy := true, done := false, outcome := 0, blocksDone := 0, phase := .response }) s.dev) }) ∧
  (∀ (s : State) (v : Word), MayWrite s.dev 3 14 → s.dev.cd.busy = false → bit v 31 = true →
    writeProtected (slotAt s.dev (field (v &&& 0x000037FF) 6 2)) (field (v &&& 0x000037FF) 0 6) = false →
    windowOk (modCd (fun c => { c with cmd := v &&& 0x000037FF }) s.dev) = true → unsettled s.dev (field (v &&& 0x000037FF) 6 2) = true →
    exec (.cardCommandIssue 3 v) s = .next { s with dev := (modCd (fun c => { c with
      cmd := v &&& 0x000037FF, busy := true, done := false, outcome := 0, blocksDone := 0, phase := .settling }) s.dev) }) ∧
  (∀ (s : State) (k : Slot), mainRuns s.dev = true → hasBit s.dev.cdStat.powered k = true → s.dev.cd.phase = .settling → cmdSlot s.dev.cd = k.val →
    field s.dev.cd.cmd 8 3 ≠ 0 →
    exec (.slotPowerSettled k) s = .next { s with dev := modCd (fun c => { c with phase := .response }) (modSlot k (fun x => { x with settled := true }) s.dev) }) ∧
  (∀ (s : State) (v : Word), MayWrite s.dev 3 14 → s.dev.cd.busy = false → bit v 31 = true →
    writeProtected (slotAt s.dev (field (v &&& 0x000037FF) 6 2)) (field (v &&& 0x000037FF) 0 6) = true →
    exec (.cardCommandIssue 3 v) s = .next { s with dev := (cardEnd 7 (modCd (fun c => { c with cmd := v &&& 0x000037FF, blocksDone := 0 }) s.dev)) }) ∧
  (∀ (s : State) (v : Word), MayWrite s.dev 3 14 → s.dev.cd.busy = false → bit v 31 = true →
    writeProtected (slotAt s.dev (field (v &&& 0x000037FF) 6 2)) (field (v &&& 0x000037FF) 0 6) = false →
    windowOk (modCd (fun c => { c with cmd := v &&& 0x000037FF }) s.dev) = false →
    exec (.cardCommandIssue 3 v) s = .next { s with dev := (cardEnd 10 (modCd (fun c => { c with cmd := v &&& 0x000037FF, blocksDone := 0 }) s.dev)) }) ∧
  (∀ (s : State) (h : Hart) (v : Word), MayWrite s.dev h 14 → h ≠ 3 → ¬ (h = 0 ∧ s.dev.start.phase = .recovery) → exec (.cardCommandIssue h v) s = .next s) ∧
  (∀ (s : State) (b : List Byte), mainRuns s.dev = true → s.dev.cd.phase = .response → s.dev.cd.checkCmd2 = false → field s.dev.cd.cmd 8 3 ≠ 4 →
    exec (.cardResponse b false) s = .next { s with dev := cardEnd 2 s.dev }) ∧
  (∀ (s : State) (b : List Byte), mainRuns s.dev = true → s.dev.cd.phase = .response → s.dev.cd.checkCmd2 = false → cmdIndex s.dev.cd ≠ 3 → cmdIndex s.dev.cd ≠ 9 →
    exec (.cardResponse b true) s = .next { s with dev := (afterResponse (modCd (fun c => { c with resp := Vector.ofFn (fun k : Fin 4 =>
      if k.val < (if field s.dev.cd.cmd 8 3 = 3 then 4 else 2) then wordAt (padTo 16 b) k.val else vget c.resp k.val) }) s.dev)) }) ∧
  (∀ (s : State) (b : List Byte) (ok : Bool), mainRuns s.dev = true → s.dev.cd.phase = .response → s.dev.cd.checkCmd2 = true →
    exec (.cardResponse b ok) s = .next { s with dev := cardReset 2 s.dev } ∧
    exec .cardResponseTimeout s = .next { s with dev := afterResponse (modCd (fun c => { c with checkCmd2 := false }) s.dev) }) ∧
  (∀ s : State, mainRuns s.dev = true → s.dev.cd.phase = .response → s.dev.cd.checkCmd2 = false →
    exec .cardResponseTimeout s = .next { s with dev := cardEnd 1 s.dev }) ∧
  (∀ (s : State) (b : List Byte), mainRuns s.dev = true → s.dev.cd.phase = .read →
    exec (.cardDataBlock b false) s = .next { s with dev := cardEnd 3 s.dev } ∧
    exec .cardDataTimeout s = .next { s with dev := cardEnd 4 s.dev }) ∧
  (∀ (s : State) (b : List Byte), mainRuns s.dev = true → s.dev.cd.phase = .read → s.dev.cd.abandoned = true →
    exec (.cardDataBlock b true) s = .next { s with dev := cardEnd 3 s.dev } ∧ (cardEnd 3 s.dev).cd.outcome = 9) ∧
  (∀ (s : State) (b : List Byte), mainRuns s.dev = true → s.dev.cd.phase = .read → s.dev.cd.abandoned = false →
    ∃ t, exec (.cardDataBlock b true) s = .next t ∧ t.dev.mem = memWrite s.dev.mem (blockAddr s.dev s.dev.cd.blocksDone) (padTo (xferLen s.dev.cd) b) ∧
      t.dev.cd.blocksDone = s.dev.cd.blocksDone + 1 ∧ (t.dev.cd.busy = false ∨ t.dev.cd.busy = s.dev.cd.busy) ∧
      (s.dev.cd.blocksDone + 1 = xferBlocks s.dev.cd → t.dev.cd.outcome = 0 ∧ t.dev.cd.done = true ∧ t.dev.cd.phase = .none)) ∧
  (∀ s : State, mainRuns s.dev = true → s.dev.cd.phase = .writeData →
    exec (.cardCrcStatusToken 2) s = .next { s with dev := modCd (fun c => { c with phase := .busy }) s.dev } ∧
    exec (.cardCrcStatusToken 5) s = .next { s with dev := reply [0x4C, 0x00, 0x00, 0x00, 0x00, 0x61] (cardEnd 5 s.dev) }) ∧
  (∀ s : State, mainRuns s.dev = true → s.dev.cd.phase = .busy →
    exec .cardBusyTimeout s = .next { s with dev := cardEnd 6 s.dev } ∧
    exec .cardBusyEnd s = .next { s with dev := (if cmdData s.dev.cd ≠ 2 ∨ s.dev.cd.abandoned = true then cardEnd 0 s.dev
      else if s.dev.cd.blocksDone + 1 < xferBlocks s.dev.cd then sendBlock (modCd (fun c => { c with blocksDone := c.blocksDone + 1 }) s.dev)
      else modCd (fun c => { c with phase := .hold }) s.dev) }) ∧
  (∀ s : State, mainRuns s.dev = true → s.dev.cd.phase = .hold →
    exec .cardWriteDetectHold s = .next { s with dev := cardEnd 0 (modCd (fun c => { c with blocksDone := c.blocksDone + 1 }) s.dev) }) ∧
  (∀ s : State, s.dev.cd.phase = .none → exec .cardBusyEnd s = .next s ∧ exec .cardWriteDetectHold s = .next s ∧ exec .cardDataTimeout s = .next s) ∧
  (∀ (s : State) (k : Slot) (c : Card), s.dev.pins.vstby = false →
    exec (.cardPresent k c) s = .next { s with dev := { s.dev with pins := { s.dev.pins with
      cardDet := s.dev.pins.cardDet.set k true, cards := s.dev.pins.cards.set k (some c) } } }) ∧
  (∀ (s : State) (k : Slot) (c : Card), s.dev.pins.vstby = true → hasBit s.dev.cdStat.present k = true →
    exec (.cardPresent k c) s = .next { s with dev := cardInserted k c s.dev }) ∧
  (∀ (s : State) (k : Slot) (c : Card), s.dev.pins.vstby = true → hasBit s.dev.cdStat.present k = false →
    exec (.cardPresent k c) s = .next { s with dev := wakeSource 5 (sleptTicks s.dev) (cardInserted k c s.dev) }) ∧
  (∀ (d : Device) (k : Slot) (c : Card), (cardInserted k c d).pins.cardDet[k] = true ∧ (cardInserted k c d).pins.cards[k] = some c ∧
    hasBit (cardInserted k c d).cdStat.present k = true ∧ (cardInserted k c d).mem = d.mem ∧
    (mainUp d = true → hasBit d.cdStat.present k = false → (slotAt (cardInserted k c d) k).state = 1) ∧
    (mainUp d = false → (cardInserted k c d).cd = d.cd) ∧
    (hasBit d.cdStat.present k = false → hasBit (cardInserted k c d).cdStat.changed k = true)) ∧
  (∀ (d : Device) (k : Nat) (c : Card), unusable d.cd.mode k c ≠ 0 → identifyCard k c d = unsupported k (unusable d.cd.mode k c) d) ∧
  (∀ (d : Device) (k : Nat) (c : Card), unusable d.cd.mode k c = 0 → c.secondAnswer = false → identifyCard k c d = serveCard k c (identified k c d)) ∧
  (∀ (d : Device) (k : Nat) (f : Card → Device → Device), ¬ (d.cd.mode = 2 ∧ k ≠ 0) → hasBit d.cdStat.poweringOff k = false →
    (slotAt d k).state = 2 → hasBit d.cdStat.powered k = true →
    ((slotAt d k).settled = false → bringOn k f d = d) ∧
    (∀ c, (slotAt d k).settled = true → vget d.pins.cards k = some c → bringOn k f d = f c d)) ∧
  (∀ (d : Device) (k : Nat) (f : Card → Device → Device), ¬ (d.cd.mode = 2 ∧ k ≠ 0) → hasBit d.cdStat.poweringOff k = false →
    (slotAt d k).state ≠ 2 → d.cd.mode ≠ 0 ∨ d.cdStat.powered = 0 →
    bringOn k f d = slotPower k true (modSlot k (fun x => { x with state := 2 }) d)) ∧
  (∀ (d : Device), attached d = true → hartUp d 3 = true → d.cd.busy = false → d.cdWin.taken = false → d.start.resetKind = 2 →
    cardTurn d = cardReset 3 { d with cdWin := { d.cdWin with taken := true } }) ∧
  (∀ (k : Nat) (c : Card), (k ≠ 0 → unusable 2 k c = 4) ∧ (k = 0 → c.kind = 2 → unusable 1 k c = 4) ∧ (c.kind = 1 → unusable 1 k c = 0) ∧ (c.kind = 2 → unusable 0 0 c = 0)) ∧
  (∀ (d : Device) (k : Slot) (c : Card), (slotAt (identified k c d) k).state = 4 ∧
    (slotAt (identified k c d) k).rca = (if c.kind = 2 then c.rca % 65536 else k.val + 2) ∧
    (identified k c d).cd.mode = (if c.kind = 2 then 2 else 1) ∧ (slotAt (identified k c d) k).permWp = c.permWp ∧ (slotAt (identified k c d) k).tmpWp = c.tmpWp) ∧
  (∀ (s : State) (k : Slot), s.dev.pins.vstby = true → hasBit s.dev.cdStat.present k = true → mainUp s.dev = true → s.dev.cd.busy = true → cmdSlot s.dev.cd = k.val →
    ∃ t, exec (.cardRemoved k) s = .next t ∧ t.dev.cd.busy = false ∧ t.dev.cd.done = true ∧ t.dev.cd.outcome = 8 ∧ t.dev.pins.cardDet[k] = false ∧ t.dev.mem = s.dev.mem) ∧
  (∀ (s : State) (k : Slot), hasBit s.dev.cdStat.present k = false →
    exec (.cardRemoved k) s = .next { s with dev := { s.dev with pins := { s.dev.pins with
      cardDet := s.dev.pins.cardDet.set k false, cards := s.dev.pins.cards.set k none } } }) ∧
  (∀ (s : State) (k : Slot), mainRuns s.dev = true → hasBit s.dev.cdStat.powered k = true → s.dev.cd.phase ≠ .settling →
    exec (.slotPowerSettled k) s = .next { s with dev := modSlot k (fun x => { x with settled := true }) s.dev }) ∧
  (∀ (s : State) (k : Slot), hasBit s.dev.cdStat.powered k = false → exec (.slotPowerSettled k) s = .next s) ∧
  (∀ (s : State) (k : Slot), exec (.cardPowerOffEnd k) s = .next { s with dev := modCs (fun c => { c with poweringOff := clrBit c.poweringOff k }) s.dev }) ∧
  (∀ (s : State) (cause : Nat), mainRuns s.dev = true → 1 ≤ cause → cause ≤ 3 →
    exec (.cardReset cause) s = .next { s with dev := cardReset cause s.dev }) ∧
  (∀ (s : State) (cause : Nat), cause = 0 ∨ 4 ≤ cause → exec (.cardReset cause) s = .next s)

/-- Life-cycle commands (R525, R526, R528–R534, R549): hart 0's command runs while no burn or wipe does. A pair of
states that R528 does not list is a bad transition; a failed precondition, or no hold-up, refuses with event 0x0302;
an accepted one burns its stage word, after a wipe towards Return and Scrap. Burns, wipes and test modes (R525, R526,
R529, R530, R533–R536): a completed burn sets its bits, whatever the power of the main core; a new stage word takes
effect at once; after a wipe the device goes through a MAIN reset of cause 5. Writes of LC_TEST count only in Test-
Unlocked with TEST_EN; its fall, and the end of scan mode, end the test modes. Where the spec leaves room, its clauses
follow the model's choices and readings (notes/assumptions/3.md, notes/assumptions/25.md, notes/assumptions/55.md,
notes/assumptions/56.md, notes/assumptions/106.md, notes/assumptions/128.md). -/
def Obligations.LifeCycle : Prop :=
  (∀ (s : State) (t : Nat), MayWrite s.dev 0 2 → lcBusy s.dev = false → transitionRow s.dev (t % 8) = none →
    exec (.lcTransition 0 t) s = .next { s with dev := event 0x0302 3 [t % 8, 1, 0, 0] (lcResult 1 1 0 s.dev) }) ∧
  (∀ (s : State) (t o i : Nat) (ps : List (Bool × Nat)), MayWrite s.dev 0 2 → lcBusy s.dev = false → transitionRow s.dev (t % 8) = some ps →
    firstFailed ps = some (o, i) → exec (.lcTransition 0 t) s = .next { s with dev := event 0x0302 3 [t % 8, o, i, 0] (lcResult 1 o i s.dev) }) ∧
  (∀ (s : State) (t : Nat) (ps : List (Bool × Nat)), MayWrite s.dev 0 2 → lcBusy s.dev = false → transitionRow s.dev (t % 8) = some ps →
    firstFailed ps = none → canBurn s.dev = false → exec (.lcTransition 0 t) s = .next { s with dev := event 0x0302 3 [t % 8, 3, 0, 0] (lcResult 1 3 0 s.dev) }) ∧
  (∀ (s : State) (t : Nat) (ps : List (Bool × Nat)), MayWrite s.dev 0 2 → lcBusy s.dev = false → transitionRow s.dev (t % 8) = some ps →
    firstFailed ps = none → canBurn s.dev = true → t % 8 < 6 →
    exec (.lcTransition 0 t) s = .next { s with dev := (modLc (fun l => { l with burn := stageOf (t % 8) }) (lcResult 1 0 0
      { s.dev with db := { s.dev.db with armed := none } })) }) ∧
  (∀ (s : State) (t : Nat) (ps : List (Bool × Nat)), MayWrite s.dev 0 2 → lcBusy s.dev = false → transitionRow s.dev (t % 8) = some ps →
    firstFailed ps = none → canBurn s.dev = true → 6 ≤ t % 8 →
    ∃ u, exec (.lcTransition 0 t) s = .next u ∧ u.dev.lc.wipe = some (t % 8) ∧ u.dev.lc.burn = none ∧ u.dev.lc.state = s.dev.lc.state ∧
      u.dev.is_.gates = 0 ∧ u.dev.bat.roots = Vector.replicate 2 {} ∧ u.dev.kv.slots = [] ∧ u.dev.lc.otp = s.dev.lc.otp) ∧
  (∀ (s : State) (t code : Nat), MayWrite s.dev 0 2 → lcBusy s.dev = true → exec (.lcTransition 0 t) s = .next { s with dev := event 0x0302 3 [t % 8, 4, 0, 0] (lcResult 1 4 0 s.dev) } ∧
    exec (.lcBurnWord 0) s = .next { s with dev := lcResult 3 4 0 s.dev } ∧ exec (.lcReadWord 0) s = .next { s with dev := lcResult 4 4 0 s.dev } ∧
    exec (.lcUndefinedCommand 0 code) s = .next { s with dev := lcResult (code % 16) 4 0 s.dev }) ∧
  (∀ (s : State) (code : Nat), MayWrite s.dev 0 2 → lcBusy s.dev = false →
    exec (.lcUndefinedCommand 0 code) s = .next { s with dev := lcResult (code % 16) 11 0 s.dev }) ∧
  (∀ s : State, MayWrite s.dev 0 2 → lcBusy s.dev = false → exec (.lcReadWord 0) s = .next { s with dev := (modLc (fun l => { l with
    otpLo := BitVec.ofNat 32 (otpRead s.dev s.dev.lc.otpIdx), otpHi := BitVec.ofNat 32 (otpRead s.dev s.dev.lc.otpIdx / 2 ^ 32) }) (lcResult 4 0 0 s.dev)) }) ∧
  (∀ (d : Device) (w : Nat), 16 ≤ w → w ≤ 47 → 2 < d.lc.state → otpRead d w = 0) ∧
  (∀ (s : State) (o : Nat), MayWrite s.dev 0 2 → lcBusy s.dev = false →
    burnOutcome s.dev s.dev.lc.otpIdx (s.dev.lc.otpLo.toNat + s.dev.lc.otpHi.toNat * 2 ^ 32) = o →
    exec (.lcBurnWord 0) s = .next { s with dev := (if o = 0 then modLc (fun l => { l with burn := some (l.otpIdx, s.dev.lc.otpLo.toNat + s.dev.lc.otpHi.toNat * 2 ^ 32) })
      (lcResult 3 0 0 s.dev) else lcResult 3 o 0 s.dev) }) ∧
  (∀ (d : Device) (w v : Nat), (burnAllowed w d.lc.state = false → burnOutcome d w v = 2) ∧
    (burnAllowed w d.lc.state = true → monotoneWord w = false → otpWord d w ≠ 0 → burnOutcome d w v = 10)) ∧
  (∀ s : State, MayWrite s.dev 0 2 → lcBusy s.dev = false → exec (.lcUnlock 0) s = .next { s with dev := modLc (fun l => { l with token := zeros 64 }) (unlock s.dev) }) ∧
  (∀ d : Device, (d.lc.state ≠ 1 → unlock d = lcResult 2 1 0 d) ∧ (d.lc.state = 1 → d.pins.testEn = false → unlock d = lcResult 2 2 0 d) ∧
    (∀ i, d.lc.state = 1 → d.pins.testEn = true → d.lc.mismatch = false → nextToken d = some i → shake256 d.lc.token 32 = tokenHash d i → canBurn d = true →
      unlock d = modLc (fun l => { l with burn := some (6 + i, 1) }) (lcResult 2 0 0 d))) ∧
  (∀ (s : State) (h : Hart) (t : Nat), MayWrite s.dev h 2 → h ≠ 0 → exec (.lcTransition h t) s = .next s ∧ exec (.lcBurnWord h) s = .next s ∧
    exec (.lcReadWord h) s = .next s ∧ exec (.lcUnlock h) s = .next s) ∧
  (∀ (s : State) (w v : Nat), s.dev.lc.burn = some (w, v) → mainUp s.dev = false →
    ∃ t, exec .otpBurnDone s = .next t ∧ t.dev.lc.burn = none ∧ otpWord t.dev w = otpWord s.dev w ||| v ∧ t.dev.lc.state = s.dev.lc.state) ∧
  (∀ (s : State) (w v st : Nat), s.dev.lc.burn = some (w, v) → mainUp s.dev = true → s.dev.lc.wipe = none → stageWords.find? (fun x => x.1 == w) = some (w, v, st) →
    ∃ t, exec .otpBurnDone s = .next t ∧ t.dev.lc.state = st ∧ t.dev.lc.burn = none ∧ otpWord t.dev w = otpWord s.dev w ||| v ∧ t.dev.mem = s.dev.mem) ∧
  (∀ (s : State) (w v t : Nat), s.dev.lc.burn = some (w, v) → mainUp s.dev = true → s.dev.lc.wipe = some t → stageOf t = some (w, v) →
    ∃ u, exec .otpBurnDone s = .next u ∧ u.dev.power.mainCause = 5 ∧ otpWord u.dev w = otpWord s.dev w ||| v ∧ u.dev.tx = {} ∧ u.dev.kv = {}) ∧
  (∀ s : State, s.dev.lc.burn = none → exec .otpBurnDone s = .next s) ∧
  (∀ (s : State) (t : Nat), s.dev.lc.wipe = some t → s.dev.lc.burn = none → canBurn s.dev = true →
    ∃ u, exec .lifeCycleWipeDone s = .next u ∧ u.dev.lc.burn = stageOf t ∧ u.dev.lc.wipe = some t ∧ (t = 7 → u.dev.bat.seeds = s.dev.bat.seeds ∧ u.dev.bat.alarms = 0) ∧
      u.dev.mem = (wipeRegions t).foldl (fun m r => memFill m r.1 r.2 0) s.dev.mem) ∧
  (∀ s : State, s.dev.lc.wipe = none → exec .lifeCycleWipeDone s = .next s) ∧
  (∀ (s : State) (v : Word), MayWrite s.dev 0 2 → testModes s.dev = true → bit v 7 = false → bit v 1 = false →
    exec (.scanAllow 0 v) s = .next { s with dev := modLc (fun l => { l with scanAllow := bit v 0, mbistTarget := field v 2 3, mramTest := false }) s.dev }) ∧
  (∀ (s : State) (v : Word), MayWrite s.dev 0 2 → testModes s.dev = true → bit v 7 = false → bit v 1 = true → s.dev.lc.mbistRunning = false →
    exec (.mbistGo 0 v) s = .next { s with dev := (modLc (fun l => { l with
      scanAllow := bit v 0, mbistTarget := field v 2 3, mramTest := false, mbistRunning := true, mbistDone := false, mbistFail := false }) s.dev) }) ∧
  (∀ (s : State) (v : Word), MayWrite s.dev 0 2 → testModes s.dev = true → bit v 7 = true → bit v 1 = false → s.dev.lc.mramTest = false →
    exec (.mramTest 0 v) s = .next { s with dev := (mramTested (modLc (fun l => { l with scanAllow := bit v 0, mbistTarget := field v 2 3, mramTest := true }) s.dev)) }) ∧
  (∀ (s : State) (v : Word), MayWrite s.dev 0 2 → testModes s.dev = false →
    exec (.scanAllow 0 v) s = .next s ∧ exec (.mbistGo 0 v) s = .next s ∧ exec (.mramTest 0 v) s = .next s) ∧
  (∀ (s : State) (f : Bool), mainRuns s.dev = true → s.dev.lc.mbistRunning = true →
    exec (.mbistDone f) s = .next { s with dev := (mbistDestroys s.dev.lc.mbistTarget (modLc (fun l => { l with mbistRunning := false, mbistDone := true, mbistFail := f }) s.dev)) }) ∧
  (∀ (s : State) (f : Bool), s.dev.lc.mbistRunning = false → exec (.mbistDone f) s = .next s) ∧
  (∀ s : State, s.dev.lc.scanning = true → mainUp s.dev = true → exec .scanExit s = .next { s with dev := mainReset 6 s.dev }) ∧
  (∀ s : State, s.dev.lc.scanning = false → exec .scanExit s = .next s) ∧
  (∀ s : State, mainUp s.dev = false ∨ within 1 2 s.dev.lc.state = false →
    exec .testEnFall s = .next { s with dev := { s.dev with pins := { s.dev.pins with testEn := false } } }) ∧
  (∀ s : State, mainUp s.dev = true → within 1 2 s.dev.lc.state = true → s.dev.lc.mbistRunning = false → s.dev.lc.scanning = false →
    exec .testEnFall s = .next { s with dev := (modLc (fun l => { l with
      scanAllow := false, mbistTarget := 0, mbistRunning := false, mbistDone := false, mbistFail := false, mramTest := false }) { s.dev with pins := { s.dev.pins with testEn := false } }) }) ∧
  (∀ s : State, exec .testEnRise s = .next { s with dev := { s.dev with pins := { s.dev.pins with testEn := true } } })

/-- The ticket booth (R539–R547): a challenge binds a fresh nonce; a ticket is submitted once, and its fields refuse
it or start its verify job, whose verdict it then has; levels 2 and 3 lock the vault; Close ends the level. Where the
spec leaves room, its clauses follow the model's choices and readings (notes/assumptions/57.md). -/
def Obligations.TicketBooth : Prop :=
  (∀ s : State, MayWrite s.dev 3 17 → exec (.dbChallenge (.hart 3)) s = .next { s with dev := issueChallenge s.dev }) ∧
  (∀ s : State, mainRuns s.dev = true → exec (.dbChallenge .booth) s = .next { s with dev := issueChallenge s.dev } ∧
    exec (.dbClose .booth) s = .next { s with dev := closeDebug 1 s.dev }) ∧
  (∀ d : Device, d.kv.entropyOk = true → (issueChallenge d).db.nonce = some (freeBytes d 32) ∧ (issueChallenge d).db.chal = challengeBytes d (freeBytes d 32) ∧
    (issueChallenge d).db.armed = none ∧ (issueChallenge d).db.level = d.db.level) ∧
  (∀ d : Device, d.kv.entropyOk = false → issueChallenge d = modDb (fun b => { b with lastResult := 9 }) d) ∧
  (∀ s : State, MayWrite s.dev 3 17 → exec (.dbSubmit (.hart 3)) s = .next { s with dev := submitTicket 2 s.dev.db.ticket s.dev }) ∧
  (∀ (d : Device) (src : Nat) (t : List Byte), d.db.checking = none → ticketFields d t ≠ 0 →
    (submitTicket src t d).db.nonce = none ∧ (submitTicket src t d).db.lastResult = ticketFields d t ∧ (submitTicket src t d).db.level = d.db.level ∧
      (submitTicket src t d).db.checking = none) ∧
  (∀ (d : Device) (src : Nat) (t : List Byte), d.db.checking = none → ticketFields d t = 0 →
    (submitTicket src t d).db.nonce = none ∧ (submitTicket src t d).db.checking = some (src, t) ∧ (submitTicket src t d).db.level = d.db.level) ∧
  (∀ (d : Device) (t : List Byte), ticketFormOk t = true → bufLe t 8 8 ≠ 0 → bufLe t 8 8 = serialNo d → d.db.nonce = none → ticketFields d t = 3) ∧
  (∀ (s : State) (src u : Nat) (t : List Byte), mainRuns s.dev = true → s.dev.db.checking = some (src, t) → boothUnit s.dev = some u →
    ∃ d, exec .ticketVerifyDone s =
        .next { s with dev := (if ticketCode s.dev t = 0 then ticketPasses t d else ticketFails src (ticketVerdict (ticketCode s.dev t)) t d) } ∧
      d = events (jobEvents (boothJob t) u (ticketCode s.dev t))
        { s.dev with sg := startJobs { s.dev.sg with units := vmod s.dev.sg.units u (fun x => { x with job := none }) } }) ∧
  (∀ v : Nat, ticketVerdict v = if v = 0 then 0 else if v = 3 ∨ v = 4 then 6 else 7) ∧
  (∀ (s : State) (src : Nat) (t : List Byte), mainRuns s.dev = true → s.dev.db.checking = some (src, t) → boothUnit s.dev = none → boothQueued s.dev = false →
    exec .ticketVerifyDone s = .next { s with dev := ticketFails src 8 t s.dev }) ∧
  (∀ s : State, s.dev.db.checking = none → exec .ticketVerifyDone s = .next s) ∧
  (∀ (d : Device) (v k n : Nat) (g : List Byte), (openLevel v k n g d).db.level = max d.db.level v ∧
    (2 ≤ v → within lcManufactured lcField d.lc.state = true → (openLevel v k n g d).kv.slots = [] ∧ (openLevel v k n g d).db.vaultLocked = true)) ∧
  (∀ s : State, MayWrite s.dev 0 17 → exec (.dbClose (.hart 0)) s = .next { s with dev := closeDebug 2 s.dev }) ∧
  (∀ (d : Device) (src : Nat), (closeDebug src d).db.level = 0 ∧ (closeDebug src d).db.halted = 0 ∧ (closeDebug src d).db.haltOnReset = false) ∧
  (∀ (s : State) (n : Nat), mainRuns s.dev = true → s.dev.lc.state ≤ 2 → 1 ≤ n → n ≤ 3 → exec (.dbRequest n) s = .next { s with dev := openLevel n 0 0 (zeros 32) s.dev }) ∧
  (∀ (s : State) (n : Nat), 2 < s.dev.lc.state ∨ n = 0 → exec (.dbRequest n) s = .next s) ∧
  (∀ (s : State) (v : Word), MayWrite s.dev 3 17 → s.dev.db.tktPtr + 4 ≤ 5344 → exec (.tktDataWrite (.hart 3) v) s = .next { s with
    dev := (modDb (fun b => { b with ticket := b.ticket.take b.tktPtr ++ leBytes 4 v.toNat ++ b.ticket.drop (b.tktPtr + 4), tktPtr := (b.tktPtr + 4) % 0x2000 }) s.dev) }) ∧
  (∀ (s : State) (h : Hart) (v : Word), MayWrite s.dev h 17 → h ≠ 3 → exec (.dbChallenge (.hart h)) s = .next s ∧ exec (.dbSubmit (.hart h)) s = .next s ∧
    exec (.tktDataWrite (.hart h) v) s = .next s)

/-- The JTAG port (R536, R538, R539, R548): IDCODE and the boundary; EXTEST drives only in Blank and the test states;
debug operations have their effect from their level up, and below it read zero and write nothing; BOOTH works while
main power is up; private instructions scan only where LC_TEST allows it. Where the spec leaves room, its clauses
follow the model's choices and readings (notes/assumptions/16.md, notes/assumptions/17.md, notes/assumptions/109.md).
-/
def Obligations.JtagPort : Prop :=
  (∀ s : State, exec .idcode s = .next { s with dev := replyWord 0x16440A6B (selectIr 0x01 s.dev) }) ∧
  (∀ (s : State) (cells : List Bool), exec (.samplePreload cells) s = .next { s with dev := (reply (cells.map (fun c => BitVec.ofNat 8 (flag c)) ++
    (outputPins s.dev).map pinByte) (selectIr 0x02 s.dev)) }) ∧
  (∀ (s : State) (cells : List Bool), s.dev.lc.state ≤ 2 →
    exec (.extest cells) s = .next { s with dev := { s.dev with jtag := { s.dev.jtag with ir := 0x00, extest := cells } } }) ∧
  (∀ (s : State) (cells : List Bool), 2 < s.dev.lc.state → exec (.extest cells) s = .next { s with dev := selectIr 0x1F s.dev }) ∧
  (∀ s : State, exec .bypass s = .next { s with dev := selectIr 0x1F s.dev }) ∧
  (∀ s : State, exec .dtmcs s = .next { s with dev := tookFree 4 (reply (freeBytes s.dev 4) (selectIr 0x10 s.dev)) }) ∧
  (∀ (s : State) (h : Hart), mainRuns s.dev = true → 1 ≤ s.dev.db.level →
    exec (.dmiAccess (.halt h)) s = .next { s with dev := modDb (fun b => { b with halted := setBit b.halted h }) (selectIr 0x11 s.dev) } ∧
    (hasBit s.dev.db.stepping h = false →
      exec (.dmiAccess (.resume h)) s = .next { s with dev := modDb (fun b => { b with halted := clrBit b.halted h }) (selectIr 0x11 s.dev) })) ∧
  (∀ (s : State) (h : Hart) (no : Nat) (v : Word) (a : Nat), s.dev.db.level = 0 →
    exec (.dmiAccess (.halt h)) s = .next { s with dev := selectIr 0x11 s.dev } ∧
    exec (.dmiAccess (.readReg h no v)) s = .next { s with dev := replyWord 0 (selectIr 0x11 s.dev) } ∧
    exec (.dmiAccess (.readMem h a)) s = .next { s with dev := replyWord 0 (selectIr 0x11 s.dev) } ∧
    exec (.dmiAccess (.writeMem h a v)) s = .next { s with dev := selectIr 0x11 s.dev } ∧
    exec (.dmiAccess (.haltOnReset true)) s = .next { s with dev := selectIr 0x11 s.dev }) ∧
  (∀ (s : State) (h : Hart) (a : Nat) (v : Word), s.dev.db.level = 1 → exec (.dmiAccess (.writeMem h a v)) s = .next { s with dev := selectIr 0x11 s.dev }) ∧
  (∀ (s : State) (h : Hart) (a : Nat) (v : Word), mainRuns s.dev = true → 2 ≤ s.dev.db.level → hasBit s.dev.db.halted h = true →
    exec (.dmiAccess (.writeMem h a v)) s = .next { s with dev := hartStore h 4 a (v.setWidth 64) (selectIr 0x11 s.dev) } ∧
    exec (.dmiAccess (.readMem h a)) s = .next { s with dev := debugRead h a (selectIr 0x11 s.dev) }) ∧
  (∀ (s : State) (op i : Nat) (v : Word), mainUp s.dev = false → exec (.boothAccess op i v) s = .next { s with dev := selectIr 0x1F s.dev }) ∧
  (∀ (s : State) (i : Nat) (v : Word), mainUp s.dev = true →
    ∃ t, exec (.boothAccess 1 i v) s = .next t ∧ t.dev.jtag.boothData = (dbReg s.dev (4 * i)).getD 0 ∧ t.dev.db = s.dev.db ∧ t.dev.mem = s.dev.mem ∧ t.dev.jtag.ir = 0x14) ∧
  (∀ (s : State) (i : Nat) (v : Word), mainUp s.dev = true →
    exec (.boothAccess 2 i v) s = .next { s with dev := (reply (boothCapture (dbWrite .booth (4 * i) v (selectIr 0x14 s.dev))) (dbWrite .booth (4 * i) v (selectIr 0x14 s.dev))) }) ∧
  (∀ (s : State) (ir : Nat), 0x18 ≤ ir → ir ≤ 0x1E → mainRuns s.dev = true → testModes s.dev = true → s.dev.lc.scanAllow = true →
    exec (.privateTestInstruction ir) s = .next { s with dev := modLc (fun l => { l with scanning := true }) (selectIr ir s.dev) }) ∧
  (∀ (s : State) (ir : Nat), s.dev.lc.scanAllow = false ∨ testModes s.dev = false → exec (.privateTestInstruction ir) s = .next { s with dev := selectIr 0x1F s.dev })

/-- R145: an Open is refused with NotPermitted (4) unless the requester is a hart, AID 0x10–0x13, or an agent whose
rights record in the committed epoch has MayStage; an Append beyond 256 actions is refused with MouldFull (3). A
refusal has no effect but its result. -/
def Obligations.OpenAndAppendRefusals : Prop :=
  (∀ (s : State) (h : Hart) (requester : Nat), MayWrite s.dev h 8 → s.dev.tx.state = .idle → requester < 256 →
    ¬ (0x10 ≤ requester ∧ requester ≤ 0x13) → (∀ r, rightsOf (curLeaf s.dev) requester = some r → r.mayStage = false) →
    exec (.couchOpen h requester) s = .next { s with dev := couchResult h 1 4 s.dev }) ∧
  (∀ (s : State) (h : Hart) (requester : Nat), MayWrite s.dev h 8 → s.dev.tx.state = .idle → requester < 256 →
    ((0x10 ≤ requester ∧ requester ≤ 0x13) ∨ (∃ r, rightsOf (curLeaf s.dev) requester = some r ∧ r.mayStage = true)) →
    ∃ t, exec (.couchOpen h requester) s = .next t ∧ t.dev.tx.state = .opened ∧ t.dev.tx.owner = 0x10 + h.val ∧
      t.dev.tx.requester = requester ∧ t.dev.tx.actions = []) ∧
  (∀ (s : State) (h : Hart), MayWrite s.dev h 8 → s.dev.tx.owner = 0x10 + h.val →
    s.dev.tx.state = .opened ∨ s.dev.tx.state = .staging ∨ s.dev.tx.state = .ready → s.dev.tx.siChecking = none →
    256 ≤ s.dev.tx.actions.length → exec (.couchAppend h) s = .next { s with dev := couchResult h 2 3 s.dev }) ∧
  (∀ (d : Device) (h : Hart) (cmd outcome : Nat), (couchResult h cmd outcome d).tx.results = d.tx.results.set h (cmd, outcome) ∧
    (couchResult h cmd outcome d).tx.state = d.tx.state ∧ (couchResult h cmd outcome d).tx.actions = d.tx.actions ∧
    (couchResult h cmd outcome d).tx.owner = d.tx.owner ∧ (couchResult h cmd outcome d).mem = d.mem)

/-- R340: sensor n is disabled when bit n of OTP word 65 is 1. A disabled sensor still shows its live condition in
TM_SENSOR.Live, from its start to its end, and raises no alarm; an enabled one raises it. Word 65 burns only in
Manufactured (3) and Provisioned (4), and its bit 14 never. -/
def Obligations.DisabledSensors : Prop :=
  (∀ (s : State) (n : Sensor), sensorRuns s.dev n = true → (otpWord s.dev 65).testBit n = true →
    exec (.tamperAlarm n true) s = .next { s with dev.sensorLive := setBit s.dev.sensorLive n }) ∧
  (∀ (s : State) (n : Sensor), sensorRuns s.dev n = true → (otpWord s.dev 65).testBit n = false →
    exec (.tamperAlarm n true) s = .next { s with dev := tamperAlarm n { s.dev with sensorLive := setBit s.dev.sensorLive n } }) ∧
  (∀ (s : State) (n : Sensor), sensorRuns s.dev n = true →
    exec (.tamperAlarm n false) s = .next { s with dev.sensorLive := clrBit s.dev.sensorLive n }) ∧
  (∀ (d : Device) (h : Hart), (regRead d h 0x60120010).toNat % 2 ^ 15 = d.sensorLive % 2 ^ 15) ∧
  (∀ (s : State) (v : Nat), MayWrite s.dev 0 2 → lcBusy s.dev = false → s.dev.lc.otpIdx = 65 →
    s.dev.lc.otpLo.toNat + s.dev.lc.otpHi.toNat * 2 ^ 32 = v → s.dev.lc.state ≠ 3 ∧ s.dev.lc.state ≠ 4 ∨ v.testBit 14 = true →
    ∃ o, o ≠ 0 ∧ exec (.lcBurnWord 0) s = .next { s with dev := lcResult 3 o 0 s.dev }) ∧
  (∀ (s : State) (v : Nat), MayWrite s.dev 0 2 → lcBusy s.dev = false → s.dev.lc.otpIdx = 65 →
    s.dev.lc.otpLo.toNat + s.dev.lc.otpHi.toNat * 2 ^ 32 = v → s.dev.lc.state = 3 ∨ s.dev.lc.state = 4 → v.testBit 14 = false →
    canBurn s.dev = true →
    exec (.lcBurnWord 0) s = .next { s with dev := (modLc (fun l => { l with burn := some (65, v) }) (lcResult 3 0 0 s.dev)) })

/-- R272: prefix bytes are absorbed in the order written, each Prefix after the one before; at Begin their number must
be a multiple of 136, which may be zero, and otherwise Begin is refused with BadArgument (5) and the context stays in
Prefix. -/
def Obligations.PrefixesAreWholeBlocks : Prop :=
  (∀ (s : State) (h : Hart) (j : DgJob) (x : Context), mainRuns s.dev = true → (dgBank s.dev h).job = some j → j.isPrefix = true →
    ctxOf s.dev.dg j.ctx = some x → x.state = .prefix_ →
    exec (.dgFeedComplete h) s = .next { s with dev := (dgResult h 2 0 0
      (modDg (fun g => juggle (putCtx g { x with head := x.head ++ j.bytes })) (modDgBank h (fun b => { b with job := none }) s.dev))) }) ∧
  (∀ x : Context, ctxOutput x = sponge x.domain (x.head ++ x.msg ++ x.suffix) x.outLen) ∧
  (∀ (s : State) (h : Hart) (c : Ctx) (x : Context), OwnContext s.dev h c x → x.state = .prefix_ → x.head.length % 136 ≠ 0 →
    exec (.dgBegin h c) s = .next { s with dev := dgResult h 3 5 0 s.dev } ∧ ctxOf (dgResult h 3 5 0 s.dev).dg c = some x) ∧
  (∀ (s : State) (h : Hart) (c : Ctx) (x : Context), OwnContext s.dev h c x → x.state = .prefix_ → x.head.length % 136 = 0 →
    x.keyed = false → rungOf s.dev.kv x = none → exec (.dgBegin h c) s = .next { s with dev := dgResult h 3 0 0 (beginContext x s.dev) })

/-- Where F2_ERROR, SAFE_STATE_RESET, PT_CTRL_WRITE, LATCHED_LO_READ, WEAR_WRITE and REGISTER_WRITE complete (R8, R10,
R45, R88, R101, R225, R435, R574, R577, R580), by conditions on the state and the operands alone: an F2 error outside
the safe state enters it, the couch unit's in C5 or later with the commit word in the journal; the safe state ends in
a MAIN reset of cause 4; a hart that runs and whose deckle allows the block has its register written or read, on a
word boundary; the host reads and writes its page and its configuration space while the link is up. Where the spec
leaves room, its clauses follow the model's choices and readings (notes/assumptions/7.md, notes/assumptions/10.md,
notes/assumptions/66.md, notes/assumptions/88.md, notes/assumptions/124.md). -/
def Obligations.FaultsAndRegistersComplete : Prop :=
  (∀ (s : State) (block inst kind : Nat), mainUp s.dev = true → s.dev.power.state ≠ .safe →
    exec (.f2Error block inst kind) s = .next { s with dev := (enterSafe block kind false (commitWordLands block s.dev)) } ∧
    (enterSafe block kind false (commitWordLands block s.dev)).power.state = .safe ∧
    (enterSafe block kind false (commitWordLands block s.dev)).is_.gates = 0 ∧
    (enterSafe block kind false (commitWordLands block s.dev)).cx.linkUp = false ∧
    (enterSafe block kind false (commitWordLands block s.dev)).lastF2.block = block ∧
    (enterSafe block kind false (commitWordLands block s.dev)).lastF2.kind = kind) ∧
  (∀ s : State, s.dev.power.state = .safe → ∃ t, exec .safeStateReset s = .next t ∧ t.dev.power.mainCause = 4 ∧
    t.dev.power.resetKind = 1 ∧ t.dev.lc.otp = s.dev.lc.otp) ∧
  (∀ (s : State) (h : Hart) (v : Word), MayWrite s.dev h 16 → exec (.ptCtrlWrite h v) s = .next { s with dev :=
    (if h = 0 ∧ field v 8 8 = 0xF7 ∧ ptAllowed s.dev = true
      then ptChanged { s.dev with pt := { s.dev.pt with enable := bit v 0 } } else s.dev) }) ∧
  (∀ (s : State) (h : Hart) (f : Dev) (v : Word), MayWrite s.dev h 6 → exec (.wearWrite h f v) s = .next { s with dev :=
    (if bit s.dev.gf.tsCfg 31 then s.dev else eventsRaw (setWear f s.dev.tx.epoch v (tsAt s.dev f)).2
      (modTs f (fun _ => (setWear f s.dev.tx.epoch v (tsAt s.dev f)).1) s.dev)) }) ∧
  (∀ (s : State) (h : Hart) (addr : Nat), MayRead s.dev h → inBlocks addr = true → addr % 4 = 0 →
    exec (.latchedLoRead (.hart h) .word addr) s = .next { s with dev :=
      (match popRead h addr with
      | some f => f s.dev
      | none => latchHi h addr (replyWord (regRead s.dev h addr) s.dev)) }) ∧
  (∀ (s : State) (h : Hart) (size : Size) (addr key : Nat), MayRead s.dev h → inBlocks addr = false →
    hartLoadKey s.dev h addr size.bytes = some key → exec (.latchedLoRead (.hart h) size addr) s =
      .next { s with dev := (readErrors key size.bytes (reply (memRead s.dev.mem key size.bytes) s.dev)) }) ∧
  (∀ (s : State) (ld : Ld) (off : Nat), cxlUp s.dev = true → off % 4 = 0 → 0x10000 ≤ off →
    exec (.latchedLoRead (.page (some ld)) .word off) s = .next { s with dev := (hostPageLoad ld off s.dev) }) ∧
  (∀ (s : State) (who : Option Ld) (size : Size) (off : Nat), cxlUp s.dev = true → off % 4 + size.bytes ≤ 4 →
    exec (.latchedLoRead (.config who) size off) s = .next { s with dev :=
      (reply (((leBytes 4 (configWord s.dev who (off - off % 4)).toNat).drop (off % 4)).take size.bytes) s.dev) }) ∧
  (∀ (s : State) (h : Hart) (addr : Nat) (v : BitVec 64), MayWrite s.dev h (blockOf addr) → inBlocks addr = true →
    addr % 4 = 0 → exec (.registerWrite (.hart h) .word addr v) s =
      .next { s with dev := (stageStart (blockWrite h (blockOf addr) (addr % 0x10000) (v.setWidth 32) s.dev)) }) ∧
  (∀ (s : State) (h : Hart) (size : Size) (addr key : Nat) (v : BitVec 64), MayRead s.dev h → inBlocks addr = false →
    hartStoreKey s.dev h addr size.bytes = some key → exec (.registerWrite (.hart h) size addr v) s =
      .next { s with dev := (stageStart (store key (leBytes size.bytes v.toNat) s.dev)) }) ∧
  (∀ (s : State) (ld : Ld) (off : Nat) (v : BitVec 64), cxlUp s.dev = true → off % 4 = 0 → 0x10000 ≤ off →
    exec (.registerWrite (.page (some ld)) .word off v) s = .next { s with dev := (pageWrite ld off (v.setWidth 32) s.dev) }) ∧
  (∀ (s : State) (who : Option Ld) (off : Nat) (v : BitVec 64), cxlUp s.dev = true → off % 4 = 0 → off < 0x10000 →
    exec (.latchedLoRead (.page who) .word off) s = .next { s with dev := replyWord (cxlWord (whoOf s.dev who) off) s.dev } ∧
    exec (.registerWrite (.page who) .word off v) s = .next { s with dev := modWho who (cxlStore off (v.setWidth 32)) s.dev }) ∧
  (∀ (s : State) (who : Option Ld) (size : Size) (off : Nat) (v : BitVec 64), cxlUp s.dev = true → off % 4 + size.bytes ≤ 4 →
    exec (.registerWrite (.config who) size off v) s = .next { s with dev :=
      (configField who (off - off % 4) ((2 ^ size.bytes - 1) * 2 ^ (off % 4))
        (w32 ((v.setWidth 32).toNat % 2 ^ (8 * size.bytes) * 2 ^ (8 * (off % 4)))) s.dev) })
end

