-- ==== Sys2Proof/Laws/Otp.lean ====
section
/-! SUPPORT. OTP words only gain bits: the two operations that write OTP, and the commands through which they run. -/

namespace Sys2Proof.Machine

open Sys2Proof

/-- Nothing is lost where OTP is unchanged. -/
theorem OtpKept.of_eq {d e : Device} (h : e.lc.otp = d.lc.otp) : OtpKept d e := by
  intro w b hb; simpa [otpWord, h] using hb

theorem OtpKept.trans {d e f : Device} (h : OtpKept d e) (g : OtpKept e f) : OtpKept d f := fun w b hb => g w b (h w b hb)

theorem find_filter_ne (l : List (Nat × Nat)) {w x : Nat} (h : x ≠ w) :
    (l.filter (fun p => p.1 != w)).find? (fun p => p.1 == x) = l.find? (fun p => p.1 == x) := by
  induction l with
  | nil => rfl
  | cons a l ih => grind

/-- An OTP word after a burn. -/
theorem otpWord_burnBits (w v : Nat) (d : Device) (x : Nat) :
    otpWord (burnBits w v d) x = if x = w then otpWord d w ||| v else otpWord d x := by
  unfold burnBits modLc
  by_cases h : x = w
  · subst h; simp [otpWord]
  · have hw : (w == x) = false := by simp [Ne.symm h]
    simp only [otpWord, List.find?_cons, hw, h, if_false, find_filter_ne d.lc.otp h]

/-- A burn keeps every bit. -/
theorem burnBits_otp (w v : Nat) (d : Device) : OtpKept d (burnBits w v d) := by
  intro x b hb
  rw [otpWord_burnBits]; split
  · subst x; simp [Nat.testBit_or, hb]
  · exact hb

/-- A burn that is cut off keeps every bit. -/
theorem burnCut_otp (d : Device) : OtpKept d (burnCut d) := by
  unfold burnCut
  split
  · exact .of_eq rfl
  · rename_i w v _
    have h := burnBits_otp w (((bitsOf v).take ((Config.freeByte d.free).toNat % ((bitsOf v).length + 1))).foldl (fun m i => setBit m i) 0) d
    exact h.trans (.of_eq (by simp))

/-- OTP_BURN_DONE keeps every bit. -/
theorem otpBurnDoneEffect_otp (d : Device) : OtpKept d (otpBurnDoneEffect d) := by
  unfold otpBurnDoneEffect
  split
  · exact .of_eq rfl
  · rename_i w v _
    refine (burnBits_otp w v d).trans (.of_eq ?_)
    dsimp only; (repeat' split) <;> simp

/-- VSTBY_FALL keeps every bit. -/
theorem vstbyFallEffect_otp (vbat : Bool) (d : Device) : OtpKept d (vstbyFallEffect vbat d) := by
  unfold vstbyFallEffect
  split
  · exact .of_eq rfl
  · have h1 : ∀ e : Device, e.lc.otp = d.lc.otp → OtpKept d (burnCut e) := fun e h => (OtpKept.of_eq h).trans (burnCut_otp e)
    refine (h1 (modPins (fun p => { p with vstby := false })
      (if railsUsed d then wipeCut (if mainUp d then writesMayComplete (holdAllGates d) else d) else d)) ?_).trans (.of_eq ?_)
    · simp only [modPins_kept]; (repeat' split) <;> simp
    · dsimp only; split <;> simp

end Sys2Proof.Machine
end

