-- ==== Sys2Proof/WellFormed.lean ====
section
/-! DEFINITION. Well-formed commands: every operand lies in the range its interface can carry. Commands without a check
carry only values that their types bound already. -/

namespace Sys2Proof

/-- Every operand lies in its range. -/
def WellFormed : Instr → Bool
  | .vstbyPowerOn _ _ => true
  | .xtalStable => true
  | .mainPgAssert => true
  | .mainPgDeassert => true
  | .mainRailLoss mv ticks => decide (mv < 2 ^ 16 ∧ ticks < 2 ^ 64)
  | .vcoreLowExcursion mv => decide (660 ≤ mv ∧ mv < 720)
  | .vcoreBrownOut _ _ => true
  | .vstbyFall _ => true
  | .vbatLevelChange _ => true
  | .recoverFilterAssert => true
  | .recoverFilterDeassert _ => true
  | .recoverSettled => true
  | .junctionWarning temp => decide (100 ≤ temp ∧ temp < 256)
  | .junctionTrip temp => decide (112 ≤ temp ∧ temp < 256)
  | .testEnFall => true
  | .gpioInputChange _ _ => true
  | .operatingTimeTick => true
  | .coreReset _ => true
  | .watchdogExpiry => true
  | .watchdogKick _ _ => true
  | .releaseHarts _ => true
  | .hartReady _ => true
  | .deckleLock _ => true
  | .handover _ => true
  | .markClean _ => true
  | .fwDataWrite _ _ => true
  | .watermarkExtend _ _ => true
  | .couchOpen _ requester => decide (requester < 256)
  | .couchAppend _ => true
  | .siContentCheckDone => true
  | .couchCheck _ => true
  | .couchCheckDone => true
  | .couchCommit _ => true
  | .couchDrainDone => true
  | .couchDrainLimitExpiry => true
  | .siCopyDone => true
  | .couchAbort _ => true
  | .couchRelease _ => true
  | .restore _ => true
  | .couchUndefinedCommand _ code => decide (code = 0 ∨ 8 ≤ code ∧ code < 16)
  | .sipDataWrite _ _ => true
  | .readId _ _ _ => true
  | .readSfdp _ _ _ _ => true
  | .readStatus _ _ _ => true
  | .readFlagStatus _ _ _ => true
  | .clearFlagStatus _ _ => true
  | .writeEnable _ _ => true
  | .writeDisable _ _ => true
  | .read _ _ _ _ _ _ => true
  | .fastRead _ _ _ _ _ _ => true
  | .fastReadQuadOutput _ _ _ _ _ _ => true
  | .fastReadQuadIo _ _ _ _ _ _ => true
  | .octalDdrRead _ _ _ _ => true
  | .presentedReadResume _ _ => true
  | .pageProgram _ _ _ data _ => decide (1 ≤ data.length)
  | .erase4k _ _ _ _ => true
  | .erase32k _ _ _ _ => true
  | .erase64k _ _ _ _ => true
  | .resetEnable _ _ => true
  | .reset _ _ => true
  | .undefinedOpcode _ op _ => decide (op < 256)
  | .csRaisedEarly _ op _ _ => decide (op < 256)
  | .upResetAssert _ => true
  | .espiFlashRead _ _ _ _ => true
  | .espiFlashWrite _ _ _ _ => true
  | .espiFlashErase _ _ _ => true
  | .espiPeripheralRequest _ _ => true
  | .espiUndefinedCommand _ _ _ => true
  | .espiCrcError _ _ _ => true
  | .deferredCompletionReady _ => true
  | .espiCompletionFetch _ _ => true
  | .espiInBandReset _ _ => true
  | .turnstileDecide _ => true
  | .holdLimitExpiry _ _ _ => true
  | .turnstileRestartDone _ _ => true
  | .flashCommandDone _ result _ => decide (result ≤ 8)
  | .flashStatusPoll _ _ => true
  | .flashBusyEnd _ _ => true
  | .flashPollTimeout _ => true
  | .deviceResetPulseEnd _ => true
  | .discoveryResetRecoveryEnd _ _ => true
  | .dqsTimeout _ => true
  | .busContentionDetected _ lines => decide (lines < 2 ^ 16)
  | .requalify _ _ => true
  | .requalifySampleEnd _ _ _ => true
  | .devReset _ _ mask => decide (mask < 16)
  | .busControllerRestartDone _ _ => true
  | .serveStart _ _ _ => true
  | .serveReject _ _ _ => true
  | .waitingDomainStart _ => true
  | .servingReadComplete _ _ result data => decide (result ≤ 8 ∧ data.length ≤ 4096)
  | .streamIdleExpiry _ _ => true
  | .bdReboot _ _ => true
  | .gateDelayExpiry _ => true
  | .gateHoldDelayExpiry _ => true
  | .patrolScrubStep _ _ syndrome => decide (syndrome < 256)
  | .fqSubmit _ _ => true
  | .fqResultPop _ => true
  | .deviceRetire _ _ => true
  | .deviceProbe _ _ => true
  | .deviceResync _ _ => true
  | .resyncComplete _ => true
  | .endProbe _ _ => true
  | .dgOpen _ => true
  | .dgPrefix _ _ => true
  | .dgBegin _ _ => true
  | .dgFeed _ _ => true
  | .dgFeedComplete _ => true
  | .dgBind _ _ => true
  | .dgClose _ _ => true
  | .dgFree _ _ => true
  | .dgCmpArm _ _ => true
  | .dgCmpFree _ e => decide (e < 256)
  | .dgUndefinedCommand _ code => decide (code = 0 ∨ 10 ≤ code ∧ code < 16)
  | .tapBurst _ _ _ => true
  | .laneBlockAbsorbed _ => true
  | .contextSqueezeDone _ => true
  | .laneFault _ _ _ => true
  | .laneSelfTestDone _ _ => true
  | .digestEngineRestartDone => true
  | .sgSubmit _ _ => true
  | .sgJobComplete _ fault => fault == 0 || fault == 9 || fault == 12
  | .sgResultPop _ => true
  | .sgUnitFault _ => true
  | .sgUnitSelfTestDone _ _ => true
  | .sgEngineRestartDone => true
  | .kvReserve _ _ => true
  | .kvClear _ _ => true
  | .kvRandom _ _ => true
  | .kvRootDerive _ _ => true
  | .kvLadderDerive _ _ => true
  | .kvTransfer _ _ => true
  | .kvRestrict _ _ => true
  | .kvStageInstall _ _ => true
  | .kvStageRetire _ _ => true
  | .kvStageRoot _ => true
  | .kvStageWrite _ => true
  | .kvStageDrop _ => true
  | .kvCommitInitial _ => true
  | .kvUndefinedCommand _ code => decide (code = 0 ∨ 14 ≤ code ∧ code < 16)
  | .kvCommandDone _ => true
  | .keyVaultLoadDone => true
  | .rootLockSet _ => true
  | .tamperAlarm _ _ => true
  | .entropyHealthFailure _ => true
  | .bdSequenceStart _ _ fault => decide (fault < 4)
  | .recoveryBundleInstall _ _ fault => decide (fault < 4)
  | .lgSubmit _ _ => true
  | .sheetStored _ => true
  | .lgAck _ _ => true
  | .hostPageAck _ _ => true
  | .ackServed => true
  | .ovrUptoWrite _ _ => true
  | .reamRecovered _ => true
  | .eventArrival code sev aid params => decide (code < 2 ^ 16 ∧ sev < 8 ∧ aid < 256 ∧ params.length ≤ 5)
  | .evPost _ _ => true
  | .recordWriteDone _ => true
  | .hostEventClear _ _ => true
  | .evClear _ _ => true
  | .eventLogClearDone => true
  | .recorderRecovered => true
  | .cxPerstAssert => true
  | .linkHotReset => true
  | .linkSurpriseDown => true
  | .linkUp rate width _ _ => decide (1 ≤ rate ∧ rate ≤ 5) && (width == 1 || width == 2 || width == 4 || width == 8)
  | .w64BlockReceived block => decide (block.length = 288)
  | .w64Fallback _ _ => true
  | .functionLevelReset _ => true
  | .viewReset _ _ => true
  | .hotResetVector mask => decide (mask < 2 ^ 16)
  | .getLdInfo => true
  | .getLdAllocations _ _ => true
  | .setLdAllocations _ _ => true
  | .hdmDecoderCommit _ _ _ _ _ _ _ => true
  | .memRd _ offset => decide (offset % 64 = 0 ∧ offset < 2 ^ 28)
  | .memWr _ offset data mask => decide (offset % 64 = 0 ∧ offset < 2 ^ 28 ∧ data.length = 64 ∧ mask.length = 64)
  | .stagingStart _ _ => true
  | .stagingAbort _ => true
  | .stagingChunkDone _ _ => true
  | .stagingReadyPop _ => true
  | .stagingRelease _ _ => true
  | .stagingEnd _ _ => true
  | .doeRequest _ _ => true
  | .doeAbort _ => true
  | .doeDiscovery _ _ => true
  | .cdatRead _ _ => true
  | .wardenStatus _ _ => true
  | .getEventRecords _ => true
  | .clearEventRecords _ _ => true
  | .getEventInterruptPolicy _ => true
  | .setEventInterruptPolicy _ _ => true
  | .getFwInfo _ => true
  | .getSupportedLogs _ => true
  | .getLog _ _ _ _ => true
  | .identifyMemoryDevice _ => true
  | .getPartitionInfo _ => true
  | .getHealthInfo _ => true
  | .getPoisonList _ _ _ => true
  | .fjarlinWardenStatus _ => true
  | .fjarlinStageSiData _ _ data => decide (data.length ≤ 2040)
  | .fjarlinStageSiCommit _ _ => true
  | .mailboxUnsupportedOpcode _ _ => true
  | .getVersion _ => true
  | .getCapabilities _ _ => true
  | .negotiateAlgorithms _ _ _ _ => true
  | .getDigests _ _ => true
  | .getCertificate _ _ _ _ _ => true
  | .challenge _ _ _ _ _ _ => true
  | .getMeasurements _ _ _ _ _ _ => true
  | .respondIfReady _ _ => true
  | .chunkSend _ _ _ _ _ => true
  | .chunkGet _ _ _ => true
  | .spdmUnsupportedRequest _ _ => true
  | .spdmResponseNotReady _ _ _ => true
  | .sweepRegister _ _ => true
  | .sweepUnregister _ _ => true
  | .sweepRegionDue _ _ => true
  | .sweepNextPop _ => true
  | .sweepStart _ _ => true
  | .sweepReadCompletion _ _ _ _ => true
  | .sweepReadTimeout _ => true
  | .sweepBucketRefill _ => true
  | .sweepEndPop _ => true
  | .sweepPost _ _ => true
  | .hartChannelPost _ _ _ _ => true
  | .hartChannelTake _ _ => true
  | .hostChannelPost _ _ _ _ => true
  | .hostChannelTake _ _ => true
  | .cccSelect _ c => decide (c < 256)
  | .cccPost _ _ _ => true
  | .cccTake _ => true
  | .i2cChannelPost _ c _ _ => decide (c < 256)
  | .i2cChannelTake _ c => decide (c < 256)
  | .ibiAccepted _ _ => true
  | .enec _ _ => true
  | .disec _ _ => true
  | .rstdaa _ => true
  | .entdaa _ addr => decide (addr < 128)
  | .setdasa _ static addr => decide (static < 128 ∧ addr < 128)
  | .setnewda _ addr => decide (addr < 128)
  | .getpid _ => true
  | .getbcr _ => true
  | .getdcr _ => true
  | .getstatus _ => true
  | .setmwl _ _ => true
  | .getmwl _ => true
  | .setmrl _ _ => true
  | .getmrl _ => true
  | .rstact _ _ => true
  | .i3cTargetReset _ => true
  | .mctpPacket _ packet => decide (packet.payload.length ≤ 64 ∧ packet.seq < 4 ∧ packet.tag < 8)
  | .i2cMctpResponseRead _ => true
  | .setEndpointId _ _ _ => true
  | .getEndpointId _ => true
  | .getMctpVersionSupport _ _ => true
  | .getMessageTypeSupport _ => true
  | .getVendorDefinedMessageSupport _ _ => true
  | .fjStatus _ _ => true
  | .transferBegin _ _ _ _ => true
  | .transferData _ _ _ data => decide (data.length ≤ 1024)
  | .transferEnd _ _ fault => decide (fault < 4)
  | .sheetRead _ _ _ _ len => decide (len ≤ 1024)
  | .sheetAcknowledge _ _ _ _ => true
  | .reamHead _ _ => true
  | .eventRead _ _ _ count => decide (count ≤ 16)
  | .eventClear _ _ _ => true
  | .cardPresent _ _ => true
  | .cardRemoved _ => true
  | .slotPowerSettled _ => true
  | .cardCommandIssue _ _ => true
  | .cardResponse _ _ => true
  | .cardResponseTimeout => true
  | .cardDataBlock data _ => decide (data.length ≤ 512)
  | .cardDataTimeout => true
  | .cardCrcStatusToken token => decide (token < 8)
  | .cardBusyEnd => true
  | .cardBusyTimeout => true
  | .cardWriteDetectHold => true
  | .cardReset _ => true
  | .cardPowerOffEnd _ => true
  | .lcTransition _ target => decide (target < 8)
  | .lcUnlock _ => true
  | .lcBurnWord _ => true
  | .lcReadWord _ => true
  | .lcUndefinedCommand _ code => decide (code = 0 ∨ 5 ≤ code ∧ code < 16)
  | .otpBurnDone => true
  | .scanAllow _ _ => true
  | .mbistGo _ _ => true
  | .mbistDone _ => true
  | .mramTest _ _ => true
  | .scanExit => true
  | .dbChallenge _ => true
  | .dbSubmit _ => true
  | .ticketVerifyDone => true
  | .dbClose _ => true
  | .dbRequest level => decide (level < 4)
  | .tktDataWrite _ _ => true
  | .idcode => true
  | .samplePreload _ => true
  | .extest _ => true
  | .bypass => true
  | .dtmcs => true
  | .dmiAccess _ => true
  | .boothAccess op index _ => decide (op < 4 ∧ index < 256)
  | .privateTestInstruction ir => decide (0x18 ≤ ir ∧ ir ≤ 0x1E)
  | .deepSleepEnter _ _ => true
  | .deepSleepEntryComplete => true
  | .mainResetRequest _ _ => true
  | .wakeEvent source _ => decide (1 ≤ source ∧ source ≤ 5)
  | .wakeTimerExpiry _ => true
  | .correctedError _ _ => true
  | .deferredError _ _ _ _ => true
  | .f1Error _ _ _ => true
  | .f2Error _ _ _ => true
  | .safeStateReset => true
  | .ecReportPop _ => true
  | .ecInjectArm _ _ => true
  | .ptCtrlWrite _ _ => true
  | .latchedLoRead _ _ _ => true
  | .wearWrite _ _ _ => true
  | .registerWrite _ _ _ _ => true
  | .upResetRelease _ => true
  | .cxPerstDeassert => true
  | .testEnRise => true
  | .holdupOkChange _ => true
  | .mainRailsUp => true
  | .vcoreExcursionEnd _ => true
  | .junctionExcursionEnd _ => true
  | .entropyHealthRecovery => true
  | .blockRestartDone _ _ => true
  | .lifeCycleWipeDone => true

end Sys2Proof
end

