-- ==== Sys2Proof/Tests/Slice0.lean ====
section
/-! SUPPORT. Witnesses: for each statement with hypotheses, a state and operands that meet those of each of its clauses; a
refused term for each check of WellFormed; a few commands with the results the spec gives. -/

set_option linter.all false
set_option Elab.async false
set_option maxRecDepth 100000

namespace Sys2Proof.Tests
open Sys2Proof Sys2Proof.Machine

/-- A port of mode 0 at 6 MHz. -/
def port0 : PortRec := { port := 0, mode := 0, clockMHz := 6, bd := 0, dummyCycles := 8, addrBytes := 3, sizeLog2 := 24, waitMode := false, jedecId := [0xEF, 0x40, 0x18], eraseSizes := 1 }
/-- A flash device on bus 0. -/
def flash0 : FlashRec := { f := 0, role := 1, spareFor := 0xFF, ownerBd := 0, sizeLog2 := 24, classTable := 0, stateTable := 0, rateCurve := 0xFF, windowFirst := 0, windowCount := 0, initialState := 0, jedecId := [0xEF, 0x40, 0x18], eraseSizes := 1, sfdpPolicy := 0, pageSize := 256, maxEraseMs := 1, maxProgramUs := 1 }
/-- A flash bus of mode 0. -/
def bus0 : BusRec := { bus := 0, mode := 0, clockMHz := 6, captureDelay := 0, addrBytes := 3, resetOnTimeout := false, readyTimeoutUs := 1 }
/-- A boot domain. -/
def bd0 : BdRec := { bd := 0, port := 0, tamperBoot := false, afterBd := 0xFF, activeSlot := 0, slotA := { flash := 0, offset := 0 }, slotB := { flash := 0xFF, offset := 0 }, golden := { flash := 0xFF, offset := 0 } }
/-- A gate of that domain. -/
def gate0 : GateRec := { gate := 0, bd := 0, drive := 0, order := 0, delay := 0 }
/-- A rights record that allows all. -/
def rights0 : RightsRec := { aid := 0, stagingWindow := true, mayStage := true, mayClearEventLog := true, ledgerBdMask := 0xFFFF, partitionMask := 0xFFFFFFFF, eventSourceMask := 0x3FFFFFFFF, exportBdMask := 0xFFFF }
/-- A channel from hart 0 to AID 0. -/
def channel0 : ChannelRec := { channel := 0, sender := 0x10, receiver := 0, barker := false, ibi := false, logPost := false }
/-- A page program of one byte, issued by hart 0. -/
def flashCmd0 : FlashCmd := { op := 0x02, addr := 0, len := 1, data := [0], issuer := .hart 0 0, aid := 0x10, tag := some false, group := 0, member := 0 }
/-- An image of one granule. -/
def image0 : ImageRec := { imageId := zeros 16, bd := 0, slot := 0, serveMode := 0, sourceFlash := 0, sourceOffset := 0, length := 4096, partition := 0, presentOffset := 0 }
/-- A leaf with one of each. -/
def leaf0 : Leaf := { ports := [port0], flashes := [flash0], buses := [bus0], bds := [bd0], gates := [gate0], rights := [rights0, { rights0 with aid := 0x18 }], channels := [channel0] }
/-- A device that runs stage 1 with this leaf, its link up and its vault loaded. -/
def live : State := { State.reset with
  dev.pins.vstby := true, dev.pins.mainPg := true, dev.pins.mainRails := true, dev.pins.xtalOk := true, dev.pins.holdupOk := true,
  dev.power.state := .run, dev.start.phase := .stage1, dev.tx.fabricLive := true, dev.tx.leafEven := leaf0, dev.cx.linkUp := true, dev.bat.vbd := true,
  dev.kv.loadDone := true, dev.kv.entropyOk := true }
/-- An action of one record. -/
def floorAct : List Byte := 8 :: zeros 31
/-- A Verify job of hart 0. -/
def sgJob0 : SgJob := { hart := some 0, op := 1, source := 0, key := 0, det := false, tag := 0, ctxLen := 0, msgAddr := 0, msgLen := 0, ctxAddr := 0, keyAddr := 0, sigAddr := 0, pkDigAddr := 0, badReserved := false, changed := false }
/-- A Valid slot of hart 0. -/
def vaultSlot0 : VaultSlot := { no := 1, valid := true, owner := 0x10, rights := 0xF }
/-- A sweep record of LD 0. -/
def sweepRec0 : SweepRec := { ld := 0, compare := true, attest := true, maxRegions := 8, maxOutstanding := 8, rateCapMBps := 1, windowBase := 0, windowLength := 0x100000, minPeriodMs := 0 }
/-- A sweep region of LD 0. -/
def region0 : SweepRegion := { ld := 0, no := 0, base := 0, units := 1, period := 0, compare := false, attest := false, expected := [] }
/-- The pin record of I3C port 0 in I3C mode. -/
def pin1 : PinRec := { kind := 2, index := 0, function := 1, param := 0 }
/-- A ream that holds a sheet at position 0. -/
def sheetMem : Memory := memWrite {} (sheetAddr 0) (leBytes 4 0x48535842)
/-- A signature block of zeros. -/
def sig0 : List Byte := leBytes 4 0x47535842 ++ [1, 0, 0, 0] ++ leBytes 4 1952 ++ leBytes 4 3309 ++ zeros 5264
/-- A ticket of the right form for serial number 1 and state 4. -/
def ticket0 : List Byte := leBytes 4 0x54445842 ++ [1, 0, 1, 1] ++ leBytes 8 1 ++ [4] ++ zeros 7 ++ zeros 32 ++ zeros 8 ++ sig0
/-- An empty environment of the recorder. -/
def evEnv0 : EvEnv := { now := 0, epoch := 0, key := none, rates := [] }
/-- That leaf with a class table and a state table. -/
def leafTs : Leaf := { leaf0 with classTables := [{ tableId := 0, protocol := 1, classes := [] }], stateTables := [{ tableId := 0, stateCount := 1, classCount := 1, entries := [] }] }
/-- The environment of turnstile 0 under it. -/
def tsEnv0 : TsEnv := { f := 0, leaf := leafTs, retired := false, quarantined := false, fence := none, busTaken := false, epoch := 0, tag := false, now := 0 }
/-- A W64 block of zeros with the CRC and the parity bytes that R456 gives it. -/
def block0 : List Byte := zeros 274 ++ [56, 176, 129, 56, 253, 83, 236, 195, 146, 176, 118, 131, 99, 4]
/-- The environment of a turnstile whose table lets commands through. -/
def tsIssue : TsEnv := { tsEnv0 with leaf := { leafTs with classTables := [{ tableId := 0, protocol := 1, classes := [0, 0, 0] }] } }
/-- Turnstiles with one waiting command. -/
def tsWaiting : State := { live with dev.gf.ts := Vector.replicate _ { waiting := [flashCmd0] } }
/-- Turnstiles with one held command that is due. -/
def tsHolding : State := { live with dev.gf.ts := Vector.replicate _ { held := [{ cmd := flashCmd0, since := 0, due := true, cls := 0 }] } }
/-- A Preloaded image that its host sees. -/
def presentImage : ServeImage := { imgRec := { image0 with serveMode := 1 }, base := 0, recIdx := 0, digest := [], ctx := 0, cmp := 0, units := 0, burst := none, retried := false, tags := [], lastRead := 0, closed := false, verified := true }
/-- That image with its first word poisoned. -/
def poisonedStore : Device := { live.dev with is_.bds := Vector.replicate _ { runPoint := true, images := [{ presentImage with units := 1 }] }, is_.poisoned := [0] }
/-- Ports with a read of no bytes under way. -/
def reading : State := { live with dev.gf.ports := Vector.replicate _ { read := some default, deferred := none } }
/-- I3C port 0 in I3C mode. -/
def i3cLive : State := { live with dev.tx.leafEven.pins := [pin1] }
/-- The same port with 32 packets that no hart takes up. -/
def i3cFull : State := { i3cLive with dev.start.phase := .loaded, dev.mg := Vector.replicate _ { rx := List.replicate 32 default } }
/-- A Valid vault slot that holds a seed. -/
def seedSlot : VaultSlot := { vaultSlot0 with no := 0, value := zeros 64 }
/-- 64 bytes of shared working SRAM written with zero. -/
def filled : Memory := memWrite {} 0x20000000 (zeros 64)

/-! ### Well-formedness -/

/-- A term with an operand out of range for each check. -/
theorem test_wellformed_refuses : List.all
    [.mainRailLoss (2 ^ 70) (2 ^ 70),
     .vcoreLowExcursion (2 ^ 70),
     .junctionWarning (2 ^ 70),
     .junctionTrip (2 ^ 70),
     .couchOpen 0 (2 ^ 70),
     .couchUndefinedCommand 0 (2 ^ 70),
     .pageProgram 0 false 0 [] 0,
     .undefinedOpcode 0 (2 ^ 70) 0,
     .csRaisedEarly 0 (2 ^ 70) 0 none,
     .flashCommandDone 0 (2 ^ 70) [],
     .busContentionDetected 0 (2 ^ 70),
     .devReset 0 0 (2 ^ 70),
     .servingReadComplete 0 0 (2 ^ 70) (zeros 5000),
     .patrolScrubStep 0 0 (2 ^ 70),
     .dgCmpFree 0 (2 ^ 70),
     .dgUndefinedCommand 0 (2 ^ 70),
     .kvUndefinedCommand 0 (2 ^ 70),
     .bdSequenceStart 0 0 (2 ^ 70),
     .recoveryBundleInstall 0 [] (2 ^ 70),
     .eventArrival (2 ^ 70) (2 ^ 70) (2 ^ 70) [],
     .linkUp (2 ^ 70) (2 ^ 70) false none,
     .w64BlockReceived [],
     .hotResetVector (2 ^ 70),
     .memRd 0 (2 ^ 70),
     .memWr 0 (2 ^ 70) [] [],
     .fjarlinStageSiData none 0 (zeros 5000),
     .cccSelect 0 (2 ^ 70),
     .i2cChannelPost 0 (2 ^ 70) 0 false,
     .i2cChannelTake 0 (2 ^ 70),
     .entdaa 0 (2 ^ 70),
     .setdasa 0 (2 ^ 70) (2 ^ 70),
     .setnewda 0 (2 ^ 70),
     .mctpPacket 0 { (default : McPacket) with seq := 4 },
     .transferData 0 0 0 (zeros 5000),
     .transferEnd 0 0 (2 ^ 70),
     .sheetRead 0 0 0 0 (2 ^ 70),
     .eventRead 0 0 0 (2 ^ 70),
     .cardDataBlock (zeros 5000) false,
     .cardCrcStatusToken (2 ^ 70),
     .lcTransition 0 (2 ^ 70),
     .lcUndefinedCommand 0 (2 ^ 70),
     .dbRequest (2 ^ 70),
     .boothAccess (2 ^ 70) (2 ^ 70) 0,
     .privateTestInstruction (2 ^ 70),
     .wakeEvent (2 ^ 70) 0]
    (fun c => !WellFormed c) = true := by decide +kernel

/-! ### One command each, with the result the spec gives -/

/-- SHAKE-256 of no bytes (FIPS 202's published value). -/
theorem test_shake256_empty : (shake256 [] 8) = [0x46, 0xb9, 0xdd, 0x2b, 0x0b, 0xa8, 0x8d, 0x13] := by decide +kernel
/-- IDCODE answers 0x16440A6B, the least significant byte first (R538). -/
theorem test_idcode : (match exec .idcode State.reset with | .next t => t.dev.reply | _ => []) = [0x6B, 0x0A, 0x44, 0x16] := by
  decide +kernel
/-- A block without errors is decoded with none corrected (R456). -/
theorem test_w64_clean : (rsSyndromes (codeword (block0.map (·.toNat)) 0)).all (· == 0) = true := by decide +kernel
/-- An Open by hart 2 with an admitted requester takes the idle mould (R144). -/
theorem test_couch_open : (match exec (.couchOpen 2 0x12) live with
    | .next t => (t.dev.tx.state, t.dev.tx.owner, t.dev.tx.requester) | _ => (.idle, 0, 0)) = (.opened, 0x12, 0x12) := by decide +kernel
/-- An Open by hart 2 while another mould is open leaves the owner (R144). -/
theorem test_couch_open_busy : (match exec (.couchOpen 2 0x12) { live with dev.tx.state := .staging, dev.tx.owner := 0x10 } with
    | .next t => (t.dev.tx.state, t.dev.tx.owner) | _ => (.idle, 0)) = (.staging, 0x10) := by decide +kernel
/-- WRITE_ENABLE then nothing more: bit 1 of the status byte is WEL (R179). -/
theorem test_read_status : (match exec (.readStatus 0 1 0) { live with dev.gf.ports := Vector.replicate _ { wel := true, wip := true } } with
    | .next t => t.dev.reply | _ => []) = [0x03] := by decide +kernel
/-- A post to a full channel is dropped and marked (R483). -/
theorem test_channel_full : (match exec (.hartChannelPost 0 0 0x1234 false) { live with dev.mb.chans := Vector.replicate _ { full := true, word := 7 } } with
    | .next t => ((chanAt t.dev 0).word, (chanAt t.dev 0).drop) | _ => (0, false)) = (7, true) := by decide +kernel
/-- The memory write of a byte keeps the canonical form: writing what an unlisted address reads as removes the entry. -/
theorem test_memory_canonical : memWrite (memWrite {} mramBase [1, 2]) mramBase [0, 2] = memWrite {} (mramBase + 1) [2] := by decide +kernel

/-! ### Hypotheses met -/

/-- The hypotheses of StepRunsTheFrontCommand can be met. -/
theorem test_witness_StepRunsTheFrontCommand :
    (∃ (s : State), s.pending = []) :=
  ⟨{ live with pending := [] },
    by decide +kernel⟩

/-- The hypotheses of StepKeepsMemoryCanonical can be met. -/
theorem test_witness_StepKeepsMemoryCanonical :
    (∃ (s : State) (t : State), MemInv s ∧ step s = .next t) :=
  ⟨live, live,
    by (repeat' apply And.intro) <;> first | decide +kernel | rfl⟩

/-- The hypotheses of OtpIsOneTimeProgrammable can be met. -/
theorem test_witness_OtpIsOneTimeProgrammable :
    (∃ (s : State) (t : State), step s = .next t) ∧
    (∃ (c : Instr) (s : State) (t : State), c ≠ .otpBurnDone ∧ ((∀ vbat, c ≠ .vstbyFall vbat)) ∧ exec c s = .next t) :=
  ⟨⟨live, live,
    by (repeat' apply And.intro) <;> first | decide +kernel | rfl⟩,
   ⟨.idcode, live, { live with dev := idcodeEffect live.dev },
    by (repeat' apply And.intro) <;> first | decide +kernel | rfl⟩⟩

/-- The hypotheses of EveryCommandIsTaken can be met. -/
theorem test_witness_EveryCommandIsTaken :
    (∃ (s : State) (c : Instr) (rest : List Instr), s.pending = c :: rest) :=
  ⟨{ live with pending := (.idcode) :: ([]) }, .idcode, [],
    by decide +kernel⟩

/-- The hypotheses of OnlyListedCommandsChangeMemory can be met. -/
theorem test_witness_OnlyListedCommandsChangeMemory :
    (∃ (c : Instr) (s : State) (t : State), writesMemory c = false ∧ exec c s = .next t) :=
  ⟨.idcode, live, { live with dev := idcodeEffect live.dev },
    by (repeat' apply And.intro) <;> first | decide +kernel | rfl⟩

/-- The hypotheses of OnlyCouchesChangeThePolicy can be met. -/
theorem test_witness_OnlyCouchesChangeThePolicy :
    (∃ (c : Instr) (s : State) (t : State), changesPolicy c = false ∧ exec c s = .next t) :=
  ⟨.idcode, live, { live with dev := idcodeEffect live.dev },
    by (repeat' apply And.intro) <;> first | decide +kernel | rfl⟩

/-- The hypotheses of SuppliesAndMainRelease can be met. -/
theorem test_witness_SuppliesAndMainRelease :
    (∃ (s : State) (vbat : Bool) (strap : Bool), s.dev.pins.vstby = false ∧ s.dev.pins.mainPg = false) ∧
    (∃ (s : State) (vbat : Bool), s.dev.pins.vstby = true) ∧
    (∃ (s : State), railsUsed s.dev = true) ∧
    (∃ (s : State) (mv : Nat) (ticks : Nat), railsUsed s.dev = true) ∧
    (∃ (s : State), s.dev.power.state = .standby ∧ s.dev.pins.mainPg = false ∧ s.dev.pins.xtalOk = true ∧ s.dev.power.resetKind ≠ 3) ∧
    (∃ (s : State), s.dev.power.state = .standby ∧ s.dev.pins.mainPg = false ∧ s.dev.pins.xtalOk = false) ∧
    (∃ (s : State), s.dev.power.state = .standby ∧ s.dev.pins.mainPg = true ∧ s.dev.pins.xtalOk = true) ∧
    (∃ (s : State), s.dev.pins.vstby = true ∧ s.dev.power.state = .starting ∧ s.dev.power.resetKind ≠ 3) ∧
    (∃ (s : State), s.dev.pins.vstby = true ∧ s.dev.power.state ≠ .starting) ∧
    (∃ (s : State) (mv : Nat) (ticks : Nat), railsUsed s.dev = true ∧ mv < 680 ∧ s.dev.pins.xtalOk = true) ∧
    (∃ (s : State) (mv : Nat), mainUp s.dev = true ∧ 680 ≤ mv ∧ mv ≤ 719) ∧
    (∃ (s : State) (mv : Nat) (ticks : Nat), s.dev.junction.lowMv = some mv) :=
  ⟨⟨{ live with dev.pins.vstby := false, dev.pins.mainPg := false }, false, false,
    by decide +kernel⟩,
   ⟨{ live with dev.pins.vstby := true }, false,
    by decide +kernel⟩,
   ⟨live,
    by decide +kernel⟩,
   ⟨live, 0, 0,
    by decide +kernel⟩,
   ⟨{ live with dev.power.state := .standby, dev.pins.mainPg := false, dev.pins.xtalOk := true },
    by decide +kernel⟩,
   ⟨{ live with dev.power.state := .standby, dev.pins.mainPg := false, dev.pins.xtalOk := false },
    by decide +kernel⟩,
   ⟨{ live with dev.power.state := .standby, dev.pins.mainPg := true, dev.pins.xtalOk := true },
    by decide +kernel⟩,
   ⟨{ live with dev.pins.vstby := true, dev.power.state := .starting },
    by decide +kernel⟩,
   ⟨{ live with dev.pins.vstby := true },
    by decide +kernel⟩,
   ⟨{ live with dev.pins.xtalOk := true }, 0, 0,
    by decide +kernel⟩,
   ⟨live, 680,
    by decide +kernel⟩,
   ⟨{ live with dev.junction.lowMv := some (0) }, 0, 0,
    by decide +kernel⟩⟩

/-- The hypotheses of RecoverInput can be met. -/
theorem test_witness_RecoverInput :
    (∃ (s : State), s.dev.pins.vstby = true ∧ s.dev.pins.recoverFilt = false ∧ s.dev.power.state = .run ∧ s.dev.power.resetKind ≠ 3) ∧
    (∃ (s : State) (ticks : Nat), s.dev.pins.recoverFilt = true ∧ s.dev.pins.pressUnderStage = true) ∧
    (∃ (s : State) (ticks : Nat), s.dev.pins.recoverFilt = true ∧ s.dev.pins.pressUnderStage = false) ∧
    (∃ (s : State), s.dev.pins.vstby = true ∧ s.dev.start.phase ≠ .rom) :=
  ⟨⟨{ live with dev.pins.vstby := true, dev.pins.recoverFilt := false, dev.power.state := .run },
    by decide +kernel⟩,
   ⟨{ live with dev.pins.recoverFilt := true, dev.pins.pressUnderStage := true }, 0,
    by decide +kernel⟩,
   ⟨{ live with dev.pins.recoverFilt := true, dev.pins.pressUnderStage := false }, 0,
    by decide +kernel⟩,
   ⟨{ live with dev.pins.vstby := true },
    by decide +kernel⟩⟩

/-- The hypotheses of JunctionPinsAndTime can be met. -/
theorem test_witness_JunctionPinsAndTime :
    (∃ (s : State) (temp : Nat), mainUp s.dev = true ∧ 100 ≤ temp ∧ s.dev.junction.hot = true) ∧
    (∃ (s : State) (temp : Nat), mainUp s.dev = true ∧ 100 ≤ temp ∧ s.dev.junction.hot = false) ∧
    (∃ (s : State) (temp : Nat), mainUp s.dev = true ∧ s.dev.power.state ≠ .safe ∧ 112 ≤ temp) ∧
    (∃ (s : State) (temp : Nat), mainUp s.dev = true ∧ temp < 100) ∧
    (∃ (s : State) (g : Gpio) (level : Bool), s.dev.pins.gpioIn[g] = level) ∧
    (∃ (s : State) (g : Gpio) (level : Bool), s.dev.pins.gpioIn[g] ≠ level ∧ (islandUp s.dev = false ∨ gpioFunction s.dev g ≠ 1)) ∧
    (∃ (s : State) (g : Gpio) (level : Bool), s.dev.pins.gpioIn[g] ≠ level ∧ mainUp s.dev = true ∧ gpioFunction s.dev g = 1 ∧ bit s.dev.power.wakeGpio g = false) ∧
    (∃ (s : State) (g : Gpio) (level : Bool), s.dev.pins.gpioIn[g] ≠ level ∧ mainUp s.dev = true ∧ gpioFunction s.dev g = 1 ∧ bit s.dev.power.wakeGpio g = true) ∧
    (∃ (s : State) (g : Gpio) (level : Bool), s.dev.pins.gpioIn[g] ≠ level ∧ islandUp s.dev = true ∧ mainUp s.dev = false ∧ gpioFunction s.dev g = 1) ∧
    (∃ (s : State), s.dev.pins.cxPerst = true ∧ s.dev.power.state = .run ∧ s.dev.power.resetKind ≠ 3 ∧ s.dev.cx.restarting = false) ∧
    (∃ (s : State), s.dev.pins.vstby = true ∧ s.dev.pins.mainPg = true ∧ mainUp s.dev = false) ∧
    (∃ (s : State), s.dev.pins.vstby = true ∧ s.dev.pins.mainPg = true ∧ mainUp s.dev = true) ∧
    (∃ (s : State), s.dev.pins.vstby = true ∧ s.dev.pins.mainPg = true ∧ FirmwareQuiet s.dev) ∧
    (∃ (s : State), s.dev.pins.mainPg = false) :=
  ⟨⟨{ live with dev.junction.hot := true }, 100,
    by decide +kernel⟩,
   ⟨{ live with dev.junction.hot := false }, 100,
    by decide +kernel⟩,
   ⟨live, 112,
    by decide +kernel⟩,
   ⟨live, 0,
    by decide +kernel⟩,
   ⟨live, 0, false,
    by decide +kernel⟩,
   ⟨live, 0, true,
    by decide +kernel⟩,
   ⟨{ live with dev.tx.leafEven.pins := [{ kind := 1, index := 0, function := 1, param := 0 }] }, 0, true,
    by decide +kernel⟩,
   ⟨{ live with dev.tx.leafEven.pins := [{ kind := 1, index := 0, function := 1, param := 0 }], dev.power.wakeGpio := 1 }, 0, true,
    by decide +kernel⟩,
   ⟨{ live with dev.power.state := .deepSleep, dev.tx.leafEven.pins := [{ kind := 1, index := 0, function := 1, param := 0 }] }, 0, true,
    by decide +kernel⟩,
   ⟨{ live with dev.pins.cxPerst := true, dev.power.state := .run, dev.cx.restarting := false },
    by decide +kernel⟩,
   ⟨{ live with dev.pins.vstby := true, dev.pins.mainPg := true, dev.power.state := .standby },
    by decide +kernel⟩,
   ⟨{ live with dev.pins.vstby := true, dev.pins.mainPg := true },
    by decide +kernel⟩,
   ⟨{ live with dev.cd.busy := true, dev.pins.vstby := true, dev.pins.mainPg := true },
    by (repeat' apply And.intro) <;> first | decide +kernel | rfl⟩,
   ⟨{ live with dev.pins.mainPg := false },
    by decide +kernel⟩⟩

/-- The hypotheses of CoreAndMainResets can be met. -/
theorem test_witness_CoreAndMainResets :
    (∃ (s : State), MayWrite s.dev 0 0) ∧
    (∃ (s : State), mainRuns s.dev = true ∧ wdogExpired s.dev = true) ∧
    (∃ (s : State) (v : Word), MayWrite s.dev 0 1 ∧ field v 0 8 = 0x5A) ∧
    (∃ (s : State) (v : Word), MayWrite s.dev 0 1 ∧ field v 0 8 ≠ 0x5A) ∧
    (∃ (s : State) (h : Hart) (v : Word), MayWrite s.dev h 1 ∧ h ≠ 0) ∧
    (∃ (s : State) (v : Word), MayWrite s.dev 0 1 ∧ field v 8 8 ≠ 0xD5) ∧
    (∃ (s : State) (v : Word), MayWrite s.dev 0 1 ∧ field v 8 8 = 0xD5 ∧ bit v 1 = true) ∧
    (∃ (d : Device), d.pins.xtalOk = true) :=
  ⟨⟨live,
    by (repeat' apply And.intro) <;> first | decide +kernel | rfl⟩,
   ⟨{ live with dev.power.wdogRunning := true, dev.power.wdogCount := 1000000 },
    by decide +kernel⟩,
   ⟨live, 0x5A,
    by (repeat' apply And.intro) <;> first | decide +kernel | rfl⟩,
   ⟨live, 0,
    by (repeat' apply And.intro) <;> first | decide +kernel | rfl⟩,
   ⟨live, 1, 0,
    by (repeat' apply And.intro) <;> first | decide +kernel | rfl⟩,
   ⟨live, 0,
    by (repeat' apply And.intro) <;> first | decide +kernel | rfl⟩,
   ⟨live, 0xD502,
    by (repeat' apply And.intro) <;> first | decide +kernel | rfl⟩,
   ⟨{ live.dev with pins.xtalOk := true },
    by decide +kernel⟩⟩

/-- The hypotheses of DeepSleep can be met. -/
theorem test_witness_DeepSleep :
    (∃ (s : State) (v : Word), MayWrite s.dev 0 1 ∧ field v 8 8 = 0xD5 ∧ bit v 1 = false ∧ bit v 0 = true ∧ sleepRefusal s.dev ≠ 0) ∧
    (∃ (s : State) (v : Word), MayWrite s.dev 0 1 ∧ field v 8 8 = 0xD5 ∧ bit v 1 = false ∧ bit v 0 = true ∧ sleepRefusal s.dev = 0) ∧
    (∃ (s : State), s.dev.power.state = .entering ∧ s.dev.power.latched = none) ∧
    (∃ (s : State) (source : Nat) (ticks : Nat), asleep s.dev = true ∧ 1 ≤ source ∧ source ≤ 5 ∧ wakeEnabled s.dev source = true) ∧
    (∃ (s : State) (ticks : Nat), asleep s.dev = true ∧ wakeEnabled s.dev 6 = true) :=
  ⟨⟨{ live with dev.tx.fabricLive := false }, 0xD501,
    by (repeat' apply And.intro) <;> first | decide +kernel | rfl⟩,
   ⟨live, 0xD501,
    by (repeat' apply And.intro) <;> first | decide +kernel | rfl⟩,
   ⟨{ live with dev.power.state := .entering, dev.power.latched := none },
    by decide +kernel⟩,
   ⟨{ live with dev.power.state := .deepSleep }, 1, 0,
    by decide +kernel⟩,
   ⟨{ live with dev.power.wakeEn := 0x20, dev.power.wakeTimer := 1, dev.power.state := .deepSleep }, 0,
    by decide +kernel⟩⟩

/-- The hypotheses of StartAndHandover can be met. -/
theorem test_witness_StartAndHandover :
    (∃ (s : State), s.dev.power.state = .run ∧ s.dev.kv.loadDone = false ∧ s.dev.pins.recoverSettled = false) ∧
    (∃ (s : State), MayWrite s.dev 0 0 ∧ s.dev.start.phase = .loaded ∧ s.dev.start.released = false) ∧
    (∃ (s : State) (h : Hart), MayWrite s.dev h 0) ∧
    (∃ (s : State) (h : Hart), MayWrite s.dev h 0 ∧ s.dev.start.lock = false) ∧
    (∃ (s : State) (h : Hart), MayWrite s.dev h 0 ∧ s.dev.start.lock = true) ∧
    (∃ (s : State), MayWrite s.dev 0 0 ∧ s.dev.start.phase = .loaded ∧ s.dev.start.hartReady = 0xF ∧ s.dev.start.lock = true) ∧
    (∃ (s : State), MayWrite s.dev 0 0 ∧ s.dev.start.hartReady ≠ 0xF) ∧
    (∃ (s : State), MayWrite s.dev 0 0 ∧ s.dev.start.lock = false) ∧
    (∃ (s : State) (h : Hart), MayWrite s.dev h 3) ∧
    (∃ (d : Device), MayWrite d 0 8 ∧ (d.tx.state = .done ∨ d.tx.state = .aborted)) ∧
    (∃ (d : Device), d.tx.state ≠ .done ∧ d.tx.state ≠ .aborted) :=
  ⟨⟨{ live with dev.power.state := .run, dev.kv.loadDone := false, dev.pins.recoverSettled := false },
    by decide +kernel⟩,
   ⟨{ live with dev.start.phase := .loaded, dev.start.released := false },
    by (repeat' apply And.intro) <;> first | decide +kernel | rfl⟩,
   ⟨live, 0,
    by (repeat' apply And.intro) <;> first | decide +kernel | rfl⟩,
   ⟨{ live with dev.start.lock := false }, 0,
    by (repeat' apply And.intro) <;> first | decide +kernel | rfl⟩,
   ⟨{ live with dev.start.lock := true }, 0,
    by (repeat' apply And.intro) <;> first | decide +kernel | rfl⟩,
   ⟨{ live with dev.start.phase := .loaded, dev.start.hartReady := 0xF, dev.start.lock := true },
    by (repeat' apply And.intro) <;> first | decide +kernel | rfl⟩,
   ⟨live,
    by (repeat' apply And.intro) <;> first | decide +kernel | rfl⟩,
   ⟨{ live with dev.start.lock := false },
    by (repeat' apply And.intro) <;> first | decide +kernel | rfl⟩,
   ⟨live, 0,
    by (repeat' apply And.intro) <;> first | decide +kernel | rfl⟩,
   ⟨{ live.dev with tx.state := .done },
    by (repeat' apply And.intro) <;> first | decide +kernel | rfl | (simp only [MayWrite, MayRead, OnPort, OwnContext, VaultReady, MailboxReady, OnConnection, PortServed, MemInv]; decide +kernel) | (intros; simp)⟩,
   ⟨live.dev,
    by (repeat' apply And.intro) <;> first | decide +kernel | rfl | (simp only [MayWrite, MayRead, OnPort, OwnContext, VaultReady, MailboxReady, OnConnection, PortServed, MemInv]; decide +kernel) | (intros; simp)⟩⟩

/-- The hypotheses of FirmwareWriteAndWatermarks can be met. -/
theorem test_witness_FirmwareWriteAndWatermarks :
    (∃ (s : State) (h : Hart) (v : Word), MayWrite s.dev h 0 ∧ slotWritable s.dev.start = true ∧ s.dev.start.fwPtr % 8 = 0) ∧
    (∃ (s : State) (h : Hart) (v : Word), MayWrite s.dev h 0 ∧ slotWritable s.dev.start = true ∧ s.dev.start.fwPtr % 8 = 4) ∧
    (∃ (s : State) (h : Hart) (v : Word), MayWrite s.dev h 0 ∧ slotWritable s.dev.start = false) ∧
    (∃ (s : State) (h : Hart) (n : Wmk), MayWrite s.dev h 0 ∧ hasBit s.dev.start.wmkMask[h] n = true) ∧
    (∃ (s : State) (h : Hart) (n : Wmk), MayWrite s.dev h 0 ∧ hasBit s.dev.start.wmkMask[h] n = false) :=
  ⟨⟨{ live with dev.start.openSlot := true, dev.start.lock := true, dev.start.activeWrite := true }, 0, 0,
    by (repeat' apply And.intro) <;> first | decide +kernel | rfl⟩,
   ⟨{ live with dev.start.openSlot := true, dev.start.lock := true, dev.start.activeWrite := true, dev.start.fwPtr := 4 }, 0, 0,
    by (repeat' apply And.intro) <;> first | decide +kernel | rfl⟩,
   ⟨live, 0, 0,
    by (repeat' apply And.intro) <;> first | decide +kernel | rfl⟩,
   ⟨live, 0, 0,
    by (repeat' apply And.intro) <;> first | decide +kernel | rfl⟩,
   ⟨{ live with dev.start.wmkMask := Vector.replicate _ 0 }, 0, 0,
    by (repeat' apply And.intro) <;> first | decide +kernel | rfl⟩⟩

/-- The hypotheses of DeckleGuardsEveryBlock can be met. -/
theorem test_witness_DeckleGuardsEveryBlock :
    (∃ (d : Device) (h : Hart) (block : Nat) (addr : Nat) (f : Device → Device), mainRuns d = true ∧ hartStalled d h = false ∧ deckleAllows d h block = false) ∧
    (∃ (d : Device) (h : Hart) (block : Nat) (addr : Nat) (f : Device → Device), mainRuns d = false) ∧
    (∃ (d : Device) (h : Hart) (block : Nat) (addr : Nat) (f : Device → Device), MayWrite d h block) :=
  ⟨⟨{ live.dev with start.blk := Vector.replicate _ 0 }, 0, 0, 0, default,
    by decide +kernel⟩,
   ⟨{ live.dev with power.state := .standby }, 0, 0, 0, default,
    by decide +kernel⟩,
   ⟨live.dev, 0, 0, 0, default,
    by (repeat' apply And.intro) <;> first | decide +kernel | rfl⟩⟩

/-- The hypotheses of MouldOpenAppendCheck can be met. -/
theorem test_witness_MouldOpenAppendCheck :
    (∃ (s : State) (h : Hart) (requester : Nat), MayWrite s.dev h 8 ∧ s.dev.tx.state = .idle ∧ mayOpen s.dev (requester % 256) = true) ∧
    (∃ (s : State) (h : Hart), MayWrite s.dev h 8 ∧ appendOutcome h s.dev = 0 ∧ actType (actDesc s.dev.tx) ≠ 1) ∧
    (∃ (s : State) (h : Hart), MayWrite s.dev h 8 ∧ appendOutcome h s.dev = 0 ∧ actType (actDesc s.dev.tx) = 1) ∧
    (∃ (s : State) (a : List Byte), mainRuns s.dev = true ∧ s.dev.tx.siChecking = some a ∧ (s.dev.tx.state = .opened ∨ s.dev.tx.state = .staging ∨ s.dev.tx.state = .ready)) ∧
    (∃ (s : State) (h : Hart), MayWrite s.dev h 8 ∧ couchOwner h s.dev = true ∧ s.dev.tx.state = .staging ∧ s.dev.tx.siChecking = none) :=
  ⟨⟨{ live with dev.tx.state := .idle }, 0, 0x10,
    by (repeat' apply And.intro) <;> first | decide +kernel | rfl⟩,
   ⟨{ live with dev.tx.state := .opened, dev.tx.owner := 0x10 }, 0,
    by (repeat' apply And.intro) <;> first | decide +kernel | rfl⟩,
   ⟨{ live with dev.tx.state := .opened, dev.tx.owner := 0x10, dev.tx.act := Vector.replicate _ 1 }, 0,
    by (repeat' apply And.intro) <;> first | decide +kernel | rfl⟩,
   ⟨{ live with dev.tx.siChecking := some ([]), dev.tx.state := .opened }, [],
    by decide +kernel⟩,
   ⟨{ live with dev.tx.owner := 0x10, dev.tx.state := .staging, dev.tx.siChecking := none }, 0,
    by (repeat' apply And.intro) <;> first | decide +kernel | rfl⟩⟩

/-- The hypotheses of MouldCheckCommitDrain can be met. -/
theorem test_witness_MouldCheckCommitDrain :
    (∃ (s : State) (r : Nat), mainRuns s.dev = true ∧ s.dev.tx.state = .checking ∧ s.dev.tx.pendingAbort = some r) ∧
    (∃ (s : State), mainRuns s.dev = true ∧ s.dev.tx.state = .checking ∧ s.dev.tx.pendingAbort = none ∧ couchCheck s.dev = none) ∧
    (∃ (s : State) (c : Nat) (w : Nat), mainRuns s.dev = true ∧ s.dev.tx.state = .checking ∧ s.dev.tx.pendingAbort = none ∧ couchCheck s.dev = some (c, w) ∧ s.dev.tx.fenceArmed = false) ∧
    (∃ (s : State), MayWrite s.dev 0 8 ∧ s.dev.tx.state = .ready ∧ s.dev.tx.siChecking = none ∧ couchCheck { s.dev with tx := { s.dev.tx with state := .committing, fenceArmed := s.dev.tx.fabricLive } } = none) ∧
    (∃ (s : State) (h : Hart), MayWrite s.dev h 8 ∧ h ≠ 0) ∧
    (∃ (s : State), mainRuns s.dev = true ∧ s.dev.tx.state = .committing ∧ s.dev.tx.fabricLive = true ∧ oldTagOps s.dev = 0 ∧ siLoading s.dev = false) ∧
    (∃ (s : State), mainRuns s.dev = true ∧ s.dev.tx.state = .committing ∧ s.dev.tx.fabricLive = true ∧ oldTagOps s.dev ≠ 0) ∧
    (∃ (s : State), mainRuns s.dev = true ∧ s.dev.tx.state = .committing) ∧
    (∃ (s : State), mainRuns s.dev = true ∧ s.dev.tx.siCopyBusy = true) :=
  ⟨⟨{ live with dev.tx.state := .checking, dev.tx.pendingAbort := some (0) }, 0,
    by decide +kernel⟩,
   ⟨{ live with dev.tx.actions := [floorAct], dev.tx.leafEven := {}, dev.tx.state := .checking, dev.tx.pendingAbort := none },
    by decide +kernel⟩,
   ⟨{ live with dev.tx.state := .checking, dev.tx.pendingAbort := none, dev.tx.fenceArmed := false }, 0x50, 0xFFFFFFFF,
    by decide +kernel⟩,
   ⟨{ live with dev.tx.actions := [floorAct], dev.tx.leafEven := {}, dev.tx.state := .ready, dev.tx.siChecking := none },
    by (repeat' apply And.intro) <;> first | decide +kernel | rfl⟩,
   ⟨live, 1,
    by (repeat' apply And.intro) <;> first | decide +kernel | rfl⟩,
   ⟨{ live with dev.tx.state := .committing, dev.tx.fabricLive := true },
    by decide +kernel⟩,
   ⟨{ live with dev.gf.ts := Vector.replicate _ { current := some { flashCmd0 with tag := some true } }, dev.tx.state := .committing, dev.tx.fabricLive := true },
    by decide +kernel⟩,
   ⟨{ live with dev.tx.state := .committing },
    by decide +kernel⟩,
   ⟨{ live with dev.tx.siCopyBusy := true },
    by decide +kernel⟩⟩

/-- The hypotheses of MouldAbortReleaseRestore can be met. -/
theorem test_witness_MouldAbortReleaseRestore :
    (∃ (s : State) (h : Hart), MayWrite s.dev h 8 ∧ ownerOrHart0 h s.dev = true ∧ s.dev.tx.state = .checking) ∧
    (∃ (s : State) (h : Hart), MayWrite s.dev h 8 ∧ ownerOrHart0 h s.dev = true ∧ s.dev.tx.state = .staging) ∧
    (∃ (d : Device) (reason : Nat), d.tx.fenceArmed = false) ∧
    (∃ (s : State) (h : Hart), MayWrite s.dev h 8 ∧ ownerOrHart0 h s.dev = true ∧ (s.dev.tx.state = .done ∨ s.dev.tx.state = .aborted)) ∧
    (∃ (s : State), MayWrite s.dev 0 8 ∧ s.dev.tx.state = .idle ∧ s.dev.tx.fabricLive = false) ∧
    (∃ (d : Device), validBank d.mem = none) ∧
    (∃ (s : State) (h : Hart), MayWrite s.dev h 8 ∧ h ≠ 0) ∧
    (∃ (s : State) (h : Hart) (code : Nat), MayWrite s.dev h 8) ∧
    (∃ (s : State) (h : Hart) (v : Word), MayWrite s.dev h 8 ∧ s.dev.tx.sipLocked = true) ∧
    (∃ (s : State) (h : Hart) (v : Word), MayWrite s.dev h 8 ∧ s.dev.tx.sipLocked = false ∧ s.dev.tx.siCopyBusy = false ∧ field s.dev.tx.sipPtr 2 18 % 2 = 1) ∧
    (∃ (s : State) (h : Hart) (v : Word), MayWrite s.dev h 8 ∧ s.dev.tx.sipLocked = false ∧ s.dev.tx.siCopyBusy = false ∧ field s.dev.tx.sipPtr 2 18 % 2 = 0) :=
  ⟨⟨{ live with dev.tx.state := .checking }, 0,
    by (repeat' apply And.intro) <;> first | decide +kernel | rfl⟩,
   ⟨{ live with dev.tx.state := .staging }, 0,
    by (repeat' apply And.intro) <;> first | decide +kernel | rfl⟩,
   ⟨{ live.dev with tx.fenceArmed := false }, 0,
    by decide +kernel⟩,
   ⟨{ live with dev.tx.state := .done }, 0,
    by (repeat' apply And.intro) <;> first | decide +kernel | rfl⟩,
   ⟨{ live with dev.tx.state := .idle, dev.tx.fabricLive := false },
    by (repeat' apply And.intro) <;> first | decide +kernel | rfl⟩,
   ⟨live.dev,
    by decide +kernel⟩,
   ⟨live, 1,
    by (repeat' apply And.intro) <;> first | decide +kernel | rfl⟩,
   ⟨live, 0, 0,
    by (repeat' apply And.intro) <;> first | decide +kernel | rfl⟩,
   ⟨{ live with dev.tx.sipLocked := true }, 0, 0,
    by (repeat' apply And.intro) <;> first | decide +kernel | rfl⟩,
   ⟨{ live with dev.tx.sipPtr := 4, dev.tx.sipLocked := false, dev.tx.siCopyBusy := false }, 0, 0,
    by (repeat' apply And.intro) <;> first | decide +kernel | rfl⟩,
   ⟨{ live with dev.tx.sipLocked := false, dev.tx.siCopyBusy := false }, 0, 0,
    by (repeat' apply And.intro) <;> first | decide +kernel | rfl⟩⟩

/-- The hypotheses of CommitAdvancesTheEpoch can be met. -/
theorem test_witness_CommitAdvancesTheEpoch :
    (∃ (d : Device), d.tx.fabricLive = true) :=
  ⟨{ live.dev with tx.fabricLive := true },
    by decide +kernel⟩

/-- The hypotheses of PresentedReads can be met. -/
theorem test_witness_PresentedReads :
    (∃ (s : State) (p : Port) (n : Nat) (khz : Nat) (r : PortRec), OnPort s.dev p r ∧ r.mode ≤ 4) ∧
    (∃ (s : State) (p : Port) (addr : Nat) (n : Nat) (khz : Nat) (r : PortRec), OnPort s.dev p r ∧ r.mode ≤ 4) ∧
    (∃ (s : State) (p : Port) (n : Nat) (khz : Nat) (r : PortRec), OnPort s.dev p r ∧ r.mode ≤ 4) ∧
    (∃ (s : State) (p : Port) (n : Nat) (khz : Nat) (r : PortRec), OnPort s.dev p r ∧ r.mode ≤ 4) ∧
    (∃ (s : State) (p : Port) (khz : Nat) (r : PortRec), OnPort s.dev p r ∧ r.mode ≤ 4) ∧
    (∃ (s : State) (p : Port) (khz : Nat) (r : PortRec), OnPort s.dev p r ∧ r.mode ≤ 4) ∧
    (∃ (s : State) (p : Port) (khz : Nat) (r : PortRec), OnPort s.dev p r ∧ r.mode ≤ 4) ∧
    (∃ (p : Port) (op : Nat) (khz : Nat) (addr : Nat) (r : PortRec) (d : Device), 100 * khz ≤ 105 * 1000 * r.clockMHz) ∧
    (∃ (p : Port) (op : Nat) (khz : Nat) (addr : Nat) (r : PortRec) (d : Device), 105 * 1000 * r.clockMHz < 100 * khz) ∧
    (∃ (s : State) (p : Port) (four : Bool) (addr : Nat) (n : Nat) (khz : Nat) (late : Nat) (r : PortRec), OnPort s.dev p r ∧ r.mode ≤ 2 ∧ r.clockMHz ≤ 6) ∧
    (∃ (s : State) (p : Port) (four : Bool) (addr : Nat) (n : Nat) (khz : Nat) (late : Nat) (r : PortRec), OnPort s.dev p r ∧ (2 < r.mode ∨ 6 < r.clockMHz)) ∧
    (∃ (s : State) (p : Port) (four : Bool) (addr : Nat) (n : Nat) (khz : Nat) (late : Nat) (r : PortRec), OnPort s.dev p r) ∧
    (∃ (s : State) (p : Port) (four : Bool) (addr : Nat) (n : Nat) (khz : Nat) (late : Nat) (r : PortRec), OnPort s.dev p r) ∧
    (∃ (s : State) (p : Port) (four : Bool) (addr : Nat) (n : Nat) (khz : Nat) (late : Nat) (r : PortRec), OnPort s.dev p r) ∧
    (∃ (p : Port) (addr : Nat) (n : Nat) (d : Device) (e : Device), surfaceStore (curLeaf d) p addr n d = e) ∧
    (∃ (d : Device) (L : Leaf) (p : Nat) (addr : Nat) (r : PortRead), sourceAt d L p addr = .none) ∧
    (∃ (d : Device) (L : Leaf) (p : Nat) (addr : Nat) (r : PortRead) (i : ServeImage), sourceAt d L p addr = .image i ∧ i.imgRec.serveMode = 0 ∧ i.verified = false) ∧
    (∃ (s : State) (p : Port) (addr : Nat) (n : Nat) (khz : Nat) (r : PortRec), OnPort s.dev p r ∧ r.mode = 4) ∧
    (∃ (s : State) (p : Port) (addr : Nat) (n : Nat) (khz : Nat) (r : PortRec), OnPort s.dev p r ∧ r.mode ≠ 4) ∧
    (∃ (s : State) (p : Port) (r : PortRead) (e : Device), portFinishes s.dev p = true ∧ (portAt s.dev p).read = some r ∧ (portAt s.dev p).deferred = none ∧ surfaceStore (leafBy s.dev r.tag) p (r.addr + r.done) (r.len - r.done) s.dev = e ∧ (portAt e p).read = some r) ∧
    (∃ (s : State) (p : Port) (r : PortRead) (e : Device), portFinishes s.dev p = true ∧ (portAt s.dev p).read = some r ∧ (portAt s.dev p).deferred = none ∧ surfaceStore (leafBy s.dev r.tag) p (r.addr + r.done) (r.len - r.done) s.dev = e ∧ (portAt e p).read = some r ∧ r.failed = false ∧ readPoisoned e (leafBy s.dev r.tag) p (r.addr + r.done) (r.len - r.done) = false ∧ r.done + (readyBytes e p r).length = r.len) ∧
    (∃ (s : State) (p : Port), (portAt s.dev p).read = none) :=
  ⟨⟨{ live with dev.tx.leafEven.ports := [(default)] }, 0, 0, 0, default,
    by (repeat' apply And.intro) <;> first | decide +kernel | rfl⟩,
   ⟨{ live with dev.tx.leafEven.ports := [(default)] }, 0, 0, 0, 0, default,
    by (repeat' apply And.intro) <;> first | decide +kernel | rfl⟩,
   ⟨{ live with dev.tx.leafEven.ports := [(default)] }, 0, 0, 0, default,
    by (repeat' apply And.intro) <;> first | decide +kernel | rfl⟩,
   ⟨{ live with dev.tx.leafEven.ports := [(default)] }, 0, 0, 0, default,
    by (repeat' apply And.intro) <;> first | decide +kernel | rfl⟩,
   ⟨{ live with dev.tx.leafEven.ports := [(default)] }, 0, 0, default,
    by (repeat' apply And.intro) <;> first | decide +kernel | rfl⟩,
   ⟨{ live with dev.tx.leafEven.ports := [(default)] }, 0, 0, default,
    by (repeat' apply And.intro) <;> first | decide +kernel | rfl⟩,
   ⟨{ live with dev.tx.leafEven.ports := [(default)] }, 0, 0, default,
    by (repeat' apply And.intro) <;> first | decide +kernel | rfl⟩,
   ⟨0, 0, 0, 0, default, live.dev,
    by decide +kernel⟩,
   ⟨0, 0, 1, 0, default, live.dev,
    by decide +kernel⟩,
   ⟨{ live with dev.tx.leafEven.ports := [(default)] }, 0, false, 0, 0, 0, 0, default,
    by (repeat' apply And.intro) <;> first | decide +kernel | rfl⟩,
   ⟨{ live with dev.tx.leafEven.ports := [({ port0 with mode := 3 })] }, 0, false, 0, 0, 0, 0, { port0 with mode := 3 },
    by (repeat' apply And.intro) <;> first | decide +kernel | rfl⟩,
   ⟨{ live with dev.tx.leafEven.ports := [(default)] }, 0, false, 0, 0, 0, 0, default,
    by (repeat' apply And.intro) <;> first | decide +kernel | rfl⟩,
   ⟨{ live with dev.tx.leafEven.ports := [(default)] }, 0, false, 0, 0, 0, 0, default,
    by (repeat' apply And.intro) <;> first | decide +kernel | rfl⟩,
   ⟨{ live with dev.tx.leafEven.ports := [(default)] }, 0, false, 0, 0, 0, 0, default,
    by (repeat' apply And.intro) <;> first | decide +kernel | rfl⟩,
   ⟨0, 0, 0, live.dev, surfaceStore (curLeaf live.dev) 0 0 0 live.dev,
    by decide +kernel⟩,
   ⟨live.dev, default, 0, 0, default,
    by decide +kernel⟩,
   ⟨{ live.dev with is_.bds := Vector.replicate _ { images := [{ imgRec := image0, base := 0, recIdx := 0, digest := [], ctx := 0, cmp := 0, units := 0, burst := none, retried := false, tags := [], lastRead := 0, closed := false, verified := false }] } }, leaf0, 0, 0, default, { imgRec := image0, base := 0, recIdx := 0, digest := [], ctx := 0, cmp := 0, units := 0, burst := none, retried := false, tags := [], lastRead := 0, closed := false, verified := false },
    by decide +kernel⟩,
   ⟨{ live with dev.tx.leafEven.ports := [({ (default : PortRec) with mode := 4 })] }, 0, 0, 0, 0, { (default : PortRec) with mode := 4 },
    by (repeat' apply And.intro) <;> first | decide +kernel | rfl⟩,
   ⟨{ live with dev.tx.leafEven.ports := [(default)] }, 0, 0, 0, 0, default,
    by (repeat' apply And.intro) <;> first | decide +kernel | rfl⟩,
   ⟨{ reading with dev.gf.ports := Vector.replicate _ { read := some (default), deferred := none } }, 0, default, reading.dev,
    by decide +kernel⟩,
   ⟨{ reading with dev.gf.ports := Vector.replicate _ { read := some (default), deferred := none } }, 0, default, reading.dev,
    by decide +kernel⟩,
   ⟨{ live with dev.gf.ports := Vector.replicate _ { read := none } }, 0,
    by decide +kernel⟩⟩

/-- The hypotheses of PresentedWritesAndPortResets can be met. -/
theorem test_witness_PresentedWritesAndPortResets :
    (∃ (s : State) (p : Port) (addr : Nat) (khz : Nat) (data : List Byte) (r : PortRec), OnPort s.dev p r ∧ r.mode ≤ 4) ∧
    (∃ (s : State) (p : Port) (addr : Nat) (khz : Nat) (data : List Byte) (r : PortRec), OnPort s.dev p r) ∧
    (∃ (s : State) (p : Port) (four : Bool) (addr : Nat) (khz : Nat) (r : PortRec), OnPort s.dev p r ∧ r.mode ≤ 4) ∧
    (∃ (s : State) (p : Port) (four : Bool) (addr : Nat) (khz : Nat) (r : PortRec), OnPort s.dev p r ∧ r.mode ≤ 4) ∧
    (∃ (s : State) (p : Port) (four : Bool) (addr : Nat) (khz : Nat) (r : PortRec), OnPort s.dev p r ∧ r.mode ≤ 4) ∧
    (∃ (p : Port) (op : Nat) (addr : Nat) (data : List Byte) (erase : Option Nat) (d : Device), writeWindow (curLeaf d) p addr data.length erase = none) ∧
    (∃ (p : Port) (op : Nat) (addr : Nat) (data : List Byte) (erase : Option Nat) (w : PresentRec) (d : Device), writeWindow (curLeaf d) p addr data.length erase = some w ∧ (portAt d p).wel = true ∧ (portAt d p).wip = false ∧ (erase.isSome = true ∨ data ≠ [])) ∧
    (∃ (s : State) (p : Port) (khz : Nat) (r : PortRec), OnPort s.dev p r ∧ r.mode ≤ 4) ∧
    (∃ (s : State) (p : Port) (khz : Nat) (r : PortRec), OnPort s.dev p r ∧ r.mode ≤ 4) ∧
    (∃ (s : State) (p : Port) (op : Nat) (khz : Nat) (r : PortRec), OnPort s.dev p r) ∧
    (∃ (s : State) (p : Port) (op : Nat) (khz : Nat) (r : PortRec), OnPort s.dev p r) ∧
    (∃ (s : State) (p : Port) (op : Nat) (khz : Nat) (a : Nat) (r : PortRec) (isErase : Bool), OnPort s.dev p r ∧ writeOpcode op r.mode r = some isErase) ∧
    (∃ (s : State) (p : Port), mainRuns s.dev = true) ∧
    (∃ (s : State) (p : Port) (khz : Nat) (r : PortRec), OnPort s.dev p r ∧ r.mode = 5) :=
  ⟨⟨{ live with dev.tx.leafEven.ports := [(default)] }, 0, 0, 0, [], default,
    by (repeat' apply And.intro) <;> first | decide +kernel | rfl⟩,
   ⟨{ live with dev.tx.leafEven.ports := [(default)] }, 0, 0, 0, [], default,
    by (repeat' apply And.intro) <;> first | decide +kernel | rfl⟩,
   ⟨{ live with dev.tx.leafEven.ports := [(default)] }, 0, false, 0, 0, default,
    by (repeat' apply And.intro) <;> first | decide +kernel | rfl⟩,
   ⟨{ live with dev.tx.leafEven.ports := [(default)] }, 0, false, 0, 0, default,
    by (repeat' apply And.intro) <;> first | decide +kernel | rfl⟩,
   ⟨{ live with dev.tx.leafEven.ports := [(default)] }, 0, false, 0, 0, default,
    by (repeat' apply And.intro) <;> first | decide +kernel | rfl⟩,
   ⟨0, 0, 0, [0], none, live.dev,
    by decide +kernel⟩,
   ⟨0, 0, 0, [0], none, { port := 0, flash := 0, access := 3, presentOffset := 0, flashOffset := 0, length := 4096 }, { live.dev with tx.leafEven.presents := [{ port := 0, flash := 0, access := 3, presentOffset := 0, flashOffset := 0, length := 4096 }], gf.ports := Vector.replicate _ { wel := true, wip := false } },
    by decide +kernel⟩,
   ⟨{ live with dev.tx.leafEven.ports := [(default)] }, 0, 0, default,
    by (repeat' apply And.intro) <;> first | decide +kernel | rfl⟩,
   ⟨{ live with dev.tx.leafEven.ports := [(default)] }, 0, 0, default,
    by (repeat' apply And.intro) <;> first | decide +kernel | rfl⟩,
   ⟨{ live with dev.tx.leafEven.ports := [(default)] }, 0, 0, 0, default,
    by (repeat' apply And.intro) <;> first | decide +kernel | rfl⟩,
   ⟨{ live with dev.tx.leafEven.ports := [(default)] }, 0, 0, 0, default,
    by (repeat' apply And.intro) <;> first | decide +kernel | rfl⟩,
   ⟨{ live with dev.tx.leafEven.ports := [(port0)] }, 0, 0x02, 0, 0, port0, false,
    by (repeat' apply And.intro) <;> first | decide +kernel | rfl⟩,
   ⟨live, 0,
    by decide +kernel⟩,
   ⟨{ live with dev.tx.leafEven.ports := [{ port0 with mode := 5 }] }, 0, 0, { port0 with mode := 5 },
    by (repeat' apply And.intro) <;> first | decide +kernel | rfl⟩⟩

/-- The hypotheses of EspiRequests can be met. -/
theorem test_witness_EspiRequests :
    (∃ (s : State) (p : Port) (addr : Nat) (n : Nat) (khz : Nat) (r : PortRec), OnPort s.dev p r ∧ r.mode = 5 ∧ (portAt s.dev p).deferred = none) ∧
    (∃ (s : State) (p : Port) (addr : Nat) (khz : Nat) (data : List Byte) (r : PortRec), OnPort s.dev p r ∧ r.mode = 5 ∧ (portAt s.dev p).deferred = none) ∧
    (∃ (s : State) (p : Port) (addr : Nat) (khz : Nat) (r : PortRec), OnPort s.dev p r ∧ r.mode = 5 ∧ (portAt s.dev p).deferred = none) ∧
    (∃ (s : State) (p : Port) (addr : Nat) (n : Nat) (khz : Nat) (r : PortRec), OnPort s.dev p r ∧ r.mode = 5 ∧ (portAt s.dev p).deferred.isSome = true) ∧
    (∃ (p : Port) (addr : Nat) (n : Nat) (r : PortRec) (d : Device), (64 < n ∨ 2 ^ r.sizeLog2 < addr + n)) ∧
    (∃ (p : Port) (addr : Nat) (n : Nat) (r : PortRec) (d : Device) (e : Device), n ≤ 64 ∧ addr + n ≤ 2 ^ r.sizeLog2 ∧ surfaceStore (curLeaf d) p addr n d = e ∧ readPoisoned e (curLeaf e) p addr n = true) ∧
    (∃ (s : State) (p : Port) (khz : Nat) (r : PortRec), OnPort s.dev p r ∧ r.mode = 5) ∧
    (∃ (s : State) (p : Port) (op : Nat) (khz : Nat) (r : PortRec), OnPort s.dev p r) ∧
    (∃ (s : State) (p : Port) (op : Nat) (khz : Nat) (r : PortRec), OnPort s.dev p r ∧ r.mode = 5) ∧
    (∃ (s : State) (p : Port) (q : Deferred), portFinishes s.dev p = true ∧ (portAt s.dev p).deferred = some q ∧ q.completion.isSome = true) ∧
    (∃ (s : State) (p : Port) (khz : Nat) (r : PortRec) (q : Deferred) (ok : Bool) (bs : List Byte), OnPort s.dev p r ∧ (portAt s.dev p).deferred = some q ∧ q.completion = some (ok, bs) ∧ (portAt s.dev p).alert = true) ∧
    (∃ (s : State) (p : Port) (khz : Nat) (q : Deferred) (ok : Bool) (bs : List Byte), portFinishes s.dev p = true ∧ portOf (curLeaf s.dev) p = none ∧ (portAt s.dev p).deferred = some q ∧ q.completion = some (ok, bs) ∧ (portAt s.dev p).alert = true) :=
  ⟨⟨{ live with dev.tx.leafEven.ports := [({ (default : PortRec) with mode := 5 })], dev.gf.ports := Vector.replicate _ { deferred := none } }, 0, 0, 0, 0, { (default : PortRec) with mode := 5 },
    by (repeat' apply And.intro) <;> first | decide +kernel | rfl⟩,
   ⟨{ live with dev.tx.leafEven.ports := [({ (default : PortRec) with mode := 5 })], dev.gf.ports := Vector.replicate _ { deferred := none } }, 0, 0, 0, [], { (default : PortRec) with mode := 5 },
    by (repeat' apply And.intro) <;> first | decide +kernel | rfl⟩,
   ⟨{ live with dev.tx.leafEven.ports := [({ (default : PortRec) with mode := 5 })], dev.gf.ports := Vector.replicate _ { deferred := none } }, 0, 0, 0, { (default : PortRec) with mode := 5 },
    by (repeat' apply And.intro) <;> first | decide +kernel | rfl⟩,
   ⟨{ live with dev.gf.ports := Vector.replicate _ { deferred := some default }, dev.tx.leafEven.ports := [({ port0 with mode := 5 })] }, 0, 0, 0, 0, { port0 with mode := 5 },
    by (repeat' apply And.intro) <;> first | decide +kernel | rfl⟩,
   ⟨0, 0, 65, port0, live.dev,
    by decide +kernel⟩,
   ⟨0, 0, 8, port0, poisonedStore, surfaceStore (curLeaf poisonedStore) 0 0 8 poisonedStore,
    by decide +kernel⟩,
   ⟨{ live with dev.tx.leafEven.ports := [({ (default : PortRec) with mode := 5 })] }, 0, 0, { (default : PortRec) with mode := 5 },
    by (repeat' apply And.intro) <;> first | decide +kernel | rfl⟩,
   ⟨{ live with dev.tx.leafEven.ports := [({ port0 with mode := 5 })] }, 0, 0, 0, { port0 with mode := 5 },
    by (repeat' apply And.intro) <;> first | decide +kernel | rfl⟩,
   ⟨{ live with dev.gf.ports := Vector.replicate _ { deferred := some { kind := 0, addr := 0, len := 1, completion := some (true, [0]) } }, dev.tx.leafEven.ports := [({ (default : PortRec) with mode := 5 })] }, 0, 0, 0, { (default : PortRec) with mode := 5 },
    by (repeat' apply And.intro) <;> first | decide +kernel | rfl⟩,
   ⟨{ live with dev.gf.ports := Vector.replicate _ { alert := true, deferred := some { kind := 0, addr := 0, len := 1, completion := some (true, [0]) } } }, 0, { kind := 0, addr := 0, len := 1, completion := some (true, [0]) },
    by decide +kernel⟩,
   ⟨{ live with dev.tx.leafEven.ports := [(default)], dev.gf.ports := Vector.replicate _ { deferred := some ({ (default : Deferred) with completion := some ((false), ([])) }), alert := true } }, 0, 0, default, { (default : Deferred) with completion := some ((false), ([])) }, false, [],
    by (repeat' apply And.intro) <;> first | decide +kernel | rfl⟩,
   ⟨{ live with dev.tx.leafEven.ports := [], dev.gf.ports := Vector.replicate _ { deferred := some ({ (default : Deferred) with completion := some ((false), ([])) }), alert := true } }, 0, 0, { (default : Deferred) with completion := some ((false), ([])) }, false, [],
    by decide +kernel⟩⟩

/-- The hypotheses of TurnstileDecisions can be met. -/
theorem test_witness_TurnstileDecisions :
    (∃ (env : TsEnv) (t : Turnstile) (c : FlashCmd), flashOf env.leaf env.f = none) ∧
    (∃ (env : TsEnv) (t : Turnstile) (c : FlashCmd) (r : FlashRec), flashOf env.leaf env.f = some r ∧ (env.retired = true ∨ r.role = 3)) ∧
    (∃ (env : TsEnv) (t : Turnstile) (c : FlashCmd) (r : FlashRec), flashOf env.leaf env.f = some r ∧ env.retired = false ∧ r.role ≠ 3 ∧ env.quarantined = true) ∧
    (∃ (env : TsEnv) (t : Turnstile) (c : FlashCmd) (r : FlashRec), flashOf env.leaf env.f = some r ∧ env.retired = false ∧ r.role ≠ 3 ∧ env.quarantined = false ∧ kindOf (protoOf env.leaf r) c.op = .reserved) ∧
    (∃ (env : TsEnv) (t : Turnstile) (c : FlashCmd) (r : FlashRec), flashOf env.leaf env.f = some r ∧ env.retired = false ∧ r.role ≠ 3 ∧ env.quarantined = false ∧ kindOf (protoOf env.leaf r) c.op ≠ .reserved ∧ serveLocked t.locks (kindOf (protoOf env.leaf r) c.op) c.op (rangeOf (kindOf (protoOf env.leaf r) c.op) r c.addr c.len) = true) ∧
    (∃ (env : TsEnv) (t : Turnstile) (c : FlashCmd) (r : FlashRec) (ct : ClassTableRec) (st : StateTableRec), flashOf env.leaf env.f = some r ∧ env.retired = false ∧ r.role ≠ 3 ∧ env.quarantined = false ∧ kindOf (protoOf env.leaf r) c.op ≠ .reserved ∧ serveLocked t.locks (kindOf (protoOf env.leaf r) c.op) c.op (rangeOf (kindOf (protoOf env.leaf r) c.op) r c.addr c.len) = false ∧ classTableOf env.leaf r.classTable = some ct ∧ stateTableOf env.leaf r.stateTable = some st) :=
  ⟨⟨{ tsEnv0 with leaf := default }, default, flashCmd0,
    by decide +kernel⟩,
   ⟨{ tsEnv0 with retired := true }, default, flashCmd0, flash0,
    by decide +kernel⟩,
   ⟨{ tsEnv0 with quarantined := true }, default, flashCmd0, flash0,
    by decide +kernel⟩,
   ⟨tsEnv0, default, { flashCmd0 with op := 0x66 }, flash0,
    by decide +kernel⟩,
   ⟨tsEnv0, { (default : Turnstile) with locks := [{ bd := 0, base := 0, len := 4096 }] }, flashCmd0, flash0,
    by decide +kernel⟩,
   ⟨tsEnv0, default, flashCmd0, flash0, { tableId := 0, protocol := 1, classes := [] }, { tableId := 0, stateCount := 1, classCount := 1, entries := [] },
    by decide +kernel⟩⟩

/-- The hypotheses of TurnstileSteps can be met. -/
theorem test_witness_TurnstileSteps :
    (∃ (s : State) (f : Dev) (c : FlashCmd) (e : Device), mainRuns s.dev = true ∧ decideBlocked s.dev f = false ∧ (if s.dev.tx.fenceArmed then s.dev else unfence f (fenceHeld s.dev f) s.dev) = e ∧ nextCmd (tsAt e f) = .waiting c) ∧
    (∃ (s : State) (f : Dev) (h : HeldCmd) (e : Device), mainRuns s.dev = true ∧ decideBlocked s.dev f = false ∧ (if s.dev.tx.fenceArmed then s.dev else unfence f (fenceHeld s.dev f) s.dev) = e ∧ nextCmd (tsAt e f) = .held h) ∧
    (∃ (s : State) (f : Dev), mainRuns s.dev = true ∧ (decideBlocked s.dev f = true ∨ (nextCmd (tsAt s.dev f) = .none ∧ s.dev.tx.fenceArmed = true))) ∧
    (∃ (env : TsEnv) (t : Turnstile) (c : FlashCmd) (next : Nat) (cost : Nat) (x : List (Nat × Nat × List Nat)), nextCmd t = .waiting c ∧ bindCurve env t = (t, x) ∧ decideCmd env t c = .issue next cost) ∧
    (∃ (s : State) (f : Dev) (i : Nat) (ticks : Nat) (h : HeldCmd), mainRuns s.dev = true ∧ (tsAt s.dev f).held[i]? = some h ∧ holdExpired s.dev h = true ∧ holdLimit s.dev ≤ ticks ∧ ticks ≤ holdLimit s.dev + 1) ∧
    (∃ (s : State) (f : Dev) (i : Nat) (ticks : Nat) (h : HeldCmd), (tsAt s.dev f).held[i]? = some h ∧ holdExpired s.dev h = false) ∧
    (∃ (env : TsEnv) (t : Turnstile) (i : Nat) (ticks : Nat) (h : HeldCmd), t.held[i]? = some h) :=
  ⟨⟨tsWaiting, 0, flashCmd0, unfence 0 (fenceHeld tsWaiting.dev 0) tsWaiting.dev,
    by decide +kernel⟩,
   ⟨tsHolding, 0, { cmd := flashCmd0, since := 0, due := true, cls := 0 }, unfence 0 (fenceHeld tsHolding.dev 0) tsHolding.dev,
    by decide +kernel⟩,
   ⟨{ live with dev.gf.ts := Vector.replicate _ { current := some flashCmd0 } }, 0,
    by decide +kernel⟩,
   ⟨tsIssue, { waiting := [flashCmd0], credit := 1 }, flashCmd0, 0, 0, default,
    by decide +kernel⟩,
   ⟨{ live with dev.gf.ts := Vector.replicate _ { held := [{ cmd := flashCmd0, since := 0, due := true, cls := 0 }] }, dev.gf.tsCfg := 1, dev.clock.opTime := 2 }, 0, 0, 33, { cmd := flashCmd0, since := 0, due := true, cls := 0 },
    by decide +kernel⟩,
   ⟨{ live with dev.gf.tsCfg := 10, dev.gf.ts := Vector.replicate _ { held := [{ cmd := flashCmd0, since := 100, due := true, cls := 0 }] } }, 0, 0, 0, { cmd := flashCmd0, since := 100, due := true, cls := 0 },
    by decide +kernel⟩,
   ⟨tsEnv0, { held := [{ cmd := flashCmd0, since := 0, due := true, cls := 0 }] }, 0, 0, { cmd := flashCmd0, since := 0, due := true, cls := 0 },
    by decide +kernel⟩⟩

/-- The hypotheses of FlashBusesAndCommands can be met. -/
theorem test_witness_FlashBusesAndCommands :
    (∃ (s : State) (f : Dev) (c : FlashCmd) (data : List Byte), mainRuns s.dev = true ∧ (tsAt s.dev f).current = some c ∧ makesBusy (cmdKind s.dev f c) c = true) ∧
    (∃ (s : State) (f : Dev) (c : FlashCmd) (result : Nat) (data : List Byte), mainRuns s.dev = true ∧ (tsAt s.dev f).current = some c ∧ result ≠ 0) ∧
    (∃ (d : Device) (f : Nat) (c : FlashCmd) (result : Nat) (data : List Byte), ((∀ h e, c.issuer ≠ .hart h e))) ∧
    (∃ (s : State) (f : Dev) (result : Nat) (data : List Byte), (tsAt s.dev f).current = none) ∧
    (∃ (s : State) (f : Dev), mainRuns s.dev = true ∧ (devAt s.dev f).stuck = true ∧ (busAt s.dev (f / 4)).quarantined = false ∧ busIdle s.dev (f / 4) = false) ∧
    (∃ (s : State) (f : Dev) (failed : Bool), busIdle s.dev (f / 4) = true) ∧
    (∃ (s : State) (f : Dev) (b : BusyOp), mainRuns s.dev = true ∧ (devAt s.dev f).busy = some b ∧ busIdle s.dev (f / 4) = false) ∧
    (∃ (s : State) (f : Dev) (b : BusyOp), mainRuns s.dev = true ∧ (devAt s.dev f).busy = some b ∧ (devAt s.dev f).flagStatus = true ∧ busIdle s.dev (f / 4) = false) ∧
    (∃ (s : State) (f : Dev) (b : BusyOp), mainRuns s.dev = true ∧ (devAt s.dev f).busy = some b ∧ (b.rst = false ∨ mayRun s.dev f = false)) ∧
    (∃ (s : State) (f : Dev) (b : BusyOp), mainRuns s.dev = true ∧ (devAt s.dev f).busy = some b ∧ b.rst = true ∧ mayRun s.dev f = true) ∧
    (∃ (s : State) (f : Dev) (c : FlashCmd), mainRuns s.dev = true ∧ (tsAt s.dev f).current = some c ∧ cmdKind s.dev f c = .read ∧ (busOf (cmdLeaf s.dev c) (f / 4)).map (·.mode) = some 4 ∧ (devAt s.dev f).dqsRetried = false) ∧
    (∃ (s : State) (f : Dev) (c : FlashCmd), mainRuns s.dev = true ∧ (tsAt s.dev f).current = some c ∧ cmdKind s.dev f c = .read ∧ (busOf (cmdLeaf s.dev c) (f / 4)).map (·.mode) = some 4 ∧ (devAt s.dev f).dqsRetried = true) ∧
    (∃ (s : State) (f : Dev) (c : FlashCmd) (data : List Byte), mainRuns s.dev = true ∧ (tsAt s.dev f).current = some c ∧ makesBusy (cmdKind s.dev f c) c = false ∧ c.aid ≠ 0x12) ∧
    (∃ (s : State) (f : Dev), mainRuns s.dev = true ∧ (devAt s.dev f).pulsing = true) ∧
    (∃ (s : State) (f : Dev) (a : Discovery), mainRuns s.dev = true) ∧
    (∃ (s : State) (m : Bus) (lines : Nat) (b : BusRec), mainRuns s.dev = true ∧ s.dev.tx.fabricLive = true ∧ busOf (curLeaf s.dev) m = some b) ∧
    (∃ (s : State) (h : Hart) (m : Bus), MayWrite s.dev h 6 ∧ (busAt s.dev m).quarantined = true) ∧
    (∃ (s : State) (h : Hart) (m : Bus), MayWrite s.dev h 6 ∧ (busAt s.dev m).quarantined = false) ∧
    (∃ (s : State) (m : Bus) (lines : Nat), mainRuns s.dev = true ∧ (busAt s.dev m).requalifying = true) ∧
    (∃ (s : State) (m : Bus) (lines : Nat), mainRuns s.dev = true ∧ (busAt s.dev m).requalifying = true) ∧
    (∃ (s : State) (h : Hart) (m : Bus) (mask : Nat), MayWrite s.dev h 6 ∧ (busAt s.dev m).quarantined = true) ∧
    (∃ (s : State) (h : Hart) (m : Bus), MayWrite s.dev h 6) ∧
    (∃ (s : State) (h : Hart) (m : Bus), MayWrite s.dev h 6 ∧ (busAt s.dev m).quarantined = false ∧ rstAllowed (curLeaf s.dev) s.dev.tx.retired (4 * m.val) = true ∧ hwRetired s.dev (4 * m.val) = false) :=
  ⟨⟨{ live with dev.gf.ts := Vector.replicate _ { current := some flashCmd0 } }, 0, flashCmd0, [],
    by decide +kernel⟩,
   ⟨{ live with dev.gf.ts := Vector.replicate _ { current := some (default) } }, 0, default, 1, [],
    by decide +kernel⟩,
   ⟨live.dev, 0, { flashCmd0 with issuer := .mirror 0 }, 0, [],
    by intro h e x; cases x⟩,
   ⟨{ live with dev.gf.ts := Vector.replicate _ { current := none } }, 0, 0, [],
    by decide +kernel⟩,
   ⟨{ live with dev.gf.devs := Vector.replicate _ { stuck := true } }, 0,
    by decide +kernel⟩,
   ⟨{ live with dev.gf.ts := Vector.replicate _ { restarting := true } }, 0, false,
    by decide +kernel⟩,
   ⟨{ live with dev.gf.devs := Vector.replicate _ { busy := some ({ cmd := flashCmd0, kind := .program, limit := 0, rst := false }) } }, 0, { cmd := flashCmd0, kind := .program, limit := 0, rst := false },
    by decide +kernel⟩,
   ⟨{ live with dev.gf.ts := Vector.replicate _ { current := some { flashCmd0 with op := 0x0B } }, dev.tx.leafEven.buses := [{ bus0 with mode := 4 }], dev.gf.devs := Vector.replicate _ { busy := some (default), flagStatus := true } }, 0, default,
    by decide +kernel⟩,
   ⟨{ live with dev.gf.ts := Vector.replicate _ { current := some { flashCmd0 with op := 0x0B } }, dev.tx.leafEven.buses := [{ bus0 with mode := 4 }], dev.gf.devs := Vector.replicate _ { busy := some ({ (default : BusyOp) with rst := false }) } }, 0, { (default : BusyOp) with rst := false },
    by decide +kernel⟩,
   ⟨{ live with dev.gf.devs := Vector.replicate _ { busy := some ({ (default : BusyOp) with rst := true }) } }, 0, { (default : BusyOp) with rst := true },
    by decide +kernel⟩,
   ⟨{ live with dev.tx.leafEven.buses := [{ bus0 with mode := 4 }], dev.gf.ts := Vector.replicate _ { current := some ({ flashCmd0 with op := 0x0B }) }, dev.gf.devs := Vector.replicate _ { dqsRetried := false } }, 0, { flashCmd0 with op := 0x0B },
    by decide +kernel⟩,
   ⟨{ live with dev.tx.leafEven.buses := [{ bus0 with mode := 4 }], dev.gf.ts := Vector.replicate _ { current := some ({ flashCmd0 with op := 0x0B }) }, dev.gf.devs := Vector.replicate _ { dqsRetried := true } }, 0, { flashCmd0 with op := 0x0B },
    by decide +kernel⟩,
   ⟨{ live with dev.gf.ts := Vector.replicate _ { current := some (default) } }, 0, default, [],
    by decide +kernel⟩,
   ⟨{ live with dev.gf.devs := Vector.replicate _ { pulsing := true } }, 0,
    by decide +kernel⟩,
   ⟨live, 0, default,
    by decide +kernel⟩,
   ⟨{ live with dev.tx.fabricLive := true }, 0, 0, bus0,
    by decide +kernel⟩,
   ⟨{ live with dev.gf.buses := Vector.replicate _ { quarantined := true } }, 0, 0,
    by (repeat' apply And.intro) <;> first | decide +kernel | rfl⟩,
   ⟨{ live with dev.gf.buses := Vector.replicate _ { quarantined := false } }, 0, 0,
    by (repeat' apply And.intro) <;> first | decide +kernel | rfl⟩,
   ⟨{ live with dev.gf.buses := Vector.replicate _ { requalifying := true } }, 0, 0,
    by decide +kernel⟩,
   ⟨{ live with dev.gf.buses := Vector.replicate _ { requalifying := true } }, 0, 0,
    by decide +kernel⟩,
   ⟨{ live with dev.gf.buses := Vector.replicate _ { quarantined := true } }, 0, 0, 0,
    by (repeat' apply And.intro) <;> first | decide +kernel | rfl⟩,
   ⟨live, 0, 0,
    by (repeat' apply And.intro) <;> first | decide +kernel | rfl⟩,
   ⟨{ live with dev.gf.buses := Vector.replicate _ { quarantined := false } }, 0, 0,
    by (repeat' apply And.intro) <;> first | decide +kernel | rfl⟩⟩

/-- The hypotheses of ServingCommands can be met. -/
theorem test_witness_ServingCommands :
    (∃ (s : State) (bd : Bd) (v : Word), MayWrite s.dev 2 7 ∧ bit v 0 = true ∧ bit v 3 = false ∧ slotServable s.dev bd (field v 1 2) = true) ∧
    (∃ (s : State) (bd : Bd) (v : Word), MayWrite s.dev 2 7 ∧ bit v 0 = false ∧ bit v 3 = true ∧ slotServable s.dev bd (field v 1 2) = true) ∧
    (∃ (s : State) (bd : Bd) (v : Word), MayWrite s.dev 2 7 ∧ (bit v 0 = bit v 3 ∨ slotServable s.dev bd (field v 1 2) = false)) ∧
    (∃ (s : State) (h : Hart) (bd : Bd) (v : Word), MayWrite s.dev h 7 ∧ h ≠ 2) ∧
    (∃ (s : State) (bd : Bd), mainRuns s.dev = true ∧ (domain s.dev bd).state = .waiting ∧ ((∀ b, b < 16 → startsBefore s.dev b bd = true → waitsResources s.dev b = false))) ∧
    (∃ (s : State) (bd : Bd) (b : Bd), waitsResources s.dev b = true ∧ startsBefore s.dev b bd = true) ∧
    (∃ (s : State) (bd : Bd) (image : Nat) (result : Nat) (data : List Byte) (f : Nat), mainRuns s.dev = true ∧ burstDevice s.dev bd image = some f) ∧
    (∃ (s : State) (bd : Bd) (image : Nat) (im : ServeImage), mainRuns s.dev = true ∧ bdServing (domain s.dev bd) = true ∧ (domain s.dev bd).images[image]? = some im ∧ im.imgRec.serveMode = 2 ∧ im.closed = false ∧ unitsOf im.imgRec.length ≤ im.units ∧ im.lastRead * 1000 + streamIdleMs s.dev * 1024 ≤ s.dev.clock.opTime * 1000) ∧
    (∃ (s : State) (bd : Bd) (image : Nat) (im : ServeImage), (domain s.dev bd).images[image]? = some im ∧ (im.imgRec.serveMode ≠ 2 ∨ im.closed = true ∨ im.units < unitsOf im.imgRec.length ∨ s.dev.clock.opTime * 1000 < im.lastRead * 1000 + streamIdleMs s.dev * 1024)) ∧
    (∃ (s : State) (bd : Bd) (image : Nat), (mainRuns s.dev = false ∨ (domain s.dev bd).images[image]? = none ∨ bdServing (domain s.dev bd) = false)) ∧
    (∃ (s : State) (bd : Bd), MayWrite s.dev 2 7) :=
  ⟨⟨{ live with dev.is_.bds := Vector.replicate _ { state := .held } }, 0, 0x1,
    by (repeat' apply And.intro) <;> first | decide +kernel | rfl⟩,
   ⟨{ live with dev.is_.bds := Vector.replicate _ { state := .held } }, 0, 0x8,
    by (repeat' apply And.intro) <;> first | decide +kernel | rfl⟩,
   ⟨live, 0, 0,
    by (repeat' apply And.intro) <;> first | decide +kernel | rfl⟩,
   ⟨live, 0, 0, 0,
    by (repeat' apply And.intro) <;> first | decide +kernel | rfl⟩,
   ⟨{ live with dev.is_.bds := Vector.replicate _ { state := .waiting } }, 0,
    by decide +kernel⟩,
   ⟨{ live with dev.is_.bds := Vector.replicate _ { state := .waiting } }, 1, 0,
    by decide +kernel⟩,
   ⟨{ live with dev.gf.ts := Vector.replicate _ { current := some { flashCmd0 with issuer := .serving 0 0 } } }, 0, 0, 0, [], 0,
    by decide +kernel⟩,
   ⟨{ live with dev.is_.bds := Vector.replicate _ { state := .running, images := [{ imgRec := { image0 with serveMode := 2 }, base := 0, recIdx := 0, digest := [], ctx := 0, cmp := 0, units := 1, burst := none, retried := false, tags := [], lastRead := 0, closed := false, verified := false }] }, dev.clock.opTime := 1000000 }, 0, 0, { imgRec := { image0 with serveMode := 2 }, base := 0, recIdx := 0, digest := [], ctx := 0, cmp := 0, units := 1, burst := none, retried := false, tags := [], lastRead := 0, closed := false, verified := false },
    by decide +kernel⟩,
   ⟨{ live with dev.is_.bds := Vector.replicate _ { images := [presentImage] } }, 0, 0, presentImage,
    by decide +kernel⟩,
   ⟨{ live with dev.power.state := .standby }, 0, 0,
    by decide +kernel⟩,
   ⟨live, 0,
    by (repeat' apply And.intro) <;> first | decide +kernel | rfl⟩⟩

/-- The hypotheses of GateDelays can be met. -/
theorem test_witness_GateDelays :
    (∃ (s : State) (bd : Bd), mainRuns s.dev = true) ∧
    (∃ (d : Device) (bd : Bd), ((domain d bd).releasing = none ∨ d.tx.fenceArmed = true ∨ tamperHolds d bd = true)) ∧
    (∃ (d : Device) (bd : Bd) (k : Nat) (g : Nat), (domain d bd).releasing = some k ∧ d.tx.fenceArmed = false ∧ tamperHolds d bd = false ∧ (domain d bd).gateOrder[k]? = some g ∧ g ∈ orderedGates d bd) ∧
    (∃ (s : State) (bd : Bd) (k : Nat), mainRuns s.dev = true ∧ (domain s.dev bd).holding = some k) ∧
    (∃ (s : State) (bd : Bd), (domain s.dev bd).holding = none) ∧
    (∃ (d : Device) (bd : Bd), ((∀ g ∈ orderedGates d bd, hasBit d.is_.gates g = false))) :=
  ⟨⟨live, 0,
    by decide +kernel⟩,
   ⟨{ live.dev with is_.bds := Vector.replicate _ { releasing := none } }, 0,
    by decide +kernel⟩,
   ⟨{ live.dev with is_.bds := Vector.replicate _ { releasing := some 0, gateOrder := [0] }, tx.fenceArmed := false }, 0, 0, 0,
    by decide +kernel⟩,
   ⟨{ live with dev.is_.bds := Vector.replicate _ { holding := some (0) } }, 0, 0,
    by decide +kernel⟩,
   ⟨{ live with dev.is_.bds := Vector.replicate _ { holding := none } }, 0,
    by decide +kernel⟩,
   ⟨live.dev, 0,
    by decide +kernel⟩⟩

/-- The hypotheses of ScrubAndFlashQueue can be met. -/
theorem test_witness_ScrubAndFlashQueue :
    (∃ (s : State) (region : Nat) (word : Nat) (syndrome : Nat) (r : ScrubRegion), mainRuns s.dev = true ∧ scrubRegion region = some r ∧ scrubFinds s.dev r (word % (scrubPlace r).2.2) syndrome = 0 ∧ (¬ (r = .store ∧ word % (scrubPlace r).2.2 = 0xBFFFFF))) ∧
    (∃ (s : State) (word : Nat) (syndrome : Nat), mainRuns s.dev = true ∧ word % 0xC00000 = 0xBFFFFF ∧ scrubFinds s.dev .store 0xBFFFFF syndrome = 0) ∧
    (∃ (s : State) (h : Hart) (v : Word), MayWrite s.dev h 7 ∧ bit v 0 = false) ∧
    (∃ (s : State) (h : Hart) (v : Word), MayWrite s.dev h 7 ∧ bit v 0 = true ∧ submitFaults s.dev h (fqDesc (fqOf s.dev h)) = true) ∧
    (∃ (s : State) (h : Hart) (v : Word), MayWrite s.dev h 7 ∧ bit v 0 = true ∧ submitFaults s.dev h (fqDesc (fqOf s.dev h)) = false ∧ (fqDesc (fqOf s.dev h)).snoop = false ∧ (fqDesc (fqOf s.dev h)).groupNext = true) ∧
    (∃ (s : State) (h : Hart) (v : Word), MayWrite s.dev h 7 ∧ bit v 0 = true ∧ submitFaults s.dev h (fqDesc (fqOf s.dev h)) = false ∧ (fqDesc (fqOf s.dev h)).snoop = false ∧ (fqDesc (fqOf s.dev h)).groupNext = false) ∧
    (∃ (s : State) (h : Hart), MayRead s.dev h ∧ (fqOf s.dev h).results = []) ∧
    (∃ (s : State) (h : Hart) (w : Word) (tl : List Word), MayRead s.dev h ∧ (fqOf s.dev h).results = w :: tl) :=
  ⟨⟨live, 0, 0, 0, ScrubRegion.store,
    by decide +kernel⟩,
   ⟨live, 0xBFFFFF, 0,
    by decide +kernel⟩,
   ⟨live, 0, 0,
    by (repeat' apply And.intro) <;> first | decide +kernel | rfl⟩,
   ⟨{ live with dev.is_.fq := Vector.replicate _ { openGroup := [default, default, default], desc := Vector.replicate _ 0x4000 } }, 0, 0x1,
    by (repeat' apply And.intro) <;> first | decide +kernel | rfl⟩,
   ⟨{ live with dev.is_.fq := Vector.replicate _ { desc := #v[0x4000, 0, 0, 0] } }, 0, 0x1,
    by (repeat' apply And.intro) <;> first | decide +kernel | rfl⟩,
   ⟨live, 0, 0x1,
    by (repeat' apply And.intro) <;> first | decide +kernel | rfl⟩,
   ⟨{ live with dev.is_.fq := Vector.replicate _ { results := [] } }, 0,
    by (repeat' apply And.intro) <;> first | decide +kernel | rfl⟩,
   ⟨{ live with dev.is_.fq := Vector.replicate _ { results := (0) :: ([]) } }, 0, 0, [],
    by (repeat' apply And.intro) <;> first | decide +kernel | rfl⟩⟩

/-- The hypotheses of DeviceControl can be met. -/
theorem test_witness_DeviceControl :
    (∃ (s : State) (f : Dev) (r : FlashRec), MayWrite s.dev 2 7 ∧ flashOf (curLeaf s.dev) f = some r ∧ (healthAt s.dev f).cond ≠ 0 ∧ (healthAt s.dev f).cond ≠ 7 ∧ (healthAt s.dev f).cond ≠ 9) ∧
    (∃ (s : State) (f : Dev), MayWrite s.dev 2 7 ∧ (healthAt s.dev f).cond = 7) ∧
    (∃ (s : State) (f : Dev) (r : FlashRec), MayWrite s.dev 2 7 ∧ flashOf (curLeaf s.dev) f = some r ∧ r.role ≠ 3 ∧ (healthAt s.dev f).cond = 7 ∧ (busAt s.dev (f / 4)).quarantined = false) ∧
    (∃ (s : State) (f : Dev), MayWrite s.dev 2 7 ∧ (healthAt s.dev f).cond ≠ 7) ∧
    (∃ (s : State) (f : Dev) (src : Nat) (prob : Bool), MayWrite s.dev 2 7 ∧ resyncSource s.dev f = some (src, prob)) ∧
    (∃ (s : State) (f : Dev), MayWrite s.dev 2 7 ∧ resyncSource s.dev f = none) ∧
    (∃ (s : State) (f : Dev) (r : Resync) (a : Nat) (b : Nat) (k : Nat) (x : Option (List Byte)) (y : Option (List Byte)), mainRuns s.dev = true ∧ resyncOf s.dev f = some r ∧ unitCount (curLeaf s.dev) f ≤ r.copied ∧ r.closing = some (a, b, k) ∧ 2 * unitCount (curLeaf s.dev) f ≤ k ∧ closingDigest s.dev a = some x ∧ closingDigest s.dev b = some y) ∧
    (∃ (s : State) (f : Dev) (r : Resync), resyncOf s.dev f = some r ∧ r.copied < unitCount (curLeaf s.dev) f) ∧
    (∃ (s : State) (f : Dev), resyncOf s.dev f = none) ∧
    (∃ (s : State) (f : Dev), MayWrite s.dev 2 7) ∧
    (∃ (d : Device) (f : Dev), inProbation d f = false) ∧
    (∃ (s : State) (h : Hart) (f : Dev), MayWrite s.dev h 7 ∧ h ≠ 2) :=
  ⟨⟨{ live with dev.is_.health := Vector.replicate _ { cond := 1 } }, 0, flash0,
    by (repeat' apply And.intro) <;> first | decide +kernel | rfl⟩,
   ⟨{ live with dev.is_.health := Vector.replicate _ { cond := 7 } }, 0,
    by (repeat' apply And.intro) <;> first | decide +kernel | rfl⟩,
   ⟨{ live with dev.is_.health := Vector.replicate _ { cond := 7 } }, 0, flash0,
    by (repeat' apply And.intro) <;> first | decide +kernel | rfl⟩,
   ⟨live, 0,
    by (repeat' apply And.intro) <;> first | decide +kernel | rfl⟩,
   ⟨{ live with dev.tx.leafEven.flashes := [{ flash0 with role := 2, spareFor := 1 }], dev.is_.health := (Vector.replicate 64 { cond := 2 }).set 1 { cond := 1 } }, 0, 1, false,
    by (repeat' apply And.intro) <;> first | decide +kernel | rfl⟩,
   ⟨live, 0,
    by (repeat' apply And.intro) <;> first | decide +kernel | rfl⟩,
   ⟨{ live with dev.is_.resyncs := [{ target := 0, source := 1, copied := 4096, probation := false, left := none, closing := some (0, 1, 8192) }] }, 0, { target := 0, source := 1, copied := 4096, probation := false, left := none, closing := some (0, 1, 8192) }, 0, 1, 8192, default, default,
    by decide +kernel⟩,
   ⟨{ live with dev.is_.resyncs := [{ target := 0, source := 1, copied := 0, probation := false, left := none }] }, 0, { target := 0, source := 1, copied := 0, probation := false, left := none },
    by decide +kernel⟩,
   ⟨live, 0,
    by decide +kernel⟩,
   ⟨live, 0,
    by (repeat' apply And.intro) <;> first | decide +kernel | rfl⟩,
   ⟨live.dev, 0,
    by decide +kernel⟩,
   ⟨live, 0, 0,
    by (repeat' apply And.intro) <;> first | decide +kernel | rfl⟩⟩

/-- The hypotheses of PlatformBoot can be met. -/
theorem test_witness_PlatformBoot :
    (∃ (s : State) (bd : Bd) (requester : Nat) (fault : Nat) (r : BdRec), mainRuns s.dev = true ∧ attached s.dev = true ∧ aidListed requester = true ∧ bdOf (curLeaf s.dev) bd = some r ∧ (domain s.dev bd).state = .held ∧ (domain s.dev bd).attempt = none) ∧
    (∃ (s : State) (bd : Bd) (requester : Nat) (fault : Nat), ((domain s.dev bd).state ≠ .held ∨ aidListed requester = false)) ∧
    (∃ (d : Device) (bd : Nat) (r : AreaRead) (code : Nat) (detail : Nat), attemptCheck d bd r = some (code, detail)) ∧
    (∃ (d : Device) (bd : Nat) (r : AreaRead), r.epoch ≠ d.tx.epoch) ∧
    (∃ (d : Device) (bd : Nat) (r : AreaRead), r.epoch = d.tx.epoch) ∧
    (∃ (d : Device) (bd : Nat) (r : AreaRead), r.size < r.offset + bufLe r.man 8 4) ∧
    (∃ (d : Device) (bd : Nat) (r : AreaRead), r.offset + bufLe r.man 8 4 ≤ r.size ∧ r.manRead = false) ∧
    (∃ (s : State) (sender : Nat) (bundle : List Byte) (fault : Nat), mainRuns s.dev = true ∧ attached s.dev = true ∧ (domain s.dev (bufLe bundle 6 1)).state = .stopped ∧ bundleAllowed s.dev sender (bufLe bundle 6 1) = true ∧ installing s.dev (bufLe bundle 6 1) = false) ∧
    (∃ (d : Device) (sender : Nat) (fault : Nat) (code : Nat) (bundle : List Byte), bundlePlan d (bufLe bundle 6 1) (bufLe bundle 7 1) false fault bundle = .error code ∧ code ≠ 0) ∧
    (∃ (d : Device) (e : Device) (j : Nat) (code : Nat) (i : Install), installOf d j = some i ∧ i.code = some code ∧ i.via = .none ∧ i.update = false ∧ { d with is_ := { d.is_ with installs := d.is_.installs.filter (fun x => x.job != j) } } = e) ∧
    (∃ (s : State) (sender : Nat) (bundle : List Byte) (fault : Nat), bundleAllowed s.dev sender (bufLe bundle 6 1) = false) :=
  ⟨⟨{ live with dev.is_.bds := Vector.replicate _ { state := .held, attempt := none } }, 0, 0, 0, bd0,
    by decide +kernel⟩,
   ⟨live, 0, 0, 0,
    by decide +kernel⟩,
   ⟨live.dev, 0, { (default : AreaRead) with offset := 1 }, 0x02, 0,
    by decide +kernel⟩,
   ⟨live.dev, 0, { (default : AreaRead) with epoch := 1 },
    by decide +kernel⟩,
   ⟨live.dev, 0, default,
    by decide +kernel⟩,
   ⟨live.dev, 0, { (default : AreaRead) with offset := 1 },
    by decide +kernel⟩,
   ⟨live.dev, 0, default,
    by decide +kernel⟩,
   ⟨{ live with dev.is_.bds := Vector.replicate _ { state := .stopped }, dev.tx.leafEven.rights := [{ rights0 with aid := 0x30 }] }, 0x30, [], 0,
    by decide +kernel⟩,
   ⟨live.dev, 0, 0, 0x40, [],
    by exact ⟨rfl, by decide⟩⟩,
   ⟨{ live.dev with is_.installs := [{ (default : Install) with code := some 0, via := .none, update := false }] }, live.dev, 0, 0, { (default : Install) with code := some 0, via := .none, update := false },
    by decide +kernel⟩,
   ⟨{ live with dev.tx.leafEven.rights := [] }, 0, [], 0,
    by decide +kernel⟩⟩

/-- The hypotheses of DigestContexts can be met. -/
theorem test_witness_DigestContexts :
    (∃ (s : State) (h : Hart) (n : Nat), MayWrite s.dev h 4 ∧ (dgBank s.dev h).job = none ∧ openRanges (dgBank s.dev h) (openSettings (dgBank s.dev h) h 0) = true ∧ keysAdmit s.dev.kv (openSettings (dgBank s.dev h) h 0) = true ∧ freeCtx s.dev.dg = some n) ∧
    (∃ (s : State) (h : Hart), MayWrite s.dev h 4 ∧ (dgBank s.dev h).job = none ∧ openRanges (dgBank s.dev h) (openSettings (dgBank s.dev h) h 0) = false) ∧
    (∃ (s : State) (h : Hart), MayWrite s.dev h 4 ∧ (dgBank s.dev h).job ≠ none) ∧
    (∃ (s : State) (h : Hart) (c : Ctx) (x : Context) (bs : List Byte), OwnContext s.dev h c x ∧ x.state = .prefix_ ∧ engineReadFor h s.dev (dgBank s.dev h).args[0].toNat (dgBank s.dev h).args[1].toNat = some bs ∧ s.dev.flipped = []) ∧
    (∃ (s : State) (h : Hart) (c : Ctx) (x : Context) (bs : List Byte), OwnContext s.dev h c x ∧ x.source = 0 ∧ x.state = .absorbing ∧ engineReadFor h s.dev (dgBank s.dev h).args[0].toNat (dgBank s.dev h).args[1].toNat = some bs ∧ s.dev.flipped = []) ∧
    (∃ (s : State) (h : Hart) (c : Ctx) (x : Context), OwnContext s.dev h c x ∧ x.source = 0 ∧ x.state = .closed) ∧
    (∃ (s : State) (h : Hart) (c : Ctx), MayWrite s.dev h 4 ∧ (dgBank s.dev h).job = none ∧ ctxOf s.dev.dg c = none) ∧
    (∃ (s : State) (h : Hart) (j : DgJob), mainRuns s.dev = true ∧ (dgBank s.dev h).job = some j) ∧
    (∃ (d : Device) (h : Hart) (j : DgJob) (x : Context), ctxOf d.dg j.ctx = some x ∧ j.isPrefix = true ∧ x.state = .prefix_) ∧
    (∃ (d : Device) (h : Hart) (j : DgJob) (x : Context), ctxOf d.dg j.ctx = some x ∧ j.isPrefix = false ∧ x.state = .absorbing) ∧
    (∃ (s : State) (h : Hart) (c : Ctx) (x : Context), OwnContext s.dev h c x ∧ x.state = .prefix_ ∧ x.head.length % 136 = 0 ∧ x.keyed = false ∧ x.source ≠ 2 ∧ x.keyMode = false ∧ 0 < x.declLen) ∧
    (∃ (s : State) (h : Hart) (c : Ctx) (x : Context), OwnContext s.dev h c x ∧ x.state = .prefix_ ∧ x.head.length % 136 ≠ 0) :=
  ⟨⟨{ live with dev.dg.banks := Vector.replicate _ { args := #v[0x00400101, 0, 0, 0, 0] } }, 0, 0,
    by (repeat' apply And.intro) <;> first | decide +kernel | rfl⟩,
   ⟨{ live with dev.dg.banks := Vector.replicate _ { job := none } }, 0,
    by (repeat' apply And.intro) <;> first | decide +kernel | rfl⟩,
   ⟨{ live with dev.dg.banks := Vector.replicate _ { job := some { ctx := 0, bytes := [], isPrefix := true } } }, 0,
    by (repeat' apply And.intro) <;> first | decide +kernel | rfl⟩,
   ⟨{ live with dev.dg.banks := Vector.replicate _ { args := #v[0x20000000, 0, 0, 0, 0] }, dev.dg.ctxs := [({ (default : Context) with owner := 0x10, no := 0, state := .prefix_ })], dev.flipped := [] }, 0, 0, { (default : Context) with owner := 0x10, no := 0, state := .prefix_ }, [],
    by (repeat' apply And.intro) <;> first | decide +kernel | rfl⟩,
   ⟨{ live with dev.dg.banks := Vector.replicate _ { args := #v[0x20000000, 0, 0, 0, 0] }, dev.dg.ctxs := [({ (default : Context) with owner := 0x10, no := 0, source := 0, state := .absorbing })], dev.flipped := [] }, 0, 0, { (default : Context) with owner := 0x10, no := 0, source := 0, state := .absorbing }, [],
    by (repeat' apply And.intro) <;> first | decide +kernel | rfl⟩,
   ⟨{ live with dev.dg.ctxs := [({ (default : Context) with owner := 0x10, no := 0, source := 0, state := .closed })] }, 0, 0, { (default : Context) with owner := 0x10, no := 0, source := 0, state := .closed },
    by (repeat' apply And.intro) <;> first | decide +kernel | rfl⟩,
   ⟨{ live with dev.dg.banks := Vector.replicate _ { job := none } }, 0, 0,
    by (repeat' apply And.intro) <;> first | decide +kernel | rfl⟩,
   ⟨{ live with dev.dg.banks := Vector.replicate _ { job := some (default) } }, 0, default,
    by decide +kernel⟩,
   ⟨{ live.dev with dg.ctxs := [({ (default : Context) with no := 0, state := .prefix_ })] }, 0, { (default : DgJob) with isPrefix := true }, { (default : Context) with no := 0, state := .prefix_ },
    by decide +kernel⟩,
   ⟨{ live.dev with dg.ctxs := [({ (default : Context) with no := 0, state := .absorbing })] }, 0, { (default : DgJob) with isPrefix := false }, { (default : Context) with no := 0, state := .absorbing },
    by decide +kernel⟩,
   ⟨{ live with dev.dg.ctxs := [({ (default : Context) with declLen := 1, owner := 0x10, no := 0, state := .prefix_, keyed := false, keyMode := false })] }, 0, 0, { (default : Context) with declLen := 1, owner := 0x10, no := 0, state := .prefix_, keyed := false, keyMode := false },
    by (repeat' apply And.intro) <;> first | decide +kernel | rfl⟩,
   ⟨{ live with dev.dg.ctxs := [({ (default : Context) with head := [0], owner := 0x10, no := 0, state := .prefix_ })] }, 0, 0, { (default : Context) with head := [0], owner := 0x10, no := 0, state := .prefix_ },
    by (repeat' apply And.intro) <;> first | decide +kernel | rfl⟩⟩

/-- The hypotheses of DigestAbsorption can be met. -/
theorem test_witness_DigestAbsorption :
    (∃ (epoch : Nat) (bs : List Byte) (c : Context), c.msg.length ≤ c.declLen) ∧
    (∃ (c : Context) (e : List Byte), c.state ≠ .faulted) ∧
    (∃ (c : Context) (e : List Byte), c.state = .faulted) ∧
    (∃ (epoch : Nat) (off : Nat) (data : List Byte) (c : Context) (dg : DigestEngine) (t : Tap), c.tap = some t ∧ c.gap = false ∧ c.state = .absorbing) :=
  ⟨⟨0, [], default,
    by decide +kernel⟩,
   ⟨default, [],
    by decide +kernel⟩,
   ⟨{ (default : Context) with state := .faulted }, [],
    by decide +kernel⟩,
   ⟨0, 0, [], { (default : Context) with tap := some (default), gap := false, state := .absorbing }, default, default,
    by decide +kernel⟩⟩

/-- The hypotheses of DigestTapsAndLanes can be met. -/
theorem test_witness_DigestTapsAndLanes :
    (∃ (s : State) (c : Ctx) (x : Context), OwnContext s.dev 2 c x ∧ x.state = .absorbing ∧ x.tap = none ∧ x.source = 1 ∧ x.cls = 0 ∧ (dgBank s.dev 2).args[1].toNat % 4096 = 0) ∧
    (∃ (s : State) (h : Hart) (c : Ctx), MayWrite s.dev h 4 ∧ (dgBank s.dev h).job = none ∧ h ≠ 2) ∧
    (∃ (s : State) (h : Hart) (c : Ctx) (x : Context), OwnContext s.dev h c x ∧ x.state = .absorbing) ∧
    (∃ (s : State) (h : Hart) (c : Ctx) (x : Context), OwnContext s.dev h c x ∧ x.state ≠ .absorbing) ∧
    (∃ (s : State) (h : Hart) (c : Ctx) (x : Context), OwnContext s.dev h c x) ∧
    (∃ (s : State) (h : Hart) (c : Ctx) (x : Context) (bs : List Byte) (n : Nat), OwnContext s.dev h c x ∧ x.outLen = 64 ∧ x.outDest ≠ 1 ∧ s.dev.dg.cmps.any (fun e => e.ctx == x.no) = false ∧ (dgBank s.dev h).args[0].toNat % 8 = 0 ∧ engineReadFor h s.dev (dgBank s.dev h).args[0].toNat 64 = some bs ∧ s.dev.flipped = [] ∧ freeCmp s.dev.dg = some n) ∧
    (∃ (s : State) (h : Hart) (e : Nat) (x : CmpEntry), MayWrite s.dev h 4 ∧ (dgBank s.dev h).job = none ∧ s.dev.dg.cmps.find? (fun y => y.no == e % 256) = some x ∧ x.owner = 0x10 + h.val) ∧
    (∃ (s : State) (h : Hart) (e : Nat) (x : CmpEntry), MayWrite s.dev h 4 ∧ (dgBank s.dev h).job = none ∧ s.dev.dg.cmps.find? (fun y => y.no == e % 256) = some x ∧ x.owner ≠ 0x10 + h.val) ∧
    (∃ (s : State) (h : Hart) (code : Nat), MayWrite s.dev h 4 ∧ (dgBank s.dev h).job = none) ∧
    (∃ (s : State) (c : Ctx) (x : Context) (t : Tap) (off : Nat) (data : List Byte), mainRuns s.dev = true ∧ ctxOf s.dev.dg c = some x ∧ x.tap = some t) ∧
    (∃ (s : State) (l : Lane) (c : Nat), mainRuns s.dev = true ∧ s.dev.dg.lanes[l].ctx = some c ∧ bit s.dev.ec.inject 31 = false) ∧
    (∃ (s : State) (l : Lane), s.dev.dg.lanes[l].ctx = none) ∧
    (∃ (s : State) (c : Ctx) (x : Context), mainRuns s.dev = true ∧ ctxOf s.dev.dg c = some x ∧ x.state = .final_) ∧
    (∃ (s : State) (c : Ctx), ctxOf s.dev.dg c = none) ∧
    (∃ (s : State) (l : Lane) (c : Ctx), mainRuns s.dev = true) ∧
    (∃ (s : State) (l : Lane), mainRuns s.dev = true ∧ s.dev.dg.lanes[l].offline = true) ∧
    (∃ (s : State), handlingOf s.dev 4 0 = none) ∧
    (∃ (s : State) (e : ErrRec), handlingOf s.dev 4 0 = some e) :=
  ⟨⟨{ live with dev.dg.ctxs := [({ (default : Context) with owner := 0x12, cls := 0, no := 0, state := .absorbing, tap := none, source := 1 })] }, 0, { (default : Context) with owner := 0x12, cls := 0, no := 0, state := .absorbing, tap := none, source := 1 },
    by (repeat' apply And.intro) <;> first | decide +kernel | rfl⟩,
   ⟨{ live with dev.dg.banks := Vector.replicate _ { job := none } }, 0, 0,
    by (repeat' apply And.intro) <;> first | decide +kernel | rfl⟩,
   ⟨{ live with dev.dg.ctxs := [({ (default : Context) with owner := 0x10, no := 0, state := .absorbing })] }, 0, 0, { (default : Context) with owner := 0x10, no := 0, state := .absorbing },
    by (repeat' apply And.intro) <;> first | decide +kernel | rfl⟩,
   ⟨{ live with dev.dg.ctxs := [({ (default : Context) with owner := 0x10, no := 0 })] }, 0, 0, { (default : Context) with owner := 0x10, no := 0 },
    by (repeat' apply And.intro) <;> first | decide +kernel | rfl⟩,
   ⟨{ live with dev.dg.ctxs := [({ (default : Context) with owner := 0x10, no := 0 })] }, 0, 0, { (default : Context) with owner := 0x10, no := 0 },
    by (repeat' apply And.intro) <;> first | decide +kernel | rfl⟩,
   ⟨{ live with dev.dg.banks := Vector.replicate _ { args := #v[0x20000000, 0, 0, 0, 0] }, dev.mem := filled, dev.dg.ctxs := [({ (default : Context) with owner := 0x10, no := 0, outLen := 64 })], dev.flipped := [] }, 0, 0, { (default : Context) with owner := 0x10, no := 0, outLen := 64 }, zeros 64, 0,
    by (repeat' apply And.intro) <;> first | decide +kernel | rfl⟩,
   ⟨{ live with dev.dg.cmps := [{ no := 0, ctx := 0, owner := 0x10, expected := [], result := .pending }], dev.dg.banks := Vector.replicate _ { job := none } }, 0, 0, { no := 0, ctx := 0, owner := 0x10, expected := [], result := .pending },
    by (repeat' apply And.intro) <;> first | decide +kernel | rfl⟩,
   ⟨{ live with dev.dg.cmps := [{ no := 0, ctx := 0, owner := 0x11, expected := [], result := .pending }], dev.dg.banks := Vector.replicate _ { job := none } }, 0, 0, { no := 0, ctx := 0, owner := 0x11, expected := [], result := .pending },
    by (repeat' apply And.intro) <;> first | decide +kernel | rfl⟩,
   ⟨{ live with dev.dg.banks := Vector.replicate _ { job := none } }, 0, 0,
    by (repeat' apply And.intro) <;> first | decide +kernel | rfl⟩,
   ⟨{ live with dev.dg.ctxs := [({ (default : Context) with no := 0, tap := some (default) })] }, 0, { (default : Context) with no := 0, tap := some (default) }, default, 0, [],
    by decide +kernel⟩,
   ⟨{ live with dev.dg.lanes := Vector.replicate _ { ctx := some (0) } }, 0, 0,
    by decide +kernel⟩,
   ⟨{ live with dev.dg.lanes := Vector.replicate _ { ctx := none } }, 0,
    by decide +kernel⟩,
   ⟨{ live with dev.dg.ctxs := [({ (default : Context) with no := 0, state := .final_ })] }, 0, { (default : Context) with no := 0, state := .final_ },
    by decide +kernel⟩,
   ⟨live, 0,
    by decide +kernel⟩,
   ⟨live, 0, 0,
    by decide +kernel⟩,
   ⟨{ live with dev.dg.lanes := Vector.replicate _ { offline := true } }, 0,
    by decide +kernel⟩,
   ⟨live,
    by decide +kernel⟩,
   ⟨{ live with dev.ec.handling := [({ (default : ErrRec) with block := 4, inst := 0, cls := 3 })] }, { (default : ErrRec) with block := 4, inst := 0, cls := 3 },
    by decide +kernel⟩⟩

/-- The hypotheses of SignatureEngine can be met. -/
theorem test_witness_SignatureEngine :
    (∃ (s : State) (h : Hart) (v : Word), MayWrite s.dev h 5 ∧ 4 ≤ jobsInFlight s.dev.sg h) ∧
    (∃ (s : State) (h : Hart) (v : Word) (a : Nat) (d : Device), MayWrite s.dev h 5 ∧ jobsInFlight s.dev.sg h < 4 ∧ v.toNat - v.toNat % 64 = a ∧ readErrors a 64 s.dev = d) ∧
    (∃ (h : Hart) (j : SgJob) (d : Device), (h ≠ 3 ∨ j.op ≠ 2 ∨ j.source ≠ 4)) ∧
    (∃ (j : SgJob) (d : Device), (j.op = 1 ∨ d.sg.units[2].offline = false)) ∧
    (∃ (s : State) (u : Unit3) (fault : Nat) (j : SgJob) (h : Nat), mainRuns s.dev = true ∧ s.dev.sg.units[u].job = some j ∧ j.hart = some h ∧ (vget s.dev.sg.results h).length < 4) ∧
    (∃ (s : State) (u : Unit3) (fault : Nat), s.dev.sg.units[u].job = none) ∧
    (∃ (s : State) (h : Hart), MayRead s.dev h ∧ s.dev.sg.results[h] = []) ∧
    (∃ (s : State) (h : Hart) (r : SgResult) (tl : List SgResult), MayRead s.dev h ∧ s.dev.sg.results[h] = r :: tl) ∧
    (∃ (r : SgResult) (d : Device), (d.lg.signing = none ∨ r.op ≠ 2)) ∧
    (∃ (h : Hart) (tl : List SgResult) (g : SigEngine), g.late[h] = []) ∧
    (∃ (s : State) (u : Unit3), mainRuns s.dev = true) ∧
    (∃ (s : State) (u : Unit3) (ok : Bool), mainRuns s.dev = true ∧ s.dev.sg.units[u].testing = true) ∧
    (∃ (s : State) (e : ErrRec), handlingOf s.dev 5 0 = some e) ∧
    (∃ (s : State), handlingOf s.dev 5 0 = none) ∧
    (∃ (d : Device) (j : SgJob) (fault : Nat), badJob j = true) ∧
    (∃ (d : Device) (j : SgJob), badJob j = false ∧ j.op = 1) ∧
    (∃ (d : Device) (j : SgJob) (fault : Nat), badJob j = false ∧ j.op = 2 ∧ d.kv.entropyOk = false) ∧
    (∃ (d : Device) (j : SgJob) (fault : Nat), badJob j = false ∧ j.op = 2 ∧ d.kv.entropyOk = true) ∧
    (∃ (d : Device) (j : SgJob) (seed : List Byte) (msg : List Byte) (ctx : List Byte), jobSeed d j = some seed ∧ jobInput d (jobHart j) j.msgAddr j.msgLen = some msg ∧ jobInput d (jobHart j) j.ctxAddr j.ctxLen = some ctx ∧ jobWrites d (jobHart j) j.sigAddr 3309 = true) ∧
    (∃ (d : Device) (j : SgJob) (fault : Nat), badJob j = false ∧ j.op = 1 ∧ fault ≠ 12) ∧
    (∃ (d : Device) (j : SgJob) (msg : List Byte) (ctx : List Byte) (pk : List Byte) (sig : List Byte) (dg : List Byte), jobInput d (jobHart j) j.msgAddr j.msgLen = some msg ∧ jobInput d (jobHart j) j.ctxAddr j.ctxLen = some ctx ∧ jobInput d (jobHart j) j.keyAddr 1952 = some pk ∧ jobInput d (jobHart j) j.sigAddr 3309 = some sig ∧ (if j.source = 3 then jobInput d (jobHart j) j.pkDigAddr 64 else some []) = some dg) ∧
    (∃ (d : Device) (j : SgJob) (pk : List Byte) (dg : List Byte), j.source = 1 ∧ j.key < 8 ∧ keyFused d 1 j.key = true ∧ shake256 pk 64 = fusedHash d 1 j.key) ∧
    (∃ (d : Device) (j : SgJob) (pk : List Byte) (dg : List Byte), j.source = 1 ∧ (keyFused d 1 j.key = false ∨ shake256 pk 64 ≠ fusedHash d 1 j.key)) :=
  ⟨⟨{ live with dev.sg.verifyQ := [sgJob0, sgJob0, sgJob0, sgJob0] }, 0, 0,
    by (repeat' apply And.intro) <;> first | decide +kernel | rfl⟩,
   ⟨live, 0, 0, 0, live.dev,
    by (repeat' apply And.intro) <;> first | decide +kernel | rfl⟩,
   ⟨0, default, live.dev,
    by decide +kernel⟩,
   ⟨{ (default : SgJob) with op := 1 }, live.dev,
    by decide +kernel⟩,
   ⟨{ live with dev.sg.units := Vector.replicate _ { job := some ({ (default : SgJob) with hart := some (0) }) } }, 0, 0, { (default : SgJob) with hart := some (0) }, 0,
    by decide +kernel⟩,
   ⟨{ live with dev.sg.units := Vector.replicate _ { job := none } }, 0, 0,
    by decide +kernel⟩,
   ⟨live, 0,
    by (repeat' apply And.intro) <;> first | decide +kernel | rfl⟩,
   ⟨{ live with dev.sg.results := Vector.replicate _ [default] }, 0, default, [],
    by (repeat' apply And.intro) <;> first | decide +kernel | rfl⟩,
   ⟨default, { live.dev with lg.signing := none },
    by decide +kernel⟩,
   ⟨0, default, default,
    by decide +kernel⟩,
   ⟨live, 0,
    by decide +kernel⟩,
   ⟨{ live with dev.sg.units := Vector.replicate _ { testing := true } }, 0, false,
    by decide +kernel⟩,
   ⟨{ live with dev.ec.handling := [({ (default : ErrRec) with block := 5, inst := 0, cls := 3 })] }, { (default : ErrRec) with block := 5, inst := 0, cls := 3 },
    by decide +kernel⟩,
   ⟨live,
    by decide +kernel⟩,
   ⟨live.dev, default, 0,
    by decide +kernel⟩,
   ⟨live.dev, sgJob0,
    by decide +kernel⟩,
   ⟨{ live.dev with kv.entropyOk := false }, { sgJob0 with op := 2, source := 4 }, 0,
    by decide +kernel⟩,
   ⟨{ live.dev with kv.entropyOk := true }, { sgJob0 with op := 2, source := 4 }, 0,
    by decide +kernel⟩,
   ⟨{ live.dev with kv.slots := [seedSlot], mem := filled }, { sgJob0 with op := 2, source := 4, hart := some 0, sigAddr := 0x20000000 }, zeros 32, [], [],
    by decide +kernel⟩,
   ⟨live.dev, { (default : SgJob) with op := 1 }, 0,
    by decide +kernel⟩,
   ⟨live.dev, { sgJob0 with source := 0, msgLen := 0, ctxLen := 0, keyAddr := mramBase, sigAddr := mramBase, msgAddr := mramBase, ctxAddr := mramBase }, [], [], zeros 1952, zeros 3309, [],
    by decide +kernel⟩,
   ⟨{ live.dev with lc.otp := (List.range 8).map (fun i => (96 + i, bufLe (shake256 [] 64) (8 * i) 8)) }, { sgJob0 with source := 1, key := 0 }, [], [],
    by decide +kernel⟩,
   ⟨live.dev, { (default : SgJob) with source := 1 }, [], [],
    by decide +kernel⟩⟩

/-- The hypotheses of KeyVault can be met. -/
theorem test_witness_KeyVault :
    (∃ (s : State) (h : Hart) (k : KvSlot), VaultReady s.dev h ∧ k ≠ 0 ∧ rootOutcome s.dev = 0 ∧ slotOf s.dev.kv k = none) ∧
    (∃ (s : State) (h : Hart) (k : KvSlot) (x : VaultSlot), VaultReady s.dev h ∧ k ≠ 0 ∧ rootOutcome s.dev = 0 ∧ slotOf s.dev.kv k = some x) ∧
    (∃ (s : State) (h : Hart) (k : KvSlot), MayWrite s.dev h 3 ∧ s.dev.kv.banks[h].busy = true) ∧
    (∃ (s : State) (h : Hart) (k : KvSlot) (x : VaultSlot), VaultReady s.dev h ∧ k ≠ 0 ∧ slotOf s.dev.kv k = some x ∧ x.owner = 0x10 + h.val ∧ x.persistent = false ∧ x.pending = false) ∧
    (∃ (s : State) (h : Hart) (k : KvSlot) (x : VaultSlot), VaultReady s.dev h ∧ k ≠ 0 ∧ slotOf s.dev.kv k = some x ∧ x.owner ≠ 0x10 + h.val) ∧
    (∃ (s : State) (h : Hart) (k : KvSlot) (x : VaultSlot), VaultReady s.dev h ∧ k ≠ 0 ∧ slotOf s.dev.kv k = some x ∧ x.owner = 0x10 + h.val ∧ x.valid = false ∧ s.dev.kv.entropyOk = true) ∧
    (∃ (s : State) (h : Hart) (k : KvSlot) (x : VaultSlot), VaultReady s.dev h ∧ k ≠ 0 ∧ slotOf s.dev.kv k = some x ∧ x.owner = 0x10 + h.val ∧ x.valid = false ∧ s.dev.kv.entropyOk = false) ∧
    (∃ (s : State) (h : Hart) (k : KvSlot) (x : VaultSlot), VaultReady s.dev h ∧ k ≠ 0 ∧ slotOf s.dev.kv k = some x ∧ x.owner = 0x10 + h.val ∧ x.valid = false ∧ rootOutcome s.dev = 0 ∧ s.dev.kv.rootLock = false ∧ field (kvArg s.dev h) 0 4 = 2) ∧
    (∃ (s : State) (h : Hart) (k : KvSlot) (x : VaultSlot), VaultReady s.dev h ∧ k ≠ 0 ∧ slotOf s.dev.kv k = some x ∧ x.owner = 0x10 + h.val ∧ x.valid = false ∧ rootOutcome s.dev = 0 ∧ s.dev.kv.rootLock = true ∧ rootLabel (field (kvArg s.dev h) 0 4) ≠ none) ∧
    (∃ (s : State) (h : Hart) (k : KvSlot) (x : VaultSlot), VaultReady s.dev h ∧ k ≠ 0 ∧ slotOf s.dev.kv k = some x ∧ x.owner = 0x10 + h.val ∧ x.valid = false ∧ rootOutcome s.dev = 0 ∧ (field (kvArg s.dev h) 0 16 ≠ 1 ∨ s.dev.kv.rootLock = false)) ∧
    (∃ (s : State) (h : Hart) (k : KvSlot) (x : VaultSlot), VaultReady s.dev h ∧ k ≠ 0 ∧ slotOf s.dev.kv k = some x ∧ x.owner = 0x10 + h.val ∧ x.valid = true ∧ within 0x10 0x13 (field (kvArg s.dev h) 0 8) = true) ∧
    (∃ (s : State) (h : Hart) (k : KvSlot) (x : VaultSlot), VaultReady s.dev h ∧ k ≠ 0 ∧ slotOf s.dev.kv k = some x ∧ x.owner = 0x10 + h.val ∧ x.valid = true ∧ x.persistent = false) ∧
    (∃ (s : State) (h : Hart) (k : KvSlot), VaultReady s.dev h ∧ h ≠ 0) ∧
    (∃ (s : State) (k : KvSlot) (x : VaultSlot), VaultReady s.dev 0 ∧ k ≠ 0 ∧ slotOf s.dev.kv k = some x ∧ x.valid = true ∧ x.persistent = false) ∧
    (∃ (s : State) (k : KvSlot) (x : VaultSlot), VaultReady s.dev 0 ∧ k ≠ 0 ∧ slotOf s.dev.kv k = some x ∧ x.persistent = true) ∧
    (∃ (s : State), VaultReady s.dev 0 ∧ s.dev.kv.stagedRoot = false ∧ s.dev.kv.entropyOk = true) ∧
    (∃ (s : State), VaultReady s.dev 0 ∧ s.dev.kv.stagedRoot = true) ∧
    (∃ (s : State), VaultReady s.dev 0 ∧ s.dev.kv.stagedRoot = false ∧ s.dev.kv.slots.any (·.pending) = false) ∧
    (∃ (s : State), VaultReady s.dev 0) ∧
    (∃ (s : State), VaultReady s.dev 0 ∧ s.dev.lc.state = lcManufactured ∧ s.dev.kv.jrnlGen = 0 ∧ s.dev.kv.written = true ∧ s.dev.kv.stagedRoot = true) ∧
    (∃ (s : State), VaultReady s.dev 0 ∧ s.dev.lc.state ≠ lcManufactured) ∧
    (∃ (s : State) (h : Hart) (code : Nat), VaultReady s.dev h ∧ (¬ (8 ≤ code % 16 ∧ code % 16 ≤ 13 ∧ h ≠ 0))) ∧
    (∃ (s : State) (h : Hart), mainRuns s.dev = true) :=
  ⟨⟨{ live with dev.kv.rootOk := true }, 0, 1,
    by (repeat' apply And.intro) <;> first | decide +kernel | rfl⟩,
   ⟨{ live with dev.kv.rootOk := true, dev.kv.slots := [vaultSlot0] }, 0, 1, vaultSlot0,
    by (repeat' apply And.intro) <;> first | decide +kernel | rfl⟩,
   ⟨{ live with dev.kv.banks := Vector.replicate _ { busy := true } }, 0, 0,
    by (repeat' apply And.intro) <;> first | decide +kernel | rfl⟩,
   ⟨{ live with dev.kv.slots := [vaultSlot0] }, 0, 1, vaultSlot0,
    by (repeat' apply And.intro) <;> first | decide +kernel | rfl⟩,
   ⟨{ live with dev.kv.rootOk := true, dev.kv.slots := [{ vaultSlot0 with owner := 0x11 }] }, 0, 1, { vaultSlot0 with owner := 0x11 },
    by (repeat' apply And.intro) <;> first | decide +kernel | rfl⟩,
   ⟨{ live with dev.kv.slots := [{ vaultSlot0 with valid := false }], dev.kv.entropyOk := true }, 0, 1, { vaultSlot0 with valid := false },
    by (repeat' apply And.intro) <;> first | decide +kernel | rfl⟩,
   ⟨{ live with dev.kv.slots := [{ vaultSlot0 with valid := false }], dev.kv.entropyOk := false }, 0, 1, { vaultSlot0 with valid := false },
    by (repeat' apply And.intro) <;> first | decide +kernel | rfl⟩,
   ⟨{ live with dev.kv.rootOk := true, dev.kv.slots := [{ vaultSlot0 with valid := false }], dev.kv.banks := Vector.replicate _ { arg := 2 }, dev.kv.rootLock := false }, 0, 1, { vaultSlot0 with valid := false },
    by (repeat' apply And.intro) <;> first | decide +kernel | rfl⟩,
   ⟨{ live with dev.kv.rootOk := true, dev.kv.slots := [{ vaultSlot0 with valid := false }], dev.kv.banks := Vector.replicate _ { arg := 2 }, dev.kv.rootLock := true }, 0, 1, { vaultSlot0 with valid := false },
    by (repeat' apply And.intro) <;> first | decide +kernel | rfl⟩,
   ⟨{ live with dev.kv.rootOk := true, dev.kv.slots := [{ vaultSlot0 with valid := false }] }, 0, 1, { vaultSlot0 with valid := false },
    by (repeat' apply And.intro) <;> first | decide +kernel | rfl⟩,
   ⟨{ live with dev.kv.rootOk := true, dev.kv.slots := [vaultSlot0], dev.kv.banks := Vector.replicate _ { arg := 0x11 } }, 0, 1, vaultSlot0,
    by (repeat' apply And.intro) <;> first | decide +kernel | rfl⟩,
   ⟨{ live with dev.kv.slots := [vaultSlot0] }, 0, 1, vaultSlot0,
    by (repeat' apply And.intro) <;> first | decide +kernel | rfl⟩,
   ⟨live, 1, 0,
    by (repeat' apply And.intro) <;> first | decide +kernel | rfl⟩,
   ⟨{ live with dev.kv.slots := [vaultSlot0] }, 1, vaultSlot0,
    by (repeat' apply And.intro) <;> first | decide +kernel | rfl⟩,
   ⟨{ live with dev.kv.slots := [{ vaultSlot0 with persistent := true }] }, 1, { vaultSlot0 with persistent := true },
    by (repeat' apply And.intro) <;> first | decide +kernel | rfl⟩,
   ⟨{ live with dev.kv.stagedRoot := false, dev.kv.entropyOk := true },
    by (repeat' apply And.intro) <;> first | decide +kernel | rfl⟩,
   ⟨{ live with dev.kv.stagedRoot := true },
    by (repeat' apply And.intro) <;> first | decide +kernel | rfl⟩,
   ⟨{ live with dev.kv.stagedRoot := false },
    by (repeat' apply And.intro) <;> first | decide +kernel | rfl⟩,
   ⟨live,
    by (repeat' apply And.intro) <;> first | decide +kernel | rfl⟩,
   ⟨{ live with dev.lc.state := lcManufactured, dev.kv.jrnlGen := 0, dev.kv.written := true, dev.kv.stagedRoot := true },
    by (repeat' apply And.intro) <;> first | decide +kernel | rfl⟩,
   ⟨live,
    by (repeat' apply And.intro) <;> first | decide +kernel | rfl⟩,
   ⟨live, 0, 0,
    by (repeat' apply And.intro) <;> first | decide +kernel | rfl⟩,
   ⟨live, 0,
    by decide +kernel⟩⟩

/-- The hypotheses of TamperAndEntropy can be met. -/
theorem test_witness_TamperAndEntropy :
    (∃ (s : State) (n : Sensor), sensorRuns s.dev n = true ∧ sensorEnabled s.dev n = true) ∧
    (∃ (s : State) (n : Sensor), sensorRuns s.dev n = true ∧ mainUp s.dev = false ∧ sensorEnabled s.dev n = true) ∧
    (∃ (s : State) (n : Sensor), sensorRuns s.dev n = true ∧ sensorEnabled s.dev n = false) ∧
    (∃ (s : State) (n : Sensor), sensorRuns s.dev n = true) ∧
    (∃ (s : State) (n : Sensor) (on : Bool), sensorRuns s.dev n = false) ∧
    (∃ (d : Device) (n : Sensor), d.bat.vbd = false) ∧
    (∃ (s : State) (test : Nat), mainUp s.dev = true) ∧
    (∃ (s : State), mainUp s.dev = true) :=
  ⟨⟨live, 0,
    by decide +kernel⟩,
   ⟨{ live with dev.power.state := .standby }, 0,
    by decide +kernel⟩,
   ⟨{ live with dev.lc.otp := [(65, 0x7FFF)] }, 0,
    by decide +kernel⟩,
   ⟨live, 0,
    by decide +kernel⟩,
   ⟨{ live with dev.bat.vbd := false }, 0, false,
    by decide +kernel⟩,
   ⟨{ live.dev with bat.vbd := false }, 0,
    by decide +kernel⟩,
   ⟨live, 0,
    by decide +kernel⟩,
   ⟨live,
    by decide +kernel⟩⟩

/-- The hypotheses of BootLedger can be met. -/
theorem test_witness_BootLedger :
    (∃ (s : State) (v : Word), MayWrite s.dev 3 10 ∧ s.dev.lg.jobs = [] ∧ s.dev.lg.recovered = true) ∧
    (∃ (s : State) (v : Word), MayWrite s.dev 3 10 ∧ s.dev.lg.jobs ≠ []) ∧
    (∃ (s : State) (h : Hart) (v : Word), MayWrite s.dev h 10 ∧ h ≠ 3) ∧
    (∃ (s : State) (p : Nat) (b : List Byte) (prior : Option (Nat × Nat)) (pn : Nat) (pd : List Byte) (pl : Bool) (pt : Bool) (tl : List LgJob), mainRuns s.dev = true ∧ s.dev.lg.jobs = .sheet p b prior pn pd pl pt :: tl) ∧
    (∃ (s : State) (v : Word), MayWrite s.dev 3 10 ∧ bit v 8 = true ∧ field v 0 8 = 0x18 ∧ s.dev.lg.jobs = [] ∧ s.dev.lg.recovered = true) ∧
    (∃ (s : State) (v : Word), MayWrite s.dev 3 10 ∧ bit v 8 = false) ∧
    (∃ (s : State) (v : Word), MayWrite s.dev 3 10) ∧
    (∃ (s : State) (ld : Ld) (v : Word), cxlUp s.dev = true ∧ s.dev.lg.recovered = true ∧ (ldOf s.dev ld).ackBusy = false) ∧
    (∃ (s : State) (ld : Ld) (v : Word), cxlUp s.dev = true ∧ (ldOf s.dev ld).ackBusy = true) ∧
    (∃ (s : State) (a : Nat) (n : Nat) (g : List Byte) (tl : List LgJob), mainRuns s.dev = true ∧ s.dev.lg.jobs = .ack a n g :: tl) ∧
    (∃ (s : State), mainRuns s.dev = true ∧ s.dev.kv.loadDone = true ∧ s.dev.lg.recovered = false ∧ heldPositions s.dev.mem = []) :=
  ⟨⟨{ live with dev.lg.jobs := [], dev.lg.recovered := true }, 0,
    by (repeat' apply And.intro) <;> first | decide +kernel | rfl⟩,
   ⟨{ live with dev.lg.jobs := [.ack 0 0 []] }, 0,
    by (repeat' apply And.intro) <;> first | decide +kernel | rfl⟩,
   ⟨live, 0, 0,
    by (repeat' apply And.intro) <;> first | decide +kernel | rfl⟩,
   ⟨{ live with dev.lg.jobs := .sheet (0) ([]) (default) (0) ([]) (false) (false) :: (default) }, 0, [], default, 0, [], false, false, default,
    by decide +kernel⟩,
   ⟨{ live with dev.lg.jobs := [], dev.lg.recovered := true }, 0x118,
    by (repeat' apply And.intro) <;> first | decide +kernel | rfl⟩,
   ⟨live, 0,
    by (repeat' apply And.intro) <;> first | decide +kernel | rfl⟩,
   ⟨live, 0,
    by (repeat' apply And.intro) <;> first | decide +kernel | rfl⟩,
   ⟨{ live with dev.lg.recovered := true, dev.cx.lds := Vector.replicate _ { ackBusy := false } }, 0, 0,
    by decide +kernel⟩,
   ⟨{ live with dev.cx.lds := Vector.replicate _ { ackBusy := true } }, 0, 0,
    by decide +kernel⟩,
   ⟨{ live with dev.lg.jobs := .ack (0) (0) ([]) :: (default) }, 0, 0, [], default,
    by decide +kernel⟩,
   ⟨{ live with dev.kv.loadDone := true, dev.lg.recovered := false },
    by decide +kernel⟩⟩

/-- The hypotheses of Events can be met. -/
theorem test_witness_Events :
    (∃ (s : State) (code : Nat) (sev : Nat) (aid : Nat) (params : List Nat), aidListed (aid % 256) = true ∧ mainUp s.dev = true ∧ s.dev.ev.noSurvivor = false) ∧
    (∃ (s : State) (code : Nat) (sev : Nat) (aid : Nat) (params : List Nat), (mainUp s.dev = false ∨ aidListed (aid % 256) = false)) ∧
    (∃ (s : State) (h : Hart) (v : Word), MayWrite s.dev h 9 ∧ attached s.dev = true ∧ 0x0100 ≤ field v 0 16 ∧ field v 0 16 ≤ 0x0FFF) ∧
    (∃ (s : State) (h : Hart) (v : Word), MayWrite s.dev h 9 ∧ (attached s.dev = false ∨ field v 0 16 < 0x0100 ∨ 0x0FFF < field v 0 16)) ∧
    (∃ (env : EvEnv) (hart : Bool) (code : Nat) (aid : Nat) (sev : Nat) (ps : List Nat) (r : Recorder), ((r.full = true ∧ r.clearing = none) ∨ r.noSurvivor = true)) ∧
    (∃ (env : EvEnv) (hart : Bool) (code : Nat) (aid : Nat) (sev : Nat) (ps : List Nat) (r : Recorder), logShut r = false ∧ r.suppress = [] ∧ hasToken env.rates r code = false) ∧
    (∃ (r : Recorder), r.noSurvivor = false ∧ (r.full = false ∨ r.clearing.isSome = true)) ∧
    (∃ (env : EvEnv) (hart : Bool) (code : Nat) (aid : Nat) (sev : Nat) (ps : List Nat) (r : Recorder), logShut r = false ∧ r.suppress = [] ∧ hasToken env.rates r code = true ∧ r.queue.length < 32) ∧
    (∃ (env : EvEnv) (code : Nat) (aid : Nat) (sev : Nat) (ps : List Nat) (r : Recorder), logShut r = false ∧ r.suppress = [] ∧ hasToken env.rates r code = true ∧ 32 ≤ r.queue.length) ∧
    (∃ (s : State), recording s.dev = true ∧ s.dev.ev.queue ≠ [] ∧ rangeBroken (noteStore (recordAddr s.dev.ev.nextIndex) 64 s.dev) (recordAddr s.dev.ev.nextIndex) 64 = false) ∧
    (∃ (s : State), recording s.dev = true ∧ s.dev.ev.queue ≠ [] ∧ rangeBroken (noteStore (recordAddr s.dev.ev.nextIndex) 64 s.dev) (recordAddr s.dev.ev.nextIndex) 64 = false) ∧
    (∃ (s : State), (recording s.dev = false ∨ s.dev.ev.queue = [])) ∧
    (∃ (n : Nat), n < 0xFFFFFFFE) ∧
    (∃ (d : Device) (aid : Nat) (n : Nat), (d.ev.clearing.isSome = true ∨ d.ev.recovering = true)) ∧
    (∃ (d : Device) (aid : Nat) (n : Nat), d.ev.clearing = none ∧ d.ev.recovering = false ∧ rightsNow d aid = none) ∧
    (∃ (s : State) (ld : Ld) (v : Word), cxlUp s.dev = true) ∧
    (∃ (s : State) (v : Word), MayWrite s.dev 3 9 ∧ bit v 8 = true) ∧
    (∃ (s : State) (v : Word), MayWrite s.dev 3 9 ∧ bit v 8 = false) ∧
    (∃ (s : State) (aid : Nat), mainRuns s.dev = true ∧ s.dev.ev.clearing = some aid) ∧
    (∃ (s : State), s.dev.ev.clearing = none) ∧
    (∃ (s : State), mainRuns s.dev = true ∧ s.dev.kv.loadDone = true ∧ s.dev.ev.recovering = true ∧ s.dev.flipped = []) :=
  ⟨⟨{ live with dev.ev.noSurvivor := false }, 0, 0, 0, [],
    by decide +kernel⟩,
   ⟨{ live with dev.power.state := .standby }, 0, 0, 0, [],
    by decide +kernel⟩,
   ⟨live, 0, 0x0200,
    by (repeat' apply And.intro) <;> first | decide +kernel | rfl⟩,
   ⟨{ live with dev.start.phase := .loaded }, 0, 0,
    by (repeat' apply And.intro) <;> first | decide +kernel | rfl⟩,
   ⟨evEnv0, false, 0, 0, 0, [], { (default : Recorder) with noSurvivor := true },
    by decide +kernel⟩,
   ⟨evEnv0, false, 0x0100, 0, 0, [], { (default : Recorder) with taken := [(0x0100, 1000000000)], suppress := [] },
    by decide +kernel⟩,
   ⟨{ (default : Recorder) with noSurvivor := false, full := false },
    by decide +kernel⟩,
   ⟨evEnv0, false, 0, 0, 0, [], { (default : Recorder) with suppress := [] },
    by decide +kernel⟩,
   ⟨evEnv0, 0, 0, 0, [], { (default : Recorder) with queue := List.replicate 32 { ts := 0, code := 0x0100, aid := 0x10, sev := 0, flags := 0, params := [0, 0, 0, 0] }, suppress := [] },
    by decide +kernel⟩,
   ⟨{ live with dev.ev.recovering := false, dev.ev.queue := [{ ts := 0, code := 0x0100, aid := 0x10, sev := 0, flags := 0, params := [0, 0, 0, 0] }] },
    by decide +kernel⟩,
   ⟨{ live with dev.ev.recovering := false, dev.ev.queue := [{ ts := 0, code := 0x0100, aid := 0x10, sev := 0, flags := 0, params := [0, 0, 0, 0] }] },
    by decide +kernel⟩,
   ⟨live,
    by decide +kernel⟩,
   ⟨0,
    by decide +kernel⟩,
   ⟨{ live.dev with ev.recovering := true }, 0, 0,
    by decide +kernel⟩,
   ⟨{ live.dev with ev.clearing := none, ev.recovering := false }, 0x05, 0,
    by decide +kernel⟩,
   ⟨live, 0, 0,
    by decide +kernel⟩,
   ⟨live, 0x100,
    by (repeat' apply And.intro) <;> first | decide +kernel | rfl⟩,
   ⟨live, 0,
    by (repeat' apply And.intro) <;> first | decide +kernel | rfl⟩,
   ⟨{ live with dev.ev.clearing := some (0) }, 0,
    by decide +kernel⟩,
   ⟨{ live with dev.ev.clearing := none },
    by decide +kernel⟩,
   ⟨{ live with dev.kv.loadDone := true, dev.ev.recovering := true, dev.flipped := [] },
    by decide +kernel⟩⟩

/-- The hypotheses of CxlLinkAndLogicalDevices can be met. -/
theorem test_witness_CxlLinkAndLogicalDevices :
    (∃ (s : State) (rate : Nat) (width : Nat) (cxl : Bool) (w64 : Option Nat), mainRuns s.dev = true ∧ s.dev.pins.cxPerst = false ∧ s.dev.cx.training = true ∧ s.dev.cx.restarting = false ∧ within 1 5 rate = true ∧ (width = 1 ∨ width = 2 ∨ width = 4 ∨ width = 8) ∧ (cxl = true ∨ w64.any (acceptsW64 s.dev) = true)) ∧
    (∃ (s : State) (rate : Nat) (width : Nat) (w64 : Option Nat), mainRuns s.dev = true ∧ s.dev.pins.cxPerst = false ∧ s.dev.cx.training = true ∧ s.dev.cx.restarting = false ∧ within 1 5 rate = true ∧ (width = 1 ∨ width = 2 ∨ width = 4 ∨ width = 8) ∧ w64.any (acceptsW64 s.dev) = false) ∧
    (∃ (d : Device) (x : Nat), (d.cx.w64Enable = false ∨ d.cx.w64FellBack = true ∨ x / 16 % 16 ≠ 1 ∨ hasBit x 0 = false ∨ hasBit x 1 = false ∨ hasBit x 2 = false ∨ hasBit x 3 = true)) ∧
    (∃ (s : State), mainRuns s.dev = true ∧ s.dev.pins.cxPerst = false) ∧
    (∃ (s : State), mainRuns s.dev = true ∧ s.dev.cx.linkUp = true) ∧
    (∃ (s : State), s.dev.cx.linkUp = false) ∧
    (∃ (s : State) (block : List Byte) (bs : List Nat) (n : Nat), cxlUp s.dev = true ∧ s.dev.cx.w64Active = true ∧ decodeBlock block = some (bs, n)) ∧
    (∃ (s : State) (block : List Byte), cxlUp s.dev = true ∧ s.dev.cx.w64Active = true ∧ decodeBlock block = none) ∧
    (∃ (s : State) (n : Nat) (c : Nat), cxlUp s.dev = true ∧ s.dev.cx.w64Active = true ∧ 64 < n) ∧
    (∃ (s : State) (n : Nat) (c : Nat), n ≤ 64) ∧
    (∃ (s : State) (ld : Ld), cxlUp s.dev = true) ∧
    (∃ (s : State) (ld : Ld) (v : Word), cxlUp s.dev = true ∧ bit v 0 = true) ∧
    (∃ (s : State) (ld : Ld) (v : Word), bit v 0 = false) ∧
    (∃ (s : State) (mask : Nat), cxlUp s.dev = true) ∧
    (∃ (s : State) (ld : Ld) (base : Nat) (ig : Nat) (lock : Bool), cxlUp s.dev = true ∧ (ldOf s.dev ld).decCommitted = false ∧ (ldOf s.dev ld).allocated = true ∧ base % 0x10000000 = 0) ∧
    (∃ (s : State) (ld : Ld) (base : Nat) (size : Nat) (iw : Nat) (ig : Nat) (skip : Nat) (lock : Bool), cxlUp s.dev = true ∧ (ldOf s.dev ld).decCommitted = false ∧ ((ldOf s.dev ld).allocated = false ∨ base % 0x10000000 ≠ 0 ∨ size ≠ 0x10000000 ∨ iw ≠ 0 ∨ skip ≠ 0)) ∧
    (∃ (s : State) (ld : Ld) (base : Nat) (size : Nat) (iw : Nat) (ig : Nat) (skip : Nat) (lock : Bool), (ldOf s.dev ld).decCommitted = true ∧ (ldOf s.dev ld).decLocked = true) :=
  ⟨⟨{ live with dev.pins.cxPerst := false, dev.cx.training := true, dev.cx.restarting := false }, 1, 1, true, none,
    by decide +kernel⟩,
   ⟨{ live with dev.pins.cxPerst := false, dev.cx.training := true, dev.cx.restarting := false }, 1, 1, none,
    by decide +kernel⟩,
   ⟨{ live.dev with cx.w64Enable := false }, 0,
    by decide +kernel⟩,
   ⟨{ live with dev.pins.cxPerst := false },
    by decide +kernel⟩,
   ⟨{ live with dev.cx.linkUp := true },
    by decide +kernel⟩,
   ⟨{ live with dev.cx.linkUp := false },
    by decide +kernel⟩,
   ⟨{ live with dev.cx.w64Active := true }, block0, (block0.take 276).map (·.toNat), 0,
    by decide +kernel⟩,
   ⟨{ live with dev.cx.w64Active := true }, [],
    by decide +kernel⟩,
   ⟨{ live with dev.cx.w64Active := true }, 65, 0,
    by decide +kernel⟩,
   ⟨live, 0, 0,
    by decide +kernel⟩,
   ⟨live, 0,
    by decide +kernel⟩,
   ⟨live, 0, 0x1,
    by decide +kernel⟩,
   ⟨live, 0, 0,
    by decide +kernel⟩,
   ⟨live, 0,
    by decide +kernel⟩,
   ⟨{ live with dev.cx.lds := Vector.replicate _ { decCommitted := false, allocated := true } }, 0, 0, 0, false,
    by decide +kernel⟩,
   ⟨{ live with dev.cx.lds := Vector.replicate _ { decCommitted := false, allocated := false } }, 0, 0, 0, 0, 0, 0, false,
    by decide +kernel⟩,
   ⟨{ live with dev.cx.lds := Vector.replicate _ { decCommitted := true, decLocked := true } }, 0, 0, 0, 0, 0, 0, false,
    by decide +kernel⟩⟩

/-- The hypotheses of HostMemoryAndStaging can be met. -/
theorem test_witness_HostMemoryAndStaging :
    (∃ (s : State) (ld : Ld) (off : Nat), cxlUp s.dev = true ∧ (ldOf s.dev ld).decCommitted = true ∧ viewAddr s.dev ld off = none) ∧
    (∃ (s : State) (ld : Ld) (off : Nat) (a : Nat), cxlUp s.dev = true ∧ (ldOf s.dev ld).decCommitted = true ∧ viewAddr s.dev ld off = some a ∧ s.dev.is_.poisoned = [] ∧ s.dev.flipped = []) ∧
    (∃ (s : State) (ld : Ld) (off : Nat) (data : List Byte) (mask : List Bool), (ldOf s.dev ld).decCommitted = false) ∧
    (∃ (s : State) (ld : Ld) (off : Nat) (f : Nat) (data : List Byte) (mask : List Bool), cxlUp s.dev = true ∧ (ldOf s.dev ld).decCommitted = true ∧ stagingGranted s.dev ld = true ∧ stagingOffset ≤ off ∧ off < 0xE000000 ∧ writeFrame (ldOf s.dev ld) (off - stagingOffset) = some f) ∧
    (∃ (s : State) (ld : Ld) (off : Nat) (data : List Byte) (mask : List Bool), cxlUp s.dev = true ∧ (ldOf s.dev ld).decCommitted = true ∧ (stagingGranted s.dev ld = false ∨ off < stagingOffset ∨ 0xE000000 ≤ off ∨ writeFrame (ldOf s.dev ld) (off - stagingOffset) = none)) ∧
    (∃ (os : List Byte) (ns : List Byte) (es : List Bool) (i : Nat), i < os.length ∧ i < ns.length ∧ i < es.length) ∧
    (∃ (s : State) (ld : Ld) (v : Word), cxlUp s.dev = true ∧ bit v 30 = false ∧ bit v 31 = true ∧ startOutcome s.dev ld (field v 0 3) (ldOf s.dev ld).stgLen.toNat = 0) ∧
    (∃ (s : State) (ld : Ld) (v : Word), cxlUp s.dev = true ∧ bit v 30 = false ∧ bit v 31 = true ∧ startOutcome s.dev ld (field v 0 3) (ldOf s.dev ld).stgLen.toNat ≠ 0 ∧ (ldOf s.dev ld).session = none) ∧
    (∃ (s : State) (ld : Ld) (v : Word), cxlUp s.dev = true ∧ bit v 30 = false ∧ bit v 31 = false) ∧
    (∃ (s : State) (ld : Ld), cxlUp s.dev = true) ∧
    (∃ (d : Device) (ld : Ld) (x : StgSession) (outcome : Nat) (check : Nat), (ldOf d ld).session = some x) ∧
    (∃ (d : Device) (ld : Nat) (outcome : Nat) (check : Nat), (ldOf d ld).session = none) ∧
    (∃ (s : State) (ld : Ld) (v : Word) (x : StgSession), cxlUp s.dev = true ∧ (ldOf s.dev ld).session = some x ∧ x.base ≤ field v 0 11 ∧ field v 0 11 < x.base + x.slots.length ∧ x.declared.contains (field v 0 11) = false ∧ field v 0 11 < stagingChunks x) ∧
    (∃ (s : State) (ld : Ld) (v : Word), (ldOf s.dev ld).session = none) ∧
    (∃ (s : State) (h : Hart) (r : Nat × Nat), MayRead s.dev h ∧ s.dev.cx.ready.find? (fun r => stagingConsumer (sessionKind s.dev r.1) == h.val) = some r) ∧
    (∃ (s : State) (h : Hart), MayRead s.dev h ∧ s.dev.cx.ready = []) ∧
    (∃ (s : State) (h : Hart) (v : Word) (n : Nat) (x : StgSession), MayWrite s.dev h 12 ∧ bit v 8 = true ∧ (List.range 16).find? (fun n => (ldOf s.dev n).session.any (fun x => stagingConsumer x.kind == h.val && x.slots.any (fun y => y.2 == field v 0 4 && decide (y.1 < x.delivered)))) = some n ∧ (ldOf s.dev n).session = some x ∧ (releaseFrame x (field v 0 4)).2 = false) ∧
    (∃ (s : State) (h : Hart) (v : Word), MayWrite s.dev h 12 ∧ bit v 8 = false) ∧
    (∃ (s : State) (h : Hart) (v : Word) (x : StgSession), MayWrite s.dev h 12 ∧ bit v 16 = true ∧ (ldOf s.dev (field v 0 4)).session = some x ∧ stagingConsumer x.kind = h.val) ∧
    (∃ (s : State) (h : Hart) (v : Word), MayWrite s.dev h 12 ∧ bit v 16 = false) :=
  ⟨⟨{ live with dev.cx.lds := Vector.replicate _ { decCommitted := true } }, 0, 0,
    by decide +kernel⟩,
   ⟨{ live with dev.tx.leafEven.partitions := [{ partition := 0, firstGranule := 0, granuleCount := 1 }], dev.is_.bds := Vector.replicate _ { state := .passed, images := [presentImage] }, dev.tx.leafEven.images := [image0], dev.is_.poisoned := [], dev.flipped := [], dev.cx.lds := Vector.replicate _ { decCommitted := true } }, 0, 0, storeBase,
    by decide +kernel⟩,
   ⟨{ live with dev.cx.lds := Vector.replicate _ { decCommitted := false } }, 0, 0, [], [],
    by decide +kernel⟩,
   ⟨{ live with dev.cx.lds := Vector.replicate _ { decCommitted := true, stgState := 1, session := some { kind := 1, len := 0x10000, base := 0, slots := [(0, 5)], declared := [], delivered := 0 } } }, 0, 0x8000000, 5, [], [],
    by decide +kernel⟩,
   ⟨{ live with dev.cx.lds := Vector.replicate _ { decCommitted := true } }, 0, 0, [], [],
    by decide +kernel⟩,
   ⟨[0], [0], [true], 0,
    by decide +kernel⟩,
   ⟨{ live with dev.cx.lds := Vector.replicate _ { stgLen := 0x10000 } }, 0, 0x80000001,
    by decide +kernel⟩,
   ⟨{ live with dev.cx.lds := Vector.replicate _ { session := none } }, 0, 0x80000000,
    by decide +kernel⟩,
   ⟨live, 0, 0,
    by decide +kernel⟩,
   ⟨live, 0,
    by decide +kernel⟩,
   ⟨{ live.dev with cx.lds := Vector.replicate _ { session := some (default) } }, 0, default, 0, 0,
    by decide +kernel⟩,
   ⟨{ live.dev with cx.lds := Vector.replicate _ { session := none } }, 0, 0, 0,
    by decide +kernel⟩,
   ⟨{ live with dev.cx.lds := Vector.replicate _ { session := some ({ kind := 1, len := 0x10000, base := 0, slots := [(0, 5)], declared := [], delivered := 0 }) } }, 0, 0, { kind := 1, len := 0x10000, base := 0, slots := [(0, 5)], declared := [], delivered := 0 },
    by decide +kernel⟩,
   ⟨{ live with dev.cx.lds := Vector.replicate _ { session := none } }, 0, 0,
    by decide +kernel⟩,
   ⟨{ live with dev.cx.ready := [(0, 0)] }, 0, (0, 0),
    by (repeat' apply And.intro) <;> first | decide +kernel | rfl⟩,
   ⟨{ live with dev.cx.ready := [] }, 0,
    by (repeat' apply And.intro) <;> first | decide +kernel | rfl⟩,
   ⟨{ live with dev.cx.lds := Vector.replicate _ { session := some ({ kind := 1, len := 0x20000, base := 0, slots := [(0, 0)], declared := [0], delivered := 1 }) } }, 0, 0x100, 0, { kind := 1, len := 0x20000, base := 0, slots := [(0, 0)], declared := [0], delivered := 1 },
    by (repeat' apply And.intro) <;> first | decide +kernel | rfl⟩,
   ⟨live, 0, 0,
    by (repeat' apply And.intro) <;> first | decide +kernel | rfl⟩,
   ⟨{ live with dev.cx.lds := Vector.replicate _ { session := some { kind := 1, len := 0x10000, base := 0, slots := [(0, 0)], declared := [0], delivered := 1 } } }, 0, 0x10000, { kind := 1, len := 0x10000, base := 0, slots := [(0, 0)], declared := [0], delivered := 1 },
    by (repeat' apply And.intro) <;> first | decide +kernel | rfl⟩,
   ⟨live, 0, 0,
    by (repeat' apply And.intro) <;> first | decide +kernel | rfl⟩⟩

/-- The hypotheses of DataObjects can be met. -/
theorem test_witness_DataObjects :
    (∃ (s : State) (who : Option Ld) (o : List Byte) (r : List Byte), cxlUp s.dev = true ∧ hart1Serves s.dev = true ∧ (whoOf s.dev who).doeError = false ∧ (whoOf s.dev who).doeReq = none ∧ (whoOf s.dev who).doeRsp = none ∧ o.length ≤ 4096 ∧ doeIsSpdm o = false ∧ doeAnswer s.dev (whoAid who) o = some r) ∧
    (∃ (s : State) (who : Option Ld) (o : List Byte), cxlUp s.dev = true ∧ (whoOf s.dev who).doeError = false ∧ ((whoOf s.dev who).doeReq ≠ none ∨ (whoOf s.dev who).doeRsp ≠ none ∨ 4096 < o.length)) ∧
    (∃ (s : State) (who : Option Ld) (o : List Byte), (whoOf s.dev who).doeError = true) ∧
    (∃ (s : State) (who : Option Ld), cxlUp s.dev = true) ∧
    (∃ (s : State) (who : Option Ld) (i : Nat), cxlUp s.dev = true ∧ hart1Serves s.dev = true ∧ (whoOf s.dev who).doeError = false ∧ (whoOf s.dev who).doeReq = none ∧ (whoOf s.dev who).doeRsp = none ∧ i < 256) ∧
    (∃ (s : State) (who : Option Ld) (e : Nat), cxlUp s.dev = true ∧ hart1Serves s.dev = true ∧ (whoOf s.dev who).doeError = false ∧ (whoOf s.dev who).doeReq = none ∧ (whoOf s.dev who).doeRsp = none ∧ e < 65536) ∧
    (∃ (s : State) (who : Option Ld) (code : Nat), cxlUp s.dev = true ∧ hart1Serves s.dev = true ∧ (whoOf s.dev who).doeError = false ∧ (whoOf s.dev who).doeReq = none ∧ (whoOf s.dev who).doeRsp = none ∧ code < 2 ^ 32) ∧
    (∃ (d : Device) (aid : Nat) (code : Nat), code ≠ 1) :=
  ⟨⟨live, some 0, [0x98, 0x1E, 0x02, 0, 4, 0, 0, 0, 0, 0, 0, 0], (doeAnswer live.dev 0 [0x98, 0x1E, 0x02, 0, 4, 0, 0, 0, 0, 0, 0, 0]).getD [],
    by decide +kernel⟩,
   ⟨{ live with dev.cx.lds := Vector.replicate _ { doeReq := some [] } }, some 0, [],
    by decide +kernel⟩,
   ⟨{ live with dev.cx.lds := Vector.replicate _ { doeError := true } }, some 0, [],
    by decide +kernel⟩,
   ⟨live, none,
    by decide +kernel⟩,
   ⟨live, none, 0,
    by decide +kernel⟩,
   ⟨live, none, 0,
    by decide +kernel⟩,
   ⟨live, none, 0,
    by decide +kernel⟩,
   ⟨live.dev, 0, 0,
    by decide +kernel⟩⟩

/-- The hypotheses of CxlMailboxes can be met. -/
theorem test_witness_CxlMailboxes :
    (∃ (s : State), MailboxReady s.dev none) ∧
    (∃ (s : State) (start : Nat) (limit : Nat), MailboxReady s.dev none ∧ start < 16) ∧
    (∃ (s : State) (start : Nat) (limit : Nat), MailboxReady s.dev none ∧ 16 ≤ start) ∧
    (∃ (s : State) (start : Nat) (pairs : List (Nat × Nat)), MailboxReady s.dev none ∧ allocationBad s.dev start pairs = true) ∧
    (∃ (s : State) (ld : Ld) (x : Nat), MailboxReady s.dev none ∧ (ldOf s.dev ld).decCommitted = false ∧ x ≤ 1) ∧
    (∃ (d : Device) (start : Nat) (pairs : List (Nat × Nat)), ((∃ p ∈ pairs, 1 < p.1 ∨ p.2 ≠ 0))) ∧
    (∃ (s : State) (off : Nat) (data : List Byte), MailboxReady s.dev none ∧ s.dev.tx.sipLocked = false ∧ s.dev.tx.siCopyBusy = false ∧ siSessionOpen s.dev = false ∧ data.length ≤ 2040 ∧ off + data.length ≤ 0x100000) ∧
    (∃ (s : State) (off : Nat) (data : List Byte), MailboxReady s.dev none ∧ s.dev.tx.sipLocked = true) ∧
    (∃ (s : State) (total : Nat), MailboxReady s.dev none ∧ s.dev.tx.fabricLive = false ∧ s.dev.tx.state = .idle ∧ s.dev.tx.siCopyBusy = false ∧ hartStalled s.dev 0 = false) ∧
    (∃ (s : State) (total : Nat), MailboxReady s.dev none ∧ s.dev.tx.fabricLive = false ∧ (s.dev.tx.state ≠ .idle ∨ s.dev.tx.siCopyBusy = true ∨ hartStalled s.dev 0 = true)) ∧
    (∃ (s : State) (ld : Ld) (off : Nat) (total : Nat) (data : List Byte), MailboxReady s.dev (some ld)) ∧
    (∃ (d : Device) (who : Option Ld) (op : Nat) (code : Nat) (out : List Byte), (whoOf d who).mboxInt = false) ∧
    (∃ (s : State) (who : Option Ld), MailboxReady s.dev who) ∧
    (∃ (s : State) (who : Option Ld) (n : Nat), MailboxReady s.dev who) ∧
    (∃ (s : State) (who : Option Ld) (ps : List Nat), MailboxReady s.dev who) ∧
    (∃ (s : State) (who : Option Ld) (uuid : List Byte) (off : Nat) (len : Nat), MailboxReady s.dev who) ∧
    (∃ (s : State) (ld : Ld), MailboxReady s.dev (some ld)) ∧
    (∃ (s : State) (ld : Ld) (base : Nat) (len : Nat), MailboxReady s.dev (some ld) ∧ s.dev.is_.poisoned = []) ∧
    (∃ (s : State), MailboxReady s.dev none) ∧
    (∃ (s : State) (who : Option Ld) (op : Nat), MailboxReady s.dev who) ∧
    (∃ (s : State) (who : Option Ld), cxlUp s.dev = true ∧ (whoOf s.dev who).mboxRunning = none ∧ hart1Serves s.dev = false) ∧
    (∃ (s : State) (who : Option Ld) (op : Nat), cxlUp s.dev = true ∧ (whoOf s.dev who).mboxRunning = some op) :=
  ⟨⟨live,
    by (repeat' apply And.intro) <;> first | decide +kernel | rfl⟩,
   ⟨live, 0, 0,
    by (repeat' apply And.intro) <;> first | decide +kernel | rfl⟩,
   ⟨live, 16, 0,
    by (repeat' apply And.intro) <;> first | decide +kernel | rfl⟩,
   ⟨live, 0, [(2, 0)],
    by (repeat' apply And.intro) <;> first | decide +kernel | rfl⟩,
   ⟨{ live with dev.cx.lds := Vector.replicate _ { decCommitted := false } }, 0, 0,
    by (repeat' apply And.intro) <;> first | decide +kernel | rfl⟩,
   ⟨live.dev, 0, [(2, 0)],
    by decide +kernel⟩,
   ⟨{ live with dev.tx.sipLocked := false, dev.tx.siCopyBusy := false }, 0, [],
    by (repeat' apply And.intro) <;> first | decide +kernel | rfl⟩,
   ⟨{ live with dev.tx.sipLocked := true }, 0, [],
    by (repeat' apply And.intro) <;> first | decide +kernel | rfl⟩,
   ⟨{ live with dev.tx.fabricLive := false, dev.tx.state := .idle, dev.tx.siCopyBusy := false }, 0,
    by (repeat' apply And.intro) <;> first | decide +kernel | rfl⟩,
   ⟨{ live with dev.tx.state := .opened, dev.start.phase := .stage1, dev.tx.fabricLive := false }, 0,
    by (repeat' apply And.intro) <;> first | decide +kernel | rfl⟩,
   ⟨live, 0, 0, 0, [],
    by (repeat' apply And.intro) <;> first | decide +kernel | rfl⟩,
   ⟨live.dev, none, 0, 0, [],
    by decide +kernel⟩,
   ⟨live, none,
    by (repeat' apply And.intro) <;> first | decide +kernel | rfl⟩,
   ⟨live, none, 0,
    by (repeat' apply And.intro) <;> first | decide +kernel | rfl⟩,
   ⟨live, none, [],
    by (repeat' apply And.intro) <;> first | decide +kernel | rfl⟩,
   ⟨live, none, [], 0, 0,
    by (repeat' apply And.intro) <;> first | decide +kernel | rfl⟩,
   ⟨live, 0,
    by (repeat' apply And.intro) <;> first | decide +kernel | rfl⟩,
   ⟨{ live with dev.is_.poisoned := [] }, 0, 0, 0,
    by (repeat' apply And.intro) <;> first | decide +kernel | rfl⟩,
   ⟨live,
    by (repeat' apply And.intro) <;> first | decide +kernel | rfl⟩,
   ⟨live, none, 0,
    by (repeat' apply And.intro) <;> first | decide +kernel | rfl⟩,
   ⟨{ live with dev.start.phase := .loaded }, none,
    by decide +kernel⟩,
   ⟨{ live with dev.cx.lds := Vector.replicate _ { mboxRunning := some 0 } }, some 0, 0,
    by decide +kernel⟩⟩

/-- The hypotheses of ErrorsAndRestarts can be met. -/
theorem test_witness_ErrorsAndRestarts :
    (∃ (s : State) (block : Nat) (word : Nat), mainUp s.dev = true) ∧
    (∃ (s : State) (block : Nat) (inst : Nat) (kind : Nat) (word : Nat), mainUp s.dev = true ∧ s.dev.power.state ≠ .safe) ∧
    (∃ (s : State) (block : Nat) (inst : Nat) (kind : Nat), mainUp s.dev = true ∧ s.dev.power.state ≠ .safe ∧ f1Source block inst = true) ∧
    (∃ (s : State) (block : Nat) (inst : Nat) (kind : Nat), f1Source block inst = false) ∧
    (∃ (d : Device) (f : Dev), ((∀ k, k < 4 → (tsAt d (4 * (f / 4) + k)).current = none))) ∧
    (∃ (e : ErrRec) (d : Device), d.power.state ≠ .safe ∧ d.ec.handling = []) ∧
    (∃ (e : ErrRec) (d : Device), e.cls = 1) ∧
    (∃ (e : ErrRec) (d : Device), e.cls = 2) ∧
    (∃ (e : ErrRec) (d : Device), e.cls = 3) ∧
    (∃ (e : ErrRec) (cur : ErrRec) (tl : List ErrRec) (d : Device), d.power.state ≠ .safe ∧ d.ec.handling = cur :: tl ∧ e.cls = 3 ∧ e.block = cur.block ∧ e.inst = cur.inst) ∧
    (∃ (e : ErrRec) (cur : ErrRec) (tl : List ErrRec) (d : Device), d.power.state ≠ .safe ∧ d.ec.handling = cur :: tl ∧ (¬ (e.cls = 3 ∧ e.block = cur.block ∧ e.inst = cur.inst)) ∧ d.ec.queue.length < 16) ∧
    (∃ (s : State) (us : Nat) (e : ErrRec), handlingOf s.dev 12 0 = some e) ∧
    (∃ (s : State) (us : Nat) (e : ErrRec), handlingOf s.dev 8 0 = some e) ∧
    (∃ (s : State) (block : Nat) (us : Nat), (((block ≠ 8 ∧ block ≠ 12) ∨ handlingOf s.dev block 0 = none))) ∧
    (∃ (e : ErrRec) (us : Nat) (d : Device), d.ec.queue = []) ∧
    (∃ (s : State) (m : Bus) (ticks : Nat) (e : ErrRec), handlingOf s.dev 6 (64 + m) = some e ∧ s.dev.ec.queue = []) ∧
    (∃ (s : State) (m : Bus) (ticks : Nat), handlingOf s.dev 6 (64 + m) = none) ∧
    (∃ (s : State) (f : Dev) (ticks : Nat) (e : ErrRec), handlingOf s.dev 6 f = some e) ∧
    (∃ (s : State) (f : Dev) (ticks : Nat), handlingOf s.dev 6 f = none) ∧
    (∃ (s : State) (h : Hart) (e : ErrRec) (tl : List ErrRec), MayRead s.dev h ∧ s.dev.ec.reports = e :: tl) ∧
    (∃ (s : State) (h : Hart), MayRead s.dev h ∧ s.dev.ec.reports = []) ∧
    (∃ (s : State) (v : Word), MayWrite s.dev 0 15 ∧ ptAllowed s.dev = true) ∧
    (∃ (s : State) (v : Word), MayWrite s.dev 0 15 ∧ ptAllowed s.dev = false) ∧
    (∃ (s : State) (h : Hart) (v : Word), MayWrite s.dev h 15 ∧ h ≠ 0) :=
  ⟨⟨live, 0, 0,
    by decide +kernel⟩,
   ⟨live, 0, 0, 0, 0,
    by decide +kernel⟩,
   ⟨live, 4, 0, 0,
    by decide +kernel⟩,
   ⟨live, 0, 0, 0,
    by decide +kernel⟩,
   ⟨live.dev, 0,
    by decide +kernel⟩,
   ⟨default, { live.dev with ec.handling := [] },
    by decide +kernel⟩,
   ⟨{ (default : ErrRec) with cls := 1 }, live.dev,
    by decide +kernel⟩,
   ⟨{ cls := 2, block := 6, inst := 64, kind := 0, word := 0 }, live.dev,
    by decide +kernel⟩,
   ⟨{ (default : ErrRec) with cls := 3 }, live.dev,
    by decide +kernel⟩,
   ⟨{ cls := 3, block := 6, inst := 64, kind := 0, word := 0 }, { cls := 3, block := 6, inst := 64, kind := 0, word := 0 }, [], { live.dev with ec.handling := ({ cls := 3, block := 6, inst := 64, kind := 0, word := 0 }) :: ([]) },
    by decide +kernel⟩,
   ⟨default, default, [], { live.dev with ec.handling := (default) :: ([]) },
    by decide +kernel⟩,
   ⟨{ live with dev.ec.handling := [({ (default : ErrRec) with block := 12, inst := 0, cls := 3 })] }, 0, { (default : ErrRec) with block := 12, inst := 0, cls := 3 },
    by decide +kernel⟩,
   ⟨{ live with dev.ec.handling := [({ (default : ErrRec) with block := 8, inst := 0, cls := 3 })] }, 0, { (default : ErrRec) with block := 8, inst := 0, cls := 3 },
    by decide +kernel⟩,
   ⟨live, 0, 0,
    by decide +kernel⟩,
   ⟨default, 0, { live.dev with ec.queue := [] },
    by decide +kernel⟩,
   ⟨{ live with dev.ec.handling := [{ cls := 3, block := 6, inst := 64, kind := 0, word := 0 }], dev.ec.queue := [] }, 0, 0, { cls := 3, block := 6, inst := 64, kind := 0, word := 0 },
    by decide +kernel⟩,
   ⟨live, 0, 0,
    by decide +kernel⟩,
   ⟨{ live with dev.ec.handling := [({ (default : ErrRec) with block := 6, inst := 0, cls := 3 })] }, 0, 0, { (default : ErrRec) with block := 6, inst := 0, cls := 3 },
    by decide +kernel⟩,
   ⟨live, 0, 0,
    by decide +kernel⟩,
   ⟨{ live with dev.ec.reports := (default) :: ([]) }, 0, default, [],
    by (repeat' apply And.intro) <;> first | decide +kernel | rfl⟩,
   ⟨{ live with dev.ec.reports := [] }, 0,
    by (repeat' apply And.intro) <;> first | decide +kernel | rfl⟩,
   ⟨live, 0,
    by (repeat' apply And.intro) <;> first | decide +kernel | rfl⟩,
   ⟨{ live with dev.lc.state := 5 }, 0,
    by (repeat' apply And.intro) <;> first | decide +kernel | rfl⟩,
   ⟨live, 1, 0,
    by (repeat' apply And.intro) <;> first | decide +kernel | rfl⟩⟩

/-- The hypotheses of SafeState can be met. -/
theorem test_witness_SafeState :
    (∃ (s : State) (block : Nat) (inst : Nat) (kind : Nat), mainUp s.dev = true ∧ s.dev.power.state ≠ .safe ∧ (block ≠ 8 ∨ s.dev.tx.state ≠ .committing)) ∧
    (∃ (s : State) (block : Nat) (inst : Nat) (kind : Nat) (word : Nat), s.dev.power.state = .safe) ∧
    (∃ (d : Device), d.lastF2.hardware = false) ∧
    (∃ (d : Device), d.lastF2.hardware = true) ∧
    (∃ (s : State), s.dev.power.state = .safe) ∧
    (∃ (s : State), s.dev.power.state ≠ .safe) :=
  ⟨⟨live, 0, 0, 0,
    by decide +kernel⟩,
   ⟨{ live with dev.power.state := .safe }, 0, 0, 0, 0,
    by decide +kernel⟩,
   ⟨{ live.dev with lastF2.hardware := false },
    by decide +kernel⟩,
   ⟨{ live.dev with lastF2.hardware := true },
    by decide +kernel⟩,
   ⟨{ live with dev.power.state := .safe },
    by decide +kernel⟩,
   ⟨live,
    by decide +kernel⟩⟩

/-- The hypotheses of ControlRegisters can be met. -/
theorem test_witness_ControlRegisters :
    (∃ (s : State) (h : Hart) (addr : Nat), MayRead s.dev h ∧ inBlocks addr = true ∧ addr % 4 = 0 ∧ popRead h addr = none) ∧
    (∃ (s : State) (h : Hart) (addr : Nat) (f : Device → Device), MayRead s.dev h ∧ inBlocks addr = true ∧ addr % 4 = 0 ∧ popRead h addr = some f) ∧
    (∃ (s : State) (h : Hart) (size : Size) (addr : Nat), MayRead s.dev h ∧ inBlocks addr = true ∧ (size ≠ .word ∨ addr % 4 ≠ 0)) ∧
    (∃ (s : State) (h : Hart) (size : Size) (addr : Nat) (key : Nat), MayRead s.dev h ∧ inBlocks addr = false ∧ hartLoadKey s.dev h addr size.bytes = some key) ∧
    (∃ (s : State) (h : Hart) (size : Size) (addr : Nat), MayRead s.dev h ∧ inBlocks addr = false ∧ hartLoadKey s.dev h addr size.bytes = none) ∧
    (∃ (s : State) (ld : Ld) (off : Nat), cxlUp s.dev = true ∧ off % 4 = 0 ∧ 0x10000 ≤ off ∧ (off < 0x11000 ∨ 0x11200 ≤ off)) ∧
    (∃ (s : State) (who : Option Ld) (off : Nat), cxlUp s.dev = true ∧ off % 4 = 0 ∧ off < 0x10000) ∧
    (∃ (s : State) (who : Option Ld) (size : Size) (off : Nat), cxlUp s.dev = true ∧ (size ≠ .word ∨ off % 4 ≠ 0)) ∧
    (∃ (s : State) (who : Option Ld) (off : Nat), cxlUp s.dev = true ∧ off % 4 = 0) ∧
    (∃ (s : State) (h : Hart), MayRead s.dev h) ∧
    (∃ (s : State) (h : Hart), MayRead s.dev h) ∧
    (∃ (s : State) (h : Hart) (f : Dev), MayRead s.dev h) ∧
    (∃ (d : Device) (h : Hart) (addr : Nat), blockReg d h (blockOf addr) (addr % 0x10000) = none) ∧
    (∃ (s : State) (h : Hart) (addr : Nat) (v : BitVec 64), inBlocks addr = true ∧ MayWrite s.dev h (blockOf addr) ∧ addr % 4 = 0) ∧
    (∃ (d : Device), (attached d = false ∨ d.start.measured = true ∨ stageLocked d = false)) ∧
    (∃ (s : State) (h : Hart) (size : Size) (addr : Nat) (v : BitVec 64), inBlocks addr = true ∧ MayWrite s.dev h (blockOf addr) ∧ (size ≠ .word ∨ addr % 4 ≠ 0)) ∧
    (∃ (s : State) (h : Hart) (size : Size) (addr : Nat) (v : BitVec 64), inBlocks addr = true ∧ MayRead s.dev h ∧ deckleAllows s.dev h (blockOf addr) = false) ∧
    (∃ (s : State) (h : Hart) (size : Size) (addr : Nat) (key : Nat) (v : BitVec 64), inBlocks addr = false ∧ MayRead s.dev h ∧ hartStoreKey s.dev h addr size.bytes = some key) ∧
    (∃ (s : State) (h : Hart) (size : Size) (addr : Nat) (v : BitVec 64), inBlocks addr = false ∧ MayRead s.dev h ∧ hartStoreKey s.dev h addr size.bytes = none) ∧
    (∃ (s : State) (h : Hart) (v : Word), MayWrite s.dev h 8) ∧
    (∃ (s : State) (v : Word), MayWrite s.dev 0 16 ∧ field v 8 8 = 0xF7 ∧ ptAllowed s.dev = true) ∧
    (∃ (s : State) (v : Word), MayWrite s.dev 0 16 ∧ (field v 8 8 ≠ 0xF7 ∨ ptAllowed s.dev = false)) ∧
    (∃ (s : State) (h : Hart) (f : Dev) (v : Word), MayWrite s.dev h 6 ∧ bit s.dev.gf.tsCfg 31 = true) ∧
    (∃ (s : State) (h : Hart) (f : Dev) (v : Word), MayWrite s.dev h 6 ∧ bit s.dev.gf.tsCfg 31 = false) ∧
    (∃ (s : State) (ld : Ld) (v : Word), cxlUp s.dev = true) ∧
    (∃ (s : State) (who : Option Ld) (size : Size) (off : Nat) (v : BitVec 64), cxlUp s.dev = true ∧ (size ≠ .word ∨ off % 4 ≠ 0)) ∧
    (∃ (s : State) (who : Option Ld) (size : Size) (off : Nat) (v : BitVec 64), cxlUp s.dev = false) :=
  ⟨⟨live, 0, 0x60000000,
    by (repeat' apply And.intro) <;> first | decide +kernel | rfl⟩,
   ⟨live, 0, 0x600F0004, ecReportPopEffect 0,
    by (repeat' apply And.intro) <;> first | decide +kernel | rfl⟩,
   ⟨live, 0, .byte, 0x60000000,
    by (repeat' apply And.intro) <;> first | decide +kernel | rfl⟩,
   ⟨live, 0, default, 0, 0,
    by (repeat' apply And.intro) <;> first | decide +kernel | rfl⟩,
   ⟨live, 0, .word, 0x70000000,
    by (repeat' apply And.intro) <;> first | decide +kernel | rfl⟩,
   ⟨live, 0, 0x10000,
    by decide +kernel⟩,
   ⟨live, none, 0,
    by decide +kernel⟩,
   ⟨live, none, default, 0,
    by decide +kernel⟩,
   ⟨live, none, 0,
    by decide +kernel⟩,
   ⟨live, 0,
    by (repeat' apply And.intro) <;> first | decide +kernel | rfl⟩,
   ⟨live, 0,
    by (repeat' apply And.intro) <;> first | decide +kernel | rfl⟩,
   ⟨live, 0, 0,
    by (repeat' apply And.intro) <;> first | decide +kernel | rfl⟩,
   ⟨live.dev, 0, 0,
    by decide +kernel⟩,
   ⟨live, 0, 0x60000000, default,
    by (repeat' apply And.intro) <;> first | decide +kernel | rfl⟩,
   ⟨{ live.dev with start.phase := .loaded },
    by decide +kernel⟩,
   ⟨live, 0, default, 0x60010000, default,
    by (repeat' apply And.intro) <;> first | decide +kernel | rfl⟩,
   ⟨{ live with dev.start.blk := Vector.replicate _ 0 }, 0, .word, 0x60010000, 0,
    by (repeat' apply And.intro) <;> first | decide +kernel | rfl⟩,
   ⟨live, 0, .word, 0x20000000, 0x20000000, 0,
    by (repeat' apply And.intro) <;> first | decide +kernel | rfl⟩,
   ⟨live, 0, default, 0, default,
    by (repeat' apply And.intro) <;> first | decide +kernel | rfl⟩,
   ⟨live, 0, 0,
    by (repeat' apply And.intro) <;> first | decide +kernel | rfl⟩,
   ⟨live, 0xF700,
    by (repeat' apply And.intro) <;> first | decide +kernel | rfl⟩,
   ⟨live, 0,
    by (repeat' apply And.intro) <;> first | decide +kernel | rfl⟩,
   ⟨{ live with dev.gf.tsCfg := 0x80000000 }, 0, 0, 0,
    by (repeat' apply And.intro) <;> first | decide +kernel | rfl⟩,
   ⟨live, 0, 0, 0,
    by (repeat' apply And.intro) <;> first | decide +kernel | rfl⟩,
   ⟨live, 0, 0,
    by decide +kernel⟩,
   ⟨live, none, default, 0, default,
    by decide +kernel⟩,
   ⟨{ live with dev.cx.linkUp := false }, none, default, 0, default,
    by decide +kernel⟩⟩

/-- The hypotheses of MailboxChannels can be met. -/
theorem test_witness_MailboxChannels :
    (∃ (s : State) (h : Hart) (c : Chan) (v : Word) (old : Bool) (r : ChannelRec), MayWrite s.dev h 11 ∧ channelOf (postLeaf s.dev old) c = some r ∧ (old = false ∨ endsMoved s.dev c = false) ∧ r.sender = 0x10 + h.val ∧ (chanAt s.dev c).full = false) ∧
    (∃ (s : State) (h : Hart) (c : Chan) (v : Word) (old : Bool) (r : ChannelRec), MayWrite s.dev h 11 ∧ channelOf (postLeaf s.dev old) c = some r ∧ (old = false ∨ endsMoved s.dev c = false) ∧ r.sender = 0x10 + h.val ∧ (chanAt s.dev c).full = true) ∧
    (∃ (s : State) (h : Hart) (c : Chan) (v : Word) (old : Bool), MayWrite s.dev h 11 ∧ sends (postLeaf s.dev old) (0x10 + h.val) c = false) ∧
    (∃ (s : State) (h : Hart) (c : Chan) (v : Word) (r : ChannelRec), MayWrite s.dev h 11 ∧ endsMoved s.dev c = true ∧ channelOf (postLeaf s.dev true) c = some r ∧ r.sender = 0x10 + h.val) ∧
    (∃ (s : State) (ld : Ld) (c : Chan) (v : Word) (old : Bool) (r : ChannelRec), cxlUp s.dev = true ∧ channelOf (postLeaf s.dev old) c = some r ∧ (old = false ∨ endsMoved s.dev c = false) ∧ r.sender = ld.val ∧ (chanAt s.dev c).full = false) ∧
    (∃ (s : State) (ld : Ld) (c : Chan) (v : Word) (old : Bool) (r : ChannelRec), cxlUp s.dev = true ∧ channelOf (postLeaf s.dev old) c = some r ∧ (old = false ∨ endsMoved s.dev c = false) ∧ r.sender = ld.val ∧ (chanAt s.dev c).full = true) ∧
    (∃ (s : State) (ld : Ld) (c : Chan) (v : Word) (old : Bool), cxlUp s.dev = true ∧ sends (postLeaf s.dev old) ld c = false) ∧
    (∃ (s : State) (ld : Ld) (c : Chan) (v : Word) (r : ChannelRec), cxlUp s.dev = true ∧ endsMoved s.dev c = true ∧ channelOf (postLeaf s.dev true) c = some r ∧ r.sender = ld.val) ∧
    (∃ (s : State) (h : Hart) (c : Chan), MayRead s.dev h ∧ receives (curLeaf s.dev) (0x10 + h.val) c = true) ∧
    (∃ (s : State) (h : Hart) (c : Chan), MayRead s.dev h ∧ receives (curLeaf s.dev) (0x10 + h.val) c = false) ∧
    (∃ (s : State) (ld : Ld) (c : Chan), cxlUp s.dev = true ∧ receives (curLeaf s.dev) ld c = true) ∧
    (∃ (s : State) (ld : Ld) (c : Chan), cxlUp s.dev = true ∧ receives (curLeaf s.dev) ld c = false) ∧
    (∃ (aid : Nat) (d : Device) (r : ChannelRec), r ∈ chanRecs d ∧ r.receiver = aid) :=
  ⟨⟨{ live with dev.mb.chans := Vector.replicate _ { full := false } }, 0, 0, 0, false, { (default : ChannelRec) with sender := 0x10 + 0 },
    by (repeat' apply And.intro) <;> first | decide +kernel | rfl⟩,
   ⟨{ live with dev.mb.chans := Vector.replicate _ { full := true } }, 0, 0, 0, false, { (default : ChannelRec) with sender := 0x10 + 0 },
    by (repeat' apply And.intro) <;> first | decide +kernel | rfl⟩,
   ⟨{ live with dev.tx.leafEven.channels := [] }, 0, 0, 0, false,
    by (repeat' apply And.intro) <;> first | decide +kernel | rfl⟩,
   ⟨{ live with dev.tx.leafOdd := { leaf0 with channels := [channel0] }, dev.tx.leafEven.channels := [] }, 0, 0, 0, channel0,
    by (repeat' apply And.intro) <;> first | decide +kernel | rfl⟩,
   ⟨{ live with dev.tx.leafEven.channels := [{ channel0 with sender := 0, receiver := 0x10 }], dev.mb.chans := Vector.replicate _ { full := false } }, 0, 0, 0, false, { channel0 with sender := 0, receiver := 0x10 },
    by decide +kernel⟩,
   ⟨{ live with dev.tx.leafEven.channels := [{ channel0 with sender := 0, receiver := 0x10 }], dev.mb.chans := Vector.replicate _ { full := true } }, 0, 0, 0, false, { channel0 with sender := 0, receiver := 0x10 },
    by decide +kernel⟩,
   ⟨live, 0, 0, 0, false,
    by decide +kernel⟩,
   ⟨{ live with dev.tx.leafOdd := { leaf0 with channels := [{ channel0 with sender := 0, receiver := 0x10 }] }, dev.tx.leafEven.channels := [] }, 0, 0, 0, { channel0 with sender := 0, receiver := 0x10 },
    by decide +kernel⟩,
   ⟨{ live with dev.tx.leafEven.channels := [{ channel0 with receiver := 0x10 }] }, 0, 0,
    by (repeat' apply And.intro) <;> first | decide +kernel | rfl⟩,
   ⟨live, 0, 0,
    by (repeat' apply And.intro) <;> first | decide +kernel | rfl⟩,
   ⟨live, 0, 0,
    by decide +kernel⟩,
   ⟨live, 1, 0,
    by decide +kernel⟩,
   ⟨0, live.dev, channel0,
    by decide +kernel⟩⟩

/-- The hypotheses of SpdmSessions can be met. -/
theorem test_witness_SpdmSessions :
    (∃ (s : State) (p : Peer), peerUp s.dev p = true ∧ hart1Serves s.dev = true ∧ connOf s.dev p = none ∧ p.transport < 16) ∧
    (∃ (s : State) (p : Peer) (c : SpdmConn), peerUp s.dev p = true ∧ hart1Serves s.dev = true ∧ connOf s.dev p = some c) ∧
    (∃ (s : State) (p : Peer) (c : SpdmConn) (req : List Byte), OnConnection s.dev p 0xE1 c ∧ 1 ≤ c.stage ∧ (bufLe req 0 1 = 0x12 ∨ bufLe req 0 1 = 0x13)) ∧
    (∃ (s : State) (p : Peer) (c : SpdmConn) (req : List Byte) (sha : Bool) (mldsa : Bool), OnConnection s.dev p 0xE3 c ∧ 2 ≤ c.stage) ∧
    (∃ (s : State) (p : Peer) (c : SpdmConn) (req : List Byte), OnConnection s.dev p 0x81 c ∧ 3 ≤ c.stage ∧ c.noAlgs = false ∧ s.dev.att.chain.isEmpty = false) ∧
    (∃ (s : State) (p : Peer) (c : SpdmConn) (off : Nat) (len : Nat) (req : List Byte), OnConnection s.dev p 0x82 c ∧ 3 ≤ c.stage ∧ c.noAlgs = false ∧ s.dev.att.chain.isEmpty = false ∧ off < s.dev.att.chain.length) ∧
    (∃ (s : State) (p : Peer) (c : SpdmConn) (slot : Nat) (off : Nat) (len : Nat) (req : List Byte), OnConnection s.dev p 0x82 c ∧ 3 ≤ c.stage ∧ c.noAlgs = false ∧ s.dev.att.chain.isEmpty = false ∧ (slot ≠ 0 ∨ s.dev.att.chain.length ≤ off)) ∧
    (∃ (s : State) (p : Peer) (c : SpdmConn) (req : List Byte) (nonce : List Byte) (sum : Nat) (ready : Bool), OnConnection s.dev p 0x83 c ∧ 3 ≤ c.stage ∧ c.noAlgs = false ∧ s.dev.att.chain.isEmpty = false ∧ ((sum = 0 ∨ sum = 1 ∨ sum = 0xFF))) ∧
    (∃ (s : State) (p : Peer) (c : SpdmConn) (req : List Byte) (nonce : List Byte) (slot : Nat) (sum : Nat) (ready : Bool), OnConnection s.dev p 0x83 c ∧ 3 ≤ c.stage ∧ c.noAlgs = false ∧ s.dev.att.chain.isEmpty = false ∧ ((slot ≠ 0 ∨ (sum ≠ 0 ∧ sum ≠ 1 ∧ sum ≠ 0xFF)))) ∧
    (∃ (s : State) (p : Peer) (c : SpdmConn) (req : List Byte) (nonce : List Byte) (ready : Bool), OnConnection s.dev p 0xE0 c ∧ 3 ≤ c.stage ∧ s.dev.att.chain.isEmpty = false) ∧
    (∃ (s : State) (p : Peer) (c : SpdmConn) (req : List Byte) (nonce : List Byte) (ready : Bool), OnConnection s.dev p 0xE0 c ∧ 3 ≤ c.stage ∧ c.noAlgs = false ∧ s.dev.att.chain.isEmpty = false) ∧
    (∃ (s : State) (p : Peer) (c : SpdmConn) (code : Nat) (tok : Nat) (msg : List Byte), OnConnection s.dev p 0xFF c ∧ 3 ≤ c.stage ∧ c.held = some (code, tok, msg)) ∧
    (∃ (s : State) (p : Peer) (c : SpdmConn) (tok : Nat), OnConnection s.dev p 0xFF c ∧ 3 ≤ c.stage ∧ ((∀ code msg, c.held ≠ some (code, tok, msg)))) ∧
    (∃ (s : State) (p : Peer) (c : SpdmConn) (code : Nat) (r : List Byte), OnConnection s.dev p code c ∧ 3 ≤ c.stage ∧ c.noAlgs = false) ∧
    (∃ (s : State) (p : Peer) (c : SpdmConn) (code : Nat), OnConnection s.dev p code c) ∧
    (∃ (s : State) (p : Peer) (c : SpdmConn) (h : Nat) (b : List Byte), peerUp s.dev p = true ∧ hart1Serves s.dev = true ∧ connOf s.dev p = some c ∧ 2 ≤ c.stage ∧ c.chunkIn = none ∧ b.length ≤ 16384) ∧
    (∃ (s : State) (p : Peer) (c : SpdmConn) (h : Nat) (n : Nat) (a : List Byte) (b : List Byte), peerUp s.dev p = true ∧ hart1Serves s.dev = true ∧ connOf s.dev p = some c ∧ 2 ≤ c.stage ∧ c.chunkIn = some (h, n, a) ∧ (a ++ b).length ≤ 16384) ∧
    (∃ (p : Peer) (body : List Byte) (d : Device), p.transport = 0x18) ∧
    (∃ (s : State) (p : Peer) (c : SpdmConn) (h : Nat) (n : Nat) (k : Nat) (m : Nat) (last : Bool) (a : List Byte) (b : List Byte), peerUp s.dev p = true ∧ hart1Serves s.dev = true ∧ connOf s.dev p = some c ∧ 2 ≤ c.stage ∧ c.chunkIn = some (h, n, a) ∧ (k ≠ h ∨ m ≠ n)) ∧
    (∃ (s : State) (p : Peer) (c : SpdmConn) (h : Nat) (n : Nat) (b : List Byte), peerUp s.dev p = true ∧ hart1Serves s.dev = true ∧ connOf s.dev p = some c ∧ 2 ≤ c.stage ∧ c.chunkOut = some (h, n + 1, b) ∧ b.length ≤ dataTransferSize p - 12) ∧
    (∃ (s : State) (p : Peer) (c : SpdmConn) (h : Nat) (n : Nat), peerUp s.dev p = true ∧ hart1Serves s.dev = true ∧ connOf s.dev p = some c ∧ 2 ≤ c.stage ∧ c.chunkOut = none) ∧
    (∃ (s : State) (p : Peer) (req : List Byte) (code : Nat) (h : Nat) (n : Nat), peerUp s.dev p = true ∧ hart1Serves s.dev = true ∧ tamperResponse s.dev = false ∧ connOf s.dev p = none) ∧
    (∃ (s : State) (p : Peer) (c : SpdmConn) (req : List Byte), OnConnection s.dev p 0x81 c ∧ (c.stage < 3 ∨ c.noAlgs = true)) ∧
    (∃ (s : State) (p : Peer) (req : List Byte), peerUp s.dev p = true ∧ hart1Serves s.dev = true ∧ tamperResponse s.dev = true) ∧
    (∃ (s : State) (p : Peer) (req : List Byte) (h : Nat) (n : Nat), peerUp s.dev p = true ∧ hart1Serves s.dev = false) ∧
    (∃ (p : Peer) (raw : List Byte) (d : Device), 16 ≤ p.transport) ∧
    (∃ (s : State) (p : Peer) (req : List Byte) (h : Nat) (n : Nat), peerUp s.dev p = false ∧ ((cxlUp s.dev = true → p.transport < 16 → (ldOf s.dev p.transport).doeRsp = none))) ∧
    (∃ (s : State) (p : Peer) (req : List Byte) (o : List Byte) (h : Nat) (n : Nat), cxlUp s.dev = true ∧ p.transport < 16 ∧ (ldOf s.dev p.transport).doeRsp = some o) :=
  ⟨⟨live, default,
    by decide +kernel⟩,
   ⟨{ live with dev.att.conns := [({ (default : SpdmConn) with transport := 0, eid := 0xFF })] }, { (default : Peer) with transport := 0 }, { (default : SpdmConn) with transport := 0, eid := 0xFF },
    by decide +kernel⟩,
   ⟨{ live with dev.att.conns := [({ (default : SpdmConn) with stage := 1, transport := 0, eid := 0xFF })] }, { (default : Peer) with transport := 0 }, { (default : SpdmConn) with stage := 1, transport := 0, eid := 0xFF }, [0x12],
    by (repeat' apply And.intro) <;> first | decide +kernel | rfl⟩,
   ⟨{ live with dev.att.conns := [({ (default : SpdmConn) with stage := 2, transport := 0, eid := 0xFF })] }, { (default : Peer) with transport := 0 }, { (default : SpdmConn) with stage := 2, transport := 0, eid := 0xFF }, [], false, false,
    by (repeat' apply And.intro) <;> first | decide +kernel | rfl⟩,
   ⟨{ live with dev.att.chain := [1], dev.att.conns := [({ (default : SpdmConn) with stage := 3, transport := 0, eid := 0xFF, noAlgs := false })] }, { (default : Peer) with transport := 0 }, { (default : SpdmConn) with stage := 3, transport := 0, eid := 0xFF, noAlgs := false }, [],
    by (repeat' apply And.intro) <;> first | decide +kernel | rfl⟩,
   ⟨{ live with dev.att.chain := [1], dev.att.conns := [({ (default : SpdmConn) with stage := 3, transport := 0, eid := 0xFF, noAlgs := false })] }, { (default : Peer) with transport := 0 }, { (default : SpdmConn) with stage := 3, transport := 0, eid := 0xFF, noAlgs := false }, 0, 0, [],
    by (repeat' apply And.intro) <;> first | decide +kernel | rfl⟩,
   ⟨{ live with dev.att.chain := [1], dev.att.conns := [({ (default : SpdmConn) with stage := 3, transport := 0, eid := 0xFF, noAlgs := false })] }, { (default : Peer) with transport := 0 }, { (default : SpdmConn) with stage := 3, transport := 0, eid := 0xFF, noAlgs := false }, 1, 0, 0, [],
    by (repeat' apply And.intro) <;> first | decide +kernel | rfl⟩,
   ⟨{ live with dev.att.chain := [1], dev.att.conns := [({ (default : SpdmConn) with stage := 3, transport := 0, eid := 0xFF, noAlgs := false })] }, { (default : Peer) with transport := 0 }, { (default : SpdmConn) with stage := 3, transport := 0, eid := 0xFF, noAlgs := false }, [], [], 0, false,
    by (repeat' apply And.intro) <;> first | decide +kernel | rfl⟩,
   ⟨{ live with dev.att.chain := [1], dev.att.conns := [({ (default : SpdmConn) with stage := 3, transport := 0, eid := 0xFF, noAlgs := false })] }, { (default : Peer) with transport := 0 }, { (default : SpdmConn) with stage := 3, transport := 0, eid := 0xFF, noAlgs := false }, [], [], 1, 0, false,
    by (repeat' apply And.intro) <;> first | decide +kernel | rfl⟩,
   ⟨{ live with dev.att.chain := [1], dev.att.conns := [({ (default : SpdmConn) with stage := 3, transport := 0, eid := 0xFF })] }, { (default : Peer) with transport := 0 }, { (default : SpdmConn) with stage := 3, transport := 0, eid := 0xFF }, [], [], false,
    by (repeat' apply And.intro) <;> first | decide +kernel | rfl⟩,
   ⟨{ live with dev.att.chain := [1], dev.att.conns := [({ (default : SpdmConn) with stage := 3, transport := 0, eid := 0xFF, noAlgs := false })] }, { (default : Peer) with transport := 0 }, { (default : SpdmConn) with stage := 3, transport := 0, eid := 0xFF, noAlgs := false }, [], [], false,
    by (repeat' apply And.intro) <;> first | decide +kernel | rfl⟩,
   ⟨{ live with dev.att.conns := [({ (default : SpdmConn) with stage := 3, held := some (0, 0, []), transport := 0, eid := 0xFF })] }, { (default : Peer) with transport := 0 }, { (default : SpdmConn) with stage := 3, held := some (0, 0, []), transport := 0, eid := 0xFF }, 0, 0, [],
    by (repeat' apply And.intro) <;> first | decide +kernel | rfl⟩,
   ⟨{ live with dev.att.conns := [({ (default : SpdmConn) with stage := 3, transport := 0, eid := 0xFF, held := none })] }, { (default : Peer) with transport := 0 }, { (default : SpdmConn) with stage := 3, transport := 0, eid := 0xFF, held := none }, 0,
    by exact ⟨by simp only [OnConnection]; decide +kernel, by decide, by intros; simp⟩⟩,
   ⟨{ live with dev.att.conns := [({ (default : SpdmConn) with stage := 3, transport := 0, eid := 0xFF, noAlgs := false })] }, { (default : Peer) with transport := 0 }, { (default : SpdmConn) with stage := 3, transport := 0, eid := 0xFF, noAlgs := false }, 0, [],
    by (repeat' apply And.intro) <;> first | decide +kernel | rfl⟩,
   ⟨{ live with dev.att.conns := [({ (default : SpdmConn) with transport := 0, eid := 0xFF })] }, { (default : Peer) with transport := 0 }, { (default : SpdmConn) with transport := 0, eid := 0xFF }, 0,
    by (repeat' apply And.intro) <;> first | decide +kernel | rfl⟩,
   ⟨{ live with dev.att.conns := [({ (default : SpdmConn) with stage := 2, transport := 0, eid := 0xFF, chunkIn := none })] }, { (default : Peer) with transport := 0 }, { (default : SpdmConn) with stage := 2, transport := 0, eid := 0xFF, chunkIn := none }, 0, [],
    by decide +kernel⟩,
   ⟨{ live with dev.att.conns := [({ (default : SpdmConn) with stage := 2, transport := 0, eid := 0xFF, chunkIn := some ((0), (0), ([])) })] }, { (default : Peer) with transport := 0 }, { (default : SpdmConn) with stage := 2, transport := 0, eid := 0xFF, chunkIn := some ((0), (0), ([])) }, 0, 0, [], [],
    by decide +kernel⟩,
   ⟨{ (default : Peer) with transport := 0x18 }, [], live.dev,
    by decide +kernel⟩,
   ⟨{ live with dev.att.conns := [({ (default : SpdmConn) with stage := 2, transport := 0, eid := 0xFF, chunkIn := some ((0), (0), ([])) })] }, { (default : Peer) with transport := 0 }, { (default : SpdmConn) with stage := 2, transport := 0, eid := 0xFF, chunkIn := some ((0), (0), ([])) }, 0, 0, 1, 0, false, [], [],
    by decide +kernel⟩,
   ⟨{ live with dev.att.conns := [({ (default : SpdmConn) with stage := 2, transport := 0, eid := 0xFF, chunkOut := some ((0), (0) + 1, ([])) })] }, { (default : Peer) with transport := 0 }, { (default : SpdmConn) with stage := 2, transport := 0, eid := 0xFF, chunkOut := some ((0), (0) + 1, ([])) }, 0, 0, [],
    by decide +kernel⟩,
   ⟨{ live with dev.att.conns := [({ (default : SpdmConn) with stage := 2, transport := 0, eid := 0xFF, chunkOut := none })] }, { (default : Peer) with transport := 0 }, { (default : SpdmConn) with stage := 2, transport := 0, eid := 0xFF, chunkOut := none }, 0, 0,
    by decide +kernel⟩,
   ⟨live, default, [], 0, 0, 0,
    by decide +kernel⟩,
   ⟨{ live with dev.att.conns := [({ (default : SpdmConn) with transport := 0, eid := 0xFF })] }, { (default : Peer) with transport := 0 }, { (default : SpdmConn) with transport := 0, eid := 0xFF }, [],
    by (repeat' apply And.intro) <;> first | decide +kernel | rfl⟩,
   ⟨{ live with dev.bat.latch := 1 }, default, [],
    by decide +kernel⟩,
   ⟨{ live with dev.start.phase := .loaded }, default, [], 0, 0,
    by decide +kernel⟩,
   ⟨{ (default : Peer) with transport := 16 }, [], live.dev,
    by decide +kernel⟩,
   ⟨{ live with dev.cx.linkUp := false }, { (default : Peer) with transport := 0 }, [], 0, 0,
    by decide +kernel⟩,
   ⟨{ live with dev.cx.lds := Vector.replicate _ { doeRsp := some ([]) } }, default, [], [], 0, 0,
    by decide +kernel⟩⟩

/-- The hypotheses of RuntimeSweep can be met. -/
theorem test_witness_RuntimeSweep :
    (∃ (s : State) (ld : Ld) (v : Word), cxlUp s.dev = true ∧ field v 0 2 = 1 ∧ registerOutcome s.dev ld (bit v 4) (bit v 5) ≠ 0) ∧
    (∃ (s : State) (ld : Ld) (v : Word), cxlUp s.dev = true ∧ field v 0 2 = 1 ∧ registerOutcome s.dev ld (bit v 4) (bit v 5) = 0) ∧
    (∃ (d : Device) (ld : Nat) (cmp : Bool) (att : Bool), sweepRec (curLeaf d) ld = none) ∧
    (∃ (d : Device) (ld : Nat) (cmp : Bool) (att : Bool) (r : SweepRec), sweepRec (curLeaf d) ld = some r ∧ inWindow (curLeaf d) ld (ldOf d ld).swpBase (ldOf d ld).swpUnits = false) ∧
    (∃ (s : State) (ld : Ld) (v : Word), cxlUp s.dev = true ∧ field v 0 2 = 2 ∧ regionOf s.dev ld (field v 8 6) = none) ∧
    (∃ (s : State) (ld : Ld) (v : Word), cxlUp s.dev = true ∧ field v 0 2 = 2 ∧ regionOf s.dev ld (field v 8 6) ≠ none) ∧
    (∃ (s : State) (ld : Ld) (r : Nat) (g : SweepRegion) (q : SweepRec), mainRuns s.dev = true ∧ regionOf s.dev ld r = some g ∧ (ld.val, r) ∉ s.dev.cx.due ∧ sweepRec (curLeaf s.dev) ld = some q ∧ ((∀ t, g.started = some t → t + max g.period q.minPeriodMs ≤ vget s.dev.cx.millis ld))) ∧
    (∃ (s : State) (ld : Ld) (r : Nat) (t : Nat) (g : SweepRegion), regionOf s.dev ld r = some g ∧ g.started = some t ∧ vget s.dev.cx.millis ld < t + g.period) ∧
    (∃ (s : State) (r : SweepRegion), MayRead s.dev 1 ∧ nextPass s.dev = some r) ∧
    (∃ (s : State) (h : Hart), MayRead s.dev h ∧ h ≠ 1) ∧
    (∃ (s : State) (v : Word) (c : Context) (ld : Nat) (no : Nat), MayWrite s.dev 1 12 ∧ bit v 31 = true ∧ s.dev.cx.popped = some (ld, no) ∧ regionOf s.dev ld no ≠ none ∧ passOf s.dev ld = none ∧ (ld, no) ∈ s.dev.cx.due ∧ sweepCtxOk s.dev (field v 0 12) = true ∧ ctxOf s.dev.dg (field v 0 12) = some c) ∧
    (∃ (s : State) (h : Hart) (v : Word), MayWrite s.dev h 12 ∧ h ≠ 1) ∧
    (∃ (s : State) (ld : Ld) (off : Nat) (st : Nat) (b : List Byte) (p : SweepPass), passOf s.dev ld = some p ∧ mainRuns s.dev = true ∧ off % 256 = 0 ∧ p.delivered ≤ off ∧ off < p.issued ∧ ((∀ a ∈ p.arrived, a.1 ≠ off)) ∧ st ≠ 0) ∧
    (∃ (s : State) (ld : Ld) (off : Nat) (st : Nat) (b : List Byte) (p : SweepPass), passOf s.dev ld = some p ∧ ((off < p.delivered ∨ p.issued ≤ off))) ∧
    (∃ (s : State) (ld : Ld) (b : List Byte) (p : SweepPass) (q : SweepPass) (g : SweepRegion), passOf s.dev ld = some p ∧ mainRuns s.dev = true ∧ p.delivered % 256 = 0 ∧ p.delivered < p.issued ∧ p.arrived = [] ∧ passOf (sweepFaults (deliverReads 1025 ld (setPass { p with arrived := [(p.delivered, padTo 256 b)] } s.dev))) ld = some q ∧ regionOf (sweepFaults (deliverReads 1025 ld (setPass { p with arrived := [(p.delivered, padTo 256 b)] } s.dev))) ld p.no = some g) ∧
    (∃ (s : State) (ld : Ld) (p : SweepPass), passOf s.dev ld = some p ∧ mainRuns s.dev = true ∧ p.delivered + arrivedBytes p < p.issued) ∧
    (∃ (s : State) (ld : Ld) (r : SweepRec), sweepRec (curLeaf s.dev) ld = some r ∧ mainRuns s.dev = true) ∧
    (∃ (s : State) (e : SweepEnd) (tl : List SweepEnd), MayRead s.dev 1 ∧ s.dev.cx.ends = e :: tl) ∧
    (∃ (s : State) (v : Word), MayWrite s.dev 1 12 ∧ bit v 31 = true) ∧
    (∃ (d : Device) (ld : Nat) (no : Nat) (result : Nat) (cause : Nat) (r : SweepRegion), regionOf d ld no = some r) :=
  ⟨⟨live, 0, 0x1,
    by decide +kernel⟩,
   ⟨{ live with dev.tx.leafEven.sweeps := [sweepRec0], dev.cx.lds := Vector.replicate _ { swpUnits := 1 } }, 0, 0x1,
    by decide +kernel⟩,
   ⟨live.dev, 0, false, false,
    by decide +kernel⟩,
   ⟨{ live.dev with tx.leafEven.sweeps := [sweepRec0], cx.lds := Vector.replicate _ { swpUnits := 0x1000 } }, 0, false, false, sweepRec0,
    by decide +kernel⟩,
   ⟨live, 0, 0x2,
    by decide +kernel⟩,
   ⟨{ live with dev.cx.regions := [region0] }, 0, 0x2,
    by decide +kernel⟩,
   ⟨{ live with dev.cx.regions := [region0], dev.tx.leafEven.sweeps := [sweepRec0] }, 0, 0, region0, sweepRec0,
    by exact ⟨rfl, rfl, by decide, rfl, fun t h => by cases h⟩⟩,
   ⟨{ live with dev.cx.regions := [{ region0 with started := some 0, period := 1 }] }, 0, 0, 0, { region0 with started := some 0, period := 1 },
    by decide +kernel⟩,
   ⟨{ live with dev.cx.regions := [region0], dev.cx.due := [(0, 0)] }, region0,
    by (repeat' apply And.intro) <;> first | decide +kernel | rfl⟩,
   ⟨live, 0,
    by (repeat' apply And.intro) <;> first | decide +kernel | rfl⟩,
   ⟨{ live with dev.cx.regions := [region0], dev.cx.due := [(0, 0)], dev.dg.ctxs := [{ (default : Context) with owner := 0x11, state := .absorbing, source := 1, cls := 3 }], dev.cx.popped := some ((0), (0)) }, 0x80000000, { (default : Context) with owner := 0x11, state := .absorbing, source := 1, cls := 3 }, 0, 0,
    by (repeat' apply And.intro) <;> first | decide +kernel | rfl⟩,
   ⟨live, 0, 0,
    by (repeat' apply And.intro) <;> first | decide +kernel | rfl⟩,
   ⟨{ live with dev.cx.passes := [{ ld := 0, no := 0, ctx := 0, issued := 512, delivered := 0, arrived := [], oldUpTo := 0 }] }, 0, 0, 1, [], { ld := 0, no := 0, ctx := 0, issued := 512, delivered := 0, arrived := [], oldUpTo := 0 },
    by decide +kernel⟩,
   ⟨{ live with dev.cx.passes := [{ ld := 0, no := 0, ctx := 0, issued := 512, delivered := 0, arrived := [], oldUpTo := 0 }] }, 0, 512, 0, [], { ld := 0, no := 0, ctx := 0, issued := 512, delivered := 0, arrived := [], oldUpTo := 0 },
    by decide +kernel⟩,
   ⟨{ live with dev.cx.passes := [{ ld := 0, no := 0, ctx := 0, issued := 512, delivered := 0, arrived := [], oldUpTo := 0 }], dev.cx.regions := [region0], dev.dg.ctxs := [{ (default : Context) with owner := 0x11, state := .absorbing, source := 1, cls := 3, tap := some { kind := 4, dev := 0, start := 0, next := 0 } }] }, 0, [], { ld := 0, no := 0, ctx := 0, issued := 512, delivered := 0, arrived := [], oldUpTo := 0 }, { ld := 0, no := 0, ctx := 0, issued := 512, delivered := 256, arrived := [], oldUpTo := 0 }, region0,
    by decide +kernel⟩,
   ⟨{ live with dev.cx.passes := [{ ld := 0, no := 0, ctx := 0, issued := 512, delivered := 0, arrived := [], oldUpTo := 0 }] }, 0, { ld := 0, no := 0, ctx := 0, issued := 512, delivered := 0, arrived := [], oldUpTo := 0 },
    by decide +kernel⟩,
   ⟨{ live with dev.tx.leafEven.sweeps := [sweepRec0] }, 0, sweepRec0,
    by decide +kernel⟩,
   ⟨{ live with dev.cx.ends := (default) :: (default) }, default, default,
    by (repeat' apply And.intro) <;> first | decide +kernel | rfl⟩,
   ⟨live, 0x80000000,
    by (repeat' apply And.intro) <;> first | decide +kernel | rfl⟩,
   ⟨{ live.dev with cx.regions := [region0] }, 0, 0, 0, 0, region0,
    by decide +kernel⟩⟩

/-- The hypotheses of I3cPorts can be met. -/
theorem test_witness_I3cPorts :
    (∃ (s : State) (m : Mport) (c : Nat), cccAlive s.dev m = true) ∧
    (∃ (s : State) (m : Mport) (c : Nat) (v : Word) (old : Bool), cccAlive s.dev m = true ∧ (i3cAt s.dev m).select = some c) ∧
    (∃ (s : State) (m : Mport) (c : Nat) (v : Word) (old : Bool), islandUp s.dev = true ∧ i3cMode s.dev m = 2) ∧
    (∃ (d : Device) (m : Mport) (c : Nat) (v : Word) (r : ChannelRec), channelOf (curLeaf d) c = some r ∧ r.sender = portAid m ∧ (chanAt d c).full = false) ∧
    (∃ (d : Device) (m : Mport) (c : Nat) (v : Word) (r : ChannelRec), channelOf (curLeaf d) c = some r ∧ r.sender = portAid m ∧ (chanAt d c).full = true) ∧
    (∃ (d : Device) (m : Mport) (c : Nat) (v : Word), sends (curLeaf d) (portAid m) c = false) ∧
    (∃ (d : Device) (m : Mport) (c : Nat) (v : Word), endsMoved d c = true ∧ sends (postLeaf d true) (portAid m) c = true) ∧
    (∃ (d : Device) (m : Mport) (c : Nat) (v : Word), sends (postLeaf d true) (portAid m) c = false) ∧
    (∃ (s : State) (m : Mport) (c : Nat), cccAlive s.dev m = true ∧ (i3cAt s.dev m).select = some c) ∧
    (∃ (s : State) (m : Mport), cccAlive s.dev m = true ∧ (i3cAt s.dev m).select = none) ∧
    (∃ (s : State) (m : Mport) (c : Nat), islandUp s.dev = true ∧ i3cMode s.dev m = 2 ∧ receives (curLeaf s.dev) (portAid m) c = true) ∧
    (∃ (s : State) (m : Mport) (c : Nat), receives (curLeaf s.dev) (portAid m) c = false) ∧
    (∃ (s : State) (m : Mport) (i : Nat) (rest : List Nat), cccAlive s.dev m = true ∧ (i3cAt s.dev m).ibis = i :: rest ∧ i ≠ pendingRead) ∧
    (∃ (s : State) (m : Mport) (i : Nat) (rest : List Nat), cccAlive s.dev m = true ∧ (i3cAt s.dev m).ibis = i :: rest) ∧
    (∃ (s : State) (m : Mport) (a : Bool), (i3cAt s.dev m).ibis = []) ∧
    (∃ (s : State) (m : Mport) (c : Nat), cccAlive s.dev m = false) ∧
    (∃ (s : State) (m : Mport), cccAwake s.dev m = true) ∧
    (∃ (s : State) (m : Mport) (n : Nat), cccAwake s.dev m = true) ∧
    (∃ (s : State) (m : Mport) (a : Nat), cccAwake s.dev m = true ∧ (i3cAt s.dev m).daValid = false) ∧
    (∃ (s : State) (m : Mport) (k : Nat) (a : Nat), cccAwake s.dev m = true ∧ k ≠ i3cStatic s.dev m) ∧
    (∃ (s : State) (m : Mport) (k : Nat) (a : Nat), cccAwake s.dev m = true ∧ (i3cAt s.dev m).daValid = true) ∧
    (∃ (s : State) (m : Mport), cccAlive s.dev m = true) ∧
    (∃ (s : State) (m : Mport), cccAwake s.dev m = true ∧ ((i3cAt s.dev m).rstAction = 1 ∨ (i3cAt s.dev m).rstAction = 2)) ∧
    (∃ (s : State) (m : Mport), cccAwake s.dev m = true ∧ (i3cAt s.dev m).rstAction = 0) ∧
    (∃ (s : State) (m : Mport), cccAwake s.dev m = false) :=
  ⟨⟨{ live with dev.tx.leafEven.pins := [pin1] }, 0, 0,
    by decide +kernel⟩,
   ⟨{ live with dev.tx.leafEven.pins := [pin1], dev.mg := Vector.replicate _ { select := some (0) } }, 0, 0, 0, false,
    by decide +kernel⟩,
   ⟨{ live with dev.tx.leafEven.pins := [{ kind := 2, index := 0, function := 2, param := 0 }] }, 0, 0, 0, false,
    by decide +kernel⟩,
   ⟨{ live.dev with tx.leafEven.channels := [({ (default : ChannelRec) with sender := portAid (0) })], mb.chans := Vector.replicate _ { full := false } }, 0, 0, 0, { (default : ChannelRec) with sender := portAid (0) },
    by decide +kernel⟩,
   ⟨{ live.dev with tx.leafEven.channels := [({ (default : ChannelRec) with sender := portAid (0) })], mb.chans := Vector.replicate _ { full := true } }, 0, 0, 0, { (default : ChannelRec) with sender := portAid (0) },
    by decide +kernel⟩,
   ⟨live.dev, 0, 0, 0,
    by decide +kernel⟩,
   ⟨{ live.dev with tx.leafOdd := { leaf0 with channels := [{ channel0 with sender := 0x18 }] }, tx.leafEven.channels := [] }, 0, 0, 0,
    by decide +kernel⟩,
   ⟨live.dev, 0, 0, 0,
    by decide +kernel⟩,
   ⟨{ live with dev.tx.leafEven.pins := [pin1], dev.mg := Vector.replicate _ { select := some (0) } }, 0, 0,
    by decide +kernel⟩,
   ⟨{ live with dev.tx.leafEven.pins := [pin1], dev.mg := Vector.replicate _ { select := none } }, 0,
    by decide +kernel⟩,
   ⟨{ live with dev.tx.leafEven.channels := [{ channel0 with receiver := 0x18 }], dev.tx.leafEven.pins := [{ kind := 2, index := 0, function := 2, param := 0 }] }, 0, 0,
    by decide +kernel⟩,
   ⟨live, 0, 0,
    by decide +kernel⟩,
   ⟨{ live with dev.tx.leafEven.pins := [pin1], dev.mg := Vector.replicate _ { ibis := (0) :: ([]) } }, 0, 0, [],
    by decide +kernel⟩,
   ⟨{ live with dev.tx.leafEven.pins := [pin1], dev.mg := Vector.replicate _ { ibis := (0) :: ([]) } }, 0, 0, [],
    by decide +kernel⟩,
   ⟨{ live with dev.mg := Vector.replicate _ { ibis := [] } }, 0, false,
    by decide +kernel⟩,
   ⟨live, 0, 0,
    by decide +kernel⟩,
   ⟨{ live with dev.tx.leafEven.pins := [pin1] }, 0,
    by decide +kernel⟩,
   ⟨{ live with dev.tx.leafEven.pins := [pin1] }, 0, 0,
    by decide +kernel⟩,
   ⟨{ live with dev.tx.leafEven.pins := [pin1], dev.mg := Vector.replicate _ { daValid := false } }, 0, 0,
    by decide +kernel⟩,
   ⟨{ live with dev.tx.leafEven.pins := [pin1] }, 0, 1, 0,
    by decide +kernel⟩,
   ⟨{ live with dev.tx.leafEven.pins := [pin1], dev.mg := Vector.replicate _ { daValid := true } }, 0, 0, 0,
    by decide +kernel⟩,
   ⟨{ live with dev.tx.leafEven.pins := [pin1] }, 0,
    by decide +kernel⟩,
   ⟨{ live with dev.tx.leafEven.pins := [pin1], dev.mg := Vector.replicate _ { rstAction := 1 } }, 0,
    by decide +kernel⟩,
   ⟨{ live with dev.tx.leafEven.pins := [pin1], dev.mg := Vector.replicate _ { rstAction := 0 } }, 0,
    by decide +kernel⟩,
   ⟨live, 0,
    by decide +kernel⟩⟩

/-- The hypotheses of MctpTransport can be met. -/
theorem test_witness_MctpTransport :
    (∃ (s : State) (m : Mport) (pk : McPacket) (d : Device), mainUp s.dev = true ∧ i3cMode s.dev m ≠ 0 ∧ drainPackets m s.dev = d ∧ (i3cAt d m).rx.length < 32) ∧
    (∃ (s : State) (m : Mport) (pk : McPacket) (d : Device), mainUp s.dev = true ∧ i3cMode s.dev m ≠ 0 ∧ drainPackets m s.dev = d ∧ 32 ≤ (i3cAt d m).rx.length) ∧
    (∃ (m : Mport) (d : Device), (portServed d m = false ∨ (i3cAt d m).rx = [])) ∧
    (∃ (s : State) (m : Mport) (pk : McPacket), mainUp s.dev = false) ∧
    (∃ (d : Device) (m : Mport) (pk : McPacket), pk.pecOk = false ∧ dropped (i3cAt d m) pk = false) ∧
    (∃ (d : Device) (m : Mport) (pk : McPacket), pk.pecOk = true ∧ pk.som = false ∧ dropped (i3cAt d m) pk = false ∧ (i3cAt d m).asm.find? (fun a => a.src == pk.src && a.tag == pk.tag) = none) ∧
    (∃ (d : Device) (m : Mport) (pk : McPacket), dropped (i3cAt d m) pk = true) ∧
    (∃ (d : Device) (m : Mport) (pk : McPacket), pk.pecOk = true ∧ pk.som = true ∧ pk.eom = true ∧ (i3cAt d m).asm.find? (fun a => a.src == pk.src && a.tag == pk.tag) = none ∧ pk.payload.length ≤ 1280 ∧ mctpAccepted pk.payload = true) ∧
    (∃ (d : Device) (m : Mport) (bs : List Byte), bs.length ≤ 64 ∧ bs ≠ []) ∧
    (∃ (s : State) (m : Mport) (op : Nat) (eid : Nat), PortServed s.dev m ∧ 0 < eid ∧ eid < 255 ∧ op < 2) ∧
    (∃ (s : State) (m : Mport) (op : Nat) (eid : Nat), PortServed s.dev m ∧ ((eid = 0 ∨ 255 ≤ eid ∨ 2 ≤ op))) ∧
    (∃ (s : State) (m : Mport), PortServed s.dev m) ∧
    (∃ (s : State) (m : Mport) (t : Nat), PortServed s.dev m ∧ ((t = 0xFF ∨ t = 0x00 ∨ t = 0x05 ∨ t = 0x7E))) ∧
    (∃ (s : State) (m : Mport), mainUp s.dev = true ∧ i3cMode s.dev m = 2 ∧ (i3cAt s.dev m).tx = []) ∧
    (∃ (s : State) (m : Mport) (pk : List Byte) (rest : List (List Byte)), mainUp s.dev = true ∧ i3cMode s.dev m = 2 ∧ (i3cAt s.dev m).tx = pk :: rest) ∧
    (∃ (s : State) (m : Mport) (pk : List Byte), cccAlive s.dev m = true ∧ (i3cAt s.dev m).ibis = [pendingRead] ∧ (i3cAt s.dev m).tx = [pk]) ∧
    (∃ (s : State) (m : Mport), portServed s.dev m = false) :=
  ⟨⟨{ i3cLive with dev.tx.leafEven.pins := [{ kind := 2, index := 0, function := 1, param := 0 }] }, 0, default, drainPackets 0 i3cLive.dev,
    by decide +kernel⟩,
   ⟨{ i3cFull with dev.tx.leafEven.pins := [{ kind := 2, index := 0, function := 1, param := 0 }] }, 0, default, drainPackets 0 i3cFull.dev,
    by decide +kernel⟩,
   ⟨0, live.dev,
    by decide +kernel⟩,
   ⟨{ live with dev.power.state := .standby }, 0, default,
    by decide +kernel⟩,
   ⟨live.dev, 0, { (default : McPacket) with pecOk := false },
    by decide +kernel⟩,
   ⟨live.dev, 0, { (default : McPacket) with pecOk := true, som := false },
    by decide +kernel⟩,
   ⟨{ live.dev with mg := Vector.replicate _ { dropping := [(0, 0)] } }, 0, default,
    by decide +kernel⟩,
   ⟨live.dev, 0, { (default : McPacket) with pecOk := true, som := true, eom := true },
    by decide +kernel⟩,
   ⟨live.dev, 0, [0],
    by decide +kernel⟩,
   ⟨{ live with dev.tx.leafEven.pins := [{ kind := 2, index := 0, function := 1, param := 0 }] }, 0, 0, 1,
    by (repeat' apply And.intro) <;> first | decide +kernel | rfl⟩,
   ⟨{ live with dev.tx.leafEven.pins := [{ kind := 2, index := 0, function := 1, param := 0 }] }, 0, 0, 0,
    by (repeat' apply And.intro) <;> first | decide +kernel | rfl⟩,
   ⟨{ live with dev.tx.leafEven.pins := [{ kind := 2, index := 0, function := 1, param := 0 }] }, 0,
    by (repeat' apply And.intro) <;> first | decide +kernel | rfl⟩,
   ⟨{ live with dev.tx.leafEven.pins := [{ kind := 2, index := 0, function := 1, param := 0 }] }, 0, 0,
    by (repeat' apply And.intro) <;> first | decide +kernel | rfl⟩,
   ⟨{ live with dev.tx.leafEven.pins := [{ kind := 2, index := 0, function := 2, param := 0 }], dev.mg := Vector.replicate _ { tx := [] } }, 0,
    by decide +kernel⟩,
   ⟨{ live with dev.start.phase := .loaded, dev.tx.leafEven.pins := [{ kind := 2, index := 0, function := 2, param := 0 }], dev.mg := Vector.replicate _ { tx := ([]) :: (default) } }, 0, [], default,
    by decide +kernel⟩,
   ⟨{ live with dev.tx.leafEven.pins := [pin1], dev.mg := Vector.replicate _ { ibis := [pendingRead], tx := [([])] } }, 0, [],
    by decide +kernel⟩,
   ⟨{ live with dev.start.phase := .loaded }, 0,
    by decide +kernel⟩⟩

/-- The hypotheses of FjarlinMessages can be met. -/
theorem test_witness_FjarlinMessages :
    (∃ (s : State) (m : Mport) (tag : Nat), PortServed s.dev m) ∧
    (∃ (s : State) (m : Mport) (tag : Nat) (kind : Nat) (len : Nat), PortServed s.dev m ∧ (i3cAt s.dev m).session = none ∧ beginOutcome s.dev m kind len = 0) ∧
    (∃ (s : State) (m : Mport) (tag : Nat) (kind : Nat) (len : Nat), PortServed s.dev m ∧ (i3cAt s.dev m).session = none ∧ beginOutcome s.dev m kind len = 2) ∧
    (∃ (s : State) (m : Mport) (tag : Nat) (off : Nat) (b : List Byte) (t : Transfer), PortServed s.dev m ∧ (i3cAt s.dev m).session = some t ∧ off = t.data.length ∧ b.length ≤ 1024 ∧ off + b.length ≤ t.len) ∧
    (∃ (s : State) (m : Mport) (tag : Nat) (off : Nat) (b : List Byte), PortServed s.dev m ∧ ((i3cAt s.dev m).session = none ∨ (∃ t, (i3cAt s.dev m).session = some t ∧ (off ≠ t.data.length ∨ 1024 < b.length ∨ t.len < off + b.length)))) ∧
    (∃ (s : State) (m : Mport) (tag : Nat) (fault : Nat) (t : Transfer), PortServed s.dev m ∧ (i3cAt s.dev m).session = some t ∧ (i3cAt s.dev m).ending = none ∧ t.data.length = t.len ∧ consumerBusy s.dev t = false) ∧
    (∃ (s : State) (m : Mport) (tag : Nat) (fault : Nat), PortServed s.dev m ∧ ((i3cAt s.dev m).session = none ∨ (∃ t, (i3cAt s.dev m).session = some t ∧ t.data.length < t.len))) ∧
    (∃ (s : State) (m : Mport) (tag : Nat) (fault : Nat) (t : Transfer), PortServed s.dev m ∧ (i3cAt s.dev m).session = some t ∧ t.len ≤ t.data.length ∧ ((i3cAt s.dev m).ending ≠ none ∨ consumerBusy s.dev t = true)) ∧
    (∃ (d : Device) (m : Mport) (t : Transfer) (fault : Nat), d.start.phase ≠ .recovery) ∧
    (∃ (d : Device) (m : Mport) (t : Transfer) (e : Nat × Nat × Nat) (out : Nat) (check : Nat), (i3cAt d m).ending = some e ∧ (i3cAt d m).session = some t) ∧
    (∃ (s : State) (m : Mport) (tag : Nat) (sheet : Nat) (off : Nat) (len : Nat) (p : Nat), PortServed s.dev m ∧ fjFull s.dev = true ∧ len ≤ 1024 ∧ off + len ≤ 0x2000 ∧ positionOf s.dev.mem s.dev.lg.bad sheet = some p ∧ coversSheet s.dev (portAid m) p = true ∧ rangeBroken s.dev (sheetAddr p + off) len = false) ∧
    (∃ (s : State) (m : Mport) (tag : Nat) (sheet : Nat) (off : Nat) (len : Nat) (p : Nat), PortServed s.dev m ∧ fjFull s.dev = true ∧ len ≤ 1024 ∧ off + len ≤ 0x2000 ∧ positionOf s.dev.mem s.dev.lg.bad sheet = some p ∧ coversSheet s.dev (portAid m) p = false) ∧
    (∃ (s : State) (m : Mport) (tag : Nat) (n : Word) (g : List Byte), PortServed s.dev m ∧ fjFull s.dev = true) ∧
    (∃ (s : State) (m : Mport) (tag : Nat), PortServed s.dev m ∧ fjFull s.dev = true) ∧
    (∃ (s : State) (m : Mport) (tag : Nat) (first : Nat) (n : Nat), PortServed s.dev m ∧ fjFull s.dev = true ∧ n ≤ 16 ∧ first + n ≤ 65536) ∧
    (∃ (d : Device) (aid : Nat) (j : Nat), coversSource d aid (bufLe (memRead d.mem (recordAddr j) 64) 14 1) = false) ∧
    (∃ (s : State) (m : Mport) (tag : Nat) (n : Word), PortServed s.dev m ∧ fjFull s.dev = true) ∧
    (∃ (s : State) (m : Mport) (tag : Nat) (first : Nat) (n : Nat), PortServed s.dev m ∧ fjFull s.dev = false) :=
  ⟨⟨{ live with dev.tx.leafEven.pins := [{ kind := 2, index := 0, function := 1, param := 0 }] }, 0, 0,
    by (repeat' apply And.intro) <;> first | decide +kernel | rfl⟩,
   ⟨{ live with dev.tx.leafEven.rights := [{ rights0 with aid := 0x18 }], dev.tx.leafEven.pins := [{ kind := 2, index := 0, function := 1, param := 0 }], dev.mg := Vector.replicate _ { session := none } }, 0, 0, 1, 1,
    by (repeat' apply And.intro) <;> first | decide +kernel | rfl⟩,
   ⟨{ live with dev.tx.leafEven.pins := [{ kind := 2, index := 0, function := 1, param := 0 }], dev.mg := Vector.replicate _ { session := none } }, 0, 0, 0, 0,
    by (repeat' apply And.intro) <;> first | decide +kernel | rfl⟩,
   ⟨{ live with dev.tx.leafEven.pins := [{ kind := 2, index := 0, function := 1, param := 0 }], dev.mg := Vector.replicate _ { session := some ({ kind := 1, len := 4096, data := [] }) } }, 0, 0, 0, [1], { kind := 1, len := 4096, data := [] },
    by (repeat' apply And.intro) <;> first | decide +kernel | rfl⟩,
   ⟨{ live with dev.tx.leafEven.pins := [{ kind := 2, index := 0, function := 1, param := 0 }], dev.mg := Vector.replicate _ { session := none } }, 0, 0, 0, [],
    by (repeat' apply And.intro) <;> first | decide +kernel | rfl⟩,
   ⟨{ live with dev.tx.leafEven.pins := [{ kind := 2, index := 0, function := 1, param := 0 }], dev.mg := Vector.replicate _ { session := some (default), ending := none } }, 0, 0, 0, default,
    by (repeat' apply And.intro) <;> first | decide +kernel | rfl⟩,
   ⟨{ live with dev.tx.leafEven.pins := [{ kind := 2, index := 0, function := 1, param := 0 }], dev.mg := Vector.replicate _ { session := none } }, 0, 0, 0,
    by (repeat' apply And.intro) <;> first | decide +kernel | rfl⟩,
   ⟨{ live with dev.mg := Vector.replicate _ { session := some default, ending := some (0, 0, 0) }, dev.tx.leafEven.pins := [{ kind := 2, index := 0, function := 1, param := 0 }] }, 0, 0, 0, default,
    by (repeat' apply And.intro) <;> first | decide +kernel | rfl⟩,
   ⟨live.dev, 0, default, 0,
    by decide +kernel⟩,
   ⟨{ live.dev with mg := Vector.replicate _ { ending := some (default), session := some (default) } }, 0, default, default, 0, 0,
    by decide +kernel⟩,
   ⟨{ live with dev.mem := sheetMem, dev.tx.leafEven.pins := [{ kind := 2, index := 0, function := 1, param := 0 }] }, 0, 0, 0, 0, 0, 0,
    by (repeat' apply And.intro) <;> first | decide +kernel | rfl⟩,
   ⟨{ live with dev.mem := sheetMem, dev.tx.leafEven.rights := [], dev.tx.leafEven.pins := [{ kind := 2, index := 0, function := 1, param := 0 }] }, 0, 0, 0, 0, 0, 0,
    by (repeat' apply And.intro) <;> first | decide +kernel | rfl⟩,
   ⟨{ live with dev.tx.leafEven.pins := [{ kind := 2, index := 0, function := 1, param := 0 }] }, 0, 0, 0, [],
    by (repeat' apply And.intro) <;> first | decide +kernel | rfl⟩,
   ⟨{ live with dev.tx.leafEven.pins := [{ kind := 2, index := 0, function := 1, param := 0 }] }, 0, 0,
    by (repeat' apply And.intro) <;> first | decide +kernel | rfl⟩,
   ⟨{ live with dev.tx.leafEven.pins := [{ kind := 2, index := 0, function := 1, param := 0 }] }, 0, 0, 0, 0,
    by (repeat' apply And.intro) <;> first | decide +kernel | rfl⟩,
   ⟨live.dev, 5, 0,
    by decide +kernel⟩,
   ⟨{ live with dev.tx.leafEven.pins := [{ kind := 2, index := 0, function := 1, param := 0 }] }, 0, 0, 0,
    by (repeat' apply And.intro) <;> first | decide +kernel | rfl⟩,
   ⟨{ live with dev.tx.fabricLive := false, dev.tx.leafEven.pins := [{ kind := 2, index := 0, function := 1, param := 0 }] }, 0, 0, 0, 0,
    by (repeat' apply And.intro) <;> first | decide +kernel | rfl⟩⟩

/-- The hypotheses of CardPort can be met. -/
theorem test_witness_CardPort :
    (∃ (s : State) (v : Word), MayWrite s.dev 3 14 ∧ s.dev.cd.busy = true) ∧
    (∃ (s : State) (v : Word), MayWrite s.dev 3 14 ∧ s.dev.cd.busy = false ∧ bit v 31 = false) ∧
    (∃ (s : State) (v : Word), MayWrite s.dev 3 14 ∧ s.dev.cd.busy = false ∧ bit v 31 = true ∧ field v 8 3 ≠ 0 ∧ writeProtected (slotAt s.dev (field (v &&& 0x000037FF) 6 2)) (field (v &&& 0x000037FF) 0 6) = false ∧ windowOk (modCd (fun c => { c with cmd := v &&& 0x000037FF }) s.dev) = true ∧ unsettled s.dev (field (v &&& 0x000037FF) 6 2) = false) ∧
    (∃ (s : State) (v : Word), MayWrite s.dev 3 14 ∧ s.dev.cd.busy = false ∧ bit v 31 = true ∧ writeProtected (slotAt s.dev (field (v &&& 0x000037FF) 6 2)) (field (v &&& 0x000037FF) 0 6) = false ∧ windowOk (modCd (fun c => { c with cmd := v &&& 0x000037FF }) s.dev) = true ∧ unsettled s.dev (field (v &&& 0x000037FF) 6 2) = true) ∧
    (∃ (s : State) (k : Slot), mainRuns s.dev = true ∧ hasBit s.dev.cdStat.powered k = true ∧ s.dev.cd.phase = .settling ∧ cmdSlot s.dev.cd = k.val ∧ field s.dev.cd.cmd 8 3 ≠ 0) ∧
    (∃ (s : State) (v : Word), MayWrite s.dev 3 14 ∧ s.dev.cd.busy = false ∧ bit v 31 = true ∧ writeProtected (slotAt s.dev (field (v &&& 0x000037FF) 6 2)) (field (v &&& 0x000037FF) 0 6) = true) ∧
    (∃ (s : State) (v : Word), MayWrite s.dev 3 14 ∧ s.dev.cd.busy = false ∧ bit v 31 = true ∧ writeProtected (slotAt s.dev (field (v &&& 0x000037FF) 6 2)) (field (v &&& 0x000037FF) 0 6) = false ∧ windowOk (modCd (fun c => { c with cmd := v &&& 0x000037FF }) s.dev) = false) ∧
    (∃ (s : State) (h : Hart) (v : Word), MayWrite s.dev h 14 ∧ h ≠ 3 ∧ (¬ (h = 0 ∧ s.dev.start.phase = .recovery))) ∧
    (∃ (s : State) (b : List Byte), mainRuns s.dev = true ∧ s.dev.cd.phase = .response ∧ s.dev.cd.checkCmd2 = false ∧ field s.dev.cd.cmd 8 3 ≠ 4) ∧
    (∃ (s : State) (b : List Byte), mainRuns s.dev = true ∧ s.dev.cd.phase = .response ∧ s.dev.cd.checkCmd2 = false ∧ cmdIndex s.dev.cd ≠ 3 ∧ cmdIndex s.dev.cd ≠ 9) ∧
    (∃ (s : State) (b : List Byte) (ok : Bool), mainRuns s.dev = true ∧ s.dev.cd.phase = .response ∧ s.dev.cd.checkCmd2 = true) ∧
    (∃ (s : State), mainRuns s.dev = true ∧ s.dev.cd.phase = .response ∧ s.dev.cd.checkCmd2 = false) ∧
    (∃ (s : State) (b : List Byte), mainRuns s.dev = true ∧ s.dev.cd.phase = .read) ∧
    (∃ (s : State) (b : List Byte), mainRuns s.dev = true ∧ s.dev.cd.phase = .read ∧ s.dev.cd.abandoned = true) ∧
    (∃ (s : State) (b : List Byte), mainRuns s.dev = true ∧ s.dev.cd.phase = .read ∧ s.dev.cd.abandoned = false) ∧
    (∃ (s : State), mainRuns s.dev = true ∧ s.dev.cd.phase = .writeData) ∧
    (∃ (s : State), mainRuns s.dev = true ∧ s.dev.cd.phase = .busy) ∧
    (∃ (s : State), mainRuns s.dev = true ∧ s.dev.cd.phase = .hold) ∧
    (∃ (s : State), s.dev.cd.phase = .none) ∧
    (∃ (s : State) (k : Slot) (c : Card), s.dev.pins.vstby = false) ∧
    (∃ (s : State) (k : Slot) (c : Card), s.dev.pins.vstby = true ∧ hasBit s.dev.cdStat.present k = true) ∧
    (∃ (s : State) (k : Slot) (c : Card), s.dev.pins.vstby = true ∧ hasBit s.dev.cdStat.present k = false) ∧
    (∃ (d : Device) (k : Nat) (c : Card), unusable d.cd.mode k c ≠ 0) ∧
    (∃ (d : Device) (k : Nat) (c : Card), unusable d.cd.mode k c = 0 ∧ c.secondAnswer = false) ∧
    (∃ (d : Device) (k : Nat) (f : Card → Device → Device), (¬ (d.cd.mode = 2 ∧ k ≠ 0)) ∧ hasBit d.cdStat.poweringOff k = false ∧ (slotAt d k).state = 2 ∧ hasBit d.cdStat.powered k = true) ∧
    (∃ (d : Device) (k : Nat) (f : Card → Device → Device), (¬ (d.cd.mode = 2 ∧ k ≠ 0)) ∧ hasBit d.cdStat.poweringOff k = false ∧ (slotAt d k).state ≠ 2 ∧ (d.cd.mode ≠ 0 ∨ d.cdStat.powered = 0)) ∧
    (∃ (d : Device), attached d = true ∧ hartUp d 3 = true ∧ d.cd.busy = false ∧ d.cdWin.taken = false ∧ d.start.resetKind = 2) ∧
    (∃ (s : State) (k : Slot), s.dev.pins.vstby = true ∧ hasBit s.dev.cdStat.present k = true ∧ mainUp s.dev = true ∧ s.dev.cd.busy = true ∧ cmdSlot s.dev.cd = k.val) ∧
    (∃ (s : State) (k : Slot), hasBit s.dev.cdStat.present k = false) ∧
    (∃ (s : State) (k : Slot), mainRuns s.dev = true ∧ hasBit s.dev.cdStat.powered k = true ∧ s.dev.cd.phase ≠ .settling) ∧
    (∃ (s : State) (k : Slot), hasBit s.dev.cdStat.powered k = false) ∧
    (∃ (s : State) (cause : Nat), mainRuns s.dev = true ∧ 1 ≤ cause ∧ cause ≤ 3) ∧
    (∃ (s : State) (cause : Nat), (cause = 0 ∨ 4 ≤ cause)) :=
  ⟨⟨{ live with dev.cd.busy := true }, 0,
    by (repeat' apply And.intro) <;> first | decide +kernel | rfl⟩,
   ⟨{ live with dev.cd.busy := false }, 0,
    by (repeat' apply And.intro) <;> first | decide +kernel | rfl⟩,
   ⟨{ live with dev.cdWin := { base := 0x20000000, len := 0x1000 }, dev.cd.busy := false }, 0x80000100,
    by (repeat' apply And.intro) <;> first | decide +kernel | rfl⟩,
   ⟨{ live with dev.cdStat.powered := 1, dev.cd.busy := false }, 0x80000000,
    by (repeat' apply And.intro) <;> first | decide +kernel | rfl⟩,
   ⟨{ live with dev.cdStat.powered := 1, dev.cd.cmd := 0x100, dev.cd.phase := .settling }, 0,
    by decide +kernel⟩,
   ⟨{ live with dev.cd.slots := Vector.replicate _ { permWp := true }, dev.cd.busy := false }, 0x80000018,
    by (repeat' apply And.intro) <;> first | decide +kernel | rfl⟩,
   ⟨{ live with dev.cd.busy := false }, 0x80001100,
    by (repeat' apply And.intro) <;> first | decide +kernel | rfl⟩,
   ⟨live, 0, 0,
    by (repeat' apply And.intro) <;> first | decide +kernel | rfl⟩,
   ⟨{ live with dev.cd.phase := .response, dev.cd.checkCmd2 := false }, [],
    by decide +kernel⟩,
   ⟨{ live with dev.cd.phase := .response, dev.cd.checkCmd2 := false }, [],
    by decide +kernel⟩,
   ⟨{ live with dev.cd.phase := .response, dev.cd.checkCmd2 := true }, [], false,
    by decide +kernel⟩,
   ⟨{ live with dev.cd.phase := .response, dev.cd.checkCmd2 := false },
    by decide +kernel⟩,
   ⟨{ live with dev.cd.phase := .read }, [],
    by decide +kernel⟩,
   ⟨{ live with dev.cd.phase := .read, dev.cd.abandoned := true }, [],
    by decide +kernel⟩,
   ⟨{ live with dev.cd.phase := .read, dev.cd.abandoned := false }, [],
    by decide +kernel⟩,
   ⟨{ live with dev.cd.phase := .writeData },
    by decide +kernel⟩,
   ⟨{ live with dev.cd.phase := .busy },
    by decide +kernel⟩,
   ⟨{ live with dev.cd.phase := .hold },
    by decide +kernel⟩,
   ⟨{ live with dev.cd.phase := .none },
    by decide +kernel⟩,
   ⟨{ live with dev.pins.vstby := false }, 0, default,
    by decide +kernel⟩,
   ⟨{ live with dev.cdStat.present := 1, dev.pins.vstby := true }, 0, default,
    by decide +kernel⟩,
   ⟨{ live with dev.pins.vstby := true }, 0, default,
    by decide +kernel⟩,
   ⟨live.dev, 0, default,
    by decide +kernel⟩,
   ⟨live.dev, 0, { (default : Card) with kind := 1, secondAnswer := false },
    by decide +kernel⟩,
   ⟨{ live.dev with cdStat.powered := 1, cd.slots := Vector.replicate _ { state := 2 } }, 0, default,
    by decide +kernel⟩,
   ⟨live.dev, 0, default,
    by decide +kernel⟩,
   ⟨{ live.dev with cd.busy := false, cdWin.taken := false, start.resetKind := 2 },
    by decide +kernel⟩,
   ⟨{ live with dev.cdStat.present := 1, dev.pins.vstby := true, dev.cd.busy := true }, 0,
    by decide +kernel⟩,
   ⟨live, 0,
    by decide +kernel⟩,
   ⟨{ live with dev.cdStat.powered := 1 }, 0,
    by decide +kernel⟩,
   ⟨live, 0,
    by decide +kernel⟩,
   ⟨live, 1,
    by decide +kernel⟩,
   ⟨live, 0,
    by decide +kernel⟩⟩

/-- The hypotheses of LifeCycle can be met. -/
theorem test_witness_LifeCycle :
    (∃ (s : State) (t : Nat), MayWrite s.dev 0 2 ∧ lcBusy s.dev = false ∧ transitionRow s.dev (t % 8) = none) ∧
    (∃ (s : State) (t : Nat) (o : Nat) (i : Nat) (ps : List (Bool × Nat)), MayWrite s.dev 0 2 ∧ lcBusy s.dev = false ∧ transitionRow s.dev (t % 8) = some ps ∧ firstFailed ps = some (o, i)) ∧
    (∃ (s : State) (t : Nat) (ps : List (Bool × Nat)), MayWrite s.dev 0 2 ∧ lcBusy s.dev = false ∧ transitionRow s.dev (t % 8) = some ps ∧ firstFailed ps = none ∧ canBurn s.dev = false) ∧
    (∃ (s : State) (t : Nat) (ps : List (Bool × Nat)), MayWrite s.dev 0 2 ∧ lcBusy s.dev = false ∧ transitionRow s.dev (t % 8) = some ps ∧ firstFailed ps = none ∧ canBurn s.dev = true ∧ t % 8 < 6) ∧
    (∃ (s : State) (t : Nat) (ps : List (Bool × Nat)), MayWrite s.dev 0 2 ∧ lcBusy s.dev = false ∧ transitionRow s.dev (t % 8) = some ps ∧ firstFailed ps = none ∧ canBurn s.dev = true ∧ 6 ≤ t % 8) ∧
    (∃ (s : State) (t : Nat) (code : Nat), MayWrite s.dev 0 2 ∧ lcBusy s.dev = true) ∧
    (∃ (s : State) (code : Nat), MayWrite s.dev 0 2 ∧ lcBusy s.dev = false) ∧
    (∃ (s : State), MayWrite s.dev 0 2 ∧ lcBusy s.dev = false) ∧
    (∃ (d : Device) (w : Nat), 16 ≤ w ∧ w ≤ 47 ∧ 2 < d.lc.state) ∧
    (∃ (s : State) (o : Nat), MayWrite s.dev 0 2 ∧ lcBusy s.dev = false ∧ burnOutcome s.dev s.dev.lc.otpIdx (s.dev.lc.otpLo.toNat + s.dev.lc.otpHi.toNat * 2 ^ 32) = o) ∧
    (∃ (s : State), MayWrite s.dev 0 2 ∧ lcBusy s.dev = false) ∧
    (∃ (s : State) (h : Hart) (t : Nat), MayWrite s.dev h 2 ∧ h ≠ 0) ∧
    (∃ (s : State) (w : Nat) (v : Nat), s.dev.lc.burn = some (w, v) ∧ mainUp s.dev = false) ∧
    (∃ (s : State) (w : Nat) (v : Nat) (st : Nat), s.dev.lc.burn = some (w, v) ∧ mainUp s.dev = true ∧ s.dev.lc.wipe = none ∧ stageWords.find? (fun x => x.1 == w) = some (w, v, st)) ∧
    (∃ (s : State) (w : Nat) (v : Nat) (t : Nat), s.dev.lc.burn = some (w, v) ∧ mainUp s.dev = true ∧ s.dev.lc.wipe = some t ∧ stageOf t = some (w, v)) ∧
    (∃ (s : State), s.dev.lc.burn = none) ∧
    (∃ (s : State) (t : Nat), s.dev.lc.wipe = some t ∧ s.dev.lc.burn = none ∧ canBurn s.dev = true) ∧
    (∃ (s : State), s.dev.lc.wipe = none) ∧
    (∃ (s : State) (v : Word), MayWrite s.dev 0 2 ∧ testModes s.dev = true ∧ bit v 7 = false ∧ bit v 1 = false) ∧
    (∃ (s : State) (v : Word), MayWrite s.dev 0 2 ∧ testModes s.dev = true ∧ bit v 7 = false ∧ bit v 1 = true ∧ s.dev.lc.mbistRunning = false) ∧
    (∃ (s : State) (v : Word), MayWrite s.dev 0 2 ∧ testModes s.dev = true ∧ bit v 7 = true ∧ bit v 1 = false ∧ s.dev.lc.mramTest = false) ∧
    (∃ (s : State) (v : Word), MayWrite s.dev 0 2 ∧ testModes s.dev = false) ∧
    (∃ (s : State) (f : Bool), mainRuns s.dev = true ∧ s.dev.lc.mbistRunning = true) ∧
    (∃ (s : State) (f : Bool), s.dev.lc.mbistRunning = false) ∧
    (∃ (s : State), s.dev.lc.scanning = true ∧ mainUp s.dev = true) ∧
    (∃ (s : State), s.dev.lc.scanning = false) ∧
    (∃ (s : State), (mainUp s.dev = false ∨ within 1 2 s.dev.lc.state = false)) ∧
    (∃ (s : State), mainUp s.dev = true ∧ within 1 2 s.dev.lc.state = true ∧ s.dev.lc.mbistRunning = false ∧ s.dev.lc.scanning = false) :=
  ⟨⟨live, 0,
    by (repeat' apply And.intro) <;> first | decide +kernel | rfl⟩,
   ⟨{ live with dev.lc.state := 0 }, 1, 2, 1, [(false, 2), (false, 2)],
    by (repeat' apply And.intro) <;> first | decide +kernel | rfl⟩,
   ⟨{ live with dev.lc.state := 0, dev.pins.holdupOk := false }, 7, [],
    by (repeat' apply And.intro) <;> first | decide +kernel | rfl⟩,
   ⟨{ live with dev.lc.state := 1, dev.lc.otp := [(64, 1)] }, 3, [(true, 2)],
    by (repeat' apply And.intro) <;> first | decide +kernel | rfl⟩,
   ⟨live, 7, [],
    by (repeat' apply And.intro) <;> first | decide +kernel | rfl⟩,
   ⟨{ live with dev.lc.wipe := some 6 }, 0, 0,
    by (repeat' apply And.intro) <;> first | decide +kernel | rfl⟩,
   ⟨live, 0,
    by (repeat' apply And.intro) <;> first | decide +kernel | rfl⟩,
   ⟨live,
    by (repeat' apply And.intro) <;> first | decide +kernel | rfl⟩,
   ⟨{ live.dev with lc.state := 3 }, 16,
    by decide +kernel⟩,
   ⟨{ live with dev.lc.otpIdx := 70, dev.lc.state := 4 }, 0,
    by (repeat' apply And.intro) <;> first | decide +kernel | rfl⟩,
   ⟨live,
    by (repeat' apply And.intro) <;> first | decide +kernel | rfl⟩,
   ⟨live, 1, 0,
    by (repeat' apply And.intro) <;> first | decide +kernel | rfl⟩,
   ⟨{ live with dev.lc.burn := some ((0), (0)), dev.power.state := .standby }, 0, 0,
    by decide +kernel⟩,
   ⟨{ live with dev.lc.burn := some ((0), (0xA5C396F00F693C5A)), dev.lc.wipe := none }, 0, 0xA5C396F00F693C5A, 1,
    by decide +kernel⟩,
   ⟨{ live with dev.lc.burn := some ((4), (0x96E14BD22DB41E87)), dev.lc.wipe := some (6) }, 4, 0x96E14BD22DB41E87, 6,
    by decide +kernel⟩,
   ⟨{ live with dev.lc.burn := none },
    by decide +kernel⟩,
   ⟨{ live with dev.lc.wipe := some (0), dev.lc.burn := none }, 0,
    by decide +kernel⟩,
   ⟨{ live with dev.lc.wipe := none },
    by decide +kernel⟩,
   ⟨{ live with dev.lc.state := 2, dev.pins.testEn := true }, 0,
    by (repeat' apply And.intro) <;> first | decide +kernel | rfl⟩,
   ⟨{ live with dev.lc.state := 2, dev.pins.testEn := true, dev.lc.mbistRunning := false }, 0x2,
    by (repeat' apply And.intro) <;> first | decide +kernel | rfl⟩,
   ⟨{ live with dev.lc.state := 2, dev.pins.testEn := true, dev.lc.mramTest := false }, 0x80,
    by (repeat' apply And.intro) <;> first | decide +kernel | rfl⟩,
   ⟨live, 0,
    by (repeat' apply And.intro) <;> first | decide +kernel | rfl⟩,
   ⟨{ live with dev.lc.mbistRunning := true }, false,
    by decide +kernel⟩,
   ⟨{ live with dev.lc.mbistRunning := false }, false,
    by decide +kernel⟩,
   ⟨{ live with dev.lc.scanning := true },
    by decide +kernel⟩,
   ⟨{ live with dev.lc.scanning := false },
    by decide +kernel⟩,
   ⟨{ live with dev.power.state := .standby },
    by decide +kernel⟩,
   ⟨{ live with dev.lc.state := 2, dev.lc.mbistRunning := false, dev.lc.scanning := false },
    by decide +kernel⟩⟩

/-- The hypotheses of TicketBooth can be met. -/
theorem test_witness_TicketBooth :
    (∃ (s : State), MayWrite s.dev 3 17) ∧
    (∃ (s : State), mainRuns s.dev = true) ∧
    (∃ (d : Device), d.kv.entropyOk = true) ∧
    (∃ (d : Device), d.kv.entropyOk = false) ∧
    (∃ (s : State), MayWrite s.dev 3 17) ∧
    (∃ (d : Device) (src : Nat) (t : List Byte), d.db.checking = none ∧ ticketFields d t ≠ 0) ∧
    (∃ (d : Device) (src : Nat) (t : List Byte), d.db.checking = none ∧ ticketFields d t = 0) ∧
    (∃ (d : Device) (t : List Byte), ticketFormOk t = true ∧ bufLe t 8 8 ≠ 0 ∧ bufLe t 8 8 = serialNo d ∧ d.db.nonce = none) ∧
    (∃ (s : State) (src : Nat) (u : Nat) (t : List Byte), mainRuns s.dev = true ∧ s.dev.db.checking = some (src, t) ∧ boothUnit s.dev = some u) ∧
    (∃ (s : State) (src : Nat) (t : List Byte), mainRuns s.dev = true ∧ s.dev.db.checking = some (src, t) ∧ boothUnit s.dev = none ∧ boothQueued s.dev = false) ∧
    (∃ (s : State), s.dev.db.checking = none) ∧
    (∃ (s : State), MayWrite s.dev 0 17) ∧
    (∃ (s : State) (n : Nat), mainRuns s.dev = true ∧ s.dev.lc.state ≤ 2 ∧ 1 ≤ n ∧ n ≤ 3) ∧
    (∃ (s : State) (n : Nat), (2 < s.dev.lc.state ∨ n = 0)) ∧
    (∃ (s : State) (v : Word), MayWrite s.dev 3 17 ∧ s.dev.db.tktPtr + 4 ≤ 5344) ∧
    (∃ (s : State) (h : Hart) (v : Word), MayWrite s.dev h 17 ∧ h ≠ 3) :=
  ⟨⟨live,
    by (repeat' apply And.intro) <;> first | decide +kernel | rfl⟩,
   ⟨live,
    by decide +kernel⟩,
   ⟨{ live.dev with kv.entropyOk := true },
    by decide +kernel⟩,
   ⟨{ live.dev with kv.entropyOk := false },
    by decide +kernel⟩,
   ⟨live,
    by (repeat' apply And.intro) <;> first | decide +kernel | rfl⟩,
   ⟨{ live.dev with db.checking := none }, 0, [],
    by decide +kernel⟩,
   ⟨{ live.dev with lc.state := 4, lc.otp := [(64, 1)], db.nonce := some (zeros 32), db.checking := none }, 0, ticket0,
    by decide +kernel⟩,
   ⟨{ live.dev with lc.otp := [(64, 1)], db.nonce := none }, ticket0,
    by decide +kernel⟩,
   ⟨{ live with dev.sg.units := Vector.replicate _ { job := some { sgJob0 with hart := none } }, dev.db.checking := some ((0), ([])) }, 0, 0, [],
    by decide +kernel⟩,
   ⟨{ live with dev.db.checking := some ((0), ([])) }, 0, [],
    by decide +kernel⟩,
   ⟨{ live with dev.db.checking := none },
    by decide +kernel⟩,
   ⟨live,
    by (repeat' apply And.intro) <;> first | decide +kernel | rfl⟩,
   ⟨live, 1,
    by decide +kernel⟩,
   ⟨live, 0,
    by decide +kernel⟩,
   ⟨live, 0,
    by (repeat' apply And.intro) <;> first | decide +kernel | rfl⟩,
   ⟨live, 0, 0,
    by (repeat' apply And.intro) <;> first | decide +kernel | rfl⟩⟩

/-- The hypotheses of JtagPort can be met. -/
theorem test_witness_JtagPort :
    (∃ (s : State) (cells : List Bool), s.dev.lc.state ≤ 2) ∧
    (∃ (s : State) (cells : List Bool), 2 < s.dev.lc.state) ∧
    (∃ (s : State) (h : Hart), mainRuns s.dev = true ∧ 1 ≤ s.dev.db.level) ∧
    (∃ (s : State) (h : Hart) (no : Nat) (v : Word) (a : Nat), s.dev.db.level = 0) ∧
    (∃ (s : State) (h : Hart) (a : Nat) (v : Word), s.dev.db.level = 1) ∧
    (∃ (s : State) (h : Hart) (a : Nat) (v : Word), mainRuns s.dev = true ∧ 2 ≤ s.dev.db.level ∧ hasBit s.dev.db.halted h = true) ∧
    (∃ (s : State) (op : Nat) (i : Nat) (v : Word), mainUp s.dev = false) ∧
    (∃ (s : State) (i : Nat) (v : Word), mainUp s.dev = true) ∧
    (∃ (s : State) (i : Nat) (v : Word), mainUp s.dev = true) ∧
    (∃ (s : State) (ir : Nat), 0x18 ≤ ir ∧ ir ≤ 0x1E ∧ mainRuns s.dev = true ∧ testModes s.dev = true ∧ s.dev.lc.scanAllow = true) ∧
    (∃ (s : State) (ir : Nat), (s.dev.lc.scanAllow = false ∨ testModes s.dev = false)) :=
  ⟨⟨live, [],
    by decide +kernel⟩,
   ⟨{ live with dev.lc.state := 3 }, [],
    by decide +kernel⟩,
   ⟨{ live with dev.db.level := 1 }, 0,
    by decide +kernel⟩,
   ⟨{ live with dev.db.level := 0 }, 0, 0, 0, 0,
    by decide +kernel⟩,
   ⟨{ live with dev.db.level := 1 }, 0, 0, 0,
    by decide +kernel⟩,
   ⟨{ live with dev.db.level := 2, dev.db.halted := 1 }, 0, 0, 0,
    by decide +kernel⟩,
   ⟨{ live with dev.power.state := .standby }, 0, 0, 0,
    by decide +kernel⟩,
   ⟨live, 0, 0,
    by decide +kernel⟩,
   ⟨live, 0, 0,
    by decide +kernel⟩,
   ⟨{ live with dev.lc.state := 2, dev.pins.testEn := true, dev.lc.scanAllow := true }, 0x18,
    by decide +kernel⟩,
   ⟨{ live with dev.lc.scanAllow := false }, 0,
    by decide +kernel⟩⟩

/-- The hypotheses of OpenAndAppendRefusals can be met. -/
theorem test_witness_OpenAndAppendRefusals :
    (∃ (s : State) (h : Hart) (requester : Nat), MayWrite s.dev h 8 ∧ s.dev.tx.state = .idle ∧ requester < 256 ∧ (¬ (0x10 ≤ requester ∧ requester ≤ 0x13)) ∧ ((∀ r, rightsOf (curLeaf s.dev) requester = some r → r.mayStage = false))) ∧
    (∃ (s : State) (h : Hart) (requester : Nat), MayWrite s.dev h 8 ∧ s.dev.tx.state = .idle ∧ requester < 256 ∧ (((0x10 ≤ requester ∧ requester ≤ 0x13) ∨ (∃ r, rightsOf (curLeaf s.dev) requester = some r ∧ r.mayStage = true)))) ∧
    (∃ (s : State) (h : Hart), MayWrite s.dev h 8 ∧ s.dev.tx.owner = 0x10 + h.val ∧ (s.dev.tx.state = .opened ∨ s.dev.tx.state = .staging ∨ s.dev.tx.state = .ready) ∧ s.dev.tx.siChecking = none ∧ 256 ≤ s.dev.tx.actions.length) :=
  ⟨⟨{ live with dev.tx.state := .idle }, 0, 0x20,
    by (repeat' apply And.intro) <;> first | decide +kernel | rfl⟩,
   ⟨{ live with dev.tx.state := .idle }, 0, 0,
    by (repeat' apply And.intro) <;> first | decide +kernel | rfl⟩,
   ⟨{ live with dev.tx.actions := List.replicate 256 floorAct, dev.tx.owner := 0x10 + 0, dev.tx.state := .opened, dev.tx.siChecking := none }, 0,
    by (repeat' apply And.intro) <;> first | decide +kernel | rfl⟩⟩

/-- The hypotheses of DisabledSensors can be met. -/
theorem test_witness_DisabledSensors :
    (∃ (s : State) (n : Sensor), sensorRuns s.dev n = true ∧ (otpWord s.dev 65).testBit n = true) ∧
    (∃ (s : State) (n : Sensor), sensorRuns s.dev n = true ∧ (otpWord s.dev 65).testBit n = false) ∧
    (∃ (s : State) (n : Sensor), sensorRuns s.dev n = true) ∧
    (∃ (s : State) (v : Nat), MayWrite s.dev 0 2 ∧ lcBusy s.dev = false ∧ s.dev.lc.otpIdx = 65 ∧ s.dev.lc.otpLo.toNat + s.dev.lc.otpHi.toNat * 2 ^ 32 = v ∧ (s.dev.lc.state ≠ 3 ∧ s.dev.lc.state ≠ 4 ∨ v.testBit 14 = true)) ∧
    (∃ (s : State) (v : Nat), MayWrite s.dev 0 2 ∧ lcBusy s.dev = false ∧ s.dev.lc.otpIdx = 65 ∧ s.dev.lc.otpLo.toNat + s.dev.lc.otpHi.toNat * 2 ^ 32 = v ∧ (s.dev.lc.state = 3 ∨ s.dev.lc.state = 4) ∧ v.testBit 14 = false ∧ canBurn s.dev = true) :=
  ⟨⟨{ live with dev.lc.otp := [(65, 0x7FFF)] }, 0,
    by decide +kernel⟩,
   ⟨live, 0,
    by decide +kernel⟩,
   ⟨live, 0,
    by decide +kernel⟩,
   ⟨{ live with dev.lc.otpIdx := 65 }, 0,
    by (repeat' apply And.intro) <;> first | decide +kernel | rfl⟩,
   ⟨{ live with dev.lc.otpIdx := 65, dev.lc.state := 3 }, 0,
    by (repeat' apply And.intro) <;> first | decide +kernel | rfl⟩⟩

/-- The hypotheses of PrefixesAreWholeBlocks can be met. -/
theorem test_witness_PrefixesAreWholeBlocks :
    (∃ (s : State) (h : Hart) (j : DgJob) (x : Context), mainRuns s.dev = true ∧ (dgBank s.dev h).job = some j ∧ j.isPrefix = true ∧ ctxOf s.dev.dg j.ctx = some x ∧ x.state = .prefix_) ∧
    (∃ (s : State) (h : Hart) (c : Ctx) (x : Context), OwnContext s.dev h c x ∧ x.state = .prefix_ ∧ x.head.length % 136 ≠ 0) ∧
    (∃ (s : State) (h : Hart) (c : Ctx) (x : Context), OwnContext s.dev h c x ∧ x.state = .prefix_ ∧ x.head.length % 136 = 0 ∧ x.keyed = false ∧ rungOf s.dev.kv x = none) :=
  ⟨⟨{ live with dev.dg.ctxs := [({ (default : Context) with no := 0, state := .prefix_ })], dev.dg.banks := Vector.replicate _ { job := some ({ (default : DgJob) with isPrefix := true }) } }, 0, { (default : DgJob) with isPrefix := true }, { (default : Context) with no := 0, state := .prefix_ },
    by decide +kernel⟩,
   ⟨{ live with dev.dg.ctxs := [({ (default : Context) with head := [1], owner := 0x10, no := 0, state := .prefix_ })] }, 0, 0, { (default : Context) with head := [1], owner := 0x10, no := 0, state := .prefix_ },
    by (repeat' apply And.intro) <;> first | decide +kernel | rfl⟩,
   ⟨{ live with dev.dg.ctxs := [({ (default : Context) with owner := 0x10, no := 0, state := .prefix_, keyed := false })] }, 0, 0, { (default : Context) with owner := 0x10, no := 0, state := .prefix_, keyed := false },
    by (repeat' apply And.intro) <;> first | decide +kernel | rfl⟩⟩

/-- The hypotheses of FaultsAndRegistersComplete can be met. -/
theorem test_witness_FaultsAndRegistersComplete :
    (∃ (s : State) (block : Nat) (inst : Nat) (kind : Nat), mainUp s.dev = true ∧ s.dev.power.state ≠ .safe) ∧
    (∃ (s : State), s.dev.power.state = .safe) ∧
    (∃ (s : State) (h : Hart) (v : Word), MayWrite s.dev h 16) ∧
    (∃ (s : State) (h : Hart) (f : Dev) (v : Word), MayWrite s.dev h 6) ∧
    (∃ (s : State) (h : Hart) (addr : Nat), MayRead s.dev h ∧ inBlocks addr = true ∧ addr % 4 = 0) ∧
    (∃ (s : State) (h : Hart) (size : Size) (addr : Nat) (key : Nat), MayRead s.dev h ∧ inBlocks addr = false ∧ hartLoadKey s.dev h addr size.bytes = some key) ∧
    (∃ (s : State) (ld : Ld) (off : Nat), cxlUp s.dev = true ∧ off % 4 = 0 ∧ 0x10000 ≤ off) ∧
    (∃ (s : State) (who : Option Ld) (size : Size) (off : Nat), cxlUp s.dev = true ∧ off % 4 + size.bytes ≤ 4) ∧
    (∃ (s : State) (h : Hart) (addr : Nat) (v : BitVec 64), MayWrite s.dev h (blockOf addr) ∧ inBlocks addr = true ∧ addr % 4 = 0) ∧
    (∃ (s : State) (h : Hart) (size : Size) (addr : Nat) (key : Nat) (v : BitVec 64), MayRead s.dev h ∧ inBlocks addr = false ∧ hartStoreKey s.dev h addr size.bytes = some key) ∧
    (∃ (s : State) (ld : Ld) (off : Nat) (v : BitVec 64), cxlUp s.dev = true ∧ off % 4 = 0 ∧ 0x10000 ≤ off) ∧
    (∃ (s : State) (who : Option Ld) (off : Nat) (v : BitVec 64), cxlUp s.dev = true ∧ off % 4 = 0 ∧ off < 0x10000) ∧
    (∃ (s : State) (who : Option Ld) (size : Size) (off : Nat) (v : BitVec 64), cxlUp s.dev = true ∧ off % 4 + size.bytes ≤ 4) :=
  ⟨⟨live, 0, 0, 0,
    by decide +kernel⟩,
   ⟨{ live with dev.power.state := .safe },
    by decide +kernel⟩,
   ⟨live, 0, 0,
    by (repeat' apply And.intro) <;> first | decide +kernel | rfl⟩,
   ⟨live, 0, 0, 0,
    by (repeat' apply And.intro) <;> first | decide +kernel | rfl⟩,
   ⟨live, 0, 0x60000000,
    by (repeat' apply And.intro) <;> first | decide +kernel | rfl⟩,
   ⟨live, 0, default, 0, 0,
    by (repeat' apply And.intro) <;> first | decide +kernel | rfl⟩,
   ⟨live, 0, 0x10000,
    by decide +kernel⟩,
   ⟨live, none, .word, 0,
    by decide +kernel⟩,
   ⟨live, 0, 0x60000000, 0,
    by (repeat' apply And.intro) <;> first | decide +kernel | rfl⟩,
   ⟨live, 0, .word, 0x20000000, 0x20000000, 0,
    by (repeat' apply And.intro) <;> first | decide +kernel | rfl⟩,
   ⟨live, 0, 0x10000, default,
    by decide +kernel⟩,
   ⟨live, none, 0, default,
    by decide +kernel⟩,
   ⟨live, none, default, 0, default,
    by decide +kernel⟩⟩

end Sys2Proof.Tests
end

section
/-! PROOFS. The RECOVER# input (spec/02_signals_and_electrical.md, R61, R68, R69): what the shared operations it calls
leave alone while the device runs, then what each of its three commands does. -/

namespace Sys2Proof.Machine

open Sys2Proof

/-- Outside the wake that R558 reports, a wake source means nothing to a running device: after another kind of reset, or
once stage 1 is attached. -/
theorem wakeSource_of_run {d : Device} (hrun : d.power.state = .run)
    (hwake : d.power.resetKind ≠ 3 ∨ attached d = true) (src ticks : Nat) : wakeSource src ticks d = d := by
  have hnoted : ¬(d.power.resetKind = 3 ∧ attached d = false) := by
    rintro ⟨hkind, hdetached⟩
    simp [hkind, hdetached] at hwake
  simp [wakeSource, hrun, hnoted]

/-- Past the ROM there is no ROM to go on (R61). -/
theorem romGo_of_phase_ne_rom {d : Device} (hphase : d.start.phase ≠ .rom) : romGo d = d := by
  simp [romGo, hphase]

/-- A press that begins in Run changes the filter output and notes whether stage firmware ran, and nothing else (R68,
R69). -/
theorem recoverFilterAssertEffect_of_run {d : Device} (hvstby : d.pins.vstby = true) (hfilt : d.pins.recoverFilt = false)
    (hrun : d.power.state = .run) (hwake : d.power.resetKind ≠ 3 ∨ attached d = true) :
    recoverFilterAssertEffect d =
      { d with pins.recoverFilt := true, pins.pressUnderStage := attached d } := by
  have hmain : mainRuns d = true := by simp [mainRuns, hrun]
  have hnoWake := wakeSource_of_run
    (d := { d with pins.recoverFilt := true, pins.pressUnderStage := attached d }) hrun hwake 3 (sleptTicks d)
  simpa [recoverFilterAssertEffect, hvstby, hfilt, hmain, modPins] using hnoWake

/-- A press ends: the filter output and the note are cleared, and event 0x0120 is recorded where the note was set
(R69). -/
theorem recoverFilterDeassertEffect_of_asserted {d : Device} (hfilt : d.pins.recoverFilt = true) (ticks : Nat) :
    recoverFilterDeassertEffect ticks d =
      if d.pins.pressUnderStage then
        event 0x0120 2 [ticks, 0, 0, 0] { d with pins.recoverFilt := false, pins.pressUnderStage := false }
      else { d with pins.recoverFilt := false, pins.pressUnderStage := false } := by
  simp [recoverFilterDeassertEffect, hfilt, modPins]

/-- Past the ROM the filter settles without a further effect (R61, R68). -/
theorem recoverSettledEffect_of_phase_ne_rom {d : Device} (hvstby : d.pins.vstby = true)
    (hphase : d.start.phase ≠ .rom) : recoverSettledEffect d = { d with pins.recoverSettled := true } := by
  have hnoRom := romGo_of_phase_ne_rom (d := { d with pins.recoverSettled := true }) hphase
  simpa [recoverSettledEffect, hvstby, modPins] using hnoRom

/-- RECOVER_FILTER_ASSERT acts by its effect on the device alone. -/
theorem exec_recoverFilterAssert (s : State) :
    exec .recoverFilterAssert s = .next { s with dev := recoverFilterAssertEffect s.dev } := rfl

/-- RECOVER_FILTER_DEASSERT acts by its effect on the device alone. -/
theorem exec_recoverFilterDeassert (ticks : Nat) (s : State) :
    exec (.recoverFilterDeassert ticks) s = .next { s with dev := recoverFilterDeassertEffect ticks s.dev } := rfl

/-- RECOVER_SETTLED acts by its effect on the device alone. -/
theorem exec_recoverSettled (s : State) :
    exec .recoverSettled s = .next { s with dev := recoverSettledEffect s.dev } := rfl

/-- Settles O10, clause by clause from the effects of the three commands of the filter. -/
theorem recoverInput : Obligations.RecoverInput := by
  unfold Obligations.RecoverInput
  refine ⟨fun s hvstby hfilt hrun hkind => ?_, fun s ticks hfilt hpress => ?_, fun s ticks hfilt hpress => ?_,
    fun s hvstby hphase => ?_⟩
  · rw [exec_recoverFilterAssert, recoverFilterAssertEffect_of_run hvstby hfilt hrun (.inl hkind)]
  · rw [exec_recoverFilterDeassert, recoverFilterDeassertEffect_of_asserted hfilt, if_pos hpress]
  · rw [exec_recoverFilterDeassert, recoverFilterDeassertEffect_of_asserted hfilt, if_neg (by simp [hpress])]
  · rw [exec_recoverSettled, recoverSettledEffect_of_phase_ne_rom hvstby hphase]

end Sys2Proof.Machine
end

section
/-! PROOFS. The refusals of Open and Append (spec/05_couch_transactions.md, R144, R145): what a write of TX_CMD does where
the hart may make it, which requesters may be named, and what the two commands do with the answer. -/

namespace Sys2Proof.Machine

open Sys2Proof

/-- A command of outcome 0 has its effect and its result (R144). -/
theorem couchCommand_accepted {d : Device} {h : Hart} {outcome : Device → Nat} (hmay : MayWrite d h 8)
    (haccept : outcome d = 0) (cmd : Nat) (f : Device → Device) :
    couchCommand h cmd outcome f d = couchResult h cmd 0 (f d) := by
  simp [couchCommand, hartWrite_may hmay, haccept]

/-- A command of another outcome has its result and no effect (R144). -/
theorem couchCommand_refused {d : Device} {h : Hart} {outcome : Device → Nat} (hmay : MayWrite d h 8)
    (hrefuse : outcome d ≠ 0) (cmd : Nat) (f : Device → Device) :
    couchCommand h cmd outcome f d = couchResult h cmd (outcome d) d := by
  simp [couchCommand, hartWrite_may hmay, hrefuse]

/-- The requesters an Open may name: the harts, and the agents that may stage in the committed epoch (R145). -/
theorem mayOpen_iff (d : Device) (requester : Nat) :
    mayOpen d requester = true ↔ (0x10 ≤ requester ∧ requester ≤ 0x13) ∨
      ∃ r, rightsOf (curLeaf d) requester = some r ∧ r.mayStage = true := by
  simp [mayOpen, within, rightsNow, Option.any_eq_true]

/-- A requester that is no hart and whose record, if it has one, lacks MayStage may not be named (R145). -/
theorem mayOpen_eq_false {d : Device} {requester : Nat} (hhart : ¬ (0x10 ≤ requester ∧ requester ≤ 0x13))
    (hrights : ∀ r, rightsOf (curLeaf d) requester = some r → r.mayStage = false) : mayOpen d requester = false := by
  rw [Bool.eq_false_iff, ne_eq, mayOpen_iff]
  rintro (hin | ⟨r, hr, hstage⟩)
  · exact hhart hin
  · simp [hrights r hr] at hstage

/-- Open of the idle mould for a requester that may not be named is refused with NotPermitted (R145). -/
theorem couchOpenEffect_notPermitted {d : Device} {h : Hart} {requester : Nat} (hmay : MayWrite d h 8)
    (hidle : d.tx.state = .idle) (hreq : mayOpen d (requester % 256) = false) :
    couchOpenEffect h requester d = couchResult h 1 4 d := by
  rw [couchOpenEffect, couchCommand_refused hmay] <;> simp [hidle, hreq]

/-- Open of the idle mould for a requester that may be named takes it and records event 0x0901 (R144, R145). -/
theorem couchOpenEffect_accepted {d : Device} {h : Hart} {requester : Nat} (hmay : MayWrite d h 8)
    (hidle : d.tx.state = .idle) (hreq : mayOpen d (requester % 256) = true) :
    couchOpenEffect h requester d = couchResult h 1 0 (couchEvent 0x0901 1 [0x10 + h.val, 0, 0, 0]
      (modTx (fun x => { x with
        state := .opened, owner := 0x10 + h.val, requester := requester % 256, actions := [], abortReason := 0,
        stateAtAbort := 0 }) d)) := by
  rw [couchOpenEffect, couchCommand_accepted hmay]
  simp [hidle, hreq]

/-- An event of the couch unit leaves the couch unit as it was. -/
@[simp] theorem couchEvent_tx (code sev : Nat) (ps : List Nat) (d : Device) : (couchEvent code sev ps d).tx = d.tx := by
  simp [couchEvent]

/-- A result changes nothing of the couch unit but TX_CMD_RESULT of its hart (R144). -/
@[simp] theorem couchResult_tx (h : Hart) (cmd outcome : Nat) (d : Device) :
    (couchResult h cmd outcome d).tx = { d.tx with results := d.tx.results.set h (cmd, outcome) } := rfl

/-- The outcome of its owner's Append to a full mould (R145). -/
theorem appendOutcome_of_full {d : Device} {h : Hart} (howner : d.tx.owner = 0x10 + h.val)
    (hstate : d.tx.state = .opened ∨ d.tx.state = .staging ∨ d.tx.state = .ready) (hcheck : d.tx.siChecking = none)
    (hfull : 256 ≤ d.tx.actions.length) : appendOutcome h d = 3 := by
  have hopen : (d.tx.state == .opened || d.tx.state == .staging || d.tx.state == .ready) = true := by
    simpa [or_assoc] using hstate
  simp [appendOutcome, couchOwner, howner, hopen, hcheck, hfull]

/-- COUCH_OPEN acts by its effect on the device alone. -/
theorem exec_couchOpen (h : Hart) (requester : Nat) (s : State) :
    exec (.couchOpen h requester) s = .next { s with dev := couchOpenEffect h requester s.dev } := rfl

/-- COUCH_APPEND acts by its effect on the device alone. -/
theorem exec_couchAppend (h : Hart) (s : State) :
    exec (.couchAppend h) s = .next { s with dev := couchAppendEffect h s.dev } := rfl

/-- Settles O57, clause by clause: the two outcomes of Open, the full mould, and the frame of a result. -/
theorem openAndAppendRefusals : Obligations.OpenAndAppendRefusals := by
  unfold Obligations.OpenAndAppendRefusals
  refine ⟨fun s h requester hmay hidle hlt hhart hrights => ?_, fun s h requester hmay hidle hlt hreq => ?_,
    fun s h hmay howner hstate hcheck hfull => ?_, fun d h cmd outcome => ⟨rfl, rfl, rfl, rfl, rfl⟩⟩
  · have hno : mayOpen s.dev (requester % 256) = false := by
      rw [Nat.mod_eq_of_lt hlt]
      exact mayOpen_eq_false hhart hrights
    rw [exec_couchOpen, couchOpenEffect_notPermitted hmay hidle hno]
  · have hyes : mayOpen s.dev (requester % 256) = true := by
      rw [Nat.mod_eq_of_lt hlt]
      exact (mayOpen_iff s.dev requester).mpr hreq
    refine ⟨_, exec_couchOpen h requester s, ?_⟩
    simp [couchOpenEffect_accepted hmay hidle hyes, Nat.mod_eq_of_lt hlt]
  · have hout : appendOutcome h s.dev = 3 := appendOutcome_of_full howner hstate hcheck hfull
    rw [exec_couchAppend, couchAppendEffect, couchCommand_refused hmay (by simp [hout]), hout]

end Sys2Proof.Machine
end

section
/-! PROOFS. Prefix and Begin of the digest engine (spec/09_digest_engine.md, R272, R273): what the end of a Prefix adds to
its context, and which answer Begin gives on a context of its hart. -/

namespace Sys2Proof.Machine

open Sys2Proof

/-- A change to a hart's bank of DG_ registers changes no context. -/
@[simp] theorem modDgBank_ctxOf (h : Hart) (f : DgBank → DgBank) (d : Device) (n : Nat) :
    ctxOf (modDgBank h f d).dg n = ctxOf d.dg n := rfl

/-- A result changes no context (DG_RESULT). -/
@[simp] theorem dgResult_ctxOf (h : Hart) (cmd outcome value : Nat) (d : Device) (n : Nat) :
    ctxOf (dgResult h cmd outcome value d).dg n = ctxOf d.dg n :=
  modDgBank_ctxOf h _ d n

/-- The bytes of a Prefix follow those its context absorbed before (R272). -/
theorem feedEnds_of_prefix {d : Device} {j : DgJob} {x : Context} (hprefix : j.isPrefix = true)
    (hctx : ctxOf d.dg j.ctx = some x) (hstate : x.state = .prefix_) (h : Hart) :
    feedEnds h j d = dgResult h 2 0 0 (modDg (fun g => juggle (putCtx g { x with head := x.head ++ j.bytes })) d) := by
  simp [feedEnds, hctx, hprefix, hstate]

/-- While the device runs, the job of a hart ends and its bank is free for the next command (R285). -/
theorem dgFeedCompleteEffect_of_job {d : Device} {h : Hart} {j : DgJob} (hmain : mainRuns d = true)
    (hjob : (dgBank d h).job = some j) :
    dgFeedCompleteEffect h d = feedEnds h j (modDgBank h (fun b => { b with job := none }) d) := by
  simp [dgFeedCompleteEffect, hjob, hmain]

/-- Begin of a prefix that does not fill whole blocks is refused with BadArgument (R272). -/
theorem dgBeginEffect_of_partial_block {d : Device} {h : Hart} {c : Ctx} {x : Context} (hown : OwnContext d h c x)
    (hstate : x.state = .prefix_) (hblocks : x.head.length % 136 ≠ 0) :
    dgBeginEffect h c d = dgResult h 3 5 0 d := by
  rw [dgBeginEffect, digestCommand_own hown]
  simp [hstate, hblocks, dgRefuse]

/-- Begin of a prefix of whole blocks is accepted where the context holds no vault slot and yields no rung (R272, R273,
R328). -/
theorem dgBeginEffect_of_whole_blocks {d : Device} {h : Hart} {c : Ctx} {x : Context} (hown : OwnContext d h c x)
    (hstate : x.state = .prefix_) (hblocks : x.head.length % 136 = 0) (hkeyed : x.keyed = false)
    (hrung : rungOf d.kv x = none) :
    dgBeginEffect h c d = dgResult h 3 0 0 (beginContext x d) := by
  rw [dgBeginEffect, digestCommand_own hown]
  simp [hstate, hblocks, hkeyed, hrung]

/-- DG_FEED_COMPLETE acts by its effect on the device alone. -/
theorem exec_dgFeedComplete (h : Hart) (s : State) :
    exec (.dgFeedComplete h) s = .next { s with dev := dgFeedCompleteEffect h s.dev } := rfl

/-- DG_BEGIN acts by its effect on the device alone. -/
theorem exec_dgBegin (h : Hart) (c : Ctx) (s : State) :
    exec (.dgBegin h c) s = .next { s with dev := dgBeginEffect h c s.dev } := rfl

/-- Settles O59, clause by clause: the end of a Prefix, the sponge's input, and the two answers of Begin. -/
theorem prefixesAreWholeBlocks : Obligations.PrefixesAreWholeBlocks := by
  unfold Obligations.PrefixesAreWholeBlocks
  refine ⟨fun s h j x hmain hjob hprefix hctx hstate => ?_, fun x => rfl, fun s h c x hown hstate hblocks => ?_,
    fun s h c x hown hstate hblocks hkeyed hrung => ?_⟩
  · rw [exec_dgFeedComplete, dgFeedCompleteEffect_of_job hmain hjob,
      feedEnds_of_prefix hprefix (by rwa [modDgBank_ctxOf]) hstate]
  · have ⟨_, _, hctx, _⟩ := hown
    exact ⟨by rw [exec_dgBegin, dgBeginEffect_of_partial_block hown hstate hblocks], by rwa [dgResult_ctxOf]⟩
  · rw [exec_dgBegin, dgBeginEffect_of_whole_blocks hown hstate hblocks hkeyed hrung]

end Sys2Proof.Machine
end

section
/-! PROOFS. Disabled tamper sensors (spec/11_keys_and_tamper.md, R340): what TAMPER_ALARM does with an enabled and with a
disabled sensor, where TM_SENSOR shows the live conditions, and when a BurnWord of OTP word 65 is accepted (R532, R533). -/

namespace Sys2Proof.Machine

open Sys2Proof

/-- A sensor is enabled where its bit of OTP word 65 is 0 (R340). -/
theorem sensorEnabled_eq (d : Device) (n : Nat) : sensorEnabled d n = !(otpWord d 65).testBit n := rfl

/-- A running sensor shows its live condition from its start; it alarms where it is enabled (R340, R341). -/
theorem tamperAlarmEffect_begin {d : Device} {n : Sensor} (hruns : sensorRuns d n = true) :
    tamperAlarmEffect n true d =
      if sensorEnabled d n then tamperAlarm n { d with sensorLive := setBit d.sensorLive n }
      else { d with sensorLive := setBit d.sensorLive n } := by
  simp [tamperAlarmEffect, hruns]

/-- The end of a running sensor's condition clears its bit and does nothing else (R340;
notes/assumptions/69.md). -/
theorem tamperAlarmEffect_end {d : Device} {n : Sensor} (hruns : sensorRuns d n = true) :
    tamperAlarmEffect n false d = { d with sensorLive := clrBit d.sensorLive n } := by
  simp [tamperAlarmEffect, hruns]

/-- Fields at bit `w` and above leave the low `w` bits of the sum that `pack` forms. -/
theorem packSum_mod {w : Nat} {fs : List (Nat × Nat × Nat)} (hfs : ∀ f ∈ fs, w ≤ f.1) (acc : Nat) :
    fs.foldl (fun a f => a + (f.2.2 % 2 ^ f.2.1) * 2 ^ f.1) acc % 2 ^ w = acc % 2 ^ w := by
  induction fs generalizing acc with
  | nil => rfl
  | cons f fs ih =>
    obtain ⟨hf, hrest⟩ := List.forall_mem_cons.mp hfs
    have hdvd : 2 ^ w ∣ f.2.2 % 2 ^ f.2.1 * 2 ^ f.1 := Nat.dvd_mul_left_of_dvd (Nat.pow_dvd_pow 2 hf) _
    rw [List.foldl_cons, ih hrest, Nat.add_mod, Nat.mod_eq_zero_of_dvd hdvd]
    simp

/-- The lowest field of a register reads back, cut to its width, where the other fields lie above it. -/
theorem pack_toNat_mod {w : Nat} {fs : List (Nat × Nat × Nat)} (hw : w ≤ 32) (hfs : ∀ f ∈ fs, w ≤ f.1) (v : Nat) :
    (pack ((0, w, v) :: fs)).toNat % 2 ^ w = v % 2 ^ w := by
  rw [pack, BitVec.toNat_ofNat, Nat.mod_mod_of_dvd _ (Nat.pow_dvd_pow 2 hw), List.foldl_cons, packSum_mod hfs]
  simp

/-- TM_SENSOR is the register at 0x60120010: Live in its low 15 bits, Enabled above them. -/
theorem regRead_tmSensor (d : Device) (h : Hart) :
    regRead d h 0x60120010 = pack [(0, 15, d.sensorLive), (16, 15, bitmap 15 (sensorEnabled d))] := rfl

/-- A command of LC_CMD by hart 0 runs where hart 0 may write the block and neither burn nor wipe runs (R526, R528). -/
theorem lcCommand_hart0 {d : Device} (hmay : MayWrite d 0 2) (hbusy : lcBusy d = false) (cmd : Nat)
    (f : Device → Device) : lcCommand 0 cmd f d = f d := by
  simp [lcCommand, onlyHart_may hmay, hbusy]

/-- A BurnWord by hart 0 of the staged value `v` to the word `w`: of outcome 0 it starts the burn, of another it has its
result and no effect (R533). -/
theorem lcBurnWordEffect_hart0 {d : Device} {w v : Nat} (hmay : MayWrite d 0 2) (hbusy : lcBusy d = false)
    (hidx : d.lc.otpIdx = w) (hv : d.lc.otpLo.toNat + d.lc.otpHi.toNat * 2 ^ 32 = v) :
    lcBurnWordEffect 0 d =
      if burnOutcome d w v = 0 then modLc (fun l => { l with burn := some (w, v) }) (lcResult 3 0 0 d)
      else lcResult 3 (burnOutcome d w v) 0 d := by
  subst hidx hv
  rw [lcBurnWordEffect, lcCommand_hart0 hmay hbusy]
  split
  case isTrue haccept =>
    simp only [haccept, if_true]
    rfl
  case isFalse hrefuse => exact if_neg hrefuse

/-- Word 65 may be burned in Manufactured and Provisioned (R340, R532). -/
theorem burnAllowed_65 (st : Nat) : burnAllowed 65 st = true ↔ st = 3 ∨ st = 4 := by
  simp [burnAllowed, within]

/-- A burn of word 65 outside its two states, or of its bit 14, is refused (R340, R532, R533). -/
theorem burnOutcome_65_refused {d : Device} {v : Nat}
    (hbad : d.lc.state ≠ 3 ∧ d.lc.state ≠ 4 ∨ v.testBit 14 = true) : burnOutcome d 65 v ≠ 0 := by
  rcases hbad with ⟨hmanufactured, hprovisioned⟩ | hbit
  · have hnot : ¬ burnAllowed 65 d.lc.state = true := by simp [burnAllowed_65, hmanufactured, hprovisioned]
    simp [burnOutcome, hnot]
  · unfold burnOutcome
    split <;> simp [hbit]

/-- A burn of other bits of word 65, in its two states, starts where a burn may: the word is monotone and holds no key
(R340, R525, R533). -/
theorem burnOutcome_65_accepted {d : Device} {v : Nat} (hstate : d.lc.state = 3 ∨ d.lc.state = 4)
    (hbit : v.testBit 14 = false) (hburn : canBurn d = true) : burnOutcome d 65 v = 0 := by
  have hallowed := (burnAllowed_65 d.lc.state).mpr hstate
  simp [burnOutcome, hallowed, hbit, hburn, monotoneWord, lastKey, within]

/-- TAMPER_ALARM acts by its effect on the device alone. -/
theorem exec_tamperAlarm (n : Sensor) (on : Bool) (s : State) :
    exec (.tamperAlarm n on) s = .next { s with dev := tamperAlarmEffect n on s.dev } := rfl

/-- LC_BURN_WORD acts by its effect on the device alone. -/
theorem exec_lcBurnWord (h : Hart) (s : State) :
    exec (.lcBurnWord h) s = .next { s with dev := lcBurnWordEffect h s.dev } := rfl

/-- Settles O58, clause by clause: the disabled and the enabled sensor, the end of a condition, TM_SENSOR.Live, and the
refused and the accepted burn of word 65. -/
theorem disabledSensors : Obligations.DisabledSensors := by
  unfold Obligations.DisabledSensors
  refine ⟨fun s n hruns hbit => ?_, fun s n hruns hbit => ?_, fun s n hruns => ?_, fun d h => ?_,
    fun s v hmay hbusy hidx hv hbad => ?_, fun s v hmay hbusy hidx hv hstate hbit hburn => ?_⟩
  · rw [exec_tamperAlarm, tamperAlarmEffect_begin hruns, if_neg (by simp [sensorEnabled_eq, hbit])]
  · rw [exec_tamperAlarm, tamperAlarmEffect_begin hruns, if_pos (by simp [sensorEnabled_eq, hbit])]
  · rw [exec_tamperAlarm, tamperAlarmEffect_end hruns]
  · rw [regRead_tmSensor, pack_toNat_mod (by decide) (by simp)]
  · have hrefuse := burnOutcome_65_refused hbad
    exact ⟨_, hrefuse, by rw [exec_lcBurnWord, lcBurnWordEffect_hart0 hmay hbusy hidx hv, if_neg hrefuse]⟩
  · have haccept := burnOutcome_65_accepted hstate hbit hburn
    rw [exec_lcBurnWord, lcBurnWordEffect_hart0 hmay hbusy hidx hv, if_pos haccept]

end Sys2Proof.Machine
end

section
/-! PROOFS. The invariants of a step: what every command keeps of memory, OTP and the policy in force, as one table over
the commands from the laws of their effects (Sys2Proof/Laws/), and from it the statements about all commands. -/

namespace Sys2Proof.Machine

open Sys2Proof

/-- The commands through which OTP is written: the end of a burn, and a fall of VSTBY, which cuts one off (R525). -/
def writesOtp : Instr → Bool
  | .otpBurnDone | .vstbyFall _ => true
  | _ => false

/-- What command `c`, which turns device `d` into `e`, keeps: the canonical form of memory; memory itself, OTP and the
policy in force where `c` is not listed as writing them. -/
structure Keeps (c : Instr) (d e : Device) : Prop where
  wf : Memory.wf d.mem = true → Memory.wf e.mem = true
  mem : writesMemory c = false → e.mem = d.mem
  otp : writesOtp c = false → e.lc.otp = d.lc.otp
  policy : changesPolicy c = false → SamePolicy e d

namespace Keeps
variable {c : Instr} {d e : Device}

/-- A command that writes none of the three. -/
theorem of_kept (h : e.mem = d.mem ∧ e.lc.otp = d.lc.otp ∧ SamePolicy e d) : Keeps c d e :=
  ⟨fun w => h.1 ▸ w, fun _ => h.1, fun _ => h.2.1, fun _ => h.2.2⟩

/-- A command that writes memory. -/
theorem of_wf (hm : writesMemory c = true)
    (h : (Memory.wf d.mem = true → Memory.wf e.mem = true) ∧ e.lc.otp = d.lc.otp ∧ SamePolicy e d) : Keeps c d e :=
  ⟨h.1, fun n => absurd (hm.symm.trans n) (by decide), fun _ => h.2.1, fun _ => h.2.2⟩

/-- A command that writes memory and changes the policy in force. -/
theorem of_unlisted (hm : writesMemory c = true) (hp : changesPolicy c = true)
    (h : (Memory.wf d.mem = true → Memory.wf e.mem = true) ∧ e.lc.otp = d.lc.otp) : Keeps c d e :=
  ⟨h.1, fun n => absurd (hm.symm.trans n) (by decide), fun _ => h.2, fun n => absurd (hp.symm.trans n) (by decide)⟩

/-- A command that writes all three. -/
theorem of_burn (hm : writesMemory c = true) (hp : changesPolicy c = true) (ho : writesOtp c = true)
    (h : Memory.wf d.mem = true → Memory.wf e.mem = true) : Keeps c d e :=
  ⟨h, fun n => absurd (hm.symm.trans n) (by decide), fun n => absurd (ho.symm.trans n) (by decide),
    fun n => absurd (hp.symm.trans n) (by decide)⟩
end Keeps

/-- The effect of CCC_POST: the post, and the wake of its barker (R495, R557). -/
def cccPostWake (m : Mport) (v : Word) (old : Bool) (d : Device) : Device :=
  let d1 := cccPostEffect m v old d
  if cccAlive d m && (i3cAt d m).select.any (postWakes d m old) then wakeSource 1 (sleptTicks d) d1 else d1

/-- The effect of I2C_CHANNEL_POST: the post, and the wake of its barker (R495, R557). -/
def i2cPostWake (m : Mport) (c : Nat) (v : Word) (old : Bool) (d : Device) : Device :=
  let d1 := i2cChannelPostEffect m c v old d
  if islandUp d && i3cMode d m == 2 && postWakes d m old c then wakeSource 1 (sleptTicks d) d1 else d1

/-- The effect of CARD_PRESENT: the slot's input, and with VSTBY up the insertion and its wake (R500, R557). -/
def cardPresentWake (slot : Slot) (card : Card) (d : Device) : Device :=
  if !d.pins.vstby then { d with pins := { d.pins with cardDet := d.pins.cardDet.set slot true, cards := d.pins.cards.set slot (some card) } }
  else
    let d1 := cardInserted slot card d
    if !hasBit d.cdStat.present slot then wakeSource 5 (sleptTicks d) d1 else d1

theorem cccPostWake_wf (m : Mport) (v : Word) (old : Bool) (d : Device) :
    (Memory.wf d.mem = true → Memory.wf (cccPostWake m v old d).mem = true) ∧ (cccPostWake m v old d).lc.otp = d.lc.otp := by
  unfold cccPostWake
  split
  · exact ⟨fun w => (wakeSource_wf _ _ _).1 (by simpa using w), by simp⟩
  · simp

theorem i2cPostWake_wf (m : Mport) (c : Nat) (v : Word) (old : Bool) (d : Device) :
    (Memory.wf d.mem = true → Memory.wf (i2cPostWake m c v old d).mem = true) ∧ (i2cPostWake m c v old d).lc.otp = d.lc.otp := by
  unfold i2cPostWake
  split
  · exact ⟨fun w => (wakeSource_wf _ _ _).1 (by simpa using w), by simp⟩
  · simp

theorem cardPresentWake_wf (slot : Slot) (card : Card) (d : Device) :
    (Memory.wf d.mem = true → Memory.wf (cardPresentWake slot card d).mem = true) ∧
      (cardPresentWake slot card d).lc.otp = d.lc.otp := by
  obtain ⟨hwf, hotp⟩ := cardInserted_wf slot card d
  unfold cardPresentWake
  split
  · exact ⟨id, rfl⟩
  · dsimp only
    split
    · exact ⟨fun w => (wakeSource_wf _ _ _).1 (hwf w), (wakeSource_wf _ _ _).2.trans hotp⟩
    · exact ⟨hwf, hotp⟩

/-- Every command acts by an effect on the device alone, and that effect keeps what `Keeps` says: the law of each
command's effect, one after the other. -/
theorem exec_runs (c : Instr) : ∃ f : Device → Device, (∀ s, exec c s = s.run f) ∧ ∀ d, Keeps c d (f d) := by
  cases c with
  | vstbyPowerOn vbat strap => exact ⟨_, fun _ => rfl, fun d => .of_unlisted rfl rfl (vstbyPowerOnEffect_wf vbat strap d)⟩
  | xtalStable => exact ⟨_, fun _ => rfl, fun d => .of_wf rfl (xtalStableEffect_wf d)⟩
  | mainPgAssert => exact ⟨_, fun _ => rfl, fun d => .of_wf rfl (mainPgAssertEffect_wf d)⟩
  | mainPgDeassert => exact ⟨_, fun _ => rfl, fun d => .of_unlisted rfl rfl (mainPgDeassertEffect_wf d)⟩
  | mainRailLoss mv ticks => exact ⟨_, fun _ => rfl, fun d => .of_unlisted rfl rfl (mainRailLossEffect_wf mv ticks d)⟩
  | vcoreLowExcursion mv => exact ⟨_, fun _ => rfl, fun d => .of_kept (vcoreLowExcursionEffect_kept mv d)⟩
  | vcoreBrownOut mv ticks => exact ⟨_, fun _ => rfl, fun d => .of_unlisted rfl rfl (vcoreBrownOutEffect_wf mv ticks d)⟩
  | vstbyFall vbat => exact ⟨_, fun _ => rfl, fun d => .of_burn rfl rfl rfl (vstbyFallEffect_wf vbat d)⟩
  | vbatLevelChange ok => exact ⟨_, fun _ => rfl, fun d => .of_kept (vbatLevelChangeEffect_kept ok d)⟩
  | recoverFilterAssert => exact ⟨_, fun _ => rfl, fun d => .of_unlisted rfl rfl (recoverFilterAssertEffect_wf d)⟩
  | recoverFilterDeassert ticks => exact ⟨_, fun _ => rfl, fun d => .of_kept (recoverFilterDeassertEffect_kept ticks d)⟩
  | recoverSettled => exact ⟨_, fun _ => rfl, fun d => .of_wf rfl (recoverSettledEffect_wf d)⟩
  | junctionWarning temp => exact ⟨_, fun _ => rfl, fun d => .of_kept (junctionWarningEffect_kept temp d)⟩
  | junctionTrip temp => exact ⟨_, fun _ => rfl, fun d => .of_kept (junctionTripEffect_kept temp d)⟩
  | testEnFall => exact ⟨_, fun _ => rfl, fun d => .of_unlisted rfl rfl (testEnFallEffect_wf d)⟩
  | gpioInputChange g level => exact ⟨_, fun _ => rfl, fun d => .of_unlisted rfl rfl (gpioInputChangeEffect_wf g level d)⟩
  | operatingTimeTick => exact ⟨_, fun _ => rfl, fun d => .of_unlisted rfl rfl (operatingTimeTickEffect_wf d)⟩
  | coreReset h => exact ⟨_, fun _ => rfl, fun d => .of_wf rfl (coreResetEffect_wf h d)⟩
  | watchdogExpiry => exact ⟨_, fun _ => rfl, fun d => .of_wf rfl (watchdogExpiryEffect_wf d)⟩
  | watchdogKick h v => exact ⟨_, fun _ => rfl, fun d => .of_kept (watchdogKickEffect_kept h v d)⟩
  | releaseHarts h => exact ⟨_, fun _ => rfl, fun d => .of_wf rfl (releaseHartsEffect_wf h d)⟩
  | hartReady h => exact ⟨_, fun _ => rfl, fun d => .of_kept (hartReadyEffect_kept h d)⟩
  | deckleLock h => exact ⟨_, fun _ => rfl, fun d => .of_kept (deckleLockEffect_kept h d)⟩
  | handover h => exact ⟨_, fun _ => rfl, fun d => .of_kept (attachEffect_kept h d)⟩
  | markClean h => exact ⟨_, fun _ => rfl, fun d => .of_kept (markCleanEffect_kept h d)⟩
  | fwDataWrite h v => exact ⟨_, fun _ => rfl, fun d => .of_wf rfl (fwDataWriteEffect_wf h v d)⟩
  | watermarkExtend h n => exact ⟨_, fun _ => rfl, fun d => .of_kept (watermarkExtendEffect_kept h n d)⟩
  | couchOpen h requester => exact ⟨_, fun _ => rfl, fun d => .of_kept (couchOpenEffect_kept h requester d)⟩
  | couchAppend h => exact ⟨_, fun _ => rfl, fun d => .of_kept (couchAppendEffect_kept h d)⟩
  | siContentCheckDone => exact ⟨_, fun _ => rfl, fun d => .of_kept (siContentCheckDoneEffect_kept d)⟩
  | couchCheck h => exact ⟨_, fun _ => rfl, fun d => .of_kept (couchCheckEffect_kept h d)⟩
  | couchCheckDone => exact ⟨_, fun _ => rfl, fun d => .of_wf rfl (couchCheckDoneEffect_wf d)⟩
  | couchCommit h => exact ⟨_, fun _ => rfl, fun d => .of_kept (couchCommitEffect_kept h d)⟩
  | couchDrainDone => exact ⟨_, fun _ => rfl, fun d => .of_unlisted rfl rfl (couchDrainDoneEffect_wf d)⟩
  | couchDrainLimitExpiry => exact ⟨_, fun _ => rfl, fun d => .of_unlisted rfl rfl (couchDrainLimitExpiryEffect_wf d)⟩
  | siCopyDone => exact ⟨_, fun _ => rfl, fun d => .of_wf rfl (siCopyDoneEffect_wf d)⟩
  | couchAbort h => exact ⟨_, fun _ => rfl, fun d => .of_kept (couchAbortEffect_kept h d)⟩
  | couchRelease h => exact ⟨_, fun _ => rfl, fun d => .of_kept (couchReleaseEffect_kept h d)⟩
  | restore h => exact ⟨_, fun _ => rfl, fun d => .of_unlisted rfl rfl (restoreEffect_wf h d)⟩
  | couchUndefinedCommand h code => exact ⟨_, fun _ => rfl, fun d => .of_kept (couchUndefinedCommandEffect_kept h code d)⟩
  | sipDataWrite h v => exact ⟨_, fun _ => rfl, fun d => .of_wf rfl (sipDataWriteEffect_wf h v d)⟩
  | readId p n khz => exact ⟨_, fun _ => rfl, fun d => .of_kept (readIdEffect_kept p n khz d)⟩
  | readSfdp p addr n khz => exact ⟨_, fun _ => rfl, fun d => .of_kept (readSfdpEffect_kept p addr n khz d)⟩
  | readStatus p n khz => exact ⟨_, fun _ => rfl, fun d => .of_kept (readStatusEffect_kept p n khz d)⟩
  | readFlagStatus p n khz => exact ⟨_, fun _ => rfl, fun d => .of_kept (readFlagStatusEffect_kept p n khz d)⟩
  | clearFlagStatus p khz => exact ⟨_, fun _ => rfl, fun d => .of_kept (clearFlagStatusEffect_kept p khz d)⟩
  | writeEnable p khz => exact ⟨_, fun _ => rfl, fun d => .of_kept (writeEnableEffect_kept p khz d)⟩
  | writeDisable p khz => exact ⟨_, fun _ => rfl, fun d => .of_kept (writeDisableEffect_kept p khz d)⟩
  | read p four addr n khz late => exact ⟨_, fun _ => rfl, fun d => .of_wf rfl (readEffect_wf p four addr n khz late d)⟩
  | fastRead p four addr n khz late => exact ⟨_, fun _ => rfl, fun d => .of_wf rfl (fastReadEffect_wf p four addr n khz late d)⟩
  | fastReadQuadOutput p four addr n khz late => exact ⟨_, fun _ => rfl, fun d => .of_wf rfl (fastReadQuadOutputEffect_wf p four addr n khz late d)⟩
  | fastReadQuadIo p four addr n khz late => exact ⟨_, fun _ => rfl, fun d => .of_wf rfl (fastReadQuadIoEffect_wf p four addr n khz late d)⟩
  | octalDdrRead p addr n khz => exact ⟨_, fun _ => rfl, fun d => .of_wf rfl (octalDdrReadEffect_wf p addr n khz d)⟩
  | presentedReadResume p ended => exact ⟨_, fun _ => rfl, fun d => .of_wf rfl (presentedReadResumeEffect_wf p ended d)⟩
  | pageProgram p four addr data khz => exact ⟨_, fun _ => rfl, fun d => .of_kept (pageProgramEffect_kept p four addr data khz d)⟩
  | erase4k p four addr khz => exact ⟨_, fun _ => rfl, fun d => .of_kept (erase4kEffect_kept p four addr khz d)⟩
  | erase32k p four addr khz => exact ⟨_, fun _ => rfl, fun d => .of_kept (erase32kEffect_kept p four addr khz d)⟩
  | erase64k p four addr khz => exact ⟨_, fun _ => rfl, fun d => .of_kept (erase64kEffect_kept p four addr khz d)⟩
  | resetEnable p khz => exact ⟨_, fun _ => rfl, fun d => .of_kept (resetEnableEffect_kept p khz d)⟩
  | reset p khz => exact ⟨_, fun _ => rfl, fun d => .of_wf rfl (resetEffect_wf p khz d)⟩
  | undefinedOpcode p op khz => exact ⟨_, fun _ => rfl, fun d => .of_kept (undefinedOpcodeEffect_kept p op khz d)⟩
  | csRaisedEarly p op khz addr => exact ⟨_, fun _ => rfl, fun d => .of_kept (csRaisedEarlyEffect_kept p op khz addr d)⟩
  | upResetAssert p => exact ⟨_, fun _ => rfl, fun d => .of_wf rfl (upResetAssertEffect_wf p d)⟩
  | espiFlashRead p addr n khz => exact ⟨_, fun _ => rfl, fun d => .of_wf rfl (espiFlashReadEffect_wf p addr n khz d)⟩
  | espiFlashWrite p addr data khz => exact ⟨_, fun _ => rfl, fun d => .of_kept (espiFlashWriteEffect_kept p addr data khz d)⟩
  | espiFlashErase p addr khz => exact ⟨_, fun _ => rfl, fun d => .of_kept (espiFlashEraseEffect_kept p addr khz d)⟩
  | espiPeripheralRequest p khz => exact ⟨_, fun _ => rfl, fun d => .of_kept (espiPeripheralRequestEffect_kept p khz d)⟩
  | espiUndefinedCommand p op khz => exact ⟨_, fun _ => rfl, fun d => .of_kept (espiUndefinedCommandEffect_kept p op khz d)⟩
  | espiCrcError p op khz => exact ⟨_, fun _ => rfl, fun d => .of_kept (espiCrcErrorEffect_kept p op khz d)⟩
  | deferredCompletionReady p => exact ⟨_, fun _ => rfl, fun d => .of_wf rfl (deferredCompletionReadyEffect_wf p d)⟩
  | espiCompletionFetch p khz => exact ⟨_, fun _ => rfl, fun d => .of_kept (espiCompletionFetchEffect_kept p khz d)⟩
  | espiInBandReset p khz => exact ⟨_, fun _ => rfl, fun d => .of_wf rfl (espiInBandResetEffect_wf p khz d)⟩
  | turnstileDecide f => exact ⟨_, fun _ => rfl, fun d => .of_wf rfl (turnstileDecideEffect_wf f d)⟩
  | holdLimitExpiry f i ticks => exact ⟨_, fun _ => rfl, fun d => .of_wf rfl (holdLimitExpiryEffect_wf f i ticks d)⟩
  | turnstileRestartDone f ticks => exact ⟨_, fun _ => rfl, fun d => .of_wf rfl (turnstileRestartDoneEffect_wf f ticks d)⟩
  | flashCommandDone f result data => exact ⟨_, fun _ => rfl, fun d => .of_wf rfl (flashCommandDoneEffect_wf f result data d)⟩
  | flashStatusPoll f ready => exact ⟨_, fun _ => rfl, fun d => .of_kept (flashStatusPollEffect_kept f ready d)⟩
  | flashBusyEnd f failed => exact ⟨_, fun _ => rfl, fun d => .of_wf rfl (flashBusyEndEffect_wf f failed d)⟩
  | flashPollTimeout f => exact ⟨_, fun _ => rfl, fun d => .of_wf rfl (flashPollTimeoutEffect_wf f d)⟩
  | deviceResetPulseEnd f => exact ⟨_, fun _ => rfl, fun d => .of_kept (deviceResetPulseEndEffect_kept f d)⟩
  | discoveryResetRecoveryEnd f a => exact ⟨_, fun _ => rfl, fun d => .of_kept (discoveryResetRecoveryEndEffect_kept f a d)⟩
  | dqsTimeout f => exact ⟨_, fun _ => rfl, fun d => .of_wf rfl (dqsTimeoutEffect_wf f d)⟩
  | busContentionDetected m lines => exact ⟨_, fun _ => rfl, fun d => .of_wf rfl (busContentionDetectedEffect_wf m lines d)⟩
  | requalify h m => exact ⟨_, fun _ => rfl, fun d => .of_kept (requalifyEffect_kept h m d)⟩
  | requalifySampleEnd m clean lines => exact ⟨_, fun _ => rfl, fun d => .of_wf rfl (requalifySampleEndEffect_wf m clean lines d)⟩
  | devReset h m mask => exact ⟨_, fun _ => rfl, fun d => .of_wf rfl (devResetEffect_wf h m mask d)⟩
  | busControllerRestartDone m ticks => exact ⟨_, fun _ => rfl, fun d => .of_kept (busControllerRestartDoneEffect_kept m ticks d)⟩
  | serveStart h bd v => exact ⟨_, fun _ => rfl, fun d => .of_wf rfl (serveStartEffect_wf h bd v d)⟩
  | serveReject h bd v => exact ⟨_, fun _ => rfl, fun d => .of_wf rfl (serveRejectEffect_wf h bd v d)⟩
  | waitingDomainStart bd => exact ⟨_, fun _ => rfl, fun d => .of_wf rfl (waitingDomainStartEffect_wf bd d)⟩
  | servingReadComplete bd image result data => exact ⟨_, fun _ => rfl, fun d => .of_wf rfl (servingReadCompleteEffect_wf bd image result data d)⟩
  | streamIdleExpiry bd image => exact ⟨_, fun _ => rfl, fun d => .of_kept (streamIdleExpiryEffect_kept bd image d)⟩
  | bdReboot h bd => exact ⟨_, fun _ => rfl, fun d => .of_kept (bdRebootEffect_kept h bd d)⟩
  | gateDelayExpiry bd => exact ⟨_, fun _ => rfl, fun d => .of_kept (gateDelayExpiryEffect_kept bd d)⟩
  | gateHoldDelayExpiry bd => exact ⟨_, fun _ => rfl, fun d => .of_kept (gateHoldDelayExpiryEffect_kept bd d)⟩
  | patrolScrubStep region word syndrome => exact ⟨_, fun _ => rfl, fun d => .of_wf rfl (patrolScrubStepEffect_wf region word syndrome d)⟩
  | fqSubmit h v => exact ⟨_, fun _ => rfl, fun d => .of_kept (fqSubmitEffect_kept h v d)⟩
  | fqResultPop h => exact ⟨_, fun _ => rfl, fun d => .of_kept (fqResultPopEffect_kept h d)⟩
  | deviceRetire h f => exact ⟨_, fun _ => rfl, fun d => .of_wf rfl (deviceRetireEffect_wf h f d)⟩
  | deviceProbe h f => exact ⟨_, fun _ => rfl, fun d => .of_kept (deviceProbeEffect_kept h f d)⟩
  | deviceResync h f => exact ⟨_, fun _ => rfl, fun d => .of_kept (deviceResyncEffect_kept h f d)⟩
  | resyncComplete f => exact ⟨_, fun _ => rfl, fun d => .of_kept (resyncCompleteEffect_kept f d)⟩
  | endProbe h f => exact ⟨_, fun _ => rfl, fun d => .of_wf rfl (endProbeEffect_wf h f d)⟩
  | dgOpen h => exact ⟨_, fun _ => rfl, fun d => .of_kept (dgOpenEffect_kept h d)⟩
  | dgPrefix h c => exact ⟨_, fun _ => rfl, fun d => .of_wf rfl (dgPrefixEffect_wf h c d)⟩
  | dgBegin h c => exact ⟨_, fun _ => rfl, fun d => .of_kept (dgBeginEffect_kept h c d)⟩
  | dgFeed h c => exact ⟨_, fun _ => rfl, fun d => .of_wf rfl (dgFeedEffect_wf h c d)⟩
  | dgFeedComplete h => exact ⟨_, fun _ => rfl, fun d => .of_kept (dgFeedCompleteEffect_kept h d)⟩
  | dgBind h c => exact ⟨_, fun _ => rfl, fun d => .of_kept (dgBindEffect_kept h c d)⟩
  | dgClose h c => exact ⟨_, fun _ => rfl, fun d => .of_kept (dgCloseEffect_kept h c d)⟩
  | dgFree h c => exact ⟨_, fun _ => rfl, fun d => .of_kept (dgFreeEffect_kept h c d)⟩
  | dgCmpArm h c => exact ⟨_, fun _ => rfl, fun d => .of_wf rfl (dgCmpArmEffect_wf h c d)⟩
  | dgCmpFree h e => exact ⟨_, fun _ => rfl, fun d => .of_kept (dgCmpFreeEffect_kept h e d)⟩
  | dgUndefinedCommand h code => exact ⟨_, fun _ => rfl, fun d => .of_kept (dgUndefinedCommandEffect_kept h code d)⟩
  | tapBurst c offset data => exact ⟨_, fun _ => rfl, fun d => .of_kept (tapBurstEffect_kept c offset data d)⟩
  | laneBlockAbsorbed l => exact ⟨_, fun _ => rfl, fun d => .of_kept (laneBlockAbsorbedEffect_kept l d)⟩
  | contextSqueezeDone c => exact ⟨_, fun _ => rfl, fun d => .of_kept (contextSqueezeDoneEffect_kept c d)⟩
  | laneFault l c ecc => exact ⟨_, fun _ => rfl, fun d => .of_kept (laneFaultEffect_kept l c ecc d)⟩
  | laneSelfTestDone l passed => exact ⟨_, fun _ => rfl, fun d => .of_kept (laneSelfTestDoneEffect_kept l passed d)⟩
  | digestEngineRestartDone => exact ⟨_, fun _ => rfl, fun d => .of_kept (digestEngineRestartDoneEffect_kept d)⟩
  | sgSubmit h v => exact ⟨_, fun _ => rfl, fun d => .of_wf rfl (sgSubmitEffect_wf h v d)⟩
  | sgJobComplete u fault => exact ⟨_, fun _ => rfl, fun d => .of_wf rfl (sgJobCompleteEffect_wf u fault d)⟩
  | sgResultPop h => exact ⟨_, fun _ => rfl, fun d => .of_kept (sgResultPopEffect_kept h d)⟩
  | sgUnitFault u => exact ⟨_, fun _ => rfl, fun d => .of_kept (sgUnitFaultEffect_kept u d)⟩
  | sgUnitSelfTestDone u passed => exact ⟨_, fun _ => rfl, fun d => .of_kept (sgUnitSelfTestDoneEffect_kept u passed d)⟩
  | sgEngineRestartDone => exact ⟨_, fun _ => rfl, fun d => .of_kept (sgEngineRestartDoneEffect_kept d)⟩
  | kvReserve h k => exact ⟨_, fun _ => rfl, fun d => .of_kept (kvReserveEffect_kept h k d)⟩
  | kvClear h k => exact ⟨_, fun _ => rfl, fun d => .of_kept (kvClearEffect_kept h k d)⟩
  | kvRandom h k => exact ⟨_, fun _ => rfl, fun d => .of_kept (kvRandomEffect_kept h k d)⟩
  | kvRootDerive h k => exact ⟨_, fun _ => rfl, fun d => .of_kept (kvRootDeriveEffect_kept h k d)⟩
  | kvLadderDerive h k => exact ⟨_, fun _ => rfl, fun d => .of_kept (kvLadderDeriveEffect_kept h k d)⟩
  | kvTransfer h k => exact ⟨_, fun _ => rfl, fun d => .of_kept (kvTransferEffect_kept h k d)⟩
  | kvRestrict h k => exact ⟨_, fun _ => rfl, fun d => .of_kept (kvRestrictEffect_kept h k d)⟩
  | kvStageInstall h k => exact ⟨_, fun _ => rfl, fun d => .of_kept (kvStageInstallEffect_kept h k d)⟩
  | kvStageRetire h k => exact ⟨_, fun _ => rfl, fun d => .of_kept (kvStageRetireEffect_kept h k d)⟩
  | kvStageRoot h => exact ⟨_, fun _ => rfl, fun d => .of_kept (kvStageRootEffect_kept h d)⟩
  | kvStageWrite h => exact ⟨_, fun _ => rfl, fun d => .of_wf rfl (kvStageWriteEffect_wf h d)⟩
  | kvStageDrop h => exact ⟨_, fun _ => rfl, fun d => .of_wf rfl (kvStageDropEffect_wf h d)⟩
  | kvCommitInitial h => exact ⟨_, fun _ => rfl, fun d => .of_wf rfl (kvCommitInitialEffect_wf h d)⟩
  | kvUndefinedCommand h code => exact ⟨_, fun _ => rfl, fun d => .of_kept (kvUndefinedCommandEffect_kept h code d)⟩
  | kvCommandDone h => exact ⟨_, fun _ => rfl, fun d => .of_kept (kvCommandDoneEffect_kept h d)⟩
  | keyVaultLoadDone => exact ⟨_, fun _ => rfl, fun d => .of_wf rfl (keyVaultLoadDoneEffect_wf d)⟩
  | rootLockSet h => exact ⟨_, fun _ => rfl, fun d => .of_kept (rootLockSetEffect_kept h d)⟩
  | tamperAlarm n on => exact ⟨_, fun _ => rfl, fun d => .of_kept (tamperAlarmEffect_kept n on d)⟩
  | entropyHealthFailure test => exact ⟨_, fun _ => rfl, fun d => .of_kept (entropyHealthFailureEffect_kept test d)⟩
  | bdSequenceStart bd requester fault => exact ⟨_, fun _ => rfl, fun d => .of_kept (bdSequenceStartEffect_kept bd requester fault d)⟩
  | recoveryBundleInstall sender bundle fault => exact ⟨_, fun _ => rfl, fun d => .of_kept (recoveryBundleInstallEffect_kept sender bundle fault d)⟩
  | lgSubmit h v => exact ⟨_, fun _ => rfl, fun d => .of_wf rfl (lgSubmitEffect_wf h v d)⟩
  | sheetStored ok => exact ⟨_, fun _ => rfl, fun d => .of_wf rfl (sheetStoredEffect_wf ok d)⟩
  | lgAck h v => exact ⟨_, fun _ => rfl, fun d => .of_kept (lgAckEffect_kept h v d)⟩
  | hostPageAck ld v => exact ⟨_, fun _ => rfl, fun d => .of_kept (hostPageAckEffect_kept ld v d)⟩
  | ackServed => exact ⟨_, fun _ => rfl, fun d => .of_wf rfl (ackServedEffect_wf d)⟩
  | ovrUptoWrite h v => exact ⟨_, fun _ => rfl, fun d => .of_kept (ovrUptoWriteEffect_kept h v d)⟩
  | reamRecovered readable => exact ⟨_, fun _ => rfl, fun d => .of_kept (reamRecoveredEffect_kept readable d)⟩
  | eventArrival code sev aid params => exact ⟨_, fun _ => rfl, fun d => .of_kept (eventArrivalEffect_kept code sev aid params d)⟩
  | evPost h v => exact ⟨_, fun _ => rfl, fun d => .of_kept (evPostEffect_kept h v d)⟩
  | recordWriteDone ok => exact ⟨_, fun _ => rfl, fun d => .of_wf rfl (recordWriteDoneEffect_wf ok d)⟩
  | hostEventClear ld v => exact ⟨_, fun _ => rfl, fun d => .of_kept (hostEventClearEffect_kept ld v d)⟩
  | evClear h v => exact ⟨_, fun _ => rfl, fun d => .of_kept (evClearEffect_kept h v d)⟩
  | eventLogClearDone => exact ⟨_, fun _ => rfl, fun d => .of_wf rfl (eventLogClearDoneEffect_wf d)⟩
  | recorderRecovered => exact ⟨_, fun _ => rfl, fun d => .of_wf rfl (recorderRecoveredEffect_wf d)⟩
  | cxPerstAssert => exact ⟨_, fun _ => rfl, fun d => .of_kept (cxPerstAssertEffect_kept d)⟩
  | linkHotReset => exact ⟨_, fun _ => rfl, fun d => .of_kept (linkHotResetEffect_kept d)⟩
  | linkSurpriseDown => exact ⟨_, fun _ => rfl, fun d => .of_kept (linkSurpriseDownEffect_kept d)⟩
  | linkUp rate width cxl w64 => exact ⟨_, fun _ => rfl, fun d => .of_kept (linkUpEffect_kept rate width cxl w64 d)⟩
  | w64BlockReceived block => exact ⟨_, fun _ => rfl, fun d => .of_kept (w64BlockReceivedEffect_kept block d)⟩
  | w64Fallback discarded corrected => exact ⟨_, fun _ => rfl, fun d => .of_kept (w64FallbackEffect_kept discarded corrected d)⟩
  | functionLevelReset ld => exact ⟨_, fun _ => rfl, fun d => .of_kept (functionLevelResetEffect_kept ld d)⟩
  | viewReset ld v => exact ⟨_, fun _ => rfl, fun d => .of_kept (viewResetEffect_kept ld v d)⟩
  | hotResetVector mask => exact ⟨_, fun _ => rfl, fun d => .of_kept (hotResetVectorEffect_kept mask d)⟩
  | getLdInfo => exact ⟨_, fun _ => rfl, fun d => .of_kept (getLdInfoEffect_kept d)⟩
  | getLdAllocations start limit => exact ⟨_, fun _ => rfl, fun d => .of_kept (getLdAllocationsEffect_kept start limit d)⟩
  | setLdAllocations start pairs => exact ⟨_, fun _ => rfl, fun d => .of_kept (setLdAllocationsEffect_kept start pairs d)⟩
  | hdmDecoderCommit ld base size iw ig skip lock => exact ⟨_, fun _ => rfl, fun d => .of_kept (hdmDecoderCommitEffect_kept ld base size iw ig skip lock d)⟩
  | memRd ld offset => exact ⟨_, fun _ => rfl, fun d => .of_wf rfl (memRdEffect_wf ld offset d)⟩
  | memWr ld offset data mask => exact ⟨_, fun _ => rfl, fun d => .of_wf rfl (memWrEffect_wf ld offset data mask d)⟩
  | stagingStart ld v => exact ⟨_, fun _ => rfl, fun d => .of_kept (stagingStartEffect_kept ld v d)⟩
  | stagingAbort ld => exact ⟨_, fun _ => rfl, fun d => .of_kept (stagingAbortEffect_kept ld d)⟩
  | stagingChunkDone ld v => exact ⟨_, fun _ => rfl, fun d => .of_kept (stagingChunkDoneEffect_kept ld v d)⟩
  | stagingReadyPop h => exact ⟨_, fun _ => rfl, fun d => .of_kept (stagingReadyPopEffect_kept h d)⟩
  | stagingRelease h v => exact ⟨_, fun _ => rfl, fun d => .of_kept (stagingReleaseEffect_kept h v d)⟩
  | stagingEnd h v => exact ⟨_, fun _ => rfl, fun d => .of_kept (stagingEndEffect_kept h v d)⟩
  | doeRequest who object => exact ⟨_, fun _ => rfl, fun d => .of_kept (doeRequestEffect_kept who object d)⟩
  | doeAbort who => exact ⟨_, fun _ => rfl, fun d => .of_kept (doeAbortEffect_kept who d)⟩
  | doeDiscovery who index => exact ⟨_, fun _ => rfl, fun d => .of_kept (doeDiscoveryEffect_kept who index d)⟩
  | cdatRead who entry => exact ⟨_, fun _ => rfl, fun d => .of_kept (cdatReadEffect_kept who entry d)⟩
  | wardenStatus who code => exact ⟨_, fun _ => rfl, fun d => .of_kept (wardenStatusEffect_kept who code d)⟩
  | getEventRecords who => exact ⟨_, fun _ => rfl, fun d => .of_kept (getEventRecordsEffect_kept who d)⟩
  | clearEventRecords who handles => exact ⟨_, fun _ => rfl, fun d => .of_kept (clearEventRecordsEffect_kept who handles d)⟩
  | getEventInterruptPolicy who => exact ⟨_, fun _ => rfl, fun d => .of_kept (getEventInterruptPolicyEffect_kept who d)⟩
  | setEventInterruptPolicy who policies => exact ⟨_, fun _ => rfl, fun d => .of_kept (setEventInterruptPolicyEffect_kept who policies d)⟩
  | getFwInfo who => exact ⟨_, fun _ => rfl, fun d => .of_kept (getFwInfoEffect_kept who d)⟩
  | getSupportedLogs who => exact ⟨_, fun _ => rfl, fun d => .of_kept (getSupportedLogsEffect_kept who d)⟩
  | getLog who uuid offset len => exact ⟨_, fun _ => rfl, fun d => .of_kept (getLogEffect_kept who uuid offset len d)⟩
  | identifyMemoryDevice who => exact ⟨_, fun _ => rfl, fun d => .of_kept (identifyMemoryDeviceEffect_kept who d)⟩
  | getPartitionInfo who => exact ⟨_, fun _ => rfl, fun d => .of_kept (getPartitionInfoEffect_kept who d)⟩
  | getHealthInfo who => exact ⟨_, fun _ => rfl, fun d => .of_kept (getHealthInfoEffect_kept who d)⟩
  | getPoisonList who base len => exact ⟨_, fun _ => rfl, fun d => .of_kept (getPoisonListEffect_kept who base len d)⟩
  | fjarlinWardenStatus who => exact ⟨_, fun _ => rfl, fun d => .of_kept (fjarlinWardenStatusEffect_kept who d)⟩
  | fjarlinStageSiData who offset data => exact ⟨_, fun _ => rfl, fun d => .of_wf rfl (fjarlinStageSiDataEffect_wf who offset data d)⟩
  | fjarlinStageSiCommit who total => exact ⟨_, fun _ => rfl, fun d => .of_unlisted rfl rfl (fjarlinStageSiCommitEffect_wf who total d)⟩
  | mailboxUnsupportedOpcode who op => exact ⟨_, fun _ => rfl, fun d => .of_kept (mailboxUnsupportedOpcodeEffect_kept who op d)⟩
  | getVersion conn => exact ⟨_, fun _ => rfl, fun d => .of_kept (getVersionEffect_kept conn d)⟩
  | getCapabilities conn request => exact ⟨_, fun _ => rfl, fun d => .of_kept (getCapabilitiesEffect_kept conn request d)⟩
  | negotiateAlgorithms conn request sha3 mldsa => exact ⟨_, fun _ => rfl, fun d => .of_kept (negotiateAlgorithmsEffect_kept conn request sha3 mldsa d)⟩
  | getDigests conn request => exact ⟨_, fun _ => rfl, fun d => .of_kept (getDigestsEffect_kept conn request d)⟩
  | getCertificate conn slot offset len request => exact ⟨_, fun _ => rfl, fun d => .of_kept (getCertificateEffect_kept conn slot offset len request d)⟩
  | challenge conn request slot summary nonce ready => exact ⟨_, fun _ => rfl, fun d => .of_kept (challengeEffect_kept conn request slot summary ready d)⟩
  | getMeasurements conn request index signed nonce ready => exact ⟨_, fun _ => rfl, fun d => .of_kept (getMeasurementsEffect_kept conn request index signed ready d)⟩
  | respondIfReady conn token => exact ⟨_, fun _ => rfl, fun d => .of_kept (respondIfReadyEffect_kept conn token d)⟩
  | chunkSend conn handle seq last chunk => exact ⟨_, fun _ => rfl, fun d => .of_kept (chunkSendEffect_kept conn handle seq last chunk d)⟩
  | chunkGet conn handle seq => exact ⟨_, fun _ => rfl, fun d => .of_kept (chunkGetEffect_kept conn handle seq d)⟩
  | spdmUnsupportedRequest conn code => exact ⟨_, fun _ => rfl, fun d => .of_kept (spdmUnsupportedRequestEffect_kept conn code d)⟩
  | spdmResponseNotReady conn code response => exact ⟨_, fun _ => rfl, fun d => .of_kept (spdmResponseNotReadyEffect_kept conn code response d)⟩
  | sweepRegister ld v => exact ⟨_, fun _ => rfl, fun d => .of_kept (sweepRegisterEffect_kept ld v d)⟩
  | sweepUnregister ld v => exact ⟨_, fun _ => rfl, fun d => .of_kept (sweepUnregisterEffect_kept ld v d)⟩
  | sweepRegionDue ld r => exact ⟨_, fun _ => rfl, fun d => .of_kept (sweepRegionDueEffect_kept ld r d)⟩
  | sweepNextPop h => exact ⟨_, fun _ => rfl, fun d => .of_kept (sweepNextPopEffect_kept h d)⟩
  | sweepStart h v => exact ⟨_, fun _ => rfl, fun d => .of_kept (sweepStartEffect_kept h v d)⟩
  | sweepReadCompletion ld offset status data => exact ⟨_, fun _ => rfl, fun d => .of_kept (sweepReadCompletionEffect_kept ld offset status data d)⟩
  | sweepReadTimeout ld => exact ⟨_, fun _ => rfl, fun d => .of_kept (sweepReadTimeoutEffect_kept ld d)⟩
  | sweepBucketRefill ld => exact ⟨_, fun _ => rfl, fun d => .of_kept (sweepBucketRefillEffect_kept ld d)⟩
  | sweepEndPop h => exact ⟨_, fun _ => rfl, fun d => .of_kept (sweepEndPopEffect_kept h d)⟩
  | sweepPost h v => exact ⟨_, fun _ => rfl, fun d => .of_kept (sweepPostEffect_kept h v d)⟩
  | hartChannelPost h c v old => exact ⟨_, fun _ => rfl, fun d => .of_kept (hartChannelPostEffect_kept h c v old d)⟩
  | hartChannelTake h c => exact ⟨_, fun _ => rfl, fun d => .of_kept (hartChannelTakeEffect_kept h c d)⟩
  | hostChannelPost ld c v old => exact ⟨_, fun _ => rfl, fun d => .of_kept (hostChannelPostEffect_kept ld c v old d)⟩
  | hostChannelTake ld c => exact ⟨_, fun _ => rfl, fun d => .of_kept (hostChannelTakeEffect_kept ld c d)⟩
  | cccSelect m c => exact ⟨_, fun _ => rfl, fun d => .of_kept (cccSelectEffect_kept m c d)⟩
  | cccPost m v old => exact ⟨cccPostWake m v old, fun _ => rfl, fun d => .of_unlisted rfl rfl (cccPostWake_wf m v old d)⟩
  | cccTake m => exact ⟨_, fun _ => rfl, fun d => .of_kept (cccTakeEffect_kept m d)⟩
  | i2cChannelPost m c v old => exact ⟨i2cPostWake m c v old, fun _ => rfl, fun d => .of_unlisted rfl rfl (i2cPostWake_wf m c v old d)⟩
  | i2cChannelTake m c => exact ⟨_, fun _ => rfl, fun d => .of_kept (i2cChannelTakeEffect_kept m c d)⟩
  | ibiAccepted m acked => exact ⟨_, fun _ => rfl, fun d => .of_kept (ibiAcceptedEffect_kept m acked d)⟩
  | enec m bits => exact ⟨_, fun _ => rfl, fun d => .of_kept (enecEffect_kept m bits d)⟩
  | disec m bits => exact ⟨_, fun _ => rfl, fun d => .of_kept (disecEffect_kept m bits d)⟩
  | rstdaa m => exact ⟨_, fun _ => rfl, fun d => .of_kept (rstdaaEffect_kept m d)⟩
  | entdaa m addr => exact ⟨_, fun _ => rfl, fun d => .of_kept (entdaaEffect_kept m addr d)⟩
  | setdasa m static addr => exact ⟨_, fun _ => rfl, fun d => .of_kept (setdasaEffect_kept m static addr d)⟩
  | setnewda m addr => exact ⟨_, fun _ => rfl, fun d => .of_kept (setnewdaEffect_kept m addr d)⟩
  | getpid m => exact ⟨_, fun _ => rfl, fun d => .of_kept (getpidEffect_kept m d)⟩
  | getbcr m => exact ⟨_, fun _ => rfl, fun d => .of_kept (getbcrEffect_kept m d)⟩
  | getdcr m => exact ⟨_, fun _ => rfl, fun d => .of_kept (getdcrEffect_kept m d)⟩
  | getstatus m => exact ⟨_, fun _ => rfl, fun d => .of_kept (getstatusEffect_kept m d)⟩
  | setmwl m n => exact ⟨_, fun _ => rfl, fun d => .of_kept (setmwlEffect_kept m n d)⟩
  | getmwl m => exact ⟨_, fun _ => rfl, fun d => .of_kept (getmwlEffect_kept m d)⟩
  | setmrl m n => exact ⟨_, fun _ => rfl, fun d => .of_kept (setmrlEffect_kept m n d)⟩
  | getmrl m => exact ⟨_, fun _ => rfl, fun d => .of_kept (getmrlEffect_kept m d)⟩
  | rstact m action => exact ⟨_, fun _ => rfl, fun d => .of_kept (rstactEffect_kept m action d)⟩
  | i3cTargetReset m => exact ⟨_, fun _ => rfl, fun d => .of_kept (i3cTargetResetEffect_kept m d)⟩
  | mctpPacket m packet => exact ⟨_, fun _ => rfl, fun d => .of_kept (mctpPacketEffect_kept m packet d)⟩
  | i2cMctpResponseRead m => exact ⟨_, fun _ => rfl, fun d => .of_kept (i2cMctpResponseReadEffect_kept m d)⟩
  | setEndpointId m op eid => exact ⟨_, fun _ => rfl, fun d => .of_kept (setEndpointIdEffect_kept m op eid d)⟩
  | getEndpointId m => exact ⟨_, fun _ => rfl, fun d => .of_kept (getEndpointIdEffect_kept m d)⟩
  | getMctpVersionSupport m msgType => exact ⟨_, fun _ => rfl, fun d => .of_kept (getMctpVersionSupportEffect_kept m msgType d)⟩
  | getMessageTypeSupport m => exact ⟨_, fun _ => rfl, fun d => .of_kept (getMessageTypeSupportEffect_kept m d)⟩
  | getVendorDefinedMessageSupport m selector => exact ⟨_, fun _ => rfl, fun d => .of_kept (getVendorDefinedMessageSupportEffect_kept m selector d)⟩
  | fjStatus m tag => exact ⟨_, fun _ => rfl, fun d => .of_kept (fjStatusEffect_kept m tag d)⟩
  | transferBegin m tag kind len => exact ⟨_, fun _ => rfl, fun d => .of_kept (transferBeginEffect_kept m tag kind len d)⟩
  | transferData m tag offset data => exact ⟨_, fun _ => rfl, fun d => .of_kept (transferDataEffect_kept m tag offset data d)⟩
  | transferEnd m tag fault => exact ⟨_, fun _ => rfl, fun d => .of_unlisted rfl rfl (transferEndEffect_wf m tag fault d)⟩
  | sheetRead m tag sheet offset len => exact ⟨_, fun _ => rfl, fun d => .of_wf rfl (sheetReadEffect_wf m tag sheet offset len d)⟩
  | sheetAcknowledge m tag sheet g => exact ⟨_, fun _ => rfl, fun d => .of_wf rfl (sheetAcknowledgeEffect_wf m tag sheet g d)⟩
  | reamHead m tag => exact ⟨_, fun _ => rfl, fun d => .of_kept (reamHeadEffect_kept m tag d)⟩
  | eventRead m tag first count => exact ⟨_, fun _ => rfl, fun d => .of_wf rfl (eventReadEffect_wf m tag first count d)⟩
  | eventClear m tag seq => exact ⟨_, fun _ => rfl, fun d => .of_kept (eventClearEffect_kept m tag seq d)⟩
  | cardPresent slot card => exact ⟨cardPresentWake slot card, fun _ => rfl, fun d => .of_unlisted rfl rfl (cardPresentWake_wf slot card d)⟩
  | cardRemoved slot => exact ⟨_, fun _ => rfl, fun d => .of_kept (cardRemovedEffect_kept slot d)⟩
  | slotPowerSettled slot => exact ⟨_, fun _ => rfl, fun d => .of_wf rfl (slotPowerSettledEffect_wf slot d)⟩
  | cardCommandIssue h v => exact ⟨_, fun _ => rfl, fun d => .of_wf rfl (cardCommandIssueEffect_wf h v d)⟩
  | cardResponse bits crcOk => exact ⟨_, fun _ => rfl, fun d => .of_wf rfl (cardResponseEffect_wf bits crcOk d)⟩
  | cardResponseTimeout => exact ⟨_, fun _ => rfl, fun d => .of_wf rfl (cardResponseTimeoutEffect_wf d)⟩
  | cardDataBlock data crcOk => exact ⟨_, fun _ => rfl, fun d => .of_wf rfl (cardDataBlockEffect_wf data crcOk d)⟩
  | cardDataTimeout => exact ⟨_, fun _ => rfl, fun d => .of_kept (cardDataTimeoutEffect_kept d)⟩
  | cardCrcStatusToken token => exact ⟨_, fun _ => rfl, fun d => .of_kept (cardCrcStatusTokenEffect_kept token d)⟩
  | cardBusyEnd => exact ⟨_, fun _ => rfl, fun d => .of_wf rfl (cardBusyEndEffect_wf d)⟩
  | cardBusyTimeout => exact ⟨_, fun _ => rfl, fun d => .of_kept (cardBusyTimeoutEffect_kept d)⟩
  | cardWriteDetectHold => exact ⟨_, fun _ => rfl, fun d => .of_kept (cardWriteDetectHoldEffect_kept d)⟩
  | cardReset cause => exact ⟨_, fun _ => rfl, fun d => .of_kept (cardResetEffect_kept cause d)⟩
  | cardPowerOffEnd slot => exact ⟨_, fun _ => rfl, fun d => .of_kept (cardPowerOffEndEffect_kept slot d)⟩
  | lcTransition h target => exact ⟨_, fun _ => rfl, fun d => .of_wf rfl (lcTransitionEffect_wf h target d)⟩
  | lcUnlock h => exact ⟨_, fun _ => rfl, fun d => .of_kept (lcUnlockEffect_kept h d)⟩
  | lcBurnWord h => exact ⟨_, fun _ => rfl, fun d => .of_kept (lcBurnWordEffect_kept h d)⟩
  | lcReadWord h => exact ⟨_, fun _ => rfl, fun d => .of_kept (lcReadWordEffect_kept h d)⟩
  | lcUndefinedCommand h code => exact ⟨_, fun _ => rfl, fun d => .of_kept (lcUndefinedCommandEffect_kept h code d)⟩
  | otpBurnDone => exact ⟨_, fun _ => rfl, fun d => .of_burn rfl rfl rfl (otpBurnDoneEffect_wf d)⟩
  | scanAllow h v => exact ⟨_, fun _ => rfl, fun d => .of_wf rfl (scanAllowEffect_wf h v d)⟩
  | mbistGo h v => exact ⟨_, fun _ => rfl, fun d => .of_wf rfl (mbistGoEffect_wf h v d)⟩
  | mbistDone failed => exact ⟨_, fun _ => rfl, fun d => .of_wf rfl (mbistDoneEffect_wf failed d)⟩
  | mramTest h v => exact ⟨_, fun _ => rfl, fun d => .of_wf rfl (mramTestEffect_wf h v d)⟩
  | scanExit => exact ⟨_, fun _ => rfl, fun d => .of_unlisted rfl rfl (scanExitEffect_wf d)⟩
  | dbChallenge src => exact ⟨_, fun _ => rfl, fun d => .of_kept (dbChallengeEffect_kept src d)⟩
  | dbSubmit src => exact ⟨_, fun _ => rfl, fun d => .of_kept (dbSubmitEffect_kept src d)⟩
  | ticketVerifyDone => exact ⟨_, fun _ => rfl, fun d => .of_kept (ticketVerifyDoneEffect_kept d)⟩
  | dbClose src => exact ⟨_, fun _ => rfl, fun d => .of_kept (dbCloseEffect_kept src d)⟩
  | dbRequest level => exact ⟨_, fun _ => rfl, fun d => .of_kept (dbRequestEffect_kept level d)⟩
  | tktDataWrite src v => exact ⟨_, fun _ => rfl, fun d => .of_kept (tktDataWriteEffect_kept src v d)⟩
  | idcode => exact ⟨_, fun _ => rfl, fun d => .of_kept (idcodeEffect_kept d)⟩
  | samplePreload cells => exact ⟨_, fun _ => rfl, fun d => .of_kept (samplePreloadEffect_kept cells d)⟩
  | extest cells => exact ⟨_, fun _ => rfl, fun d => .of_kept (extestEffect_kept cells d)⟩
  | bypass => exact ⟨_, fun _ => rfl, fun d => .of_kept (bypassEffect_kept d)⟩
  | dtmcs => exact ⟨_, fun _ => rfl, fun d => .of_kept (dtmcsEffect_kept d)⟩
  | dmiAccess op => exact ⟨_, fun _ => rfl, fun d => .of_unlisted rfl rfl (dmiAccessEffect_wf op d)⟩
  | boothAccess op index v => exact ⟨_, fun _ => rfl, fun d => .of_kept (boothAccessEffect_kept op index v d)⟩
  | privateTestInstruction ir => exact ⟨_, fun _ => rfl, fun d => .of_kept (privateTestInstructionEffect_kept ir d)⟩
  | deepSleepEnter h v => exact ⟨_, fun _ => rfl, fun d => .of_unlisted rfl rfl (deepSleepEnterEffect_wf h v d)⟩
  | deepSleepEntryComplete => exact ⟨_, fun _ => rfl, fun d => .of_unlisted rfl rfl (deepSleepEntryCompleteEffect_wf d)⟩
  | mainResetRequest h v => exact ⟨_, fun _ => rfl, fun d => .of_unlisted rfl rfl (mainResetRequestEffect_wf h v d)⟩
  | wakeEvent source ticks => exact ⟨_, fun _ => rfl, fun d => .of_unlisted rfl rfl (wakeEventEffect_wf source ticks d)⟩
  | wakeTimerExpiry ticks => exact ⟨_, fun _ => rfl, fun d => .of_unlisted rfl rfl (wakeTimerExpiryEffect_wf ticks d)⟩
  | correctedError block word => exact ⟨_, fun _ => rfl, fun d => .of_kept (correctedErrorEffect_kept block word d)⟩
  | deferredError block inst kind word => exact ⟨_, fun _ => rfl, fun d => .of_kept (deferredErrorEffect_kept block inst kind word d)⟩
  | f1Error block inst kind => exact ⟨_, fun _ => rfl, fun d => .of_unlisted rfl rfl (f1ErrorEffect_wf block inst kind d)⟩
  | f2Error block inst kind => exact ⟨_, fun _ => rfl, fun d => .of_wf rfl (f2ErrorEffect_wf block inst kind d)⟩
  | safeStateReset => exact ⟨_, fun _ => rfl, fun d => .of_unlisted rfl rfl (safeStateResetEffect_wf d)⟩
  | ecReportPop h => exact ⟨_, fun _ => rfl, fun d => .of_kept (ecReportPopEffect_kept h d)⟩
  | ecInjectArm h v => exact ⟨_, fun _ => rfl, fun d => .of_kept (ecInjectArmEffect_kept h v d)⟩
  | ptCtrlWrite h v => exact ⟨_, fun _ => rfl, fun d => .of_kept (ptCtrlWriteEffect_kept h v d)⟩
  | latchedLoRead sp size addr => exact ⟨_, fun _ => rfl, fun d => .of_wf rfl (latchedLoReadEffect_wf sp size addr d)⟩
  | wearWrite h f v => exact ⟨_, fun _ => rfl, fun d => .of_kept (wearWriteEffect_kept h f v d)⟩
  | registerWrite sp size addr v => exact ⟨_, fun _ => rfl, fun d => .of_unlisted rfl rfl (registerWriteEffect_wf sp size addr v d)⟩
  | upResetRelease p => exact ⟨_, fun _ => rfl, fun d => .of_kept (upResetReleaseEffect_kept p d)⟩
  | cxPerstDeassert => exact ⟨_, fun _ => rfl, fun d => .of_unlisted rfl rfl (cxPerstDeassertEffect_wf d)⟩
  | testEnRise => exact ⟨_, fun _ => rfl, fun d => .of_kept (testEnRiseEffect_kept d)⟩
  | holdupOkChange ok => exact ⟨_, fun _ => rfl, fun d => .of_kept (holdupOkChangeEffect_kept ok d)⟩
  | mainRailsUp => exact ⟨_, fun _ => rfl, fun d => .of_wf rfl (mainRailsUpEffect_wf d)⟩
  | vcoreExcursionEnd ticks => exact ⟨_, fun _ => rfl, fun d => .of_kept (vcoreExcursionEndEffect_kept ticks d)⟩
  | junctionExcursionEnd temp => exact ⟨_, fun _ => rfl, fun d => .of_kept (junctionExcursionEndEffect_kept temp d)⟩
  | entropyHealthRecovery => exact ⟨_, fun _ => rfl, fun d => .of_kept (entropyHealthRecoveryEffect_kept d)⟩
  | blockRestartDone block us => exact ⟨_, fun _ => rfl, fun d => .of_kept (blockRestartDoneEffect_kept block us d)⟩
  | lifeCycleWipeDone => exact ⟨_, fun _ => rfl, fun d => .of_wf rfl (lifeCycleWipeDoneEffect_wf d)⟩

/-- What a command's answer keeps. -/
theorem Keeps.of_exec {c : Instr} {s t : State} (h : exec c s = .next t) : Keeps c s.dev t.dev := by
  obtain ⟨f, hf, hkeeps⟩ := exec_runs c
  rw [hf] at h
  cases h
  exact hkeeps s.dev

/-- A step idles, or runs the front command on the device it was given. -/
theorem step_cases {s t : State} (h : step s = .next t) :
    (s.pending = [] ∧ t = s) ∨ ∃ c rest, s.pending = c :: rest ∧ exec c { s with pending := rest } = .next t := by
  unfold step at h
  split at h
  next hq => cases h; exact .inl ⟨hq, rfl⟩
  next c rest hq => exact .inr ⟨c, rest, hq, h⟩

/-- A command's answer clears no burned OTP bit (R525). -/
theorem OtpKept.of_exec {c : Instr} {s t : State} (h : exec c s = .next t) : OtpKept s.dev t.dev := by
  cases hw : writesOtp c with
  | false => exact .of_eq ((Keeps.of_exec h).otp hw)
  | true =>
    unfold writesOtp at hw
    split at hw
    next => cases h; exact otpBurnDoneEffect_otp s.dev
    next vbat => cases h; exact vstbyFallEffect_otp vbat s.dev
    next => cases hw

/-- Settles O1: both clauses are the two branches of `step`. -/
theorem stepRunsTheFrontCommand : Obligations.StepRunsTheFrontCommand := by
  unfold Obligations.StepRunsTheFrontCommand
  exact ⟨fun _ _ _ => rfl, fun s hq => by simp only [step, hq]⟩

/-- Settles O2: each clause is a field's value in `State.reset`. -/
theorem resetState : Obligations.ResetState := by
  unfold Obligations.ResetState
  refine ⟨rfl, rfl, rfl, rfl, rfl, rfl, rfl, rfl, rfl, fun c => ?_, rfl⟩
  simp only [chanAt, vget, State.reset, Vector.getElem_replicate]
  split <;> rfl

/-- Settles O3. -/
theorem memoryCanonicalAtReset : Obligations.MemoryCanonicalAtReset := rfl

/-- Settles O4: a step idles, or its command keeps the canonical form. -/
theorem stepKeepsMemoryCanonical : Obligations.StepKeepsMemoryCanonical := by
  intro s t hinv hstep
  obtain ⟨-, rfl⟩ | ⟨c, rest, -, hexec⟩ := step_cases hstep
  · exact hinv
  · exact (Keeps.of_exec hexec).wf hinv

/-- Settles O5: the two commands that write OTP only gain bits, and the others keep it. -/
theorem otpIsOneTimeProgrammable : Obligations.OtpIsOneTimeProgrammable := by
  refine ⟨fun s t hstep => ?_, fun c s t hburn hfall hexec => ?_⟩
  · obtain ⟨-, rfl⟩ | ⟨c, rest, -, hexec⟩ := step_cases hstep
    · exact .of_eq rfl
    · exact (OtpKept.of_exec hexec :)
  · refine (Keeps.of_exec hexec).otp ?_
    unfold writesOtp
    split
    · exact absurd rfl hburn
    · exact absurd rfl (hfall _)
    · rfl

/-- Settles O6: every command runs by an effect, which leaves the queue to `step`. -/
theorem everyCommandIsTaken : Obligations.EveryCommandIsTaken := by
  have htaken : ∀ (s : State) (c : Instr), ∃ t, exec c s = .next t ∧ t.pending = s.pending := fun s c =>
    have ⟨f, hf, _⟩ := exec_runs c
    ⟨{ s with dev := f s.dev }, hf s, rfl⟩
  refine ⟨htaken, fun s c rest hq => ?_⟩
  simpa only [step, hq] using htaken { s with pending := rest } c

/-- Settles O7: a command that is not listed keeps memory, so every byte reads as before. -/
theorem onlyListedCommandsChangeMemory : Obligations.OnlyListedCommandsChangeMemory := by
  intro c s t hlist hexec
  have hmem := (Keeps.of_exec hexec).mem hlist
  exact ⟨hmem, fun a n => by rw [hmem]⟩

/-- Settles O8: a command that is not listed keeps the policy; the two core resets are not listed (R27). -/
theorem onlyCouchesChangeThePolicy : Obligations.OnlyCouchesChangeThePolicy :=
  ⟨fun _ _ _ hlist hexec => (Keeps.of_exec hexec).policy hlist, fun _ => rfl, rfl⟩

end Sys2Proof.Machine
end

section
/-! PROOFS. The couch instant (spec/05_couch_transactions.md, R22, R156): the policy in force after the commit of a mould
with the fabric live. -/

namespace Sys2Proof.Machine

open Sys2Proof

/-- A mould's actions move the committed epoch to the next (R22). -/
@[simp] theorem applyActions_epoch (dig : List Byte) (as : List (List Byte)) (c : Committed) :
    (applyActions dig as c).epoch = c.epoch + 1 := rfl

/-- The committed epoch of a live fabric is the couch unit's. -/
theorem committedNow_epoch {d : Device} (hlive : d.tx.fabricLive = true) : (committedNow d).epoch = d.tx.epoch := by
  simp [committedNow, hlive]

/-- The policy in force after a commit with the fabric live: the next epoch, its leaf the mould's result, the other leaf
as it was (R22, R156). -/
theorem commitMould_policy {d : Device} (hlive : d.tx.fabricLive = true) :
    (commitMould d).tx.epoch = d.tx.epoch + 1 ∧
    (commitMould d).tx.leafEven = (if (d.tx.epoch + 1) % 2 = 0 then resultLeaf d else d.tx.leafEven) ∧
    (commitMould d).tx.leafOdd = (if (d.tx.epoch + 1) % 2 = 1 then resultLeaf d else d.tx.leafOdd) := by
  simp [commitMould, hlive, committedNow_epoch hlive]

/-- The leaf in force is the odd one in odd epochs, the even one in even epochs (R22). -/
theorem curLeaf_eq (d : Device) : curLeaf d = if d.tx.epoch % 2 = 1 then d.tx.leafOdd else d.tx.leafEven := by
  simp [curLeaf, leafBy, curTag]

/-- Settles O20: the new epoch's tag selects the leaf that the commit has loaded, and the old tag the other. -/
theorem commitAdvancesTheEpoch : Obligations.CommitAdvancesTheEpoch := by
  intro d hlive
  obtain ⟨hepoch, heven, hodd⟩ := commitMould_policy hlive
  refine ⟨hepoch, ?_, fun h => ?_, fun h => ?_⟩
  · rw [curLeaf_eq, hepoch, heven, hodd]
    rcases Nat.mod_two_eq_zero_or_one (d.tx.epoch + 1) with h | h <;> simp [h]
  · rw [heven, if_neg (by omega)]
  · rw [hodd, if_neg (by omega)]

end Sys2Proof.Machine
end

section
/-! PROOFS. What a digest context absorbs (spec/09_digest_engine.md, R274, R281, R285, R294): a feed within and past the
declared length, the verdict of a compare entry, and a burst that its tap does not expect. -/

namespace Sys2Proof.Machine

open Sys2Proof

/-- A feed that stays below the declared length is absorbed whole, and the context goes on (R285). -/
theorem feedBytes_within {epoch : Nat} {bs : List Byte} {c : Context} (h : c.msg.length + bs.length < c.declLen) :
    feedBytes epoch bs c = { c with msg := c.msg ++ bs } := by
  have htake : bs.take (c.declLen - c.msg.length) = bs := List.take_of_length_le (by omega)
  have hroom : ¬ c.declLen - c.msg.length < bs.length := by omega
  simp [feedBytes, htake, hroom, Nat.ne_of_lt h]

/-- A feed that reaches the declared length is absorbed up to it and finalises the context; what is left over sets TRUNC
(R285). -/
theorem feedBytes_reaches {epoch : Nat} {bs : List Byte} {c : Context} (hlen : c.msg.length ≤ c.declLen)
    (h : c.declLen ≤ c.msg.length + bs.length) :
    feedBytes epoch bs c = finalise epoch { c with
      msg := c.msg ++ bs.take (c.declLen - c.msg.length),
      trunc := c.trunc || decide (c.declLen < c.msg.length + bs.length) } := by
  have hfull : c.msg.length + min (c.declLen - c.msg.length) bs.length = c.declLen := by omega
  have htrunc : (c.declLen - c.msg.length < bs.length) = (c.declLen < c.msg.length + bs.length) := by
    rw [eq_iff_iff]; omega
  simp only [feedBytes, List.length_append, List.length_take, hfull, if_true, htrunc]

/-- An entry on a context that is not Faulted passes by its output and its flags alone (R294). -/
theorem cmpVerdict_pass_iff {c : Context} (e : List Byte) (h : c.state ≠ .faulted) :
    cmpVerdict c e = .pass ↔
      c.output = e ∧ c.output.length = 64 ∧ c.trunc = false ∧ c.short = false ∧ c.gap = false := by
  simp [cmpVerdict, h, and_assoc]

/-- An entry on a Faulted context is decided as Fault (R294). -/
theorem cmpVerdict_faulted {c : Context} (e : List Byte) (h : c.state = .faulted) : cmpVerdict c e = .fault := by
  simp [cmpVerdict, h]

section
variable {epoch off : Nat} {data : List Byte} {c : Context} {dg : DigestEngine} {t : Tap}
  (htap : c.tap = some t) (hgap : c.gap = false) (hstate : c.state = .absorbing)
include htap hgap hstate

/-- A burst that lies behind its tap changes nothing (R281). -/
theorem tapBurst_behind (h : off + data.length ≤ t.next) : tapBurst epoch off data c dg = { dg := dg } := by
  simp [tapBurst, htap, hgap, hstate, h]

/-- A burst that starts past its tap leaves a gap, with event 0x0506 (R281). -/
theorem tapBurst_past (h : t.next < off) : tapBurst epoch off data c dg =
    { dg := setCtx dg { c with gap := true }, events := [(0x0506, 3, [c.no, c.owner, t.next, off])] } := by
  have hbehind : ¬ off + data.length ≤ t.next := by omega
  simp [tapBurst, htap, hgap, hstate, hbehind, h]
end

/-- Settles O33: a feed below the declared length and one that reaches it, then the clauses one by one. -/
theorem digestAbsorption : Obligations.DigestAbsorption := by
  unfold Obligations.DigestAbsorption
  refine ⟨fun epoch bs c hlen => ?_, fun _ => rfl, fun _ e h => cmpVerdict_pass_iff e h,
    fun _ e h => cmpVerdict_faulted e h, fun _ _ _ _ _ _ htap hgap hstate =>
    ⟨tapBurst_behind htap hgap hstate, fun h _ => tapBurst_past htap hgap hstate h⟩⟩
  by_cases h : c.msg.length + bs.length < c.declLen
  · rw [feedBytes_within h]
    exact ⟨by rw [List.take_of_length_le (by omega)], by simp [Nat.not_lt.mpr (Nat.le_of_lt h)], fun hge => absurd hge (by omega),
      fun _ => ⟨rfl, rfl⟩, by simpa using Nat.le_of_lt h⟩
  · rw [feedBytes_reaches hlen (by omega)]
    refine ⟨rfl, rfl, fun _ => ⟨rfl, rfl, rfl⟩, fun hlt => absurd hlt h, ?_⟩
    simp only [finalise, List.length_append, List.length_take]
    omega

end Sys2Proof.Machine
end

section
/-! PROOFS. Accesses to registers and memory by harts and hosts (spec/00_scope.md R8–R11, spec/03_address_map.md R87, R88,
R101, R102, spec/12_device_start.md R359): one rule per outcome of a load and of a store, then the statements about
registers and the deckle. -/

namespace Sys2Proof.Machine

open Sys2Proof

/-- A command's answer, from what its effect makes of the device. -/
theorem exec_next {c : Instr} {f : Device → Device} {s : State} {e : Device} (hrun : exec c s = s.run f)
    (h : f s.dev = e) : exec c s = .next { s with dev := e } := by
  rw [hrun, ← h]; rfl

/-- A command without an effect on the device leaves the state as it was. -/
theorem exec_same {c : Instr} {f : Device → Device} {s : State} (hrun : exec c s = s.run f) (h : f s.dev = s.dev) :
    exec c s = .next s := by
  rw [hrun, State.run_eq, h]

/-- The access of a word is the only one of four bytes. -/
theorem Size.bytes_eq_four_iff (size : Size) : size.bytes = 4 ↔ size = .word := by
  cases size <;> decide

/-! ### Loads by a hart -/

section
variable {d : Device} {h : Hart} {size : Size} {addr key : Nat}

/-- A hart that runs has its load performed. -/
theorem latchedLoReadEffect_hart (hmay : MayRead d h) :
    latchedLoReadEffect (.hart h) size addr d = hartRead h size.bytes addr d := by
  obtain ⟨hmain, hstall⟩ := hmay
  simp [latchedLoReadEffect, hartLoad, hmain, hstall]

/-- An aligned word of a control block is read as a register (R10). -/
theorem hartRead_register (hblock : inBlocks addr = true) (halign : addr % 4 = 0) :
    hartRead h Size.word.bytes addr d = readRegister h addr d := by
  simp [hartRead, hblock, halign, Size.bytes]

/-- Any other access to a control block is a load access fault (R88). -/
theorem hartRead_misaligned (hblock : inBlocks addr = true) (hbad : size ≠ .word ∨ addr % 4 ≠ 0) :
    hartRead h size.bytes addr d = accessFault h addr d := by
  have hno : ¬ (size.bytes = 4 ∧ addr % 4 = 0) := by
    rw [Size.bytes_eq_four_iff]
    rintro ⟨hsize, halign⟩
    exact hbad.elim (· hsize) (· halign)
  rw [hartRead, if_pos hblock, if_neg hno]

/-- A load of memory that the hart may read returns the bytes there (R87). -/
theorem hartRead_memory (hblock : inBlocks addr = false) (hkey : hartLoadKey d h addr size.bytes = some key) :
    hartRead h size.bytes addr d = readErrors key size.bytes (reply (memRead d.mem key size.bytes) d) := by
  simp [hartRead, hblock, hkey]

/-- A load elsewhere is a load access fault (R88). -/
theorem hartRead_nowhere (hblock : inBlocks addr = false) (hkey : hartLoadKey d h addr size.bytes = none) :
    hartRead h size.bytes addr d = accessFault h addr (readErrors addr size.bytes d) := by
  simp [hartRead, hblock, hkey]

/-- A register whose read pops a queue. -/
theorem readRegister_pop {f : Device → Device} (hpop : popRead h addr = some f) : readRegister h addr d = f d := by
  simp [readRegister, hpop]

/-- A register whose read pops nothing is answered, and latches its other half (R45). -/
theorem readRegister_latch (hpop : popRead h addr = none) :
    readRegister h addr d = latchHi h addr (replyWord (regRead d h addr) d) := by
  simp [readRegister, hpop]

end

/-! ### Stores by a hart -/

section
variable {d : Device} {h : Hart} {size : Size} {addr key : Nat} {v : BitVec 64}

/-- An aligned word stored to a block that the hart may write is a write of its register (R10, R359). -/
theorem hartStore_register (hblock : inBlocks addr = true) (hmay : MayWrite d h (blockOf addr)) (halign : addr % 4 = 0) :
    hartStore h Size.word.bytes addr v d = blockWrite h (blockOf addr) (addr % 0x10000) (v.setWidth 32) d := by
  rw [hartStore, if_pos hblock, hartWrite_may hmay, if_pos ⟨rfl, halign⟩]

/-- Any other store to such a block is a store access fault (R88). -/
theorem hartStore_misaligned (hblock : inBlocks addr = true) (hmay : MayWrite d h (blockOf addr))
    (hbad : size ≠ .word ∨ addr % 4 ≠ 0) : hartStore h size.bytes addr v d = accessFault h addr d := by
  have hno : ¬ (size.bytes = 4 ∧ addr % 4 = 0) := by
    rw [Size.bytes_eq_four_iff]
    rintro ⟨hsize, halign⟩
    exact hbad.elim (· hsize) (· halign)
  rw [hartStore, if_pos hblock, hartWrite_may hmay, if_neg hno]

/-- A store to a block that the deckle excludes is a store access fault (R359). -/
theorem hartStore_excluded (hblock : inBlocks addr = true) (hmay : MayRead d h)
    (hdeckle : deckleAllows d h (blockOf addr) = false) : hartStore h size.bytes addr v d = accessFault h addr d := by
  rw [hartStore, if_pos hblock, hartWrite_excluded hmay.1 hmay.2 hdeckle]

/-- A store to memory that the hart may write lands there (R87). -/
theorem hartStore_memory (hblock : inBlocks addr = false) (hmay : MayRead d h)
    (hkey : hartStoreKey d h addr size.bytes = some key) :
    hartStore h size.bytes addr v d = store key (leBytes size.bytes v.toNat) d := by
  obtain ⟨hmain, hstall⟩ := hmay
  simp [hartStore, hblock, hmain, hstall, hkey]

/-- A store elsewhere is a store access fault (R88). -/
theorem hartStore_nowhere (hblock : inBlocks addr = false) (hmay : MayRead d h)
    (hkey : hartStoreKey d h addr size.bytes = none) : hartStore h size.bytes addr v d = accessFault h addr d := by
  obtain ⟨hmain, hstall⟩ := hmay
  simp [hartStore, hblock, hmain, hstall, hkey]

/-- What a store by a hart leaves of the device, before stage firmware notices a locked stage. -/
theorem registerWriteEffect_hart {e : Device} (hstore : hartStore h size.bytes addr v d = e) :
    registerWriteEffect (.hart h) size addr v d = stageStart e := by
  rw [← hstore]; rfl

end

/-! ### Hosts -/

section
variable {d : Device} {who : Option Ld} {ld : Ld} {size : Size} {off : Nat} {v : BitVec 64} (hup : cxlUp d = true)
include hup

/-- An access of BAR0 that is no aligned word is an Unsupported Request (R102). -/
theorem bar0Load_misaligned (hbad : size ≠ .word ∨ off % 4 ≠ 0) :
    bar0Load who size.bytes off d = unsupportedRequest who false size.bytes off d := by
  have hbad' : size.bytes ≠ 4 ∨ off % 4 ≠ 0 := hbad.imp_left (mt (Size.bytes_eq_four_iff size).mp)
  simp [bar0Load, hup, hbad']

/-- An aligned word of BAR0 below the host page is a CXL register (R437). -/
theorem bar0Load_cxl (halign : off % 4 = 0) (hoff : off < 0x10000) :
    bar0Load who Size.word.bytes off d = replyWord (cxlWord (whoOf d who) off) d := by
  simp [bar0Load, hup, halign, hoff, Size.bytes]

/-- An aligned word of an LD's host page (R101). -/
theorem bar0Load_page (halign : off % 4 = 0) (hoff : 0x10000 ≤ off) :
    bar0Load (some ld) Size.word.bytes off d = hostPageLoad ld off d := by
  simp [bar0Load, hup, halign, Size.bytes, Nat.not_lt.mpr hoff]

/-- A write of BAR0 that is no aligned word is an Unsupported Request (R102). -/
theorem bar0Store_misaligned {w : Word} (hbad : size ≠ .word ∨ off % 4 ≠ 0) :
    bar0Store who size.bytes off w d = unsupportedRequest who true size.bytes off d := by
  have hbad' : size.bytes ≠ 4 ∨ off % 4 ≠ 0 := hbad.imp_left (mt (Size.bytes_eq_four_iff size).mp)
  simp [bar0Store, hup, hbad']

/-- A write of an aligned word of BAR0 below the host page (R437). -/
theorem bar0Store_cxl {w : Word} (halign : off % 4 = 0) (hoff : off < 0x10000) :
    bar0Store who Size.word.bytes off w d = modWho who (cxlStore off w) d := by
  simp [bar0Store, hup, halign, hoff, Size.bytes]

/-- A write of an aligned word of an LD's host page (R101). -/
theorem bar0Store_page {w : Word} (halign : off % 4 = 0) (hoff : 0x10000 ≤ off) :
    bar0Store (some ld) Size.word.bytes off w d = pageWrite ld off w d := by
  simp [bar0Store, hup, halign, Size.bytes, Nat.not_lt.mpr hoff]

/-- A read of configuration space within one word (R435). -/
theorem configLoad_within (hfit : off % 4 + size.bytes ≤ 4) : configLoad who size.bytes off d =
    reply (((leBytes 4 (configWord d who (off - off % 4)).toNat).drop (off % 4)).take size.bytes) d := by
  simp [configLoad, hup, Nat.not_lt.mpr hfit]

/-- A write of configuration space within one word (R435). -/
theorem configWrite_within {w : Word} (hfit : off % 4 + size.bytes ≤ 4) : configWrite who size.bytes off w d =
    configField who (off - off % 4) ((2 ^ size.bytes - 1) * 2 ^ (off % 4))
      (w32 (w.toNat % 2 ^ (8 * size.bytes) * 2 ^ (8 * (off % 4)))) d := by
  simp [configWrite, hup, Nat.not_lt.mpr hfit]

end

/-- A write of a whole word of configuration space carries that word with all its bytes enabled (R435). -/
theorem configWrite_word {d : Device} (hup : cxlUp d = true) (who : Option Ld) {off : Nat} (halign : off % 4 = 0)
    (w : Word) : configWrite who Size.word.bytes off w d = configField who off 0xF w d := by
  have hw : w32 (w.toNat % 2 ^ 32 * 2 ^ 0) = w := BitVec.eq_of_toNat_eq (by simp [w32, w.isLt])
  rw [configWrite_within (size := .word) hup (by simp [halign, Size.bytes]), halign]
  exact congrArg (fun x => configField who off 0xF x d) hw

/-- A write with the link down reaches nothing (R432). -/
theorem bar0Store_down {d : Device} (hdown : cxlUp d = false) (who : Option Ld) (n off : Nat) (v : Word) :
    bar0Store who n off v d = d := by
  simp [bar0Store, hdown]

/-- A write with the link down reaches nothing (R432). -/
theorem configWrite_down {d : Device} (hdown : cxlUp d = false) (who : Option Ld) (n off : Nat) (v : Word) :
    configWrite who n off v d = d := by
  simp [configWrite, hdown]

/-! ### Single registers -/

/-- PT_CTRL_WRITE of a hart that may write the block (R580). -/
theorem ptCtrlWriteEffect_may {d : Device} {h : Hart} (hmay : MayWrite d h 16) (v : Word) :
    ptCtrlWriteEffect h v d = if h = 0 ∧ field v 8 8 = 0xF7 ∧ ptAllowed d = true
      then ptChanged { d with pt := { d.pt with enable := bit v 0 } } else d := by
  rw [ptCtrlWriteEffect, onlyHart_may hmay]
  by_cases h0 : h = 0
  · subst h0; simp
  · have hval : h.val ≠ 0 := fun e => h0 (Fin.ext e)
    simp [h0, hval]

/-- WEAR_WRITE of a hart that may write the block: while TS_CFG is not locked it sets the wear count (R225). -/
theorem wearWriteEffect_may {d : Device} {h : Hart} (hmay : MayWrite d h 6) (f : Dev) (v : Word) :
    wearWriteEffect h f v d = if bit d.gf.tsCfg 31 then d else
      eventsRaw (setWear f d.tx.epoch v (tsAt d f)).2 (modTs f (fun _ => (setWear f d.tx.epoch v (tsAt d f)).1) d) := by
  rw [wearWriteEffect, hartWrite_may hmay]
  rfl

/-- The wear count written, and the segment it falls into (R225). -/
theorem setWear_wear (f epoch : Nat) (v : Word) (t : Turnstile) :
    (setWear f epoch v t).1.wear = t.wearHi.toNat * 2 ^ 32 + v.toNat := by
  unfold setWear followSegment
  split <;> rfl

/-- Without a wear curve no segment is crossed. -/
theorem setWear_no_curve {t : Turnstile} (h : t.curve = none) (f epoch : Nat) (v : Word) :
    (setWear f epoch v t).2 = [] := by
  simp [setWear, followSegment, h]

/-- No queue is popped at the low half of a device's wear count. -/
theorem popRead_wearLo (h : Hart) (f : Dev) : popRead h (0x60061010 + 0x40 * f) = none := by
  have hf := f.isLt
  rw [popRead]
  iterate 6 rw [if_neg (by omega)]
  exact dif_neg (by omega)

/-- The low half of a device's wear count is its GF_TSn_WEAR_LO. -/
theorem regRead_wearLo (d : Device) (h : Hart) (f : Dev) :
    regRead d h (0x60061010 + 0x40 * f) = loWord (tsAt d f).wear := by
  have hf := f.isLt
  have hblock : blockOf (0x60061010 + 0x40 * f) = 6 := by unfold blockOf; omega
  have hoff : (0x60061010 + 0x40 * f.val) % 0x10000 = 0x1010 + 0x40 * f := by omega
  have hidx : (0x1010 + 0x40 * f.val - 0x1000) / 0x40 = f := by omega
  have hreg : (0x1010 + 0x40 * f.val) % 0x40 = 0x10 := by omega
  rw [regRead, hblock, hoff, blockReg, gfReg, if_neg (by omega), if_neg (by omega), if_pos (by omega), hidx, hreg]
  rfl

/-- A read of the low half of a device's wear count latches the high half (R45). -/
theorem latchHi_wearLo (d : Device) (h : Hart) (f : Dev) :
    latchHi h (0x60061010 + 0x40 * f) d = modTs f (fun t => { t with wearHiLatch := hiWord t.wear }) d := by
  have hf := f.isLt
  have hidx : (0x60061010 + 0x40 * f.val - 0x60061000) / 0x40 = f := by omega
  have hreg : (0x60061010 + 0x40 * f.val) % 0x40 = 0x10 := by omega
  rw [latchHi]
  iterate 5 rw [if_neg (by omega)]
  rw [if_pos (by omega), hidx, hreg]
  rfl

/-- Nothing is measured before stage firmware is attached, after its stage is measured, or before it is locked (R362). -/
theorem stageStart_idle {d : Device} (h : attached d = false ∨ d.start.measured = true ∨ stageLocked d = false) :
    stageStart d = d := by
  rcases h with h | h | h <;> simp [stageStart, h]

/-- Settles O16, clause by clause from the rules of `hartWrite`. -/
theorem deckleGuardsEveryBlock : Obligations.DeckleGuardsEveryBlock := by
  unfold Obligations.DeckleGuardsEveryBlock
  exact ⟨fun _ _ _ addr f hmain hstall hdeckle => hartWrite_excluded hmain hstall hdeckle addr f,
    fun _ _ _ _ _ hmain => by simp [hartWrite, hmain], fun _ _ _ addr f hmay => hartWrite_may hmay addr f,
    fun _ _ _ => by simp [accessFault]⟩

/-- Settles O46: reads by harts, by hosts and of single registers, then the writes in the same order. -/
theorem controlRegisters : Obligations.ControlRegisters := by
  unfold Obligations.ControlRegisters
  refine ⟨fun s h addr hmay hblock halign hpop => ?_, fun s h addr f hmay hblock halign hpop => ?_,
    fun s h size addr hmay hblock hbad => ?_, fun s h size addr key hmay hblock hkey => ?_,
    fun s h size addr hmay hblock hkey => ?_, fun s ld off hup halign hoff hdata => ?_,
    fun s who off hup halign hoff => ?_, fun s who size off hup hbad => ?_, fun s who off hup halign => ?_,
    fun s h hmay => ?_, fun s h hmay => ?_, fun s h f hmay => ?_, fun d h addr hnone => ?_, fun d h => ?_,
    fun s h addr v hblock hmay halign => ?_, fun d hidle => stageStart_idle hidle,
    fun s h size addr v hblock hmay hbad => ?_, fun s h size addr v hblock hmay hdeckle => ?_,
    fun s h size addr key v hblock hmay hkey => ?_, fun s h size addr v hblock hmay hkey => ?_,
    fun mask old v => ?_, fun s h v hmay => ?_, fun s v hmay hkey hallowed => ?_, fun s v hmay hno => ?_,
    fun s h f v hmay hlock => ?_, fun s h f v hmay hlock => ?_,
    fun f epoch v t => ⟨setWear_wear f epoch v t, fun hcurve => setWear_no_curve hcurve f epoch v⟩,
    fun s ld v hup => ?_, fun s who size off v hup hbad => ?_, fun s who size off v hdown => ?_⟩
  · exact exec_next rfl ((latchedLoReadEffect_hart hmay).trans
      ((hartRead_register hblock halign).trans (readRegister_latch hpop)))
  · exact exec_next rfl ((latchedLoReadEffect_hart hmay).trans
      ((hartRead_register hblock halign).trans (readRegister_pop hpop)))
  · exact exec_next rfl ((latchedLoReadEffect_hart hmay).trans (hartRead_misaligned hblock hbad))
  · exact exec_next rfl ((latchedLoReadEffect_hart hmay).trans (hartRead_memory hblock hkey))
  · exact exec_next rfl ((latchedLoReadEffect_hart hmay).trans (hartRead_nowhere hblock hkey))
  · exact exec_next rfl ((bar0Load_page hup halign hoff).trans (dif_neg (by omega)))
  · exact exec_next rfl (bar0Load_cxl hup halign hoff)
  · exact exec_next rfl (bar0Load_misaligned hup hbad)
  · refine exec_next rfl ((configLoad_within (size := .word) hup (by simp [Size.bytes, halign])).trans ?_)
    rw [halign]; rfl
  · exact exec_next rfl ((latchedLoReadEffect_hart hmay).trans ((hartRead_register rfl rfl).trans (readRegister_latch rfl)))
  · exact exec_next rfl ((latchedLoReadEffect_hart hmay).trans ((hartRead_register rfl rfl).trans (readRegister_latch rfl)))
  · have hf := f.isLt
    refine exec_next rfl ((latchedLoReadEffect_hart hmay).trans ((hartRead_register (decide_eq_true (by omega))
      (by omega)).trans ((readRegister_latch (popRead_wearLo h f)).trans ?_)))
    rw [regRead_wearLo, latchHi_wearLo]
  · rw [regRead, hnone]; rfl
  · exact ⟨rfl, rfl, rfl, rfl, rfl⟩
  · exact exec_next rfl (registerWriteEffect_hart (hartStore_register hblock hmay halign))
  · exact exec_next rfl (registerWriteEffect_hart (hartStore_misaligned hblock hmay hbad))
  · exact exec_next rfl (registerWriteEffect_hart (hartStore_excluded hblock hmay hdeckle))
  · exact exec_next rfl (registerWriteEffect_hart (hartStore_memory hblock hmay hkey))
  · exact exec_next rfl (registerWriteEffect_hart (hartStore_nowhere hblock hmay hkey))
  · exact ⟨fun hlock => if_pos hlock, fun hopen => if_neg (by simp [hopen])⟩
  · refine exec_next rfl (registerWriteEffect_hart ((hartStore_register (addr := 0x60080024) rfl hmay rfl).trans ?_))
    simp [blockOf, blockWrite, txWrite]
  · have hctrl := (ptCtrlWriteEffect_may hmay v).trans (if_pos ⟨rfl, hkey, hallowed⟩)
    refine ⟨exec_next rfl (registerWriteEffect_hart ((hartStore_register (addr := 0x60100000) rfl hmay rfl).trans ?_)),
      exec_next rfl hctrl⟩
    simpa [blockOf, blockWrite, ptWrite] using hctrl
  · refine exec_same rfl ((ptCtrlWriteEffect_may hmay v).trans (if_neg ?_))
    rintro ⟨-, hkey, hallowed⟩
    exact hno.elim (· hkey) (by simp [hallowed])
  · exact exec_same rfl ((wearWriteEffect_may hmay f v).trans (if_pos hlock))
  · exact exec_next rfl ((wearWriteEffect_may hmay f v).trans (if_neg (by simp [hlock])))
  · refine ⟨exec_next rfl ((bar0Store_page hup rfl (by decide)).trans ?_),
      exec_next rfl ((bar0Store_page hup rfl (by decide)).trans ?_),
      exec_same rfl ((bar0Store_page hup rfl (by decide)).trans ?_),
      exec_next rfl ((configWrite_word hup _ rfl _).trans ?_), exec_same rfl ((configWrite_word hup _ rfl _).trans ?_)⟩
    · simp [pageWrite]
    · simp [pageWrite]
    · simp [pageWrite, idx]
    · have hbyte : hasBit 0xF 1 = true := by decide
      simp [configField, modWho, hbyte]
    · have hbyte : hasBit 0xF 0 = true := by decide
      simp [configField, configLow, hbyte]
  · exact exec_next rfl (bar0Store_misaligned hup hbad)
  · exact ⟨exec_same rfl (bar0Store_down hdown ..), exec_same rfl (configWrite_down hdown ..)⟩

end Sys2Proof.Machine
end

section
/-! PROOFS. The F2 safe state and its reset (spec/21_errors_ecc_and_perturbation.md, R574–R578): what its entry leaves of
the device, what a further error does in it, and the MAIN reset of cause 4. -/

namespace Sys2Proof.Machine

open Sys2Proof

/-- A device held in reset changes `gf` only. -/
theorem holdReset_frame {β : Type} (p : Device → β) (hp : ∀ (e : Device) g, p { e with gf := g } = p e) (f : Nat)
    (d : Device) : p (holdReset f d) = p d := hp d _

/-- The devices held in reset as the safe state begins (R577 step 1). -/
def busesHeld (d : Device) : Device :=
  (List.range 64).foldl (fun acc f => holdReset f acc) (intervalBegin (guardedBuses d) 3 0 (holdAllGates d))

/-- Up to the harts, the entry into the safe state changes the gates, the guard and the flash buses alone. -/
theorem busesHeld_frame {β : Type} (p : Device → β) (hp : ∀ (e : Device) g, p { e with gf := g } = p e) (d : Device) :
    p (busesHeld d) = p (intervalBegin (guardedBuses d) 3 0 (holdAllGates d)) :=
  foldl_same p _ (fun e f => holdReset_frame p hp f e) _ _

/-- The device in the safe state (R577 step 1). -/
theorem enterSafe_eq (block kind : Nat) (escalated : Bool) (d : Device) : enterSafe block kind escalated d =
    { busesHeld d with
      power := { (busesHeld d).power with state := .safe, faultHeld := true }
      cx := { (busesHeld d).cx with linkUp := false, training := false }
      ec := { (busesHeld d).ec with handling := [{ cls := 4, block := block, inst := 0, kind := kind, word := 0 }] }
      is_ := { (busesHeld d).is_ with bds := (busesHeld d).is_.bds.map (fun b => { b with runOut := false }) }
      lastF2 := { block := block, kind := kind, escalated := escalated, hardware := false,
                  count := satAdd 16 (busesHeld d).lastF2.count 1 } } := rfl

@[simp] theorem enterSafe_gates (block kind : Nat) (escalated : Bool) (d : Device) :
    (enterSafe block kind escalated d).is_.gates = 0 := by
  rw [enterSafe_eq]
  exact (busesHeld_frame (·.is_.gates) (fun _ _ => rfl) d).trans (by simp [holdAllGates])

@[simp] theorem enterSafe_tx (block kind : Nat) (escalated : Bool) (d : Device) :
    (enterSafe block kind escalated d).tx = d.tx := by
  rw [enterSafe_eq]
  exact (busesHeld_frame (·.tx) (fun _ _ => rfl) d).trans (by simp)

/-- Outside the safe state an F2 error enters it (R577). -/
theorem f2ErrorEffect_enters {d : Device} (hup : mainUp d = true) (hsafe : d.power.state ≠ .safe) (block inst kind : Nat) :
    f2ErrorEffect block inst kind d = enterSafe block kind false (commitWordLands block d) := by
  simp [f2ErrorEffect, hup, hsafe]

/-- Only the couch unit's error in a commit lands a commit word (R157). -/
theorem commitWordLands_of_not_committing {d : Device} {block : Nat} (h : block ≠ 8 ∨ d.tx.state ≠ .committing) :
    commitWordLands block d = d := by
  rw [commitWordLands, if_neg]
  rintro ⟨hblock, hstate, -⟩
  exact h.elim (· hblock) (· hstate)

section
variable {d : Device} (hsafe : d.power.state = .safe)
include hsafe

/-- The main core has power in the safe state (R551). -/
theorem mainUp_of_safe : mainUp d = true := by simp [mainUp, hsafe]

/-- A further F2 error in the safe state (R578). -/
theorem f2ErrorEffect_safe (block inst kind : Nat) : f2ErrorEffect block inst kind d = hardwareSafe d := by
  simp [f2ErrorEffect, mainUp_of_safe hsafe, hsafe]

/-- A deferred error in the safe state (R578). -/
theorem deferredErrorEffect_safe (block inst kind word : Nat) :
    deferredErrorEffect block inst kind word d = hardwareSafe d := by
  simp [deferredErrorEffect, mainUp_of_safe hsafe, hsafe]

/-- Any error that arrives in the safe state (R578). -/
theorem errorArrives_safe (e : ErrRec) : errorArrives e d = hardwareSafe d := by
  simp [errorArrives, hsafe]

/-- The safe state ends in a MAIN reset of cause 4, its records written (R577, R578). -/
theorem safeStateResetEffect_safe : safeStateResetEffect d =
    mainReset 4 (clearCut (sheetLands (if d.lastF2.hardware then recordLands d else safeRecords d))) := by
  simp [safeStateResetEffect, hsafe]

end

/-- A Corrected Internal Error changes the logical devices only. -/
theorem correctedInternal_frame {β : Type} (p : Device → β) (hp : ∀ (e : Device) c, p { e with cx := c } = p e)
    (d : Device) : p (correctedInternal d) = p d :=
  foldl_same p _ (fun e _ => hp e _) _ d

/-- A corrected error in the safe state (R454, R578). -/
theorem correctedErrorEffect_safe {d : Device} (hsafe : d.power.state = .safe) (block word : Nat) :
    correctedErrorEffect block word d = hardwareSafe (if block = 12 then correctedInternal d else d) := by
  rw [correctedErrorEffect, if_pos (mainUp_of_safe hsafe)]
  refine errorArrives_safe ?_ _
  split
  · exact (congrArg Power.state (correctedInternal_frame (·.power) (fun _ _ => rfl) d)).trans hsafe
  · exact hsafe

/-- What power-good leaves of the power domain, but its state (R60, R61). -/
theorem powerGood_power (d : Device) : ∃ st, (powerGood d).power = { d.power with state := st } := by
  cases hx : d.pins.xtalOk with
  | true => exact ⟨.run, by rw [powerGood_xtal hx, mainRelease_power]⟩
  | false => exact ⟨.starting, by rw [powerGood_wait hx]⟩

@[simp] theorem powerGood_lastF2 (d : Device) : (powerGood d).lastF2 = d.lastF2 := by
  unfold powerGood
  split <;> simp

@[simp] theorem powerGood_otp (d : Device) : (powerGood d).lc.otp = d.lc.otp := by
  unfold powerGood
  split <;> simp

/-- The device in which the reset out of the safe state finds power good (R577 step 5). -/
theorem mainReset_safe (d : Device) : mainReset 4 d = powerGood { mainCleared false (holdAllGates d) with
    power := { (mainCleared false (holdAllGates d)).power with mainCause := 4, resetKind := 1 } } := if_pos rfl

/-- The cause and kind of the reset out of the safe state; FAULT# as it was (R577). -/
theorem mainReset_safe_power (d : Device) : (mainReset 4 d).power.mainCause = 4 ∧ (mainReset 4 d).power.resetKind = 1 ∧
    (mainReset 4 d).power.faultHeld = d.power.faultHeld := by
  rw [mainReset_safe]
  obtain ⟨st, hpower⟩ := powerGood_power { mainCleared false (holdAllGates d) with
    power := { (mainCleared false (holdAllGates d)).power with mainCause := 4, resetKind := 1 } }
  rw [hpower]
  simp

/-- The reset out of the safe state keeps GF_LAST_F2 and OTP. -/
theorem mainReset_safe_keeps (d : Device) :
    (mainReset 4 d).lastF2 = d.lastF2 ∧ (mainReset 4 d).lc.otp = d.lc.otp := by
  rw [mainReset_safe]
  simp

/-- Settles O45: the entry, the errors in the safe state, and its reset. -/
theorem safeState : Obligations.SafeState := by
  unfold Obligations.SafeState
  refine ⟨fun s block inst kind hup hsafe hcouch => ⟨_, exec_next rfl ((f2ErrorEffect_enters hup hsafe ..).trans
      (congrArg _ (commitWordLands_of_not_committing hcouch))), rfl, rfl, rfl, rfl, by simp, rfl, rfl, by simp, by simp, rfl⟩,
    fun s block inst kind word hsafe => ⟨exec_next rfl (f2ErrorEffect_safe hsafe ..),
      exec_next rfl (deferredErrorEffect_safe hsafe ..), exec_next rfl (correctedErrorEffect_safe hsafe ..)⟩,
    fun d hsoft => by simp [hardwareSafe, hsoft], fun d hhard => if_pos hhard,
    fun s hsafe => exec_next rfl (safeStateResetEffect_safe hsafe),
    fun s hsafe => exec_same rfl (by simp [safeStateResetEffect, hsafe]), fun d => ?_⟩
  obtain ⟨hcause, hkind, hfault⟩ := mainReset_safe_power d
  obtain ⟨hf2, hotp⟩ := mainReset_safe_keeps d
  exact ⟨hcause, hkind, hfault, hf2, hotp⟩

/-- Settles O60: the safe state and its reset, then each register access by its rule. -/
theorem faultsAndRegistersComplete : Obligations.FaultsAndRegistersComplete := by
  unfold Obligations.FaultsAndRegistersComplete
  refine ⟨fun s block inst kind hup hsafe => ?_, fun s hsafe => ?_,
    fun s h v hmay => exec_next rfl (ptCtrlWriteEffect_may hmay v),
    fun s h f v hmay => exec_next rfl (wearWriteEffect_may hmay f v),
    fun s h addr hmay hblock halign => exec_next rfl ((latchedLoReadEffect_hart hmay).trans
      ((hartRead_register hblock halign).trans ?_)),
    fun s h size addr key hmay hblock hkey =>
      exec_next rfl ((latchedLoReadEffect_hart hmay).trans (hartRead_memory hblock hkey)),
    fun s ld off hup halign hoff => exec_next rfl (bar0Load_page hup halign hoff),
    fun s who size off hup hfit => exec_next rfl (configLoad_within hup hfit),
    fun s h addr v hmay hblock halign =>
      exec_next rfl (registerWriteEffect_hart (hartStore_register hblock hmay halign)),
    fun s h size addr key v hmay hblock hkey =>
      exec_next rfl (registerWriteEffect_hart (hartStore_memory hblock hmay hkey)),
    fun s ld off v hup halign hoff => exec_next rfl (bar0Store_page hup halign hoff),
    fun s who off v hup halign hoff =>
      ⟨exec_next rfl (bar0Load_cxl hup halign hoff), exec_next rfl (bar0Store_cxl hup halign hoff)⟩,
    fun s who size off v hup hfit => exec_next rfl (configWrite_within hup hfit)⟩
  · exact ⟨exec_next rfl (f2ErrorEffect_enters hup hsafe ..), rfl, enterSafe_gates .., rfl, rfl, rfl⟩
  · obtain ⟨hcause, hkind, -⟩ := mainReset_safe_power
      (clearCut (sheetLands (if s.dev.lastF2.hardware then recordLands s.dev else safeRecords s.dev)))
    refine ⟨_, exec_next rfl (safeStateResetEffect_safe hsafe), hcause, hkind, ?_⟩
    exact (congrArg (·.lc.otp) (safeStateResetEffect_safe hsafe)).symm.trans (safeStateResetEffect_wf s.dev).2
  · rfl

end Sys2Proof.Machine
end

section
/-! PROOFS. Supplies, resets of the harts and of MAIN, and Deep Sleep (spec/02_signals_and_electrical.md, R57–R65;
spec/20_power_states_and_security_matrix.md, R554–R567). -/

namespace Sys2Proof.Machine

open Sys2Proof

/-! ### Supplies -/

/-- Without MAIN_PG, power-on leaves the device in Standby, its STBY state reset and its counts resumed (R60, R64). -/
theorem vstbyPowerOnEffect_standby {d : Device} (hoff : d.pins.vstby = false) (hpg : d.pins.mainPg = false)
    (vbat strap : Bool) : ∃ bat, vstbyPowerOnEffect vbat strap d = lifeDecode (resumeMirror (modPins (fun p =>
      { p with vstby := true, vbatOk := vbat, strapGolden := strap }) (tookFree 40 (stbyReset { d with bat := bat })))) := by
  exact ⟨_, (if_neg (by simp [hoff])).trans (if_neg (by simp [resumeMirror, stbyReset, hpg]))⟩

/-- A fall of VSTBY takes MAIN down with cause 1, and the battery domain without VBAT (R64, R65). -/
theorem vstbyFallEffect_up {d : Device} (hup : d.pins.vstby = true) (vbat : Bool) : ∃ e,
    vstbyFallEffect vbat d = if vbat then mainDown 1 .standbyOff e else { mainDown 1 .standbyOff e with bat := {} } := by
  exact ⟨_, if_neg (by simp [hup])⟩

/-- A fall of MAIN_PG takes MAIN down with cause 2 (R62). -/
theorem mainPgDeassertEffect_used {d : Device} (hused : railsUsed d = true) : ∃ e,
    mainPgDeassertEffect d = mainDown 2 .standby e := ⟨_, if_pos hused⟩

/-- A rail loss takes MAIN down with the cause of a brown-out (R63). -/
theorem railsLost_eq (mv ticks : Nat) (d : Device) : ∃ e, railsLost mv ticks d = mainDown (brownCause d) .standby e ∧
    e.pins = d.pins := by
  refine ⟨_, rfl, ?_⟩
  cases mainUp d <;> simp

/-- Power-good in Standby starts MAIN (R60, R61). -/
theorem mainPgAssertEffect_standby {d : Device} (hstandby : d.power.state = .standby) (hpg : d.pins.mainPg = false) :
    mainPgAssertEffect d = powerGood (modPins (fun p => { p with mainPg := true, mainRails := true }) d) := by
  simp [mainPgAssertEffect, hstandby, hpg]

/-- The return of the rails under MAIN_PG starts MAIN (R60). -/
theorem mainRailsUpEffect_standby {d : Device} (hstandby : d.power.state = .standby) (hpg : d.pins.mainPg = true) :
    mainRailsUpEffect d = powerGood (modPins (fun p => { p with mainRails := true }) d) := by
  simp [mainRailsUpEffect, hstandby, hpg]

/-- A stable crystal releases a MAIN that waits for it (R61). -/
theorem xtalStableEffect_starting {d : Device} (hvstby : d.pins.vstby = true) (hstart : d.power.state = .starting) :
    xtalStableEffect d = mainRelease (modPins (fun p => { p with xtalOk := true }) { d with bat := { d.bat with xtalSeen := true } }) := by
  simp [xtalStableEffect, hvstby, hstart]

/-- Settles O9, clause by clause from what each supply command makes of MAIN. -/
theorem suppliesAndMainRelease : Obligations.SuppliesAndMainRelease := by
  unfold Obligations.SuppliesAndMainRelease
  refine ⟨fun s vbat strap hoff hpg => ?_, fun s vbat hup => ?_, fun s hused => ?_, fun s mv ticks hused => ?_,
    fun s hstandby hpg hx hkind => ?_, fun s hstandby hpg hx => ?_, fun s hstandby hpg hx => ?_,
    fun s hvstby hstart hkind => ?_, fun s hvstby hstart => ?_, fun s mv ticks hused hlow hx => ?_, fun s ok => rfl,
    fun s ok => rfl, fun s mv hup hlo hhi => ?_, fun s mv ticks hlow => ?_⟩
  · obtain ⟨bat, heq⟩ := vstbyPowerOnEffect_standby hoff hpg vbat strap
    exact ⟨_, exec_next rfl heq, rfl, by simp [resumeMirror, stbyReset]⟩
  · obtain ⟨e, heq⟩ := vstbyFallEffect_up hup vbat
    refine ⟨_, exec_next rfl heq, ?_⟩
    cases vbat <;> simp
  · obtain ⟨e, heq⟩ := mainPgDeassertEffect_used hused
    exact ⟨_, exec_next rfl heq, by simp⟩
  · obtain ⟨e, heq, -⟩ := railsLost_eq mv ticks (modPins (fun p => { p with mainRails := false }) s.dev)
    exact ⟨_, exec_next rfl ((if_pos hused).trans heq), rfl, rfl, by simp⟩
  · exact ⟨_, exec_next rfl ((mainPgAssertEffect_standby hstandby hpg).trans (powerGood_xtal hx)), by simp [hkind]⟩
  · exact ⟨_, exec_next rfl ((mainPgAssertEffect_standby hstandby hpg).trans (powerGood_wait hx)), by simp⟩
  · exact ⟨_, exec_next rfl ((mainRailsUpEffect_standby hstandby hpg).trans (powerGood_xtal hx)), by simp⟩
  · exact ⟨_, exec_next rfl (xtalStableEffect_starting hvstby hstart), by simp [hkind]⟩
  · exact exec_next rfl (by simp [xtalStableEffect, hvstby, hstart, modPins])
  · obtain ⟨e, heq, hpins⟩ := railsLost_eq mv ticks s.dev
    have hx' : (railsLost mv ticks s.dev).pins.xtalOk = true := by rw [heq, mainDown_pins, hpins]; exact hx
    refine ⟨_, exec_next rfl ((if_pos (by simp [hused, hlow])).trans (powerGood_xtal hx')), ?_⟩
    rw [mainRelease_power, mainRelease_start, heq]
    exact ⟨rfl, rfl, rfl⟩
  · exact exec_next rfl (if_pos (by simp [hup, within, hlo, hhi]))
  · exact exec_next rfl (by simp only [vcoreExcursionEndEffect, hlow])

/-! ### Resets of the harts and of MAIN -/

/-- A kick by hart 0 restarts the watchdog's counter by its key alone (R567). -/
theorem watchdogKickEffect_hart0 {d : Device} (hmay : MayWrite d 0 1) (v : Word) :
    watchdogKickEffect 0 v d = if field v 0 8 = 0x5A then modPw (fun p => { p with wdogCount := 0 }) d else d := by
  rw [watchdogKickEffect, onlyHart_may hmay]; rfl

/-- A write of PW_SLEEP_CTRL without its key does nothing (R554). -/
theorem sleepCtrl_keyless {v : Word} (hkey : field v 8 8 ≠ 0xD5) (d : Device) : sleepCtrl v d = d := if_pos hkey

/-- With its key and MainReset it is a MAIN reset of cause 8 (R566). -/
theorem sleepCtrl_mainReset {v : Word} (hkey : field v 8 8 = 0xD5) (hreset : bit v 1 = true) (d : Device) :
    sleepCtrl v d = mainReset 8 d := by
  rw [sleepCtrl, if_neg (by simp [hkey]), if_pos hreset]

/-- With its key and Enter alone it begins Deep Sleep, or notes why it does not (R554). -/
theorem sleepCtrl_enter {v : Word} (hkey : field v 8 8 = 0xD5) (hreset : bit v 1 = false) (henter : bit v 0 = true)
    (d : Device) : sleepCtrl v d = if sleepRefusal d = 0 then sleepBegins d else
      hartEvent 0 0x0203 2 [sleepRefusal d, 0, 0, 0] (modPw (fun p => { p with refused := sleepRefusal d }) d) := by
  rw [sleepCtrl, if_neg (by simp [hkey]), if_neg (by simp [hreset]), if_pos henter]

/-- Hart 0's write of PW_SLEEP_CTRL, by either command (R554, R566). -/
theorem sleepCtrl_hart0 {d : Device} (hmay : MayWrite d 0 1) (v : Word) :
    onlyHart 0 0 1 0x60010010 (sleepCtrl v) d = sleepCtrl v d := by
  rw [onlyHart_may hmay]; rfl

/-- A MAIN reset by request is a power-down with the writes in progress as they may be (R566). -/
theorem mainReset_request (d : Device) :
    mainReset 8 d = powerGood (mainDown 8 .standby (writesMayComplete d)) := rfl

/-- Settles O12, clause by clause. -/
theorem coreAndMainResets : Obligations.CoreAndMainResets := by
  unfold Obligations.CoreAndMainResets
  refine ⟨fun s hmay => exec_next rfl ((onlyHart_may hmay ..).trans (if_pos rfl)),
    fun s hmain hexp => exec_next rfl (if_pos (by simp [hmain, hexp])), fun d cause => ?_,
    fun d => ⟨rfl, rfl, rfl, rfl, rfl, rfl, rfl⟩,
    fun s v hmay hkick => exec_next rfl ((watchdogKickEffect_hart0 hmay v).trans (if_pos hkick)),
    fun s v hmay hkick => exec_same rfl ((watchdogKickEffect_hart0 hmay v).trans (if_neg hkick)),
    fun s h v hmay hne => exec_same rfl ((onlyHart_may hmay ..).trans (if_neg fun e => hne (Fin.ext e))),
    fun s v hmay hkey => exec_same rfl ((sleepCtrl_hart0 hmay v).trans (sleepCtrl_keyless hkey _)),
    fun s v hmay hkey hreset => exec_next rfl ((sleepCtrl_hart0 hmay v).trans (sleepCtrl_mainReset hkey hreset _)),
    fun d hx => ?_⟩
  · obtain ⟨hwf, hotp, hepoch, heven, hodd, hlive⟩ := coreReset_wf cause d
    exact ⟨hotp, hepoch, heven, hodd, hlive, hwf⟩
  · have hpins : (mainDown 8 .standby (writesMayComplete d)).pins.xtalOk = true := by simp [hx]
    rw [mainReset_request, powerGood_xtal hpins]
    simp

/-! ### Deep Sleep -/

/-- What an accepted entry leaves of the power domain (R555). -/
theorem sleepBegins_power (d : Device) : ∃ p : Power, (sleepBegins d).power =
    { p with refused := 0, state := .entering, latched := none, laterSources := 0, wdogRunning := false } := ⟨_, rfl⟩

/-- The end of an entry that no source has latched: the sleep begins now (R555). -/
theorem deepSleepEntryCompleteEffect_sleeps {d : Device} (hentering : d.power.state = .entering)
    (hlatch : d.power.latched = none) : ∃ e : Device, e.lc.otp = d.lc.otp ∧ e.start = {} ∧ deepSleepEntryCompleteEffect d =
      modPw (fun p => { p with state := .deepSleep, sleepCount := satAdd 16 p.sleepCount 1, sleepStart := d.clock.opTime }) e := by
  have hotp : (sleepRecords (sleepFabric d)).lc.otp = d.lc.otp :=
    (sleepRecords_wf (sleepFabric d)).2.1.trans (sleepFabric_kept d).2.1
  refine ⟨{ sleepRecords (sleepFabric d) with
    bat := { (sleepRecords (sleepFabric d)).bat with
      untouched := if (sleepRecords (sleepFabric d)).measures.slotClean then 0x4843554E else 0 }
    start := {} }, by dsimp only; exact hotp, rfl, ?_⟩
  simp only [deepSleepEntryCompleteEffect, hentering, hlatch]
  rfl

/-- An enabled source wakes a sleeping device (R557, R558). -/
theorem wakeSource_asleep {d : Device} {src : Nat} (hsleep : asleep d = true) (hen : wakeEnabled d src = true)
    (ticks : Nat) : wakeSource src ticks d = wake src ticks d := by
  have hstate : d.power.state = .deepSleep := by simpa [asleep] using hsleep
  simp [wakeSource, hen, hstate]

/-- The device after a wake: MAIN released with cause 9 and reset kind 3, its clock as it was (R558). -/
theorem wake_eq (src ticks : Nat) (d : Device) :
    (wake src ticks d).power.state = .run ∧ (wake src ticks d).power.mainCause = 9 ∧
    (wake src ticks d).power.resetKind = 3 ∧ (wake src ticks d).power.lastWake = src ∧
    (wake src ticks d).power.sleepLen = ticks ∧ (wake src ticks d).start.phase = .rom ∧
    (wake src ticks d).clock = d.clock ∧ (wake src ticks d).mem = memLose true d.mem := by
  simp [wake]

/-- Settles O13: the refused and the accepted entry, its end, and the two wakes. -/
theorem deepSleep : Obligations.DeepSleep := by
  unfold Obligations.DeepSleep
  refine ⟨fun s v hmay hkey hreset henter hrefused => exec_next rfl ((sleepCtrl_hart0 hmay v).trans
      ((sleepCtrl_enter hkey hreset henter _).trans (if_neg hrefused))),
    fun s v hmay hkey hreset henter hok => ⟨_, exec_next rfl ((sleepCtrl_hart0 hmay v).trans
      ((sleepCtrl_enter hkey hreset henter _).trans (if_pos hok))), ?_⟩, fun s hentering hlatch => ?_,
    fun s source ticks hsleep hlo hhi hen => ?_, fun s ticks hsleep hen => ?_⟩
  · obtain ⟨p, hp⟩ := sleepBegins_power s.dev
    rw [hp]
    exact ⟨rfl, rfl, rfl, rfl, (sleepBegins_kept s.dev).1⟩
  · obtain ⟨e, hotp, hstart, heq⟩ := deepSleepEntryCompleteEffect_sleeps hentering hlatch
    exact ⟨_, exec_next rfl heq, rfl, rfl, hstart, hotp⟩
  · exact ⟨_, exec_next rfl ((if_pos (by simp [within, hlo, hhi])).trans (wakeSource_asleep hsleep hen ticks)),
      wake_eq source ticks s.dev⟩
  · obtain ⟨hrun, hcause, -, hwake, hlen, -⟩ := wake_eq 6 ticks s.dev
    exact ⟨_, exec_next rfl ((if_pos hsleep).trans (wakeSource_asleep hsleep hen ticks)), hrun, hcause, hwake, hlen⟩

end Sys2Proof.Machine
end

section
/-! PROOFS. The junction, GPIO inputs, CX_PERST# and the operating time (spec/02_signals_and_electrical.md, R85;
spec/04_structure_image.md, R133; spec/14_ream_and_event_recorder.md, R414; spec/15_cxl_host_port.md, R431, R432). -/

namespace Sys2Proof.Machine

open Sys2Proof

/-! ### The junction -/

/-- A reading at 100 °C or above (R85). -/
theorem junctionWarningEffect_up {d : Device} {temp : Nat} (hup : mainUp d = true) (htemp : 100 ≤ temp) :
    junctionWarningEffect temp d = junctionHot temp d := if_pos (by simp [hup, htemp])

/-- A trip outside the safe state enters it with kind 4 of block 0 (R85). -/
theorem junctionTripEffect_up {d : Device} {temp : Nat} (hup : mainUp d = true) (hsafe : d.power.state ≠ .safe)
    (htemp : 112 ≤ temp) : junctionTripEffect temp d =
      enterSafe 0 4 false (lastGasp 0x0241 5 [temp, 0, 0, 0, (junctionHot temp d).tx.epoch] (junctionHot temp d)) := by
  simp [junctionTripEffect, hup, hsafe, Nat.not_lt.mpr htemp]

/-! ### GPIO inputs -/

section
variable {d : Device} {g : Gpio} {level : Bool} (hlevel : d.pins.gpioIn[g] ≠ level)
include hlevel

/-- A GPIO without function 1, or without power, only follows its level (R133). -/
theorem gpioInputChangeEffect_plain (h : islandUp d = false ∨ gpioFunction d g ≠ 1) :
    gpioInputChangeEffect g level d = modPins (fun p => { p with gpioIn := p.gpioIn.set g level }) d := by
  have hcond : (!islandUp d || gpioFunction d g != 1) = true := by
    rcases h with h | h <;> simp [h]
  rw [gpioInputChangeEffect, if_neg (by simpa using hlevel)]
  exact if_pos hcond

/-- A GPIO with function 1 records its change while the main core is up, and wakes where it is selected (R133). -/
theorem gpioInputChangeEffect_function (hisland : islandUp d = true) (hfun : gpioFunction d g = 1) :
    gpioInputChangeEffect g level d =
      let e := if mainUp d then gpioEvent (modPins (fun p => { p with gpioIn := p.gpioIn.set g level }) d)
        else modPins (fun p => { p with gpioIn := p.gpioIn.set g level }) d
      if bit d.power.wakeGpio g then wakeSource 2 (sleptTicks d) e else e := by
  rw [gpioInputChangeEffect, if_neg (by simpa using hlevel)]
  exact if_neg (by simp [hisland, hfun])
end

/-- The retention island has power with the main core (R551). -/
theorem islandUp_of_mainUp {d : Device} (hup : mainUp d = true) : islandUp d = true := by simp [islandUp, hup]

/-! ### The tick -/

/-- Firmware with nothing to go on with does nothing at a tick. -/
theorem firmwareTurn_quiet {d : Device} (hquiet : FirmwareQuiet d) : firmwareTurn d = d := by
  obtain ⟨hattempts, hinstalls, hupdate, hcard⟩ := hquiet
  have hattempt : ∀ bd ∈ List.range 16, attemptTurn bd d = d := fun bd hbd => by
    have hnone := hattempts ⟨bd, List.mem_range.mp hbd⟩
    simp only [attemptTurn, hnone]
  have hsteward : stewardTurn d = d := by
    have hatt : attemptsTurn d = d := List.foldlRecOn (motive := fun e => e = d) _ _ rfl
      (fun e he bd hbd => by rw [he, hattempt bd hbd])
    simp only [stewardTurn, hatt, installsTurn, hinstalls, List.map_nil, List.foldl_nil, ite_self]
  have hcardTurn : cardTurn d = d := by
    unfold cardTurn
    rcases hcard with hbusy | ⟨hdetached, hphase⟩ | ⟨htaken, hack, hslots⟩
    · exact if_pos hbusy
    · simp [hdetached, hphase]
    · have hnone : (List.range 4).find? (slotWaits d) = none :=
        List.find?_eq_none.mpr fun n hn => by simp [hslots ⟨n, List.mem_range.mp hn⟩]
      have hzero : slotWaits d 0 = false := hslots 0
      simp [htaken, hack, hnone, hzero]
  have hupdateTurn : updateTurn d = d := by simp only [updateTurn, hupdate]
  rw [firmwareTurn, hsteward, hupdateTurn, hcardTurn, ite_self]

/-- The tick of the main core's blocks leaves firmware as idle as it was. -/
theorem firmwareQuiet_mainTick (d : Device) : FirmwareQuiet (mainTick (timeTick d)) = FirmwareQuiet d :=
  mainTick_frame FirmwareQuiet (timeTick d) (fun _ _ _ _ => rfl)

/-- What a tick with quiet firmware leaves of the device, for a part that neither tick touches. -/
theorem tick_quiet {β : Type} (p : Device → β) {d : Device} (hquiet : FirmwareQuiet d) (hvstby : d.pins.vstby = true)
    (hpg : d.pins.mainPg = true) (hp : ∀ (e : Device) g v w, p { e with gf := g, ev := v, power := w } = p e) :
    p (operatingTimeTickEffect d) = p (timeTick d) := by
  rw [operatingTimeTickEffect, if_neg (by simp [hvstby, hpg])]
  split
  · rw [firmwareTurn_quiet ((firmwareQuiet_mainTick d).mpr hquiet), mainTick_frame p _ hp]
  · rfl

/-- Settles O11, clause by clause. -/
theorem junctionPinsAndTime : Obligations.JunctionPinsAndTime := by
  unfold Obligations.JunctionPinsAndTime
  refine ⟨fun s temp hup htemp hhot => exec_next rfl ((junctionWarningEffect_up hup htemp).trans (if_pos hhot)),
    fun s temp hup htemp hcold => exec_next rfl ((junctionWarningEffect_up hup htemp).trans (if_neg (by simp [hcold]))),
    fun s temp hup hsafe htemp => ⟨_, exec_next rfl (junctionTripEffect_up hup hsafe htemp), rfl, rfl, rfl, rfl, rfl, by simp⟩,
    fun s temp hup htemp => exec_next rfl ?_,
    fun s g level hsame => exec_same rfl (if_pos (by simpa using hsame)),
    fun s g level hlevel hplain => exec_next rfl (gpioInputChangeEffect_plain hlevel hplain),
    fun s g level hlevel hup hfun hwake => exec_next rfl
      ((gpioInputChangeEffect_function hlevel (islandUp_of_mainUp hup) hfun).trans ?_),
    fun s g level hlevel hup hfun hwake => exec_next rfl
      ((gpioInputChangeEffect_function hlevel (islandUp_of_mainUp hup) hfun).trans ?_),
    fun s g level hlevel hisland hdown hfun => exec_next rfl
      ((gpioInputChangeEffect_function hlevel hisland hfun).trans ?_),
    fun s hperst hrun hkind hrestart => exec_next rfl ?_,
    fun d => ⟨rfl, rfl, rfl, rfl, rfl, rfl, rfl, rfl⟩,
    fun s hvstby hpg hdown => exec_next rfl ?_, fun s hvstby hpg hup => exec_next rfl ?_,
    fun s hvstby hpg hquiet => ⟨_, rfl, ?_⟩, fun s hpg => exec_same rfl (if_pos (by simp [hpg]))⟩
  · simp [junctionExcursionEndEffect, junctionReading, hup, htemp]
  · simp [hup, hwake, modPins]
  · simp [hup, hwake, modPins]
  · simp [hdown, modPins]
  · have hmain : mainRuns s.dev = true := by simp [mainRuns, hrun]
    rw [cxPerstDeassertEffect, if_neg (by simp [hperst])]
    simp only [hmain, hrestart, Bool.not_false, Bool.and_self, if_true]
    exact (wakeSource_of_run (d := modCx (fun c => { c with training := true })
      (modPins (fun p => { p with cxPerst := false }) s.dev)) hrun (.inl hkind) 4 (sleptTicks s.dev)).trans (by simp [modCx, modPins, hrestart])
  · rw [operatingTimeTickEffect, if_neg (by simp [hvstby, hpg])]
    exact if_neg (by rw [show mainUp (timeTick s.dev) = mainUp s.dev from rfl, hdown]; decide)
  · rw [operatingTimeTickEffect, if_neg (by simp [hvstby, hpg])]
    exact if_pos hup
  · dsimp only
    simp only [tick_quiet (·.clock) hquiet hvstby hpg (fun _ _ _ _ => rfl),
      tick_quiet (·.bat) hquiet hvstby hpg (fun _ _ _ _ => rfl), tick_quiet (·.mem) hquiet hvstby hpg (fun _ _ _ _ => rfl),
      tick_quiet (·.tx) hquiet hvstby hpg (fun _ _ _ _ => rfl), tick_quiet (·.is_) hquiet hvstby hpg (fun _ _ _ _ => rfl),
      tick_quiet (·.kv) hquiet hvstby hpg (fun _ _ _ _ => rfl), tick_quiet (·.pins) hquiet hvstby hpg (fun _ _ _ _ => rfl)]
    exact ⟨rfl, rfl, rfl, rfl, rfl, rfl, rfl, rfl⟩

end Sys2Proof.Machine
end

section
/-! PROOFS. What an event leaves alone, for any part `p` of the device that the recorder and the last-gasp ring do not
touch (spec/14_ream_and_event_recorder.md, R420, R428): the form in which folds over events are framed. -/

namespace Sys2Proof.Machine

open Sys2Proof

section
variable {β : Type} (p : Device → β) (hp : ∀ (e : Device) ev bat, p { e with ev := ev, bat := bat } = p e)
include hp

/-- An event that arrives touches `ev` and `bat` only. -/
theorem arriveEvent_same (hart : Bool) (code aid sev : Nat) (ps : List Nat) (d : Device) :
    p (arriveEvent hart code aid sev ps d) = p d := by
  unfold arriveEvent
  split
  · rfl
  · split
    · split
      · exact hp d d.ev _
      · exact hp d _ d.bat
    · exact hp d _ d.bat

theorem event_same (code sev : Nat) (ps : List Nat) (d : Device) : p (event code sev ps d) = p d :=
  arriveEvent_same p hp ..

theorem hartEvent_same (h code sev : Nat) (ps : List Nat) (d : Device) : p (hartEvent h code sev ps d) = p d := by
  unfold hartEvent
  split
  · exact arriveEvent_same p hp ..
  · rfl

theorem startEvent_same (code sev : Nat) (ps : List Nat) (d : Device) : p (startEvent code sev ps d) = p d :=
  arriveEvent_same p hp ..

theorem events_same (l : List (Nat × Nat × List Nat)) (d : Device) : p (events l d) = p d :=
  foldl_same p _ (fun _ _ => event_same p hp ..) l d

theorem eventsRaw_same (l : List (Nat × Nat × List Nat)) (d : Device) : p (eventsRaw l d) = p d :=
  foldl_same p _ (fun _ _ => arriveEvent_same p hp ..) l d

end

end Sys2Proof.Machine
end

section
/-! PROOFS. The start and the hand-over, firmware slots and watermarks (spec/12_device_start.md, R323, R342, R352, R357–R365,
R372). -/

namespace Sys2Proof.Machine

open Sys2Proof

/-! ### LoadDone -/

/-- The slots read from the journal change the vault's slots alone. -/
theorem setSlot_flags (kv : KeyVault) (s : VaultSlot) :
    (setSlot kv s).loadDone = kv.loadDone ∧ (setSlot kv s).entropyOk = kv.entropyOk := ⟨rfl, rfl⟩

/-- A loaded vault has LoadDone, and EntropyOk as before (R323). -/
theorem loadVault_flags (m : Memory) (bat : Battery) (kv : KeyVault) :
    (loadVault m bat kv).1.loadDone = true ∧ (loadVault m bat kv).1.entropyOk = kv.entropyOk := by
  unfold loadVault
  split
  · exact ⟨rfl, rfl⟩
  · dsimp only
    split
    · exact ⟨rfl, rfl⟩
    · split
      · exact ⟨rfl, rfl⟩
      · refine List.foldlRecOn (motive := fun acc : KeyVault × List (Nat × Nat) =>
          acc.1.loadDone = true ∧ acc.1.entropyOk = kv.entropyOk) _ _ ⟨rfl, rfl⟩ (fun acc hacc i _ => ?_)
        split
        · exact hacc
        · exact hacc

/-- The ROM waits for RecoverSettled (R61). -/
theorem romGo_unsettled {d : Device} (h : d.pins.recoverSettled = false) : romGo d = d := by simp [romGo, h]

/-- The tamper state at LoadDone is noted in `bat` and `ev` only (R342). -/
theorem rootsNoted_same {β : Type} (p : Device → β) (hp : ∀ (e : Device) ev bat, p { e with ev := ev, bat := bat } = p e)
    (d : Device) : p (noteTamper (rootLost d)) = p d := by
  have hlost : p (rootLost d) = p d := by
    unfold rootLost
    split
    · rfl
    · exact (event_same p hp ..).trans (hp d d.ev _)
  rw [← hlost]
  unfold noteTamper
  split
  · exact arriveEvent_same p hp ..
  · rfl

/-- LoadDone with the ROM waiting: the vault is loaded, and beside it only `ev` and `bat` change (R323, R342). -/
theorem keyVaultLoadDoneEffect_waits {d : Device} (hrun : d.power.state = .run) (hload : d.kv.loadDone = false)
    (hsettled : d.pins.recoverSettled = false) {β : Type} (p : Device → β)
    (hp : ∀ (e : Device) ev bat, p { e with ev := ev, bat := bat } = p e) :
    p (keyVaultLoadDoneEffect d) = p { d with kv := (loadVault d.mem d.bat { d.kv with entropyOk := true }).1 } := by
  rw [keyVaultLoadDoneEffect, if_neg (by simp [hrun, hload])]
  have hframe := fun {γ : Type} (q : Device → γ) (hq : ∀ (e : Device) ev bat, q { e with ev := ev, bat := bat } = q e) =>
    (rootsNoted_same q hq ((loadVault d.mem d.bat { d.kv with entropyOk := true }).2.foldl (fun acc e =>
      eventsRaw [(0x0406, 4, [(loadVault d.mem d.bat { d.kv with entropyOk := true }).1.jrnlGen, e.2, e.1, 0, 0])] acc)
      { d with kv := (loadVault d.mem d.bat { d.kv with entropyOk := true }).1 })).trans
        (foldl_same q _ (fun _ _ => eventsRaw_same q hq ..) _ _)
  dsimp only
  rw [romGo_unsettled ((hframe (·.pins.recoverSettled) (fun _ _ _ => rfl)).trans hsettled)]
  exact hframe p hp

/-! ### Hand-over -/

/-- Hart 0's write of a bit of SYS_BOOT_CTRL. -/
theorem onlyHart0_boot {d : Device} (hmay : MayWrite d 0 0) (f : Device → Device) :
    onlyHart 0 0 0 bootCtrlAddr f d = f d := by
  rw [onlyHart_may hmay]; rfl

/-- Stage firmware's own start leaves the phase (R586). -/
theorem stageStart_phase (d : Device) : (stageStart d).start.phase = d.start.phase := by
  unfold stageStart
  split
  · rw [startEvent_same (·.start.phase) (fun _ _ _ => rfl)]
    dsimp only
    split <;> rfl
  · rfl

/-- The events of a start leave the phase (R375, R570). -/
theorem firmwareEvents_phase (d : Device) : (firmwareEvents d).start.phase = d.start.phase := by
  have hfold : ((d.start.failVers).foldl (fun acc f => startEvent 0x0102 4 [f.1, f.2.1, f.2.2.1, f.2.2.2] acc)
      d).start.phase = d.start.phase :=
    foldl_same (·.start.phase) _ (fun _ _ => startEvent_same (·.start.phase) (fun _ _ _ => rfl) ..) _ _
  unfold firmwareEvents
  rw [stageStart_phase]
  split
  · exact (startEvent_same (·.start.phase) (fun _ _ _ => rfl) ..).trans hfold
  · exact hfold

/-- The power block's events leave the phase (R570). -/
theorem powerEvents_phase (d : Device) : (powerEvents d).start.phase = d.start.phase := by
  unfold powerEvents
  split
  · dsimp only
    split
    · exact (startEvent_same (·.start.phase) (fun _ _ _ => rfl) ..).trans (startEvent_same (·.start.phase) (fun _ _ _ => rfl) ..)
    · exact startEvent_same (·.start.phase) (fun _ _ _ => rfl) ..
  · split
    · exact startEvent_same (·.start.phase) (fun _ _ _ => rfl) ..
    · exact startEvent_same (·.start.phase) (fun _ _ _ => rfl) ..

/-- The device in which stage 1 has just been entered (R352, R567). -/
def stageEntered (d : Device) : Device :=
  firmwareEvents (powerEvents { d with
    start := { d.start with phase := .stage1 }
    power := { d.power with wdogRunning := bit d.power.wdog 16, wdogCount := 0, wdogFired := false } })

theorem attached_stageEntered (d : Device) : attached (stageEntered d) = true := by
  have hphase : (stageEntered d).start.phase = .stage1 := (firmwareEvents_phase _).trans (powerEvents_phase _)
  simp [attached, hphase]

/-- A hand-over with everything ready attaches stage firmware, which takes up what waits for it (R352). -/
theorem attachEffect_ready {d : Device} (hmay : MayWrite d 0 0) (hphase : d.start.phase = .loaded)
    (hready : d.start.hartReady = 0xF) (hlock : d.start.lock = true) : attachEffect 0 d =
      drainPackets 1 (drainPackets 0 (extendOwed (answerHeldSpdm (answerHeld (restoreRungs (ensureChain (attestStart
        (deriveAlias (adoptCouch (stageEntered d)))))))))) := by
  have hhand : handoverEffect 0 d = stageEntered d := by
    rw [handoverEffect, onlyHart0_boot hmay]
    simp only [hphase, hready, hlock, stageEntered, beq_self_eq_true, Bool.and_self, if_true]
  have hwas : attached d = false := by simp [attached, hphase]
  simp only [attachEffect, hhand, attached_stageEntered, hwas, Bool.not_false, Bool.and_self, if_true]

/-- A hand-over before every hart is ready does nothing (R352). -/
theorem attachEffect_unready {d : Device} (hmay : MayWrite d 0 0) (hready : d.start.hartReady ≠ 0xF) :
    attachEffect 0 d = d := by
  have hhand : handoverEffect 0 d = d := by
    rw [handoverEffect, onlyHart0_boot hmay]
    simp [hready]
  simp [attachEffect, hhand]

/-- The deckle is locked once (R9, R359). -/
theorem deckleLockEffect_may {d : Device} {h : Hart} (hmay : MayWrite d h 0) : ∃ e : Device,
    deckleLockEffect h d = if d.start.lock then d else { e with start := { e.start with lock := true } } :=
  ⟨if d.start.phase == .loaded && h == 0 then romDeckle d else d, hartWrite_may hmay ..⟩

/-- A mould left in Done or Aborted is released by hart 0 (R585). -/
theorem adoptCouch_left {d : Device} (hmay : MayWrite d 0 8) (hstate : d.tx.state = .done ∨ d.tx.state = .aborted) :
    adoptCouch d = couchResult 0 6 0 (modTx (fun x => { x with
      state := .idle, owner := 0xFF, requester := 0xFF, actions := [], sipLocked := x.siCopyBusy }) d) := by
  rw [adoptCouch, if_pos hstate, couchReleaseEffect, couchCommand_accepted hmay]
  simp [ownerOrHart0, hstate]

/-- Settles O14, clause by clause. -/
theorem startAndHandover : Obligations.StartAndHandover := by
  unfold Obligations.StartAndHandover
  refine ⟨fun s hrun hload hsettled => ⟨_, rfl, ?_⟩, fun s hmay hphase hrel => ⟨_, exec_next rfl
      ((onlyHart0_boot hmay _).trans (if_pos (by simp [hphase, hrel]))), rfl, by simp⟩,
    fun s h hmay => exec_next rfl (hartWrite_may hmay ..), fun s h hmay hlock => ?_,
    fun s h hmay hlock => ?_, fun s hmay hphase hready hlock => ?_,
    fun s hmay hready => exec_same rfl (attachEffect_unready hmay hready),
    fun s hmay hlock => exec_next rfl ((onlyHart0_boot hmay _).trans (if_neg (by simp [hlock]))),
    fun s h hmay => exec_next rfl (hartWrite_may hmay ..), fun d hmay hstate => ?_,
    fun d hdone haborted => if_neg (by simp [hdone, haborted])⟩
  · have hwaits := fun {β : Type} (p : Device → β) => keyVaultLoadDoneEffect_waits hrun hload hsettled p
    obtain ⟨hdone, hentropy⟩ := loadVault_flags s.dev.mem s.dev.bat { s.dev.kv with entropyOk := true }
    exact ⟨(hwaits (·.kv.loadDone) (fun _ _ _ => rfl)).trans hdone,
      (hwaits (·.kv.entropyOk) (fun _ _ _ => rfl)).trans hentropy, hwaits (·.mem) (fun _ _ _ => rfl),
      hwaits (·.start) (fun _ _ _ => rfl), hwaits (·.lc) (fun _ _ _ => rfl), hwaits (·.tx) (fun _ _ _ => rfl)⟩
  · obtain ⟨e, heq⟩ := deckleLockEffect_may hmay
    refine ⟨_, rfl, ?_, (deckleLockEffect_kept h s.dev).1⟩
    exact congrArg (·.start.lock) (heq.trans (if_neg (by simp [hlock])))
  · obtain ⟨e, heq⟩ := deckleLockEffect_may hmay
    exact exec_same rfl (heq.trans (if_pos hlock))
  · exact ⟨_, rfl, (attachEffect_kept 0 s.dev).1, (attachEffect_kept 0 s.dev).2.1, attachEffect_ready hmay hphase hready hlock⟩
  · rw [adoptCouch_left hmay hstate]
    exact ⟨rfl, rfl, rfl, rfl, rfl⟩

/-! ### Firmware slots and watermarks -/

/-- A word at an upper half writes the 64-bit MRAM word (R372). -/
theorem fwWrite_upper {d : Device} (hptr : d.start.fwPtr % 8 = 4) (v : Word) : fwWrite v d =
    let e := mramStore (fwBase (flag d.start.target) + d.start.fwPtr - 4) (leBytes 4 d.start.fwLow.toNat ++ leBytes 4 v.toNat) d
    { e with
      start := { e.start with fwPtr := (d.start.fwPtr + 4) % 0x400000 }
      measures := { e.measures with slotClean := false } } := by
  have hne : d.start.fwPtr % 8 ≠ 0 := by omega
  simp only [fwWrite, if_neg hne]

/-- A word at a lower half is kept for its upper half (R372). -/
theorem fwWrite_lower {d : Device} (hptr : d.start.fwPtr % 8 = 0) (v : Word) : fwWrite v d = { d with
    start := { d.start with fwLow := v, fwPtr := (d.start.fwPtr + 4) % 0x400000 }
    measures := { d.measures with slotClean := false } } := by
  simp only [fwWrite, if_pos hptr]

/-- Settles O15: the three outcomes of SYS_FW_DATA, then the two of an extend. -/
theorem firmwareWriteAndWatermarks : Obligations.FirmwareWriteAndWatermarks := by
  unfold Obligations.FirmwareWriteAndWatermarks
  refine ⟨fun s h v hmay hslot hptr => exec_next rfl ((hartWrite_may hmay ..).trans ((if_pos hslot).trans (fwWrite_lower hptr v))),
    fun s h v hmay hslot hptr => ⟨_, exec_next rfl ((hartWrite_may hmay ..).trans ((if_pos hslot).trans
      (fwWrite_upper hptr v))), ?_⟩,
    fun s h v hmay hslot => exec_next rfl ((hartWrite_may hmay ..).trans (if_neg (by simp [hslot]))),
    fun s h n hmay hmask => exec_next rfl ((hartWrite_may hmay ..).trans (if_pos hmask)),
    fun s h n hmay hmask => exec_next rfl ((hartWrite_may hmay ..).trans (if_neg (by rw [hmask]; decide)))⟩
  exact ⟨by simp [mramStore, mramUsed], rfl, rfl, by simp [mramStore], by simp [mramStore]⟩

end Sys2Proof.Machine
end

section
/-! PROOFS. The commands of the couch unit (spec/05_couch_transactions.md, R144–R158, R164): what the end of a check and an
abort leave in the couch unit, then the three statements about a mould. -/

namespace Sys2Proof.Machine

open Sys2Proof

/-! ### The end of a check and an abort -/

/-- A check that ended wrote TX_CHECK_RESULT and nothing else of the couch unit (R154). -/
@[simp] theorem checkEnded_tx (phase : Nat) (r : Option (Nat × Nat)) (d : Device) : (checkEnded phase r d).tx =
    { d.tx with checkCode := (r.map (·.1)).getD 0, checkWhere := (r.map (·.2)).getD 0, checkPhase := phase } := by
  rcases r with - | ⟨c, w⟩
  · rfl
  · exact couchEvent_tx ..

/-- The end of a check leaves memory and the serve path (R154). -/
@[simp] theorem checkEnded_frame (phase : Nat) (r : Option (Nat × Nat)) (d : Device) :
    (checkEnded phase r d).mem = d.mem ∧ (checkEnded phase r d).gf = d.gf := by
  rcases r with - | ⟨c, w⟩
  · exact ⟨rfl, rfl⟩
  · simp [checkEnded, couchEvent]

/-- An abort without armed fences (R144, R157). -/
theorem abortMould_unfenced {d : Device} (hfence : d.tx.fenceArmed = false) (reason : Nat) :
    abortMould reason d = couchEvent 0x0904 3 [reason, d.tx.state.ctorIdx, d.tx.epoch, d.tx.actions.length]
      { d with tx := { d.tx with
          state := .aborted, abortReason := reason, stateAtAbort := d.tx.state.ctorIdx, pendingAbort := none, siChecking := none,
          fenceArmed := false } } := by
  rw [abortMould, if_neg (by simp [hfence])]
  rfl

/-- The hart may abort the mould that it opened, and so may hart 0 (R144). -/
theorem couchAbortEffect_accepted {d : Device} {h : Hart} (hmay : MayWrite d h 8) (howner : ownerOrHart0 h d = true)
    (hopen : mouldOpen d.tx = true) : couchAbortEffect h d = couchResult h 5 0
      (if d.tx.state = .checking then modTx (fun x => { x with pendingAbort := some 1 }) d else abortMould 1 d) := by
  rw [couchAbortEffect, couchCommand_accepted hmay (by simp [howner, hopen])]

/-! ### Opening, filling and checking -/

/-- An Append that is accepted starts the content checks of an SI_LOAD and takes any other action at once (R144, R153). -/
theorem couchAppendEffect_accepted {d : Device} {h : Hart} (hmay : MayWrite d h 8) (hok : appendOutcome h d = 0) :
    couchAppendEffect h d = couchResult h 2 0 { d with
      tx := if actType (actDesc d.tx) = 1 then { d.tx with siChecking := some (actDesc d.tx) }
        else { d.tx with actions := d.tx.actions ++ [actDesc d.tx], state := .staging } } := by
  rw [couchAppendEffect, couchCommand_accepted hmay hok]
  rfl

/-- The content checks of an SI_LOAD end while its mould can still be filled (R153). -/
theorem siContentCheckDoneEffect_open {d : Device} {a : List Byte} (hmain : mainRuns d = true)
    (hchecking : d.tx.siChecking = some a) (hstate : d.tx.state = .opened ∨ d.tx.state = .staging ∨ d.tx.state = .ready) :
    siContentCheckDoneEffect d =
      if (pendingCheck d (bufLe a 4 4)).isSome then
        checkEnded 1 (pendingCheck d (bufLe a 4 4)) (modTx (fun x => { x with siChecking := none }) d)
      else modTx (fun x => { x with
        actions := x.actions ++ [a], state := .staging, sipLocked := true, pendDigest := regionDigest d siPendingBase })
        (checkEnded 1 (pendingCheck d (bufLe a 4 4)) (modTx (fun x => { x with siChecking := none }) d)) := by
  have hopen : (!mainRuns d || !(d.tx.state == .opened || d.tx.state == .staging || d.tx.state == .ready)) = false := by
    rcases hstate with h | h | h <;> simp [hmain, h]
  simp only [siContentCheckDoneEffect, hchecking, hopen, Bool.false_eq_true, if_false]

/-- Settles O17, clause by clause: Open, the two kinds of Append, the end of the content checks, and Check. -/
theorem mouldOpenAppendCheck : Obligations.MouldOpenAppendCheck := by
  unfold Obligations.MouldOpenAppendCheck
  refine ⟨fun s h requester hmay hidle hreq => exec_next rfl (couchOpenEffect_accepted hmay hidle hreq),
    fun s h hmay hok hact => exec_next rfl ?_, fun s h hmay hok hact => exec_next rfl ?_,
    fun s a hmain hchecking hstate => ⟨_, exec_next rfl (siContentCheckDoneEffect_open hmain hchecking hstate), ?_⟩,
    fun s h hmay howner hstate hidle => exec_next rfl ?_⟩
  · rw [couchAppendEffect_accepted hmay hok, if_neg hact]
  · rw [couchAppendEffect_accepted hmay hok, if_pos hact]
  · rcases hcheck : pendingCheck s.dev (bufLe a 4 4) with - | ⟨c, w⟩ <;> simp
  · rw [couchCheckEffect, couchCommand_accepted hmay (by simp [howner, hstate, hidle])]
    rfl

/-! ### The end of a check, the commit and the drain -/

section
variable {d : Device} (hmain : mainRuns d = true) (hstate : d.tx.state = .checking)
include hmain hstate

/-- An Abort that was taken while checking ran takes effect at its end (R144). -/
theorem couchCheckDoneEffect_abort {r : Nat} (habort : d.tx.pendingAbort = some r) :
    couchCheckDoneEffect d = abortMould r (checkEnded 2 (couchCheck d) d) := by
  rw [couchCheckDoneEffect, if_neg (by simp [hmain, hstate]), habort]

/-- Without one the mould is Ready, or Aborted with reason 2 (R154). -/
theorem couchCheckDoneEffect_ends (habort : d.tx.pendingAbort = none) : couchCheckDoneEffect d =
    if (couchCheck d).isSome then abortMould 2 (checkEnded 2 (couchCheck d) d)
    else modTx (fun x => { x with state := .ready }) (compactIfShort (checkEnded 2 (couchCheck d) d)) := by
  rw [couchCheckDoneEffect, if_neg (by simp [hmain, hstate]), habort]

end

/-- The drain has ended: no operation of the old tag is left (R156). -/
theorem couchDrainDoneEffect_committing {d : Device} (hmain : mainRuns d = true) (hstate : d.tx.state = .committing)
    (hlive : d.tx.fabricLive = true) :
    couchDrainDoneEffect d = if oldTagOps d = 0 then siLoadEnd (commitMould d) else d := by
  by_cases h : oldTagOps d = 0 <;> simp [couchDrainDoneEffect, hmain, hstate, hlive, h]

/-- Without a load for another sender nothing follows the end of a commit (R371, R452). -/
theorem siLoadEnd_none {d : Device} (h : siLoading d = false) : siLoadEnd d = d := by simp [siLoadEnd, h]

/-- Settles O18, clause by clause: the end of a check in its three outcomes, Commit, the drain and its limit, and the end of
the copy. -/
theorem mouldCheckCommitDrain : Obligations.MouldCheckCommitDrain := by
  unfold Obligations.MouldCheckCommitDrain
  refine ⟨fun s r hmain hstate habort => exec_next rfl ?_,
    fun s hmain hstate habort hcheck => ⟨_, exec_next rfl (couchCheckDoneEffect_ends hmain hstate habort), ?_⟩,
    fun s c w hmain hstate habort hcheck hfence => ⟨_, exec_next rfl (couchCheckDoneEffect_ends hmain hstate habort), ?_⟩,
    fun s hmay hstate hidle hcheck => exec_next rfl ?_, fun s h hmay hne => exec_next rfl ?_,
    fun s hmain hstate hlive hops hload => exec_next rfl ?_, fun s hmain hstate hlive hops => exec_same rfl ?_,
    fun s hmain hstate => exec_next rfl ?_, fun s hmain hbusy => exec_next rfl ?_⟩
  · exact couchCheckDoneEffect_abort hmain hstate habort
  · simp [hcheck]
  · simp [hcheck, abortMould_unfenced, hfence]
  · rw [couchCommitEffect, couchCommand_accepted hmay (by simp [hstate, hidle])]
    simp only [modTx, hcheck]
    rfl
  · rw [couchCommitEffect, couchCommand_refused hmay] <;> simp [hne]
  · rw [couchDrainDoneEffect_committing hmain hstate hlive, if_pos hops]
  · rw [couchDrainDoneEffect_committing hmain hstate hlive, if_neg hops]
  · simp [couchDrainLimitExpiryEffect, hmain, hstate]
  · rw [siCopyDoneEffect, if_neg (by simp [hmain, hbusy])]
    rfl

/-! ### Abort, Release, Restore and the writes of SI Pending -/

/-- A write of TX_SIP_DATA goes to SI Pending unless that is locked or copied (R153, R158). -/
theorem sipDataWriteEffect_may {d : Device} {h : Hart} (hmay : MayWrite d h 8) (v : Word) :
    sipDataWriteEffect h v d =
      if d.tx.sipLocked || d.tx.siCopyBusy then accessFault h 0x60080064 d else sipWrite v d := hartWrite_may hmay ..

/-- Settles O19, clause by clause: Abort, Release, Restore, undefined codes, and TX_SIP_DATA locked, upper and lower word. -/
theorem mouldAbortReleaseRestore : Obligations.MouldAbortReleaseRestore := by
  unfold Obligations.MouldAbortReleaseRestore
  refine ⟨fun s h hmay howner hstate => exec_next rfl ?_, fun s h hmay howner hstate => exec_next rfl ?_,
    fun d reason hfence => by rw [abortMould_unfenced hfence, couchEvent_tx],
    fun s h hmay howner hstate => exec_next rfl ?_, fun s hmay hidle hlive => exec_next rfl ?_,
    fun d hbank => by rw [restoreFabric, hbank], fun s h hmay hne => exec_next rfl ?_,
    fun s h code hmay => exec_next rfl ?_, fun s h v hmay hlock => exec_next rfl ?_,
    fun s h v hmay hlock hcopy hodd => ⟨_, exec_next rfl (sipDataWriteEffect_may hmay v), ?_⟩,
    fun s h v hmay hlock hcopy heven => exec_next rfl ?_⟩
  · rw [couchAbortEffect_accepted hmay howner (by simp [mouldOpen, hstate]), if_pos hstate]
    rfl
  · rw [couchAbortEffect_accepted hmay howner (by simp [mouldOpen, hstate]), if_neg (by simp [hstate])]
  · rw [couchReleaseEffect, couchCommand_accepted hmay (by simp [howner, hstate])]
    rfl
  · rw [restoreEffect, couchCommand_accepted hmay (by simp [hidle, hlive])]
  · rw [restoreEffect, couchCommand_refused hmay] <;> simp [hne]
  · rw [couchUndefinedCommandEffect, couchCommand_refused hmay (by decide)]
  · rw [sipDataWriteEffect_may hmay, if_pos (by simp [hlock])]
  · have hoff : ¬ 4 * field s.dev.tx.sipPtr 2 18 % 8 = 0 := by omega
    simp [hlock, hcopy, sipWrite, hoff, mramStore, mramUsed]
  · have hoff : 4 * field s.dev.tx.sipPtr 2 18 % 8 = 0 := by omega
    rw [sipDataWriteEffect_may hmay, if_neg (by simp [hlock, hcopy]), sipWrite]
    simp only [hoff, if_true]
    rfl

end Sys2Proof.Machine
end

section
/-! PROOFS. The upstream boot ports (spec/06_boot_ports_and_flash_buses.md, R168–R189): what an error report and the clock
check leave of a port, one rule for the commands that a mode defines, then the statements about reads, writes, port resets
and eSPI. -/

namespace Sys2Proof.Machine

open Sys2Proof

/-! ### Error reports and the clock check -/

/-- An error report changes of its port the counts of errors alone (R204). -/
theorem portAt_portError (p : Port) (kind op addr : Nat) (d : Device) : ∃ ek le,
    portAt (portError p kind op addr d) p = { portAt d p with errKinds := ek, laterErrors := le } := by
  unfold portError
  split
  · exact ⟨_, _, portAt_modPort ..⟩
  · exact ⟨_, _, (eventsRaw_same (portAt · p) (fun _ _ _ => rfl) ..).trans (portAt_modPort ..)⟩

/-- An error report leaves memory and the answer. -/
@[simp] theorem portError_frame (p kind op addr : Nat) (d : Device) :
    (portError p kind op addr d).mem = d.mem ∧ (portError p kind op addr d).reply = d.reply := by
  unfold portError
  split <;> simp

/-- The clock check changes of its port OverClock and the counts of errors alone (R189). -/
theorem portAt_clockCheck (p : Port) (khz op addr : Nat) (r : PortRec) (d : Device) : ∃ oc ek le,
    portAt (clockCheck p khz op addr r d) p = { portAt d p with overClock := oc, errKinds := ek, laterErrors := le } := by
  unfold clockCheck
  split
  · obtain ⟨ek, le, hport⟩ := portAt_portError p 4 op addr (modPort p (fun u => { u with overClock := true }) d)
    exact ⟨true, ek, le, by rw [hport, portAt_modPort]⟩
  · exact ⟨_, _, _, rfl⟩

/-- The clock check leaves memory. -/
@[simp] theorem clockCheck_mem (p khz op addr : Nat) (r : PortRec) (d : Device) :
    (clockCheck p khz op addr r d).mem = d.mem := by
  unfold clockCheck
  split <;> simp

/-- Before a command has its effect, its port changes in the reset enable, OverClock and the counts of errors alone. -/
theorem portAt_portCalm (p : Port) (op khz addr : Nat) (r : PortRec) (d : Device) : ∃ oc ek le,
    portAt (portCalm p op khz addr r d) p =
      { portAt d p with resetEnable := false, overClock := oc, errKinds := ek, laterErrors := le } := by
  obtain ⟨oc, ek, le, hport⟩ := portAt_clockCheck p khz op addr r d
  exact ⟨oc, ek, le, by rw [portCalm, portAt_modPort, hport]⟩

/-- A clock within 5 % of MaxMHz is no error (R189). -/
theorem clockCheck_within {khz : Nat} {r : PortRec} (h : 100 * khz ≤ 105 * 1000 * r.clockMHz) (p op addr : Nat) (d : Device) :
    clockCheck p khz op addr r d = d := if_neg (Nat.not_lt.mpr h)

/-- A clock more than 5 % above MaxMHz sets OverClock (R189). -/
theorem clockCheck_over {khz : Nat} {r : PortRec} (h : 105 * 1000 * r.clockMHz < 100 * khz) (p : Port) (op addr : Nat) (d : Device) :
    (portAt (clockCheck p khz op addr r d) p).overClock = true := by
  obtain ⟨_, _, hport⟩ := portAt_portError p 4 op addr (modPort p (fun u => { u with overClock := true }) d)
  rw [clockCheck, if_pos h, hport, portAt_modPort]

/-! ### Commands of a port -/

/-- A command of an answering port has its effect where its mode defines it, and is an undefined opcode elsewhere (R171,
R172). -/
theorem portCommand_on {d : Device} {p : Port} {r : PortRec} (h : OnPort d p r) (op khz addr : Nat)
    (defined : Nat → PortRec → Bool) (f : PortRec → Device → Device) : portCommand p op khz addr defined f d =
      if defined r.mode r then f r (portCalm p op khz addr r d) else undefinedOp p op (clockCheck p khz op addr r d) := by
  split
  case isTrue hdef => exact portCommand_defined h hdef ..
  case isFalse hundef => exact portCommand_undefined h (by simpa using hundef) ..

/-- The commands of modes 0–4 (R171). -/
theorem portCommand_spi {d : Device} {p : Port} {r : PortRec} (h : OnPort d p r) (hmode : r.mode ≤ 4) (op khz addr : Nat)
    (f : PortRec → Device → Device) : portCommand p op khz addr spiMode f d = f r (portCalm p op khz addr r d) :=
  portCommand_defined h (by simp [spiMode, hmode]) ..

/-- An erase goes through where the port's record offers its size (R171). -/
theorem portCommand_erase {d : Device} {p : Port} {r : PortRec} (h : OnPort d p r) (hmode : r.mode ≤ 4) (size op khz addr : Nat)
    (f : Device → Device) :
    portCommand p op khz addr (fun m x => decide (m ≤ 4) && x.eraseSizes.testBit size) (fun _ => f) d =
      if r.eraseSizes.testBit size then f (portCalm p op khz addr r d) else undefinedOp p op (clockCheck p khz op addr r d) := by
  rw [portCommand_on h]
  simp [hmode]

/-! ### Reads -/

/-- A read none of whose bytes is late returns the presented bytes (R169, R173). -/
theorem simpleRead_reply (p addr n : Nat) (d : Device) : (simpleRead p addr n 0 d).reply =
    (List.range n).map (fun i => (presentedByte (surfaceStore (curLeaf d) p addr n d) (curLeaf (surfaceStore (curLeaf d) p addr n d)) p
      { addr := addr, len := n, done := 0, tag := curTag (surfaceStore (curLeaf d) p addr n d), pieces := [], failed := false,
        asked := [] } (addr + i)).getD 0xFF) := by
  simp [simpleRead]

/-- The status bits are those of the port (R177). -/
theorem statusBits (u : UpPort) : (statusByte u).getLsbD 0 = u.wip ∧ (statusByte u).getLsbD 1 = u.wel ∧
    (flagStatusByte u).getLsbD 7 = !u.wip ∧ (flagStatusByte u).getLsbD 5 = u.eraseError ∧
    (flagStatusByte u).getLsbD 4 = u.programError ∧ (flagStatusByte u).getLsbD 1 = u.protected_ := by
  unfold statusByte flagStatusByte
  cases u.wip <;> cases u.wel <;> cases u.eraseError <;> cases u.programError <;> cases u.protected_ <;> decide

section
variable {d e : Device} {p : Port} {r : PortRead} (hread : (portAt d p).read = some r) (hdefer : (portAt d p).deferred = none)
  (he : surfaceStore (leafBy d r.tag) p (r.addr + r.done) (r.len - r.done) d = e) (hread' : (portAt e p).read = some r)
include hread hdefer he hread'

/-- A waiting read that ends returns 0xFF for the rest (R176). -/
theorem resumeRead_ended : resumeRead p true d =
    reply (List.replicate (r.len - r.done) 0xFF) (modPort p (fun u => { u with read := none }) e) := by
  simp [resumeRead, hread, hdefer, he, hread']

/-- A waiting read whose rest is ready returns it (R174). -/
theorem resumeRead_ready (hok : r.failed = false)
    (hclean : readPoisoned e (leafBy d r.tag) p (r.addr + r.done) (r.len - r.done) = false)
    (hall : r.done + (readyBytes e p r).length = r.len) :
    resumeRead p false d = reply (readyBytes e p r) (modPort p (fun u => { u with read := none }) e) := by
  simp [resumeRead, hread, hdefer, he, hread', hok, hclean, hall]

end

/-- Settles O21, clause by clause: the commands of modes 0–4, the clock check, the reads of modes 0–3 and their sources, and
the octal read with its resumption. -/
theorem presentedReads : Obligations.PresentedReads := by
  unfold Obligations.PresentedReads
  refine ⟨fun s p n khz r hon hmode => exec_next rfl (portCommand_spi hon hmode ..),
    fun s p addr n khz r hon hmode => exec_next rfl (portCommand_spi hon hmode ..),
    fun s p n khz r hon hmode => exec_next rfl ((portCommand_spi hon hmode ..).trans ?_),
    fun s p n khz r hon hmode => exec_next rfl ((portCommand_spi hon hmode ..).trans ?_),
    fun s p khz r hon hmode => exec_next rfl (portCommand_spi hon hmode ..),
    fun s p khz r hon hmode => exec_next rfl (portCommand_spi hon hmode ..),
    fun s p khz r hon hmode => exec_next rfl (portCommand_spi hon hmode ..),
    statusBits, fun p op khz addr r d hclock => by rw [portCalm, clockCheck_within hclock],
    fun p op khz addr r d hclock => ?_,
    fun s p four addr n khz late r hon hmode hclock => exec_next rfl ?_,
    fun s p four addr n khz late r hon hmode => exec_next rfl ?_, fun s p four addr n khz late r hon => exec_next rfl ?_,
    fun s p four addr n khz late r hon => exec_next rfl ?_, fun s p four addr n khz late r hon => exec_next rfl ?_,
    fun p addr n d e he => by rw [simpleRead_reply, he], fun d L p addr r hsrc => by simp [presentedByte, hsrc],
    fun d L p addr r i hsrc hserve hver => by simp [presentedByte, hsrc, hserve, hver],
    fun s p addr n khz r hon hmode => exec_next rfl ((portCommand_on hon ..).trans (if_pos (by simp [hmode]))),
    fun s p addr n khz r hon hmode => exec_next rfl ((portCommand_on hon ..).trans (if_neg (by simp [hmode]))),
    fun s p r e hfin hread hdefer he hread' => exec_next rfl ((if_pos hfin).trans (resumeRead_ended hread hdefer he hread')),
    fun s p r e hfin hread hdefer he hread' hok hclean hall =>
      exec_next rfl ((if_pos hfin).trans (resumeRead_ready hread hdefer he hread' hok hclean hall)),
    fun s p hnone => exec_same rfl ?_⟩
  · obtain ⟨_, _, _, hport⟩ := portAt_portCalm p 0x05 khz 0 r s.dev
    rw [hport]; rfl
  · obtain ⟨_, _, _, hport⟩ := portAt_portCalm p 0x70 khz 0 r s.dev
    rw [hport]; rfl
  · rw [portCalm, portAt_modPort]
    exact ⟨clockCheck_over hclock .., rfl⟩
  · simp [readEffect, portCommand_on hon, hmode, hclock]
  · have hundef : ¬ (r.mode ≤ 2 ∧ r.clockMHz ≤ 6) := by omega
    simp [readEffect, portCommand_on hon, hundef]
  · simp [fastReadEffect, portCommand_on hon]
  · simp [fastReadQuadOutputEffect, portCommand_on hon]
  · simp [fastReadQuadIoEffect, portCommand_on hon]
  · have hresume : resumeRead p false s.dev = s.dev := by simp [resumeRead, hnone]
    exact (ite_congr rfl (fun _ => hresume) (fun _ => rfl)).trans (ite_self _)

/-! ### Programs and erases -/

/-- Without a window a program or erase is discarded (R181). -/
theorem portWrite_discarded {p addr : Nat} {data : List Byte} {erase : Option Nat} {d : Device}
    (hwindow : writeWindow (curLeaf d) p addr data.length erase = none) (op : Nat) : portWrite p op addr data erase d =
      portError p 5 op addr (discardMarks p erase.isSome (reply [] (modPort p (fun x => { x with last := addr }) d))) := by
  simp [portWrite, hwindow, discardWrite]

/-- Through a window, with write enable and no operation in progress, it is forwarded (R181). -/
theorem portWrite_forwarded {p addr : Nat} {data : List Byte} {erase : Option Nat} {w : PresentRec} {d : Device}
    (hwindow : writeWindow (curLeaf d) p addr data.length erase = some w) (hwel : (portAt d p).wel = true)
    (hwip : (portAt d p).wip = false) (hdata : erase.isSome = true ∨ data ≠ []) (op : Nat) : portWrite p op addr data erase d =
      forwardWrite p w op addr data erase (reply [] (modPort p (fun x => { x with last := addr }) d)) := by
  have hgo : ((portAt d p).wel && !(portAt d p).wip && (erase.isSome || !data.isEmpty)) = true := by simpa [hwel, hwip] using hdata
  simp only [portWrite, hwindow, hgo, if_true]

/-- The marks of a discarded program or erase (R177, R181). -/
theorem portAt_discardMarks (p : Port) (isErase : Bool) (d : Device) : portAt (discardMarks p isErase d) p =
    { portAt d p with
      protected_ := true, wel := false, writeDiscarded := true
      eraseError := (portAt d p).eraseError || isErase, programError := (portAt d p).programError || !isErase } := by
  rw [discardMarks, portAt_modPort]

/-- What an undefined opcode leaves in its port (R172). -/
theorem portAt_undefinedOp (p : Port) (op : Nat) (d : Device) : ∃ ek le, portAt (undefinedOp p op d) p =
    { portAt d p with undefOp := true, resetEnable := false, errKinds := ek, laterErrors := le } := by
  obtain ⟨ek, le, hport⟩ :=
    portAt_portError p 1 op 0 (reply [] (modPort p (fun u => { u with undefOp := true, resetEnable := false }) d))
  exact ⟨ek, le, hport.trans (congrArg (fun u : UpPort => { u with errKinds := ek, laterErrors := le }) (portAt_modPort ..))⟩

/-- CS# raised early within a program or erase past its address (R181, R188). -/
theorem csRaisedEarlyEffect_cut {d : Device} {p : Port} {r : PortRec} {op : Nat} {isErase : Bool} (hon : OnPort d p r)
    (hop : writeOpcode op r.mode r = some isErase) (khz a : Nat) : csRaisedEarlyEffect p op khz (some a) d =
      discardMarks p isErase (modPort p (fun u => { u with last := a }) (modPort p (fun u =>
        { u with resetEnable := false, read := if u.deferred.isSome then u.read else none }) (clockCheck p khz op a r d))) := by
  obtain ⟨hanswers, hrec⟩ := hon
  simp [csRaisedEarlyEffect, hanswers, hrec, hop]

/-- CS# raised early elsewhere (R188). -/
theorem csRaisedEarlyEffect_none {d : Device} {p : Port} {r : PortRec} (hon : OnPort d p r) (op khz : Nat) :
    csRaisedEarlyEffect p op khz none d = modPort p (fun u =>
      { u with resetEnable := false, read := if u.deferred.isSome then u.read else none }) (clockCheck p khz op 0 r d) := by
  obtain ⟨hanswers, hrec⟩ := hon
  simp [csRaisedEarlyEffect, hanswers, hrec]

/-- The mode of a port that the committed leaf presents. -/
theorem portMode_on {d : Device} {p : Port} {r : PortRec} (hon : OnPort d p r) : portMode (curLeaf d) p = r.mode := by
  simp [portMode, hon.2]

/-- The clock of a command on a presented port. -/
theorem portClock_on {d : Device} {p : Port} {r : PortRec} (hon : OnPort d p r) (khz op : Nat) :
    portClock p khz op d = clockCheck p khz op 0 r d := by
  simp [portClock, hon.2]

/-- The eSPI in-band reset of a mode 5 port (R187). -/
theorem espiInBandResetEffect_on {d : Device} {p : Port} {r : PortRec} (hon : OnPort d p r) (hmode : r.mode = 5) (khz : Nat) :
    espiInBandResetEffect p khz d = portReset p 3 (clockCheck p khz 0xFF 0 r d) := by
  rw [espiInBandResetEffect, if_pos (by simp [hon.1, portMode_on hon, hmode]), portClock_on hon]

/-- Settles O22, clause by clause: the programs and erases and where they go, the reset commands, undefined opcodes, CS#
raised early, and the port resets. -/
theorem presentedWritesAndPortResets : Obligations.PresentedWritesAndPortResets := by
  unfold Obligations.PresentedWritesAndPortResets
  refine ⟨fun s p addr khz data r hon hmode => exec_next rfl ?_, fun s p addr khz data r hon => exec_next rfl ?_,
    fun s p four addr khz r hon hmode => exec_next rfl (portCommand_erase hon hmode ..),
    fun s p four addr khz r hon hmode => exec_next rfl (portCommand_erase hon hmode ..),
    fun s p four addr khz r hon hmode => exec_next rfl (portCommand_erase hon hmode ..),
    fun p op addr data erase d hwindow => ⟨_, portWrite_discarded hwindow op, ?_⟩,
    fun p op addr data erase w d hwindow hwel hwip hdata => portWrite_forwarded hwindow hwel hwip hdata op,
    fun s p khz r hon hmode => exec_next rfl (portCommand_spi hon hmode ..),
    fun s p khz r hon hmode => exec_next rfl (portCommand_spi hon hmode ..),
    fun s p op khz r hon => exec_next rfl ((portCommand_on hon ..).trans (if_neg (by simp))),
    fun p op d => ?_, fun s p op khz r hon => exec_next rfl (csRaisedEarlyEffect_none hon op khz),
    fun s p op khz a r isErase hon hop => ⟨_, exec_next rfl (csRaisedEarlyEffect_cut hon hop khz a), ?_⟩,
    fun s p hmain => exec_next rfl (if_pos hmain), fun s p => rfl,
    fun s p khz r hon hmode => exec_next rfl (espiInBandResetEffect_on hon hmode khz)⟩
  · simp [pageProgramEffect, portCommand_on hon, hmode]
  · simp [pageProgramEffect, portCommand_on hon]
  · obtain ⟨ek, le, hport⟩ := portAt_portError p 5 op addr
      (discardMarks p erase.isSome (reply [] (modPort p (fun x => { x with last := addr }) d)))
    have hlast : portAt (reply [] (modPort p (fun x => { x with last := addr }) d)) p = { portAt d p with last := addr } :=
      portAt_modPort ..
    rw [hport, portAt_discardMarks, hlast]
    refine ⟨rfl, rfl, rfl, rfl, by simp [discardMarks], fun h => ?_, fun h => ?_⟩ <;> simp [h]
  · obtain ⟨ek, le, hport⟩ := portAt_undefinedOp p op d
    rw [hport]
    refine ⟨?_, ?_, rfl, rfl, rfl, rfl⟩ <;> simp [undefinedOp]
  · obtain ⟨_, _, _, hport⟩ := portAt_clockCheck p khz op a r s.dev
    dsimp only
    rw [portAt_discardMarks, portAt_modPort, portAt_modPort, hport]
    refine ⟨rfl, rfl, rfl, rfl, rfl, fun h => ?_, fun h => ?_, by simp [discardMarks]⟩ <;> simp [h]

/-! ### eSPI -/

/-- A flash request on a mode 5 port with none outstanding (R185). -/
theorem espiRequest_free {d : Device} {p : Port} {r : PortRec} (hon : OnPort d p r) (hmode : r.mode = 5)
    (hfree : (portAt d p).deferred = none) (khz addr : Nat) (f : PortRec → Device → Device) :
    espiRequest p khz addr f d = f r (clockCheck p khz espiFlashOp addr r d) := by
  obtain ⟨_, _, _, hport⟩ := portAt_clockCheck p khz espiFlashOp addr r d
  simp [espiRequest, hon.1, hon.2, hmode, hport, hfree]

/-- While a deferred request is outstanding no other is accepted (R185). -/
theorem espiRequest_deferred {d : Device} {p : Port} {r : PortRec} (hon : OnPort d p r) (hmode : r.mode = 5)
    (hdefer : (portAt d p).deferred.isSome = true) (khz addr : Nat) (f : PortRec → Device → Device) :
    espiRequest p khz addr f d = reply [] (clockCheck p khz espiFlashOp addr r d) := by
  obtain ⟨_, _, _, hport⟩ := portAt_clockCheck p khz espiFlashOp addr r d
  simp [espiRequest, hon.1, hon.2, hmode, hport, hdefer]

/-- A read beyond 64 bytes or beyond the presented size is refused (R185). -/
theorem espiRead_oversize {n addr : Nat} {r : PortRec} (h : 64 < n ∨ 2 ^ r.sizeLog2 < addr + n) (p : Nat) (d : Device) :
    espiRead p addr n r d = espiRefuse p 3 addr d := if_pos h

/-- A read of a poisoned word completes unsuccessfully (R185, R236). -/
theorem espiRead_poisoned {p n addr : Nat} {r : PortRec} {d e : Device} (hn : n ≤ 64) (hsize : addr + n ≤ 2 ^ r.sizeLog2)
    (he : surfaceStore (curLeaf d) p addr n d = e) (hpoison : readPoisoned e (curLeaf e) p addr n = true) :
    espiRead p addr n r d = reply espiFail (modPort p (fun u => { u with last := addr }) e) := by
  have hfits : ¬ (espiCaps.maxRead < n ∨ 2 ^ r.sizeLog2 < addr + n) := by
    have : espiCaps.maxRead = 64 := rfl
    omega
  rw [espiRead, if_neg hfits]
  simp only [he, hpoison, if_true]

/-- A completion that is ready stays ready (R186). -/
theorem deferredReady_ready {d : Device} {p : Port} {q : Deferred} (hdefer : (portAt d p).deferred = some q)
    (hready : q.completion.isSome = true) : deferredReady p d = modPort p (fun x => { x with alert := true }) d := by
  obtain ⟨c, hc⟩ := Option.isSome_iff_exists.mp hready
  simp [deferredReady, hdefer, hc]

/-- A ready completion is fetched once (R186). -/
theorem espiCompletionFetchEffect_ready {d : Device} {p : Port} {q : Deferred} {ok : Bool} {bs : List Byte}
    (hfin : portFinishes d p = true) (hdefer : (portAt d p).deferred = some q) (hc : q.completion = some (ok, bs))
    (halert : (portAt d p).alert = true) (khz : Nat) : espiCompletionFetchEffect p khz d =
      reply (if ok then espiOk bs else espiFail)
        (modPort p (fun u => { u with deferred := none, alert := false, read := none }) (portClock p khz espiFlashOp d)) := by
  simp [espiCompletionFetchEffect, hfin, hdefer, hc, halert]

/-- A port that answers may finish what the earlier epoch began (R23). -/
theorem portFinishes_of_on {d : Device} {p : Port} {r : PortRec} (hon : OnPort d p r) : portFinishes d p = true := by
  have hanswers := hon.1
  simp only [portAnswers, Bool.and_eq_true] at hanswers
  simp [portFinishes, hanswers]

/-- Settles O23, clause by clause: requests, their refusals, the CRC error, completions and the capabilities. -/
theorem espiRequests : Obligations.EspiRequests := by
  unfold Obligations.EspiRequests
  refine ⟨fun s p addr n khz r hon hmode hfree => exec_next rfl (espiRequest_free hon hmode hfree ..),
    fun s p addr khz data r hon hmode hfree => exec_next rfl (espiRequest_free hon hmode hfree ..),
    fun s p addr khz r hon hmode hfree => exec_next rfl (espiRequest_free hon hmode hfree ..),
    fun s p addr n khz r hon hmode hdefer => exec_next rfl (espiRequest_deferred hon hmode hdefer ..),
    fun p addr n r d hsize => ?_, fun p addr n r d e hn hsize he hpoison => espiRead_poisoned hn hsize he hpoison,
    fun s p khz r hon hmode => exec_next rfl (portCommand_defined hon (by simp [hmode]) ..),
    fun s p op khz r hon => exec_next rfl (portCommand_undefined hon rfl ..),
    fun s p op khz r hon hmode => exec_next rfl ?_,
    fun s p q hfin hdefer hready => exec_next rfl ((if_pos hfin).trans (deferredReady_ready hdefer hready)),
    fun s p khz r q ok bs hon hdefer hc halert => exec_next rfl ?_,
    fun s p khz q ok bs hfin hnone hdefer hc halert => exec_next rfl ?_, rfl, rfl, rfl, rfl, rfl⟩
  · obtain ⟨ek, le, hport⟩ := portAt_portError p 3 espiFlashOp addr
      (reply espiFail (modPort p (fun u => { u with protoErr := true }) d))
    rw [espiRead_oversize hsize, espiRefuse, hport]
    refine ⟨?_, congrArg UpPort.protoErr (portAt_modPort p _ d), ?_⟩ <;> simp
  · rw [espiCrcErrorEffect, if_pos (by rw [portMode_on hon, hmode]), portCommand_defined hon rfl]
  · rw [espiCompletionFetchEffect_ready (portFinishes_of_on hon) hdefer hc halert, portClock_on hon]
  · rw [espiCompletionFetchEffect_ready hfin hdefer hc halert]
    simp [portClock, hnone]

end Sys2Proof.Machine
end

section
/-! PROOFS. Turnstiles, flash buses and their devices (spec/07_turnstiles.md, R210–R221; spec/06_boot_ports_and_flash_buses.md,
R191–R201): the stages of a decision, what each turnstile step leaves, the ends of flash commands, discovery and resets. -/

namespace Sys2Proof.Machine

open Sys2Proof

/-! ### Decisions (R210) -/

section
variable {env : TsEnv} {r : FlashRec} (hrec : flashOf env.leaf env.f = some r)
include hrec

/-- A retired or Fenced device denies every command with reason 9. -/
theorem decideCmd_out (h : env.retired = true ∨ r.role = 3) (t : Turnstile) (c : FlashCmd) :
    decideCmd env t c = .deny 9 false 0x3F := by
  rcases h with h | h <;> simp [decideCmd, hrec, h]

variable (hin : env.retired = false) (hrole : r.role ≠ 3)
include hin hrole

/-- A quarantined port has reason 8. -/
theorem decideCmd_quarantined (h : env.quarantined = true) (t : Turnstile) (c : FlashCmd) :
    decideCmd env t c = .deny 8 false 0x3F := by
  simp [decideCmd, hrec, hin, hrole, h]

variable (hquar : env.quarantined = false)
include hquar

/-- A reserved opcode has reason 6. -/
theorem decideCmd_reserved {c : FlashCmd} (h : kindOf (protoOf env.leaf r) c.op = .reserved) (t : Turnstile) :
    decideCmd env t c = .deny 6 true 0x3F := by
  simp [decideCmd, hrec, hin, hrole, hquar, h]

variable {t : Turnstile} {c : FlashCmd} (hkind : kindOf (protoOf env.leaf r) c.op ≠ .reserved)
include hkind

/-- A serve lock has reason 10. -/
theorem decideCmd_locked (h : serveLocked t.locks (kindOf (protoOf env.leaf r) c.op) c.op
      (rangeOf (kindOf (protoOf env.leaf r) c.op) r c.addr c.len) = true) : decideCmd env t c = .deny 10 true 0x3F := by
  simp [decideCmd, hrec, hin, hrole, hquar, hkind, h]

variable (hfree : serveLocked t.locks (kindOf (protoOf env.leaf r) c.op) c.op
    (rangeOf (kindOf (protoOf env.leaf r) c.op) r c.addr c.len) = false)
  {ct : ClassTableRec} {st : StateTableRec} (hct : classTableOf env.leaf r.classTable = some ct)
include hfree hct

/-- An opcode of no class has reason 5. -/
theorem decideCmd_unclassified (h : ct.classes.getD c.op 0xFF = 0xFF) : decideCmd env t c = .deny 5 true 0x3F := by
  rw [List.getD_eq_getElem?_getD] at h
  simp [decideCmd, hrec, hin, hrole, hquar, hkind, hfree, hct, h]

variable (hst : stateTableOf env.leaf r.stateTable = some st) (hclass : ct.classes.getD c.op 0xFF ≠ 0xFF)
include hst hclass

/-- The action of the entry decides: Deny, Deny-and-log, Hold, Quarantine. -/
theorem decideCmd_action :
    (entryAt st t.state (ct.classes.getD c.op 0xFF) % 8 = 1 → decideCmd env t c = .deny 1 false (ct.classes.getD c.op 0xFF)) ∧
    (entryAt st t.state (ct.classes.getD c.op 0xFF) % 8 = 2 → decideCmd env t c = .deny 2 true (ct.classes.getD c.op 0xFF)) ∧
    (entryAt st t.state (ct.classes.getD c.op 0xFF) % 8 = 3 → decideCmd env t c = .hold (ct.classes.getD c.op 0xFF)) ∧
    (entryAt st t.state (ct.classes.getD c.op 0xFF) % 8 = 4 → decideCmd env t c = .quarantine (ct.classes.getD c.op 0xFF)) := by
  rw [List.getD_eq_getElem?_getD] at hclass ⊢
  refine ⟨fun h => ?_, fun h => ?_, fun h => ?_, fun h => ?_⟩ <;>
    simp [decideCmd, hrec, hin, hrole, hquar, hkind, hfree, hct, hst, hclass, h]

end

/-- Settles O24, clause by clause in the order of R210. -/
theorem turnstileDecisions : Obligations.TurnstileDecisions := by
  unfold Obligations.TurnstileDecisions
  refine ⟨fun env t c hnone => by simp [decideCmd, hnone], fun env t c r hrec hout => decideCmd_out hrec hout t c,
    fun env t c r hrec hin hrole hquar => decideCmd_quarantined hrec hin hrole hquar t c,
    fun env t c r hrec hin hrole hquar hkind => decideCmd_reserved hrec hin hrole hquar hkind t,
    fun env t c r hrec hin hrole hquar hkind hlock => decideCmd_locked hrec hin hrole hquar hkind hlock,
    fun env t c r ct st hrec hin hrole hquar hkind hfree hct hst => ?_⟩
  exact ⟨decideCmd_unclassified hrec hin hrole hquar hkind hfree hct,
    decideCmd_action hrec hin hrole hquar hkind hfree hct hst⟩

/-! ### Steps of a turnstile -/

section
variable {d e : Device} {f : Nat} (hfree : decideBlocked d f = false)
  (he : (if d.tx.fenceArmed then d else unfence f (fenceHeld d f) d) = e)
include hfree he

/-- Where nothing blocks the device, the first waiting command is decided and goes on its way (R210, R214). -/
theorem turnstileDecide_waiting {c : FlashCmd} (hnext : nextCmd (tsAt e f) = .waiting c) :
    turnstileDecide f d = onBus f (finishTs f (decideNext (tsEnv e f c) (tsAt e f)) e) := by
  simp [turnstileDecide, hfree, he, decideOne, hnext]

/-- So is a held command that is due (R218). -/
theorem turnstileDecide_held {h : HeldCmd} (hnext : nextCmd (tsAt e f) = .held h) :
    turnstileDecide f d = onBus f (finishTs f (decideNext (tsEnv e f h.cmd) (tsAt e f)) e) := by
  simp [turnstileDecide, hfree, he, decideOne, hnext]

end

/-- A blocked device, and one with no command behind an armed fence, is left alone (R214). -/
theorem turnstileDecide_idle {d : Device} {f : Nat}
    (h : decideBlocked d f = true ∨ (nextCmd (tsAt d f) = .none ∧ d.tx.fenceArmed = true)) : turnstileDecide f d = d := by
  unfold turnstileDecide
  split
  · rfl
  · obtain hblocked | ⟨hnone, harmed⟩ := h
    · contradiction
    · simp [decideOne, hnone, harmed]

/-- Following a segment changes segment and credit alone (R223, R224). -/
theorem followSegment_frame {β : Type} (p : Turnstile → β) (hp : ∀ t s c, p { t with segment := s, credit := c } = p t)
    (f epoch : Nat) (t : Turnstile) : p (followSegment f epoch t).1 = p t := by
  unfold followSegment
  split
  · exact hp t 0 t.credit
  · exact hp t _ _

/-- Issuing changes the credit, the wear and what was rate-limited or held beside the command on the bus, its group and the
state (R210, R212, R222). -/
theorem issueCmd_frame {β : Type} (p : Turnstile → β)
    (hp : ∀ t s c w rs hs, p { t with segment := s, credit := c, wear := w, rateShort := rs, held := hs } = p t)
    (env : TsEnv) (t : Turnstile) (c : FlashCmd) (next cost : Nat) : p (issueCmd env t c next cost).ts =
      p { t with
        openGroup := if t.waiting.any (fun x => x.group == c.group) then some c.group else none, current := some c, state := next } := by
  have hseg : ∀ t s c, p { t with segment := s, credit := c } = p t := fun t s c => hp t s c t.wear t.rateShort t.held
  unfold issueCmd countWear
  dsimp only
  rw [followSegment_frame p hseg]
  split
  · exact hp { t with
        openGroup := if t.waiting.any (fun x => x.group == c.group) then some c.group else none, current := some c, state := next }
      t.segment (t.credit - cost) _ _ t.held
  · exact hp { t with
        openGroup := if t.waiting.any (fun x => x.group == c.group) then some c.group else none, current := some c, state := next }
      t.segment (t.credit - cost) _ _ _

/-- Settles O25, clause by clause: TURNSTILE_DECIDE, an issue and a denial on the turnstile, and HOLD_LIMIT_EXPIRY. -/
theorem turnstileSteps : Obligations.TurnstileSteps := by
  unfold Obligations.TurnstileSteps
  refine ⟨fun s f c e hmain hfree he hnext => exec_next rfl ((if_pos hmain).trans (turnstileDecide_waiting hfree he hnext)),
    fun s f h e hmain hfree he hnext => exec_next rfl ((if_pos hmain).trans (turnstileDecide_held hfree he hnext)),
    fun s f hmain hidle => exec_same rfl ((if_pos hmain).trans (turnstileDecide_idle hidle)),
    fun env t c next cost x hnext hbind hissue => ?_, fun env t c next cost => ?_,
    fun env t c reason cls logged => ⟨rfl, rfl, rfl, rfl, rfl, rfl, rfl, rfl, rfl⟩,
    fun s f i ticks h hmain hheld hexp hlow hhigh => exec_next rfl ?_,
    fun s f i ticks h hheld hexp => exec_same rfl ?_,
    fun env t i ticks h hheld => ?_⟩
  · simp only [decideNext, hbind, hnext, applyWaiting, hissue]
    rw [issueCmd_frame (·.current) (fun _ _ _ _ _ _ => rfl), issueCmd_frame (·.state) (fun _ _ _ _ _ _ => rfl)]
    exact ⟨rfl, rfl⟩
  · rw [issueCmd_frame (·.current) (fun _ _ _ _ _ _ => rfl), issueCmd_frame (·.state) (fun _ _ _ _ _ _ => rfl),
      issueCmd_frame (·.waiting) (fun _ _ _ _ _ _ => rfl), issueCmd_frame (·.locks) (fun _ _ _ _ _ _ => rfl),
      issueCmd_frame (·.denyCount) (fun _ _ _ _ _ _ => rfl)]
    exact ⟨rfl, rfl, rfl, rfl, rfl, rfl, rfl⟩
  · have hticks : min (max ticks (holdLimit s.dev)) (holdLimit s.dev + 1) = ticks := by omega
    simp [holdLimitExpiryEffect, hmain, hheld, hexp, hticks]
  · simp [holdLimitExpiryEffect, hheld, hexp]
  · simp [expireHold, hheld, recordDeny]

end Sys2Proof.Machine
end

section
/-! PROOFS. Ends of commands on the flash buses, contention, requalification, discovery and resets
(spec/06_boot_ports_and_flash_buses.md, R191–R201; spec/07_turnstiles.md, R221). -/

namespace Sys2Proof.Machine

open Sys2Proof

/-! ### The command on the bus ends -/

/-- Bytes of a hart's data phase leave the serve path (R255). -/
@[simp] theorem hartPhase_gf (h entry : Nat) (c : FlashCmd) (sent : Bool) (bs : List Byte) (d : Device) :
    (hartPhase h entry c sent bs d).gf = d.gf := by
  unfold hartPhase
  split
  · rfl
  · dsimp only [modFq]
    split <;> simp

/-- At its data phase's end a command leaves the bus, and its device's DQS retry is over (R198, R256). -/
@[simp] theorem phaseEnd_gf (f : Nat) (c : FlashCmd) (result : Nat) (data : List Byte) (d : Device) :
    (phaseEnd f c result data d).gf =
      (modDev f (fun v => { v with dqsRetried := false }) (modTs f (fun t => { t with current := none }) d)).gf := by
  unfold phaseEnd
  dsimp only
  split
  · exact hartPhase_gf ..
  · rfl

/-- A command of no hart has no buffer and no queue (R255). -/
theorem phaseEnd_other {c : FlashCmd} (hissuer : ∀ h e, c.issuer ≠ .hart h e) (f result : Nat) (data : List Byte) (d : Device) :
    phaseEnd f c result data d =
      modDev f (fun v => { v with dqsRetried := false }) (modTs f (fun t => { t with current := none }) d) := by
  unfold phaseEnd
  split
  · exact absurd ‹_› (hissuer _ _)
  · rfl

section
variable {d : Device} {f : Nat} {c : FlashCmd} (hcurrent : (tsAt d f).current = some c)
include hcurrent

/-- A failed command is answered with its result (R221). -/
theorem flashDone_failed {result : Nat} (hresult : result ≠ 0) (data : List Byte) :
    flashDone f result data d = settleReset f (deliver f ⟨c, 0, result, []⟩ (phaseEnd f c result data d)) := by
  simp [flashDone, hcurrent, hresult]

/-- A program, an erase or a register write leaves its device busy (R194). -/
theorem flashDone_busy (hbusy : makesBusy (cmdKind d f c) c = true) (data : List Byte) :
    flashDone f 0 data d = modDev f (fun v => { v with busy := some (busyOp d f c) }) (phaseEnd f c 0 data d) := by
  simp [flashDone, hcurrent, hbusy]

/-- Any other command is answered at its data phase (R256). -/
theorem flashDone_answered (hbusy : makesBusy (cmdKind d f c) c = false) (haid : c.aid ≠ 0x12) (data : List Byte) :
    flashDone f 0 data d = settleReset f (deliver f
      ⟨c, 0, 0, if cmdKind d f c = .read then data.take c.len else data⟩ (phaseEnd f c 0 data d)) := by
  simp [flashDone, hcurrent, hbusy, haid, phaseBytes]

variable (hmain : mainRuns d = true) (hread : cmdKind d f c = .read)
  (hmode : (busOf (cmdLeaf d c) (f / 4)).map (·.mode) = some 4)
include hmain hread hmode

/-- The first DQS timeout of a read is retried (R198). -/
theorem dqsTimeoutEffect_first {f' : Dev} (hf : f'.val = f) (hretried : (devAt d f).dqsRetried = false) :
    dqsTimeoutEffect f' d = modDev f' (fun v => { v with dqsRetried := true }) d := by
  subst hf
  simp [dqsTimeoutEffect, hmain, hcurrent, hread, hmode, hretried]

/-- The second one fails it with result 5 (R198). -/
theorem dqsTimeoutEffect_second {f' : Dev} (hf : f'.val = f) (hretried : (devAt d f).dqsRetried = true) :
    dqsTimeoutEffect f' d = flashDone f' 5 [] (eventsRaw [(0x0724, 3, [f'.val, c.addr, c.aid, 0, 0])]
      (modBus (f' / 4) (fun x => { x with dqsTimeout := true, dqsCount := satAdd 8 x.dqsCount 1 }) d)) := by
  subst hf
  simp [dqsTimeoutEffect, hmain, hcurrent, hread, hmode, hretried]

end

/-- Without a command on the bus nothing ends there. -/
theorem flashDone_none {d : Device} {f : Nat} (h : (tsAt d f).current = none) (result : Nat) (data : List Byte) :
    flashDone f result data d = d := by
  simp [flashDone, h]

/-! ### The end of a busy time -/

/-- A poll that reports ready ends a stuck device's wait on a bus that goes on (R195). -/
theorem flashStatusPollEffect_ready {d : Device} {f : Dev} (hmain : mainRuns d = true) (hstuck : (devAt d f).stuck = true)
    (hquar : (busAt d (f / 4)).quarantined = false) (hidle : busIdle d (f / 4) = false) :
    flashStatusPollEffect f true d = modDev f (fun v => { v with stuck := false }) d :=
  if_pos (by simp [hmain, hstuck, hquar, hidle])

/-- A poll that reports busy changes nothing, and none goes out on an idle bus (R194, R229). -/
theorem flashStatusPollEffect_none {d : Device} {f : Dev} {ready : Bool} (h : ready = false ∨ busIdle d (f / 4) = true) :
    flashStatusPollEffect f ready d = d := if_neg (by rcases h with h | h <;> simp [h])

section
variable {d : Device} {f : Dev} {b : BusyOp} (hbusy : (devAt d f).busy = some b)
include hbusy

/-- A success is mirrored and answered (R194, R258). -/
theorem busyEnd_success (hidle : busIdle d (f / 4) = false) : busyEnd f false d =
    settleReset f (deliver f ⟨b.cmd, 0, 0, []⟩ (mirrorWrite f b (modDev f (fun v => { v with busy := none }) d))) := by
  simp [busyEnd, hidle, hbusy]

/-- A failure that flag status reports is counted and answered (R194, R261). -/
theorem busyEnd_failure (hidle : busIdle d (f / 4) = false) (hflag : (devAt d f).flagStatus = true) : busyEnd f true d =
    settleReset f (deliver f ⟨b.cmd, 0, if b.kind = .program ∨ b.kind = .other then 1 else 2, []⟩
      (countFail f b.kind (modDev f (fun v => { v with busy := none }) d))) := by
  rw [busyEnd, if_neg (by simp [hidle]), hbusy]
  simp only [hflag, Bool.and_self, if_true]
  rcases b.kind <;> rfl

/-- A timeout fails the command, and pulses the device where the bus record has it so (R195). -/
theorem flashPollTimeoutEffect_busy (hmain : mainRuns d = true) (rst : Bool) (hrst : (b.rst && mayRun d f) = rst) :
    flashPollTimeoutEffect f d = settleReset f (deliver f ⟨b.cmd, 0, 3, []⟩
      (if rst then startPulse f (modHealth f (fun h => { h with timeoutResets := satAdd 8 h.timeoutResets 1 })
          (eventsRaw [(0x0721, 3, [f, b.cmd.op, b.cmd.addr, b.limit, flag rst])]
            (modBus (f / 4) (fun x => { x with timeout := true, timeoutCount := satAdd 16 x.timeoutCount 1 })
              (modDev f (fun v => { v with busy := none }) d))))
        else modDev f (fun v => { v with stuck := true }) (eventsRaw [(0x0721, 3, [f, b.cmd.op, b.cmd.addr, b.limit, flag rst])]
          (modBus (f / 4) (fun x => { x with timeout := true, timeoutCount := satAdd 16 x.timeoutCount 1 })
            (modDev f (fun v => { v with busy := none }) d))))) := by
  subst hrst
  simp [flashPollTimeoutEffect, hmain, hbusy]

end

/-! ### Discovery, requalification and device resets -/

/-- Discovery starts with RSTk# high and the device out of service (R191). -/
theorem startDiscovery_dev (f : Dev) (d : Device) : devAt (startDiscovery f d) f =
    { devAt d f with rstHigh := true, discovering := true, pulsing := false, ready := false, stuck := false } :=
  devAt_modDev f (fun v => { v with rstHigh := true, discovering := true, pulsing := false, ready := false, stuck := false }) d

/-- What discovery makes of a device's answer, in the order of R191: still busy, no identity, another identity. -/
theorem discResultOf_identity (L : Leaf) (r : FlashRec) (a : Discovery) : (a.wipClear = false → discResultOf L r a = 8) ∧
    (a.wipClear = true → a.id = [] → discResultOf L r a = 2) ∧
    (a.wipClear = true → a.id ≠ [] → a.id ≠ r.jedecId → discResultOf L r a = 3) := by
  refine ⟨fun hwip => ?_, fun hwip hid => ?_, fun hwip hid hother => ?_⟩
  · simp [discResultOf, hwip]
  · simp [discResultOf, hwip, hid]
  · simp [discResultOf, hwip, hid, hother]

/-- GF_FBm_CTRL.Requalify takes effect on a quarantined bus alone (R201). -/
theorem requalifyEffect_may {d : Device} {h : Hart} (hmay : MayWrite d h 6) (m : Bus) : requalifyEffect h m d =
    if (busAt d m).quarantined then modBus m (fun b => { b with requalifying := true }) d else d := hartWrite_may hmay ..

/-- The sample of a requalification ends in a discovery where the bus is clean, and in a contention where it is not
(R201). -/
theorem requalifySampleEndEffect_ends {d : Device} {m : Bus} (hmain : mainRuns d = true)
    (hrequal : (busAt d m).requalifying = true) (clean : Bool) (lines : Nat) : requalifySampleEndEffect m clean lines d =
      if clean then requalReport m (modBus m (fun b => { b with requalPending := true })
        (discoverBus m (modBus m (fun b => { b with requalifying := false, quarantined := false }) d)))
      else contention m lines (modBus m (fun b => { b with requalifying := false }) d) := by
  rw [requalifySampleEndEffect, if_neg (by simp [hmain, hrequal])]
  dsimp only
  rw [modBus_modBus]

/-- DevReset on one device of a bus. -/
def devResetOne (m : Bus) (mask : Nat) (d : Device) (k : Nat) : Device :=
  if hasBit mask k && rstAllowed (curLeaf d) d.tx.retired (4 * m.val + k) && !hwRetired d (4 * m.val + k) then
    modDev (4 * m.val + k) (fun v => { v with byDevReset := true })
      (startPulse (4 * m.val + k) (failInProgress (4 * m.val + k) 0 6 d))
  else d

/-- DevReset goes through the devices of its bus, unless that is quarantined (R54, R200). -/
theorem devResetEffect_may {d : Device} {h : Hart} (hmay : MayWrite d h 6) (m : Bus) (mask : Nat) : devResetEffect h m mask d =
    if (busAt d m).quarantined then d
    else devResetOne m mask (devResetOne m mask (devResetOne m mask (devResetOne m mask d 0) 1) 2) 3 := hartWrite_may hmay ..

/-- A device that the mask leaves out is not reset. -/
theorem devResetOne_skip {m : Bus} {mask k : Nat} (h : hasBit mask k = false) (d : Device) : devResetOne m mask d k = d :=
  if_neg (by simp [h])

/-- A device that may be reset is pulsed, and what is in progress on it fails (R54, R195). -/
theorem devResetOne_pulse {m : Bus} {mask k : Nat} {d : Device} (h : hasBit mask k = true)
    (hrst : rstAllowed (curLeaf d) d.tx.retired (4 * m.val + k) = true) (hret : hwRetired d (4 * m.val + k) = false) :
    devResetOne m mask d k = modDev (4 * m.val + k) (fun v => { v with byDevReset := true })
      (startPulse (4 * m.val + k) (failInProgress (4 * m.val + k) 0 6 d)) := if_pos (by simp [h, hrst, hret])

/-- Settles O26, clause by clause: the ends of commands, polls and timeouts, the reset pulse and discovery, contention,
requalification, and DevReset. -/
theorem flashBusesAndCommands : Obligations.FlashBusesAndCommands := by
  unfold Obligations.FlashBusesAndCommands
  refine ⟨fun s f c data hmain hcur hbusy => exec_next rfl ((if_pos hmain).trans (flashDone_busy hcur hbusy data)),
    fun s f c result data hmain hcur hres => exec_next rfl ((if_pos hmain).trans (flashDone_failed hcur hres data)),
    fun d f c result data hissuer => phaseEnd_other hissuer f result data d, fun d f c result data => ?_,
    fun s f result data hnone => exec_same rfl ?_,
    fun s f hmain hstuck hquar hidle => exec_next rfl (flashStatusPollEffect_ready hmain hstuck hquar hidle),
    fun s f => exec_same rfl (flashStatusPollEffect_none (.inl rfl)),
    fun s f failed hidle => ⟨exec_same rfl (flashStatusPollEffect_none (.inr hidle)), exec_same rfl ?_⟩,
    fun s f b hmain hbusy hidle => exec_next rfl ((if_pos hmain).trans (busyEnd_success hbusy hidle)),
    fun s f b hmain hbusy hflag hidle => exec_next rfl ((if_pos hmain).trans (busyEnd_failure hbusy hidle hflag)),
    fun s f b hmain hbusy hrst => exec_next rfl (flashPollTimeoutEffect_busy hbusy hmain false ?_),
    fun s f b hmain hbusy hrst hrun => exec_next rfl (flashPollTimeoutEffect_busy hbusy hmain true (by simp [hrst, hrun])),
    fun s f c hmain hcur hread hmode hretried => exec_next rfl (dqsTimeoutEffect_first hcur hmain hread hmode rfl hretried),
    fun s f c hmain hcur hread hmode hretried => exec_next rfl (dqsTimeoutEffect_second hcur hmain hread hmode rfl hretried),
    fun s f c data hmain hcur hbusy haid => exec_next rfl ((if_pos hmain).trans (flashDone_answered hcur hbusy haid data)),
    fun s f hmain hpulse => exec_next rfl (if_pos (by simp [hmain, hpulse])), fun d f => ?_,
    fun s f a hmain => exec_next rfl (if_pos hmain), discResultOf_identity,
    fun s m lines b hmain hlive hbus => exec_next rfl (if_pos (by simp [hmain, hlive, hbus])),
    fun s h m hmay hquar => exec_next rfl ((requalifyEffect_may hmay m).trans (if_pos hquar)),
    fun s h m hmay hquar => exec_same rfl ((requalifyEffect_may hmay m).trans (if_neg (by simp [hquar]))),
    fun s m lines hmain hrequal => exec_next rfl (requalifySampleEndEffect_ends hmain hrequal true lines),
    fun s m lines hmain hrequal => exec_next rfl (requalifySampleEndEffect_ends hmain hrequal false lines),
    fun s h m mask hmay hquar => exec_same rfl ((devResetEffect_may hmay m mask).trans (if_pos hquar)),
    fun s h m hmay => exec_same rfl ((devResetEffect_may hmay m 0).trans ?_),
    fun s h m hmay hquar hrst hret => exec_next rfl ((devResetEffect_may hmay m 1).trans ?_)⟩
  · simp [tsAt, devAt, vget_vmod]
  · exact (ite_congr rfl (fun _ => flashDone_none hnone ..) (fun _ => rfl)).trans (ite_self _)
  · simp [flashBusyEndEffect, busyEnd, hidle]
  · rcases hrst with h | h <;> simp [h]
  · rw [startDiscovery_dev]
    exact ⟨rfl, rfl, rfl, by simp [startDiscovery, retryHolds]⟩
  · simp only [devResetOne_skip (show hasBit 0 _ = false from Nat.zero_testBit _), ite_self]
  · rw [if_neg (by simp [hquar]), devResetOne_skip (k := 1) (by decide), devResetOne_skip (k := 2) (by decide),
      devResetOne_skip (k := 3) (by decide)]
    exact devResetOne_pulse (by decide) hrst hret

end Sys2Proof.Machine
end

section
/-! PROOFS. Serving, gates, patrol scrub, the flash command queue and device control
(spec/08_serving_gates_and_spares.md, R237–R264; spec/21_errors_ecc_and_perturbation.md, R573). -/

namespace Sys2Proof.Machine

open Sys2Proof

/-! ### Hart 2's registers -/

/-- A register that hart 2 writes takes its write. -/
theorem onlyHart2_may {d : Device} {b : Nat} (hmay : MayWrite d 2 b) (addr : Nat) (f : Device → Device) :
    onlyHart 2 2 b addr f d = f d := (onlyHart_may hmay ..).trans (if_pos rfl)

/-- A register that hart 2 writes ignores other harts. -/
theorem onlyHart2_other {d : Device} {h : Hart} {b : Nat} (hmay : MayWrite d h b) (hne : h ≠ 2) (addr : Nat)
    (f : Device → Device) : onlyHart 2 h b addr f d = d :=
  (onlyHart_may hmay ..).trans (if_neg (fun heq => hne (Fin.ext heq)))

/-! ### Serving -/

/-- A reboot is ignored in None and Held (R238). -/
theorem rebootDomain_eq (bd reason : Nat) (d : Device) : rebootDomain bd reason d =
    if (domain d bd).state = .none ∨ (domain d bd).state = .held then d else freshSequence bd reason d := by
  cases hstate : (domain d bd).state <;> simp [rebootDomain, hstate]

/-- A write of IS_BDn_SERVE that sets both or neither bit, or names a slot that is not servable, has no effect (R389). -/
theorem serveWrite_none {bd : Nat} {v : Word} {d : Device} (h : bit v 0 = bit v 3 ∨ slotServable d bd (field v 1 2) = false) :
    serveWrite bd v d = d := if_pos (by simpa using h)

/-- The stream of a Streamed image that has been idle long enough (R242). -/
theorem streamIdleExpiryEffect_idle {bd : Bd} {image : Nat} {im : ServeImage} {d : Device} (hmain : mainRuns d = true)
    (hserving : bdServing (domain d bd) = true) (him : (domain d bd).images[image]? = some im)
    (hstreamed : im.imgRec.serveMode = 2) (hopen : im.closed = false) (hall : unitsOf im.imgRec.length ≤ im.units)
    (hidle : im.lastRead * 1000 + streamIdleMs d * 1024 ≤ d.clock.opTime * 1000) :
    streamIdleExpiryEffect bd image d = serveVerdict bd image (match ctxOf d.dg im.ctx with
      | some c => dgLift (closeStream c d.dg) (modImage bd image (fun x => { x with closed := true }) d)
      | none => modImage bd image (fun x => { x with closed := true }) d) := by
  have hdg : (modImage bd image (fun x => { x with closed := true }) d).dg = d.dg := rfl
  have hgo : (im.imgRec.serveMode != 2 || im.closed || decide (im.units < unitsOf im.imgRec.length) ||
      decide (d.clock.opTime * 1000 < im.lastRead * 1000 + streamIdleMs d * 1024)) = false := by
    simp [hstreamed, hopen, hall, hidle]
  rw [streamIdleExpiryEffect, if_neg (by simp [hmain, hserving]), him]
  simp only [hgo, hdg, Bool.false_eq_true, if_false]
  rcases ctxOf d.dg im.ctx with - | c <;> rfl

/-- Any other image is left alone (R242). -/
theorem streamIdleExpiryEffect_other {bd : Bd} {image : Nat} {im : ServeImage} {d : Device}
    (him : (domain d bd).images[image]? = some im) (h : im.imgRec.serveMode ≠ 2 ∨ im.closed = true ∨
      im.units < unitsOf im.imgRec.length ∨ d.clock.opTime * 1000 < im.lastRead * 1000 + streamIdleMs d * 1024) :
    streamIdleExpiryEffect bd image d = d := by
  have hstop : (im.imgRec.serveMode != 2 || im.closed || decide (im.units < unitsOf im.imgRec.length) ||
      decide (d.clock.opTime * 1000 < im.lastRead * 1000 + streamIdleMs d * 1024)) = true := by
    rcases h with h | h | h | h <;> simp [h]
  simp only [streamIdleExpiryEffect, him, hstop, if_true, ite_self]

/-- Without main power, a served domain or such an image nothing expires. -/
theorem streamIdleExpiryEffect_none {bd : Bd} {image : Nat} {d : Device}
    (h : mainRuns d = false ∨ (domain d bd).images[image]? = none ∨ bdServing (domain d bd) = false) :
    streamIdleExpiryEffect bd image d = d := by
  rcases h with h | h | h <;> simp [streamIdleExpiryEffect, h]

/-- Settles O27, clause by clause: Start and Reject, the waiting domain, bursts, idle streams, and reboots. -/
theorem servingCommands : Obligations.ServingCommands := by
  unfold Obligations.ServingCommands
  refine ⟨fun s bd v hmay hstart hreject hslot => exec_next rfl ((onlyHart2_may hmay ..).trans ?_),
    fun s bd v hmay hstart hreject hslot => exec_next rfl ((onlyHart2_may hmay ..).trans ?_),
    fun s bd v hmay hnone => ⟨exec_same rfl ((onlyHart2_may hmay ..).trans (serveWrite_none hnone)),
      exec_same rfl ((onlyHart2_may hmay ..).trans (serveWrite_none hnone))⟩,
    fun s h bd v hmay hne => ⟨exec_same rfl (onlyHart2_other hmay hne ..), exec_same rfl (onlyHart2_other hmay hne ..),
      exec_same rfl (onlyHart2_other hmay hne ..)⟩,
    fun s bd hmain hwait hfirst => exec_next rfl (if_neg ?_), fun s bd b hwait hbefore => exec_same rfl (if_pos ?_),
    fun s bd image result data f hmain hburst => exec_next rfl ?_,
    fun s bd image im hmain hserving him hstreamed hopen hall hidle =>
      exec_next rfl (streamIdleExpiryEffect_idle hmain hserving him hstreamed hopen hall hidle),
    fun s bd image im him h => exec_same rfl (streamIdleExpiryEffect_other him h),
    fun s bd image h => exec_same rfl (streamIdleExpiryEffect_none h),
    fun s bd hmay => exec_next rfl ((onlyHart2_may hmay ..).trans (rebootDomain_eq ..)), fun bd reason d => ?_⟩
  · simp [serveWrite, hstart, hreject, hslot]
  · simp [serveWrite, hstart, hreject, hslot]
  · simpa [hmain, hwait, ← Bool.not_eq_true, imp_not_comm] using hfirst
  · have hany : (List.range 16).any (fun x => waitsResources s.dev x && startsBefore s.dev x bd) = true :=
      List.any_eq_true.mpr ⟨b, List.mem_range.mpr b.isLt, by simp [hwait, hbefore]⟩
    simp [hany]
  · simp [servingReadCompleteEffect, hmain, hburst]
  · rw [freshSequence, domain_modBd, returnToReset, domain_modBd]
    exact ⟨rfl, rfl, rfl, rfl, rfl, (freshSequence_kept bd reason d).1⟩

/-! ### Gates -/

/-- Freeing tag entries and locks leaves the gates (R252). -/
theorem releaseDone_gates (bd : Nat) (d : Device) : (releaseDone bd d).is_.gates = d.is_.gates :=
  event_same (·.is_.gates) (fun _ _ _ => rfl) ..

/-- A gate that is set is out. -/
theorem hasBit_setBit (m g : Nat) : hasBit (setBit m g) g = true := by
  simp [hasBit, setBit]

/-- No gate opens where none waits, or a fence or a tamper hold stops it (R248, R249). -/
theorem gateDelay_stopped {d : Device} {bd : Nat}
    (h : (domain d bd).releasing = none ∨ d.tx.fenceArmed = true ∨ tamperHolds d bd = true) : gateDelay bd d = d := by
  unfold gateDelay
  split
  · rfl
  · rcases h with h | h | h
    · simp_all
    · simp [h]
    · simp [h]

/-- After its delay the waiting gate is out (R248). -/
theorem gateDelay_opens {d : Device} {bd k g : Nat} (hwait : (domain d bd).releasing = some k) (hfence : d.tx.fenceArmed = false)
    (htamper : tamperHolds d bd = false) (hgate : (domain d bd).gateOrder[k]? = some g) (hbound : g ∈ orderedGates d bd) :
    hasBit (gateDelay bd d).is_.gates g = true := by
  have hcontains : (orderedGates d bd).contains g = true := by simpa using hbound
  simp only [gateDelay, hwait, hfence, htamper, hgate, hcontains, Bool.or_self, Bool.false_eq_true, if_false, if_true]
  split
  · exact hasBit_setBit ..
  · rw [releaseDone_gates]
    exact hasBit_setBit ..

/-- Holding ends where no gate of the domain is released (R251). -/
theorem holdGates_done {d : Device} {bd : Nat} (h : ∀ g ∈ orderedGates d bd, hasBit d.is_.gates g = false) :
    holdGates bd d = modBd bd (fun b => { b with holding := none }) d := by
  have hnone : (orderedGates d bd).filter (hasBit d.is_.gates) = [] := List.filter_eq_nil_iff.mpr (by simpa using h)
  simp [holdGates, hnone]

/-- Settles O28, clause by clause: the ends of gate delays and of hold delays. -/
theorem gateDelays : Obligations.GateDelays := by
  unfold Obligations.GateDelays
  refine ⟨fun s bd hmain => exec_next rfl (if_pos hmain), fun d bd h => gateDelay_stopped h,
    fun d bd k g hwait hfence htamper hgate hbound => gateDelay_opens hwait hfence htamper hgate hbound,
    fun s bd k hmain hhold => exec_next rfl (if_pos (by simp [hmain, hhold])),
    fun s bd hnone => exec_same rfl (if_neg (by simp [hnone])), fun d bd h => ?_⟩
  rw [holdGates_done h, domain_modBd]
  exact ⟨rfl, rfl⟩

/-! ### Patrol scrub and the flash command queue -/

/-- A clean word is left as it was; the last word of the image store ends a pass (R573). -/
theorem patrolScrubStepEffect_clean {d : Device} {region word syndrome : Nat} {r : ScrubRegion} (hmain : mainRuns d = true)
    (hregion : scrubRegion region = some r) (hclean : scrubFinds d r (word % (scrubPlace r).2.2) syndrome = 0) :
    patrolScrubStepEffect region word syndrome d =
      if r = .store ∧ word % (scrubPlace r).2.2 = 0xBFFFFF then
        { d with is_ := { d.is_ with scrubPasses := (d.is_.scrubPasses + 1) % 65536 } }
      else d := by
  simp only [patrolScrubStepEffect, hmain, hregion, hclean, Bool.not_true, Bool.false_eq_true, if_false]

/-- IS_FQ_SUBMIT by a hart: nothing without Go, a fault where it must, else the descriptor joins its group (R255). -/
theorem fqSubmitEffect_may {d : Device} {h : Hart} (hmay : MayWrite d h 7) {v : Word} (hgo : bit v 0 = true)
    (hok : submitFaults d h (fqDesc (fqOf d h)) = false) (hsnoop : (fqDesc (fqOf d h)).snoop = false) : fqSubmitEffect h v d =
      if (fqDesc (fqOf d h)).groupNext then
        modFq h (fun r => { r with openGroup := r.openGroup ++ [(fqDesc (fqOf d h), curTag d)] }) d
      else submitGroup h ((fqOf d h).openGroup ++ [(fqDesc (fqOf d h), curTag d)]) (modFq h (fun r => { r with openGroup := [] }) d) := by
  simp [fqSubmitEffect, hartWrite_may hmay, hgo, hok, bindSnoop, hsnoop]

/-- Settles O29, clause by clause: the clean word, the submits, and the pop. -/
theorem scrubAndFlashQueue : Obligations.ScrubAndFlashQueue := by
  unfold Obligations.ScrubAndFlashQueue
  refine ⟨fun s region word syndrome r hmain hregion hclean hlast =>
      exec_same rfl ((patrolScrubStepEffect_clean hmain hregion hclean).trans (if_neg hlast)),
    fun s word syndrome hmain hlast hclean => exec_next rfl ?_,
    fun s h v hmay hgo => exec_same rfl ((hartWrite_may hmay ..).trans (if_pos (by simp [hgo]))),
    fun s h v hmay hgo hfault => exec_next rfl ((hartWrite_may hmay ..).trans ?_),
    fun s h v hmay hgo hok hsnoop hnext => exec_next rfl ((fqSubmitEffect_may hmay hgo hok hsnoop).trans (if_pos hnext)),
    fun s h v hmay hgo hok hsnoop hnext =>
      exec_next rfl ((fqSubmitEffect_may hmay hgo hok hsnoop).trans (if_neg (by simp [hnext]))),
    fun s h hmay hnone => exec_next rfl ?_, fun s h w tl hmay hsome => exec_next rfl ?_⟩
  · have hplace : (scrubPlace .store).2.2 = 0xC00000 := rfl
    have hword : word % (scrubPlace .store).2.2 = 0xBFFFFF := by rw [hplace, hlast]
    have hfinds : scrubFinds s.dev .store (word % (scrubPlace .store).2.2) syndrome = 0 := by rw [hword, hclean]
    exact (patrolScrubStepEffect_clean (region := 0) hmain rfl hfinds).trans (if_pos ⟨rfl, hword⟩)
  · simp [hgo, hfault]
  · simp [fqResultPopEffect, hmay.1, hmay.2, hnone]
  · simp [fqResultPopEffect, hmay.1, hmay.2, hsome]

/-! ### Device control -/

/-- Hart 2 controls the devices (R261–R264). -/
theorem devCtrl_hart2 {d : Device} (hmay : MayWrite d 2 7) (f : Dev) (g : Device → Device) : devCtrl 2 f g d = g d := by
  rw [devCtrl, onlyHart2_may hmay]

/-- Other harts do not. -/
theorem devCtrl_other {d : Device} {h : Hart} (hmay : MayWrite d h 7) (hne : h ≠ 2) (f : Dev) (g : Device → Device) :
    devCtrl h f g d = d := by
  rw [devCtrl, onlyHart2_other hmay hne]

/-- The two digests of a finished closing read decide the resync (R258). -/
theorem resyncCompleteEffect_closed {d : Device} {f : Dev} {r : Resync} {a b k : Nat} {x y : Option (List Byte)}
    (hmain : mainRuns d = true) (hresync : resyncOf d f = some r) (hcopied : unitCount (curLeaf d) f ≤ r.copied)
    (hclosing : r.closing = some (a, b, k)) (hread : 2 * unitCount (curLeaf d) f ≤ k) (hx : closingDigest d a = some x)
    (hy : closingDigest d b = some y) : resyncCompleteEffect f d =
      setCond f (if r.probation then 8 else if x.isSome && x == y then 4 else 5) (dropResync f d) := by
  have hgo : (!mainRuns d || decide (r.copied < unitCount (curLeaf d) f)) = false := by simp [hmain, hcopied]
  simp only [resyncCompleteEffect, hresync, hgo, hclosing, hx, hy, Nat.not_lt.mpr hread, Bool.false_eq_true, if_false]

/-- Settles O30, clause by clause: Retire, Probe, Resync, its end, and EndProbe. -/
theorem deviceControl : Obligations.DeviceControl := by
  unfold Obligations.DeviceControl
  refine ⟨fun s f r hmay hrec hnone hret hfenced => exec_next rfl ((devCtrl_hart2 hmay ..).trans (if_neg ?_)),
    fun s f hmay hret => exec_same rfl ((devCtrl_hart2 hmay ..).trans (if_pos (by simp [hret]))),
    fun s f r hmay hrec hrole hret hquar => exec_next rfl ((devCtrl_hart2 hmay ..).trans (if_neg ?_)),
    fun s f hmay hret => exec_same rfl ((devCtrl_hart2 hmay ..).trans (if_pos (by simp [hret]))),
    fun s f src prob hmay hsrc => ⟨_, rfl, exec_next rfl ((devCtrl_hart2 hmay ..).trans (by simp only [hsrc]))⟩,
    fun s f hmay hsrc => exec_same rfl ((devCtrl_hart2 hmay ..).trans (by simp only [hsrc])),
    fun s f r a b k x y hmain hresync hcopied hclosing hread hx hy =>
      exec_next rfl (resyncCompleteEffect_closed hmain hresync hcopied hclosing hread hx hy),
    fun s f r hresync hcopied => exec_same rfl (by simp [resyncCompleteEffect, hresync, hcopied]),
    fun s f hnone => exec_same rfl (by simp [resyncCompleteEffect, hnone]),
    fun s f hmay => exec_next rfl (devCtrl_hart2 hmay ..), fun d f hprob => if_neg (by simp [hprob]),
    fun s h f hmay hne => ⟨exec_same rfl (devCtrl_other hmay hne ..), exec_same rfl (devCtrl_other hmay hne ..),
      exec_same rfl (devCtrl_other hmay hne ..), exec_same rfl (devCtrl_other hmay hne ..)⟩⟩
  · simp [hrec, hnone, hret, hfenced]
  · simp [hrec, hrole, hret, hquar]

end Sys2Proof.Machine
end

section
/-! PROOFS. Platform boot and recovery bundles (spec/13_platform_boot.md, R384–R395). -/

namespace Sys2Proof.Machine

open Sys2Proof

/-- A sequence start on a Held domain by a listed agent (R387). -/
theorem bdSequenceStartEffect_held {d : Device} {bd : Bd} {requester : Nat} {r : BdRec} (hmain : mainRuns d = true)
    (hattached : attached d = true) (haid : aidListed requester = true) (hrec : bdOf (curLeaf d) bd = some r)
    (hheld : (domain d bd).state = .held) (hidle : (domain d bd).attempt = none) (fault : Nat) :
    bdSequenceStartEffect bd requester fault d = startAttempt bd fault
      (if (domain d bd).seqRunning then d
      else hartEvent 2 0x0842 1 [bd, (domain d bd).reason, r.activeSlot, requester]
        (modBd bd (fun x => { x with seqRunning := true }) d)) := by
  simp [bdSequenceStartEffect, hrec, hmain, hattached, haid, hheld, hidle]

/-- One on a domain that is not Held, or with a reserved AID, has no effect (R13, R387). -/
theorem bdSequenceStartEffect_none {d : Device} {bd : Bd} {requester : Nat}
    (h : (domain d bd).state ≠ .held ∨ aidListed requester = false) (fault : Nat) :
    bdSequenceStartEffect bd requester fault d = d := by
  unfold bdSequenceStartEffect
  split
  · rfl
  · exact if_pos (by rcases h with h | h <;> simp [h])

/-- An attempt whose area fails a check rejects the slot (R387). -/
theorem bootAttempt_fails {d : Device} {bd : Nat} {r : AreaRead} {code detail : Nat}
    (hcheck : attemptCheck d bd r = some (code, detail)) :
    bootAttempt bd r d = rejectSlot bd r.slot (hartEvent 2 0x0841 4 [bd, r.slot, code, detail] d) := by
  simp only [bootAttempt, hcheck]

/-- The first check that fails is the result. -/
theorem firstFail_fails {α : Type} {c : Nat} {f : Unit → Option α} {w : α} (h : f () = some w)
    (tl : List (Nat × (Unit → Option α))) : firstFail ((c, f) :: tl) = some (c, w) := by
  rw [firstFail, h]

/-- A check that passes leaves the result to the next ones. -/
theorem firstFail_passes {α : Type} {c : Nat} {f : Unit → Option α} (h : f () = none) (tl : List (Nat × (Unit → Option α))) :
    firstFail ((c, f) :: tl) = firstFail tl := by
  rw [firstFail, h]

/-- An area that ends beyond its device fails check 2 (R384). -/
theorem attemptCheck_beyond {r : AreaRead} (h : r.size < r.offset + bufLe r.man 8 4) (d : Device) (bd : Nat) :
    attemptCheck d bd r = some (0x02, 0) := by
  unfold attemptCheck checkArea areaChecks
  exact firstFail_fails (if_neg (fun hfits => Nat.not_le.mpr h (of_decide_eq_true hfits))) _

/-- An area that could not be read fails check 1 (R384). -/
theorem attemptCheck_unread {r : AreaRead} (hsize : r.offset + bufLe r.man 8 4 ≤ r.size) (h : r.manRead = false) (d : Device)
    (bd : Nat) : attemptCheck d bd r = some (0x01, 0) := by
  unfold attemptCheck checkArea areaChecks
  exact (firstFail_passes (if_pos (decide_eq_true hsize)) _).trans (firstFail_fails (if_neg (by simp [h])) _)

/-- A recovery bundle that fails a check is rejected with event 0x0843 (R395). -/
theorem takeBundle_fails {d : Device} {fault code : Nat} {bundle : List Byte}
    (hplan : bundlePlan d (bufLe bundle 6 1) (bufLe bundle 7 1) false fault bundle = .error code) (hcode : code ≠ 0)
    (sender : Nat) : takeBundle sender .none false fault bundle d =
      hartEvent 2 0x0843 3 [bufLe bundle 6 1, sender, code, 0] d := by
  simp [takeBundle, hplan, bundleEnds, senderHears, hcode]

/-- The end of a recovery install (R395). -/
theorem installTurn_ended {d : Device} {j code : Nat} {i : Install} (hinst : installOf d j = some i) (hcode : i.code = some code)
    (hvia : i.via = .none) (hupdate : i.update = false) : installTurn j d =
      if code = 0 then rebootDomain i.bd 5 (hartEvent 2 0x0843 3 [i.bd, i.sender, code, i.written]
        { d with is_ := { d.is_ with installs := d.is_.installs.filter (fun x => x.job != j) } })
      else hartEvent 2 0x0843 3 [i.bd, i.sender, code, i.written]
        { d with is_ := { d.is_ with installs := d.is_.installs.filter (fun x => x.job != j) } } := by
  simp [installTurn, hinst, hcode, bundleEnds, hvia, hupdate, senderHears]

/-- Settles O31, clause by clause: the start of a sequence, the attempt and its checks, the bundle and the end of an
install. -/
theorem platformBoot : Obligations.PlatformBoot := by
  unfold Obligations.PlatformBoot
  refine ⟨fun s bd requester fault r hmain hattached haid hrec hheld hidle =>
      exec_next rfl (bdSequenceStartEffect_held hmain hattached haid hrec hheld hidle fault),
    fun s bd requester fault h => exec_same rfl (bdSequenceStartEffect_none h fault),
    fun d bd r code detail hcheck => bootAttempt_fails hcheck, fun d bd r hepoch => ?_, fun d bd r hepoch => ?_,
    fun d bd r h => attemptCheck_beyond h d bd, fun d bd r hsize h => attemptCheck_unread hsize h d bd,
    fun s sender bundle fault hmain hattached hstopped hallowed hinst => exec_next rfl (if_neg ?_),
    fun d sender fault code bundle hplan hcode => takeBundle_fails hplan hcode sender,
    fun d e j code i hinst hcode hvia hupdate he => ?_,
    fun s sender bundle fault hallowed => exec_same rfl (if_pos (by simp [hallowed]))⟩
  · rcases hcheck : attemptCheck d bd r with - | ⟨code, detail⟩
    · simp [bootAttempt, hcheck, hepoch]
    · exact bootAttempt_fails hcheck
  · rcases hcheck : attemptCheck d bd r with - | ⟨code, detail⟩
    · simp [bootAttempt, hcheck, hepoch]
    · exact bootAttempt_fails hcheck
  · simp [hmain, hattached, hstopped, hallowed, hinst]
  · rw [installTurn_ended hinst hcode hvia hupdate, he]
    split
    · rename_i hzero
      rw [hzero]
    · rfl

end Sys2Proof.Machine
end

section
/-! PROOFS. The commands of the digest engine (spec/09_digest_engine.md, R268–R299): what a command finds and refuses, its
reads of memory, and the lanes. -/

namespace Sys2Proof.Machine

open Sys2Proof

/-! ### Contexts -/

/-- A read where no word is flipped meets no error (R572). -/
theorem readErrors_clean {d : Device} (h : d.flipped = []) (a n : Nat) : readErrors a n d = d := by
  simp [readErrors, h]

/-- A command on a context that is not open is refused with WrongState (R268). -/
theorem digestCommand_noContext {d : Device} {h : Hart} {c : Ctx} (hmay : MayWrite d h 4) (hjob : (dgBank d h).job = none)
    (hnone : ctxOf d.dg c = none) (cmd : Nat) (f : Context → Device → Nat × Nat × Device) :
    digestCommand h cmd (onContext h c f) d = dgResult h cmd 1 0 d := by
  rw [digestCommand_may hmay hjob, onContext, hnone]
  rfl

/-- A command while a Prefix or Feed of its hart runs is Busy (R278). -/
theorem digestCommand_busy {d : Device} {h : Hart} (hmay : MayWrite d h 4) (hjob : (dgBank d h).job ≠ none) (cmd : Nat)
    (f : Device → Nat × Nat × Device) : digestCommand h cmd f d = dgResult h cmd 6 0 d := by
  rw [digestCommand, hartWrite_may hmay, if_pos (Option.isSome_iff_ne_none.mpr hjob)]

/-- The bytes of a Prefix or Feed are read as it starts (R278). -/
theorem startFeed_reads {d : Device} {h : Hart} {bs : List Byte}
    (hread : engineReadFor h d (dgBank d h).args[0].toNat (dgBank d h).args[1].toNat = some bs) (hclean : d.flipped = [])
    (x : Context) (isPrefix : Bool) : startFeed h x isPrefix d =
      (0, 0, modDgBank h (fun b => { b with job := some { ctx := x.no, bytes := bs, isPrefix := isPrefix } }) d) := by
  simp only [startFeed, readErrors_clean hclean, hread]

/-- The bytes of a Feed are absorbed (R285). -/
theorem feedEnds_of_feed {d : Device} {j : DgJob} {x : Context} (hctx : ctxOf d.dg j.ctx = some x) (hfeed : j.isPrefix = false)
    (hstate : x.state = .absorbing) (h : Hart) :
    feedEnds h j d = dgResult h 4 0 0 (dgLift (feedCtx d.tx.epoch j.bytes x d.dg) d) := by
  simp [feedEnds, hctx, hfeed, hstate]

/-- A context with neither a key block nor a vault source opens absorption as its head stands (R273). -/
theorem beginContext_plain {x : Context} (hsource : x.source ≠ 2) (hkey : x.keyMode = false) (hlen : 0 < x.declLen) (d : Device) :
    beginContext x d = { d with dg := juggle (putCtx d.dg { x with state := .absorbing, rung := none }) } := by
  simp [beginContext, rungOf, hsource, hkey, Nat.pos_iff_ne_zero.mp hlen]

/-- Settles O32, clause by clause: Open, Prefix, Feed, commands on no context, the ends of both, and Begin. -/
theorem digestContexts : Obligations.DigestContexts := by
  unfold Obligations.DigestContexts
  refine ⟨fun s h n hmay hjob hranges hkeys hfree => exec_next rfl ((digestCommand_may hmay hjob ..).trans ?_),
    fun s h hmay hjob hranges => exec_next rfl ((digestCommand_may hmay hjob ..).trans ?_),
    fun s h hmay hjob => exec_next rfl (digestCommand_busy hmay hjob ..),
    fun s h c x bs hown hstate hread hclean => exec_next rfl ((digestCommand_own hown ..).trans ?_),
    fun s h c x bs hown hsource hstate hread hclean => exec_next rfl ((digestCommand_own hown ..).trans ?_),
    fun s h c x hown hsource hstate => exec_next rfl ((digestCommand_own hown ..).trans ?_),
    fun s h c hmay hjob hnone => ⟨exec_next rfl (digestCommand_noContext hmay hjob hnone ..),
      exec_next rfl (digestCommand_noContext hmay hjob hnone ..), exec_next rfl (digestCommand_noContext hmay hjob hnone ..),
      exec_next rfl (digestCommand_noContext hmay hjob hnone ..), exec_next rfl (digestCommand_noContext hmay hjob hnone ..),
      exec_next rfl (digestCommand_noContext hmay hjob hnone ..)⟩,
    fun s h j hmain hjob => exec_next rfl (dgFeedCompleteEffect_of_job hmain hjob),
    fun d h j x hctx hprefix hstate => feedEnds_of_prefix hprefix hctx hstate h,
    fun d h j x hctx hfeed hstate => feedEnds_of_feed hctx hfeed hstate h,
    fun s h c x hown hstate hblocks hkeyed hsource hkey hlen => exec_next rfl ?_,
    fun s h c x hown hstate hblocks => exec_next rfl (dgBeginEffect_of_partial_block hown hstate hblocks)⟩
  · simp [openContext, hranges, hkeys, hfree]
  · simp [openContext, hranges, dgRefuse]
  · rw [if_neg (by simp [hstate]), startFeed_reads hread hclean]
  · simp only [hsource, hstate, ne_eq, not_true, if_false, startFeed_reads hread hclean]
  · simp only [hsource, hstate, ne_eq, not_true, if_false, dgRefuse]
  · have hrung : rungOf s.dev.kv x = none := by simp [rungOf, hsource]
    rw [dgBeginEffect_of_whole_blocks hown hstate hblocks hkeyed hrung, beginContext_plain hsource hkey hlen]

/-! ### Taps, compare entries and lanes -/

/-- An entry is armed with the 64 bytes at its address (R293). -/
theorem armFrom_reads {d : Device} {h : Hart} {x : Context} {bs : List Byte} {n : Nat} (hout : x.outLen = 64) (hdest : x.outDest ≠ 1)
    (hfree : d.dg.cmps.any (fun e => e.ctx == x.no) = false) (halign : (dgBank d h).args[0].toNat % 8 = 0)
    (hread : engineReadFor h d (dgBank d h).args[0].toNat 64 = some bs) (hclean : d.flipped = []) (hcmp : freeCmp d.dg = some n) :
    armFrom h x d = (0, n, dgLift (armEntry n x bs d.dg) d) := by
  simp [armFrom, hout, hdest, hfree, readErrors_clean hclean, halign, hread, hcmp]

/-- An entry is freed by its owner alone (R293). -/
theorem dgCmpFreeEffect_of_entry {d : Device} {h : Hart} {e : Nat} {x : CmpEntry} (hmay : MayWrite d h 4)
    (hjob : (dgBank d h).job = none) (hentry : d.dg.cmps.find? (fun y => y.no == e % 256) = some x) :
    dgCmpFreeEffect h e d = if x.owner = 0x10 + h.val then
        dgResult h 9 0 0 (modDg (fun g => { g with cmps := g.cmps.filter (fun y => y.no != x.no) }) d)
      else dgResult h 9 2 0 d := by
  rw [dgCmpFreeEffect, digestCommand_may hmay hjob]
  by_cases howner : x.owner = 0x10 + h.val <;> simp [hentry, howner, dgRefuse]

/-- A burst reaches its tap at its offset; a kind 3 tap has none (R281). -/
theorem tapBurstEffect_tapped {d : Device} {c : Ctx} {x : Context} {t : Tap} (hmain : mainRuns d = true)
    (hctx : ctxOf d.dg c = some x) (htap : x.tap = some t) (off : Nat) (data : List Byte) : tapBurstEffect c off data d =
      dgLift (tapBurst d.tx.epoch (if t.kind = 3 then t.next else off) data x d.dg) d := by
  simp [tapBurstEffect, hctx, htap, hmain, burstToTap]

/-- With EC_INJECT disarmed a lane's context is written back as it is (R572). -/
theorem injectContext_off {d : Device} (h : bit d.ec.inject 31 = false) (l : Lane) : injectContext l d = d := by
  unfold injectContext
  split
  · rfl
  · simp [h]

/-- Settles O34, clause by clause: Bind, Close, Free, the compare entries, the tap, the lanes and the restart. -/
theorem digestTapsAndLanes : Obligations.DigestTapsAndLanes := by
  unfold Obligations.DigestTapsAndLanes
  refine ⟨fun s c x hown hstate htap hsource hcls halign => exec_next rfl ?_,
    fun s h c hmay hjob hne => exec_next rfl ((digestCommand_may hmay hjob ..).trans ?_),
    fun s h c x hown hstate => exec_next rfl ((digestCommand_own hown ..).trans ?_),
    fun s h c x hown hstate => exec_next rfl ((digestCommand_own hown ..).trans ?_),
    fun s h c x hown => exec_next rfl ((digestCommand_own hown ..).trans ?_),
    fun s h c x bs n hown hout hdest hfree halign hread hclean hcmp => exec_next rfl ((digestCommand_own hown ..).trans ?_),
    fun s h e x hmay hjob hentry howner => exec_next rfl ((dgCmpFreeEffect_of_entry hmay hjob hentry).trans (if_pos howner)),
    fun s h e x hmay hjob hentry howner => exec_next rfl ((dgCmpFreeEffect_of_entry hmay hjob hentry).trans (if_neg howner)),
    fun s h code hmay hjob => exec_next rfl (digestCommand_may hmay hjob ..),
    fun s c x t off data hmain hctx htap => exec_next rfl (tapBurstEffect_tapped hmain hctx htap off data),
    fun s l c hmain hlane hinject => exec_next rfl ((if_pos (by simp [hmain, show s.dev.dg.lanes[l.val].ctx = some c from hlane])).trans
      (injectContext_off (d := modDg (fun g => laneBlock g l) s.dev) hinject l)),
    fun s l hlane => exec_same rfl (if_neg (by simp [show s.dev.dg.lanes[l.val].ctx = none from hlane])),
    fun s c x hmain hctx hstate => exec_next rfl ?_, fun s c hctx => exec_same rfl ?_,
    fun s l c hmain => ⟨exec_next rfl (if_neg (by simp [hmain])), exec_next rfl (if_neg (by simp [hmain]))⟩,
    fun s l hmain hoff => exec_next rfl (if_pos (by simp [hmain, show s.dev.dg.lanes[l.val].offline = true from hoff])),
    fun s l => exec_same rfl (if_neg (by simp)), fun s hnone => exec_same rfl ?_, fun s e hsome => exec_next rfl ?_⟩
  · obtain ⟨hmay, hjob, hctx, howner⟩ := hown
    rw [dgBindEffect, digestCommand_may hmay hjob]
    simp [onContext, hctx, howner, hstate, htap, hsource, hcls, halign]
  · simp [hne, dgRefuse]
  · simp [hstate]
  · simp [hstate, dgRefuse]
  · by_cases hstate : x.state = .final_ <;> simp [hstate, dgRefuse]
  · rw [armFrom_reads hout hdest hfree halign hread hclean hcmp]
  · simp [contextSqueezeDoneEffect, hctx, hmain, hstate]
  · simp [contextSqueezeDoneEffect, hctx]
  · simp [digestEngineRestartDoneEffect, hnone]
  · simp [digestEngineRestartDoneEffect, hsome, freeRestart]

end Sys2Proof.Machine
end

section
/-! PROOFS. The signature engine (spec/10_signature_engine.md, R303–R321): its submits and results, and what a job comes
to. -/

namespace Sys2Proof.Machine

open Sys2Proof

/-! ### Submission and results -/

/-- A submit with room takes the job of the descriptor at the address (R308, R311). -/
theorem sgSubmitEffect_room {d : Device} {h : Hart} (hmay : MayWrite d h 5) (hroom : jobsInFlight d.sg h < 4) (v : Word) :
    sgSubmitEffect h v d = acceptJob (readJob h (v.toNat - v.toNat % 64) d)
      (noteSigning h (readJob h (v.toNat - v.toNat % 64) d) (readErrors (v.toNat - v.toNat % 64) 64 d)) :=
  (hartWrite_may hmay ..).trans (if_neg (Nat.not_le.mpr hroom))

/-- Hart 3 notes the signing of a sheet, on its own Sign jobs of the vault alone (R401, R587). -/
theorem noteSigning_other {h : Hart} {j : SgJob} (hother : h ≠ 3 ∨ j.op ≠ 2 ∨ j.source ≠ 4) (d : Device) :
    noteSigning h j d = d := by
  refine if_neg (fun ⟨hhart, hop, hsource, _⟩ => ?_)
  rcases hother with hne | hne | hne
  · exact hne (Fin.ext hhart)
  · exact hne hop
  · exact hne hsource

/-- A Verify job, and any job while the sign unit is in service, is queued (R312, R318). -/
theorem acceptJob_queued {j : SgJob} {d : Device} (h : j.op = 1 ∨ d.sg.units[2].offline = false) :
    acceptJob j d = modSg (queueJob j) d := if_neg (by rcases h with h | h <;> simp [h])

/-- A job of a hart ends where its hart has room for the result (R313). -/
theorem sgJobCompleteEffect_room {d : Device} {u : Unit3} {j : SgJob} {h : Nat} (hmain : mainRuns d = true)
    (hjob : d.sg.units[u].job = some j) (hhart : j.hart = some h) (hroom : (vget d.sg.results h).length < 4) (fault : Nat) :
    sgJobCompleteEffect u fault d = endJob u j fault d := by
  simp only [sgJobCompleteEffect, hjob, hhart, hmain, hroom, decide_true, Bool.and_self, if_true]

/-- A result is popped with its verdict (R313, R317). -/
theorem sgResultPopEffect_pop {d : Device} {h : Hart} {r : SgResult} {tl : List SgResult} (hmay : MayRead d h)
    (hresults : d.sg.results[h] = r :: tl) : sgResultPopEffect h d =
      replyWord (resultWord r) ((if h.val = 3 then sheetSigned r else id)
        (modSg (fun g => { popResult h tl g with verdict := if r.op = 1 then g.verdict.set h (verdictPair r.code) else g.verdict }) d)) := by
  obtain ⟨hmain, hgo⟩ := hmay
  simp only [sgResultPopEffect, hmain, hgo, hresults, Bool.not_true, Bool.or_self, Bool.false_eq_true, if_false]
  split <;> rfl

/-- A result that is no sheet's signature leaves the signing as it was (R587). -/
theorem sheetSigned_other {r : SgResult} {d : Device} (h : d.lg.signing = none ∨ r.op ≠ 2) : sheetSigned r d = d := by
  unfold sheetSigned
  split
  · rfl
  · rcases h with h | h
    · simp_all
    · simp [h]

/-! ### What a job comes to -/

section
variable {d : Device} {j : SgJob} {seed msg ctx : List Byte} (hseed : jobSeed d j = some seed)
  (hmsg : jobInput d (jobHart j) j.msgAddr j.msgLen = some msg) (hctx : jobInput d (jobHart j) j.ctxAddr j.ctxLen = some ctx)
  (hwrites : jobWrites d (jobHart j) j.sigAddr 3309 = true)
include hseed hmsg hctx hwrites

/-- A Sign that finds no signature ends with code 9 (R315). -/
theorem signJob_unsigned (hsig : mldsaSign seed ctx msg (if j.det then zeros 32 else freeBytes d 32) = none) (faulty : Bool) :
    signJob d j faulty = (9, []) := by
  simp [signJob, hseed, hmsg, hctx, hwrites, hsig]

/-- A signature is released where it verifies under the public key of its seed (R306). -/
theorem signJob_signed {sig : List Byte}
    (hsig : mldsaSign seed ctx msg (if j.det then zeros 32 else freeBytes d 32) = some sig) (faulty : Bool) :
    signJob d j faulty = if faulty || verifyCode (mldsaPublic seed) ctx msg sig != 0 then (12, []) else (0, sig) := by
  simp [signJob, hseed, hmsg, hctx, hwrites, hsig]

end

/-- A Sign that ends without a failure had its seed, its inputs and room for its output (R310). -/
theorem signJob_inputs {d : Device} {j : SgJob} {faulty : Bool} (h : (signJob d j faulty).1 = 0) :
    ∃ seed msg ctx, jobSeed d j = some seed ∧ jobInput d (jobHart j) j.msgAddr j.msgLen = some msg ∧
      jobInput d (jobHart j) j.ctxAddr j.ctxLen = some ctx ∧ jobWrites d (jobHart j) j.sigAddr 3309 = true := by
  rcases hseed : jobSeed d j with - | seed
  · simp [signJob, hseed] at h
  · rcases hmsg : jobInput d (jobHart j) j.msgAddr j.msgLen with - | msg
    · simp [signJob, hseed, hmsg] at h
    · rcases hctx : jobInput d (jobHart j) j.ctxAddr j.ctxLen with - | ctx
      · simp [signJob, hseed, hmsg, hctx] at h
      · rcases hwrites : jobWrites d (jobHart j) j.sigAddr 3309 with - | -
        · simp [signJob, hseed, hmsg, hctx, hwrites] at h
        · exact ⟨seed, msg, ctx, rfl, rfl, rfl, rfl⟩

/-- A signature that is written verifies under the public key of its seed (R306). -/
theorem signJob_verifies (d : Device) (j : SgJob) (faulty : Bool) : (signJob d j faulty).1 ≠ 0 ∨
    ∃ seed msg ctx, jobSeed d j = some seed ∧ verifyCode (mldsaPublic seed) ctx msg (signJob d j faulty).2 = 0 ∧ faulty = false := by
  by_cases hcode : (signJob d j faulty).1 = 0
  · obtain ⟨seed, msg, ctx, hseed, hmsg, hctx, hwrites⟩ := signJob_inputs hcode
    rcases hsig : mldsaSign seed ctx msg (if j.det then zeros 32 else freeBytes d 32) with - | sig
    · simp [signJob_unsigned hseed hmsg hctx hwrites hsig] at hcode
    · rw [signJob_signed hseed hmsg hctx hwrites hsig] at hcode ⊢
      split at hcode
      · simp at hcode
      · rename_i hok
        rw [if_neg hok]
        exact .inr ⟨seed, msg, ctx, hseed, by simpa using (by simpa using hok : _ ∧ _).2, by simpa using (by simpa using hok : _ ∧ _).1⟩
  · exact .inl hcode

/-- Verify on its inputs: the key check comes before the signature (R309, R316). -/
theorem verifyJob_inputs {d : Device} {j : SgJob} {msg ctx pk sig dg : List Byte}
    (hmsg : jobInput d (jobHart j) j.msgAddr j.msgLen = some msg) (hctx : jobInput d (jobHart j) j.ctxAddr j.ctxLen = some ctx)
    (hpk : jobInput d (jobHart j) j.keyAddr 1952 = some pk) (hsig : jobInput d (jobHart j) j.sigAddr 3309 = some sig)
    (hdg : (if j.source = 3 then jobInput d (jobHart j) j.pkDigAddr 64 else some []) = some dg) :
    verifyJob d j = if keyCheck d j pk dg ≠ 0 then keyCheck d j pk dg else verifyCode pk ctx msg sig := by
  simp only [verifyJob, hmsg, hctx, hpk, hsig, hdg]

/-- Settles O35, clause by clause: submits, ends and results, faults and restarts, and what a job comes to. -/
theorem signatureEngine : Obligations.SignatureEngine := by
  unfold Obligations.SignatureEngine
  refine ⟨fun s h v hmay hfull => exec_next rfl ((hartWrite_may hmay ..).trans (if_pos hfull)),
    fun s h v a d hmay hroom ha hd => exec_next rfl ?_, fun h j d hother => noteSigning_other hother d,
    fun j d h => acceptJob_queued h,
    fun s u fault j h hmain hjob hhart hroom => exec_next rfl (sgJobCompleteEffect_room hmain hjob hhart hroom fault),
    fun s u fault hnone => exec_same rfl (by simp only [sgJobCompleteEffect, hnone]),
    fun s h hmay hnone => exec_next rfl ?_,
    fun s h r tl hmay hresults => exec_next rfl (sgResultPopEffect_pop hmay hresults),
    fun r d h => sheetSigned_other h, fun h tl g hlate => ?_, fun s u hmain => exec_next rfl (if_pos hmain),
    fun s u ok hmain htest => exec_next rfl (if_pos ?_),
    fun s e hsome => exec_next rfl (by simp only [sgEngineRestartDoneEffect, hsome]),
    fun s hnone => exec_same rfl (by simp only [sgEngineRestartDoneEffect, hnone]), fun d j fault hbad => if_pos hbad,
    fun d j hbad hop => by simp [jobOutcome, hbad, hop], fun d j fault hbad hop hentropy => by simp [jobOutcome, hbad, hop, hentropy],
    fun d j fault hbad hop hentropy => by simp [jobOutcome, hbad, hop, hentropy], signJob_verifies,
    fun d j seed msg ctx hseed hmsg hctx hwrites => ?_,
    fun d j fault hbad hop hfault => by simp [jobOutcome, hbad, hop, hfault],
    fun d j msg ctx pk sig dg hmsg hctx hpk hsig hdg => verifyJob_inputs hmsg hctx hpk hsig hdg,
    fun d j pk dg hsource hkey hfused hdigest => by simp [keyCheck, hsource, Nat.not_le.mpr hkey, hfused, hdigest],
    fun d j pk dg hsource hbad => ?_⟩
  · rw [sgSubmitEffect_room hmay hroom, ha, hd]
  · obtain ⟨hmain, hgo⟩ := hmay
    simp only [sgResultPopEffect, hmain, hgo, hnone, Bool.not_true, Bool.or_self, Bool.false_eq_true, if_false]
  · simp only [popResult, Fin.getElem_fin] at hlate ⊢
    simp [hlate]
  · simp [hmain, show s.dev.sg.units[u.val].testing = true from htest]
  · rcases hsig : mldsaSign seed ctx msg (if j.det then zeros 32 else freeBytes d 32) with - | sig
    · exact signJob_unsigned hseed hmsg hctx hwrites hsig false
    · simpa using signJob_signed hseed hmsg hctx hwrites hsig false
  · simp only [keyCheck, hsource]
    exact if_pos (.inr hbad)

end Sys2Proof.Machine
end

section
/-! PROOFS. The key vault, tamper alarms and entropy health (spec/11_keys_and_tamper.md, R322–R343). -/

namespace Sys2Proof.Machine

open Sys2Proof

/-! ### Key vault commands -/

/-- A command that its conditions accept runs (R331). -/
theorem vaultCommand_accepted {d : Device} {h : Hart} (hready : VaultReady d h) {cmd : Nat} {out : Device → Nat}
    (hcmd : ¬ (8 ≤ cmd ∧ cmd ≤ 13 ∧ h ≠ 0)) (hout : out d = 0) (f : Device → Device) :
    vaultCommand h cmd out f d = kvResult h cmd 0 true (f d) := by
  rw [vaultCommand_ready hready cmd out f hcmd, if_pos hout]

/-- One that they do not accept has its outcome alone (R331). -/
theorem vaultCommand_outcome {d : Device} {h : Hart} (hready : VaultReady d h) {cmd o : Nat} {out : Device → Nat}
    (hcmd : ¬ (8 ≤ cmd ∧ cmd ≤ 13 ∧ h ≠ 0)) (hout : out d = o) (ho : o ≠ 0) (f : Device → Device) :
    vaultCommand h cmd out f d = kvResult h cmd o false d := by
  rw [vaultCommand_ready hready cmd out f hcmd, if_neg (by rwa [hout]), hout]

/-- A command while another of its hart runs is Busy (R331). -/
theorem vaultCommand_busy {d : Device} {h : Hart} (hmay : MayWrite d h 3) (hbusy : d.kv.banks[h].busy = true) (cmd : Nat)
    (out : Device → Nat) (f : Device → Device) : vaultCommand h cmd out f d = kvResult h cmd 6 true d :=
  (hartWrite_may hmay ..).trans (if_pos hbusy)

section
variable {d : Device} {h : Hart} {k : KvSlot} {x : VaultSlot} (hk : k ≠ 0) (hslot : slotOf d.kv k = some x)
include hk hslot

/-- The condition on a slot of the hart (R331). -/
theorem onSlot_own (howner : x.owner = 0x10 + h.val) (f : VaultSlot → Nat) : onSlot h k f d = f x := by
  simp [onSlot, hk, hslot, howner]

/-- A slot of another hart is NotOwner (R331). -/
theorem onSlot_other (howner : x.owner ≠ 0x10 + h.val) (f : VaultSlot → Nat) : onSlot h k f d = 2 := by
  simp [onSlot, hk, hslot, howner]

/-- The condition on a slot for the staging commands (R331). -/
theorem anySlot_of (f : VaultSlot → Bool) (hf : f x = true) : anySlot k f d = 0 := by
  simp [anySlot, hk, hslot, hf]

omit hk in
/-- The slot that a command changes (R331). -/
theorem modSlotKv_of (f : VaultSlot → VaultSlot) : modSlotKv k f d = modKv (fun v => setSlot v (f x)) d := by
  simp only [modSlotKv, hslot]

end

/-- A staged root: a fresh secret without its CommitWord in the buffer that is not active (R322, R331). -/
theorem stageRoot_staged (d : Device) : (stageRoot d).kv.stagedRoot = true ∧ (stageRoot d).kv.written = false ∧
    (stageRoot d).mem = d.mem ∧ (stageRoot d).bat.latch = d.bat.latch ∧
    (stageRoot d).bat.roots = vmod d.bat.roots (stagedRootBuf d.kv) (fun _ => {
      generation := d.kv.jrnlGen + 1, secret := freeBytes d 64, check := rootCheck (d.kv.jrnlGen + 1) (freeBytes d 64), commit := 0 }) := by
  simp [stageRoot, unwritten, modKv]

/-- Settles O36, clause by clause: the commands on slots with their refusals, the staging commands, and the command's
end. -/
theorem keyVault : Obligations.KeyVault := by
  unfold Obligations.KeyVault
  refine ⟨fun s h k hready hk hroot hempty => exec_next rfl (vaultCommand_accepted hready (by simp) ?_ _),
    fun s h k x hready hk hroot hslot => exec_next rfl (vaultCommand_outcome hready (by simp) ?_ (by decide) _),
    fun s h k hmay hbusy => exec_next rfl (vaultCommand_busy hmay hbusy ..),
    fun s h k x hready hk hslot howner hpers hpend => exec_next rfl (vaultCommand_accepted hready (by simp) ?_ _),
    fun s h k x hready hk hslot howner => ?_,
    fun s h k x hready hk hslot howner hvalid hentropy => exec_next rfl ?_,
    fun s h k x hready hk hslot howner hvalid hentropy =>
      exec_next rfl (vaultCommand_outcome hready (by simp) ?_ (by decide) _),
    fun s h k x hready hk hslot howner hvalid hroot hlock hlabel => exec_next rfl ?_,
    fun s h k x hready hk hslot howner hvalid hroot hlock hlabel =>
      exec_next rfl (vaultCommand_outcome hready (by simp) ?_ (by decide) _),
    fun s h k x hready hk hslot howner hvalid hroot hcls => exec_next rfl ?_,
    fun s h k x hready hk hslot howner hvalid hto => exec_next rfl ?_,
    fun s h k x hready hk hslot howner hvalid hpers => exec_next rfl ?_,
    fun s h k hready hne => ?_, fun s k x hready hk hslot hvalid hpers => exec_next rfl ?_,
    fun s k x hready hk hslot hpers => exec_next rfl ?_,
    fun s hready hstaged hentropy => exec_next rfl (vaultCommand_accepted hready (by simp) (by simp [hstaged, hentropy]) _),
    stageRoot_staged,
    fun s hready hstaged => exec_next rfl (vaultCommand_accepted hready (by simp) (by simp [hstaged]) _),
    fun s hready hstaged hpend => exec_next rfl (vaultCommand_outcome hready (by simp) (by simp only [hstaged, hpend]; rfl) (by decide) _),
    fun s hready => exec_next rfl (vaultCommand_accepted hready (by simp) rfl _),
    fun s hready hstate hgen hwritten hstaged =>
      exec_next rfl (vaultCommand_accepted hready (by simp) (by simp [hstate, hgen, hwritten, hstaged]) _),
    fun s hready hstate => exec_next rfl (vaultCommand_outcome hready (by simp) (if_pos hstate) (by decide) _),
    fun s h code hready hcode => exec_next rfl (vaultCommand_outcome hready hcode rfl (by decide) _),
    fun s h hmain => exec_next rfl (if_pos hmain)⟩
  · simp [hroot, hk, hempty]
  · simp [hroot, hk, hslot]
  · rw [onSlot_own hk hslot howner]
    simp [hpers, hpend]
  · have hother : ∀ f, onSlot h k f s.dev = 2 := onSlot_other hk hslot howner
    have hderive : ∀ f, (if rootOutcome s.dev ≠ 0 then rootOutcome s.dev else onSlot h k f s.dev) =
        if rootOutcome s.dev = 0 then 2 else rootOutcome s.dev := fun f => by rw [hother, ite_not]
    have hrefused : (if rootOutcome s.dev = 0 then 2 else rootOutcome s.dev) ≠ 0 := by split <;> omega
    refine ⟨exec_next rfl (vaultCommand_outcome hready (by simp) (hother _) (by decide) _),
      exec_next rfl (vaultCommand_outcome (o := 2) hready (by simp) ?_ (by decide) _),
      exec_next rfl (vaultCommand_outcome hready (by simp) (hderive _) hrefused _),
      exec_next rfl (vaultCommand_outcome hready (by simp) (hderive _) hrefused _),
      exec_next rfl (vaultCommand_outcome (o := 2) hready (by simp) ?_ (by decide) _),
      exec_next rfl (vaultCommand_outcome hready (by simp) (hother _) (by decide) _)⟩
    · exact hother _
    · exact hother _
  · rw [kvRandomEffect, vaultCommand_accepted hready (by simp) (by rw [onSlot_own hk hslot howner]; simp [hvalid, hentropy]),
      modSlotKv_of hslot]
  · rw [onSlot_own hk hslot howner]
    simp [hvalid, hentropy]
  · rw [kvRootDeriveEffect, vaultCommand_accepted hready (by simp)
      (by rw [onSlot_own hk hslot howner]; simp [hroot, hvalid, hlock, hlabel, rootLabel])]
    simp only [hlabel, rootLabel, modSlotKv_of hslot]
    rfl
  · rw [onSlot_own hk hslot howner]
    simp [hroot, hvalid, hlock, hlabel]
  · have hallowed : ¬ (field (kvArg s.dev h) 0 16 = 1 ∧ s.dev.kv.rootLock = true) := by
      rcases hcls with hne | hopen
      · simp [hne]
      · simp [hopen]
    rw [kvLadderDeriveEffect, vaultCommand_accepted hready (by simp)
      (by rw [onSlot_own hk hslot howner]; simp [hroot, hvalid, hallowed]), modSlotKv_of hslot]
  · rw [kvTransferEffect, vaultCommand_accepted hready (by simp) (by rw [onSlot_own hk hslot howner]; simp [hvalid, hto]),
      modSlotKv_of hslot]
  · rw [kvRestrictEffect, vaultCommand_accepted hready (by simp) (by rw [onSlot_own hk hslot howner]; simp [hvalid, hpers]),
      modSlotKv_of hslot]
  · refine ⟨exec_next rfl (vaultCommand_refused hready _ _ _ ?_), exec_next rfl (vaultCommand_refused hready _ _ _ ?_),
      exec_next rfl (vaultCommand_refused hready _ _ _ ?_), exec_next rfl (vaultCommand_refused hready _ _ _ ?_),
      exec_next rfl (vaultCommand_refused hready _ _ _ ?_), exec_next rfl (vaultCommand_refused hready _ _ _ ?_)⟩ <;>
      simp [hne]
  · rw [kvStageInstallEffect, vaultCommand_accepted hready (by simp) (anySlot_of hk hslot _ (by simp [hvalid, hpers])),
      modSlotKv_of hslot]
  · rw [kvStageRetireEffect, vaultCommand_accepted hready (by simp) (anySlot_of hk hslot _ hpers), modSlotKv_of hslot]

/-! ### Tamper alarms and entropy health -/

/-- An alarm with main power down: BBRAM is cleared and the alarm recorded in the ring (R341, R345). -/
theorem tamperAlarm_down {d : Device} (hdown : mainUp d = false) (n : Nat) : ∃ ps, tamperAlarm n d =
    lastGasp 0x0401 6 ps { d with bat := tamperClear n (powerCode d) (nowTs d) d.bat, lg := { d.lg with tamperSeen := true } } := by
  refine ⟨[n, (tamperClear n (powerCode d) (nowTs d) d.bat).latch, powerCode d, lcCode d, liveEpoch d], ?_⟩
  simp only [tamperAlarm, hdown, Bool.false_eq_true, if_false]

/-- What an alarm clears and latches in the battery domain (R341). -/
theorem tamperClear_latches (n code ts : Nat) (b : Battery) :
    hasBit (tamperClear n code ts b).latch n = true ∧ (tamperClear n code ts b).reseed = zeros 128 ∧
    (tamperClear n code ts b).alarms = satAdd 16 b.alarms 1 ∧ (∀ i < 2, vget (tamperClear n code ts b).roots i = {}) := by
  refine ⟨hasBit_setBit .., rfl, rfl, fun i hi => ?_⟩
  simp [tamperClear, vget, hi]

/-- A sensor that does not run shows nothing (R339). -/
theorem tamperAlarmEffect_stopped {d : Device} {n : Sensor} (h : sensorRuns d n = false) (on : Bool) :
    tamperAlarmEffect n on d = d := if_pos (by simp [h])

/-- Settles O37, clause by clause: alarms with main power and without, live conditions, and the entropy source. -/
theorem tamperAndEntropy : Obligations.TamperAndEntropy := by
  unfold Obligations.TamperAndEntropy
  refine ⟨fun s n hruns hen => exec_next rfl ((tamperAlarmEffect_begin hruns).trans (if_pos hen)),
    fun s n hruns hdown hen => ⟨_, exec_next rfl ((tamperAlarmEffect_begin hruns).trans (if_pos hen)), ?_⟩,
    tamperClear_latches, fun s n hruns hdis => exec_next rfl ((tamperAlarmEffect_begin hruns).trans (if_neg (by simp [hdis]))),
    fun s n hruns => exec_next rfl (tamperAlarmEffect_end hruns),
    fun s n on hstop => exec_same rfl (tamperAlarmEffect_stopped hstop on),
    fun d hvbd n => by simp [sensorRuns, hvbd], fun s test hup => exec_next rfl (if_pos hup),
    fun s hup => exec_next rfl (if_pos hup)⟩
  obtain ⟨ps, heq⟩ := tamperAlarm_down (d := { s.dev with sensorLive := setBit s.dev.sensorLive n }) hdown n
  dsimp only
  rw [heq]
  simp [tamperClear]

end Sys2Proof.Machine
end

section
/-! PROOFS. The boot ledger (spec/14_ream_and_event_recorder.md, R397–R413): submissions, storage, acknowledgements. -/

namespace Sys2Proof.Machine

open Sys2Proof

/-! ### Commands of the harts -/

/-- A command of hart 3 reaches the LG (R402). -/
theorem lgCommand_hart3 {d : Device} (hmay : MayWrite d 3 10) (addr cmd : Nat) (f : Device → Device) :
    lgCommand 3 addr cmd f d = f d := hartWrite_may hmay ..

/-- Another hart's is refused with outcome 20 (R402). -/
theorem lgCommand_other {d : Device} {h : Hart} (hmay : MayWrite d h 10) (hne : h ≠ 3) (addr cmd : Nat) (f : Device → Device) :
    lgCommand h addr cmd f d = lgResult (if cmd = 0 then d.lg.lastCmd else cmd) 20 d :=
  (hartWrite_may hmay ..).trans (if_neg (fun e => hne (Fin.ext e)))

/-- A busy ledger refuses a submission with outcome 19 (R407). -/
theorem submitSheet_busy {d : Device} (hjobs : d.lg.jobs ≠ []) (a : Nat) : submitSheet a d = lgResult 1 19 d :=
  if_pos (by simp [lgBusy, hjobs])

section
variable {d : Device} (hjobs : d.lg.jobs = []) (hrecovered : d.lg.recovered = true) (a : Nat)
include hjobs hrecovered

/-- A sheet that passes the checks is accepted at the offered position (R404). -/
theorem submitSheet_accepted {p : Nat} {o : Bool} (hcheck : submitOutcome d a = 0) (hoffer : offeredPosition d = some (p, o)) :
    submitSheet a d = acceptSheet (memRead d.mem a 0x2000) p o (lgResult 1 0 d) := by
  rw [submitSheet, if_neg (by simp [lgBusy, hjobs, hrecovered])]
  simp only [hcheck, hoffer]

/-- One that fails is refused with the outcome of its check; a full ream is noted (R402, R410). -/
theorem submitSheet_refused (h : submitOutcome d a ≠ 0 ∨ offeredPosition d = none) :
    submitSheet a d = (if submitOutcome d a = 7 then reamFullEvent else id)
      (lgResult 1 (submitOutcome d a) (sheetRefused (memRead d.mem a 0x2000) (submitOutcome d a) d)) := by
  rw [submitSheet, if_neg (by simp [lgBusy, hjobs, hrecovered])]
  dsimp only
  split
  · rename_i hcheck hoffer
    rcases h with h | h
    · exact absurd hcheck h
    · simp [h] at hoffer
  · split <;> rfl

end

/-- An acknowledgement that a hart hands over waits to be served (R407, R408). -/
theorem hartAck_waits {d : Device} (hjobs : d.lg.jobs = []) (hrecovered : d.lg.recovered = true) (n : Nat) (g : List Byte) :
    hartAck 0x18 n g d = modLg (fun l => { l with jobs := [.ack 0x18 n g] }) (lgResult 2 0 d) := by
  simp [hartAck, lgBusy, hjobs, hrecovered, modLg, lgResult]

/-! ### Hosts -/

section
variable {d : Device} {ld : Ld} (hup : cxlUp d = true)
include hup

/-- A host's acknowledgement waits to be served (R407, R409). -/
theorem hostPageAckEffect_waits (hrecovered : d.lg.recovered = true) (hbusy : (ldOf d ld).ackBusy = false) (v : Word) :
    hostPageAckEffect ld v d = modLg (fun g => { g with jobs := g.jobs ++ [.ack ld v.toNat (ldOf d ld).expDig] })
      (modLd ld (fun l => { l with ackBusy := true }) d) := by
  simp [hostPageAckEffect, hup, hrecovered, hbusy]

/-- A second one while the first waits has outcome 19 (R409). -/
theorem hostPageAckEffect_busy (hbusy : (ldOf d ld).ackBusy = true) (v : Word) :
    hostPageAckEffect ld v d = modLd ld (fun l => { l with ackOutcome := 19 }) d := by
  simp [hostPageAckEffect, hup, hbusy]

end

/-- The check of an acknowledgement of a stored sheet: its domain, then its digest (R407). -/
theorem checkAck_stored {m : Memory} {bad : List Nat} {n p : Nat} (h : positionOf m bad n = some p) (mask : Nat) (g : List Byte) :
    checkAck m bad mask n g = if !mask.testBit (sheetBd m p) then 16 else if (sheetDigest m p).take 8 != g then 18 else 0 := by
  unfold checkAck
  rw [h]

/-! ### Recovery -/

/-- The recovery of a ream without a sheet (R406). -/
theorem reamRecoveredEffect_empty {d : Device} (hmain : mainRuns d = true) (hload : d.kv.loadDone = true)
    (hrecovered : d.lg.recovered = false) (hempty : heldPositions d.mem = []) :
    reamRecoveredEffect true d = lgSettle (modLg (recoverReam d.mem true) d) := by
  simp [reamRecoveredEffect, hmain, hload, hrecovered, hempty, highestSheet]

/-- Settles O38, clause by clause: submissions, their storage, acknowledgements of harts and hosts, and recovery. -/
theorem bootLedger : Obligations.BootLedger := by
  unfold Obligations.BootLedger
  refine ⟨fun s v hmay hjobs hrecovered => exec_next rfl ((lgCommand_hart3 hmay ..).trans ?_),
    fun s v hmay hjobs => exec_next rfl ((lgCommand_hart3 hmay ..).trans (submitSheet_busy hjobs _)),
    fun s h v hmay hne => ⟨exec_next rfl (lgCommand_other hmay hne ..), exec_next rfl (lgCommand_other hmay hne ..),
      exec_next rfl (lgCommand_other hmay hne ..)⟩,
    fun b p o d => ⟨rfl, rfl, rfl, rfl, rfl⟩,
    fun s p b prior pn pd pl pt tl hmain hjobs => ⟨exec_next rfl ?_, exec_next rfl ?_⟩,
    fun s v hmay hgo haid hjobs hrecovered => exec_next rfl ((lgCommand_hart3 hmay ..).trans ?_),
    fun s v hmay hgo => exec_same rfl ((lgCommand_hart3 hmay ..).trans (by simp [hgo])),
    fun s v hmay => exec_next rfl (lgCommand_hart3 hmay ..),
    fun s ld v hup hrecovered hbusy => exec_next rfl (hostPageAckEffect_waits hup hrecovered hbusy v),
    fun s ld v hup hbusy => exec_next rfl (hostPageAckEffect_busy hup hbusy v),
    fun s a n g tl hmain hjobs => exec_next rfl ?_,
    fun m bad mask n g p => ⟨fun hnone => ?_, fun hsome hmask => ?_, fun hsome hmask hdig => ?_, fun hsome hmask hdig => ?_⟩,
    fun s hmain hload hrecovered hempty => exec_next rfl (reamRecoveredEffect_empty hmain hload hrecovered hempty)⟩
  · split
    · rename_i hcheck hoffer
      exact submitSheet_accepted hjobs hrecovered _ hcheck hoffer
    · rename_i hcheck
      rw [submitSheet_refused hjobs hrecovered _ (.inl (by simp [hcheck])), hcheck, if_pos rfl]
    · rename_i hfull hacc
      rw [submitSheet_refused hjobs hrecovered, if_neg hfull, id]
      exact Classical.or_iff_not_imp_left.mpr (fun hcheck => Option.eq_none_iff_forall_ne_some.mpr
        (fun q hoffer => hacc q.1 q.2 (Classical.not_not.mp hcheck) hoffer))
  · simp [sheetStoredEffect, hmain, hjobs]
  · simp [sheetStoredEffect, hmain, hjobs]
  · rw [if_pos hgo, haid]
    exact hartAck_waits hjobs hrecovered ..
  · simp [ackServedEffect, hmain, hjobs]
  · unfold checkAck
    rw [hnone]
  · simp [checkAck_stored hsome, hmask]
  · simp [checkAck_stored hsome, hmask, hdig]
  · simp [checkAck_stored hsome, hmask, hdig]

end Sys2Proof.Machine
end

section
/-! PROOFS. The event recorder (spec/14_ream_and_event_recorder.md, R415–R428): arrival, the log, its clearing and its
recovery. -/

namespace Sys2Proof.Machine

open Sys2Proof

/-! ### Arrival -/

/-- An event while the main core is up goes to the recorder (R420). -/
theorem arriveEvent_up {d : Device} (hup : mainUp d = true) (hsurvivor : d.ev.noSurvivor = false) (hart : Bool)
    (code aid sev : Nat) (ps : List Nat) :
    arriveEvent hart code aid sev ps d = { d with ev := arrive (evEnv d) hart code aid sev ps d.ev } := by
  simp [arriveEvent, hup, hsurvivor]

/-- One while it is down is no event (R420). -/
theorem arriveEvent_down {d : Device} (hdown : mainUp d = false) (hart : Bool) (code aid sev : Nat) (ps : List Nat) :
    arriveEvent hart code aid sev ps d = d := if_pos (by simp [hdown])

/-- A token taken from a bucket leaves the queue and what waits for it. -/
@[simp] theorem setTaken_frame (r : Recorder) (code n : Nat) : (setTaken r code n).queue = r.queue ∧
    (setTaken r code n).stalled = r.stalled ∧ (setTaken r code n).queueLost = r.queueLost := ⟨rfl, rfl, rfl⟩

/-- With no suppressed code counted there is none to summarise (R421). -/
theorem summarise_none {r : Recorder} (h : r.suppress = []) (env : EvEnv) (code : Nat) : summarise env code r = r := by
  simp [summarise, h]

section
variable {r : Recorder} (hopen : logShut r = false) (hsuppress : r.suppress = []) {env : EvEnv} {code : Nat}
include hopen hsuppress

/-- An event without a token is suppressed and counted (R421). -/
theorem arrive_suppressed (htoken : hasToken env.rates r code = false) (hart : Bool) (aid sev : Nat) (ps : List Nat) :
    arrive env hart code aid sev ps r = summariseShared env (suppressEvent env.now code r) := by
  simp [arrive, hopen, summarise_none hsuppress, htoken]

variable (htoken : hasToken env.rates r code = true)
include htoken

/-- An event with a token enters a queue that has room (R422). -/
theorem arrive_queued (hroom : r.queue.length < 32) (hart : Bool) (aid sev : Nat) (ps : List Nat) :
    arrive env hart code aid sev ps r =
      enqueue { ts := env.now, code := code, aid := aid, sev := sev, flags := 0, params := ps }
        (setTaken r code (takenOf r code + tokenUnits)) := by
  simp [arrive, hopen, summarise_none hsuppress, htoken, queueRoom, setTaken, hroom]

/-- At a full queue a hart's post stalls, and any other event is lost and counted (R422). -/
theorem arrive_full (hfull : 32 ≤ r.queue.length) (hart : Bool) (aid sev : Nat) (ps : List Nat) :
    arrive env hart code aid sev ps r = if hart then
      { setTaken r code (takenOf r code + tokenUnits) with
        stalled := r.stalled ++ [{ ts := env.now, code := code, aid := aid, sev := sev, flags := 0, params := ps }] }
    else loseEvent env.now code (setTaken r code (takenOf r code + tokenUnits)) := by
  simp [arrive, hopen, summarise_none hsuppress, htoken, queueRoom, setTaken, Nat.not_lt.mpr hfull]

end

/-- A post of stage firmware with a code of its range arrives (R33, R416). -/
theorem evPostEffect_posts {d : Device} {h : Hart} {v : Word} (hmay : MayWrite d h 9) (hattached : attached d = true)
    (hcode : 0x0100 ≤ field v 0 16 ∧ field v 0 16 ≤ 0x0FFF) : evPostEffect h v d =
      arriveEvent true (field v 0 16) (0x10 + h) (if 6 < field v 16 4 then 4 else field v 16 4) (postParams d h) d :=
  (hartWrite_may hmay ..).trans (if_pos (by simp [hattached, within, hcode]))

/-- Without stage firmware, or outside that range, there is no post (R33, R416). -/
theorem evPostEffect_none {d : Device} {h : Hart} {v : Word} (hmay : MayWrite d h 9)
    (hnone : attached d = false ∨ field v 0 16 < 0x0100 ∨ 0x0FFF < field v 0 16) : evPostEffect h v d = d := by
  refine (hartWrite_may hmay ..).trans (if_neg ?_)
  simp only [Bool.and_eq_true, within, decide_eq_true_eq]
  rintro ⟨hattached, hlow, hhigh⟩
  rcases hnone with h | h | h
  · simp [h] at hattached
  · omega
  · omega

/-! ### The log -/

section
variable {d : Device} (hrecording : recording d = true) (hqueue : d.ev.queue ≠ [])
  (hbroken : rangeBroken (noteStore (recordAddr d.ev.nextIndex) 64 d) (recordAddr d.ev.nextIndex) 64 = false)
include hrecording hqueue hbroken

/-- A read-back that fails degrades the log (R427, R428). -/
theorem recordWriteDoneEffect_fails : recordWriteDoneEffect false d =
    degradeLog (64 * d.ev.nextIndex) (noteStore (recordAddr d.ev.nextIndex) 64 d) := by
  simp [recordWriteDoneEffect, hrecording, hqueue, hbroken]

/-- The front of the queue is written and read back (R418). -/
theorem recordWriteDoneEffect_writes : recordWriteDoneEffect true d =
    readErrors (recordAddr d.ev.nextIndex) 64 (afterWrite (logWritten
      (writeFront (evEnv (noteStore (recordAddr d.ev.nextIndex) 64 d)) d.mem d.ev)
      (noteStore (recordAddr d.ev.nextIndex) 64 d))) := by
  simp [recordWriteDoneEffect, hrecording, hqueue, hbroken]

end

/-- The sequence number after one that is not skipped (R418). -/
theorem nextSeq_below {n : Nat} (h : n < 0xFFFFFFFE) : nextSeq n = n + 1 := if_neg (Nat.not_le.mpr h)

/-- 0xFFFFFFFF is skipped (R418). -/
theorem nextSeq_skips : nextSeq 0xFFFFFFFE = 0 := if_pos (Nat.le_refl _)

/-! ### Clearing -/

/-- A clear during another one, or before recovery, is Busy (R424). -/
theorem clearRequest_busy {d : Device} (h : d.ev.clearing.isSome = true ∨ d.ev.recovering = true) (aid n : Nat) :
    clearRequest d aid n = 3 := if_pos (by simpa using h)

/-- One of an agent without a rights record is refused (R424). -/
theorem clearRequest_noRights {d : Device} {aid : Nat} (hclearing : d.ev.clearing = none) (hrecovering : d.ev.recovering = false)
    (hrights : rightsNow d aid = none) (n : Nat) : clearRequest d aid n = 1 := by
  simp [clearRequest, hclearing, hrecovering, hrights]

/-! ### Recovery -/

/-- Recovery of the log (R425, R426). -/
theorem recorderRecoveredEffect_recovers {d : Device} (hmain : mainRuns d = true) (hload : d.kv.loadDone = true)
    (hrecovering : d.ev.recovering = true) (hflipped : d.flipped = []) : recorderRecoveredEffect d =
      let e := resumeTime (logWritten (recoverLog d.mem d.ev) d)
      recordSpans (afterWrite (logWritten (carryRing (evEnv e) e.bat (e.mem, e.ev)) e)) := by
  rw [recorderRecoveredEffect, if_neg (by simp [hmain, hload, hrecovering]), readErrors_clean hflipped]

/-- Settles O39, clause by clause: arrival, the log, its clearing and its recovery. -/
theorem events_holds : Obligations.Events := by
  unfold Obligations.Events
  refine ⟨fun s code sev aid ps haid hup hsurvivor => exec_next rfl ((if_pos haid).trans (arriveEvent_up hup hsurvivor ..)),
    fun s code sev aid ps hnone => exec_same rfl ?_,
    fun s h v hmay hattached hlow hhigh => exec_next rfl (evPostEffect_posts hmay hattached ⟨hlow, hhigh⟩),
    fun s h v hmay hnone => exec_same rfl (evPostEffect_none hmay hnone),
    fun env hart code aid sev ps r hshut => if_pos (by simpa [logShut] using hshut),
    fun env hart code aid sev ps r hopen hsuppress htoken => arrive_suppressed hopen hsuppress htoken ..,
    fun r hsurvivor h => ?_,
    fun env hart code aid sev ps r hopen hsuppress htoken hroom => ?_,
    fun env code aid sev ps r hopen hsuppress htoken hfull => ?_,
    fun s hrecording hqueue hbroken => exec_next rfl (recordWriteDoneEffect_fails hrecording hqueue hbroken),
    fun s hrecording hqueue hbroken => exec_next rfl (recordWriteDoneEffect_writes hrecording hqueue hbroken),
    fun s hnone => exec_same rfl (if_pos (by simpa using hnone)),
    fun env e m r => ⟨rfl, rfl⟩, fun j b m => ⟨rfl, rfl⟩, fun n hn => nextSeq_below hn, nextSeq_skips,
    fun d aid n h => clearRequest_busy h aid n,
    fun d aid n hclearing hrecovering hrights => clearRequest_noRights hclearing hrecovering hrights n,
    fun s ld v hup => exec_next rfl (if_neg (by simp [hup])),
    fun s v hmay hgo => exec_next rfl ((onlyHart_may hmay ..).trans ((if_pos rfl).trans (if_pos hgo))),
    fun s v hmay hgo => exec_same rfl ((onlyHart_may hmay ..).trans ((if_pos rfl).trans (if_neg (by simp [hgo])))),
    fun s aid hmain hclearing => exec_next rfl ?_,
    fun s hclearing => exec_same rfl (by simp only [eventLogClearDoneEffect, hclearing]),
    fun s hmain hload hrecovering hflipped => exec_next rfl (recorderRecoveredEffect_recovers hmain hload hrecovering hflipped)⟩
  · rcases hnone with hdown | haid
    · unfold eventArrivalEffect
      split
      · exact arriveEvent_down hdown ..
      · rfl
    · exact if_neg (by simp [haid])
  · rcases h with h | h
    · simp [logShut, hsurvivor, h]
    · obtain ⟨aid, haid⟩ := Option.isSome_iff_exists.mp h
      simp [logShut, hsurvivor, haid]
  · rw [arrive_queued hopen hsuppress htoken hroom]
    simp [enqueue]
  · rw [arrive_full hopen hsuppress htoken hfull, arrive_full hopen hsuppress htoken hfull, if_pos rfl, if_neg (by decide)]
    simp [loseEvent]
  · simp only [eventLogClearDoneEffect, hclearing]
    exact if_neg (by simp [hmain])

end Sys2Proof.Machine
end

section
/-! PROOFS. The CXL link, the resets of the port and of an LD, HDM decoders (spec/15_cxl_host_port.md, R431–R458). -/

namespace Sys2Proof.Machine

open Sys2Proof

/-! ### The link -/

section
variable {d : Device} {rate width : Nat} {w64 : Option Nat} (hmain : mainRuns d = true) (hperst : d.pins.cxPerst = false)
  (htraining : d.cx.training = true) (hrestarting : d.cx.restarting = false) (hrate : within 1 5 rate = true)
  (hwidth : width = 1 ∨ width = 2 ∨ width = 4 ∨ width = 8)
include hmain hperst htraining hrestarting hrate hwidth

/-- Training that may complete: its conditions hold (R431). -/
theorem linkUp_conditions : (!mainRuns d || d.pins.cxPerst || !d.cx.training || d.cx.restarting || !within 1 5 rate ||
    !([1, 2, 4, 8].contains width)) = false := by
  rcases hwidth with rfl | rfl | rfl | rfl <;> simp [hmain, hperst, htraining, hrestarting, hrate]

/-- Training ends in a link where the port accepts CXL or W64 (R431, R455). -/
theorem linkUpEffect_links {cxl : Bool} (haccept : cxl = true ∨ w64.any (acceptsW64 d) = true) :
    linkUpEffect rate width cxl w64 d =
      let active := w64.any (acceptsW64 d) && rate == 5 && width == 8
      let r := if active then 5 else min rate 4
      event 0x0C01 1 [r, width, flag active, 0]
        (modCx (fun c => { c with linkUp := true, training := false, rate := r, width := width, cxl := true, w64Active := active })
          (modCx (fun c => { c with w64Offered := w64.any (fun x => hasBit x 0) }) d)) := by
  rw [linkUpEffect, if_neg (Bool.eq_false_iff.mp (linkUp_conditions hmain hperst htraining hrestarting hrate hwidth))]
  exact if_neg (by rcases haccept with h | h <;> simp [h])

/-- Where it accepts neither, the link stays in Detect (R455). -/
theorem linkUpEffect_detect (hnone : w64.any (acceptsW64 d) = false) : linkUpEffect rate width false w64 d =
    event 0x0C02 2 [4, committedLds d, 0, 0] (modCx (fun c => { c with w64Offered := w64.any (fun x => hasBit x 0) }) d) := by
  rw [linkUpEffect, if_neg (Bool.eq_false_iff.mp (linkUp_conditions hmain hperst htraining hrestarting hrate hwidth))]
  exact if_pos (by simp [hnone])

end

/-- A proposal that misses one of the conditions of R455 is not accepted. -/
theorem acceptsW64_false {d : Device} {x : Nat} (h : d.cx.w64Enable = false ∨ d.cx.w64FellBack = true ∨ x / 16 % 16 ≠ 1 ∨
    hasBit x 0 = false ∨ hasBit x 1 = false ∨ hasBit x 2 = false ∨ hasBit x 3 = true) : acceptsW64 d x = false := by
  rcases h with h | h | h | h | h | h | h <;> simp [acceptsW64, h]

/-- A conventional reset leaves the link down and as it is before training (R432). -/
theorem conventionalReset_link (cause : Nat) (retrain : Bool) (d : Device) :
    (conventionalReset cause retrain d).cx.linkUp = false ∧ (conventionalReset cause retrain d).cx.training = retrain ∧
    (conventionalReset cause retrain d).cx.w64Active = false ∧ (conventionalReset cause retrain d).cx.w64FellBack = false ∧
    (conventionalReset cause retrain d).mem = d.mem := by
  simp only [conventionalReset_kept, and_true]
  exact ⟨rfl, rfl, rfl, rfl⟩

section
variable {d : Device} {block : List Byte} (hup : cxlUp d = true) (hactive : d.cx.w64Active = true)
include hup hactive

/-- A block that decodes is counted and held (R457). -/
theorem w64BlockReceivedEffect_taken {bs : List Nat} {n : Nat} (hdecode : decodeBlock block = some (bs, n)) :
    w64BlockReceivedEffect block d = reply (blockSymbols (sentBlock d.cx.w64TxSeq)) (modCx (fun c => { c with
      corrected := satAdd 16 c.corrected n, w64RxSeq := blockSeq bs, w64Flits := if blockType bs = 1 then blockFlits bs else c.w64Flits,
      w64TxSeq := (c.w64TxSeq + 1) % 0x4000 }) d) := by
  rw [w64BlockReceivedEffect, if_neg (by simp [hup, hactive])]
  simp only [hdecode, modCx, blockTaken]

/-- One that does not is discarded (R457). -/
theorem w64BlockReceivedEffect_discarded (hdecode : decodeBlock block = none) :
    w64BlockReceivedEffect block d = reply (blockSymbols (sentBlock d.cx.w64TxSeq)) (modCx (fun c => { c with
      discarded := satAdd 16 c.discarded 1, recentDiscards := c.recentDiscards + 1, w64TxSeq := (c.w64TxSeq + 1) % 0x4000 }) d) := by
  rw [w64BlockReceivedEffect, if_neg (by simp [hup, hactive])]
  simp only [hdecode, modCx]

end

/-! ### Logical devices -/

/-- The registers of an LD after its reset: no command runs, no data object waits, the decoder is gone after a
conventional reset alone (R453). -/
theorem ldReset_registers (ld : Ld) (cause : Nat) (d : Device) : ∃ started l,
    ldOf (ldReset ld cause d) ld = ldRegisters (cause == 4) started l := by
  unfold ldReset
  dsimp only
  exact ⟨_, _, (event_same (fun e => ldOf e ld) (fun _ _ _ => rfl) ..).trans (ldOf_modLd ..)⟩

section
variable {d : Device} {ld : Ld} {base size iw ig skip : Nat} (hup : cxlUp d = true) (hcommitted : (ldOf d ld).decCommitted = false)
include hup hcommitted

/-- A decoder commits with a window that R438 allows. -/
theorem hdmDecoderCommitEffect_commits (hallocated : (ldOf d ld).allocated = true) (hbase : base % 0x10000000 = 0) (lock : Bool) :
    hdmDecoderCommitEffect ld base 0x10000000 0 ig 0 lock d = modLd ld (fun x => { x with
      decCommitted := true, decLocked := lock, decError := false, decBase := base, decIg := ig % 16 }) d := by
  simp [hdmDecoderCommitEffect, hup, hcommitted, hallocated, hbase]

/-- With any other it records its error (R438). -/
theorem hdmDecoderCommitEffect_error
    (hbad : (ldOf d ld).allocated = false ∨ base % 0x10000000 ≠ 0 ∨ size ≠ 0x10000000 ∨ iw ≠ 0 ∨ skip ≠ 0) (lock : Bool) :
    hdmDecoderCommitEffect ld base size iw ig skip lock d = event 0x0C08 3 [ld, base, size, iw]
      (modLd ld (fun x => { x with decCommitted := false, decError := true }) d) := by
  rw [hdmDecoderCommitEffect, if_neg (by simp [hup, hcommitted])]
  exact if_neg (by rcases hbad with h | h | h | h | h <;> simp [h])

end

/-- Settles O40, clause by clause: training, resets of the port, blocks, resets of an LD and its decoder. -/
theorem cxlLinkAndLogicalDevices : Obligations.CxlLinkAndLogicalDevices := by
  unfold Obligations.CxlLinkAndLogicalDevices
  refine ⟨fun s rate width cxl w64 hmain hperst htraining hrestarting hrate hwidth haccept => ⟨_, exec_next rfl
      (linkUpEffect_links hmain hperst htraining hrestarting hrate hwidth haccept), ?_⟩,
    fun s rate width w64 hmain hperst htraining hrestarting hrate hwidth hnone => exec_next rfl
      (linkUpEffect_detect hmain hperst htraining hrestarting hrate hwidth hnone),
    fun d x h => acceptsW64_false h,
    fun s hmain hperst => exec_next rfl (if_neg (by simp [hmain, hperst])),
    fun s hmain hlink => ⟨exec_next rfl (if_pos (by simp [hmain, hlink])), exec_next rfl (if_pos (by simp [hmain, hlink]))⟩,
    fun s hlink => ⟨exec_same rfl (if_neg (by simp [hlink])), exec_same rfl (if_neg (by simp [hlink]))⟩,
    fun d cause retrain => conventionalReset_link cause retrain d,
    fun s block bs n hup hactive hdecode => exec_next rfl (w64BlockReceivedEffect_taken hup hactive hdecode),
    fun s block hup hactive hdecode => exec_next rfl (w64BlockReceivedEffect_discarded hup hactive hdecode),
    fun s n c hup hactive hn => exec_next rfl (if_neg (by simp [hup, hactive, hn])),
    fun s n c hn => exec_same rfl (if_pos (by simp [hn])),
    fun s ld hup => exec_next rfl (if_pos hup), fun s ld v hup hgo => exec_next rfl (if_pos (by simp [hup, hgo])),
    fun s ld v hgo => exec_same rfl (if_neg (by simp [hgo])), fun s mask hup => exec_next rfl (if_pos hup),
    fun ld cause d => ?_,
    fun s ld base ig lock hup hcommitted hallocated hbase => exec_next rfl
      (hdmDecoderCommitEffect_commits hup hcommitted hallocated hbase lock),
    fun s ld base size iw ig skip lock hup hcommitted hbad => exec_next rfl
      (hdmDecoderCommitEffect_error hup hcommitted hbad lock),
    fun s ld base size iw ig skip lock hcommitted hlocked => exec_same rfl (if_pos (by simp [hcommitted, hlocked]))⟩
  · simp [modCx]
  · obtain ⟨started, l, hl⟩ := ldReset_registers ld cause d
    simp only [ldReset_kept, and_true, hl]
    exact ⟨rfl, rfl, rfl, rfl, fun hc => by simp [ldRegisters, hc]⟩

end Sys2Proof.Machine
end

section
/-! PROOFS. Host memory and staging sessions (spec/03_address_map.md, R103–R106; spec/15_cxl_host_port.md, R439–R445). -/

namespace Sys2Proof.Machine

open Sys2Proof

/-! ### Host reads and writes -/

/-- A word that is neither poisoned nor stored flipped can be read (R574). -/
theorem wordLost_clean {d : Device} (hpoisoned : d.is_.poisoned = []) (hflipped : d.flipped = []) (a : Nat) :
    wordLost d a = false := by
  simp [wordLost, rangePoisoned, rangeBroken, hpoisoned, hflipped]

section
variable {d : Device} {ld : Ld} (hup : cxlUp d = true) (hcommitted : (ldOf d ld).decCommitted = true)
include hup hcommitted

/-- A read of an offset that the LD's rights do not cover returns zeros (R104). -/
theorem memRdEffect_hidden {off : Nat} (haddr : viewAddr d ld off = none) :
    memRdEffect ld off d = reply ([1, 3, 0, 0] ++ zeros 64) d := by
  rw [memRdEffect, if_neg (by simp [hup, hcommitted]), haddr]
  rfl

/-- A read of a line whose words can be read returns it (R103, R439). -/
theorem memRdEffect_shown {off a : Nat} (haddr : viewAddr d ld off = some a) (hpoisoned : d.is_.poisoned = [])
    (hflipped : d.flipped = []) : memRdEffect ld off d =
      reply ([1, 3, 0, 0] ++ (List.range 8).flatMap (fun k => memRead d.mem (a + 8 * k) 8)) d := by
  have hline : readLine d a = (List.range 8).flatMap (fun k => memRead d.mem (a + 8 * k) 8) := by
    simp [readLine, wordLost_clean hpoisoned hflipped]
  rw [memRdEffect, if_neg (by simp [hup, hcommitted]), haddr]
  simp only [wordLost_clean hpoisoned hflipped, hline]
  exact readErrors_clean (by simpa using hflipped) ..

/-- A write in the staging window goes into the frame of its stream position (R442). -/
theorem memWrEffect_stored {off f : Nat} (hgranted : stagingGranted d ld = true) (hlow : stagingOffset ≤ off) (hhigh : off < 0xE000000)
    (hframe : writeFrame (ldOf d ld) (off - stagingOffset) = some f) (data : List Byte) (mask : List Bool) :
    memWrEffect ld off data mask d =
      reply [0, 3, 0, 0] (store (frameBase + 0x10000 * f + (off - stagingOffset) % 0x10000)
        (mergeLine (memRead d.mem (frameBase + 0x10000 * f + (off - stagingOffset) % 0x10000) 64) data mask) d) := by
  rw [memWrEffect, if_neg (by simp [hup, hcommitted])]
  simp only [if_pos (And.intro hgranted (And.intro hlow hhigh)), hframe]
  rfl

/-- Any other is dropped (R105, R442). -/
theorem memWrEffect_dropped {off : Nat} (hnone : stagingGranted d ld = false ∨ off < stagingOffset ∨ 0xE000000 ≤ off ∨
    writeFrame (ldOf d ld) (off - stagingOffset) = none) (data : List Byte) (mask : List Bool) :
    memWrEffect ld off data mask d = reply [0, 3, 0, 0] (modLd ld (fun l => { l with viewWriteDrop := true }) d) := by
  have hframe : (if stagingGranted d ld = true ∧ stagingOffset ≤ off ∧ off < 0xE000000
      then writeFrame (ldOf d ld) (off - stagingOffset) else none) = none := by
    split
    · rename_i hin
      obtain ⟨hgranted, hlow, hhigh⟩ := hin
      rcases hnone with h | h | h | h
      · simp [h] at hgranted
      · exact absurd hlow (Nat.not_le.mpr h)
      · exact absurd hhigh (Nat.not_lt.mpr h)
      · exact h
    · rfl
  rw [memWrEffect, if_neg (by simp [hup, hcommitted])]
  simp only [hframe]
  rfl

end

/-- A line with the enabled bytes replaced (R439). -/
theorem getElem?_mergeLine (os ns : List Byte) (es : List Bool) (i : Nat) (ho : i < os.length) (hn : i < ns.length)
    (he : i < es.length) : (mergeLine os ns es)[i]? = if es[i]? = some true then ns[i]? else os[i]? := by
  induction os generalizing ns es i with
  | nil => simp at ho
  | cons o os ih =>
    rcases ns with - | ⟨n, ns⟩
    · simp at hn
    · rcases es with - | ⟨e, es⟩
      · simp at he
      · rcases i with - | i
        · cases e <;> rfl
        · simpa [mergeLine] using ih ns es i (by simpa using ho) (by simpa using hn) (by simpa using he)

/-! ### Sessions -/

section
variable {d : Device} {ld : Ld} {v : Word} (hup : cxlUp d = true) (habort : bit v 30 = false) (hstart : bit v 31 = true)
include hup habort hstart

/-- A Start that passes opens a session (R441). -/
theorem stagingStartEffect_opens (hpass : startOutcome d ld (field v 0 3) (ldOf d ld).stgLen.toNat = 0) :
    stagingStartEffect ld v d = openStaging ld (field v 0 3) (ldOf d ld).stgLen.toNat d := by
  simp [stagingStartEffect, hup, habort, hstart, hpass]

/-- One that does not leaves its outcome (R441). -/
theorem stagingStartEffect_refused (hrefused : startOutcome d ld (field v 0 3) (ldOf d ld).stgLen.toNat ≠ 0) :
    stagingStartEffect ld v d = modLd ld (fun l => { l with
      stgOutcome := startOutcome d ld (field v 0 3) (ldOf d ld).stgLen.toNat,
      stgState := if l.session.isSome then l.stgState else 4 }) d := by
  simp [stagingStartEffect, hup, habort, hstart, hrefused]

end

/-- An MSI changes the LD's pending or sent messages alone (R435). -/
theorem sendMsi_frame {β : Type} (p : LogicalDev → β) (hp : ∀ l x y, p { l with msiPending := x, msiSent := y } = p l)
    (vec : Nat) (l : LogicalDev) : p (sendMsi vec l) = p l := by
  unfold sendMsi
  split
  · rfl
  · split
    · exact hp l _ l.msiSent
    · exact hp l l.msiPending _

/-- A session that ends leaves its outcome (R444, R445). -/
theorem endStaging_ends {d : Device} {ld : Ld} {x : StgSession} (hsession : (ldOf d ld).session = some x) (outcome check : Nat) :
    (ldOf (endStaging ld outcome check d) ld).session = none ∧ (ldOf (endStaging ld outcome check d) ld).stgOutcome = outcome ∧
    (ldOf (endStaging ld outcome check d) ld).stgState = (if outcome = 1 then 3 else 4) := by
  have hld : ∃ l : LogicalDev, ldOf (endStaging ld outcome check d) ld = sendMsi 3 { l with
      session := none, stgState := if outcome = 1 then 3 else 4, stgOutcome := outcome, stgCheck := check, stgBase := x.base } := by
    unfold endStaging
    simp only [hsession]
    exact ⟨_, (event_same (fun e => ldOf e ld) (fun _ _ _ => rfl) ..).trans (ldOf_modLd ..)⟩
  obtain ⟨l, hl⟩ := hld
  rw [hl]
  exact ⟨sendMsi_frame (·.session) (fun _ _ _ => rfl) .., sendMsi_frame (·.stgOutcome) (fun _ _ _ => rfl) ..,
    sendMsi_frame (·.stgState) (fun _ _ _ => rfl) ..⟩

/-- Without a session nothing ends (R445). -/
theorem endStaging_none {d : Device} {ld : Nat} (hnone : (ldOf d ld).session = none) (outcome check : Nat) :
    endStaging ld outcome check d = d := by
  simp only [endStaging, hnone]

/-- A chunk declared in the window is delivered in order (R443). -/
theorem stagingChunkDoneEffect_declared {d : Device} {ld : Ld} {v : Word} {x : StgSession} (hup : cxlUp d = true)
    (hsession : (ldOf d ld).session = some x) (hlow : x.base ≤ field v 0 11) (hhigh : field v 0 11 < x.base + x.slots.length)
    (hnew : x.declared.contains (field v 0 11) = false) (hchunk : field v 0 11 < stagingChunks x) :
    stagingChunkDoneEffect ld v d =
      let r := deliverChunks 1536 ld { x with declared := x.declared ++ [field v 0 11] }
      modCx (fun c => { c with ready := c.ready ++ r.2 })
        (modLd ld (fun l => { l with
          session := some r.1, stgState := if r.1.declared.length = stagingChunks x then 2 else l.stgState }) d) := by
  simp only [stagingChunkDoneEffect, hsession]
  rw [if_neg (by simp only [hup, hlow, hhigh, hnew, Nat.not_le.mpr hchunk]; decide)]
  simp only [decide_eq_true_eq]

/-- A hart pops a chunk that is delivered to it (R443). -/
theorem stagingReadyPopEffect_may {d : Device} {h : Hart} (hmay : MayRead d h) : stagingReadyPopEffect h d =
    match d.cx.ready.find? (fun r => stagingConsumer (sessionKind d r.1) == h.val) with
    | none => replyWord 0 d
    | some r => replyWord (readyWord d r.1 r.2) (modCx (fun c => { c with ready := c.ready.erase r }) d) :=
  if_neg (by simp [hmay.1, hmay.2])

/-- Settles O41, clause by clause: host reads and writes, and staging sessions. -/
theorem hostMemoryAndStaging : Obligations.HostMemoryAndStaging := by
  unfold Obligations.HostMemoryAndStaging
  refine ⟨fun s ld off hup hcommitted haddr => exec_next rfl (memRdEffect_hidden hup hcommitted haddr),
    fun s ld off a hup hcommitted haddr hpoisoned hflipped => exec_next rfl
      (memRdEffect_shown hup hcommitted haddr hpoisoned hflipped),
    fun s ld off data mask hcommitted => ⟨exec_same rfl (if_pos (by simp [hcommitted])), exec_same rfl (if_pos (by simp [hcommitted]))⟩,
    fun s ld off f data mask hup hcommitted hgranted hlow hhigh hframe => exec_next rfl
      (memWrEffect_stored hup hcommitted hgranted hlow hhigh hframe data mask),
    fun s ld off data mask hup hcommitted hnone => exec_next rfl (memWrEffect_dropped hup hcommitted hnone data mask),
    getElem?_mergeLine,
    fun s ld v hup habort hstart hpass => exec_next rfl (stagingStartEffect_opens hup habort hstart hpass),
    fun s ld v hup habort hstart hrefused hsession => ⟨_, exec_next rfl (stagingStartEffect_refused hup habort hstart hrefused),
      ?_, ?_, by simp, by simp [modLd]⟩,
    fun s ld v hup habort hstart => exec_same rfl (by simp [stagingStartEffect, habort, hstart]),
    fun s ld hup => exec_next rfl (if_pos hup),
    fun d ld x outcome check hsession => ?_,
    fun d ld outcome check hnone => endStaging_none hnone outcome check,
    fun s ld v x hup hsession hlow hhigh hnew hchunk => exec_next rfl
      (stagingChunkDoneEffect_declared hup hsession hlow hhigh hnew hchunk),
    fun s ld v hnone => exec_same rfl (by simp only [stagingChunkDoneEffect, hnone]),
    fun s h r hmay hfind => exec_next rfl ((stagingReadyPopEffect_may hmay).trans (by rw [hfind])),
    fun s h hmay hnone => exec_next rfl ((stagingReadyPopEffect_may hmay).trans (by rw [hnone]; rfl)),
    fun s h v n x hmay hgo hholder hsession hkeep => exec_next rfl ((hartWrite_may hmay ..).trans ?_),
    fun s h v hmay hgo => exec_same rfl ((hartWrite_may hmay ..).trans (by simp [hgo])),
    fun s h v x hmay hgo hsession hconsumer => exec_next rfl ((hartWrite_may hmay ..).trans (if_pos ?_)),
    fun s h v hmay hgo => exec_same rfl ((hartWrite_may hmay ..).trans (if_neg (by simp [hgo])))⟩
  · simp
  · simpa using hsession
  · obtain ⟨hnone, houtcome, hstate⟩ := endStaging_ends hsession outcome check
    exact ⟨hnone, houtcome, hstate, by simp⟩
  · simp only [if_pos hgo, hholder, hsession, hkeep]
    rfl
  · simp [hgo, hsession, hconsumer]

end Sys2Proof.Machine
end

section
/-! PROOFS. Data object exchange (spec/15_cxl_host_port.md, R446–R448). -/

namespace Sys2Proof.Machine

open Sys2Proof

/-! ### Little-endian fields of an object -/

/-- The low bytes of a number read back (R5). -/
theorem leNat_leBytes (n v : Nat) : leNat (leBytes n v) = v % 256 ^ n := by
  induction n generalizing v with
  | zero => simp [leBytes, leNat, Nat.mod_one]
  | succ n ih => simp [leBytes, leNat, ih, Nat.pow_succ', Nat.mod_mul]

/-- An object holds its vendor and its type in its first DW (R446). -/
theorem doeObject_header {vendor type : Nat} (hvendor : vendor < 256 ^ 2) (htype : type < 256 ^ 1) (body : List Byte) :
    bufLe (doeObject vendor type body) 0 2 = vendor ∧ bufLe (doeObject vendor type body) 2 1 = type :=
  ⟨(leNat_leBytes 2 vendor).trans (Nat.mod_eq_of_lt hvendor), (leNat_leBytes 1 type).trans (Nat.mod_eq_of_lt htype)⟩

@[simp] theorem length_leBytes (n v : Nat) : (leBytes n v).length = n := by
  induction n generalizing v with
  | zero => rfl
  | succ n ih => simp [leBytes, ih]

/-- The number at the end of a content of one DW reads back at its offset (R446). -/
theorem doeObject_field (vendor type : Nat) {pre : List Byte} {n : Nat} (h : 1 ≤ pre.length + n ∧ pre.length + n ≤ 4) (v : Nat) :
    bufLe (doeObject vendor type (pre ++ leBytes n v)) (pre.length + 8) n = v % 256 ^ n := by
  have hdw : ceilDiv (pre.length + n) 4 = 1 := by unfold ceilDiv; omega
  have hpad : padTo 4 (pre ++ leBytes n v) = pre ++ leBytes n v ++ zeros (4 - (pre.length + n)) := by
    rw [padTo, List.take_of_length_le (by simpa using h.2), List.length_append, length_leBytes]
  simp [doeObject, bufLe, hdw, hpad, leBytes, leNat_leBytes]

/-! ### An object that is answered at once -/

/-- A change of the requester's registers and one more (R447). -/
theorem modWho_modWho (who : Option Ld) (f g : LogicalDev → LogicalDev) (d : Device) :
    modWho who f (modWho who g d) = modWho who (fun l => f (g l)) d := by
  rcases who with - | n
  · rfl
  · exact modLd_modLd ..

/-- The requester's registers after a change of them. -/
theorem whoOf_modWho (who : Option Ld) (f : LogicalDev → LogicalDev) (d : Device) : whoOf (modWho who f d) who = f (whoOf d who) := by
  rcases who with - | n
  · rfl
  · exact ldOf_modLd ..

/-- Answers to objects do not depend on a requester's registers (R446). -/
theorem doeAnswer_modWho (who : Option Ld) (f : LogicalDev → LogicalDev) (aid : Nat) (o : List Byte) (d : Device) :
    hart1Serves (modWho who f d) = hart1Serves d ∧ doeAnswer (modWho who f d) aid o = doeAnswer d aid o := by
  rcases who with - | n <;> exact ⟨rfl, rfl⟩

section
variable {d : Device} {who : Option Ld} (hup : cxlUp d = true) (hserves : hart1Serves d = true)
  (herror : (whoOf d who).doeError = false) (hreq : (whoOf d who).doeReq = none) (hrsp : (whoOf d who).doeRsp = none)
include hup hserves herror hreq hrsp

/-- An object without SPDM that has an answer is answered at once (R447). -/
theorem doeWrite_answered {o r : List Byte} (hlen : o.length ≤ 4096) (hspdm : doeIsSpdm o = false)
    (hanswer : doeAnswer d (whoAid who) o = some r) :
    doeWrite who o d = reply r (modWho who (fun l => doeReady r { l with doeReq := none }) d) := by
  have hfits : ((whoOf d who).doeReq.isSome || (whoOf d who).doeRsp.isSome || decide (4096 < o.length)) = false := by
    simp [hreq, hrsp, hlen]
  obtain ⟨hserves', hanswer'⟩ := doeAnswer_modWho who (fun x => { x with doeReq := some o }) (whoAid who) o d
  simp only [doeWrite, hup, herror, hfits, answerDoe, whoOf_modWho, hserves', hserves, hspdm, hanswer', hanswer,
    modWho_modWho, Bool.not_true, Bool.or_false, Bool.false_eq_true, if_false]

/-- An object of Discovery, CDAT or the warden protocol with a content of one DW (R446). -/
theorem doeWrite_object {vendor type : Nat} {body r : List Byte} (hvendor : vendor < 256 ^ 2) (htype : type < 256 ^ 1)
    (hkind : vendor = 1 → type ≠ 1) (hbody : 1 ≤ body.length ∧ body.length ≤ 4)
    (hanswer : doeAnswer d (whoAid who) (doeObject vendor type body) = some r) :
    doeWrite who (doeObject vendor type body) d = reply r (modWho who (fun l => doeReady r { l with doeReq := none }) d) := by
  obtain ⟨hv, ht⟩ := doeObject_header hvendor htype body
  refine doeWrite_answered hup hserves herror hreq hrsp ?_ ?_ hanswer
  · have hdw : ceilDiv body.length 4 = 1 := by unfold ceilDiv; omega
    simp [doeObject, hdw, padTo, zeros, leBytes]
    omega
  · simpa [doeIsSpdm, hv, ht] using hkind

end

/-- The answers of Discovery, CDAT and the warden protocol to their objects (R446–R448). -/
theorem doeAnswer_discovery (d : Device) (aid : Nat) {i : Nat} (h : i < 256) :
    doeAnswer d aid (doeObject 0x0001 0x00 (leBytes 1 i)) = some (doeObject 0x0001 0x00 (discoveryObject i)) := by
  have hfield : bufLe (doeObject 0x0001 0x00 (leBytes 1 i)) 8 1 = i :=
    (doeObject_field _ _ (pre := []) (by decide) i).trans (Nat.mod_eq_of_lt h)
  obtain ⟨hv, ht⟩ := doeObject_header (vendor := 0x0001) (type := 0x00) (by decide) (by decide) (leBytes 1 i)
  simp only [doeAnswer, hv, ht, hfield]

theorem doeAnswer_cdat (d : Device) (aid : Nat) {e : Nat} (h : e < 65536) :
    doeAnswer d aid (doeObject 0x1E98 0x02 ([0, 0] ++ leBytes 2 e)) = some (doeObject 0x1E98 0x02 (cdatObject d e)) := by
  have hfield : bufLe (doeObject 0x1E98 0x02 ([0, 0] ++ leBytes 2 e)) 10 2 = e :=
    (doeObject_field _ _ (pre := [0, 0]) (by decide) e).trans (Nat.mod_eq_of_lt h)
  obtain ⟨hv, ht⟩ := doeObject_header (vendor := 0x1E98) (type := 0x02) (by decide) (by decide) ([0, 0] ++ leBytes 2 e)
  simp only [doeAnswer, hv, ht, hfield]

theorem doeAnswer_warden (d : Device) (aid : Nat) {code : Nat} (h : code < 2 ^ 32) :
    doeAnswer d aid (doeObject 0x1FA7 0x01 (leBytes 4 code)) = some (doeObject 0x1FA7 0x01 (wardenObject d aid code)) := by
  have hfield : bufLe (doeObject 0x1FA7 0x01 (leBytes 4 code)) 8 4 = code :=
    (doeObject_field _ _ (pre := []) (by decide) code).trans (Nat.mod_eq_of_lt h)
  obtain ⟨hv, ht⟩ := doeObject_header (vendor := 0x1FA7) (type := 0x01) (by decide) (by decide) (leBytes 4 code)
  simp only [doeAnswer, hv, ht, hfield]

/-- A response that is ready stands with the request as it was (R447). -/
theorem doeReady_frame (r : List Byte) (l : LogicalDev) : (doeReady r l).doeRsp = some r ∧ (doeReady r l).doeReq = l.doeReq := by
  unfold doeReady
  dsimp only
  split
  · exact ⟨sendMsi_frame (·.doeRsp) (fun _ _ _ => rfl) .., sendMsi_frame (·.doeReq) (fun _ _ _ => rfl) ..⟩
  · exact ⟨rfl, rfl⟩

/-- Settles O42, clause by clause: objects that are answered, refused and aborted, and what each answer holds. -/
theorem dataObjects : Obligations.DataObjects := by
  unfold Obligations.DataObjects
  refine ⟨fun s who o r hup hserves herror hreq hrsp hlen hspdm hanswer => exec_next rfl
      (doeWrite_answered hup hserves herror hreq hrsp hlen hspdm hanswer),
    fun s who o hup herror hbad => exec_next rfl ?_,
    fun s who o herror => exec_same rfl (if_pos (by simp [herror])),
    fun s who hup => exec_next rfl (if_pos hup),
    fun s who i hup hserves herror hreq hrsp hi => exec_next rfl (doeWrite_object hup hserves herror hreq hrsp
      (by decide) (by decide) (by decide) ⟨Nat.le_refl 1, Nat.le_add_left 1 3⟩ (doeAnswer_discovery _ _ hi)),
    fun s who e hup hserves herror hreq hrsp he => exec_next rfl (doeWrite_object hup hserves herror hreq hrsp
      (by decide) (by decide) (by decide) ⟨Nat.le_add_left 1 3, Nat.le_refl 4⟩ (doeAnswer_cdat _ _ he)),
    fun s who code hup hserves herror hreq hrsp hcode => exec_next rfl (doeWrite_object hup hserves herror hreq hrsp
      (by decide) (by decide) (by decide) ⟨Nat.le_add_left 1 3, Nat.le_refl 4⟩ (doeAnswer_warden _ _ hcode)),
    doeReady_frame, fun d aid code hcode => if_neg hcode, fun d aid => rfl⟩
  refine (if_neg (by simp [hup, herror])).trans (if_pos ?_)
  rcases hbad with h | h | h
  · simp [Option.isSome_iff_ne_none.mpr h]
  · simp [Option.isSome_iff_ne_none.mpr h]
  · simp [h]

end Sys2Proof.Machine
end

section
/-! PROOFS. The mailboxes of the FM-owned LD and of the LDs (spec/15_cxl_host_port.md, R434, R437, R449–R452). -/

namespace Sys2Proof.Machine

open Sys2Proof

/-! ### Commands that only answer -/

section
variable {d : Device} {who : Option Ld} (hready : MailboxReady d who)
include hready

/-- A command that only answers does so with its return code and output (R449). -/
theorem mailboxReads_ready (op : Nat) (f : Device → Nat × List Byte) :
    mailboxReads who op true f d = mailboxEnds who op (f d).1 (f d).2 d := mailbox_ready hready ..

/-- One that the requester does not have is Unsupported (R450). -/
theorem mailboxReads_unsupported (op : Nat) (f : Device → Nat × List Byte) :
    mailboxReads who op false f d = mailboxEnds who op 3 [] d := mailbox_unsupported hready ..

end

/-- Two changes of the requester's registers that agree on them are one (R449). -/
theorem modWho_congr {who : Option Ld} {f g : LogicalDev → LogicalDev} {d : Device} (h : f (whoOf d who) = g (whoOf d who)) :
    modWho who f d = modWho who g d := by
  rcases who with - | n
  · exact congrArg (fun l => { d with cx := { d.cx with fm := l } }) h
  · have hvec : vmod d.cx.lds n f = vmod d.cx.lds n g := by
      have hn : f d.cx.lds[n.val] = g d.cx.lds[n.val] := by simpa [whoOf, ldOf, vget] using h
      simp [vmod, hn]
    simp only [modWho, modLd, hvec]

/-- A command ends with its code and output where its interrupt is not enabled (R449). -/
theorem mailboxEnds_quiet {d : Device} {who : Option Ld} (hquiet : (whoOf d who).mboxInt = false) (op code : Nat) (out : List Byte) :
    mailboxEnds who op code out d = reply (leBytes 2 code ++ out) (modWho who (fun l => { l with
      mboxRunning := none, mboxReturn := code, mboxOut := out, mboxLength := out.length, mboxCmd := op }) d) := by
  rw [mailboxEnds, mailboxDone, modWho_modWho]
  exact congrArg _ (modWho_congr (if_neg (by simp [hquiet])))

/-! ### Allocations -/

/-- A pair of more than one unit, or with a Range 2 unit, is refused (R434). -/
theorem allocationBad_of_pair (d : Device) (start : Nat) (pairs : List (Nat × Nat)) (h : ∃ p ∈ pairs, 1 < p.1 ∨ p.2 ≠ 0) :
    allocationBad d start pairs = true := by
  obtain ⟨p, hp, hbad⟩ := h
  obtain ⟨i, hi⟩ := List.mem_iff_getElem?.mp hp
  have hany : ∃ q ∈ pairs.zipIdx, 1 < q.1.1 ∨ q.1.2 ≠ 0 := ⟨(p, i), List.mem_zipIdx_iff_getElem?.mpr hi, hbad⟩
  obtain ⟨q, hq, hbad'⟩ := hany
  refine Bool.or_eq_true_iff.mpr (.inr (List.any_eq_true.mpr ⟨q, hq, ?_⟩))
  rcases hbad' with h | h <;> simp [h]

/-- The allocation of one LD without a committed decoder is set (R434). -/
theorem setLdAllocationsEffect_one {d : Device} {ld : Ld} {x : Nat} (hready : MailboxReady d none)
    (hcommitted : (ldOf d ld).decCommitted = false) (hx : x ≤ 1) : ∃ out e,
      setLdAllocationsEffect ld [(x, 0)] d = mailboxEnds none 0x5402 0 out e ∧
      e.cx.lds = (modLd ld (fun l => { l with allocated := x == 1 }) d).cx.lds ∧ e.mem = d.mem ∧ e.tx = d.tx := by
  have hgood : allocationBad d ld [(x, 0)] = false := by
    simp [allocationBad, hcommitted, hx, Nat.le_of_lt_succ ld.isLt]
  rw [setLdAllocationsEffect, mailbox_ready hready, hgood]
  simp only [Bool.false_eq_true, if_false, List.zipIdx_cons, List.zipIdx_nil, List.foldl_cons, List.foldl_nil, Nat.add_zero]
  by_cases hsame : allocatedLds d = allocatedLds (modLd ld (fun l => { l with allocated := x == 1 }) d)
  · simp only [hsame, eq_self, if_true]
    exact ⟨_, _, rfl, rfl, rfl, rfl⟩
  · simp only [hsame, if_false]
    exact ⟨_, _, rfl, by simp [modCx], by simp [modCx], by simp [modCx]⟩

/-! ### Staging of SI Pending -/

section
variable {d : Device} (hready : MailboxReady d none) (hlive : d.tx.fabricLive = false)
include hready hlive

/-- Before the first couch a commit of the staged SI is hart 0's load for AID 0x10 (R371, R452). -/
theorem fjarlinStageSiCommitEffect_loads (hstate : d.tx.state = .idle) (hcopy : d.tx.siCopyBusy = false)
    (hstalled : hartStalled d 0 = false) (total : Nat) : fjarlinStageSiCommitEffect none total d =
      siLoad 0x10 total { d with cx := { d.cx with fm := { d.cx.fm with mboxRunning := some 0xC011, mboxCmd := 0xC011 } } } := by
  obtain ⟨hup, hrunning, hserves⟩ := hready
  simp [fjarlinStageSiCommitEffect, hup, hrunning, hserves, hlive, hstate, hcopy, hstalled]

/-- While the mould is in use, the SI copied or hart 0 stalled it is Busy (R452). -/
theorem fjarlinStageSiCommitEffect_busy (hbusy : d.tx.state ≠ .idle ∨ d.tx.siCopyBusy = true ∨ hartStalled d 0 = true)
    (total : Nat) : fjarlinStageSiCommitEffect none total d = mailboxEnds none 0xC011 6 [] d := by
  obtain ⟨hup, hrunning, hserves⟩ := hready
  have hcond : (d.tx.state != .idle || d.tx.siCopyBusy || hartStalled d 0) = true := by
    rcases hbusy with h | h | h <;> simp [h]
  simp [fjarlinStageSiCommitEffect, hup, hrunning, hserves, hlive, hcond]

end

/-- An LD does not have the commit of the staged SI (R450). -/
theorem fjarlinStageSiCommitEffect_ld {d : Device} {ld : Ld} (hready : MailboxReady d (some ld)) (total : Nat) :
    fjarlinStageSiCommitEffect (some ld) total d = mailboxEnds (some ld) 0xC011 3 [] d := by
  obtain ⟨hup, hrunning, hserves⟩ := hready
  simp [fjarlinStageSiCommitEffect, hup, hrunning, hserves]

/-! ### A device without a poisoned word, and a mailbox that does not serve -/

/-- The poison list of a store without a poisoned word is empty (R450). -/
theorem poisonLines_none {d : Device} (h : d.is_.poisoned = []) (aid base len : Nat) : poisonLines d aid base len = [] := by
  simp [poisonLines, h]

/-- Without hart 1 the mailbox is Busy (R449). -/
theorem mailboxReads_noHart {d : Device} {who : Option Ld} (hup : cxlUp d = true) (hrunning : (whoOf d who).mboxRunning = none)
    (hserves : hart1Serves d = false) (op : Nat) (has : Bool) (f : Device → Nat × List Byte) :
    mailboxReads who op has f d = mailboxEnds who op 6 [] d := by
  simp [mailboxReads, mailbox, hup, hrunning, hserves]

/-- While another command runs it is Busy (R449). -/
theorem mailboxReads_running {d : Device} {who : Option Ld} {r : Nat} (hup : cxlUp d = true)
    (hrunning : (whoOf d who).mboxRunning = some r) (op : Nat) (has : Bool) (f : Device → Nat × List Byte) :
    mailboxReads who op has f d = reply (leBytes 2 6) d := by
  simp [mailboxReads, mailbox, hup, hrunning]

/-- Settles O43, clause by clause: the commands of the FM-owned LD, those of the memory devices, and Busy. -/
theorem cxlMailboxes : Obligations.CxlMailboxes := by
  unfold Obligations.CxlMailboxes
  refine ⟨fun s hready => exec_next rfl (mailboxReads_ready hready ..),
    fun s start limit hready hstart => exec_next rfl ((mailboxReads_ready hready ..).trans (by rw [if_neg (by omega)])),
    fun s start limit hready hstart => exec_next rfl ((mailboxReads_ready hready ..).trans (by rw [if_pos hstart])),
    fun s start pairs hready hbad => exec_next rfl ((mailbox_ready hready ..).trans (by simp only [hbad, if_true])),
    fun s ld x hready hcommitted hx => ?_, allocationBad_of_pair,
    fun s off data hready hlocked hcopy hopen hlen hfits => exec_next rfl ((mailbox_ready hready ..).trans ?_),
    fun s off data hready hlocked => exec_next rfl ((mailbox_ready hready ..).trans (by rw [if_pos (by simp [hlocked])])),
    fun s total hready hlive hstate hcopy hstalled => exec_next rfl
      (fjarlinStageSiCommitEffect_loads hready hlive hstate hcopy hstalled total),
    fun s total hready hlive hbusy => exec_next rfl (fjarlinStageSiCommitEffect_busy hready hlive hbusy total),
    fun s ld off total data hready => ⟨exec_next rfl (mailbox_unsupported hready ..),
      exec_next rfl (fjarlinStageSiCommitEffect_ld hready total)⟩,
    fun d who op code out hquiet => mailboxEnds_quiet hquiet op code out,
    fun s who hready => ⟨exec_next rfl (mailboxReads_ready hready ..), exec_next rfl (mailboxReads_ready hready ..),
      exec_next rfl (mailboxReads_ready hready ..), exec_next rfl (mailboxReads_ready hready ..),
      exec_next rfl (mailboxReads_ready hready ..)⟩,
    fun s who n hready => exec_next rfl (mailboxReads_ready hready ..),
    fun s who ps hready => exec_next rfl (mailboxReads_ready hready ..),
    fun s who uuid off len hready => exec_next rfl ((mailboxReads_ready hready ..).trans ?_),
    fun s ld hready => ⟨exec_next rfl (mailboxReads_ready hready ..), exec_next rfl (mailboxReads_ready hready ..),
      exec_next rfl (mailboxReads_ready hready ..)⟩,
    fun s ld base len hready hpoisoned => exec_next rfl ((mailboxReads_ready hready ..).trans ?_),
    fun s hready => ⟨exec_next rfl (mailboxReads_unsupported hready ..), exec_next rfl (mailboxReads_unsupported hready ..),
      exec_next rfl (mailboxReads_unsupported hready ..),
      fun base len => exec_next rfl (mailboxReads_unsupported hready ..)⟩,
    fun s who op hready => exec_next rfl (mailboxReads_unsupported hready ..),
    fun s who hup hrunning hserves => exec_next rfl (mailboxReads_noHart hup hrunning hserves ..),
    fun s who op hup hrunning => exec_next rfl (mailboxReads_running hup hrunning ..)⟩
  · obtain ⟨out, e, heffect, hlds, hmem, htx⟩ := setLdAllocationsEffect_one hready hcommitted hx
    refine ⟨_, exec_next rfl heffect, ?_, hmem, htx, fun n hn => ?_⟩
    · exact congrArg LogicalDev.allocated ((congrArg (vget · ld.val) hlds).trans (ldOf_modLd ..))
    · exact (congrArg (vget · n) hlds).trans (ldOf_modLd_ne _ _ _ _ (Ne.symm hn))
  · rw [if_neg (by simp [hlocked, hcopy, hopen]), if_neg (by simp [hlen, hfits])]
  · simp only [Bool.and_eq_true, beq_iff_eq, decide_eq_true_eq]
    split <;> rfl
  · simp [poisonLines_none hpoisoned, flag]

end Sys2Proof.Machine
end

section
/-! PROOFS. Errors by class, restarts and reports (spec/21_errors_ecc_and_perturbation.md, R571–R579). -/

namespace Sys2Proof.Machine

open Sys2Proof

/-! ### Reports and the handling of an error -/

/-- An interrupt, raised or not, leaves the controller's registers. -/
theorem interrupt_ite_ec (c : Prop) [Decidable c] (h : Nat) (d : Device) : (if c then interrupt h d else d).ec = d.ec := by
  split <;> rfl

/-- A report enters the FIFO while it has room (R579). -/
theorem queueReport_room {d : Device} (hroom : d.ec.reports.length < 32) (e : ErrRec) :
    (queueReport e d).ec = { d.ec with reports := d.ec.reports ++ [e] } := by
  rw [queueReport, if_pos hroom]
  exact interrupt_ite_ec ..

/-- With no room it is lost with Overflow (R579). -/
theorem queueReport_full {d : Device} (hfull : 32 ≤ d.ec.reports.length) (e : ErrRec) :
    (queueReport e d).ec = { d.ec with overflow := true, lostReports := d.ec.lostReports + 1 } := by
  rw [queueReport, if_neg (Nat.not_lt.mpr hfull)]
  exact (interrupt_ite_ec ..).trans (by simp)

/-- A report leaves the counts and the error being handled. -/
theorem queueReport_counts (e : ErrRec) (d : Device) :
    (queueReport e d).ec.deferred = d.ec.deferred ∧ (queueReport e d).ec.handling = d.ec.handling := by
  rcases Nat.lt_or_ge d.ec.reports.length 32 with hroom | hfull
  · rw [queueReport_room hroom]
    exact ⟨rfl, rfl⟩
  · rw [queueReport_full hfull]
    exact ⟨rfl, rfl⟩

/-- An error of class C is counted, one of class D counted and reported, one of class F1 reported while its block
restarts (R575). -/
theorem takeError_corrected {e : ErrRec} (h : e.cls = 1) (d : Device) : takeError e d = handleC e d := by
  simp only [takeError, h]

theorem takeError_deferred {e : ErrRec} (h : e.cls = 2) (d : Device) : takeError e d = handleD e d := by
  simp only [takeError, h]

theorem takeError_restart {e : ErrRec} (h : e.cls = 3) (d : Device) :
    takeError e d = queueReport e { d with ec := { d.ec with handling := e :: d.ec.handling } } := by
  simp only [takeError, h]

/-- Handling of an error of class D in the controller's registers (R575, R579). -/
theorem handleD_ec (e : ErrRec) (d : Device) :
    (handleD e d).ec = (queueReport e { d with ec := { d.ec with deferred := satAdd 8 d.ec.deferred 1 } }).ec := by
  simp [handleD]

/-- The error that a controller without one takes (R576). -/
theorem errorArrives_idle {d : Device} (hsafe : d.power.state ≠ .safe) (hidle : d.ec.handling = []) (e : ErrRec) :
    errorArrives e d = takeError e d := by
  rw [errorArrives, if_neg (by simpa using hsafe), hidle]

section
variable {e cur : ErrRec} {tl : List ErrRec} {d : Device} (hsafe : d.power.state ≠ .safe) (hhandling : d.ec.handling = cur :: tl)
include hsafe hhandling

/-- A second F1 error of the block that is handled escalates (R576). -/
theorem errorArrives_escalates (h : e.cls = 3 ∧ e.block = cur.block ∧ e.inst = cur.inst) :
    errorArrives e d = enterSafe e.block e.kind true (event 0x0F04 5 [e.block, shownInst e, cur.kind, e.kind] d) := by
  rw [errorArrives, if_neg (by simpa using hsafe), hhandling]
  exact if_pos h

/-- Any other error waits its turn (R576). -/
theorem errorArrives_waits (h : ¬ (e.cls = 3 ∧ e.block = cur.block ∧ e.inst = cur.inst)) (hroom : d.ec.queue.length < 16) :
    errorArrives e d = { d with ec := { d.ec with queue := d.ec.queue ++ [e] } } := by
  rw [errorArrives, if_neg (by simpa using hsafe), hhandling]
  exact (if_neg h).trans (if_pos hroom)

end

/-! ### Containment of a turnstile's error -/

/-- The settling of a reset leaves what neither devices, buses nor the recorder hold. -/
theorem settleReset_same {β : Type} (p : Device → β) (hp : ∀ (e : Device) ev bat, p { e with ev := ev, bat := bat } = p e)
    (hdev : ∀ n g e, p (modDev n g e) = p e) (hbus : ∀ n g e, p (modBus n g e) = p e) (f : Nat) (d : Device) :
    p (settleReset f d) = p d := by
  unfold settleReset
  dsimp only
  split
  · refine Eq.trans ?_ (hdev f _ d : p (holdReset f d) = p d)
    unfold takeOut requalReport
    dsimp only
    split
    · exact (eventsRaw_same p hp ..).trans (hbus ..)
    · rfl
  · rfl

section
variable {β : Type} (p : Device → β) (hp : ∀ (e : Device) ev bat, p { e with ev := ev, bat := bat } = p e)
  (hdev : ∀ n g e, p (modDev n g e) = p e) (hbus : ∀ n g e, p (modBus n g e) = p e) (hts : ∀ n g e, p (modTs n g e) = p e)
include hp hdev hbus hts

/-- With no command on the bus of a device, none fails (R44). -/
theorem failCurrent_same {f : Nat} {d : Device} (hnone : (tsAt d f).current = none) (reason result : Nat) :
    p (failCurrent f reason result d) = p d := by
  rw [failCurrent, hnone]
  exact (settleReset_same p hp hdev hbus ..).trans ((hdev ..).trans (hts ..))

end

/-- The turnstiles are as before where no command fails (R44). -/
theorem tsAt_failCurrent {f : Nat} {d : Device} (hnone : (tsAt d f).current = none) (reason result n : Nat) :
    tsAt (failCurrent f reason result d) n = tsAt d n := by
  rw [failCurrent, hnone]
  refine (settleReset_same (fun e => tsAt e n) (fun _ _ _ => rfl) (fun _ _ _ => rfl) (fun _ _ _ => rfl) ..).trans ?_
  change vget (vmod d.gf.ts f (fun t => { t with current := none })) n = vget d.gf.ts n
  rw [vget_vmod]
  split
  · rename_i h
    obtain ⟨rfl, -⟩ := h
    exact congrArg (fun c => { vget d.gf.ts f with current := c }) hnone.symm
  · rfl

/-- Where no device of a bus has a command on it, its turnstiles, memory and the couch unit stay as they are (R44). -/
theorem failCurrents_none (m : Nat) (l : List Nat) (d : Device) (hnone : ∀ k ∈ l, (tsAt d (4 * m + k)).current = none) :
    (∀ n, tsAt (l.foldl (fun acc k => failCurrent (4 * m + k) 0 8 acc) d) n = tsAt d n) ∧
    (l.foldl (fun acc k => failCurrent (4 * m + k) 0 8 acc) d).mem = d.mem ∧
    (l.foldl (fun acc k => failCurrent (4 * m + k) 0 8 acc) d).tx = d.tx := by
  induction l generalizing d with
  | nil => exact ⟨fun _ => rfl, rfl, rfl⟩
  | cons k l ih =>
    have hk := hnone k (List.mem_cons_self ..)
    obtain ⟨hts, hmem, htx⟩ := ih (failCurrent (4 * m + k) 0 8 d) (fun j hj => by
      rw [tsAt_failCurrent hk]
      exact hnone j (List.mem_cons_of_mem _ hj))
    exact ⟨fun n => (hts n).trans (tsAt_failCurrent hk ..),
      hmem.trans (failCurrent_same (·.mem) (fun _ _ _ => rfl) (fun _ _ _ => rfl) (fun _ _ _ => rfl) (fun _ _ _ => rfl) hk ..),
      htx.trans (failCurrent_same (·.tx) (fun _ _ _ => rfl) (fun _ _ _ => rfl) (fun _ _ _ => rfl) (fun _ _ _ => rfl) hk ..)⟩

/-- The unguarded interval of an idled bus changes `guard` only (R46). -/
@[simp] theorem busIdled_frame (m cause : Nat) (d : Device) : (busIdled m cause d).gf = d.gf ∧
    (busIdled m cause d).mem = d.mem ∧ (busIdled m cause d).tx = d.tx := by
  unfold busIdled
  split <;> simp

/-- Containment of an error of a turnstile or of a bus controller (R574). -/
theorem f1Contained_turnstile (f : Dev) (d : Device) : f1Contained 6 f d = turnstileContained f (busIdled (f / 4) 1 d) :=
  if_pos f.isLt

theorem f1Contained_bus (m : Bus) (d : Device) : f1Contained 6 (64 + m) d = busRestartBegin m (busIdled m 2 d) := by
  have h : f1Contained 6 (64 + m) d = busRestartBegin (64 + m.val - 64) (busIdled (64 + m.val - 64) 2 d) :=
    if_neg (Nat.not_lt.mpr (Nat.le_add_right 64 m.val))
  rwa [Nat.add_sub_cancel_left] at h

/-- On an idle bus the turnstile alone restarts (R44, R574). -/
theorem f1Contained_idle {d : Device} {f : Dev} (hidle : ∀ k, k < 4 → (tsAt d (4 * (f / 4) + k)).current = none) :
    (tsAt (f1Contained 6 f d) f).restarting = true ∧ (∀ g : Dev, g ≠ f → tsAt (f1Contained 6 f d) g = tsAt d g) ∧
    (f1Contained 6 f d).mem = d.mem ∧ (f1Contained 6 f d).tx = d.tx := by
  have hbus : ∀ n, tsAt (busIdled (f / 4) 1 d) n = tsAt d n := fun n => by simp [tsAt]
  have hstill : ∀ n, (tsAt d n).current = none →
      (tsAt (modTs f (fun t => { t with restarting := true }) (busIdled (f / 4) 1 d)) n).current = none := fun n hn => by
    by_cases hfn : f.val = n
    · subst hfn
      rw [tsAt_modTs, hbus]
      exact hn
    · rwa [tsAt_modTs_ne _ _ _ _ hfn, hbus]
  obtain ⟨hts, hmem, htx⟩ := failCurrents_none (f / 4) (List.range 4) _
    (fun k hk => hstill _ (hidle k (List.mem_range.mp hk)))
  rw [f1Contained_turnstile]
  refine ⟨?_, fun g hg => ?_, hmem.trans (by simp), htx.trans (by simp)⟩
  · exact congrArg Turnstile.restarting ((hts f).trans (tsAt_modTs ..))
  · exact (hts g).trans ((tsAt_modTs_ne _ _ _ _ (fun h => hg (Fin.ext h.symm))).trans (hbus g))

/-! ### Restarts -/

/-- With no error in the queue none is taken (R575). -/
theorem drainErrors_empty {d : Device} (h : d.ec.queue = []) (n : Nat) : drainErrors n d = d := by
  rcases n with - | n
  · rfl
  · unfold drainErrors
    split
    · rfl
    · rw [h]
      rfl

/-- The end of a restart with no error in the queue (R575, R579). -/
theorem restartDone_quiet {d : Device} (h : d.ec.queue = []) (e : ErrRec) (us : Nat) : restartDone e us d =
    event 0x0F03 4 [e.block, shownInst e, e.kind, us]
      { d with ec := { d.ec with handling := d.ec.handling.drop 1, restarts := satAdd 8 d.ec.restarts 1 } } :=
  drainErrors_empty (by simpa using h) _

/-- The end of a bus controller's restart with no error in the queue: the bus is back, its error no longer handled (R202). -/
theorem busControllerRestartDoneEffect_quiet {d : Device} {m : Bus} {e : ErrRec} (hhandling : handlingOf d 6 (64 + m) = some e)
    (hqueue : d.ec.queue = []) (ticks : Nat) :
    (∀ n, busAt (busControllerRestartDoneEffect m ticks d) n = busAt (modBus m (fun b => { b with restarting := false }) d) n) ∧
    (busControllerRestartDoneEffect m ticks d).ec.handling = d.ec.handling.drop 1 := by
  simp only [busControllerRestartDoneEffect, hhandling, freeRestart]
  rw [restartDone_quiet (by simpa using hqueue)]
  exact ⟨fun n => by simp [busAt], by simp⟩

/-- The end of a turnstile's restart: its state, and every command that waited denied with reason 11 (R229). -/
theorem restartTurnstile_ends (env : TsEnv) (t : Turnstile) :
    (restartTurnstile env t).ts.restarting = false ∧ (restartTurnstile env t).ts.credit = 0 ∧
    (restartTurnstile env t).ts.state = initialState env.leaf env.f ∧ (restartTurnstile env t).ts.waiting = [] ∧
    (restartTurnstile env t).ts.held = [] ∧ (restartTurnstile env t).ts.curve = boundCurve env.leaf env.f ∧
    (∀ c ∈ t.waiting, ⟨c, 11, 0, []⟩ ∈ (restartTurnstile env t).done) := by
  refine ⟨rfl, rfl, rfl, rfl, rfl, rfl, fun c hc => List.mem_map.mpr ⟨c, List.mem_map.mpr ⟨(c, 0x3F), ?_, rfl⟩, rfl⟩⟩
  exact List.mem_append_right _ (List.mem_map.mpr ⟨c, List.mem_append_left _ hc, rfl⟩)

/-- Settles O44, clause by clause: errors of each class, their containment, the queue, restarts, reports and injection. -/
theorem errorsAndRestarts : Obligations.ErrorsAndRestarts := by
  unfold Obligations.ErrorsAndRestarts
  refine ⟨fun s block word hup => exec_next rfl (if_pos hup),
    fun s block inst kind word hup hsafe => exec_next rfl ((if_neg (by simp [hup])).trans (if_neg (by simpa using hsafe))),
    fun s block inst kind hup hsafe hsource => exec_next rfl
      ((if_neg (by simp [hup, hsource])).trans (if_neg (by simpa using hsafe))),
    fun s block inst kind hsource => exec_same rfl (if_pos (by simp [hsource])),
    fun d f m => ⟨f1Contained_turnstile f d, f1Contained_bus m d⟩, fun d f => rfl, fun d f hidle => f1Contained_idle hidle,
    fun e d hsafe hidle => errorArrives_idle hsafe hidle e,
    fun e d hcls => ?_, fun e d hcls => ?_, fun e d hcls => ?_,
    fun e cur tl d hsafe hhandling hcls hblock hinst => errorArrives_escalates hsafe hhandling ⟨hcls, hblock, hinst⟩,
    fun e cur tl d hsafe hhandling hother hroom => errorArrives_waits hsafe hhandling hother hroom,
    fun s us e hhandling => exec_next rfl ((if_pos (.inr rfl)).trans (by rw [hhandling]; rfl)),
    fun s us e hhandling => exec_next rfl ((if_pos (.inl rfl)).trans (by rw [hhandling]; rfl)),
    fun s block us hnone => exec_same rfl ?_, fun e us d hqueue => ?_,
    fun s m ticks e hhandling hqueue => ⟨_, exec_next rfl rfl, ?_⟩,
    fun s m ticks hnone => exec_same rfl (by simp only [busControllerRestartDoneEffect, hnone]),
    fun s f ticks e hhandling => exec_next rfl (by simp only [turnstileRestartDoneEffect, hhandling]),
    restartTurnstile_ends,
    fun s f ticks hnone => exec_same rfl (by simp only [turnstileRestartDoneEffect, hnone]),
    fun s h e tl hmay hreports => exec_next rfl ((if_neg (by simp [hmay.1, hmay.2])).trans (by rw [hreports])),
    fun s h hmay hreports => exec_next rfl ((if_neg (by simp [hmay.1, hmay.2])).trans (by rw [hreports])),
    fun s v hmay hallowed => exec_next rfl ((onlyHart_may hmay ..).trans ((if_pos rfl).trans (if_pos hallowed))),
    fun s v hmay hallowed => exec_same rfl ((onlyHart_may hmay ..).trans ((if_pos rfl).trans (if_neg (by simp [hallowed])))),
    fun s h v hmay hne => exec_same rfl ((onlyHart_may hmay ..).trans (if_neg (fun h0 => hne (Fin.ext h0))))⟩
  · rw [takeError_corrected hcls]
    simp [handleC]
  · rw [takeError_deferred hcls, handleD_ec]
    refine ⟨(queueReport_counts ..).1, fun hroom => ?_, fun hfull => ?_⟩
    · refine (congrArg (·.reports) (queueReport_room ?_ e)).trans rfl
      exact hroom
    · refine ⟨(congrArg (·.reports) (queueReport_full ?_ e)).trans rfl, (congrArg (·.overflow) (queueReport_full ?_ e)).trans rfl⟩
      · exact hfull
      · exact hfull
  · rw [takeError_restart hcls]
    refine ⟨(queueReport_counts ..).2, fun hroom => (congrArg (·.reports) (queueReport_room ?_ e)).trans rfl⟩
    exact hroom
  · by_cases hblock : block = 8 ∨ block = 12
    · have hhandling : handlingOf s.dev block 0 = none := hnone.resolve_left (fun h => by
        rcases hblock with e | e
        · exact h.1 e
        · exact h.2 e)
      exact (if_pos hblock).trans (by rw [hhandling])
    · exact if_neg hblock
  · rw [restartDone_quiet hqueue]
    simp
  · obtain ⟨hbus, hhandling'⟩ := busControllerRestartDoneEffect_quiet hhandling hqueue ticks
    refine ⟨?_, hhandling', fun n hn => ?_⟩
    · exact congrArg FlashBus.restarting ((hbus m).trans (busAt_modBus ..))
    · exact (hbus n).trans (busAt_modBus_ne _ _ _ _ (fun h => hn (Fin.ext h.symm)))

end Sys2Proof.Machine
end

section
/-! PROOFS. Mailbox channels (spec/17_mailboxes.md, R482–R488). -/

namespace Sys2Proof.Machine

open Sys2Proof

/-! ### The answer to a post -/

/-- An agent sends on a channel that has it as sender (R482). -/
theorem sends_of_sender {L : Leaf} {c aid : Nat} {r : ChannelRec} (hrec : channelOf L c = some r) (hsender : r.sender = aid) :
    sends L aid c = true := by
  simp [sends, hrec, hsender]

section
variable {d : Device} {old : Bool} {aid c : Nat}

/-- A post under the leaf of its tag, where the instant has not changed the ends of the channel (R487). -/
theorem postAnswer_current (hends : old = false ∨ endsMoved d c = false) : postAnswer d old aid c = postCheck (postLeaf d old) d aid c :=
  if_neg (by rcases hends with h | h <;> simp [h])

theorem postDone_current (hends : old = false ∨ endsMoved d c = false) (w : Word) :
    postDone old aid c w d = postTaken (postLeaf d old) aid c w d :=
  if_neg (by rcases hends with h | h <;> simp [h])

section
variable {r : ChannelRec} (hrec : channelOf (postLeaf d old) c = some r) (hends : old = false ∨ endsMoved d c = false)
  (hsender : r.sender = aid)
include hrec hends hsender

/-- The sender's post to an empty channel is taken (R483). -/
theorem postAnswer_empty (hempty : (chanAt d c).full = false) : postAnswer d old aid c = .posted := by
  rw [postAnswer_current hends]
  simp [postCheck, hrec, hsender, hempty]

/-- At a full one it is not (R484). -/
theorem postAnswer_full (hfull : (chanAt d c).full = true) : postAnswer d old aid c = .full := by
  rw [postAnswer_current hends]
  simp [postCheck, hrec, hsender, hfull]

end

/-- Another agent's post is refused (R482). -/
theorem postAnswer_notSender (h : sends (postLeaf d old) aid c = false) : postAnswer d old aid c = .notSender := by
  unfold postAnswer
  split
  · rename_i hmoved
    have hold : old = true := (Bool.and_eq_true_iff.mp hmoved).1
    subst hold
    exact if_neg (by simp [h])
  · unfold postCheck
    split
    · rfl
    · rename_i r hrec
      exact if_pos (by simpa [sends, hrec] using h)

section
variable (hmoved : endsMoved d c = true)
include hmoved

/-- A post with the old tag to a channel whose ends have changed is accepted (R487). -/
theorem postAnswer_late {r : ChannelRec} (hrec : channelOf (postLeaf d true) c = some r) (hsender : r.sender = aid) :
    postAnswer d true aid c = .posted :=
  (if_pos (by simp [hmoved])).trans (if_pos (sends_of_sender hrec hsender))

theorem postDone_late (w : Word) : postDone true aid c w d = latePost aid c w d := if_pos (by simp [hmoved])

end

end

/-- A post that is lost leaves the word of the channel (R487). -/
theorem latePost_channel (aid : Nat) (c : Chan) (w : Word) (d : Device) :
    (chanAt (latePost aid c w d) c).word = (chanAt d c).word ∧ (chanAt (latePost aid c w d) c).full = (chanAt d c).full := by
  have hevent := fun code sev ps e => event_same (fun e => chanAt e c) (fun _ _ _ => rfl) code sev ps e
  unfold latePost
  split
  · exact ⟨rfl, rfl⟩
  · dsimp only at hevent ⊢
    rw [hevent]
    split
    · rw [chanAt_modChan]
      split
      · rw [hevent]
        exact ⟨rfl, rfl⟩
      · exact ⟨rfl, rfl⟩
    · split
      · rw [hevent]
        exact ⟨rfl, rfl⟩
      · exact ⟨rfl, rfl⟩

/-- A post that is taken: stored, recorded where its channel logs posts, with the barker (R483). -/
theorem postTaken_channel {L : Leaf} {c : Nat} {r : ChannelRec} (hrec : channelOf L c = some r) (aid : Nat) (w : Word) (d : Device) :
    postTaken L aid c w d = barker r (if r.logPost
      then event 0x0B03 0 [c, aid, w.toNat] (modChan c (fun x => { x with word := w, full := true, senderEpoch := false }) d)
      else modChan c (fun x => { x with word := w, full := true, senderEpoch := false }) d) := by
  unfold postTaken
  rw [hrec]

/-- A post refused at a full channel sets Drop and leaves its word (R484). -/
theorem chanAt_postRefused (aid : Nat) (c : Chan) (d : Device) : chanAt (postRefused aid c d) c = { chanAt d c with drop := true } :=
  (event_same (fun e => chanAt e c) (fun _ _ _ => rfl) ..).trans (chanAt_modChan ..)

/-- A hart's post at a full channel is an access fault with Drop (R484). -/
theorem hartChannelPostEffect_full {d : Device} {h : Hart} {c : Chan} {old : Bool} {r : ChannelRec} (hmay : MayWrite d h 11)
    (hrec : channelOf (postLeaf d old) c = some r) (hends : old = false ∨ endsMoved d c = false) (hsender : r.sender = 0x10 + h.val)
    (hfull : (chanAt d c).full = true) (v : Word) :
    hartChannelPostEffect h c v old d = accessFault h (0x600B0000 + 4 * c.val) (postRefused (0x10 + h.val) c d) :=
  (hartWrite_may hmay ..).trans (by rw [postAnswer_full hrec hends hsender hfull])

/-- One with the old tag to a channel whose ends have changed is accepted and lost (R487). -/
theorem hartChannelPostEffect_late {d : Device} {h : Hart} {c : Chan} {r : ChannelRec} (hmay : MayWrite d h 11)
    (hmoved : endsMoved d c = true) (hrec : channelOf (postLeaf d true) c = some r) (hsender : r.sender = 0x10 + h.val) (v : Word) :
    hartChannelPostEffect h c v true d = latePost (0x10 + h.val) c v d := by
  refine (hartWrite_may hmay ..).trans ?_
  rw [postAnswer_late hmoved hrec hsender]
  exact postDone_late hmoved v

/-! ### Takes -/

section
variable {d : Device} {aid c : Nat}

/-- A take of the receiver returns the word of a full channel and clears Full (R483). -/
theorem taken_receiver (h : receives (curLeaf d) aid c = true) (hport : aidIsI3c aid = false) :
    taken (curLeaf d) aid c (replyWord (takeWord (curLeaf d) d aid c) d) =
      modChan c (fun x => { x with full := false }) (replyWord (if (chanAt d c).full then (chanAt d c).word else 0) d) := by
  simp [taken, takeWord, h, hport]

/-- Another agent's returns zero (R483). -/
theorem taken_other (h : receives (curLeaf d) aid c = false) :
    taken (curLeaf d) aid c (replyWord (takeWord (curLeaf d) d aid c) d) = replyWord 0 d := by
  simp [taken, takeWord, h]

end

/-- Neither a hart nor a logical device is an I3C port (R12). -/
theorem aidIsI3c_hart (h : Hart) : aidIsI3c (0x10 + h.val) = false := by
  revert h
  decide

theorem aidIsI3c_ld (ld : Ld) : aidIsI3c ld = false := by
  revert ld
  decide

/-! ### A receiver's reset -/

/-- What a receiver's reset does for one channel (R485). -/
def channelLost (aid : Nat) (d : Device) (r : ChannelRec) : Device :=
  if r.receiver == aid && (chanAt d r.channel).full then loseWord r.channel r.sender aid 1 d else d

theorem receiverReset_eq (aid : Nat) (d : Device) : receiverReset aid d = (chanRecs d).foldl (channelLost aid) d := rfl

/-- A word that is lost leaves its channel empty, and any other as it was (R485). -/
theorem loseWord_full (c sender receiver cause n : Nat) (d : Device) :
    (chanAt (loseWord c sender receiver cause d) n).full = if c = n then false else (chanAt d n).full := by
  refine (congrArg Channel.full (event_same (fun e => chanAt e n) (fun _ _ _ => rfl) ..)).trans ?_
  by_cases hcn : c = n
  · subst hcn
    rw [if_pos rfl]
    unfold chanAt modChan
    rw [vget_vmod]
    split
    · rfl
    · rename_i hout
      unfold vget
      rw [dif_neg (by simpa using hout)]
      rfl
  · rw [if_neg hcn, chanAt_modChan_ne _ _ _ _ hcn]

/-- A channel that is empty stays so, and one of the receiver becomes so (R485). -/
theorem channelLost_empty {aid : Nat} {d : Device} {r : ChannelRec} {n : Nat}
    (h : (chanAt d n).full = false ∨ (r.receiver = aid ∧ r.channel = n)) : (chanAt (channelLost aid d r) n).full = false := by
  unfold channelLost
  split
  · rw [loseWord_full]
    split
    · rfl
    · rename_i hne
      exact h.resolve_right (fun ⟨_, hn⟩ => hne hn)
  · rename_i hkept
    rcases h with h | ⟨hr, hn⟩
    · exact h
    · subst hn
      simpa [hr] using hkept

theorem foldl_channelLost_empty {aid n : Nat} (l : List ChannelRec) (d : Device)
    (h : (chanAt d n).full = false ∨ ∃ r ∈ l, r.receiver = aid ∧ r.channel = n) :
    (chanAt (l.foldl (channelLost aid) d) n).full = false := by
  induction l generalizing d with
  | nil => exact h.resolve_right (by simp)
  | cons r l ih =>
    refine ih _ ?_
    rcases h with h | ⟨q, hq, hreceiver, hchannel⟩
    · exact .inl (channelLost_empty (.inl h))
    · rcases List.mem_cons.mp hq with rfl | hq
      · exact .inl (channelLost_empty (.inr ⟨hreceiver, hchannel⟩))
      · exact .inr ⟨q, hq, hreceiver, hchannel⟩

/-- Settles O47, clause by clause: posts of harts and hosts, takes, and a receiver's reset. -/
theorem mailboxChannels : Obligations.MailboxChannels := by
  unfold Obligations.MailboxChannels
  refine ⟨fun s h c v old r hmay hrec hends hsender hempty => exec_next rfl ((hartWrite_may hmay ..).trans ?_),
    fun s h c v old r hmay hrec hends hsender hfull => ⟨_, exec_next rfl
      (hartChannelPostEffect_full hmay hrec hends hsender hfull v), ?_⟩,
    fun s h c v old hmay hsends => exec_next rfl ((hartWrite_may hmay ..).trans (by rw [postAnswer_notSender hsends])),
    fun s h c v r hmay hmoved hrec hsender => ⟨_, exec_next rfl
      (hartChannelPostEffect_late hmay hmoved hrec hsender v), rfl, latePost_channel ..⟩,
    fun s ld c v old r hup hrec hends hsender hempty => exec_next rfl ((if_neg (by simp [hup])).trans ?_),
    fun s ld c v old r hup hrec hends hsender hfull => exec_next rfl ((if_neg (by simp [hup])).trans
      (by rw [postAnswer_full hrec hends hsender hfull])),
    fun s ld c v old hup hsends => exec_same rfl ((if_neg (by simp [hup])).trans (by rw [postAnswer_notSender hsends])),
    fun s ld c v r hup hmoved hrec hsender => exec_next rfl ((if_neg (by simp [hup])).trans
      (by rw [postAnswer_late hmoved hrec hsender, postDone_late hmoved])),
    fun s h c hmay hreceives => exec_next rfl ((if_neg (by simp [hmay.1, hmay.2])).trans (taken_receiver hreceives (aidIsI3c_hart h))),
    fun s h c hmay hreceives => exec_next rfl ((if_neg (by simp [hmay.1, hmay.2])).trans (taken_other hreceives)),
    fun s ld c hup hreceives => exec_next rfl ((if_neg (by simp [hup])).trans (taken_receiver hreceives (aidIsI3c_ld ld))),
    fun s ld c hup hreceives => exec_next rfl ((if_neg (by simp [hup])).trans (taken_other hreceives)),
    fun aid d r hr hreceiver => foldl_channelLost_empty _ _ (.inr ⟨r, hr, hreceiver, rfl⟩)⟩
  · rw [postAnswer_empty hrec hends hsender hempty, postDone_current hends]
    exact postTaken_channel hrec ..
  · have hchan : chanAt (postRefused (0x10 + h.val) c s.dev) c = { chanAt s.dev c with drop := true } := chanAt_postRefused ..
    refine ⟨(congrArg Channel.drop hchan).trans rfl, (congrArg Channel.word hchan).trans rfl, (congrArg Channel.full hchan).trans hfull, ?_⟩
    simp [accessFault, postRefused]
  · rw [postAnswer_empty hrec hends hsender hempty, postDone_current hends]

end Sys2Proof.Machine
end

section
/-! PROOFS. The SPDM responder of hart 1 (spec/16_attestation_and_sweep.md, R463–R474). -/

namespace Sys2Proof.Machine

open Sys2Proof

/-! ### Requests that reach no connection -/

section
variable {d : Device} {p : Peer}

/-- A transport that is down, or has a response pending, carries no request (R447, R463). -/
theorem spdmRequest_down (hdown : peerUp d p = false) (raw : List Byte) (code stage : Nat) (r : Bool)
    (f : SpdmConn → Device → Device) : spdmRequest p raw code stage r f d = dropSpdm p d := if_pos (by simp [hdown])

theorem spdmChunk_down (hdown : peerUp d p = false) (raw : List Byte) (f : SpdmConn → Device → Device) :
    spdmChunk p raw f d = dropSpdm p d := if_pos (by simp [hdown])

theorem getVersionEffect_down (hdown : peerUp d p = false) : getVersionEffect p d = dropSpdm p d := if_pos (by simp [hdown])

/-- A request is dropped without an effect where no response is pending (R447). -/
theorem dropSpdm_none (h : cxlUp d = true → p.transport < 16 → (ldOf d p.transport).doeRsp = none) : dropSpdm p d = d := by
  refine if_neg (fun hpending => ?_)
  simp only [Bool.and_eq_true, decide_eq_true_eq] at hpending
  obtain ⟨⟨hup, hld⟩, hrsp⟩ := hpending
  simp [h hup hld] at hrsp

section
variable {o : List Byte} (hld : p.transport < 16) (hrsp : (ldOf d p.transport).doeRsp = some o)
include hld hrsp

/-- With a response pending on DOE the transport carries none, and a request sets DOE Error (R447). -/
theorem peerUp_pending : peerUp d p = false := by simp [peerUp, hld, hrsp]

theorem dropSpdm_pending (hup : cxlUp d = true) : dropSpdm p d = modLd p.transport (fun l => { l with doeError := true }) d :=
  if_pos (by simp [hup, hld, hrsp])

end

variable (hup : peerUp d p = true)
include hup

section
variable (hserves : hart1Serves d = false)
include hserves

/-- Without hart 1 a request is held (R38, R39). -/
theorem spdmRequest_held (raw : List Byte) (code stage : Nat) (r : Bool) (f : SpdmConn → Device → Device) :
    spdmRequest p raw code stage r f d = holdSpdm p raw d := by
  simp [spdmRequest, hup, hserves]

theorem spdmChunk_held (raw : List Byte) (f : SpdmConn → Device → Device) : spdmChunk p raw f d = holdSpdm p raw d := by
  simp [spdmChunk, hup, hserves]

theorem getVersionEffect_held : getVersionEffect p d = holdSpdm p [0x10, 0x84, 0, 0] d := by
  simp [getVersionEffect, hup, hserves]

end

variable (hserves : hart1Serves d = true)
include hserves

/-- Without a connection the answer is RequestResynch (R468). -/
theorem spdmRequest_resynch (htamper : tamperResponse d = false) (hconn : connOf d p = none) (raw : List Byte) (code stage : Nat)
    (r : Bool) (f : SpdmConn → Device → Device) : spdmRequest p raw code stage r f d = spdmSend p (spdmError 0x12 0x43 0 []) d := by
  simp [spdmRequest, hup, hserves, htamper, hconn]

theorem spdmChunk_resynch (hconn : connOf d p = none) (raw : List Byte) (f : SpdmConn → Device → Device) :
    spdmChunk p raw f d = spdmSend p (spdmError 0x12 0x43 0 []) d := by
  simp [spdmChunk, hup, hserves, hconn]

/-- Tamper-Response refuses the requests that it does not answer (R469). -/
theorem spdmRequest_tamper (htamper : tamperResponse d = true) {code : Nat} (hcode : tamperAnswers code = false) (raw : List Byte)
    (stage : Nat) (r : Bool) (f : SpdmConn → Device → Device) : spdmRequest p raw code stage r f d = tamperRefuses p code d := by
  simp [spdmRequest, hup, hserves, htamper, hcode]

/-- A chunk request on a connection with capabilities keeps its chunked transfer (R466, R468). -/
theorem spdmChunk_open {c : SpdmConn} (hconn : connOf d p = some c) (hstage : 2 ≤ c.stage) (raw : List Byte)
    (f : SpdmConn → Device → Device) : spdmChunk p raw f d = f c d := by
  simp [spdmChunk, hup, hserves, hconn, Nat.not_lt.mpr hstage]

/-- GET_VERSION makes a connection on DOE, where none is evicted (R463). -/
theorem getVersionEffect_new (hconn : connOf d p = none) (hld : p.transport < 16) : getVersionEffect p d =
    spdmSend p versionResponse (setConn p
      { transport := p.transport, eid := 0xFF, stage := 1, vca := [0x10, 0x84, 0, 0] ++ versionResponse } d) := by
  simp [getVersionEffect, hup, hserves, hconn, evictIfFull, peerEid, hld]

/-- It resets one that stands (R468). -/
theorem getVersionEffect_again {c : SpdmConn} (hconn : connOf d p = some c) : getVersionEffect p d =
    spdmSend p versionResponse (setConn p
      { transport := p.transport, eid := peerEid p, stage := 1, vca := [0x10, 0x84, 0, 0] ++ versionResponse }
      (resetConnections (fun x => x.transport == p.transport && x.eid == peerEid p) 1 d)) := by
  simp [getVersionEffect, hup, hserves, hconn]

end

/-! ### Requests on a connection -/

/-- A chain that hart 1 keeps is not built again (R461). -/
theorem ensureChain_kept_chain {d : Device} (h : d.att.chain.isEmpty = false) : ensureChain d = d := by simp [ensureChain, h]

/-- A request that needs the chain finds it (R461). -/
theorem withChain_chain {d : Device} (h : d.att.chain.isEmpty = false) (p : Peer) (c : SpdmConn) (f : Device → Device) :
    withChain p c f d = f d := by
  simp [withChain, ensureChain_kept_chain h, h]

/-- Free bytes for a nonce and for a signature. -/
theorem tookFree_twice (d : Device) : tookFree 32 (tookFree 32 d) = tookFree 64 d := by
  simp [tookFree, Nat.add_assoc]

section
variable {d : Device} {p : Peer} {c : SpdmConn}

/-- A request of the kind that needs the chain, on a connection with algorithms (R465, R466). -/
theorem spdmRequest_chain {code : Nat} (hon : OnConnection d p code c) (hstage : 3 ≤ c.stage) (halgs : c.noAlgs = false)
    (hchain : d.att.chain.isEmpty = false) (raw : List Byte) (f : SpdmConn → Device → Device) :
    spdmRequest p raw code 3 true (fun c d1 => withChain p c (f c) d1) d = f (unchunked c) d :=
  (spdmRequest_open hon hstage (.inr halgs) ..).trans (withChain_chain hchain ..)

/-- GET_CERTIFICATE of a portion of the chain (R466). -/
theorem getCertificateEffect_portion (hon : OnConnection d p 0x82 c) (hstage : 3 ≤ c.stage) (halgs : c.noAlgs = false)
    (hchain : d.att.chain.isEmpty = false) {off : Nat} (hoff : off < d.att.chain.length) (len : Nat) (req : List Byte) :
    getCertificateEffect p 0 off len req d =
      let k := min len (d.att.chain.length - off)
      let r := [connVersion (some c), 0x02, 0, 0] ++ leBytes 2 k ++ leBytes 2 (d.att.chain.length - off - k) ++
        bufBytes d.att.chain off k
      spdmDeliver p { unchunked c with transB := c.transB ++ req ++ r } r d :=
  (spdmRequest_chain hon hstage halgs hchain ..).trans (if_neg (by simp [hoff]))

/-- Another slot, or an offset behind the chain, is an invalid request (R466). -/
theorem getCertificateEffect_invalid (hon : OnConnection d p 0x82 c) (hstage : 3 ≤ c.stage) (halgs : c.noAlgs = false)
    (hchain : d.att.chain.isEmpty = false) {slot off : Nat} (hbad : slot ≠ 0 ∨ d.att.chain.length ≤ off) (len : Nat) (req : List Byte) :
    getCertificateEffect p slot off len req d = spdmSend p (spdmError (connVersion (some c)) 0x01 0 []) (setConn p (unchunked c) d) :=
  (spdmRequest_chain hon hstage halgs hchain ..).trans (if_pos (by simpa using hbad))

/-- A signed challenge (R467, R471). -/
theorem challengeEffect_signed (hon : OnConnection d p 0x83 c) (hstage : 3 ≤ c.stage) (halgs : c.noAlgs = false)
    (hchain : d.att.chain.isEmpty = false) {sum : Nat} (hsum : sum = 0 ∨ sum = 1 ∨ sum = 0xFF) (req : List Byte) (ready : Bool) :
    challengeEffect p req 0 sum ready d =
      let body := [connVersion (some c), 0x03, 0x00, 0x01] ++ sha3_256 d.att.chain ++ freeBytes d 32 ++
        summaryHash d p.transport sum ++ leBytes 2 0 ++ requesterContext (unchunked c) req
      spdmSigning p { unchunked c with transB := [] } 0x83 ready body (aliasSign (tookFree 32 d) (signingMessage c.version
        "responder-challenge_auth signing" (c.vca ++ c.transB ++ req ++ body))) (tookFree 64 d) := by
  refine (spdmRequest_chain hon hstage halgs hchain ..).trans ((if_neg ?_).trans ?_)
  · rcases hsum with rfl | rfl | rfl <;> decide
  · rw [← tookFree_twice]
    rfl

/-- One of another slot or summary is an invalid request (R467). -/
theorem challengeEffect_invalid (hon : OnConnection d p 0x83 c) (hstage : 3 ≤ c.stage) (halgs : c.noAlgs = false)
    (hchain : d.att.chain.isEmpty = false) {slot sum : Nat} (hbad : slot ≠ 0 ∨ (sum ≠ 0 ∧ sum ≠ 1 ∧ sum ≠ 0xFF)) (req : List Byte)
    (ready : Bool) : challengeEffect p req slot sum ready d =
      spdmSend p (spdmError (connVersion (some c)) 0x01 0 []) (setConn p (unchunked c) d) := by
  refine (spdmRequest_chain hon hstage halgs hchain ..).trans (if_pos ?_)
  rcases hbad with h | ⟨h0, h1, h2⟩
  · simp [h]
  · simp [h0, h1, h2]

/-- The count of the blocks, unsigned (R470). -/
theorem getMeasurementsEffect_count (hon : OnConnection d p 0xE0 c) (hstage : 3 ≤ c.stage) (hchain : d.att.chain.isEmpty = false)
    (req : List Byte) (ready : Bool) : getMeasurementsEffect p req 0 false ready d =
      let body := [connVersion (some c), 0x60, BitVec.ofNat 8 (visibleBlocks d p.transport).length, 0, 0] ++ leBytes 3 0 ++
        freeBytes d 32 ++ leBytes 2 0 ++ requesterContext (unchunked c) req
      spdmDeliver p { unchunked c with transL := c.transL ++ req ++ body } body (tookFree 32 d) := by
  refine (spdmRequest_open hon hstage (.inl rfl) ..).trans ?_
  rw [ensureChain_kept_chain hchain]
  rfl

/-- Some block is always visible (R470). -/
theorem visibleBlocks_ne_nil (d : Device) (transport : Nat) : (visibleBlocks d transport).isEmpty = false := by
  simp [visibleBlocks]

/-- Every block, signed (R467, R470). -/
theorem getMeasurementsEffect_signed (hon : OnConnection d p 0xE0 c) (hstage : 3 ≤ c.stage) (halgs : c.noAlgs = false)
    (hchain : d.att.chain.isEmpty = false) (req : List Byte) (ready : Bool) : getMeasurementsEffect p req 0xFF true ready d =
      let rec_ := (visibleBlocks d p.transport).flatMap (·.2)
      let body := [connVersion (some c), 0x60, 0, 0, BitVec.ofNat 8 (visibleBlocks d p.transport).length] ++
        leBytes 3 rec_.length ++ rec_ ++ freeBytes d 32 ++ leBytes 2 0 ++ requesterContext (unchunked c) req
      spdmSigning p { unchunked c with transL := [] } 0xE0 ready body (aliasSign (tookFree 32 d) (signingMessage c.version
        "responder-measurements signing" (c.vca ++ (c.transL ++ req ++ body)))) (tookFree 64 d) := by
  refine (spdmRequest_open hon hstage (.inr halgs) ..).trans ?_
  rw [ensureChain_kept_chain hchain]
  refine (if_neg ?_).trans ?_
  · simp [visibleBlocks_ne_nil, hchain]
  · rw [← tookFree_twice]
    rfl

/-- The held response for its token (R467). -/
theorem respondIfReadyEffect_held (hon : OnConnection d p 0xFF c) (hstage : 3 ≤ c.stage) {code tok : Nat} {msg : List Byte}
    (hheld : c.held = some (code, tok, msg)) : respondIfReadyEffect p tok d = spdmDeliver p { unchunked c with held := none } msg d := by
  refine (spdmRequest_open hon hstage (.inl rfl) ..).trans ?_
  have hheld' : (unchunked c).held = some (code, tok, msg) := hheld
  rw [hheld']
  exact if_pos rfl

/-- Another token is an invalid request (R467). -/
theorem respondIfReadyEffect_invalid (hon : OnConnection d p 0xFF c) (hstage : 3 ≤ c.stage) {tok : Nat}
    (hheld : ∀ code msg, c.held ≠ some (code, tok, msg)) : respondIfReadyEffect p tok d =
      spdmSend p (spdmError (connVersion (some c)) 0x01 0 []) (setConn p (unchunked c) d) := by
  refine (spdmRequest_open hon hstage (.inl rfl) ..).trans ?_
  rcases h : c.held with - | ⟨code, t, msg⟩
  · have h' : (unchunked c).held = none := h
    rw [h']
    rfl
  · have h' : (unchunked c).held = some (code, t, msg) := h
    rw [h']
    refine if_neg (fun ht => ?_)
    subst ht
    exact hheld _ _ h

end

/-! ### Chunks -/

section
variable {d : Device} {p : Peer} {c : SpdmConn} (hup : peerUp d p = true) (hserves : hart1Serves d = true)
  (hconn : connOf d p = some c) (hstage : 2 ≤ c.stage)
include hup hserves hconn hstage

/-- The first chunk of a large request is acknowledged and kept (R466). -/
theorem chunkSendEffect_first (hnone : c.chunkIn = none) {b : List Byte} (hlen : b.length ≤ 16384) (h : Nat) :
    chunkSendEffect p h 0 false b d = spdmSend p ([connVersion (some c), 0x05, 0x00, BitVec.ofNat 8 h] ++ leBytes 2 0)
      (setConn p { c with chunkIn := some (h, 1, b) } d) := by
  refine (spdmChunk_open hup hserves hconn hstage ..).trans ?_
  simp [hnone, Nat.not_lt.mpr hlen]

/-- The last chunk completes the request, which is answered behind the acknowledgement (R466). -/
theorem chunkSendEffect_last {h n : Nat} {a b : List Byte} (hin : c.chunkIn = some (h, n, a)) (hlen : (a ++ b).length ≤ 16384) :
    chunkSendEffect p h n true b d = spdmRaw p (a ++ b) (let d := setConn p { c with chunkIn := none } d
      { d with att := { d.att with ack := [connVersion (some c), 0x05, 0x00, BitVec.ofNat 8 h] ++ leBytes 2 n } }) := by
  refine (spdmChunk_open hup hserves hconn hstage ..).trans ?_
  simp only [hin, and_self, if_true]
  exact if_neg (Nat.not_lt.mpr hlen)

/-- A chunk of another handle or out of sequence ends the transfer (R466). -/
theorem chunkSendEffect_wrong {h n k m : Nat} {a : List Byte} (hin : c.chunkIn = some (h, n, a)) (hwrong : k ≠ h ∨ m ≠ n)
    (last : Bool) (b : List Byte) : chunkSendEffect p k m last b d =
      spdmSend p (spdmError (connVersion (some c)) 0x01 0 []) (setConn p { c with chunkIn := none } d) := by
  refine (spdmChunk_open hup hserves hconn hstage ..).trans ?_
  have hne : ¬ (h = k ∧ n = m) := fun ⟨hk, hm⟩ => by
    rcases hwrong with h | h
    · exact h hk.symm
    · exact h hm.symm
  simp only [hin, if_neg hne]

/-- The last chunk of a large response (R466). -/
theorem chunkGetEffect_last {h n : Nat} {b : List Byte} (hout : c.chunkOut = some (h, n + 1, b))
    (hlen : b.length ≤ dataTransferSize p - 12) : chunkGetEffect p h (n + 1) d =
      spdmSend p ([connVersion (some c), 0x06, 1, BitVec.ofNat 8 h] ++ leBytes 2 (n + 1) ++ zeros 2 ++ leBytes 4 b.length ++ b)
        (setConn p { c with chunkOut := none } d) := by
  refine (spdmChunk_open hup hserves hconn hstage ..).trans ?_
  simp [hout, List.take_of_length_le hlen, List.drop_eq_nil_of_le hlen, flag]

/-- Without a large response a chunk is an unexpected request (R466). -/
theorem chunkGetEffect_none (hout : c.chunkOut = none) (h n : Nat) : chunkGetEffect p h n d =
    spdmSend p (spdmError (connVersion (some c)) 0x04 0 []) (setConn p c d) := by
  refine (spdmChunk_open hup hserves hconn hstage ..).trans ?_
  rw [hout]

end

/-- A response on an I3C port follows the acknowledgement of the chunk that asked for it (R466). -/
theorem spdmSend_port0 {p : Peer} (h : p.transport = 0x18) (body : List Byte) (d : Device) :
    spdmSend p body d = respond 0 ([0x05] ++ (d.att.ack ++ body)) { d with att := { d.att with ack := [] } } := by
  simp [spdmSend, h]

/-- Settles O48, clause by clause: the requests on a connection, chunks, and the refusals. -/
theorem spdmSessions : Obligations.SpdmSessions := by
  unfold Obligations.SpdmSessions
  refine ⟨fun s p hup hserves hconn hld => exec_next rfl (getVersionEffect_new hup hserves hconn hld),
    fun s p c hup hserves hconn => exec_next rfl (getVersionEffect_again hup hserves hconn),
    fun s p c req hon hstage hversion => exec_next rfl ((spdmRequest_open hon hstage (.inl rfl) ..).trans (if_neg ?_)),
    fun s p c req sha mldsa hon hstage => exec_next rfl (spdmRequest_open hon hstage (.inl rfl) ..),
    fun s p c req hon hstage halgs hchain => exec_next rfl (spdmRequest_chain hon hstage halgs hchain ..),
    fun s p c off len req hon hstage halgs hchain hoff => exec_next rfl
      (getCertificateEffect_portion hon hstage halgs hchain hoff len req),
    fun s p c slot off len req hon hstage halgs hchain hbad => exec_next rfl
      (getCertificateEffect_invalid hon hstage halgs hchain hbad len req),
    fun s p c req nonce sum ready hon hstage halgs hchain hsum => ⟨_, _, _, exec_next rfl
      (challengeEffect_signed hon hstage halgs hchain hsum req ready), rfl, rfl, rfl⟩,
    fun s p c req nonce slot sum ready hon hstage halgs hchain hbad => exec_next rfl
      (challengeEffect_invalid hon hstage halgs hchain hbad req ready),
    fun s p c req nonce ready hon hstage hchain => ⟨_, exec_next rfl
      (getMeasurementsEffect_count hon hstage hchain req ready), rfl⟩,
    fun s p c req nonce ready hon hstage halgs hchain => ⟨_, _, exec_next rfl
      (getMeasurementsEffect_signed hon hstage halgs hchain req ready), rfl, rfl⟩,
    fun p c code ready body sig d => ⟨rfl, rfl⟩,
    fun s p c code tok msg hon hstage hheld => exec_next rfl (respondIfReadyEffect_held hon hstage hheld),
    fun s p c tok hon hstage hheld => exec_next rfl (respondIfReadyEffect_invalid hon hstage hheld),
    fun s p c code r hon hstage halgs => exec_next rfl ((if_pos hon.2.1).trans (spdmRequest_open hon hstage (.inr halgs) ..)),
    fun s p c code hon => exec_next rfl (spdmRequest_open hon (Nat.zero_le _) (.inl rfl) ..),
    fun s p c h b hup hserves hconn hstage hnone hlen => exec_next rfl
      (chunkSendEffect_first hup hserves hconn hstage hnone hlen h),
    fun s p c h n a b hup hserves hconn hstage hin hlen => exec_next rfl
      (chunkSendEffect_last hup hserves hconn hstage hin hlen),
    fun p body d hport => spdmSend_port0 hport body d,
    fun s p c h n k m last a b hup hserves hconn hstage hin hwrong => exec_next rfl
      (chunkSendEffect_wrong hup hserves hconn hstage hin hwrong last b),
    fun s p c h n b hup hserves hconn hstage hout hlen => exec_next rfl
      (chunkGetEffect_last hup hserves hconn hstage hout hlen),
    fun s p c h n hup hserves hconn hstage hout => exec_next rfl (chunkGetEffect_none hup hserves hconn hstage hout h n),
    fun s p req code h n hup hserves htamper hconn => ⟨exec_next rfl (spdmRequest_resynch hup hserves htamper hconn ..),
      exec_next rfl (spdmRequest_resynch hup hserves htamper hconn ..), exec_next rfl (spdmRequest_resynch hup hserves htamper hconn ..),
      exec_next rfl (spdmChunk_resynch hup hserves hconn ..)⟩,
    fun s p c req hon h => exec_next rfl (spdmRequest_early hon (h.imp_right (And.intro rfl)) ..),
    fun s p req hup hserves htamper => exec_next rfl ((spdmRequest_tamper hup hserves htamper (by decide) ..).trans rfl),
    fun s p req h n hup hserves => ⟨exec_next rfl (getVersionEffect_held hup hserves), exec_next rfl (spdmRequest_held hup hserves ..),
      exec_next rfl (spdmChunk_held hup hserves ..)⟩,
    fun p raw d hport => dif_neg (Nat.not_lt.mpr hport),
    fun s p req h n hdown hnone => ⟨exec_same rfl ((getVersionEffect_down hdown).trans (dropSpdm_none hnone)),
      exec_same rfl ((spdmRequest_down hdown ..).trans (dropSpdm_none hnone)),
      exec_same rfl ((spdmChunk_down hdown ..).trans (dropSpdm_none hnone))⟩,
    fun s p req o h n hup hld hrsp => ⟨exec_next rfl ((getVersionEffect_down (peerUp_pending hld hrsp)).trans (dropSpdm_pending hld hrsp hup)),
      exec_next rfl ((spdmRequest_down (peerUp_pending hld hrsp) ..).trans (dropSpdm_pending hld hrsp hup)),
      exec_next rfl ((spdmChunk_down (peerUp_pending hld hrsp) ..).trans (dropSpdm_pending hld hrsp hup))⟩⟩
  rcases hversion with h | h <;> simp [h]

end Sys2Proof.Machine
end

section
/-! PROOFS. The runtime sweep (spec/16_attestation_and_sweep.md, R475–R480). -/

namespace Sys2Proof.Machine

open Sys2Proof

/-! ### Registration -/

section
variable {d : Device} {ld : Ld} {v : Word} (hup : cxlUp d = true)
include hup

/-- A Register that its conditions refuse leaves its outcome (R475). -/
theorem sweepCommand_refused (hcmd : field v 0 2 = 1) (hbad : registerOutcome d ld (bit v 4) (bit v 5) ≠ 0) :
    sweepCommand ld v d = sweepResult ld (registerOutcome d ld (bit v 4) (bit v 5)) 0 d :=
  (if_neg (by simp [hup])).trans ((if_pos hcmd).trans (if_pos hbad))

/-- One that they accept adds the region under the lowest free number, which is due (R475). -/
theorem sweepCommand_registers (hcmd : field v 0 2 = 1) (hgood : registerOutcome d ld (bit v 4) (bit v 5) = 0) :
    sweepCommand ld v d = sweepResult ld 0 (freeRegion d ld)
      (hartEvent 1 0x0C20 1 [ld, freeRegion d ld, (ldOf d ld).swpBase, (ldOf d ld).swpUnits]
        { d with cx := { d.cx with
          regions := d.cx.regions ++ [
            { ld := ld, no := freeRegion d ld, base := (ldOf d ld).swpBase, units := (ldOf d ld).swpUnits,
              period := (ldOf d ld).swpPeriod, compare := bit v 4, attest := bit v 5,
              expected := if bit v 4 then (ldOf d ld).swpExp else zeros 64 }],
          due := d.cx.due ++ [(ld.val, freeRegion d ld)] } }) :=
  (if_neg (by simp [hup])).trans ((if_pos hcmd).trans (if_neg (by simp [hgood])))

/-- An Unregister of a region that there is not leaves outcome 6 (R475). -/
theorem sweepCommand_noRegion (hcmd : field v 0 2 = 2) (hnone : regionOf d ld (field v 8 6) = none) :
    sweepCommand ld v d = sweepResult ld 6 (field v 8 6) d :=
  (if_neg (by simp [hup])).trans ((if_neg (by simp [hcmd])).trans ((if_pos hcmd).trans (if_pos (by simp [hnone]))))

/-- One of a region that there is removes it (R475). -/
theorem sweepCommand_unregisters (hcmd : field v 0 2 = 2) (hsome : regionOf d ld (field v 8 6) ≠ none) :
    sweepCommand ld v d = sweepResult ld 0 (field v 8 6) (unregister ld (field v 8 6) 6 d) :=
  (if_neg (by simp [hup])).trans ((if_neg (by simp [hcmd])).trans ((if_pos hcmd).trans (if_neg (by simp [hsome]))))

end

/-! ### Due regions -/

/-- A region whose Period and MinPeriodMs have elapsed becomes due (R478). -/
theorem sweepRegionDueEffect_due {d : Device} {ld : Ld} {r : Nat} {g : SweepRegion} {q : SweepRec} (hmain : mainRuns d = true)
    (hregion : regionOf d ld r = some g) (hdue : (ld.val, r) ∉ d.cx.due) (hrec : sweepRec (curLeaf d) ld = some q)
    (hover : ∀ t, g.started = some t → t + max g.period q.minPeriodMs ≤ vget d.cx.millis ld) :
    sweepRegionDueEffect ld r d = { d with cx := { d.cx with due := d.cx.due ++ [(ld.val, r)] } } := by
  have hperiod : periodOver d ld g = true := by
    unfold periodOver
    split
    · rfl
    · rename_i t ht
      simpa [hrec] using hover t ht
  exact if_neg (by simp [hmain, hregion, hperiod, hdue])

/-- One whose Period has not does not (R478). -/
theorem sweepRegionDueEffect_early {d : Device} {ld : Ld} {r t : Nat} {g : SweepRegion} (hregion : regionOf d ld r = some g)
    (hstarted : g.started = some t) (hearly : vget d.cx.millis ld < t + g.period) : sweepRegionDueEffect ld r d = d := by
  have hperiod : periodOver d ld g = false := by
    simp only [periodOver, hstarted, decide_eq_false_iff_not, Nat.not_le]
    exact Nat.lt_of_lt_of_le hearly (Nat.add_le_add_left (Nat.le_max_left ..) t)
  exact if_pos (by simp [hregion, hperiod])

/-! ### Passes -/

/-- The popped pass starts on a context of hart 1 (R478). -/
theorem startPass_starts {d : Device} {c : Context} {ld no n : Nat} (hpopped : d.cx.popped = some (ld, no))
    (hregion : regionOf d ld no ≠ none) (hpass : passOf d ld = none) (hdue : (ld, no) ∈ d.cx.due) (hok : sweepCtxOk d n = true)
    (hctx : ctxOf d.dg n = some c) : startPass n d =
      issueReads ld (modRegion ld no (fun r => { r with state := 2, started := some (vget d.cx.millis ld) }) { d with
        dg := setCtx d.dg { c with tap := some { kind := 4, dev := ld, start := 0, next := 0 }, bound := some (4, ld, 0, d.tx.epoch) }
        cx := { d.cx with due := d.cx.due.filter (· != (ld, no)), passes := d.cx.passes ++
          [{ ld := ld, no := no, ctx := n, issued := 0, delivered := 0, arrived := [], oldUpTo := 0 }] } }) := by
  unfold startPass
  simp only [hpopped]
  rw [if_neg (by simp [hregion, hpass, hdue, hok]), hctx]

section
variable {d : Device} {ld : Ld} {off : Nat} {p : SweepPass} (hpass : passOf d ld = some p)
include hpass

/-- A completion outside the reads of the pass is none of it (R476). -/
theorem sweepReadCompletionEffect_outside (hout : off < p.delivered ∨ p.issued ≤ off) (st : Nat) (b : List Byte) :
    sweepReadCompletionEffect ld off st b d = d := by
  unfold sweepReadCompletionEffect
  rw [hpass]
  exact if_pos (by rcases hout with h | h <;> simp [h])

variable (hmain : mainRuns d = true)
include hmain

/-- A completion of a read of the pass that has not come yet (R476). -/
theorem sweepReadCompletionEffect_of (halign : off % 256 = 0) (hlow : p.delivered ≤ off) (hhigh : off < p.issued)
    (hnew : ∀ a ∈ p.arrived, a.1 ≠ off) (st : Nat) (b : List Byte) : sweepReadCompletionEffect ld off st b d =
      if st ≠ 0 then endPass ld (if st = 3 then 3 else 1) d
      else
        let d2 := sweepFaults (deliverReads 1025 ld (setPass { p with arrived := p.arrived ++ [(off, padTo 256 b)] } d))
        match passOf d2 ld, regionOf d2 ld p.no with
        | some q, some g => if 4096 * g.units ≤ q.delivered then endPass ld 0 d2 else issueReads ld d2
        | _, _ => d2 := by
  unfold sweepReadCompletionEffect
  rw [hpass]
  have hnone : p.arrived.any (fun a => a.1 == off) = false := by simpa only [List.any_eq_false, beq_iff_eq] using hnew
  exact if_neg (by simp only [hnone, hmain, halign, Nat.not_lt.mpr hlow, Nat.not_le.mpr hhigh]; decide)

/-- A read that has no completion for 50 ms ends the pass (R479). -/
theorem sweepReadTimeoutEffect_ends (hopen : p.delivered + arrivedBytes p < p.issued) :
    sweepReadTimeoutEffect ld d = endPass ld 2 d := by
  unfold sweepReadTimeoutEffect
  rw [hpass]
  exact if_pos (by simp [hmain, hopen])

end

/-- A millisecond fills the bucket of an LD at its rate cap (R477). -/
theorem sweepBucketRefillEffect_fills {d : Device} {ld : Ld} {r : SweepRec} (hrec : sweepRec (curLeaf d) ld = some r)
    (hmain : mainRuns d = true) : sweepBucketRefillEffect ld d =
      issueReads ld (setBucket ld (min 65536 (vget d.cx.buckets ld + 1000 * r.rateCapMBps))
        { d with cx := { d.cx with millis := vmod d.cx.millis ld (· + 1) } }) := by
  simp only [sweepBucketRefillEffect, hmain, hrec, Bool.not_true, Bool.false_eq_true, if_false]

/-! ### Results -/

/-- The region that a change of it finds (R479). -/
theorem regionOf_modRegion {d : Device} {ld no : Nat} {r : SweepRegion} (hregion : regionOf d ld no = some r)
    {f : SweepRegion → SweepRegion} (hf : ∀ x, (f x).ld = x.ld ∧ (f x).no = x.no) :
    regionOf (modRegion ld no f d) ld no = some (f r) := by
  have hkey : (fun x : SweepRegion => x.ld == ld && x.no == no) ∘ (fun x => if x.ld == ld && x.no == no then f x else x) =
      fun x => x.ld == ld && x.no == no := by
    funext x
    dsimp only [Function.comp]
    split
    · rw [(hf x).1, (hf x).2]
    · rfl
  unfold regionOf modRegion at *
  rw [List.find?_map, hkey, hregion]
  exact congrArg some (if_pos (List.find?_some hregion))

/-- A result posted to a region stands in it (R479). -/
theorem regionOf_postResult (d : Device) (ld no result cause : Nat) (r : SweepRegion) (hregion : regionOf d ld no = some r) :
    regionOf (postResult ld no result cause d) ld no = some
      { r with lastResult := result, lastCause := cause, passes := if within 1 4 result then satAdd 16 r.passes 1 else r.passes,
               digest := if within 1 3 result then d.cx.swpDig else r.digest } := by
  have hevent := fun code sev ps e => hartEvent_same (fun e => regionOf e ld no) (fun _ _ _ => rfl) 1 code sev ps e
  have halert : ∀ (c : Prop) [Decidable c] (f : LogicalDev → LogicalDev) (e : Device),
      regionOf (if c then modLd ld f e else e) ld no = regionOf e ld no := fun c _ f e => by split <;> rfl
  have hmod := regionOf_modRegion hregion (f := fun x => { x with
    lastResult := result, lastCause := cause, passes := if within 1 4 result then satAdd 16 r.passes 1 else r.passes,
    digest := if within 1 3 result then d.cx.swpDig else x.digest }) (fun _ => ⟨rfl, rfl⟩)
  unfold postResult
  simp only [hregion]
  split
  · exact (hevent ..).trans ((halert ..).trans hmod)
  · split
    · exact (hevent ..).trans ((halert ..).trans hmod)
    · exact (halert ..).trans hmod

/-- A hart that reads control registers is neither held nor stalled. -/
theorem MayRead.go {d : Device} {h : Hart} (hmay : MayRead d h) : ¬ (!mainRuns d || hartStalled d h) = true := by
  obtain ⟨hmain, hgo⟩ := hmay
  simp [hmain, hgo]

/-- A command of hart 1 to the sweep engine. -/
theorem onlyHart1_may {d : Device} {b : Nat} (hmay : MayWrite d 1 b) (addr : Nat) (f : Device → Device) :
    onlyHart 1 1 b addr f d = f d := (onlyHart_may hmay ..).trans (if_pos rfl)

/-- Settles O49, clause by clause: registration, due regions, passes, completions and results. -/
theorem runtimeSweep : Obligations.RuntimeSweep := by
  unfold Obligations.RuntimeSweep
  refine ⟨fun s ld v hup hcmd hbad => exec_next rfl (sweepCommand_refused hup hcmd hbad),
    fun s ld v hup hcmd hgood => ⟨_, exec_next rfl (sweepCommand_registers hup hcmd hgood), ?_⟩,
    fun d ld cmp att hnone => by simp only [registerOutcome, hnone],
    fun d ld cmp att r hrec hout => by simp [registerOutcome, hrec, hout],
    fun s ld v hup hcmd hnone => exec_next rfl (sweepCommand_noRegion hup hcmd hnone),
    fun s ld v hup hcmd hsome => exec_next rfl (sweepCommand_unregisters hup hcmd hsome),
    fun s ld r g q hmain hregion hdue hrec hover => exec_next rfl (sweepRegionDueEffect_due hmain hregion hdue hrec hover),
    fun s ld r t g hregion hstarted hearly => exec_same rfl (sweepRegionDueEffect_early hregion hstarted hearly),
    fun s r hmay hnext => exec_next rfl ((if_neg hmay.go).trans ((if_neg (by decide)).trans (by rw [hnext]))),
    fun s h hmay hne => ⟨exec_next rfl ((if_neg hmay.go).trans (if_pos hne)),
      exec_next rfl ((if_neg hmay.go).trans (if_pos hne))⟩,
    fun s v c ld no hmay hgo hpopped hregion hpass hdue hok hctx => exec_next rfl ((onlyHart1_may hmay ..).trans
      ((if_pos hgo).trans (startPass_starts hpopped hregion hpass hdue hok hctx))),
    fun s h v hmay hne => ⟨exec_same rfl ((onlyHart_may hmay ..).trans (if_neg (fun h1 => hne (Fin.ext h1)))),
      exec_same rfl ((onlyHart_may hmay ..).trans (if_neg (fun h1 => hne (Fin.ext h1))))⟩,
    fun s ld off st b p hpass hmain halign hlow hhigh hnew hst => exec_next rfl
      ((sweepReadCompletionEffect_of hpass hmain halign hlow hhigh hnew st b).trans (if_pos hst)),
    fun s ld off st b p hpass hout => exec_same rfl (sweepReadCompletionEffect_outside hpass hout st b),
    fun s ld b p q g hpass hmain halign hopen harrived hq hg => exec_next rfl ?_,
    fun s ld p hpass hmain hopen => exec_next rfl (sweepReadTimeoutEffect_ends hpass hmain hopen),
    fun s ld r hrec hmain => exec_next rfl (sweepBucketRefillEffect_fills hrec hmain),
    fun s e tl hmay hends => exec_next rfl ((if_neg hmay.go).trans ((if_neg (by decide)).trans (by rw [hends]))),
    fun s v hmay hgo => exec_next rfl ((onlyHart1_may hmay ..).trans (if_pos hgo)),
    regionOf_postResult⟩
  · have hld := ldOf_modLd ld (fun l => { l with swpOutcome := 0, swpRegion := freeRegion s.dev ld, swpDone := true })
      (hartEvent 1 0x0C20 1 [ld, freeRegion s.dev ld, (ldOf s.dev ld).swpBase, (ldOf s.dev ld).swpUnits]
        { s.dev with cx := { s.dev.cx with
          regions := s.dev.cx.regions ++ [
            { ld := ld, no := freeRegion s.dev ld, base := (ldOf s.dev ld).swpBase, units := (ldOf s.dev ld).swpUnits,
              period := (ldOf s.dev ld).swpPeriod, compare := bit v 4, attest := bit v 5,
              expected := if bit v 4 then (ldOf s.dev ld).swpExp else zeros 64 }],
          due := s.dev.cx.due ++ [(ld.val, freeRegion s.dev ld)] } })
    refine ⟨congrArg LogicalDev.swpOutcome hld, congrArg LogicalDev.swpDone hld, congrArg LogicalDev.swpRegion hld, ?_, ?_, ?_, ?_⟩ <;>
      simp [sweepResult, modLd]
  · refine (sweepReadCompletionEffect_of hpass hmain halign (Nat.le_refl _) hopen (by simp [harrived]) 0 b).trans
      ((if_neg (by decide)).trans ?_)
    simp only [harrived, List.nil_append, hq, hg]

end Sys2Proof.Machine
end

section
/-! PROOFS. The I3C ports: channel access and common command codes (spec/17_mailboxes.md, R489, R492, R495, R496). -/

namespace Sys2Proof.Machine

open Sys2Proof

/-! ### Channel access -/

section
variable {d : Device} {m : Mport} {c : Nat} {old : Bool}

theorem portPost_posted (v : Word) (h : postAnswer d old (portAid m) c = .posted) :
    portPost m c v old d = acked [] (postDone old (portAid m) c v d) := by
  simp only [portPost, h]

theorem portPost_full (v : Word) (h : postAnswer d old (portAid m) c = .full) :
    portPost m c v old d = nackFull m (postRefused (portAid m) c d) := by
  simp only [portPost, h]

theorem portPost_notSender (v : Word) (h : postAnswer d old (portAid m) c = .notSender) : portPost m c v old d = nacked d := by
  simp only [portPost, h]

/-- A post that its tag's leaf allows, at a channel whose ends the couch instant has moved, is accepted (R487). -/
theorem postAnswer_moved {aid : Nat} (hmoved : endsMoved d c = true) (hsends : sends (postLeaf d true) aid c = true) :
    postAnswer d true aid c = .posted :=
  (if_pos (by simp [hmoved])).trans (if_pos hsends)

theorem cccPostEffect_selected (v : Word) (halive : cccAlive d m = true) (hselect : (i3cAt d m).select = some c) :
    cccPostEffect m v old d = portPost m c v old d := by
  simp only [cccPostEffect, halive, hselect, Bool.not_true, Bool.false_eq_true, if_false]

/-- A post by common command code, with the wake of its barker (R495, R557). -/
theorem cccPostWake_selected (v : Word) (halive : cccAlive d m = true) (hselect : (i3cAt d m).select = some c) :
    cccPostWake m v old d =
      if postWakes d m old c then wakeSource 1 (sleptTicks d) (portPost m c v old d) else portPost m c v old d := by
  simp only [cccPostWake, cccPostEffect_selected v halive hselect, halive, hselect, Option.any_some, Bool.true_and]

/-- A post in I2C mode, with the wake of its barker (R495, R557). -/
theorem i2cPostWake_up (v : Word) (hup : islandUp d = true) (hmode : i3cMode d m = 2) :
    i2cPostWake m c v old d =
      if postWakes d m old c then wakeSource 1 (sleptTicks d) (portPost m c v old d) else portPost m c v old d := by
  have hpost : i2cChannelPostEffect m c v old d = portPost m c v old d := if_pos (by simp [hup, hmode])
  simp only [i2cPostWake, hpost, hup, hmode, beq_self_eq_true, Bool.true_and]

theorem cccTakeEffect_selected (halive : cccAlive d m = true) (hselect : (i3cAt d m).select = some c) :
    cccTakeEffect m d = portTake m c d := by
  simp only [cccTakeEffect, halive, hselect, Bool.not_true, Bool.false_eq_true, if_false]

theorem cccTakeEffect_unselected (halive : cccAlive d m = true) (hselect : (i3cAt d m).select = none) :
    cccTakeEffect m d = acked (zeros 6) d := by
  simp only [cccTakeEffect, halive, hselect, Bool.not_true, Bool.false_eq_true, if_false]

end

/-! ### Interrupts -/

section
variable {d : Device} {m : Mport} {i : Nat} {rest : List Nat}

/-- An accepted interrupt of a channel carries it (R489). -/
theorem ibiAcceptedEffect_channel (halive : cccAlive d m = true) (hibis : (i3cAt d m).ibis = i :: rest) (hi : i ≠ pendingRead) :
    ibiAcceptedEffect m true d = acked [0xE5, BitVec.ofNat 8 i] (modI3c m (fun p => { p with ibis := rest }) d) := by
  simp only [ibiAcceptedEffect, halive, hibis, hi, Bool.not_true, Bool.false_eq_true, if_false]

theorem ibiAcceptedEffect_refused (halive : cccAlive d m = true) (hibis : (i3cAt d m).ibis = i :: rest) :
    ibiAcceptedEffect m false d = nacked d := by
  simp only [ibiAcceptedEffect, halive, hibis, Bool.not_true, Bool.not_false, Bool.false_eq_true, if_false, if_true]

theorem ibiAcceptedEffect_none {ack : Bool} (hibis : (i3cAt d m).ibis = []) : ibiAcceptedEffect m ack d = d := by
  simp only [ibiAcceptedEffect, hibis, ite_self]

/-- The pending-read interrupt of the last response brings its packet (R493). -/
theorem ibiAcceptedEffect_response {pk : List Byte} (halive : cccAlive d m = true) (hibis : (i3cAt d m).ibis = [pendingRead])
    (htx : (i3cAt d m).tx = [pk]) :
    ibiAcceptedEffect m true d =
      acked (0xAE :: i3cFrame (i3cAt d m) pk) (modI3c m (fun q => { q with tx := [], ibis := [] }) d) := by
  simp [ibiAcceptedEffect, halive, hibis, htx]

end

/-! ### Common command codes -/

section
variable {d : Device} {m : Mport}

theorem ccc_awake {f : Device → Device} (hawake : cccAwake d m = true) : ccc m f d = f d := if_pos hawake

theorem ccc_asleep {f : Device → Device} (hasleep : cccAwake d m = false) : ccc m f d = nacked d := if_neg (by simp [hasleep])

theorem cccSet_asleep {f : I3cPort → I3cPort} (hasleep : cccAwake d m = false) : cccSet m f d = nacked d := ccc_asleep hasleep

theorem cccSet_awake {f : I3cPort → I3cPort} (hawake : cccAwake d m = true) : cccSet m f d = acked [] (modI3c m f d) :=
  ccc_awake hawake

/-- A command that the port answers and that changes nothing of it. -/
theorem ccc_nacked {f : Device → Device} (hawake : cccAwake d m = true) (h : f d = nacked d) : ccc m f d = nacked d :=
  (ccc_awake hawake).trans h

theorem i3cAt_assignAddress (a k : Nat) :
    i3cAt (assignAddress m a k d) m = { i3cAt d m with daValid := true, dynAddr := a } :=
  (event_same (fun e => i3cAt e m) (fun _ _ _ => rfl) ..).trans (i3cAt_modI3c ..)

/-- The target reset pattern resets the port for the actions 1 and 2 (R496). -/
theorem i3cTargetResetEffect_resets (hawake : cccAwake d m = true) (haction : (i3cAt d m).rstAction = 1 ∨ (i3cAt d m).rstAction = 2) :
    i3cTargetResetEffect m d = i3cPortReset m (modI3c m (fun p => { p with rstAction := 1 }) d) :=
  (if_neg (by simp [hawake])).trans (if_pos haction)

/-- After RSTACT with action 0 it only returns the action to its default (R496). -/
theorem i3cTargetResetEffect_noReset (hawake : cccAwake d m = true) (haction : (i3cAt d m).rstAction = 0) :
    i3cTargetResetEffect m d = modI3c m (fun p => { p with rstAction := 1 }) d :=
  (if_neg (by simp [hawake])).trans (if_neg (by simp [haction]))

/-- An address assignment needs a target without an address, and SETDASA the port's own static address (R492). -/
theorem setdasaEffect_assigns {a : Nat} (hawake : cccAwake d m = true) (hnone : (i3cAt d m).daValid = false) :
    setdasaEffect m (i3cStatic d m) a d = assignAddress m a 1 d :=
  (ccc_awake hawake).trans (if_neg (by simp [hnone]))

end

/-- Settles O50, clause by clause from what a post, a take, an interrupt and each common command code do at a port that is
alive, awake or neither. -/
theorem i3cPorts : Obligations.I3cPorts := by
  unfold Obligations.I3cPorts
  refine ⟨fun s m c halive => exec_next rfl (if_pos halive),
    fun s m c v old halive hselect => exec_next (f := cccPostWake m v old) rfl (cccPostWake_selected v halive hselect),
    fun s m c v old hup hmode => exec_next (f := i2cPostWake m c v old) rfl (i2cPostWake_up v hup hmode),
    fun d m c v r hrec hsender hempty =>
      (portPost_posted v (postAnswer_empty (old := false) hrec (.inl rfl) hsender hempty)).trans
        (congrArg (acked []) (postDone_current (.inl rfl) v)),
    fun d m c v r hrec hsender hfull => portPost_full v (postAnswer_full (old := false) hrec (.inl rfl) hsender hfull),
    fun d m c v hother => portPost_notSender v (postAnswer_notSender hother),
    fun d m c v hmoved hsends =>
      (portPost_posted v (postAnswer_moved hmoved hsends)).trans (congrArg (acked []) (postDone_late hmoved v)),
    fun d m c v hother => portPost_notSender v (postAnswer_notSender hother),
    fun s m c halive hselect => exec_next rfl (cccTakeEffect_selected halive hselect),
    fun s m halive hselect => exec_next rfl (cccTakeEffect_unselected halive hselect),
    fun s m c hup hmode hreceives => exec_next rfl (if_pos (by simp [hup, hmode, hreceives])),
    fun s m c hother => exec_next rfl (if_neg (by simp [hother])),
    fun s m i rest halive hibis hi => exec_next rfl (ibiAcceptedEffect_channel halive hibis hi),
    fun s m i rest halive hibis => exec_next rfl (ibiAcceptedEffect_refused halive hibis),
    fun s m a hibis => exec_same rfl (ibiAcceptedEffect_none hibis),
    fun s m c hdead => ⟨exec_next rfl (if_neg (by simp [hdead])), exec_next rfl (if_pos (by simp [hdead]))⟩,
    fun s m hawake => ⟨exec_next rfl (ccc_awake hawake), exec_next rfl (ccc_awake hawake), exec_next rfl (cccSet_awake hawake),
      exec_next rfl (cccSet_awake hawake), exec_next rfl (ccc_awake hawake), exec_next rfl (ccc_awake hawake),
      exec_next rfl (ccc_awake hawake), exec_next rfl (ccc_awake hawake), exec_next rfl (ccc_awake hawake)⟩,
    fun s m n hawake => ⟨exec_next rfl (cccSet_awake hawake), exec_next rfl (cccSet_awake hawake), exec_next rfl (cccSet_awake hawake)⟩,
    fun s m a hawake hnone => ⟨exec_next rfl ((ccc_awake hawake).trans (if_neg (by simp [hnone]))),
      exec_next rfl (setdasaEffect_assigns hawake hnone), exec_next rfl ((ccc_awake hawake).trans (if_neg (by simp [hnone])))⟩,
    fun s m k a hawake hother => exec_next rfl (ccc_nacked hawake (if_pos (by simp [hother]))),
    fun s m k a hawake hvalid => ⟨exec_next rfl (ccc_nacked hawake (if_pos hvalid)),
      exec_next rfl (ccc_nacked hawake (if_pos (by simp [hvalid]))), exec_next rfl ((ccc_awake hawake).trans (if_pos hvalid))⟩,
    fun d m a k => ⟨congrArg (·.daValid) (i3cAt_assignAddress a k), congrArg (·.dynAddr) (i3cAt_assignAddress a k)⟩,
    fun s m halive => exec_next rfl (if_pos halive),
    fun s m hawake haction => exec_next rfl (i3cTargetResetEffect_resets hawake haction),
    fun s m hawake haction => exec_next rfl (i3cTargetResetEffect_noReset hawake haction),
    fun s m hasleep => ⟨exec_next rfl (ccc_asleep hasleep), exec_next rfl (cccSet_asleep hasleep)⟩⟩

end Sys2Proof.Machine
end

section
/-! PROOFS. MCTP on the I3C ports (spec/17_mailboxes.md, R493, R494). -/

namespace Sys2Proof.Machine

open Sys2Proof

/-! ### Packets -/

section
variable {d : Device} {m : Mport} {pk : McPacket}

theorem mctpPacketEffect_room (hmain : mainUp d = true) (hmode : i3cMode d m ≠ 0) (hroom : (i3cAt (drainPackets m d) m).rx.length < 32) :
    mctpPacketEffect m pk d =
      drainPackets m (acked [] (modI3c m (fun p => { p with rx := p.rx ++ [pk] }) (drainPackets m d))) :=
  (if_neg (by simp [hmain, hmode])).trans (if_neg (Nat.not_le.mpr hroom))

theorem mctpPacketEffect_full (hmain : mainUp d = true) (hmode : i3cMode d m ≠ 0) (hfull : 32 ≤ (i3cAt (drainPackets m d) m).rx.length) :
    mctpPacketEffect m pk d = nackFull m (drainPackets m d) :=
  (if_neg (by simp [hmain, hmode])).trans (if_pos hfull)

theorem drainPackets_unserved (hidle : portServed d m = false) : drainPackets m d = d := if_neg (by simp [hidle])

theorem drainPackets_served (hserved : portServed d m = true) :
    drainPackets m d = (i3cAt d m).rx.foldl (fun acc pk => reassemble m pk acc) (modI3c m (fun p => { p with rx := [] }) d) :=
  if_pos hserved

/-- Without a server, and without a packet, the messages stay as they are. -/
theorem drainPackets_idle (h : portServed d m = false ∨ (i3cAt d m).rx = []) :
    (drainPackets m d).mem = d.mem ∧ (i3cAt (drainPackets m d) m).rx = (i3cAt d m).rx ∧
      (i3cAt (drainPackets m d) m).msgs = (i3cAt d m).msgs := by
  cases hserved : portServed d m with
  | false => simp [drainPackets_unserved hserved]
  | true =>
    have hrx : (i3cAt d m).rx = [] := h.resolve_left (by simp [hserved])
    simp [drainPackets_served hserved, hrx]

/-! ### Reassembly -/

theorem reassemble_badCheck (hpec : pk.pecOk = false) (hlive : dropped (i3cAt d m) pk = false) :
    reassemble m pk d = discardMessage m pk.src pk.tag 3 (!pk.eom) d :=
  (if_neg (by simp [hlive])).trans (if_pos (by simp [hpec]))

theorem reassemble_noStart (hpec : pk.pecOk = true) (hsom : pk.som = false) (hlive : dropped (i3cAt d m) pk = false)
    (hnone : (i3cAt d m).asm.find? (fun a => a.src == pk.src && a.tag == pk.tag) = none) :
    reassemble m pk d = discardMessage m pk.src pk.tag 2 (!pk.eom) d := by
  simp [reassemble, hlive, hpec, hsom, hnone]

/-- A packet of a message already discarded is dropped without a further count or event. -/
theorem reassemble_dropped (hdropped : dropped (i3cAt d m) pk = true) :
    (reassemble m pk d).ev = d.ev ∧ (i3cAt (reassemble m pk d) m).discarded = (i3cAt d m).discarded := by
  have hdrop : reassemble m pk d =
      if pk.eom then modI3c m (fun p => { p with dropping := p.dropping.filter (· != (pk.src, pk.tag)) }) d else d :=
    if_pos hdropped
  rw [hdrop]
  split
  · exact ⟨rfl, by simp⟩
  · exact ⟨rfl, rfl⟩

/-- A message of one packet, accepted, is handed over. -/
theorem extendMessage_whole (heom : pk.eom = true) (hlen : pk.payload.length ≤ 1280) (haccepted : mctpAccepted pk.payload = true) :
    (i3cAt (extendMessage m pk [] d) m).msgs = (i3cAt d m).msgs ++ [(pk.src, pk.tag, pk.payload)] := by
  have hshort : ¬ 1280 < pk.payload.length := by omega
  unfold extendMessage
  simp only [List.nil_append, hshort, heom, haccepted, Bool.not_true, Bool.false_eq_true, if_false, i3cAt_modI3c]

theorem reassemble_whole (hpec : pk.pecOk = true) (hsom : pk.som = true) (heom : pk.eom = true)
    (hnone : (i3cAt d m).asm.find? (fun a => a.src == pk.src && a.tag == pk.tag) = none)
    (hlen : pk.payload.length ≤ 1280) (haccepted : mctpAccepted pk.payload = true) :
    (i3cAt (reassemble m pk d) m).msgs = (i3cAt d m).msgs ++ [(pk.src, pk.tag, pk.payload)] := by
  have hextend : reassemble m pk d =
      extendMessage m pk [] (modI3c m (fun p => { p with dropping := p.dropping.filter (· != (pk.src, pk.tag)) }) d) := by
    simp [reassemble, dropped, hpec, hsom, hnone]
  rw [hextend, extendMessage_whole heom hlen haccepted, i3cAt_modI3c]

theorem discardMessage_discarded (src tag reason : Nat) (more : Bool) :
    (i3cAt (discardMessage m src tag reason more d) m).discarded = satAdd 8 (i3cAt d m).discarded 1 :=
  (event_same (fun e => (i3cAt e m).discarded) (fun _ _ _ => rfl) ..).trans (congrArg (·.discarded) (i3cAt_modI3c ..))

end

/-! ### Answers -/

/-- A message of at most 64 bytes goes in one packet, both its first and its last (R493). -/
theorem mctpPackets_one (dst src tag : Nat) {bs : List Byte} (hlen : bs.length ≤ 64) (hne : bs ≠ []) :
    mctpPackets dst src tag bs =
      [[0x01, BitVec.ofNat 8 dst, BitVec.ofNat 8 src, BitVec.ofNat 8 (0xC0 + tag % 8)] ++ bs] := by
  have hpos : 0 < bs.length := List.length_pos_iff.mpr hne
  have hone : ceilDiv bs.length 64 = 1 := by unfold ceilDiv; omega
  simp [mctpPackets, hone, List.take_of_length_le hlen]

theorem respond_packet (d : Device) (m : Mport) {bs : List Byte} (hlen : bs.length ≤ 64) (hne : bs ≠ []) :
    (i3cAt (respond m bs d) m).tx = (i3cAt d m).tx ++
        [[0x01, BitVec.ofNat 8 (requester (i3cAt d m)).1, BitVec.ofNat 8 (i3cAt d m).eid,
          BitVec.ofNat 8 (0xC0 + (requester (i3cAt d m)).2 % 8)] ++ bs] ∧
      (i3cAt (respond m bs d) m).msgs = (i3cAt d m).msgs.drop 1 ∧ (respond m bs d).reply = bs := by
  have hport (e : Device) : i3cAt (reply bs e) m = i3cAt e m := rfl
  refine ⟨?_, ?_, rfl⟩
  · simp only [respond, respondTo, hport, i3cAt_modI3c, mctpPackets_one _ _ _ hlen hne]
  · simp only [respond, respondTo, hport, i3cAt_modI3c]

section
variable {d : Device} {m : Mport} (hserved : PortServed d m)
include hserved

theorem setEndpointIdEffect_sets {op eid : Nat} (hpos : 0 < eid) (hlt : eid < 255) (hop : op < 2) :
    setEndpointIdEffect m op eid d =
      respond m ([0x00, 0x00, 0x01] ++ [0x00, 0x00, BitVec.ofNat 8 eid, 0x00]) (modI3c m (fun p => { p with eid := eid }) d) := by
  have hvalid : ¬ (eid = 0 ∨ 255 ≤ eid ∨ 2 ≤ op) := by omega
  simp only [setEndpointIdEffect, control_served hserved, if_neg hvalid]

theorem setEndpointIdEffect_refused {op eid : Nat} (hbad : eid = 0 ∨ 255 ≤ eid ∨ 2 ≤ op) :
    setEndpointIdEffect m op eid d = respond m ([0x00, 0x00, 0x01] ++ [0x02]) d := by
  simp only [setEndpointIdEffect, control_served hserved, if_pos hbad]

theorem getVendorDefinedMessageSupportEffect_first :
    getVendorDefinedMessageSupportEffect m 0 d =
      respond m ([0x00, 0x00, 0x06] ++ [0x00, 0xFF, 0x00, 0x1F, 0xA7, 0x00, 0x00]) d :=
  control_served hserved ..

theorem getMctpVersionSupportEffect_accepted {t : Nat} (htype : t = 0xFF ∨ t = 0x00 ∨ t = 0x05 ∨ t = 0x7E) :
    getMctpVersionSupportEffect m t d = respond m ([0x00, 0x00, 0x04] ++
      (0x00 :: BitVec.ofNat 8 ((Config.mctpVersions t).length / 4) :: Config.mctpVersions t)) d := by
  have hok : t = 0xFF ∨ mctpTypeOk (BitVec.ofNat 8 t) = true := by
    rcases htype with rfl | rfl | rfl | rfl <;> decide
  simp only [getMctpVersionSupportEffect, control_served hserved, if_pos hok]

end

section
variable {d : Device} {m : Mport} (hmain : mainUp d = true) (hmode : i3cMode d m = 2)
include hmain hmode

theorem i2cMctpResponseReadEffect_none (htx : (i3cAt d m).tx = []) : i2cMctpResponseReadEffect m d = acked [0x00] d := by
  simp [i2cMctpResponseReadEffect, hmain, hmode, htx]

theorem i2cMctpResponseReadEffect_packet {pk : List Byte} {rest : List (List Byte)} (htx : (i3cAt d m).tx = pk :: rest) :
    i2cMctpResponseReadEffect m d =
      acked (smbusFrame (i3cStatic d m) pk) (modI3c m (fun q => { q with tx := rest }) d) := by
  simp [i2cMctpResponseReadEffect, hmain, hmode, htx]

end

/-- Settles O51, from what the port does with a packet, a message, a response and a control message. -/
theorem mctpTransport : Obligations.MctpTransport := by
  unfold Obligations.MctpTransport
  refine ⟨fun s m pk d hmain hmode hdrained hroom => ?_, fun s m pk d hmain hmode hdrained hfull => ?_, fun m d => drainPackets_idle,
    fun s m pk hdown => exec_next rfl (if_pos (by simp [hdown])),
    fun d m pk => reassemble_badCheck, fun d m pk => reassemble_noStart, fun d m pk => reassemble_dropped,
    fun d m pk hpec hsom heom hnone hlen haccepted => reassemble_whole hpec hsom heom hnone hlen haccepted,
    fun d m => discardMessage_discarded, fun d m bs => respond_packet d m,
    fun s m op eid hserved hpos hlt hop => exec_next rfl (setEndpointIdEffect_sets hserved hpos hlt hop),
    fun s m op eid hserved hbad => exec_next rfl (setEndpointIdEffect_refused hserved hbad),
    fun s m hserved => ⟨exec_next rfl (control_served hserved ..), exec_next rfl (control_served hserved ..),
      exec_next rfl (getVendorDefinedMessageSupportEffect_first hserved)⟩,
    fun s m t hserved htype => exec_next rfl (getMctpVersionSupportEffect_accepted hserved htype),
    fun s m hmain hmode htx => exec_next rfl (i2cMctpResponseReadEffect_none hmain hmode htx),
    fun s m pk rest hmain hmode htx => exec_next rfl (i2cMctpResponseReadEffect_packet hmain hmode htx),
    fun s m pk halive hibis htx => exec_next rfl (ibiAcceptedEffect_response halive hibis htx),
    fun s m hidle => exec_same rfl (if_neg (by simp [hidle]))⟩
  · subst hdrained
    exact exec_next rfl (mctpPacketEffect_room hmain hmode hroom)
  · subst hdrained
    exact exec_next rfl (mctpPacketEffect_full hmain hmode hfull)

end Sys2Proof.Machine
end

section
/-! PROOFS. Fjarlin messages and their answers (spec/17_mailboxes.md, R496–R498). -/

namespace Sys2Proof.Machine

open Sys2Proof

/-- A message served only with an epoch is answered as it says, where there is one (R497). -/
theorem fjRights_full {d : Device} {m : Mport} (hserved : PortServed d m) (hfull : fjFull d = true) (command tag : Nat)
    (f : Device → FjAnswer) :
    fjRights m command tag f d = respond m (fjBytes command tag (f d).status (f d).detail (f d).body) (f d).dev := by
  rw [fjRights, fjMessage_served hserved]
  simp only [hfull, if_true]

/-- Without one it is answered Unavailable. -/
theorem fjRights_unavailable {d : Device} {m : Mport} (hserved : PortServed d m) (hnone : fjFull d = false) (command tag : Nat)
    (f : Device → FjAnswer) : fjRights m command tag f d = respond m (fjBytes command tag 5 0 []) d := by
  rw [fjRights, fjMessage_served hserved]
  simp only [hnone, Bool.false_eq_true, if_false]

/-! ### Transfers -/

theorem endTransfer_none {d : Device} {m : Mport} {outcome check : Nat} (hnone : (i3cAt d m).session = none) :
    endTransfer m outcome check d = d := by
  simp only [endTransfer, hnone]

section
variable {d : Device} {m : Mport} (hserved : PortServed d m)
include hserved

/-- An accepted Transfer begin opens the session (R497). -/
theorem transferBeginEffect_opens {tag kind len : Nat} (hnone : (i3cAt d m).session = none) (hok : beginOutcome d m kind len = 0) :
    transferBeginEffect m tag kind len d = respond m (fjBytes 0x10 tag 0 0 [])
      (modI3c m (fun p => { p with session := some { kind := kind, len := len, data := [] } }) d) := by
  simp only [transferBeginEffect, fjMessage_served hserved, endTransfer_none hnone, hok, if_true]
  rfl

theorem transferBeginEffect_notPermitted {tag kind len : Nat} (hnone : (i3cAt d m).session = none) (hout : beginOutcome d m kind len = 2) :
    transferBeginEffect m tag kind len d = respond m (fjBytes 0x10 tag 1 2 []) d := by
  simp only [transferBeginEffect, fjMessage_served hserved, endTransfer_none hnone, hout]
  rfl

/-- The bytes that follow those received are taken into the session (R497). -/
theorem transferDataEffect_next {tag off : Nat} {b : List Byte} {t : Transfer} (hsession : (i3cAt d m).session = some t)
    (hoff : off = t.data.length) (hshort : b.length ≤ 1024) (hfits : off + b.length ≤ t.len) :
    transferDataEffect m tag off b d = respond m (fjBytes 0x11 tag 0 0 [])
      (modI3c m (fun p => { p with session := some { t with data := t.data ++ b } }) d) := by
  have hgood : ¬ (off != t.data.length || decide (1024 < b.length) || decide (t.len < off + b.length)) = true := by
    simp; omega
  simp only [transferDataEffect, fjMessage_served hserved, hsession, if_neg hgood]

theorem transferDataEffect_refused {tag off : Nat} {b : List Byte}
    (hbad : (i3cAt d m).session = none ∨
      ∃ t, (i3cAt d m).session = some t ∧ (off ≠ t.data.length ∨ 1024 < b.length ∨ t.len < off + b.length)) :
    transferDataEffect m tag off b d = respond m (fjBytes 0x11 tag 3 0 []) d := by
  rcases hbad with hnone | ⟨t, hsession, hbad⟩
  · simp only [transferDataEffect, fjMessage_served hserved, hnone]
  · have hbad : (off != t.data.length || decide (1024 < b.length) || decide (t.len < off + b.length)) = true := by
      simpa [or_assoc] using hbad
    simp only [transferDataEffect, fjMessage_served hserved, hsession, if_pos hbad]

/-- The end of a complete transfer hands it to what consumes it (R444). -/
theorem transferEndEffect_consumes {tag fault : Nat} {t : Transfer} (hsession : (i3cAt d m).session = some t)
    (hending : (i3cAt d m).ending = none) (hlen : t.data.length = t.len) (hfree : consumerBusy d t = false) :
    transferEndEffect m tag fault d = consumeTransfer m t fault (modI3c m (fun p => { p with
      msgs := p.msgs.drop 1, ending := some (tag, (requester (i3cAt d m)).1, (requester (i3cAt d m)).2) }) d) := by
  obtain ⟨hruns, hmode, hport⟩ := hserved
  have hserves : fjServes d m = true := by simp [fjServes, hruns, hmode, hport]
  have hcomplete : ¬ t.data.length < t.len := by omega
  simp only [transferEndEffect, hsession, hending, if_neg hcomplete, hfree, hserves, Option.isSome_none, Bool.or_false,
    Bool.not_true, Bool.false_eq_true, if_false]

theorem transferEndEffect_incomplete {tag fault : Nat}
    (hopen : (i3cAt d m).session = none ∨ ∃ t, (i3cAt d m).session = some t ∧ t.data.length < t.len) :
    transferEndEffect m tag fault d = respond m (fjBytes 0x12 tag 3 0 []) d := by
  rcases hopen with hnone | ⟨t, hsession, hmissing⟩
  · simp only [transferEndEffect, hnone, fjMessage_served hserved]
  · simp only [transferEndEffect, hsession, if_pos hmissing, fjMessage_served hserved]

theorem transferEndEffect_busy {tag fault : Nat} {t : Transfer} (hsession : (i3cAt d m).session = some t)
    (hlen : t.len ≤ t.data.length) (hbusy : (i3cAt d m).ending ≠ none ∨ consumerBusy d t = true) :
    transferEndEffect m tag fault d = respond m (fjBytes 0x12 tag 2 0 []) d := by
  have hbusy : ((i3cAt d m).ending.isSome || consumerBusy d t) = true := by
    simpa [Option.isSome_iff_ne_none] using hbusy
  simp only [transferEndEffect, hsession, if_neg (Nat.not_lt.mpr hlen), if_pos hbusy, fjMessage_served hserved]

end

section
variable {d : Device} {m : Mport} {t : Transfer} {fault : Nat} (hphase : d.start.phase ≠ .recovery)
include hphase

theorem consumeTransfer_structureImage (hkind : t.kind = 1) :
    consumeTransfer m t fault d = takeSi (portAid m) t.data (modI3c m (fun p => { p with loading := true }) d) := by
  simp only [consumeTransfer, beq_iff_eq, if_neg hphase, hkind]

theorem consumeTransfer_firmware (hkind : t.kind = 2) : consumeTransfer m t fault d = takeFirmware (.port m) t.data d := by
  simp only [consumeTransfer, beq_iff_eq, if_neg hphase, hkind]

theorem consumeTransfer_bundle (hkind : t.kind = 4) (hpermitted : bundlePermitted d (portAid m) true t.data = true) :
    consumeTransfer m t fault d = takeBundle (portAid m) (.port m) true fault t.data d := by
  simp only [consumeTransfer, beq_iff_eq, if_neg hphase, hkind]
  exact if_pos hpermitted

theorem consumeTransfer_release (hkind : t.kind = 5) (hgood : releaseBad d t.data = none) :
    consumeTransfer m t fault d = transferAnswer m 5 1 0 (acceptRelease t.data d) := by
  simp only [consumeTransfer, beq_iff_eq, if_neg hphase, hkind, hgood]

end

theorem transferAnswer_session {d : Device} {m : Mport} {t : Transfer} {e : Nat × Nat × Nat} (out check : Nat)
    (hending : (i3cAt d m).ending = some e) (hsession : (i3cAt d m).session = some t) :
    transferAnswer m t.kind out check d =
      respondTo m e.2.1 e.2.2 (fjBytes 0x12 e.1 0 out (leBytes 1 check)) (endTransfer m out check d) := by
  simp only [transferAnswer, hending, hsession, if_true]

/-! ### The ledger and the event log -/

section
variable {d : Device} {m : Mport} (hserved : PortServed d m) (hfull : fjFull d = true)
include hserved hfull

section
variable {tag sheet off len p : Nat} (hlen : len ≤ 1024) (hfits : off + len ≤ 0x2000)
  (hat : positionOf d.mem d.lg.bad sheet = some p)
include hlen hfits hat

/-- A sheet within the port's mask is read (R419). -/
theorem sheetReadEffect_read (hcovers : coversSheet d (portAid m) p = true) (hsound : rangeBroken d (sheetAddr p + off) len = false) :
    sheetReadEffect m tag sheet off len d =
      respond m (fjBytes 0x20 tag 0 0 (memRead d.mem (sheetAddr p + off) len)) (readErrors (sheetAddr p + off) len d) := by
  have hgood : ¬ (decide (1024 < len) || decide (0x2000 < off + len)) = true := by simp; omega
  simp only [sheetReadEffect, fjRights_full hserved hfull, if_neg hgood, hat, hcovers, hsound, Bool.not_true, Bool.false_eq_true, if_false]

/-- One outside it is NotPermitted. -/
theorem sheetReadEffect_uncovered (hcovers : coversSheet d (portAid m) p = false) :
    sheetReadEffect m tag sheet off len d = respond m (fjBytes 0x20 tag 1 0 []) d := by
  have hgood : ¬ (decide (1024 < len) || decide (0x2000 < off + len)) = true := by simp; omega
  simp only [sheetReadEffect, fjRights_full hserved hfull, if_neg hgood, hat, hcovers, Bool.not_false, if_true]

end

/-- An acknowledgement is answered with the outcome that the ledger gives it, served at once where it is taken (R407). -/
theorem sheetAcknowledgeEffect_answered (tag : Nat) (n : Word) (g : List Byte) :
    ∃ e, sheetAcknowledgeEffect m tag n g d = respond m (fjBytes 0x21 tag (lgStatus e.lg.outcome) e.lg.outcome []) e ∧
      e = (if (hartAck (portAid m) n.toNat (padTo 8 g) (modLg (fun l => { l with ackNum := n, ackDig := padTo 8 g }) d)).lg.outcome = 0
        then serveAck (portAid m) n.toNat (padTo 8 g) (hartAck (portAid m) n.toNat (padTo 8 g) (modLg (fun l => { l with ackNum := n, ackDig := padTo 8 g }) d))
        else hartAck (portAid m) n.toNat (padTo 8 g) (modLg (fun l => { l with ackNum := n, ackDig := padTo 8 g }) d)) :=
  ⟨_, fjRights_full hserved hfull .., rfl⟩

/-- Records are read within the port's mask (R419). -/
theorem eventReadEffect_read {tag first n : Nat} (hn : n ≤ 16) (hlast : first + n ≤ 65536) :
    eventReadEffect m tag first n d =
      respond m (fjBytes 0x30 tag 0 0 ((List.range n).flatMap (fun i => shownRecord d (portAid m) (first + i))))
        (readErrors (recordAddr first) (64 * n) d) := by
  have hgood : ¬ (decide (16 < n) || decide (65536 < first + n)) = true := by simp; omega
  simp only [eventReadEffect, fjRights_full hserved hfull, if_neg hgood]

/-- A clear is answered with its outcome (R424). -/
theorem eventClearEffect_answered (tag : Nat) (n : Word) {e : Device}
    (he : hartClear (portAid m) n.toNat (modEv (fun r => { r with clearSeq := n }) d) = e) :
    eventClearEffect m tag n d = respond m (fjBytes 0x31 tag
      (if e.ev.clearOutcome = 2 then 3 else if e.ev.clearOutcome = 3 then 2 else e.ev.clearOutcome) e.ev.clearOutcome []) e := by
  subst he
  exact fjRights_full hserved hfull ..

end

theorem shownRecord_hidden {d : Device} {aid j : Nat} (h : coversSource d aid (bufLe (memRead d.mem (recordAddr j) 64) 14 1) = false) :
    shownRecord d aid j = zeros 64 :=
  if_neg (by simp [h])

/-- Settles O52, from the answer to each message on a port that is served. -/
theorem fjarlinMessages : Obligations.FjarlinMessages := by
  unfold Obligations.FjarlinMessages
  refine ⟨fun s m tag hserved => exec_next rfl (fjMessage_served hserved ..),
    fun s m tag kind len hserved hnone hok => exec_next rfl (transferBeginEffect_opens hserved hnone hok),
    fun s m tag kind len hserved hnone hout => exec_next rfl (transferBeginEffect_notPermitted hserved hnone hout),
    fun s m tag off b t hserved hsession hoff hshort hfits => exec_next rfl (transferDataEffect_next hserved hsession hoff hshort hfits),
    fun s m tag off b hserved hbad => exec_next rfl (transferDataEffect_refused hserved hbad),
    fun s m tag fault t hserved hsession hending hlen hfree =>
      exec_next rfl (transferEndEffect_consumes hserved hsession hending hlen hfree),
    fun s m tag fault hserved hopen => exec_next rfl (transferEndEffect_incomplete hserved hopen),
    fun s m tag fault t hserved hsession hlen hbusy => exec_next rfl (transferEndEffect_busy hserved hsession hlen hbusy),
    fun d m t fault hphase => ⟨consumeTransfer_structureImage hphase, consumeTransfer_firmware hphase,
      consumeTransfer_bundle hphase, consumeTransfer_release hphase⟩,
    fun d m t e out check hending hsession => transferAnswer_session out check hending hsession,
    fun s m tag sheet off len p hserved hfull hlen hfits hat hcovers hsound =>
      exec_next rfl (sheetReadEffect_read hserved hfull hlen hfits hat hcovers hsound),
    fun s m tag sheet off len p hserved hfull hlen hfits hat hcovers =>
      exec_next rfl (sheetReadEffect_uncovered hserved hfull hlen hfits hat hcovers),
    fun s m tag n g hserved hfull => ?_,
    fun s m tag hserved hfull => exec_next rfl (fjRights_full hserved hfull ..),
    fun s m tag first n hserved hfull hn hlast => exec_next rfl (eventReadEffect_read hserved hfull hn hlast),
    fun d aid j => shownRecord_hidden,
    fun s m tag n hserved hfull => ⟨_, _, exec_next rfl (eventClearEffect_answered hserved hfull tag n rfl), rfl, rfl⟩,
    fun s m tag first n hserved hnone => ⟨exec_next rfl (fjRights_unavailable hserved hnone ..),
      exec_next rfl (fjRights_unavailable hserved hnone ..)⟩⟩
  obtain ⟨e, hanswer, he⟩ := sheetAcknowledgeEffect_answered hserved hfull tag n g
  exact ⟨e, exec_next rfl hanswer, he⟩

end Sys2Proof.Machine
end

section
/-! PROOFS. The card port: its command engine and its slots (spec/18_card_port.md, R500–R511). -/

namespace Sys2Proof.Machine

open Sys2Proof

/-! ### A command is issued (R505, R506) -/

/-- The mask of CD_CMD's fields keeps the response type. -/
theorem field_cmdMask (v : Word) : field (v &&& 0x000037FF) 8 3 = field v 8 3 := by
  refine Nat.eq_of_testBit_eq fun i => ?_
  simp only [field, Nat.testBit_mod_two_pow, Nat.testBit_shiftRight, BitVec.toNat_and, Nat.testBit_and]
  by_cases hi : i < 3
  · have hmask : ∀ j < 3, (BitVec.toNat (0x000037FF : Word)).testBit (8 + j) = true := by decide
    rw [hmask i hi, Bool.and_true]
  · simp [hi]

section
variable {d : Device} {v : Word} (hmay : MayWrite d 3 14)
include hmay

theorem cardCommandIssueEffect_busy (hbusy : d.cd.busy = true) : cardCommandIssueEffect 3 v d = d := by
  simp [cardCommandIssueEffect, cardWrite, hartWrite_may hmay, hbusy]

section
variable (hidle : d.cd.busy = false)
include hidle

/-- A write of CD_CMD without Go only sets the register. -/
theorem cardCommandIssueEffect_noGo (hgo : bit v 31 = false) :
    cardCommandIssueEffect 3 v d = modCd (fun c => { c with cmd := v &&& 0x000037FF }) d := by
  simp [cardCommandIssueEffect, cardWrite, hartWrite_may hmay, hidle, hgo]

section
variable (hgo : bit v 31 = true)
include hgo

/-- A write that the slot's protect bits refuse ends with outcome 7. -/
theorem cardCommandIssueEffect_protected
    (hprotected : writeProtected (slotAt d (field (v &&& 0x000037FF) 6 2)) (field (v &&& 0x000037FF) 0 6) = true) :
    cardCommandIssueEffect 3 v d = cardEnd 7 (modCd (fun c => { c with cmd := v &&& 0x000037FF, blocksDone := 0 }) d) :=
  (hartWrite_may hmay ..).trans ((if_pos (.inl rfl)).trans ((if_neg (by simp [hidle])).trans
    ((if_neg (by simp [hgo])).trans (if_pos hprotected))))

section
variable (hfree : writeProtected (slotAt d (field (v &&& 0x000037FF) 6 2)) (field (v &&& 0x000037FF) 0 6) = false)
include hfree

/-- One whose data phase leaves the window ends with outcome 10. -/
theorem cardCommandIssueEffect_outside (hwindow : windowOk (modCd (fun c => { c with cmd := v &&& 0x000037FF }) d) = false) :
    cardCommandIssueEffect 3 v d = cardEnd 10 (modCd (fun c => { c with cmd := v &&& 0x000037FF, blocksDone := 0 }) d) :=
  (hartWrite_may hmay ..).trans ((if_pos (.inl rfl)).trans ((if_neg (by simp [hidle])).trans ((if_neg (by simp [hgo])).trans
    ((if_neg (fun h => Bool.false_ne_true (hfree.symm.trans h))).trans (if_pos (by rw [hwindow]; rfl))))))

/-- Any other begins. -/
theorem cardCommandIssueEffect_begins (hwindow : windowOk (modCd (fun c => { c with cmd := v &&& 0x000037FF }) d) = true) :
    cardCommandIssueEffect 3 v d = beginCommand (unsettled d (field (v &&& 0x000037FF) 6 2)) (modCd (fun c => { c with
      cmd := v &&& 0x000037FF, busy := true, done := false, outcome := 0, blocksDone := 0, phase := .response }) d) :=
  (hartWrite_may hmay ..).trans ((if_pos (.inl rfl)).trans ((if_neg (by simp [hidle])).trans ((if_neg (by simp [hgo])).trans
    ((if_neg (fun h => Bool.false_ne_true (hfree.symm.trans h))).trans (if_neg (by rw [hwindow]; exact Bool.false_ne_true))))))

end

end

end

end

/-- CD_CMD is hart 3's, and hart 0's in ROM recovery. -/
theorem cardCommandIssueEffect_other {d : Device} {h : Hart} {v : Word} (hmay : MayWrite d h 14) (hother : h ≠ 3)
    (hrom : ¬ (h = 0 ∧ d.start.phase = .recovery)) : cardCommandIssueEffect h v d = d :=
  (hartWrite_may hmay ..).trans (if_neg (not_or.mpr ⟨hother, hrom⟩))

/-- A command with a response goes onto the bus of a settled slot. -/
theorem beginCommand_response {d : Device} (hresponse : field d.cd.cmd 8 3 ≠ 0) :
    beginCommand false d = modCd (fun c => { c with phase := .response }) d :=
  (if_neg Bool.false_ne_true).trans (if_neg hresponse)

theorem beginCommand_waits (d : Device) : beginCommand true d = modCd (fun c => { c with phase := .settling }) d := if_pos rfl

/-! ### A command goes on, and ends (R505, R507) -/

section
variable {d : Device} (hruns : mainRuns d = true)
include hruns

section
variable (hphase : d.cd.phase = .response)
include hphase

theorem cardResponseEffect_badCrc {b : List Byte} (hcheck : d.cd.checkCmd2 = false) (htype : field d.cd.cmd 8 3 ≠ 4) :
    cardResponseEffect b false d = cardEnd 2 d := by
  simp [cardResponseEffect, hruns, hphase, hcheck, htype]

theorem cardResponseEffect_good {b : List Byte} (hcheck : d.cd.checkCmd2 = false) (hcmd3 : cmdIndex d.cd ≠ 3) (hcmd9 : cmdIndex d.cd ≠ 9) :
    cardResponseEffect b true d = afterResponse (modCd (fun c => { c with resp := Vector.ofFn (fun k : Fin 4 =>
      if k.val < (if field d.cd.cmd 8 3 = 3 then 4 else 2) then wordAt (padTo 16 b) k.val else vget c.resp k.val) }) d) :=
  (if_neg (by simp [hruns, hphase])).trans ((if_neg (by simp [hcheck])).trans ((if_neg (by simp)).trans
    ((if_neg hcmd3).trans (congrArg afterResponse (if_neg hcmd9)))))

/-- An answer to the check CMD2 is a card reset (R502). -/
theorem cardResponseEffect_second {b : List Byte} {ok : Bool} (hcheck : d.cd.checkCmd2 = true) :
    cardResponseEffect b ok d = cardReset 2 d :=
  (if_neg (by simp [hruns, hphase])).trans (if_pos hcheck)

theorem cardResponseTimeoutEffect_check (hcheck : d.cd.checkCmd2 = true) :
    cardResponseTimeoutEffect d = afterResponse (modCd (fun c => { c with checkCmd2 := false }) d) :=
  (if_neg (by simp [hruns, hphase])).trans (if_pos hcheck)

theorem cardResponseTimeoutEffect_ends (hcheck : d.cd.checkCmd2 = false) : cardResponseTimeoutEffect d = cardEnd 1 d :=
  (if_neg (by simp [hruns, hphase])).trans (if_neg (by simp [hcheck]))

end

section
variable (hphase : d.cd.phase = .read)
include hphase

theorem cardDataBlockEffect_refused {b : List Byte} {ok : Bool} (hbad : ok = false ∨ d.cd.abandoned = true) :
    cardDataBlockEffect b ok d = cardEnd 3 d :=
  (if_neg (by simp [hruns, hphase])).trans (if_pos (by rcases hbad with h | h <;> simp [h]))

/-- A good block is delivered into the window; the last ends the command (R505). -/
theorem cardDataBlockEffect_delivered {b : List Byte} (hkept : d.cd.abandoned = false) :
    (cardDataBlockEffect b true d).mem = memWrite d.mem (blockAddr d d.cd.blocksDone) (padTo (xferLen d.cd) b) ∧
      (cardDataBlockEffect b true d).cd.blocksDone = d.cd.blocksDone + 1 ∧
      ((cardDataBlockEffect b true d).cd.busy = false ∨ (cardDataBlockEffect b true d).cd.busy = d.cd.busy) ∧
      (d.cd.blocksDone + 1 = xferBlocks d.cd → (cardDataBlockEffect b true d).cd.outcome = 0 ∧
        (cardDataBlockEffect b true d).cd.done = true ∧ (cardDataBlockEffect b true d).cd.phase = .none) := by
  obtain ⟨e, he⟩ : ∃ e, store (blockAddr d d.cd.blocksDone) (padTo (xferLen d.cd) b) d = e := ⟨_, rfl⟩
  have hmem : e.mem = memWrite d.mem (blockAddr d d.cd.blocksDone) (padTo (xferLen d.cd) b) := he ▸ store_mem ..
  have hcd : e.cd = d.cd := he ▸ by simp
  have heffect : cardDataBlockEffect b true d =
      if e.cd.blocksDone + 1 = xferBlocks e.cd then cardEnd 0 (modCd (fun c => { c with blocksDone := c.blocksDone + 1 }) e)
      else modCd (fun c => { c with blocksDone := c.blocksDone + 1 }) e := by
    rw [← he]
    exact (if_neg (by simp [hruns, hphase])).trans (if_neg (by simp [hkept]))
  rw [heffect, hcd]
  split
  · rename_i hend
    simp [cardEnd, modCd, hmem, hcd, hkept]
  · rename_i hend
    simp [modCd, hmem, hcd, hend]

end

theorem cardCrcStatusTokenEffect_accepted (hphase : d.cd.phase = .writeData) :
    cardCrcStatusTokenEffect 2 d = modCd (fun c => { c with phase := .busy }) d := by
  simp [cardCrcStatusTokenEffect, hruns, hphase]

/-- Any other token stops the command with CMD12 (R505). -/
theorem cardCrcStatusTokenEffect_stopped (hphase : d.cd.phase = .writeData) :
    cardCrcStatusTokenEffect 5 d = reply [0x4C, 0x00, 0x00, 0x00, 0x00, 0x61] (cardEnd 5 d) := by
  simp [cardCrcStatusTokenEffect, hruns, hphase, cmd12]

/-- The end of a busy: the command's, the next block, or the detect hold (R507). -/
theorem cardBusyEndEffect_busy (hphase : d.cd.phase = .busy) :
    cardBusyEndEffect d = (if cmdData d.cd ≠ 2 ∨ d.cd.abandoned = true then cardEnd 0 d
      else if d.cd.blocksDone + 1 < xferBlocks d.cd then sendBlock (modCd (fun c => { c with blocksDone := c.blocksDone + 1 }) d)
      else modCd (fun c => { c with phase := .hold }) d) := by
  simp [cardBusyEndEffect, hruns, hphase]

end

/-- Without a command on the bus nothing of one ends. -/
theorem cardPhase_none {d : Device} (hphase : d.cd.phase = .none) :
    cardBusyEndEffect d = d ∧ cardWriteDetectHoldEffect d = d ∧ cardDataTimeoutEffect d = d :=
  ⟨if_pos (by simp [hphase]), if_neg (by simp [hphase]), if_neg (by simp [hphase])⟩

/-! ### Cards are inserted and removed (R500, R508) -/

section
variable {d : Device} {k : Slot} {c : Card}

theorem cardPresentWake_unpowered (hvstby : d.pins.vstby = false) :
    cardPresentWake k c d = { d with pins := { d.pins with
      cardDet := d.pins.cardDet.set k true, cards := d.pins.cards.set k (some c) } } :=
  if_pos (by simp [hvstby])

theorem cardPresentWake_again (hvstby : d.pins.vstby = true) (hpresent : hasBit d.cdStat.present k = true) :
    cardPresentWake k c d = cardInserted k c d :=
  (if_neg (by simp [hvstby])).trans (if_neg (by simp [hpresent]))

theorem cardPresentWake_rises (hvstby : d.pins.vstby = true) (habsent : hasBit d.cdStat.present k = false) :
    cardPresentWake k c d = wakeSource 5 (sleptTicks d) (cardInserted k c d) :=
  (if_neg (by simp [hvstby])).trans (if_pos (by simp [habsent]))

/-- An inserted card makes its slot Present, and Changed and Detected where it was not. -/
theorem cardInserted_slot (d : Device) (k : Slot) (c : Card) :
    (cardInserted k c d).pins.cardDet[k] = true ∧ (cardInserted k c d).pins.cards[k] = some c ∧
      hasBit (cardInserted k c d).cdStat.present k = true ∧ (cardInserted k c d).mem = d.mem ∧
      (mainUp d = true → hasBit d.cdStat.present k = false → (slotAt (cardInserted k c d) k).state = 1) ∧
      (mainUp d = false → (cardInserted k c d).cd = d.cd) ∧
      (hasBit d.cdStat.present k = false → hasBit (cardInserted k c d).cdStat.changed k = true) := by
  by_cases hrises : (mainUp d && !hasBit d.cdStat.present k) = true
  · obtain ⟨hmain, habsent⟩ : mainUp d = true ∧ hasBit d.cdStat.present k = false := by simpa using hrises
    simp [cardInserted, modCs, hmain, habsent, hasBit_setBit]
  · have hstays : ¬ (mainUp d = true ∧ hasBit d.cdStat.present k = false) := by simpa using hrises
    unfold cardInserted
    simp only [if_neg hrises]
    refine ⟨by simp [modCs], by simp [modCs], hasBit_setBit .., rfl, fun h1 h2 => absurd ⟨h1, h2⟩ hstays, fun _ => rfl, fun h => ?_⟩
    simp [modCs, h, hasBit_setBit]

end

theorem portEmptied_engine (d : Device) :
    (portEmptied d).cd.busy = d.cd.busy ∧ (portEmptied d).cd.done = d.cd.done ∧ (portEmptied d).cd.outcome = d.cd.outcome ∧
      (portEmptied d).pins = d.pins := by
  unfold portEmptied
  split <;> exact ⟨rfl, rfl, rfl, rfl⟩

theorem slotPower_engine (s : Nat) (on : Bool) (d : Device) :
    (slotPower s on d).cd.busy = d.cd.busy ∧ (slotPower s on d).cd.done = d.cd.done ∧
      (slotPower s on d).cd.outcome = d.cd.outcome ∧ (slotPower s on d).pins = d.pins := by
  unfold slotPower
  (repeat' split) <;> exact ⟨rfl, rfl, rfl, rfl⟩

/-- A removed card ends the command on its slot with outcome 8 (R508). -/
theorem cardRemovedEffect_ends {d : Device} {k : Slot} (hvstby : d.pins.vstby = true) (hpresent : hasBit d.cdStat.present k = true)
    (hmain : mainUp d = true) (hbusy : d.cd.busy = true) (hslot : cmdSlot d.cd = k.val) :
    (cardRemovedEffect k d).cd.busy = false ∧ (cardRemovedEffect k d).cd.done = true ∧ (cardRemovedEffect k d).cd.outcome = 8 ∧
      (cardRemovedEffect k d).pins.cardDet[k] = false ∧ (cardRemovedEffect k d).mem = d.mem := by
  have hgone : ¬ (!d.pins.vstby || !hasBit d.cdStat.present k) = true := by simp [hvstby, hpresent]
  have hends : (d.cd.busy && cmdSlot d.cd == k.val) = true := by simp [hbusy, hslot]
  refine ⟨?_, ?_, ?_, ?_, (cardRemovedEffect_kept k d).1⟩ <;>
    simp [cardRemovedEffect, hgone, hmain, hends, portEmptied_engine, slotPower_engine, modCd, modCs, cardEnd]

theorem cardRemovedEffect_absent {d : Device} {k : Slot} (habsent : hasBit d.cdStat.present k = false) :
    cardRemovedEffect k d = { d with pins := { d.pins with
      cardDet := d.pins.cardDet.set k false, cards := d.pins.cards.set k none } } :=
  if_pos (by simp [habsent])

/-! ### Slots are powered and identified (R500–R503) -/

section
variable {d : Device} {k : Slot}

theorem slotPowerSettledEffect_quiet (hruns : mainRuns d = true) (hpowered : hasBit d.cdStat.powered k = true)
    (hphase : d.cd.phase ≠ .settling) : slotPowerSettledEffect k d = modSlot k (fun x => { x with settled := true }) d :=
  (if_pos (by simp [hruns, hpowered])).trans (if_neg (by simp [hphase]))

/-- A command that waited for its slot's power goes onto the bus (R500). -/
theorem slotPowerSettledEffect_command (hruns : mainRuns d = true) (hpowered : hasBit d.cdStat.powered k = true)
    (hphase : d.cd.phase = .settling) (hslot : cmdSlot d.cd = k.val) (hresponse : field d.cd.cmd 8 3 ≠ 0) :
    slotPowerSettledEffect k d =
      modCd (fun c => { c with phase := .response }) (modSlot k (fun x => { x with settled := true }) d) :=
  (if_pos (by simp [hruns, hpowered])).trans ((if_pos (by simp [hphase, hslot])).trans (beginCommand_response hresponse))

theorem slotPowerSettledEffect_off (hoff : hasBit d.cdStat.powered k = false) : slotPowerSettledEffect k d = d :=
  if_neg (by simp [hoff])

end

section
variable {d : Device} {k : Nat} {c : Card}

theorem identifyCard_unusable (hreason : unusable d.cd.mode k c ≠ 0) :
    identifyCard k c d = unsupported k (unusable d.cd.mode k c) d := if_pos hreason

theorem identifyCard_served (husable : unusable d.cd.mode k c = 0) (halone : c.secondAnswer = false) :
    identifyCard k c d = serveCard k c (identified k c d) :=
  (if_neg (Classical.not_not.mpr husable)).trans (if_neg (by simp [halone]))

end

section
variable {d : Device} {k : Nat} {f : Card → Device → Device} (hpath : ¬ (d.cd.mode = 2 ∧ k ≠ 0))
  (hon : hasBit d.cdStat.poweringOff k = false)
include hpath hon

/-- A slot being identified waits for its power to settle. -/
theorem bringOn_settling (hstate : (slotAt d k).state = 2) (hpowered : hasBit d.cdStat.powered k = true)
    (hsettling : (slotAt d k).settled = false) : bringOn k f d = d := by
  simp only [bringOn, if_neg hpath, hon, hstate, hpowered, hsettling, ne_eq, not_true_eq_false, Bool.true_eq_false, or_self,
    Bool.not_false, Bool.false_eq_true, if_false, if_true]

/-- Once it has, its card is served. -/
theorem bringOn_settled {c : Card} (hstate : (slotAt d k).state = 2) (hpowered : hasBit d.cdStat.powered k = true)
    (hsettled : (slotAt d k).settled = true) (hcard : vget d.pins.cards k = some c) : bringOn k f d = f c d := by
  simp only [bringOn, if_neg hpath, hon, hstate, hpowered, hsettled, hcard, ne_eq, not_true_eq_false, Bool.true_eq_false, or_self,
    Bool.not_true, Bool.false_eq_true, if_false]

/-- Before that its identification begins with its power. -/
theorem bringOn_begins (hstate : (slotAt d k).state ≠ 2) (hmode : d.cd.mode ≠ 0 ∨ d.cdStat.powered = 0) :
    bringOn k f d = slotPower k true (modSlot k (fun x => { x with state := 2 }) d) :=
  (if_neg hpath).trans ((if_neg (by simp [hon])).trans ((if_pos (.inl hstate)).trans
    (if_neg (by rcases hmode with h | h <;> simp [h]))))

end

/-- The first turn of hart 3 after a core reset is a card reset (R509). -/
theorem cardTurn_afterCoreReset {d : Device} (hattached : attached d = true) (hup : hartUp d 3 = true) (hidle : d.cd.busy = false)
    (hfirst : d.cdWin.taken = false) (hkind : d.start.resetKind = 2) :
    cardTurn d = cardReset 3 { d with cdWin := { d.cdWin with taken := true } } := by
  simp only [cardTurn, hidle, hattached, hup, hfirst, hkind, Bool.and_self, Bool.not_false, Bool.false_eq_true, if_false, if_true]

/-- Which cards a slot cannot use (R501–R503). -/
theorem unusable_cases (k : Nat) (c : Card) :
    (k ≠ 0 → unusable 2 k c = 4) ∧ (k = 0 → c.kind = 2 → unusable 1 k c = 4) ∧ (c.kind = 1 → unusable 1 k c = 0) ∧
      (c.kind = 2 → unusable 0 0 c = 0) := by
  refine ⟨fun hk => ?_, fun hk hkind => ?_, fun hkind => ?_, fun hkind => ?_⟩
  · simp [unusable, hk]
  · simp [unusable, hk, hkind]
  · simp [unusable, hkind]
  · simp [unusable, hkind]

/-- What an identified card leaves in its slot and in the port (R501, R504, R506). -/
theorem identified_slot (d : Device) (k : Slot) (c : Card) :
    (slotAt (identified k c d) k).state = 4 ∧
      (slotAt (identified k c d) k).rca = (if c.kind = 2 then c.rca % 65536 else k.val + 2) ∧
      (identified k c d).cd.mode = (if c.kind = 2 then 2 else 1) ∧ (slotAt (identified k c d) k).permWp = c.permWp ∧
      (slotAt (identified k c d) k).tmpWp = c.tmpWp := by
  have hslot : slotAt (identified k c d) k =
      { rca := if c.kind = 2 then c.rca % 65536 else k.val + 2, type := if c.kind = 2 then 2 else 1
        speed := if c.highSpeed then 2 else 1, permWp := c.permWp, tmpWp := c.tmpWp, highCap := c.highCap, state := 4, reason := 0
        settled := true } := slotAt_modSlot ..
  rw [hslot]
  exact ⟨rfl, rfl, rfl, rfl, rfl⟩

theorem cardResetEffect_cause {d : Device} {cause : Nat} (hruns : mainRuns d = true) (hlo : 1 ≤ cause) (hhi : cause ≤ 3) :
    cardResetEffect cause d = cardReset cause d := if_pos (by simp [hruns, within, hlo, hhi])

theorem cardResetEffect_noCause {d : Device} {cause : Nat} (h : cause = 0 ∨ 4 ≤ cause) : cardResetEffect cause d = d :=
  if_neg (by simp [within]; omega)

/-- Settles O53, from what the port does with each command, each end of one, and each change of a slot. -/
theorem cardPort : Obligations.CardPort := by
  unfold Obligations.CardPort
  refine ⟨fun s v hmay hbusy => exec_same rfl (cardCommandIssueEffect_busy hmay hbusy),
    fun s v hmay hidle hgo => exec_next rfl (cardCommandIssueEffect_noGo hmay hidle hgo),
    fun s v hmay hidle hgo hresponse hfree hwindow hsettled => exec_next rfl ((cardCommandIssueEffect_begins hmay hidle hgo hfree hwindow).trans
      ((congrArg (beginCommand · _) hsettled).trans (beginCommand_response (fun hnone => hresponse ((field_cmdMask v).symm.trans hnone))))),
    fun s v hmay hidle hgo hfree hwindow hwaits => exec_next rfl ((cardCommandIssueEffect_begins hmay hidle hgo hfree hwindow).trans
      ((congrArg (beginCommand · _) hwaits).trans (beginCommand_waits _))),
    fun s k hruns hpowered hphase hslot hresponse => exec_next rfl (slotPowerSettledEffect_command hruns hpowered hphase hslot hresponse),
    fun s v hmay hidle hgo hprotected => exec_next rfl (cardCommandIssueEffect_protected hmay hidle hgo hprotected),
    fun s v hmay hidle hgo hfree hwindow => exec_next rfl (cardCommandIssueEffect_outside hmay hidle hgo hfree hwindow),
    fun s h v hmay hother hrom => exec_same rfl (cardCommandIssueEffect_other hmay hother hrom),
    fun s b hruns hphase hcheck htype => exec_next rfl (cardResponseEffect_badCrc hruns hphase hcheck htype),
    fun s b hruns hphase hcheck hcmd3 hcmd9 => exec_next rfl (cardResponseEffect_good hruns hphase hcheck hcmd3 hcmd9),
    fun s b ok hruns hphase hcheck => ⟨exec_next rfl (cardResponseEffect_second hruns hphase hcheck),
      exec_next rfl (cardResponseTimeoutEffect_check hruns hphase hcheck)⟩,
    fun s hruns hphase hcheck => exec_next rfl (cardResponseTimeoutEffect_ends hruns hphase hcheck),
    fun s b hruns hphase => ⟨exec_next rfl (cardDataBlockEffect_refused hruns hphase (.inl rfl)),
      exec_next rfl (if_pos (by simp [hruns, hphase]))⟩,
    fun s b hruns hphase habandoned => ⟨exec_next rfl (cardDataBlockEffect_refused hruns hphase (.inr habandoned)),
      by simp [cardEnd, modCd, habandoned]⟩,
    fun s b hruns hphase hkept => ⟨_, exec_next rfl rfl, cardDataBlockEffect_delivered hruns hphase hkept⟩,
    fun s hruns hphase => ⟨exec_next rfl (cardCrcStatusTokenEffect_accepted hruns hphase),
      exec_next rfl (cardCrcStatusTokenEffect_stopped hruns hphase)⟩,
    fun s hruns hphase => ⟨exec_next rfl (if_pos (by simp [hruns, hphase])), exec_next rfl (cardBusyEndEffect_busy hruns hphase)⟩,
    fun s hruns hphase => exec_next rfl (if_pos (by simp [hruns, hphase])),
    fun s hphase => ⟨exec_same rfl (cardPhase_none hphase).1, exec_same rfl (cardPhase_none hphase).2.1,
      exec_same rfl (cardPhase_none hphase).2.2⟩,
    fun s k c hvstby => exec_next (f := cardPresentWake k c) rfl (cardPresentWake_unpowered hvstby),
    fun s k c hvstby hpresent => exec_next (f := cardPresentWake k c) rfl (cardPresentWake_again hvstby hpresent),
    fun s k c hvstby habsent => exec_next (f := cardPresentWake k c) rfl (cardPresentWake_rises hvstby habsent),
    cardInserted_slot,
    fun d k c => identifyCard_unusable, fun d k c => identifyCard_served,
    fun d k f hpath hon hstate hpowered => ⟨bringOn_settling hpath hon hstate hpowered, fun c => bringOn_settled hpath hon hstate hpowered⟩,
    fun d k f => bringOn_begins,
    fun d => cardTurn_afterCoreReset,
    unusable_cases, identified_slot,
    fun s k hvstby hpresent hmain hbusy hslot => ⟨_, exec_next rfl rfl, cardRemovedEffect_ends hvstby hpresent hmain hbusy hslot⟩,
    fun s k habsent => exec_next rfl (cardRemovedEffect_absent habsent),
    fun s k hruns hpowered hphase => exec_next rfl (slotPowerSettledEffect_quiet hruns hpowered hphase),
    fun s k hoff => exec_same rfl (slotPowerSettledEffect_off hoff),
    fun s k => exec_next rfl rfl,
    fun s cause hruns hlo hhi => exec_next rfl (cardResetEffect_cause hruns hlo hhi),
    fun s cause h => exec_same rfl (cardResetEffect_noCause h)⟩

end Sys2Proof.Machine
end

section
/-! PROOFS. The life cycle: transitions and their wipe, OTP burns, test modes (spec/19_life_cycle_and_debug.md,
R525–R536). -/

namespace Sys2Proof.Machine

open Sys2Proof

/-! ### What the digest engine's verdicts keep -/

/-- A property that nothing touches which a domain of the serving engine does as its images pass or fail: it does not hang on
the serving engine, the fabric, the ledger, the engines or the watermarks, and an event, a gate held and a rung's slot dropped
keep it. -/
structure ServingKeeps (P : Device → Prop) : Prop where
  event : ∀ (d : Device) (code sev : Nat) (ps : List Nat), P d → P (event code sev ps d)
  gateHeld : ∀ (d : Device) (g : Nat), P d → P (setGate g false d)
  rungDropped : ∀ (d : Device) (n : Nat), P d → P { d with kv := dropSlot d.kv n }
  rest : ∀ (d : Device) bds n gf lg dg sg ms, P d →
    P { d with is_ := { d.is_ with bds := bds, tagFree := n }, gf := gf, lg := lg, dg := dg, sg := sg, measures := ms }

namespace ServingKeeps

variable {P : Device → Prop} (keeps : ServingKeeps P) {d : Device}
include keeps

theorem modBd (h : P d) (bd : Nat) (f : BootDomain → BootDomain) : P (modBd bd f d) :=
  keeps.rest d (vmod d.is_.bds bd f) d.is_.tagFree d.gf d.lg d.dg d.sg d.measures h

theorem endPortWait (h : P d) (p : Nat) : P (endPortWait p d) :=
  keeps.rest d d.is_.bds d.is_.tagFree _ d.lg d.dg d.sg d.measures h

theorem freeTags (h : P d) (bd : Nat) : P (freeTags bd d) := keeps.rest d _ _ _ d.lg d.dg d.sg d.measures h

theorem freeServing (h : P d) (bd : Nat) : P (freeServing bd d) := keeps.rest d _ d.is_.tagFree d.gf d.lg _ d.sg d.measures h

theorem clearWmk (h : P d) (n : Nat) : P (clearWmk n d) := keeps.rest d d.is_.bds d.is_.tagFree d.gf d.lg d.dg d.sg _ h

theorem extendWmk (h : P d) (n : Nat) (m : List Byte) : P (extendWmk n m d) :=
  keeps.rest d d.is_.bds d.is_.tagFree d.gf d.lg d.dg d.sg _ h

theorem events (h : P d) (es : List (Nat × Nat × List Nat)) : P (events es d) :=
  List.foldlRecOn (motive := P) es _ h fun _ he _ _ => keeps.event _ _ _ _ he

theorem holdGates (h : P d) (bd : Nat) : P (holdGates bd d) := by
  unfold Machine.holdGates
  split
  · exact keeps.modBd h ..
  · exact keeps.modBd (keeps.gateHeld _ _ h) ..

theorem clearRung (h : P d) (bd : Nat) : P (clearRung bd d) := by
  unfold Machine.clearRung
  split
  · exact keeps.rungDropped _ _ h
  · exact h

theorem returnToReset (h : P d) (bd : Nat) : P (returnToReset bd d) := by
  have hheld := keeps.holdGates h bd
  unfold Machine.returnToReset
  extract_lets d1 d2 ledger d2a d3
  have hport : P d2 := by
    unfold d2
    split
    · split
      · exact hheld
      · exact keeps.endPortWait hheld _
    · exact hheld
  have hledger : P d2a := keeps.rest d2 d2.is_.bds d2.is_.tagFree d2.gf _ d2.dg d2.sg d2.measures hport
  have hserving := keeps.freeServing (keeps.freeTags hledger bd) bd
  exact keeps.modBd (keeps.clearRung (keeps.clearWmk hserving _) bd) ..

theorem slotFailed (h : P d) (bd img cause : Nat) : P (slotFailed bd img cause d) := by
  have hreset := keeps.returnToReset (keeps.event d 0x0804 4 [bd, (domain d bd).slot, img, cause] h) bd
  unfold Machine.slotFailed
  dsimp only
  split
  · exact keeps.event _ _ _ _ (keeps.modBd (keeps.modBd hreset ..) ..)
  · exact keeps.event _ _ _ _ (keeps.modBd (keeps.modBd hreset ..) ..)

theorem imageFailed (h : P d) (bd i cause : Nat) : P (imageFailed bd i cause d) := by
  unfold Machine.imageFailed
  split
  · exact keeps.slotFailed h ..
  · exact h

theorem verifiedCheck (h : P d) (bd : Nat) : P (verifiedCheck bd d) := by
  unfold Machine.verifiedCheck
  dsimp only
  split
  · refine keeps.event _ _ _ _ (keeps.modBd ?_ ..)
    split
    · exact keeps.extendWmk h ..
    · exact h
  · exact h

theorem serveVerdict (h : P d) (bd i : Nat) : P (serveVerdict bd i d) := by
  unfold Machine.serveVerdict
  split
  · exact h
  · split
    · exact h
    · split
      · exact h
      · split
        · exact h
        · split
          · exact h
          · exact keeps.verifiedCheck (keeps.modBd (keeps.modBd h ..) ..) _
        · exact keeps.imageFailed h ..

theorem serveVerdicts (h : P d) : P (serveVerdicts d) :=
  List.foldlRecOn (motive := P) _ _ h fun _ he _ _ =>
    List.foldlRecOn (motive := P) _ _ he fun _ hx _ _ => keeps.serveVerdict hx ..

/-- What a step of the digest engine gives, where it gives no output for the vault. -/
theorem dgLift (h : P d) {r : DgOut} (hnone : r.install = none) : P (dgLift r d) := by
  unfold Machine.dgLift
  rw [hnone]
  have hengine : P { d with dg := r.dg } := keeps.rest d d.is_.bds d.is_.tagFree d.gf d.lg _ d.sg d.measures h
  exact keeps.serveVerdicts (keeps.events hengine _)

end ServingKeeps

/-- A fault of contexts gives no output for the vault. -/
theorem faultAll_install (cause : Nat) (p : Context → Bool) (dg : DigestEngine) : (faultAll cause p dg).install = none :=
  List.foldlRecOn (motive := fun r : DgOut => r.install = none) _ _ rfl fun _ _ _ _ => rfl

/-- Every slot of the vault is cleared, with the contexts and jobs that used them. -/
theorem ServingKeeps.vaultGone {P : Device → Prop} (keeps : ServingKeeps P) {d : Device} (h : P d) :
    let e := Machine.dgLift (vaultClearContexts d.dg) d
    P (Machine.events (vaultClearSig e.sg).2 { e with sg := (vaultClearSig e.sg).1 }) := by
  intro e
  have hlift : P e := keeps.dgLift h (faultAll_install ..)
  have hsig : P { e with sg := (vaultClearSig e.sg).1 } :=
    keeps.rest e e.is_.bds e.is_.tagFree e.gf e.lg e.dg _ e.measures hlift
  exact keeps.events hsig _

/-! ### A device with its gates held, its roots and its vault cleared -/

/-- What the start of a wipe leaves (R530): gates held, the root buffers and the vault empty, and a state of the life-cycle
controller. -/
def Wiped (l : LifeCycle) (d : Device) : Prop :=
  d.is_.gates = 0 ∧ d.bat.roots = Vector.replicate 2 {} ∧ d.kv.slots = [] ∧ d.lc = l

theorem arriveEvent_roots (hart : Bool) (code aid sev : Nat) (ps : List Nat) (d : Device) :
    (arriveEvent hart code aid sev ps d).bat.roots = d.bat.roots := by
  unfold arriveEvent
  (repeat' split) <;> rfl

/-- No failing domain undoes it. -/
theorem wiped_servingKeeps (l : LifeCycle) : ServingKeeps (Wiped l) where
  event d code sev ps := fun ⟨hgates, hroots, hslots, hlc⟩ =>
    ⟨by simpa using hgates, (arriveEvent_roots ..).trans hroots, by simpa using hslots, by simpa using hlc⟩
  gateHeld d g := fun ⟨hgates, hroots, hslots, hlc⟩ => ⟨by simp [setGate, clrBit, hgates], hroots, hslots, hlc⟩
  rungDropped d n := fun ⟨hgates, hroots, hslots, hlc⟩ => ⟨hgates, hroots, by simp [dropSlot, hslots], hlc⟩
  rest _ _ _ _ _ _ _ _ h := h

theorem vaultClear_wiped {l : LifeCycle} {d : Device} (hgates : d.is_.gates = 0) (hroots : d.bat.roots = Vector.replicate 2 {})
    (hlc : d.lc = l) : Wiped l (vaultClear d) :=
  (wiped_servingKeeps l).vaultGone (d := { d with kv := clearVault d.kv }) ⟨hgates, hroots, rfl, hlc⟩

theorem Wiped.mram {l : LifeCycle} {d : Device} (h : Wiped l d) (m : Memory) : Wiped l { mramUsed d with mem := m } := h

theorem Wiped.modLc {l : LifeCycle} {d : Device} (h : Wiped l d) (f : LifeCycle → LifeCycle) : Wiped (f l) (modLc f d) :=
  ⟨h.1, h.2.1, h.2.2.1, congrArg f h.2.2.2⟩

/-- The device whose vault the start of a wipe clears (R530): gates held, root buffers empty. -/
def rootsCleared (d : Device) : Device := { holdAllGates (windowDown d) with bat := { d.bat with roots := Vector.replicate 2 {} } }

theorem rootsCleared_lc (d : Device) : (rootsCleared d).lc = d.lc := by simp [rootsCleared]

theorem wipeBegins_eq (target : Nat) (d : Device) :
    wipeBegins target d = modLc (fun l => { l with wipe := some target }) { mramUsed (vaultClear (rootsCleared d)) with
      mem := positions.foldl (fun m p => memWrite m (sheetAddr p) (zeros 8)) (vaultClear (rootsCleared d)).mem } := rfl

/-- What the start of a wipe leaves (R530). -/
theorem wipeBegins_wiped (target : Nat) (d : Device) : Wiped { d.lc with wipe := some target } (wipeBegins target d) := by
  have hcleared := vaultClear_wiped (d := rootsCleared d) rfl rfl (rootsCleared_lc d)
  rw [wipeBegins_eq]
  exact (hcleared.mram _).modLc _

/-! ### Commands of hart 0 (R526, R528) -/

section
variable {d : Device} {t : Nat} (hmay : MayWrite d 0 2)
include hmay

/-- Hart 0's transition, while no burn or wipe runs, goes by its row (R528). -/
theorem lcTransitionEffect_free (hfree : lcBusy d = false) :
    lcTransitionEffect 0 t d = (match transitionRow d (t % 8) with
      | none => lcRefuse (t % 8) 1 0 d
      | some ps => match firstFailed ps with
        | some (o, i) => lcRefuse (t % 8) o i d
        | none => if canBurn d then transitionBegins (t % 8) d else lcRefuse (t % 8) 3 0 d) :=
  (onlyHart_may hmay ..).trans ((if_pos rfl).trans (if_neg (by simp [hfree])))

theorem lcTransitionEffect_noRow (hfree : lcBusy d = false) (hrow : transitionRow d (t % 8) = none) :
    lcTransitionEffect 0 t d = lcRefuse (t % 8) 1 0 d := by
  rw [lcTransitionEffect_free hmay hfree, hrow]

theorem lcTransitionEffect_failed {ps : List (Bool × Nat)} {o i : Nat} (hfree : lcBusy d = false)
    (hrow : transitionRow d (t % 8) = some ps) (hfailed : firstFailed ps = some (o, i)) :
    lcTransitionEffect 0 t d = lcRefuse (t % 8) o i d := by
  simp only [lcTransitionEffect_free hmay hfree, hrow, hfailed]

theorem lcTransitionEffect_noHoldup {ps : List (Bool × Nat)} (hfree : lcBusy d = false)
    (hrow : transitionRow d (t % 8) = some ps) (hmet : firstFailed ps = none) (hburn : canBurn d = false) :
    lcTransitionEffect 0 t d = lcRefuse (t % 8) 3 0 d := by
  simp only [lcTransitionEffect_free hmay hfree, hrow, hmet, hburn, Bool.false_eq_true, if_false]

theorem lcTransitionEffect_begins {ps : List (Bool × Nat)} (hfree : lcBusy d = false)
    (hrow : transitionRow d (t % 8) = some ps) (hmet : firstFailed ps = none) (hburn : canBurn d = true) :
    lcTransitionEffect 0 t d = transitionBegins (t % 8) d := by
  simp only [lcTransitionEffect_free hmay hfree, hrow, hmet, hburn, if_true]

theorem lcTransitionEffect_busy (hbusy : lcBusy d = true) : lcTransitionEffect 0 t d = lcRefuse (t % 8) 4 0 d :=
  (onlyHart_may hmay ..).trans ((if_pos rfl).trans (if_pos hbusy))

/-- Any other command while a burn or a wipe runs is Busy (R526). -/
theorem lcCommand_busy (hbusy : lcBusy d = true) (cmd : Nat) (f : Device → Device) : lcCommand 0 cmd f d = lcResult cmd 4 0 d :=
  (onlyHart_may hmay ..).trans ((if_pos rfl).trans (if_pos hbusy))

theorem lcUnlockEffect_free (hfree : lcBusy d = false) :
    lcUnlockEffect 0 d = modLc (fun l => { l with token := zeros 64 }) (unlock d) :=
  (onlyHart_may hmay ..).trans ((if_pos rfl).trans (congrArg _ (if_neg (by simp [hfree]))))

end

/-- LC_CMD is hart 0's. -/
theorem onlyHart0_other {d : Device} {h : Hart} {b : Nat} (hmay : MayWrite d h b) (hother : h ≠ 0) (addr : Nat) (f : Device → Device) :
    onlyHart 0 h b addr f d = d :=
  (onlyHart_may hmay ..).trans (if_neg fun e => hother (Fin.ext e))

theorem lcCommand_other {d : Device} {h : Hart} (hmay : MayWrite d h 2) (hother : h ≠ 0) (cmd : Nat) (f : Device → Device) :
    lcCommand h cmd f d = d :=
  onlyHart0_other hmay hother ..

theorem transitionBegins_burns {d : Device} {t : Nat} (hlow : t < 6) :
    transitionBegins t d = modLc (fun l => { l with burn := stageOf t }) (lcResult 1 0 0 { d with db := { d.db with armed := none } }) :=
  if_neg (by omega)

/-- A transition towards Return or Scrap begins with its wipe (R530). -/
theorem transitionBegins_wipes {d : Device} {t : Nat} (hhigh : 6 ≤ t) :
    Wiped { d.lc with lastCmd := 1, outcome := 0, detail := 0, wipe := some t } (transitionBegins t d) := by
  have hbegins : transitionBegins t d = wipeBegins t (lcResult 1 0 0 { d with db := { d.db with armed := none } }) := if_pos hhigh
  rw [hbegins]
  exact wipeBegins_wiped ..

/-! ### OTP words (R532–R534) -/

theorem otpRead_hidden {d : Device} {w : Nat} (hlo : 16 ≤ w) (hhi : w ≤ 47) (hstate : 2 < d.lc.state) : otpRead d w = 0 :=
  if_pos (by simp [within, hlo, hhi, hstate])

theorem burnOutcome_state {d : Device} {w v : Nat} (hnot : burnAllowed w d.lc.state = false) : burnOutcome d w v = 2 :=
  if_pos (by simp [hnot])

/-- A word that is not monotone burns once (R532). -/
theorem burnOutcome_burned {d : Device} {w v : Nat} (hallowed : burnAllowed w d.lc.state = true) (honce : monotoneWord w = false)
    (hburned : otpWord d w ≠ 0) : burnOutcome d w v = 10 := by
  have h65 : ¬ (w = 65 ∧ v.testBit 14 = true) := by
    rintro ⟨rfl, -⟩
    simp [monotoneWord, within] at honce
  exact (if_neg (by simp [hallowed])).trans ((if_neg h65).trans (if_pos (by simp [honce, hburned])))

/-- A token that is the next one's burns its mark (R534). -/
theorem unlock_accepted {d : Device} {i : Nat} (hstate : d.lc.state = 1) (htest : d.pins.testEn = true) (hclean : d.lc.mismatch = false)
    (hnext : nextToken d = some i) (htoken : shake256 d.lc.token 32 = tokenHash d i) (hburn : canBurn d = true) :
    unlock d = modLc (fun l => { l with burn := some (6 + i, 1) }) (lcResult 2 0 0 d) := by
  simp [unlock, hstate, htest, hclean, hnext, htoken, hburn]

/-! ### A burn ends (R525, R529) -/

theorem ptSettle_lc (was : Bool) (d : Device) : (ptSettle was d).lc = d.lc := by
  unfold ptSettle
  split
  · exact event_same (·.lc) (fun _ _ _ => rfl) ..
  · rfl

/-- What a completed burn does besides leaves the wipe as it is. -/
theorem burnEnds_wipe (w v old : Nat) (d : Device) : (burnEnds w v old d).lc.wipe = d.lc.wipe := by
  unfold burnEnds
  split
  · split
    · rfl
    · exact (congrArg (·.wipe) (ptSettle_lc ..)).trans (event_same (·.lc.wipe) (fun _ _ _ => rfl) ..)
  · split <;> exact event_same (·.lc.wipe) (fun _ _ _ => rfl) ..

/-- The stage word of a state puts the device into it (R529). -/
theorem burnEnds_stage {w v old st x : Nat} {d : Device} (hword : stageWords.find? (fun s => s.1 == w) = some (w, x, st))
    (hwipe : d.lc.wipe = none) : (burnEnds w v old d).lc = { d.lc with state := st } := by
  have hends : burnEnds w v old d =
      ptSettle (ptAllowed d) (event 0x0301 3 [d.lc.state, st, 0, 0] (modLc (fun l => { l with state := st }) d)) := by
    simp [burnEnds, hword, hwipe]
  rw [hends, ptSettle_lc]
  exact event_same (·.lc) (fun _ _ _ => rfl) ..

/-- The bits of a burn that has completed. -/
def burned (w v : Nat) (d : Device) : Device := modLc (fun l => { l with burn := none }) (burnBits w v d)

theorem otpWord_burned (w v : Nat) (d : Device) : otpWord (burned w v d) w = otpWord d w ||| v :=
  (otpWord_burnBits w v d w).trans (if_pos rfl)

/-- An OTP word is a function of the burned bits. -/
theorem otpWord_congr {d e : Device} (h : e.lc.otp = d.lc.otp) (w : Nat) : otpWord e w = otpWord d w := by
  simp [otpWord, h]

section
variable {d : Device} {w v : Nat} (hburn : d.lc.burn = some (w, v))
include hburn

/-- Without main power only the bits are burned. -/
theorem otpBurnDoneEffect_down (hdown : mainUp d = false) : otpBurnDoneEffect d = burned w v d := by
  simp only [otpBurnDoneEffect, hburn]
  exact if_pos (congrArg (!·) hdown)

theorem otpBurnDoneEffect_up (hmain : mainUp d = true) (hwipe : d.lc.wipe = none) :
    otpBurnDoneEffect d = burnEnds w v (otpWord d w) (burned w v d) := by
  simp only [otpBurnDoneEffect, hburn]
  refine (if_neg (Bool.eq_false_iff.mp (congrArg (!·) hmain))).trans (if_neg ?_)
  rw [burnEnds_wipe]
  simp [modLc, burnBits, hwipe]

/-- With a wipe a MAIN reset of cause 5 follows (R530). -/
theorem otpBurnDoneEffect_wiped {t : Nat} (hmain : mainUp d = true) (hwipe : d.lc.wipe = some t) :
    otpBurnDoneEffect d = mainReset 5 (burnEnds w v (otpWord d w) (burned w v d)) := by
  simp only [otpBurnDoneEffect, hburn]
  refine (if_neg (Bool.eq_false_iff.mp (congrArg (!·) hmain))).trans (if_pos ?_)
  rw [burnEnds_wipe]
  simp [modLc, burnBits, hwipe]

end

theorem otpBurnDoneEffect_none {d : Device} (hnone : d.lc.burn = none) : otpBurnDoneEffect d = d := by
  simp only [otpBurnDoneEffect, hnone]

/-- What the MAIN reset after a wipe leaves (R530). -/
theorem mainReset_wipe (d : Device) : (mainReset 5 d).power.mainCause = 5 ∧ (mainReset 5 d).lc.otp = d.lc.otp ∧
    (mainReset 5 d).tx = {} ∧ (mainReset 5 d).kv = {} := by
  have hreset : mainReset 5 d = powerGood (mainDown 5 .standby d) := rfl
  have hcleared : (powerGood (mainDown 5 .standby d)).tx = {} ∧ (powerGood (mainDown 5 .standby d)).kv = {} := by
    unfold powerGood
    split <;> simp
  obtain ⟨st, hpower⟩ := powerGood_power (mainDown 5 .standby d)
  refine ⟨?_, by simp, hreset ▸ hcleared.1, hreset ▸ hcleared.2⟩
  rw [hreset, hpower]
  simp

/-! ### The wipe ends (R530) -/

theorem zeroRegions_mem (rs : List (Nat × Nat)) (d : Device) :
    (zeroRegions rs d).mem = rs.foldl (fun m r => memFill m r.1 r.2 0) d.mem := rfl

theorem lifeCycleWipeDoneEffect_burns {d : Device} {t : Nat} (hwipe : d.lc.wipe = some t) (hnone : d.lc.burn = none) (hburn : canBurn d = true) :
    (lifeCycleWipeDoneEffect d).lc.burn = stageOf t ∧ (lifeCycleWipeDoneEffect d).lc.wipe = some t ∧
      (t = 7 → (lifeCycleWipeDoneEffect d).bat.seeds = d.bat.seeds ∧ (lifeCycleWipeDoneEffect d).bat.alarms = 0) ∧
      (lifeCycleWipeDoneEffect d).mem = (wipeRegions t).foldl (fun m r => memFill m r.1 r.2 0) d.mem := by
  by_cases hscrap : t = 7
  · have heffect : lifeCycleWipeDoneEffect d = modLc (fun l => { l with burn := stageOf t })
        { zeroRegions (wipeRegions t) d with bat := clearBbram (zeroRegions (wipeRegions t) d).bat } := by
      simp only [lifeCycleWipeDoneEffect, hwipe, hnone, Option.isSome_none, Bool.false_eq_true, if_false, if_pos hscrap]
      exact if_pos hburn
    rw [heffect]
    exact ⟨rfl, hwipe, fun _ => ⟨rfl, rfl⟩, by simp only [modLc, zeroRegions_mem]⟩
  · have heffect : lifeCycleWipeDoneEffect d = modLc (fun l => { l with burn := stageOf t }) (zeroRegions (wipeRegions t) d) := by
      simp only [lifeCycleWipeDoneEffect, hwipe, hnone, Option.isSome_none, Bool.false_eq_true, if_false, if_neg hscrap]
      exact if_pos hburn
    rw [heffect]
    exact ⟨rfl, hwipe, fun h => absurd h hscrap, by simp only [modLc, zeroRegions_mem]⟩

theorem lifeCycleWipeDoneEffect_none {d : Device} (hnone : d.lc.wipe = none) : lifeCycleWipeDoneEffect d = d := by
  simp only [lifeCycleWipeDoneEffect, hnone]

/-! ### Test modes (R535, R536) -/

section
variable {d : Device} {v : Word} (hmay : MayWrite d 0 2)
include hmay

theorem lcTestWrite_ignored (hmodes : testModes d = false) (f : Device → Device) : lcTestWrite 0 v f d = d :=
  (onlyHart_may hmay ..).trans ((if_pos rfl).trans (if_neg (by simp [hmodes])))

section
variable (hmodes : testModes d = true)
include hmodes

/-- With the test modes on a write of LC_TEST sets its fields and what it sets off. -/
theorem lcTestWrite_set (f : Device → Device) : lcTestWrite 0 v f d =
    f (modLc (fun l => { l with scanAllow := bit v 0, mbistTarget := field v 2 3, mramTest := bit v 7 }) d) :=
  (onlyHart_may hmay ..).trans ((if_pos rfl).trans (if_pos hmodes))

theorem scanAllowEffect_set (hmram : bit v 7 = false) (hgo : bit v 1 = false) : scanAllowEffect 0 v d =
    modLc (fun l => { l with scanAllow := bit v 0, mbistTarget := field v 2 3, mramTest := false }) d := by
  simp only [scanAllowEffect, lcTestWrite_set hmay hmodes, testActions, hmram, hgo, Bool.false_and, Bool.false_eq_true, if_false]

theorem mbistGoEffect_starts (hmram : bit v 7 = false) (hgo : bit v 1 = true) (hidle : d.lc.mbistRunning = false) :
    mbistGoEffect 0 v d = modLc (fun l => { l with
      scanAllow := bit v 0, mbistTarget := field v 2 3, mramTest := false, mbistRunning := true, mbistDone := false, mbistFail := false }) d := by
  simp only [mbistGoEffect, lcTestWrite_set hmay hmodes, testActions, hmram, hgo, Bool.false_and, Bool.false_eq_true, if_false, if_true]
  exact if_neg (by simp [modLc, hidle])

theorem mramTestEffect_tests (hmram : bit v 7 = true) (hgo : bit v 1 = false) (hidle : d.lc.mramTest = false) :
    mramTestEffect 0 v d =
      mramTested (modLc (fun l => { l with scanAllow := bit v 0, mbistTarget := field v 2 3, mramTest := true }) d) := by
  simp only [mramTestEffect, lcTestWrite_set hmay hmodes, testActions, hmram, hgo, hidle, Bool.not_false, Bool.and_self,
    Bool.false_eq_true, if_false, if_true]

end

end

/-- TEST_EN's fall ends the test modes of the test states (R535). -/
theorem testEnFallEffect_ends {d : Device} (hmain : mainUp d = true) (hstate : within 1 2 d.lc.state = true)
    (hmbist : d.lc.mbistRunning = false) (hscan : d.lc.scanning = false) :
    testEnFallEffect d = modLc (fun l => { l with
      scanAllow := false, mbistTarget := 0, mbistRunning := false, mbistDone := false, mbistFail := false, mramTest := false })
      { d with pins := { d.pins with testEn := false } } := by
  simp [testEnFallEffect, hmain, hstate, hmbist, hscan, modLc]

theorem testEnFallEffect_level {d : Device} (h : mainUp d = false ∨ within 1 2 d.lc.state = false) :
    testEnFallEffect d = { d with pins := { d.pins with testEn := false } } :=
  if_pos (by rcases h with h | h <;> simp [h])

/-- Settles O54, from what each life-cycle command, the end of a burn and of a wipe, and the test modes do. -/
theorem lifeCycle : Obligations.LifeCycle := by
  unfold Obligations.LifeCycle
  refine ⟨fun s t hmay hfree hrow => exec_next rfl (lcTransitionEffect_noRow hmay hfree hrow),
    fun s t o i ps hmay hfree hrow hfailed => exec_next rfl (lcTransitionEffect_failed hmay hfree hrow hfailed),
    fun s t ps hmay hfree hrow hmet hburn => exec_next rfl (lcTransitionEffect_noHoldup hmay hfree hrow hmet hburn),
    fun s t ps hmay hfree hrow hmet hburn hlow =>
      exec_next rfl ((lcTransitionEffect_begins hmay hfree hrow hmet hburn).trans (transitionBegins_burns hlow)),
    fun s t ps hmay hfree hrow hmet hburn hhigh => ⟨_, exec_next rfl (lcTransitionEffect_begins hmay hfree hrow hmet hburn), ?_⟩,
    fun s t code hmay hbusy => ⟨exec_next rfl (lcTransitionEffect_busy hmay hbusy), exec_next rfl (lcCommand_busy hmay hbusy ..),
      exec_next rfl (lcCommand_busy hmay hbusy ..), exec_next rfl (lcCommand_busy hmay hbusy ..)⟩,
    fun s code hmay hfree => exec_next rfl (lcCommand_hart0 hmay hfree ..),
    fun s hmay hfree => exec_next rfl (lcCommand_hart0 hmay hfree ..),
    fun d w => otpRead_hidden,
    fun s o hmay hfree hout => ?_,
    fun d w v => ⟨burnOutcome_state, burnOutcome_burned⟩,
    fun s hmay hfree => exec_next rfl (lcUnlockEffect_free hmay hfree),
    fun d => ⟨fun hstate => if_pos (by simp [hstate]), fun hstate htest => (if_neg (by simp [hstate])).trans (if_pos (by simp [htest])),
      fun i => unlock_accepted⟩,
    fun s h t hmay hother => ⟨exec_same rfl (onlyHart0_other hmay hother ..), exec_same rfl (lcCommand_other hmay hother ..),
      exec_same rfl (lcCommand_other hmay hother ..), exec_same rfl (onlyHart0_other hmay hother ..)⟩,
    fun s w v hburn hdown => ⟨_, exec_next rfl (otpBurnDoneEffect_down hburn hdown), rfl, otpWord_burned .., rfl⟩,
    fun s w v st hburn hmain hwipe hword => ⟨_, exec_next rfl (otpBurnDoneEffect_up hburn hmain hwipe), ?_⟩,
    fun s w v t hburn hmain hwipe hstage => ⟨_, exec_next rfl (otpBurnDoneEffect_wiped hburn hmain hwipe), ?_⟩,
    fun s hnone => exec_same rfl (otpBurnDoneEffect_none hnone),
    fun s t hwipe hnone hburn => ⟨_, exec_next rfl rfl, lifeCycleWipeDoneEffect_burns hwipe hnone hburn⟩,
    fun s hnone => exec_same rfl (lifeCycleWipeDoneEffect_none hnone),
    fun s v hmay hmodes hmram hgo => exec_next rfl (scanAllowEffect_set hmay hmodes hmram hgo),
    fun s v hmay hmodes hmram hgo hidle => exec_next rfl (mbistGoEffect_starts hmay hmodes hmram hgo hidle),
    fun s v hmay hmodes hmram hgo hidle => exec_next rfl (mramTestEffect_tests hmay hmodes hmram hgo hidle),
    fun s v hmay hmodes => ⟨exec_same rfl (lcTestWrite_ignored hmay hmodes _), exec_same rfl (lcTestWrite_ignored hmay hmodes _),
      exec_same rfl (lcTestWrite_ignored hmay hmodes _)⟩,
    fun s f hruns hmbist => exec_next rfl (if_pos (by simp [hruns, hmbist])),
    fun s f hidle => exec_same rfl (if_neg (by simp [hidle])),
    fun s hscan hmain => exec_next rfl (if_pos (by simp [hscan, hmain])),
    fun s hidle => exec_same rfl (if_neg (by simp [hidle])),
    fun s h => exec_next rfl (testEnFallEffect_level h),
    fun s hmain hstate hmbist hscan => exec_next rfl (testEnFallEffect_ends hmain hstate hmbist hscan),
    fun s => exec_next rfl rfl⟩
  · obtain ⟨hgates, hroots, hslots, hlc⟩ := transitionBegins_wipes (d := s.dev) hhigh
    have hnone : s.dev.lc.burn = none := by
      simp only [lcBusy, Bool.or_eq_false_iff, Option.isSome_eq_false_iff, Option.isNone_iff_eq_none] at hfree
      exact hfree.1
    exact ⟨congrArg (·.wipe) hlc, (congrArg (·.burn) hlc).trans hnone, congrArg (·.state) hlc, hgates, hroots, hslots, congrArg (·.otp) hlc⟩
  · subst hout
    exact exec_next rfl (lcBurnWordEffect_hart0 hmay hfree rfl rfl)
  · have hlc := burnEnds_stage (v := v) (old := otpWord s.dev w) (d := burned w v s.dev) hword hwipe
    exact ⟨congrArg (·.state) hlc, congrArg (·.burn) hlc,
      (otpWord_congr (congrArg (·.otp) hlc) w).trans (otpWord_burned ..), (burnEnds_kept ..).1⟩
  · obtain ⟨hcause, hotp, htx, hkv⟩ := mainReset_wipe (burnEnds w v (otpWord s.dev w) (burned w v s.dev))
    exact ⟨hcause, (otpWord_congr (hotp.trans (burnEnds_kept ..).2.1) w).trans (otpWord_burned ..), htx, hkv⟩

end Sys2Proof.Machine
end

section
/-! PROOFS. The ticket booth (spec/19_life_cycle_and_debug.md, R539–R547). -/

namespace Sys2Proof.Machine

open Sys2Proof

/-! ### A booth command by a hart -/

/-- A booth command of the hart that owns it has its effect (R539). -/
theorem boothWrite_owner {d : Device} {h : Hart} (hmay : MayWrite d h 17) {owner : Nat} (howner : h.val = owner) (addr : Nat)
    (f : Device → Device) : boothWrite owner (.hart h) addr f d = f d :=
  (onlyHart_may hmay ..).trans (if_pos howner)

/-- Another hart's has none. -/
theorem boothWrite_other {d : Device} {h : Hart} (hmay : MayWrite d h 17) {owner : Nat} (hother : h.val ≠ owner) (addr : Nat)
    (f : Device → Device) : boothWrite owner (.hart h) addr f d = d :=
  (onlyHart_may hmay ..).trans (if_neg hother)

/-! ### Challenges and tickets (R540–R543) -/

section
variable {d : Device}

theorem issueChallenge_nonce (hentropy : d.kv.entropyOk = true) :
    (issueChallenge d).db.nonce = some (freeBytes d 32) ∧ (issueChallenge d).db.chal = challengeBytes d (freeBytes d 32) ∧
      (issueChallenge d).db.armed = none ∧ (issueChallenge d).db.level = d.db.level := by
  have hissued : issueChallenge d = tookFree 32 (modDb (fun b =>
      { b with nonce := some (freeBytes d 32), chal := challengeBytes d (freeBytes d 32), armed := none }) d) :=
    if_neg (by simp [hentropy])
  rw [hissued]
  exact ⟨rfl, rfl, rfl, rfl⟩

theorem issueChallenge_noEntropy (hentropy : d.kv.entropyOk = false) :
    issueChallenge d = modDb (fun b => { b with lastResult := 9 }) d := if_pos (by simp [hentropy])

theorem ticketFails_db (src result : Nat) (t : List Byte) (d : Device) :
    (ticketFails src result t d).db = { d.db with lastResult := result, checking := none } :=
  event_same (·.db) (fun _ _ _ => rfl) ..

/-- A ticket whose fields refuse it has that result, and consumes the challenge (R543). -/
theorem submitTicket_refused {src : Nat} {t : List Byte} (hfree : d.db.checking = none) (hbad : ticketFields d t ≠ 0) :
    (submitTicket src t d).db.nonce = none ∧ (submitTicket src t d).db.lastResult = ticketFields d t ∧
      (submitTicket src t d).db.level = d.db.level ∧ (submitTicket src t d).db.checking = none := by
  have hfails : submitTicket src t d = ticketFails src (ticketFields d t) t (modDb (fun b => { b with
      nonce := none, chal := zeros 64, lastKeyKind := if ticketFormOk t then sigKind (ticketSig t) else 0
      lastKeySlot := if ticketFormOk t then sigSlot (ticketSig t) % 8 else 0 }) d) :=
    (if_neg (by simp [hfree])).trans (if_pos hbad)
  rw [hfails, ticketFails_db]
  exact ⟨rfl, rfl, rfl, rfl⟩

/-- Any other is checked by its verify job. -/
theorem submitTicket_checked {src : Nat} {t : List Byte} (hfree : d.db.checking = none) (hgood : ticketFields d t = 0) :
    (submitTicket src t d).db.nonce = none ∧ (submitTicket src t d).db.checking = some (src, t) ∧
      (submitTicket src t d).db.level = d.db.level := by
  simp [submitTicket, hfree, hgood, modDb]

theorem ticketFields_noChallenge {t : List Byte} (hform : ticketFormOk t = true) (hserial : bufLe t 8 8 ≠ 0)
    (hthis : bufLe t 8 8 = serialNo d) (hnone : d.db.nonce = none) : ticketFields d t = 3 :=
  (if_neg (by simp [hform])).trans ((if_neg (not_or.mpr ⟨hserial, Classical.not_not.mpr hthis⟩)).trans (if_pos (by simp [hnone])))

/-- The end of the booth's verify job, with the events of its code (R321, R543). -/
theorem ticketVerifyDoneEffect_ends {src u : Nat} {t : List Byte} (hruns : mainRuns d = true) (hchecking : d.db.checking = some (src, t))
    (hunit : boothUnit d = some u) {e : Device}
    (he : e = events (jobEvents (boothJob t) u (ticketCode d t))
      { d with sg := startJobs { d.sg with units := vmod d.sg.units u (fun x => { x with job := none }) } }) :
    ticketVerifyDoneEffect d =
      if ticketCode d t = 0 then ticketPasses t e else ticketFails src (ticketVerdict (ticketCode d t)) t e := by
  subst he
  simp only [ticketVerifyDoneEffect, hchecking, hruns, hunit, Bool.not_true, Bool.false_eq_true, if_false]

/-- A job that the engine dropped is an engine fault. -/
theorem ticketVerifyDoneEffect_dropped {src : Nat} {t : List Byte} (hruns : mainRuns d = true)
    (hchecking : d.db.checking = some (src, t)) (hunit : boothUnit d = none) (hqueue : boothQueued d = false) :
    ticketVerifyDoneEffect d = ticketFails src 8 t d := by
  simp only [ticketVerifyDoneEffect, hchecking, hruns, hunit, hqueue, Bool.not_true, Bool.false_eq_true, if_false]

theorem ticketVerifyDoneEffect_none (hnone : d.db.checking = none) : ticketVerifyDoneEffect d = d := by
  simp only [ticketVerifyDoneEffect, hnone]

/-! ### Levels (R544–R547) -/

/-- The vault's slots are gone, and the booth is in a state of its own. -/
def SlotsGone (b : Booth) (d : Device) : Prop := d.kv.slots = [] ∧ d.db = b

/-- No failing domain undoes it. -/
theorem slotsGone_servingKeeps (b : Booth) : ServingKeeps (SlotsGone b) where
  event d code sev ps := fun ⟨hslots, hdb⟩ => ⟨by simpa using hslots, by simpa using hdb⟩
  gateHeld _ _ h := h
  rungDropped d n := fun ⟨hslots, hdb⟩ => ⟨by simp [dropSlot, hslots], hdb⟩
  rest _ _ _ _ _ _ _ _ h := h

theorem SlotsGone.modDb {b : Booth} (h : SlotsGone b d) (f : Booth → Booth) : SlotsGone (f b) (modDb f d) :=
  ⟨h.1, congrArg f h.2⟩

/-- VAULT_LOCK clears every slot and sets VaultLocked (R545). -/
theorem vaultLock_slotsGone (d : Device) : SlotsGone { d.db with vaultLocked := true } (vaultLock d) := by
  have hgone := (slotsGone_servingKeeps d.db).vaultGone (d := { d with kv := { d.kv with slots := [] } }) ⟨rfl, rfl⟩
  exact hgone.modDb fun b => { b with vaultLocked := true }

/-- What a level that opens does besides its event: the level, and WMK6. -/
theorem openLevel_same {β : Type} (p : Device → β) (hp : ∀ (e : Device) ev bat ms, p { e with ev := ev, bat := bat, measures := ms } = p e)
    (v k n : Nat) (g : List Byte) (d : Device) :
    p (openLevel v k n g d) = p (modDb (fun b => { b with level := max d.db.level v })
      (if 2 ≤ v ∧ within lcManufactured lcField d.lc.state = true then vaultLock d else d)) :=
  (event_same p (fun e ev bat => hp e ev bat e.measures) ..).trans (hp _ _ _ _)

theorem openLevel_level (v k n : Nat) (g : List Byte) (d : Device) : (openLevel v k n g d).db.level = max d.db.level v :=
  openLevel_same (·.db.level) (fun _ _ _ _ => rfl) ..

/-- Levels 2 and 3 lock the vault in Manufactured, Provisioned and Field (R545). -/
theorem openLevel_locks {v : Nat} (k n : Nat) (g : List Byte) (hlevel : 2 ≤ v) (hstate : within lcManufactured lcField d.lc.state = true) :
    (openLevel v k n g d).kv.slots = [] ∧ (openLevel v k n g d).db.vaultLocked = true := by
  obtain ⟨hslots, hdb⟩ := vaultLock_slotsGone d
  refine ⟨(openLevel_same (·.kv.slots) (fun _ _ _ _ => rfl) ..).trans ?_,
    (openLevel_same (·.db.vaultLocked) (fun _ _ _ _ => rfl) ..).trans ?_⟩
  · rw [if_pos ⟨hlevel, hstate⟩]
    exact hslots
  · rw [if_pos ⟨hlevel, hstate⟩]
    exact congrArg (·.vaultLocked) hdb

theorem ptSettle_db (was : Bool) (d : Device) : (ptSettle was d).db = d.db := by
  unfold ptSettle
  split
  · exact event_same (·.db) (fun _ _ _ => rfl) ..
  · rfl

/-- Close ends the level and lets the harts go (R547). -/
theorem closeDebug_db (src : Nat) (d : Device) :
    (closeDebug src d).db = { d.db with level := 0, halted := 0, stepping := 0, haltOnReset := false } :=
  (ptSettle_db ..).trans (event_same (·.db) (fun _ _ _ => rfl) ..)

theorem dbRequestEffect_opens {n : Nat} (hruns : mainRuns d = true) (hstate : d.lc.state ≤ 2) (hlo : 1 ≤ n) (hhi : n ≤ 3) :
    dbRequestEffect n d = openLevel n 0 0 (zeros 32) d :=
  if_pos (by simp [hruns, requestAccepted, hstate, within, hlo, hhi])

theorem dbRequestEffect_refused {n : Nat} (h : 2 < d.lc.state ∨ n = 0) : dbRequestEffect n d = d :=
  if_neg (by
    rcases h with hstate | hzero
    · simp [requestAccepted, Nat.not_le.mpr hstate]
    · simp [requestAccepted, within, hzero])

/-- A word at the pointer of the ticket buffer (R541). -/
theorem ticketWord_stored {v : Word} (hroom : d.db.tktPtr + 4 ≤ 5344) : ticketWord v d = modDb (fun b => { b with
    ticket := b.ticket.take b.tktPtr ++ leBytes 4 v.toNat ++ b.ticket.drop (b.tktPtr + 4), tktPtr := (b.tktPtr + 4) % 0x2000 }) d := by
  simp only [ticketWord, modDb, if_pos hroom]

end

/-- Settles O55, from what a challenge, a ticket, its verdict, a level and Close do. -/
theorem ticketBooth : Obligations.TicketBooth := by
  unfold Obligations.TicketBooth
  refine ⟨fun s hmay => exec_next rfl (boothWrite_owner hmay rfl ..),
    fun s hruns => ⟨exec_next rfl (if_pos hruns), exec_next rfl (if_pos hruns)⟩,
    fun d => issueChallenge_nonce, fun d => issueChallenge_noEntropy,
    fun s hmay => exec_next rfl (boothWrite_owner hmay rfl ..),
    fun d src t => submitTicket_refused, fun d src t => submitTicket_checked, fun d t => ticketFields_noChallenge,
    fun s src u t hruns hchecking hunit => ⟨_, exec_next rfl (ticketVerifyDoneEffect_ends hruns hchecking hunit rfl), rfl⟩,
    fun v => rfl,
    fun s src t hruns hchecking hunit hqueue => exec_next rfl (ticketVerifyDoneEffect_dropped hruns hchecking hunit hqueue),
    fun s hnone => exec_same rfl (ticketVerifyDoneEffect_none hnone),
    fun d v k n g => ⟨openLevel_level .., openLevel_locks k n g⟩,
    fun s hmay => exec_next rfl (boothWrite_owner hmay rfl ..),
    fun d src => ⟨congrArg (·.level) (closeDebug_db ..), congrArg (·.halted) (closeDebug_db ..), congrArg (·.haltOnReset) (closeDebug_db ..)⟩,
    fun s n hruns hstate hlo hhi => exec_next rfl (dbRequestEffect_opens hruns hstate hlo hhi),
    fun s n h => exec_same rfl (dbRequestEffect_refused h),
    fun s v hmay hroom => exec_next rfl ((boothWrite_owner hmay rfl ..).trans (ticketWord_stored hroom)),
    fun s h v hmay hother => ?_⟩
  have hval : h.val ≠ 3 := fun e => hother (Fin.ext e)
  exact ⟨exec_same rfl (boothWrite_other hmay hval ..), exec_same rfl (boothWrite_other hmay hval ..),
    exec_same rfl (boothWrite_other hmay hval ..)⟩

end Sys2Proof.Machine
end

section
/-! PROOFS. The JTAG port (spec/19_life_cycle_and_debug.md, R536, R538, R539, R548). -/

namespace Sys2Proof.Machine

open Sys2Proof

/-! ### The debug transport (R538) -/

section
variable {d : Device} {h : Hart}

section
variable (hruns : mainRuns d = true)
include hruns

theorem dmiOp_halt (hlevel : 1 ≤ d.db.level) : dmiOp (.halt h) d = modDb (fun b => { b with halted := setBit b.halted h }) d :=
  if_pos (by simp [debugOpen, hruns, hlevel])

theorem dmiOp_resume (hlevel : 1 ≤ d.db.level) (hfree : hasBit d.db.stepping h = false) :
    dmiOp (.resume h) d = modDb (fun b => { b with halted := clrBit b.halted h }) d :=
  if_pos (by simp [debugOpen, hruns, hlevel, hfree])

/-- From level 2 up a halted hart's memory is written as by its own store. -/
theorem dmiOp_writeMem {a : Nat} {v : Word} (hlevel : 2 ≤ d.db.level) (hhalted : hasBit d.db.halted h = true) :
    dmiOp (.writeMem h a v) d = hartStore h 4 a (v.setWidth 64) d :=
  if_pos (by simp [debugHart, debugOpen, hruns, hlevel, hhalted])

theorem dmiOp_readMem {a : Nat} (hlevel : 1 ≤ d.db.level) (hhalted : hasBit d.db.halted h = true) :
    dmiOp (.readMem h a) d = debugRead h a d :=
  if_pos (by simp [debugHart, debugOpen, hruns, hlevel, hhalted])

end

/-- Below an operation's level the debug transport is closed. -/
theorem debugOpen_below {n : Nat} (hbelow : d.db.level < n) : debugOpen d n = false := by
  simp [debugOpen, hbelow]

theorem debugHart_below {n : Nat} (hbelow : d.db.level < n) : debugHart d h n = false := by
  simp [debugHart, debugOpen_below hbelow]

/-- There a read gives zero, and nothing is written. -/
theorem dmiOp_closed {no a : Nat} {v : Word} (hzero : d.db.level = 0) :
    dmiOp (.halt h) d = d ∧ dmiOp (.readReg h no v) d = replyWord 0 d ∧ dmiOp (.readMem h a) d = replyWord 0 d ∧
      dmiOp (.writeMem h a v) d = d ∧ dmiOp (.haltOnReset true) d = d := by
  have hopen (n : Nat) (hn : 0 < n) : debugOpen d n = false := debugOpen_below (by omega)
  have hhart (n : Nat) (hn : 0 < n) : debugHart d h n = false := debugHart_below (by omega)
  simp [dmiOp, hopen, hhart]

theorem dmiOp_writeMem_below {a : Nat} {v : Word} (hlevel : d.db.level = 1) : dmiOp (.writeMem h a v) d = d :=
  if_neg (by simp [debugHart_below (d := d) (h := h) (n := 2) (by omega)])

end

/-! ### BOOTH and the scan instructions (R536, R539) -/

section
variable {d : Device} {i : Nat} {v : Word} (hmain : mainUp d = true)
include hmain

/-- A read of a booth word has it in the BOOTH data register. -/
theorem boothAccessEffect_read :
    (boothAccessEffect 1 i v d).jtag.boothData = (dbReg d (4 * i)).getD 0 ∧ (boothAccessEffect 1 i v d).db = d.db ∧
      (boothAccessEffect 1 i v d).mem = d.mem ∧ (boothAccessEffect 1 i v d).jtag.ir = 0x14 := by
  have hread : boothAccessEffect 1 i v d =
      reply (boothCapture (boothOp 1 i v (selectIr 0x14 d))) (boothOp 1 i v (selectIr 0x14 d)) := if_neg (by simp [hmain])
  rw [hread]
  exact ⟨rfl, rfl, rfl, rfl⟩

theorem boothAccessEffect_write : boothAccessEffect 2 i v d =
    reply (boothCapture (dbWrite .booth (4 * i) v (selectIr 0x14 d))) (dbWrite .booth (4 * i) v (selectIr 0x14 d)) :=
  if_neg (by simp [hmain])

end

theorem privateTestInstructionEffect_scans {d : Device} {ir : Nat} (hlo : 0x18 ≤ ir) (hhi : ir ≤ 0x1E) (hruns : mainRuns d = true)
    (hmodes : testModes d = true) (hallow : d.lc.scanAllow = true) :
    privateTestInstructionEffect ir d = modLc (fun l => { l with scanning := true }) (selectIr ir d) :=
  if_pos (by simp [within, hlo, hhi, hruns, hmodes, hallow])

theorem privateTestInstructionEffect_bypass {d : Device} {ir : Nat} (h : d.lc.scanAllow = false ∨ testModes d = false) :
    privateTestInstructionEffect ir d = selectIr 0x1F d :=
  if_neg (by rcases h with h | h <;> simp [h])

/-- Settles O56, instruction by instruction. -/
theorem jtagPort : Obligations.JtagPort := by
  unfold Obligations.JtagPort
  refine ⟨fun s => exec_next rfl rfl, fun s cells => exec_next rfl rfl, fun s cells hstate => exec_next rfl (if_pos hstate),
    fun s cells hstate => exec_next rfl (if_neg (by omega)), fun s => exec_next rfl rfl, fun s => exec_next rfl rfl,
    fun s h hruns hlevel => ⟨exec_next rfl (dmiOp_halt (d := selectIr 0x11 s.dev) hruns hlevel),
      fun hfree => exec_next rfl (dmiOp_resume (d := selectIr 0x11 s.dev) hruns hlevel hfree)⟩,
    fun s h no v a hzero => ?_,
    fun s h a v hlevel => exec_next rfl (dmiOp_writeMem_below (d := selectIr 0x11 s.dev) hlevel),
    fun s h a v hruns hlevel hhalted => ⟨exec_next rfl (dmiOp_writeMem (d := selectIr 0x11 s.dev) hruns hlevel hhalted),
      exec_next rfl (dmiOp_readMem (d := selectIr 0x11 s.dev) hruns (Nat.le_of_succ_le hlevel) hhalted)⟩,
    fun s op i v hdown => exec_next rfl (if_pos (by simp [hdown])),
    fun s i v hmain => ⟨_, exec_next rfl rfl, boothAccessEffect_read hmain⟩,
    fun s i v hmain => exec_next rfl (boothAccessEffect_write hmain),
    fun s ir hlo hhi hruns hmodes hallow => exec_next rfl (privateTestInstructionEffect_scans hlo hhi hruns hmodes hallow),
    fun s ir h => exec_next rfl (privateTestInstructionEffect_bypass h)⟩
  obtain ⟨hhalt, hreg, hmem, hwrite, hreset⟩ := dmiOp_closed (d := selectIr 0x11 s.dev) (h := h) (no := no) (a := a) (v := v) hzero
  exact ⟨exec_next rfl hhalt, exec_next rfl hreg, exec_next rfl hmem, exec_next rfl hwrite, exec_next rfl hreset⟩

end Sys2Proof.Machine
end
